-- ==== Sys2Proof/Word.lean ====
section
/-!
DEFINITION. The word types of the VX-3200 model and the sparse tables its state is made of.
Registers and host-memory structures are little-endian (R4); the byte-order helpers stand in
`Machine/Ops.lean`, where a repair can mend them.
-/

namespace Sys2Proof

/-- One byte. -/
abbrev Byte := BitVec 8

/-- A general register of a Dreko thread (R327). -/
abbrev Word := BitVec 64

/-- A vector register, which is also one line beat (R307, R328). -/
abbrev Vec := BitVec 512

/-- A sparse table: the entries that differ from what an unlisted key reads as, in rising key order. -/
abbrev Tbl (α : Type) := List (Nat × α)

/-- Sparse byte memory (a list of `Host.Cell`). -/
abbrev Memory := Tbl Byte

end Sys2Proof
end

