-- ==== Sys2Proof/Config.lean ====
section
/-!
DEFINITION. What an implementation fixes and the spec leaves open. Every value below is opaque: no
proof can see it, so a claim holds whatever it is. Each is named in the assumption log.
-/

namespace Sys2Proof.Config

/-- A fresh value that only the strongroom's generator or a private key determines (a nonce, a key, a
signature): the `k`-th draw, as a number below 2^512. DESIGN CHOICE, log entry 3. -/
opaque secret : Nat → BitVec 512

/-- A value the spec leaves open after a command that goes on: the `k`-th such value. DESIGN CHOICE, log entry 3. -/
opaque freeValue : Nat → BitVec 64

/-- A signature over a message verifies under the public key that has this hash: an unlock token names no key, and the fuses hold its hash
alone (R386), so how the strongroom comes by the key is left open. DESIGN CHOICE, log entry 18. -/
opaque verifies : List Byte → List Byte → List Byte → Bool

/-- The device-unique secret (R353): only the key derivation engine reads it. DESIGN CHOICE, log entry 17. -/
opaque uds : BitVec 256

/-- What an issuer's key signs when it certifies a subject's key, and the certificate with that signature (R362): the manual gives no
certificate format. DESIGN CHOICE, log entry 81. -/
opaque toBeSigned : List Byte → List Byte → List Byte

/-- The certificate of an issuer's key, a subject's key and the issuer's signature (R362). DESIGN CHOICE, log entry 81. -/
opaque certificate : List Byte → List Byte → List Byte → List Byte

/-- The public key that a certificate certifies (R362). DESIGN CHOICE, log entry 81. -/
opaque certKey : List Byte → List Byte

/-- Capability bytes of the SPDM responder that only its standard fixes: the CAPABILITIES body behind the header (R69). DESIGN CHOICE, log
entry 41. -/
opaque spdmCapabilities : List Byte

/-- The ID of the 128.0 GT/s physical layer capability (R43), which the standard assigns. DESIGN CHOICE, log entry 2. -/
opaque physical128Id : BitVec 16

/-- A knot's epoch holds a fixity record: SEAL_ACCEPT brings the knot and no log, so how the device checks the handover record is
left open (R443). DESIGN CHOICE, log entry 39. -/
opaque holdsRecord : List Byte → List Byte → Bool

/-- SHA-384 of the strongroom ROM (R359): the manual gives no ROM contents. DESIGN CHOICE, log entry 3. -/
opaque romDigest : List Byte

/-- A record of a cluster's trace buffer as DBG_LEDGER returns it (R320, R580), from thread, kind, pc and clock: the manual gives its
contents and no layout. 1 MiB for 65,536 records makes 16 B each. DESIGN CHOICE, log entry 51. -/
opaque traceRecord : Nat → Nat → Nat → Nat → BitVec 128

/-- The PLDM terminus ID (R97): the manual gives none. DESIGN CHOICE, log entry 57. -/
opaque pldmTid : Byte

/-- The version bytes and checksum that GetPLDMVersion returns for a PLDM type (R97). DESIGN CHOICE, log entry 57. -/
opaque pldmVersion : Nat → List Byte

/-- The data transfer timeout that GetPDRRepositoryInfo returns (R97). DESIGN CHOICE, log entry 57. -/
opaque pldmTimeout : Byte

/-- Byte `off` after the common header of a sensor's descriptor record (R97), where the manual gives no value: entity, accuracy, ranges.
DESIGN CHOICE, log entry 57. -/
opaque pdrField (sensor off : Nat) : Byte

/-- The voltage of VDD_CORE in mV that the fused speed bin requires at a cluster frequency in MHz (R557): the manual gives no table. DESIGN
CHOICE, log entry 94. -/
opaque coreMv (mhz : Nat) : Nat

/-- SOURCE of a frame that the owner's rings sent (R141): neither a port nor a room, and the manual gives no code. DESIGN CHOICE, log entry 86. -/
opaque ownerSource : BitVec 16

/-- The JTAG IDCODE (R385): the manual gives no value. DESIGN CHOICE, log entry 57. -/
opaque jtagIdcode : BitVec 32

end Sys2Proof.Config
end

