-- ==== Sys2Proof/Machine/Regs.lean ====
section
/-!
DEFINITION. The registers of BAR0, as the register tables of the manual give them: offset, size, number of
copies and their stride, reset value and the bits of each access code (R7). A register whose value another
part of the state holds is read from there (`State.readReg` in `Machine/Ops.lean`); its row stands here for
its offset and access.
-/

namespace Sys2Proof.Machine

/-- One register of BAR0 (or an array of equal ones). -/
structure RegInfo where
  off    : Nat
  bytes  : Nat
  count  : Nat
  stride : Nat
  reset  : Nat
  rw     : Nat
  w1c    : Nat
  w1s    : Nat
  rc     : Nat
  rwc    : Nat
  wo     : Nat
  deriving DecidableEq, Repr

/-- `DEVICE.GEN_STATUS` (R35). -/
def R.DEVICE_GEN_STATUS : Nat := 0x100
/-- `DEVICE.GEN_STATE` (R35). -/
def R.DEVICE_GEN_STATE : Nat := 0x104
/-- `DEVICE.GEN_APPLIED` (R35). -/
def R.DEVICE_GEN_APPLIED : Nat := 0x108
/-- `DEVICE.GEN_DEFERRED` (R35). -/
def R.DEVICE_GEN_DEFERRED : Nat := 0x10C
/-- `DEVICE.GEN_RETIRE_DROP` (R35). -/
def R.DEVICE_GEN_RETIRE_DROP : Nat := 0x110
/-- `DEVICE.GEN_BUSY_REFUSED` (R35). -/
def R.DEVICE_GEN_BUSY_REFUSED : Nat := 0x114
/-- `DEVICE.PROFILE` (R37). -/
def R.DEVICE_PROFILE : Nat := 0x120
/-- `HOSTLINK.LINK_STATUS` (R73). -/
def R.HOSTLINK_LINK_STATUS : Nat := 0x1000
/-- `HOSTLINK.NP_LIMIT` (R73). -/
def R.HOSTLINK_NP_LIMIT : Nat := 0x1004
/-- `HOSTLINK.TAG_QUARANTINE` (R73). -/
def R.HOSTLINK_TAG_QUARANTINE : Nat := 0x1008
/-- `HOSTLINK.BME_HALTED` (R73). -/
def R.HOSTLINK_BME_HALTED : Nat := 0x100C
/-- `HOSTLINK.LATE_CPL` (R73). -/
def R.HOSTLINK_LATE_CPL : Nat := 0x1010
/-- `HOSTLINK.ABANDONED_CPL` (R73). -/
def R.HOSTLINK_ABANDONED_CPL : Nat := 0x1014
/-- `HOSTLINK.UNEXP_CPL` (R73). -/
def R.HOSTLINK_UNEXP_CPL : Nat := 0x1018
/-- `HOSTLINK.CPL_TIMEOUT` (R73). -/
def R.HOSTLINK_CPL_TIMEOUT : Nat := 0x101C
/-- `HOSTLINK.BME_DISCARD` (R73). -/
def R.HOSTLINK_BME_DISCARD : Nat := 0x1020
/-- `HOSTLINK.ERR_CPL` (R73). -/
def R.HOSTLINK_ERR_CPL : Nat := 0x1024
/-- `HOSTLINK.BAD_ACCESS` (R73). -/
def R.HOSTLINK_BAD_ACCESS : Nat := 0x1028
/-- `HOSTLINK.TAG_WAIT` (R73). -/
def R.HOSTLINK_TAG_WAIT : Nat := 0x102C
/-- `FRONTDOOR.BASE_LO` (R75). -/
def R.FRONTDOOR_BASE_LO : Nat := 0x100000
/-- `FRONTDOOR.BASE_HI` (R75). -/
def R.FRONTDOOR_BASE_HI : Nat := 0x100004
/-- `FRONTDOOR.CTRL` (R75). -/
def R.FRONTDOOR_CTRL : Nat := 0x100008
/-- `FRONTDOOR.HEAD` (R75). -/
def R.FRONTDOOR_HEAD : Nat := 0x10000C
/-- `FRONTDOOR.DOORBELL` (R75). -/
def R.FRONTDOOR_DOORBELL : Nat := 0x100010
/-- `FRONTDOOR.DISCARDED` (R75). -/
def R.FRONTDOOR_DISCARDED : Nat := 0x100018
/-- `RINGS.OWNER_DOORBELL` (R138). -/
def R.RINGS_OWNER_DOORBELL : Nat := 0x100100
/-- `RINGS.OWNER_EVENT_OVERFLOW` (R153). -/
def R.RINGS_OWNER_EVENT_OVERFLOW : Nat := 0x100108
/-- `TIME.NOW_FRAC` (R190). -/
def R.TIME_NOW_FRAC : Nat := 0x200000
/-- `TIME.NOW_NS` (R190). -/
def R.TIME_NOW_NS : Nat := 0x200004
/-- `TIME.NOW_SEC` (R190). -/
def R.TIME_NOW_SEC : Nat := 0x200008
/-- `TIME.INCR` (R190). -/
def R.TIME_INCR : Nat := 0x200010
/-- `TIME.OFFSET_NS` (R190). -/
def R.TIME_OFFSET_NS : Nat := 0x200018
/-- `TIME.OFFSET_FRAC` (R190). -/
def R.TIME_OFFSET_FRAC : Nat := 0x200020
/-- `TIME.CTRL` (R190). -/
def R.TIME_CTRL : Nat := 0x200024
/-- `TIME.STATUS` (R190). -/
def R.TIME_STATUS : Nat := 0x200028
/-- `TIME.HOLDOVER_UNC` (R190). -/
def R.TIME_HOLDOVER_UNC : Nat := 0x20002C
/-- `PERIOD.LENGTH` (R190). -/
def R.PERIOD_LENGTH : Nat := 0x200040
/-- `PERIOD.COUNT` (R190). -/
def R.PERIOD_COUNT : Nat := 0x200048
/-- `PERIOD.LAST` (R190). -/
def R.PERIOD_LAST : Nat := 0x200050
/-- `PERIOD.NEXT` (R190). -/
def R.PERIOD_NEXT : Nat := 0x200060
/-- `SYNC.LAST_EDGE` (R190). -/
def R.SYNC_LAST_EDGE : Nat := 0x200070
/-- `SYNC.OUTLIER` (R190). -/
def R.SYNC_OUTLIER : Nat := 0x200080
/-- `SYNC.MISSED` (R190). -/
def R.SYNC_MISSED : Nat := 0x200084
/-- `SYNC.MOVED` (R190). -/
def R.SYNC_MOVED : Nat := 0x200088
/-- `PERIOD.SLEWED` (R190). -/
def R.PERIOD_SLEWED : Nat := 0x20008C
/-- `SCHED.PENDING` (R95). -/
def R.SCHED_PENDING : Nat := 0x200100
/-- `SCHED.LATE` (R95). -/
def R.SCHED_LATE : Nat := 0x200104
/-- `SCHED.PASSED` (R95). -/
def R.SCHED_PASSED : Nat := 0x200108
/-- `SCHED.FULL` (R95). -/
def R.SCHED_FULL : Nat := 0x20010C
/-- `PORT.STATUS` (R171). -/
def R.PORT_STATUS : Nat := 0x300000
/-- `PORT.RX_FRAMES` (R171). -/
def R.PORT_RX_FRAMES : Nat := 0x300100
/-- `PORT.RX_BYTES` (R171). -/
def R.PORT_RX_BYTES : Nat := 0x300108
/-- `PORT.TX_FRAMES` (R171). -/
def R.PORT_TX_FRAMES : Nat := 0x300110
/-- `PORT.TX_BYTES` (R171). -/
def R.PORT_TX_BYTES : Nat := 0x300118
/-- `PORT.RX_FCS_ERR` (R171). -/
def R.PORT_RX_FCS_ERR : Nat := 0x300200
/-- `PORT.RX_RUNT` (R171). -/
def R.PORT_RX_RUNT : Nat := 0x300204
/-- `PORT.RX_OVERSIZE` (R171). -/
def R.PORT_RX_OVERSIZE : Nat := 0x300208
/-- `PORT.FEC_CORRECTED` (R171). -/
def R.PORT_FEC_CORRECTED : Nat := 0x30020C
/-- `PORT.FEC_UNCORRECTABLE` (R171). -/
def R.PORT_FEC_UNCORRECTABLE : Nat := 0x300210
/-- `PORT.RX_PAUSE` (R171). -/
def R.PORT_RX_PAUSE : Nat := 0x300214
/-- `PORT.RX_PFC` (R171). -/
def R.PORT_RX_PFC : Nat := 0x300218
/-- `PORT.TX_PFC` (R171). -/
def R.PORT_TX_PFC : Nat := 0x30021C
/-- `PORT.RX_BUF_DROP` (R171). -/
def R.PORT_RX_BUF_DROP : Nat := 0x300220
/-- `PORT.TX_LINKDOWN_DROP` (R171). -/
def R.PORT_TX_LINKDOWN_DROP : Nat := 0x300224
/-- `PORT.LINK_DOWN` (R171). -/
def R.PORT_LINK_DOWN : Nat := 0x300228
/-- `CLS.WIN_SELECT` (R231). -/
def R.CLS_WIN_SELECT : Nat := 0x400000
/-- `CLS.WIN_INDEX` (R231). -/
def R.CLS_WIN_INDEX : Nat := 0x400004
/-- `CLS.WIN_CMD` (R231). -/
def R.CLS_WIN_CMD : Nat := 0x400008
/-- `CLS.WIN_STATUS` (R231). -/
def R.CLS_WIN_STATUS : Nat := 0x40000C
/-- `CLS.WIN_DATA` (R231). -/
def R.CLS_WIN_DATA : Nat := 0x400100
/-- `CLS.PARSE_DEEP` (R233). -/
def R.CLS_PARSE_DEEP : Nat := 0x400200
/-- `CLS.LEN_CONFLICT` (R233). -/
def R.CLS_LEN_CONFLICT : Nat := 0x400204
/-- `CLS.CSUM_BAD` (R233). -/
def R.CLS_CSUM_BAD : Nat := 0x400208
/-- `CLS.FRAG_SERVICE` (R233). -/
def R.CLS_FRAG_SERVICE : Nat := 0x40020C
/-- `CLS.FRAG_TENANT` (R233). -/
def R.CLS_FRAG_TENANT : Nat := 0x400210
/-- `CLS.FLOW_MISS` (R233). -/
def R.CLS_FLOW_MISS : Nat := 0x400214
/-- `CLS.FLOW_AGED` (R233). -/
def R.CLS_FLOW_AGED : Nat := 0x400218
/-- `CLS.IND_BAD` (R233). -/
def R.CLS_IND_BAD : Nat := 0x40021C
/-- `CLS.WIN_REFUSED` (R233). -/
def R.CLS_WIN_REFUSED : Nat := 0x400220
/-- `CLS.SOURCE_WAIT` (R233). -/
def R.CLS_SOURCE_WAIT : Nat := 0x400224
/-- `CLS.CACHE_HIT` (R233). -/
def R.CLS_CACHE_HIT : Nat := 0x400300
/-- `CLS.CACHE_MISS` (R233). -/
def R.CLS_CACHE_MISS : Nat := 0x400308
/-- `TM.GATE_WARN` (R292). -/
def R.TM_GATE_WARN : Nat := 0x500000
/-- `TM.GATE_STATUS` (R292). -/
def R.TM_GATE_STATUS : Nat := 0x500010
/-- `TM.GATE_CYCLE` (R292). -/
def R.TM_GATE_CYCLE : Nat := 0x500020
/-- `TM.WINDOW_OVERSIZE` (R292). -/
def R.TM_WINDOW_OVERSIZE : Nat := 0x500100
/-- `TM.LEAF_FULL_DROP` (R292). -/
def R.TM_LEAF_FULL_DROP : Nat := 0x500110
/-- `TM.LEAF_INVALID` (R292). -/
def R.TM_LEAF_INVALID : Nat := 0x500114
/-- `TM.BUFFER_DROP` (R292). -/
def R.TM_BUFFER_DROP : Nat := 0x500118
/-- `TM.POLICER_DROP` (R292). -/
def R.TM_POLICER_DROP : Nat := 0x50011C
/-- `TM.TELEM_DROP` (R292). -/
def R.TM_TELEM_DROP : Nat := 0x500120
/-- `TM.TELEM_SKIP` (R292). -/
def R.TM_TELEM_SKIP : Nat := 0x500124
/-- `TM.TELEM_SWEEPS` (R292). -/
def R.TM_TELEM_SWEEPS : Nat := 0x500128
/-- `SW.BSTAIR_ROOM_RATE` (R263). -/
def R.SW_BSTAIR_ROOM_RATE : Nat := 0x5C0000
/-- `SW.BSTAIR_ROOM_BURST` (R263). -/
def R.SW_BSTAIR_ROOM_BURST : Nat := 0x5C0004
/-- `SW.BSTAIR_PORT_RATE` (R263). -/
def R.SW_BSTAIR_PORT_RATE : Nat := 0x5C0008
/-- `SW.BSTAIR_OWNER_RING` (R263). -/
def R.SW_BSTAIR_OWNER_RING : Nat := 0x5C000C
/-- `SW.BSTAIR_STATUS` (R263). -/
def R.SW_BSTAIR_STATUS : Nat := 0x5C0010
/-- `SW.ACTION_INVALID` (R263). -/
def R.SW_ACTION_INVALID : Nat := 0x5C0100
/-- `SW.SPOOF_DROP` (R263). -/
def R.SW_SPOOF_DROP : Nat := 0x5C0104
/-- `SW.HAIRPIN_DROP` (R263). -/
def R.SW_HAIRPIN_DROP : Nat := 0x5C0108
/-- `SW.ROOM_QUEUE_BAD` (R263). -/
def R.SW_ROOM_QUEUE_BAD : Nat := 0x5C010C
/-- `SW.DECAP_ABSENT` (R263). -/
def R.SW_DECAP_ABSENT : Nat := 0x5C0110
/-- `SW.GENEVE_CRIT_DROP` (R263). -/
def R.SW_GENEVE_CRIT_DROP : Nat := 0x5C0114
/-- `SW.ECN_DROP` (R263). -/
def R.SW_ECN_DROP : Nat := 0x5C0118
/-- `SW.VLAN_DROP` (R263). -/
def R.SW_VLAN_DROP : Nat := 0x5C011C
/-- `SW.ENCAP_MISMATCH` (R263). -/
def R.SW_ENCAP_MISMATCH : Nat := 0x5C0120
/-- `SW.EGRESS_OVERSIZE` (R263). -/
def R.SW_EGRESS_OVERSIZE : Nat := 0x5C0124
/-- `SW.RECIRC_LIMIT` (R263). -/
def R.SW_RECIRC_LIMIT : Nat := 0x5C0128
/-- `SW.MIRROR_DROP` (R263). -/
def R.SW_MIRROR_DROP : Nat := 0x5C012C
/-- `SW.SERVICE_BUSY` (R263). -/
def R.SW_SERVICE_BUSY : Nat := 0x5C0130
/-- `SW.SERVICE_NO_SA` (R263). -/
def R.SW_SERVICE_NO_SA : Nat := 0x5C0134
/-- `SW.SERVICE_TARGET_BAD` (R263). -/
def R.SW_SERVICE_TARGET_BAD : Nat := 0x5C0138
/-- `SW.NO_HASH` (R263). -/
def R.SW_NO_HASH : Nat := 0x5C013C
/-- `SW.BSTAIR_ALLOW_DROP` (R263). -/
def R.SW_BSTAIR_ALLOW_DROP : Nat := 0x5C0140
/-- `SW.BSTAIR_FULL` (R263). -/
def R.SW_BSTAIR_FULL : Nat := 0x5C0144
/-- `SW.BSTAIR_ANSWER_LIMIT` (R263). -/
def R.SW_BSTAIR_ANSWER_LIMIT : Nat := 0x5C0148
/-- `SW.BSTAIR_NO_RING` (R263). -/
def R.SW_BSTAIR_NO_RING : Nat := 0x5C014C
/-- `SW.REASM_DONE` (R263). -/
def R.SW_REASM_DONE : Nat := 0x5C0150
/-- `SW.REASM_TIMEOUT` (R263). -/
def R.SW_REASM_TIMEOUT : Nat := 0x5C0154
/-- `SW.REASM_BAD` (R263). -/
def R.SW_REASM_BAD : Nat := 0x5C0158
/-- `SW.REASM_FULL` (R263). -/
def R.SW_REASM_FULL : Nat := 0x5C015C
/-- `RINGENG.DOORBELL_BAD` (R159). -/
def R.RINGENG_DOORBELL_BAD : Nat := 0x600000
/-- `RINGENG.FETCH_DISCARD` (R159). -/
def R.RINGENG_FETCH_DISCARD : Nat := 0x600004
/-- `RINGENG.PHASE_SKIP` (R159). -/
def R.RINGENG_PHASE_SKIP : Nat := 0x600008
/-- `RINGENG.BAD_DESC` (R159). -/
def R.RINGENG_BAD_DESC : Nat := 0x60000C
/-- `RINGENG.RX_NOBUF_DROP` (R159). -/
def R.RINGENG_RX_NOBUF_DROP : Nat := 0x600010
/-- `RINGENG.EVENT_DROP` (R159). -/
def R.RINGENG_EVENT_DROP : Nat := 0x600014
/-- `RINGENG.INTR_HELD` (R159). -/
def R.RINGENG_INTR_HELD : Nat := 0x600018
/-- `MEM.STATUS` (R544). -/
def R.MEM_STATUS : Nat := 0x700000
/-- `MEM.REGION_BASE` (R544). -/
def R.MEM_REGION_BASE : Nat := 0x700100
/-- `MEM.REGION_LIMIT` (R544). -/
def R.MEM_REGION_LIMIT : Nat := 0x700108
/-- `MEM.CONFLICT` (R544). -/
def R.MEM_CONFLICT : Nat := 0x700400
/-- `MEM.COLLISION` (R544). -/
def R.MEM_COLLISION : Nat := 0x700480
/-- `MEM.SRAM_CE` (R544). -/
def R.MEM_SRAM_CE : Nat := 0x700500
/-- `MEM.SRAM_UE` (R544). -/
def R.MEM_SRAM_UE : Nat := 0x700504
/-- `MEM.GDDR6_CE` (R544). -/
def R.MEM_GDDR6_CE : Nat := 0x700508
/-- `MEM.GDDR6_UE` (R544). -/
def R.MEM_GDDR6_UE : Nat := 0x70050C
/-- `MEM.ROWS_REPAIRED` (R544). -/
def R.MEM_ROWS_REPAIRED : Nat := 0x700510
/-- `MEM.UNITS_REMAPPED` (R544). -/
def R.MEM_UNITS_REMAPPED : Nat := 0x700514
/-- `MEM.FRAME_DROP` (R544). -/
def R.MEM_FRAME_DROP : Nat := 0x700518
/-- `MEM.LINE_DISCARD` (R544). -/
def R.MEM_LINE_DISCARD : Nat := 0x70051C
/-- `MEM.INTEGRITY_FAIL` (R544). -/
def R.MEM_INTEGRITY_FAIL : Nat := 0x700520
/-- `PWR.STATE` (R564). -/
def R.PWR_STATE : Nat := 0x800000
/-- `PWR.STATUS` (R564). -/
def R.PWR_STATUS : Nat := 0x800004
/-- `PWR.VSB_MV` (R564). -/
def R.PWR_VSB_MV : Nat := 0x800008
/-- `PWR.VSB_DIP` (R564). -/
def R.PWR_VSB_DIP : Nat := 0x800010
/-- `THERMAL.STATUS` (R564). -/
def R.THERMAL_STATUS : Nat := 0x800020
/-- `PWR.TRANSITIONS` (R564). -/
def R.PWR_TRANSITIONS : Nat := 0x800100
/-- `PWR.ENTRY_ABORTED` (R564). -/
def R.PWR_ENTRY_ABORTED : Nat := 0x800104
/-- `PWR.DIP_COUNT` (R564). -/
def R.PWR_DIP_COUNT : Nat := 0x800108
/-- `THERMAL.THROTTLE_MS` (R564). -/
def R.THERMAL_THROTTLE_MS : Nat := 0x80010C
/-- `FAULT.RESET_CAUSE` (R581). -/
def R.FAULT_RESET_CAUSE : Nat := 0x900000
/-- `REPLAY.STATUS` (R581). -/
def R.REPLAY_STATUS : Nat := 0x900010
/-- `FAULT.LEDGER_NEXT` (R581). -/
def R.FAULT_LEDGER_NEXT : Nat := 0x900020
/-- `FAULT.CLUSTER_RESTART` (R581). -/
def R.FAULT_CLUSTER_RESTART : Nat := 0x900100
/-- `FAULT.WARM_RESTART` (R581). -/
def R.FAULT_WARM_RESTART : Nat := 0x900104
/-- `FAULT.ESCALATED` (R581). -/
def R.FAULT_ESCALATED : Nat := 0x900108
/-- `FAULT.PKT_DROPPED` (R581). -/
def R.FAULT_PKT_DROPPED : Nat := 0x90010C
/-- `FAULT.LEDGER_LOST` (R581). -/
def R.FAULT_LEDGER_LOST : Nat := 0x900110
/-- `REPLAY.ENTRIES` (R581). -/
def R.REPLAY_ENTRIES : Nat := 0x900114
/-- `REPLAY.APPLIED` (R581). -/
def R.REPLAY_APPLIED : Nat := 0x900118
/-- `REPLAY.ABANDONED` (R581). -/
def R.REPLAY_ABANDONED : Nat := 0x90011C
/-- `REPLAY.REEXECUTED` (R581). -/
def R.REPLAY_REEXECUTED : Nat := 0x900120
/-- `REPLAY.REDONE` (R581). -/
def R.REPLAY_REDONE : Nat := 0x900124
/-- `REPLAY.PIECES` (R581). -/
def R.REPLAY_PIECES : Nat := 0x900128
/-- `REPLAY.EPOCHS_REBUILT` (R581). -/
def R.REPLAY_EPOCHS_REBUILT : Nat := 0x90012C
/-- `REPLAY.JOURNAL_HEALED` (R581). -/
def R.REPLAY_JOURNAL_HEALED : Nat := 0x900130
/-- `THR.STATUS` (R326). -/
def R.THR_STATUS : Nat := 0x901000
/-- `THR.ANNEX_CORES` (R326). -/
def R.THR_ANNEX_CORES : Nat := 0x901008
/-- `THR.RESEAT` (R326). -/
def R.THR_RESEAT : Nat := 0x901010
/-- `THR.PARTIAL_DISCARD` (R326). -/
def R.THR_PARTIAL_DISCARD : Nat := 0x901014
/-- `THR.LINE_FLUSHED` (R326). -/
def R.THR_LINE_FLUSHED : Nat := 0x901018
/-- `THR.HITCH_FORCED` (R326). -/
def R.THR_HITCH_FORCED : Nat := 0x90101C
/-- `THR.LINE_REFUSED` (R326). -/
def R.THR_LINE_REFUSED : Nat := 0x901020
/-- `THR.HITCH_MISUSE` (R326). -/
def R.THR_HITCH_MISUSE : Nat := 0x901024
/-- `THR.STALL_RAISED` (R326). -/
def R.THR_STALL_RAISED : Nat := 0x901028
/-- `THR.STALL_RECOVERED` (R326). -/
def R.THR_STALL_RECOVERED : Nat := 0x90102C
/-- `THR.STATE` (R326). -/
def R.THR_STATE : Nat := 0x902000
/-- `TILE.STATUS` (R416). -/
def R.TILE_STATUS : Nat := 0x904000
/-- `TILE.BAD_REQUEST` (R416). -/
def R.TILE_BAD_REQUEST : Nat := 0x904100
/-- `TILE.KEY_REFUSED` (R416). -/
def R.TILE_KEY_REFUSED : Nat := 0x904104
/-- `TILE.EXHAUSTED` (R416). -/
def R.TILE_EXHAUSTED : Nat := 0x904108
/-- `TILE.LEASE_ABANDONED` (R416). -/
def R.TILE_LEASE_ABANDONED : Nat := 0x90410C
/-- `TILE.KEY_MISS` (R416). -/
def R.TILE_KEY_MISS : Nat := 0x904110
/-- `TILE.RESP_DISCARD` (R416). -/
def R.TILE_RESP_DISCARD : Nat := 0x904114
/-- `TILE.FAULT` (R416). -/
def R.TILE_FAULT : Nat := 0x904118
/-- `TILE.MEM_ERROR` (R416). -/
def R.TILE_MEM_ERROR : Nat := 0x90411C
/-- `SEAL.STATUS` (R447). -/
def R.SEAL_STATUS : Nat := 0x906000
/-- `SEAL.EPOCH` (R447). -/
def R.SEAL_EPOCH : Nat := 0x906008
/-- `SEAL.LAST_PUBLISHED` (R447). -/
def R.SEAL_LAST_PUBLISHED : Nat := 0x906010
/-- `SEAL.PLACES` (R447). -/
def R.SEAL_PLACES : Nat := 0x906018
/-- `SEAL.UNPUBLISHED` (R447). -/
def R.SEAL_UNPUBLISHED : Nat := 0x90601C
/-- `SEAL.KNOTS` (R447). -/
def R.SEAL_KNOTS : Nat := 0x906100
/-- `SEAL.FULL_CLOSE` (R447). -/
def R.SEAL_FULL_CLOSE : Nat := 0x906104
/-- `SEAL.RESET_CLOSE` (R447). -/
def R.SEAL_RESET_CLOSE : Nat := 0x906108
/-- `SEAL.DIP_KNOTS` (R447). -/
def R.SEAL_DIP_KNOTS : Nat := 0x90610C
/-- `SEAL.DUP_SUPPRESSED` (R447). -/
def R.SEAL_DUP_SUPPRESSED : Nat := 0x906110
/-- `SEAL.PLACE_WAIT` (R447). -/
def R.SEAL_PLACE_WAIT : Nat := 0x906114
/-- `SEAL.EXTENDED` (R447). -/
def R.SEAL_EXTENDED : Nat := 0x906118
/-- `SWEEP.STATUS` (R471). -/
def R.SWEEP_STATUS : Nat := 0x907000
/-- `SWEEP.VERIFIED` (R471). -/
def R.SWEEP_VERIFIED : Nat := 0x907008
/-- `SWEEP.REPAIRED` (R471). -/
def R.SWEEP_REPAIRED : Nat := 0x907010
/-- `SWEEP.UNREPAIRED` (R471). -/
def R.SWEEP_UNREPAIRED : Nat := 0x907014
/-- `SWEEP.SUPERSEDED` (R471). -/
def R.SWEEP_SUPERSEDED : Nat := 0x907018
/-- `SWEEP.SKIPPED` (R471). -/
def R.SWEEP_SKIPPED : Nat := 0x90701C
/-- `SWEEP.PLACE_WAIT` (R471). -/
def R.SWEEP_PLACE_WAIT : Nat := 0x907020
/-- `TRANSCRYPT.DONE` (R471). -/
def R.TRANSCRYPT_DONE : Nat := 0x907024
/-- `TRANSCRYPT.SUPERSEDED` (R471). -/
def R.TRANSCRYPT_SUPERSEDED : Nat := 0x907028
/-- `TRANSCRYPT.MISMATCHED` (R471). -/
def R.TRANSCRYPT_MISMATCHED : Nat := 0x90702C
/-- `TRANSCRYPT.TOMBSTONES` (R471). -/
def R.TRANSCRYPT_TOMBSTONES : Nat := 0x907030
/-- `SR.MBOX_ADDR` (R388). -/
def R.SR_MBOX_ADDR : Nat := 0xA00000
/-- `SR.MBOX_DOORBELL` (R388). -/
def R.SR_MBOX_DOORBELL : Nat := 0xA00008
/-- `SR.MBOX_STATUS` (R388). -/
def R.SR_MBOX_STATUS : Nat := 0xA0000C
/-- `SR.STATUS` (R388). -/
def R.SR_STATUS : Nat := 0xA00100
/-- `SR.CACHE_MISS` (R388). -/
def R.SR_CACHE_MISS : Nat := 0xA00200
/-- `SR.LEASE_GRANTED` (R388). -/
def R.SR_LEASE_GRANTED : Nat := 0xA00204
/-- `SR.LEASE_EXHAUSTED` (R388). -/
def R.SR_LEASE_EXHAUSTED : Nat := 0xA00208
/-- `SR.SUPPLY_LOW` (R388). -/
def R.SR_SUPPLY_LOW : Nat := 0xA0020C
/-- `SR.LEAF_BLOCKS` (R388). -/
def R.SR_LEAF_BLOCKS : Nat := 0xA00210
/-- `SR.UNLOCK_FAILED` (R388). -/
def R.SR_UNLOCK_FAILED : Nat := 0xA00214
/-- `SR.ENTROPY_FAIL` (R388). -/
def R.SR_ENTROPY_FAIL : Nat := 0xA00218
/-- `SR.MBOX_IGNORED` (R388). -/
def R.SR_MBOX_IGNORED : Nat := 0xA0021C
/-- `STORE.STATUS` (R513). -/
def R.STORE_STATUS : Nat := 0xB00000
/-- `DRV.FABRIC` (R513). -/
def R.DRV_FABRIC : Nat := 0xB00004
/-- `DRV.PORT_STATUS` (R513). -/
def R.DRV_PORT_STATUS : Nat := 0xB00010
/-- `DRV.CMD_TIMEOUT` (R513). -/
def R.DRV_CMD_TIMEOUT : Nat := 0xB00100
/-- `DRV.CTRL_RESET` (R513). -/
def R.DRV_CTRL_RESET : Nat := 0xB00104
/-- `DRV.LOST` (R513). -/
def R.DRV_LOST : Nat := 0xB00108
/-- `DRV.INBOUND_REFUSED` (R513). -/
def R.DRV_INBOUND_REFUSED : Nat := 0xB0010C
/-- `DRV.NON_NVME` (R513). -/
def R.DRV_NON_NVME : Nat := 0xB00110
/-- `STORE.TAG_MISMATCH` (R513). -/
def R.STORE_TAG_MISMATCH : Nat := 0xB00114
/-- `STORE.FIXITY_MISMATCH` (R513). -/
def R.STORE_FIXITY_MISMATCH : Nat := 0xB00118
/-- `STORE.REPAIRED_READ` (R513). -/
def R.STORE_REPAIRED_READ : Nat := 0xB0011C
/-- `STORE.DEGRADED_WRITE` (R513). -/
def R.STORE_DEGRADED_WRITE : Nat := 0xB00120
/-- `STORE.REFUSED_DEGRADED` (R513). -/
def R.STORE_REFUSED_DEGRADED : Nat := 0xB00124
/-- `STORE.VOLUME_FULL` (R513). -/
def R.STORE_VOLUME_FULL : Nat := 0xB00128
/-- `STORE.OVERLAP` (R513). -/
def R.STORE_OVERLAP : Nat := 0xB0012C
/-- `JOURNAL.FULL_WAIT` (R513). -/
def R.JOURNAL_FULL_WAIT : Nat := 0xB00130
/-- `JOURNAL.SINGLE_REFUSED` (R513). -/
def R.JOURNAL_SINGLE_REFUSED : Nat := 0xB00134
/-- `NVMT.CONN_REFUSED` (R513). -/
def R.NVMT_CONN_REFUSED : Nat := 0xB00138
/-- `NVMT.TLS_FAIL` (R513). -/
def R.NVMT_TLS_FAIL : Nat := 0xB0013C
/-- `NVMT.DIGEST_ERR` (R513). -/
def R.NVMT_DIGEST_ERR : Nat := 0xB00140
/-- `NVMT.PDU_ERR` (R513). -/
def R.NVMT_PDU_ERR : Nat := 0xB00144
/-- `STORE.WRITES` (R513). -/
def R.STORE_WRITES : Nat := 0xB00200
/-- `STORE.READS` (R513). -/
def R.STORE_READS : Nat := 0xB00208
/-- `JOURNAL.BLOCKS` (R513). -/
def R.JOURNAL_BLOCKS : Nat := 0xB00210
/-- `DBG.THREAD_SEL` (R317). -/
def R.DBG_THREAD_SEL : Nat := 0xC00100
/-- `DBG.THREAD_CTRL` (R317). -/
def R.DBG_THREAD_CTRL : Nat := 0xC00104
/-- `DBG.THREAD_PC` (R317). -/
def R.DBG_THREAD_PC : Nat := 0xC00108
/-- `DBG.THREAD_STAGED` (R317). -/
def R.DBG_THREAD_STAGED : Nat := 0xC0010C
/-- `DBG.REFUSED` (R317). -/
def R.DBG_REFUSED : Nat := 0xC00110
/-- `DBG.TRACE_CTRL` (R317). -/
def R.DBG_TRACE_CTRL : Nat := 0xC00120

/-- Register table, part 1. -/
def regTable1 : List RegInfo :=
  [ ⟨R.DEVICE_GEN_STATUS, 4, 1, 0x0, 0x0, 0x0, 0x0, 0x0, 0x0, 0x0, 0x0⟩,
    ⟨R.DEVICE_GEN_STATE, 4, 1, 0x0, 0x0, 0x0, 0x0, 0x0, 0x0, 0x0, 0x0⟩,
    ⟨R.DEVICE_GEN_APPLIED, 4, 1, 0x0, 0x3FFFF, 0x0, 0x0, 0x0, 0x0, 0x0, 0x0⟩,
    ⟨R.DEVICE_GEN_DEFERRED, 4, 1, 0x0, 0x0, 0x0, 0x0, 0x0, 0x0, 0x0, 0x0⟩,
    ⟨R.DEVICE_GEN_RETIRE_DROP, 4, 1, 0x0, 0x0, 0x0, 0x0, 0x0, 0xFFFFFFFF, 0x0, 0x0⟩,
    ⟨R.DEVICE_GEN_BUSY_REFUSED, 4, 1, 0x0, 0x0, 0x0, 0x0, 0x0, 0xFFFFFFFF, 0x0, 0x0⟩,
    ⟨R.DEVICE_PROFILE, 4, 1, 0x0, 0x0, 0x0, 0x0, 0x0, 0x0, 0x0, 0x0⟩,
    ⟨R.HOSTLINK_LINK_STATUS, 4, 1, 0x0, 0x0, 0x0, 0x0, 0x0, 0x0, 0x0, 0x0⟩,
    ⟨R.HOSTLINK_NP_LIMIT, 4, 1, 0x0, 0x1001000, 0x0, 0x0, 0x0, 0x0, 0xFFFF, 0x0⟩,
    ⟨R.HOSTLINK_TAG_QUARANTINE, 4, 1, 0x0, 0x0, 0x0, 0x0, 0x0, 0x0, 0x0, 0x0⟩,
    ⟨R.HOSTLINK_BME_HALTED, 4, 1, 0x0, 0x0, 0x0, 0x0, 0x0, 0x0, 0x0, 0x0⟩,
    ⟨R.HOSTLINK_LATE_CPL, 4, 1, 0x0, 0x0, 0x0, 0x0, 0x0, 0xFFFFFFFF, 0x0, 0x0⟩,
    ⟨R.HOSTLINK_ABANDONED_CPL, 4, 1, 0x0, 0x0, 0x0, 0x0, 0x0, 0xFFFFFFFF, 0x0, 0x0⟩,
    ⟨R.HOSTLINK_UNEXP_CPL, 4, 1, 0x0, 0x0, 0x0, 0x0, 0x0, 0xFFFFFFFF, 0x0, 0x0⟩,
    ⟨R.HOSTLINK_CPL_TIMEOUT, 4, 1, 0x0, 0x0, 0x0, 0x0, 0x0, 0xFFFFFFFF, 0x0, 0x0⟩,
    ⟨R.HOSTLINK_BME_DISCARD, 4, 1, 0x0, 0x0, 0x0, 0x0, 0x0, 0xFFFFFFFF, 0x0, 0x0⟩,
    ⟨R.HOSTLINK_ERR_CPL, 4, 1, 0x0, 0x0, 0x0, 0x0, 0x0, 0xFFFFFFFF, 0x0, 0x0⟩,
    ⟨R.HOSTLINK_BAD_ACCESS, 4, 1, 0x0, 0x0, 0x0, 0x0, 0x0, 0xFFFFFFFF, 0x0, 0x0⟩,
    ⟨R.HOSTLINK_TAG_WAIT, 4, 1, 0x0, 0x0, 0x0, 0x0, 0x0, 0xFFFFFFFF, 0x0, 0x0⟩,
    ⟨R.FRONTDOOR_BASE_LO, 4, 1, 0x0, 0x0, 0xFFFFF000, 0x0, 0x0, 0x0, 0x0, 0x0⟩,
    ⟨R.FRONTDOOR_BASE_HI, 4, 1, 0x0, 0x0, 0xFFFFFFFF, 0x0, 0x0, 0x0, 0x0, 0x0⟩,
    ⟨R.FRONTDOOR_CTRL, 4, 1, 0x0, 0x6, 0x87FF001F, 0x0, 0x0, 0x0, 0x0, 0x0⟩,
    ⟨R.FRONTDOOR_HEAD, 4, 1, 0x0, 0x0, 0x0, 0x0, 0x0, 0x0, 0x0, 0x0⟩,
    ⟨R.FRONTDOOR_DOORBELL, 8, 1, 0x0, 0x0, 0x0, 0x0, 0x0, 0x0, 0x0, 0xFFFFFFFFFFFFFFFF⟩,
    ⟨R.FRONTDOOR_DISCARDED, 4, 1, 0x0, 0x0, 0x0, 0x0, 0x0, 0xFFFFFFFF, 0x0, 0x0⟩,
    ⟨R.RINGS_OWNER_DOORBELL, 8, 1, 0x0, 0x0, 0x0, 0x0, 0x0, 0x0, 0x0, 0xFFFFFFFFFFFFFFFF⟩,
    ⟨R.RINGS_OWNER_EVENT_OVERFLOW, 4, 1, 0x0, 0x0, 0x0, 0xFFFF, 0x0, 0x0, 0x0, 0x0⟩,
    ⟨R.TIME_NOW_FRAC, 4, 1, 0x0, 0x0, 0x0, 0x0, 0x0, 0x0, 0x0, 0x0⟩,
    ⟨R.TIME_NOW_NS, 4, 1, 0x0, 0x0, 0x0, 0x0, 0x0, 0x0, 0x0, 0x0⟩,
    ⟨R.TIME_NOW_SEC, 8, 1, 0x0, 0x0, 0x0, 0x0, 0x0, 0x0, 0x0, 0x0⟩,
    ⟨R.TIME_INCR, 8, 1, 0x0, 0x100000000, 0xFFFFFFFFF, 0x0, 0x0, 0x0, 0x0, 0x0⟩,
    ⟨R.TIME_OFFSET_NS, 8, 1, 0x0, 0x0, 0xFFFFFFFFFFFFFFFF, 0x0, 0x0, 0x0, 0x0, 0x0⟩,
    ⟨R.TIME_OFFSET_FRAC, 4, 1, 0x0, 0x0, 0xFFFFFFFF, 0x0, 0x0, 0x0, 0x0, 0x0⟩,
    ⟨R.TIME_CTRL, 4, 1, 0x0, 0x0, 0x0, 0x0, 0x1, 0x0, 0x0, 0x0⟩,
    ⟨R.TIME_STATUS, 4, 1, 0x0, 0x0, 0x0, 0xA, 0x0, 0x0, 0x0, 0x0⟩,
    ⟨R.TIME_HOLDOVER_UNC, 4, 1, 0x0, 0x0, 0x0, 0x0, 0x0, 0x0, 0x0, 0x0⟩,
    ⟨R.PERIOD_LENGTH, 4, 1, 0x0, 0x2710, 0x0, 0x0, 0x0, 0x0, 0x0, 0x0⟩,
    ⟨R.PERIOD_COUNT, 8, 1, 0x0, 0x0, 0x0, 0x0, 0x0, 0x0, 0x0, 0x0⟩,
    ⟨R.PERIOD_LAST, 16, 1, 0x0, 0x0, 0x0, 0x0, 0x0, 0x0, 0x0, 0x0⟩,
    ⟨R.PERIOD_NEXT, 16, 1, 0x0, 0x0, 0x0, 0x0, 0x0, 0x0, 0x0, 0x0⟩ ]

/-- Register table, part 2. -/
def regTable2 : List RegInfo :=
  [ ⟨R.SYNC_LAST_EDGE, 16, 1, 0x0, 0x0, 0x0, 0x0, 0x0, 0x0, 0x0, 0x0⟩,
    ⟨R.SYNC_OUTLIER, 4, 1, 0x0, 0x0, 0x0, 0x0, 0x0, 0xFFFFFFFF, 0x0, 0x0⟩,
    ⟨R.SYNC_MISSED, 4, 1, 0x0, 0x0, 0x0, 0x0, 0x0, 0xFFFFFFFF, 0x0, 0x0⟩,
    ⟨R.SYNC_MOVED, 4, 1, 0x0, 0x0, 0x0, 0x0, 0x0, 0xFFFFFFFF, 0x0, 0x0⟩,
    ⟨R.PERIOD_SLEWED, 4, 1, 0x0, 0x0, 0x0, 0x0, 0x0, 0xFFFFFFFF, 0x0, 0x0⟩,
    ⟨R.SCHED_PENDING, 4, 1, 0x0, 0x0, 0x0, 0x0, 0x0, 0x0, 0x0, 0x0⟩,
    ⟨R.SCHED_LATE, 4, 1, 0x0, 0x0, 0x0, 0x0, 0x0, 0xFFFFFFFF, 0x0, 0x0⟩,
    ⟨R.SCHED_PASSED, 4, 1, 0x0, 0x0, 0x0, 0x0, 0x0, 0xFFFFFFFF, 0x0, 0x0⟩,
    ⟨R.SCHED_FULL, 4, 1, 0x0, 0x0, 0x0, 0x0, 0x0, 0xFFFFFFFF, 0x0, 0x0⟩,
    ⟨R.PORT_STATUS, 4, 4, 0x10000, 0x0, 0x0, 0x0, 0x0, 0x0, 0x0, 0x0⟩,
    ⟨R.PORT_RX_FRAMES, 8, 4, 0x10000, 0x0, 0x0, 0x0, 0x0, 0x0, 0x0, 0x0⟩,
    ⟨R.PORT_RX_BYTES, 8, 4, 0x10000, 0x0, 0x0, 0x0, 0x0, 0x0, 0x0, 0x0⟩,
    ⟨R.PORT_TX_FRAMES, 8, 4, 0x10000, 0x0, 0x0, 0x0, 0x0, 0x0, 0x0, 0x0⟩,
    ⟨R.PORT_TX_BYTES, 8, 4, 0x10000, 0x0, 0x0, 0x0, 0x0, 0x0, 0x0, 0x0⟩,
    ⟨R.PORT_RX_FCS_ERR, 4, 4, 0x10000, 0x0, 0x0, 0x0, 0x0, 0xFFFFFFFF, 0x0, 0x0⟩,
    ⟨R.PORT_RX_RUNT, 4, 4, 0x10000, 0x0, 0x0, 0x0, 0x0, 0xFFFFFFFF, 0x0, 0x0⟩,
    ⟨R.PORT_RX_OVERSIZE, 4, 4, 0x10000, 0x0, 0x0, 0x0, 0x0, 0xFFFFFFFF, 0x0, 0x0⟩,
    ⟨R.PORT_FEC_CORRECTED, 4, 4, 0x10000, 0x0, 0x0, 0x0, 0x0, 0xFFFFFFFF, 0x0, 0x0⟩,
    ⟨R.PORT_FEC_UNCORRECTABLE, 4, 4, 0x10000, 0x0, 0x0, 0x0, 0x0, 0xFFFFFFFF, 0x0, 0x0⟩,
    ⟨R.PORT_RX_PAUSE, 4, 4, 0x10000, 0x0, 0x0, 0x0, 0x0, 0xFFFFFFFF, 0x0, 0x0⟩,
    ⟨R.PORT_RX_PFC, 4, 4, 0x10000, 0x0, 0x0, 0x0, 0x0, 0xFFFFFFFF, 0x0, 0x0⟩,
    ⟨R.PORT_TX_PFC, 4, 4, 0x10000, 0x0, 0x0, 0x0, 0x0, 0xFFFFFFFF, 0x0, 0x0⟩,
    ⟨R.PORT_RX_BUF_DROP, 4, 4, 0x10000, 0x0, 0x0, 0x0, 0x0, 0xFFFFFFFF, 0x0, 0x0⟩,
    ⟨R.PORT_TX_LINKDOWN_DROP, 4, 4, 0x10000, 0x0, 0x0, 0x0, 0x0, 0xFFFFFFFF, 0x0, 0x0⟩,
    ⟨R.PORT_LINK_DOWN, 4, 4, 0x10000, 0x0, 0x0, 0x0, 0x0, 0xFFFFFFFF, 0x0, 0x0⟩,
    ⟨R.CLS_WIN_SELECT, 4, 1, 0x0, 0x0, 0x17, 0x0, 0x0, 0x0, 0x0, 0x0⟩,
    ⟨R.CLS_WIN_INDEX, 4, 1, 0x0, 0x0, 0x3FFFFF, 0x0, 0x0, 0x0, 0x0, 0x0⟩,
    ⟨R.CLS_WIN_CMD, 4, 1, 0x0, 0x0, 0x0, 0x0, 0x0, 0x0, 0x0, 0x3⟩,
    ⟨R.CLS_WIN_STATUS, 4, 1, 0x0, 0x1, 0x0, 0x0, 0x0, 0x0, 0x0, 0x0⟩,
    ⟨R.CLS_WIN_DATA, 160, 1, 0x0, 0x0, 0xFFFFFFFFFFFFFFFF, 0x0, 0x0, 0x0, 0x0, 0x0⟩,
    ⟨R.CLS_PARSE_DEEP, 4, 1, 0x0, 0x0, 0x0, 0x0, 0x0, 0xFFFFFFFF, 0x0, 0x0⟩,
    ⟨R.CLS_LEN_CONFLICT, 4, 1, 0x0, 0x0, 0x0, 0x0, 0x0, 0xFFFFFFFF, 0x0, 0x0⟩,
    ⟨R.CLS_CSUM_BAD, 4, 1, 0x0, 0x0, 0x0, 0x0, 0x0, 0xFFFFFFFF, 0x0, 0x0⟩,
    ⟨R.CLS_FRAG_SERVICE, 4, 1, 0x0, 0x0, 0x0, 0x0, 0x0, 0xFFFFFFFF, 0x0, 0x0⟩,
    ⟨R.CLS_FRAG_TENANT, 4, 1, 0x0, 0x0, 0x0, 0x0, 0x0, 0xFFFFFFFF, 0x0, 0x0⟩,
    ⟨R.CLS_FLOW_MISS, 4, 1, 0x0, 0x0, 0x0, 0x0, 0x0, 0xFFFFFFFF, 0x0, 0x0⟩,
    ⟨R.CLS_FLOW_AGED, 4, 1, 0x0, 0x0, 0x0, 0x0, 0x0, 0xFFFFFFFF, 0x0, 0x0⟩,
    ⟨R.CLS_IND_BAD, 4, 1, 0x0, 0x0, 0x0, 0x0, 0x0, 0xFFFFFFFF, 0x0, 0x0⟩,
    ⟨R.CLS_WIN_REFUSED, 4, 1, 0x0, 0x0, 0x0, 0x0, 0x0, 0xFFFFFFFF, 0x0, 0x0⟩,
    ⟨R.CLS_SOURCE_WAIT, 4, 1, 0x0, 0x0, 0x0, 0x0, 0x0, 0xFFFFFFFF, 0x0, 0x0⟩ ]

/-- Register table, part 3. -/
def regTable3 : List RegInfo :=
  [ ⟨R.CLS_CACHE_HIT, 8, 1, 0x0, 0x0, 0x0, 0x0, 0x0, 0x0, 0x0, 0x0⟩,
    ⟨R.CLS_CACHE_MISS, 8, 1, 0x0, 0x0, 0x0, 0x0, 0x0, 0x0, 0x0, 0x0⟩,
    ⟨R.TM_GATE_WARN, 4, 1, 0x0, 0x0, 0x0, 0x0, 0x0, 0x0, 0x0, 0x0⟩,
    ⟨R.TM_GATE_STATUS, 4, 4, 0x4, 0xFF, 0x0, 0x0, 0x0, 0x0, 0x0, 0x0⟩,
    ⟨R.TM_GATE_CYCLE, 4, 4, 0x4, 0x0, 0x0, 0x0, 0x0, 0x0, 0x0, 0x0⟩,
    ⟨R.TM_WINDOW_OVERSIZE, 4, 4, 0x4, 0x0, 0x0, 0x0, 0x0, 0xFFFFFFFF, 0x0, 0x0⟩,
    ⟨R.TM_LEAF_FULL_DROP, 4, 1, 0x0, 0x0, 0x0, 0x0, 0x0, 0xFFFFFFFF, 0x0, 0x0⟩,
    ⟨R.TM_LEAF_INVALID, 4, 1, 0x0, 0x0, 0x0, 0x0, 0x0, 0xFFFFFFFF, 0x0, 0x0⟩,
    ⟨R.TM_BUFFER_DROP, 4, 1, 0x0, 0x0, 0x0, 0x0, 0x0, 0xFFFFFFFF, 0x0, 0x0⟩,
    ⟨R.TM_POLICER_DROP, 4, 1, 0x0, 0x0, 0x0, 0x0, 0x0, 0xFFFFFFFF, 0x0, 0x0⟩,
    ⟨R.TM_TELEM_DROP, 4, 1, 0x0, 0x0, 0x0, 0x0, 0x0, 0xFFFFFFFF, 0x0, 0x0⟩,
    ⟨R.TM_TELEM_SKIP, 4, 1, 0x0, 0x0, 0x0, 0x0, 0x0, 0xFFFFFFFF, 0x0, 0x0⟩,
    ⟨R.TM_TELEM_SWEEPS, 4, 1, 0x0, 0x0, 0x0, 0x0, 0x0, 0xFFFFFFFF, 0x0, 0x0⟩,
    ⟨R.SW_BSTAIR_ROOM_RATE, 4, 1, 0x0, 0xC350, 0x0, 0x0, 0x0, 0x0, 0xFFFFFF, 0x0⟩,
    ⟨R.SW_BSTAIR_ROOM_BURST, 4, 1, 0x0, 0x7D0, 0x0, 0x0, 0x0, 0x0, 0xFFFF, 0x0⟩,
    ⟨R.SW_BSTAIR_PORT_RATE, 4, 1, 0x0, 0x1E8480, 0x0, 0x0, 0x0, 0x0, 0xFFFFFF, 0x0⟩,
    ⟨R.SW_BSTAIR_OWNER_RING, 4, 1, 0x0, 0x0, 0x0, 0x0, 0x0, 0x0, 0x8000FFFF, 0x0⟩,
    ⟨R.SW_BSTAIR_STATUS, 4, 1, 0x0, 0x0, 0x0, 0x0, 0x0, 0x0, 0x0, 0x0⟩,
    ⟨R.SW_ACTION_INVALID, 4, 1, 0x0, 0x0, 0x0, 0x0, 0x0, 0xFFFFFFFF, 0x0, 0x0⟩,
    ⟨R.SW_SPOOF_DROP, 4, 1, 0x0, 0x0, 0x0, 0x0, 0x0, 0xFFFFFFFF, 0x0, 0x0⟩,
    ⟨R.SW_HAIRPIN_DROP, 4, 1, 0x0, 0x0, 0x0, 0x0, 0x0, 0xFFFFFFFF, 0x0, 0x0⟩,
    ⟨R.SW_ROOM_QUEUE_BAD, 4, 1, 0x0, 0x0, 0x0, 0x0, 0x0, 0xFFFFFFFF, 0x0, 0x0⟩,
    ⟨R.SW_DECAP_ABSENT, 4, 1, 0x0, 0x0, 0x0, 0x0, 0x0, 0xFFFFFFFF, 0x0, 0x0⟩,
    ⟨R.SW_GENEVE_CRIT_DROP, 4, 1, 0x0, 0x0, 0x0, 0x0, 0x0, 0xFFFFFFFF, 0x0, 0x0⟩,
    ⟨R.SW_ECN_DROP, 4, 1, 0x0, 0x0, 0x0, 0x0, 0x0, 0xFFFFFFFF, 0x0, 0x0⟩,
    ⟨R.SW_VLAN_DROP, 4, 1, 0x0, 0x0, 0x0, 0x0, 0x0, 0xFFFFFFFF, 0x0, 0x0⟩,
    ⟨R.SW_ENCAP_MISMATCH, 4, 1, 0x0, 0x0, 0x0, 0x0, 0x0, 0xFFFFFFFF, 0x0, 0x0⟩,
    ⟨R.SW_EGRESS_OVERSIZE, 4, 1, 0x0, 0x0, 0x0, 0x0, 0x0, 0xFFFFFFFF, 0x0, 0x0⟩,
    ⟨R.SW_RECIRC_LIMIT, 4, 1, 0x0, 0x0, 0x0, 0x0, 0x0, 0xFFFFFFFF, 0x0, 0x0⟩,
    ⟨R.SW_MIRROR_DROP, 4, 1, 0x0, 0x0, 0x0, 0x0, 0x0, 0xFFFFFFFF, 0x0, 0x0⟩,
    ⟨R.SW_SERVICE_BUSY, 4, 1, 0x0, 0x0, 0x0, 0x0, 0x0, 0xFFFFFFFF, 0x0, 0x0⟩,
    ⟨R.SW_SERVICE_NO_SA, 4, 1, 0x0, 0x0, 0x0, 0x0, 0x0, 0xFFFFFFFF, 0x0, 0x0⟩,
    ⟨R.SW_SERVICE_TARGET_BAD, 4, 1, 0x0, 0x0, 0x0, 0x0, 0x0, 0xFFFFFFFF, 0x0, 0x0⟩,
    ⟨R.SW_NO_HASH, 4, 1, 0x0, 0x0, 0x0, 0x0, 0x0, 0xFFFFFFFF, 0x0, 0x0⟩,
    ⟨R.SW_BSTAIR_ALLOW_DROP, 4, 1, 0x0, 0x0, 0x0, 0x0, 0x0, 0xFFFFFFFF, 0x0, 0x0⟩,
    ⟨R.SW_BSTAIR_FULL, 4, 1, 0x0, 0x0, 0x0, 0x0, 0x0, 0xFFFFFFFF, 0x0, 0x0⟩,
    ⟨R.SW_BSTAIR_ANSWER_LIMIT, 4, 1, 0x0, 0x0, 0x0, 0x0, 0x0, 0xFFFFFFFF, 0x0, 0x0⟩,
    ⟨R.SW_BSTAIR_NO_RING, 4, 1, 0x0, 0x0, 0x0, 0x0, 0x0, 0xFFFFFFFF, 0x0, 0x0⟩,
    ⟨R.SW_REASM_DONE, 4, 1, 0x0, 0x0, 0x0, 0x0, 0x0, 0xFFFFFFFF, 0x0, 0x0⟩,
    ⟨R.SW_REASM_TIMEOUT, 4, 1, 0x0, 0x0, 0x0, 0x0, 0x0, 0xFFFFFFFF, 0x0, 0x0⟩ ]

/-- Register table, part 4. -/
def regTable4 : List RegInfo :=
  [ ⟨R.SW_REASM_BAD, 4, 1, 0x0, 0x0, 0x0, 0x0, 0x0, 0xFFFFFFFF, 0x0, 0x0⟩,
    ⟨R.SW_REASM_FULL, 4, 1, 0x0, 0x0, 0x0, 0x0, 0x0, 0xFFFFFFFF, 0x0, 0x0⟩,
    ⟨R.RINGENG_DOORBELL_BAD, 4, 1, 0x0, 0x0, 0x0, 0x0, 0x0, 0xFFFFFFFF, 0x0, 0x0⟩,
    ⟨R.RINGENG_FETCH_DISCARD, 4, 1, 0x0, 0x0, 0x0, 0x0, 0x0, 0xFFFFFFFF, 0x0, 0x0⟩,
    ⟨R.RINGENG_PHASE_SKIP, 4, 1, 0x0, 0x0, 0x0, 0x0, 0x0, 0xFFFFFFFF, 0x0, 0x0⟩,
    ⟨R.RINGENG_BAD_DESC, 4, 1, 0x0, 0x0, 0x0, 0x0, 0x0, 0xFFFFFFFF, 0x0, 0x0⟩,
    ⟨R.RINGENG_RX_NOBUF_DROP, 4, 1, 0x0, 0x0, 0x0, 0x0, 0x0, 0xFFFFFFFF, 0x0, 0x0⟩,
    ⟨R.RINGENG_EVENT_DROP, 4, 1, 0x0, 0x0, 0x0, 0x0, 0x0, 0xFFFFFFFF, 0x0, 0x0⟩,
    ⟨R.RINGENG_INTR_HELD, 4, 1, 0x0, 0x0, 0x0, 0x0, 0x0, 0x0, 0x0, 0x0⟩,
    ⟨R.MEM_STATUS, 4, 1, 0x0, 0x0, 0x0, 0x0, 0x0, 0x0, 0x0, 0x0⟩,
    ⟨R.MEM_REGION_BASE, 8, 23, 0x10, 0x0, 0x0, 0x0, 0x0, 0x0, 0x0, 0x0⟩,
    ⟨R.MEM_REGION_LIMIT, 8, 23, 0x10, 0x0, 0x0, 0x0, 0x0, 0x0, 0x0, 0x0⟩,
    ⟨R.MEM_CONFLICT, 8, 15, 0x8, 0x0, 0x0, 0x0, 0x0, 0x0, 0x0, 0x0⟩,
    ⟨R.MEM_COLLISION, 4, 15, 0x4, 0x0, 0x0, 0x0, 0x0, 0xFFFFFFFF, 0x0, 0x0⟩,
    ⟨R.MEM_SRAM_CE, 4, 1, 0x0, 0x0, 0x0, 0x0, 0x0, 0xFFFFFFFF, 0x0, 0x0⟩,
    ⟨R.MEM_SRAM_UE, 4, 1, 0x0, 0x0, 0x0, 0x0, 0x0, 0xFFFFFFFF, 0x0, 0x0⟩,
    ⟨R.MEM_GDDR6_CE, 4, 1, 0x0, 0x0, 0x0, 0x0, 0x0, 0xFFFFFFFF, 0x0, 0x0⟩,
    ⟨R.MEM_GDDR6_UE, 4, 1, 0x0, 0x0, 0x0, 0x0, 0x0, 0xFFFFFFFF, 0x0, 0x0⟩,
    ⟨R.MEM_ROWS_REPAIRED, 4, 1, 0x0, 0x0, 0x0, 0x0, 0x0, 0xFFFFFFFF, 0x0, 0x0⟩,
    ⟨R.MEM_UNITS_REMAPPED, 4, 1, 0x0, 0x0, 0x0, 0x0, 0x0, 0xFFFFFFFF, 0x0, 0x0⟩,
    ⟨R.MEM_FRAME_DROP, 4, 1, 0x0, 0x0, 0x0, 0x0, 0x0, 0xFFFFFFFF, 0x0, 0x0⟩,
    ⟨R.MEM_LINE_DISCARD, 4, 1, 0x0, 0x0, 0x0, 0x0, 0x0, 0xFFFFFFFF, 0x0, 0x0⟩,
    ⟨R.MEM_INTEGRITY_FAIL, 4, 1, 0x0, 0x0, 0x0, 0x0, 0x0, 0xFFFFFFFF, 0x0, 0x0⟩,
    ⟨R.PWR_STATE, 4, 1, 0x0, 0x0, 0x0, 0x0, 0x0, 0x0, 0x0, 0x0⟩,
    ⟨R.PWR_STATUS, 4, 1, 0x0, 0x0, 0x0, 0x10000, 0x0, 0x0, 0x0, 0x0⟩,
    ⟨R.PWR_VSB_MV, 4, 1, 0x0, 0x0, 0x0, 0x0, 0x0, 0x0, 0x0, 0x0⟩,
    ⟨R.PWR_VSB_DIP, 4, 1, 0x0, 0x0, 0x0, 0x80000000, 0x0, 0x0, 0x0, 0x0⟩,
    ⟨R.THERMAL_STATUS, 4, 1, 0x0, 0x0, 0x0, 0x8, 0x0, 0x0, 0x0, 0x0⟩,
    ⟨R.PWR_TRANSITIONS, 4, 1, 0x0, 0x0, 0x0, 0x0, 0x0, 0xFFFFFFFF, 0x0, 0x0⟩,
    ⟨R.PWR_ENTRY_ABORTED, 4, 1, 0x0, 0x0, 0x0, 0x0, 0x0, 0xFFFFFFFF, 0x0, 0x0⟩,
    ⟨R.PWR_DIP_COUNT, 4, 1, 0x0, 0x0, 0x0, 0x0, 0x0, 0xFFFFFFFF, 0x0, 0x0⟩,
    ⟨R.THERMAL_THROTTLE_MS, 4, 1, 0x0, 0x0, 0x0, 0x0, 0x0, 0xFFFFFFFF, 0x0, 0x0⟩,
    ⟨R.FAULT_RESET_CAUSE, 4, 1, 0x0, 0x1, 0x0, 0x3FFF, 0x0, 0x0, 0x0, 0x0⟩,
    ⟨R.REPLAY_STATUS, 4, 1, 0x0, 0x0, 0x0, 0x0, 0x0, 0x0, 0x0, 0x0⟩,
    ⟨R.FAULT_LEDGER_NEXT, 4, 1, 0x0, 0x0, 0x0, 0x0, 0x0, 0x0, 0x0, 0x0⟩,
    ⟨R.FAULT_CLUSTER_RESTART, 4, 1, 0x0, 0x0, 0x0, 0x0, 0x0, 0xFFFFFFFF, 0x0, 0x0⟩,
    ⟨R.FAULT_WARM_RESTART, 4, 1, 0x0, 0x0, 0x0, 0x0, 0x0, 0xFFFFFFFF, 0x0, 0x0⟩,
    ⟨R.FAULT_ESCALATED, 4, 1, 0x0, 0x0, 0x0, 0x0, 0x0, 0xFFFFFFFF, 0x0, 0x0⟩,
    ⟨R.FAULT_PKT_DROPPED, 4, 1, 0x0, 0x0, 0x0, 0x0, 0x0, 0xFFFFFFFF, 0x0, 0x0⟩,
    ⟨R.FAULT_LEDGER_LOST, 4, 1, 0x0, 0x0, 0x0, 0x0, 0x0, 0xFFFFFFFF, 0x0, 0x0⟩ ]

/-- Register table, part 5. -/
def regTable5 : List RegInfo :=
  [ ⟨R.REPLAY_ENTRIES, 4, 1, 0x0, 0x0, 0x0, 0x0, 0x0, 0xFFFFFFFF, 0x0, 0x0⟩,
    ⟨R.REPLAY_APPLIED, 4, 1, 0x0, 0x0, 0x0, 0x0, 0x0, 0xFFFFFFFF, 0x0, 0x0⟩,
    ⟨R.REPLAY_ABANDONED, 4, 1, 0x0, 0x0, 0x0, 0x0, 0x0, 0xFFFFFFFF, 0x0, 0x0⟩,
    ⟨R.REPLAY_REEXECUTED, 4, 1, 0x0, 0x0, 0x0, 0x0, 0x0, 0xFFFFFFFF, 0x0, 0x0⟩,
    ⟨R.REPLAY_REDONE, 4, 1, 0x0, 0x0, 0x0, 0x0, 0x0, 0xFFFFFFFF, 0x0, 0x0⟩,
    ⟨R.REPLAY_PIECES, 4, 1, 0x0, 0x0, 0x0, 0x0, 0x0, 0xFFFFFFFF, 0x0, 0x0⟩,
    ⟨R.REPLAY_EPOCHS_REBUILT, 4, 1, 0x0, 0x0, 0x0, 0x0, 0x0, 0xFFFFFFFF, 0x0, 0x0⟩,
    ⟨R.REPLAY_JOURNAL_HEALED, 4, 1, 0x0, 0x0, 0x0, 0x0, 0x0, 0xFFFFFFFF, 0x0, 0x0⟩,
    ⟨R.THR_STATUS, 4, 1, 0x0, 0x0, 0x0, 0x0, 0x0, 0x0, 0x0, 0x0⟩,
    ⟨R.THR_ANNEX_CORES, 8, 1, 0x0, 0x0, 0x0, 0x0, 0x0, 0x0, 0x0, 0x0⟩,
    ⟨R.THR_RESEAT, 4, 1, 0x0, 0x0, 0x0, 0x0, 0x0, 0xFFFFFFFF, 0x0, 0x0⟩,
    ⟨R.THR_PARTIAL_DISCARD, 4, 1, 0x0, 0x0, 0x0, 0x0, 0x0, 0xFFFFFFFF, 0x0, 0x0⟩,
    ⟨R.THR_LINE_FLUSHED, 4, 1, 0x0, 0x0, 0x0, 0x0, 0x0, 0xFFFFFFFF, 0x0, 0x0⟩,
    ⟨R.THR_HITCH_FORCED, 4, 1, 0x0, 0x0, 0x0, 0x0, 0x0, 0xFFFFFFFF, 0x0, 0x0⟩,
    ⟨R.THR_LINE_REFUSED, 4, 1, 0x0, 0x0, 0x0, 0x0, 0x0, 0xFFFFFFFF, 0x0, 0x0⟩,
    ⟨R.THR_HITCH_MISUSE, 4, 1, 0x0, 0x0, 0x0, 0x0, 0x0, 0xFFFFFFFF, 0x0, 0x0⟩,
    ⟨R.THR_STALL_RAISED, 4, 1, 0x0, 0x0, 0x0, 0x0, 0x0, 0xFFFFFFFF, 0x0, 0x0⟩,
    ⟨R.THR_STALL_RECOVERED, 4, 1, 0x0, 0x0, 0x0, 0x0, 0x0, 0xFFFFFFFF, 0x0, 0x0⟩,
    ⟨R.THR_STATE, 4, 2048, 0x4, 0x0, 0x0, 0x0, 0x0, 0x0, 0x0, 0x0⟩,
    ⟨R.TILE_STATUS, 4, 40, 0x4, 0x0, 0x0, 0x0, 0x0, 0x0, 0x0, 0x0⟩,
    ⟨R.TILE_BAD_REQUEST, 4, 1, 0x0, 0x0, 0x0, 0x0, 0x0, 0xFFFFFFFF, 0x0, 0x0⟩,
    ⟨R.TILE_KEY_REFUSED, 4, 1, 0x0, 0x0, 0x0, 0x0, 0x0, 0xFFFFFFFF, 0x0, 0x0⟩,
    ⟨R.TILE_EXHAUSTED, 4, 1, 0x0, 0x0, 0x0, 0x0, 0x0, 0xFFFFFFFF, 0x0, 0x0⟩,
    ⟨R.TILE_LEASE_ABANDONED, 4, 1, 0x0, 0x0, 0x0, 0x0, 0x0, 0xFFFFFFFF, 0x0, 0x0⟩,
    ⟨R.TILE_KEY_MISS, 4, 1, 0x0, 0x0, 0x0, 0x0, 0x0, 0xFFFFFFFF, 0x0, 0x0⟩,
    ⟨R.TILE_RESP_DISCARD, 4, 1, 0x0, 0x0, 0x0, 0x0, 0x0, 0xFFFFFFFF, 0x0, 0x0⟩,
    ⟨R.TILE_FAULT, 4, 1, 0x0, 0x0, 0x0, 0x0, 0x0, 0xFFFFFFFF, 0x0, 0x0⟩,
    ⟨R.TILE_MEM_ERROR, 4, 1, 0x0, 0x0, 0x0, 0x0, 0x0, 0xFFFFFFFF, 0x0, 0x0⟩,
    ⟨R.SEAL_STATUS, 4, 1, 0x0, 0x0, 0x0, 0x0, 0x0, 0x0, 0x0, 0x0⟩,
    ⟨R.SEAL_EPOCH, 8, 1, 0x0, 0x0, 0x0, 0x0, 0x0, 0x0, 0x0, 0x0⟩,
    ⟨R.SEAL_LAST_PUBLISHED, 8, 1, 0x0, 0xFFFFFFFFFFFFFFFF, 0x0, 0x0, 0x0, 0x0, 0x0, 0x0⟩,
    ⟨R.SEAL_PLACES, 4, 1, 0x0, 0x0, 0x0, 0x0, 0x0, 0x0, 0x0, 0x0⟩,
    ⟨R.SEAL_UNPUBLISHED, 4, 1, 0x0, 0x0, 0x0, 0x0, 0x0, 0x0, 0x0, 0x0⟩,
    ⟨R.SEAL_KNOTS, 4, 1, 0x0, 0x0, 0x0, 0x0, 0x0, 0xFFFFFFFF, 0x0, 0x0⟩,
    ⟨R.SEAL_FULL_CLOSE, 4, 1, 0x0, 0x0, 0x0, 0x0, 0x0, 0xFFFFFFFF, 0x0, 0x0⟩,
    ⟨R.SEAL_RESET_CLOSE, 4, 1, 0x0, 0x0, 0x0, 0x0, 0x0, 0xFFFFFFFF, 0x0, 0x0⟩,
    ⟨R.SEAL_DIP_KNOTS, 4, 1, 0x0, 0x0, 0x0, 0x0, 0x0, 0xFFFFFFFF, 0x0, 0x0⟩,
    ⟨R.SEAL_DUP_SUPPRESSED, 4, 1, 0x0, 0x0, 0x0, 0x0, 0x0, 0xFFFFFFFF, 0x0, 0x0⟩,
    ⟨R.SEAL_PLACE_WAIT, 4, 1, 0x0, 0x0, 0x0, 0x0, 0x0, 0xFFFFFFFF, 0x0, 0x0⟩,
    ⟨R.SEAL_EXTENDED, 4, 1, 0x0, 0x0, 0x0, 0x0, 0x0, 0xFFFFFFFF, 0x0, 0x0⟩ ]

/-- Register table, part 6. -/
def regTable6 : List RegInfo :=
  [ ⟨R.SWEEP_STATUS, 4, 1, 0x0, 0x0, 0x0, 0x0, 0x0, 0x0, 0x0, 0x0⟩,
    ⟨R.SWEEP_VERIFIED, 8, 1, 0x0, 0x0, 0x0, 0x0, 0x0, 0x0, 0x0, 0x0⟩,
    ⟨R.SWEEP_REPAIRED, 4, 1, 0x0, 0x0, 0x0, 0x0, 0x0, 0xFFFFFFFF, 0x0, 0x0⟩,
    ⟨R.SWEEP_UNREPAIRED, 4, 1, 0x0, 0x0, 0x0, 0x0, 0x0, 0xFFFFFFFF, 0x0, 0x0⟩,
    ⟨R.SWEEP_SUPERSEDED, 4, 1, 0x0, 0x0, 0x0, 0x0, 0x0, 0xFFFFFFFF, 0x0, 0x0⟩,
    ⟨R.SWEEP_SKIPPED, 4, 1, 0x0, 0x0, 0x0, 0x0, 0x0, 0xFFFFFFFF, 0x0, 0x0⟩,
    ⟨R.SWEEP_PLACE_WAIT, 4, 1, 0x0, 0x0, 0x0, 0x0, 0x0, 0xFFFFFFFF, 0x0, 0x0⟩,
    ⟨R.TRANSCRYPT_DONE, 4, 1, 0x0, 0x0, 0x0, 0x0, 0x0, 0xFFFFFFFF, 0x0, 0x0⟩,
    ⟨R.TRANSCRYPT_SUPERSEDED, 4, 1, 0x0, 0x0, 0x0, 0x0, 0x0, 0xFFFFFFFF, 0x0, 0x0⟩,
    ⟨R.TRANSCRYPT_MISMATCHED, 4, 1, 0x0, 0x0, 0x0, 0x0, 0x0, 0xFFFFFFFF, 0x0, 0x0⟩,
    ⟨R.TRANSCRYPT_TOMBSTONES, 4, 1, 0x0, 0x0, 0x0, 0x0, 0x0, 0xFFFFFFFF, 0x0, 0x0⟩,
    ⟨R.SR_MBOX_ADDR, 8, 1, 0x0, 0x0, 0xFFFFFFFFFFFFFFC0, 0x0, 0x0, 0x0, 0x0, 0x0⟩,
    ⟨R.SR_MBOX_DOORBELL, 4, 1, 0x0, 0x0, 0x0, 0x0, 0x0, 0x0, 0x0, 0x1⟩,
    ⟨R.SR_MBOX_STATUS, 4, 1, 0x0, 0x0, 0x0, 0x0, 0x0, 0x0, 0x0, 0x0⟩,
    ⟨R.SR_STATUS, 4, 1, 0x0, 0xE000, 0x0, 0x0, 0x0, 0x0, 0x0, 0x0⟩,
    ⟨R.SR_CACHE_MISS, 4, 1, 0x0, 0x0, 0x0, 0x0, 0x0, 0xFFFFFFFF, 0x0, 0x0⟩,
    ⟨R.SR_LEASE_GRANTED, 4, 1, 0x0, 0x0, 0x0, 0x0, 0x0, 0xFFFFFFFF, 0x0, 0x0⟩,
    ⟨R.SR_LEASE_EXHAUSTED, 4, 1, 0x0, 0x0, 0x0, 0x0, 0x0, 0xFFFFFFFF, 0x0, 0x0⟩,
    ⟨R.SR_SUPPLY_LOW, 4, 1, 0x0, 0x0, 0x0, 0x0, 0x0, 0xFFFFFFFF, 0x0, 0x0⟩,
    ⟨R.SR_LEAF_BLOCKS, 4, 1, 0x0, 0x0, 0x0, 0x0, 0x0, 0xFFFFFFFF, 0x0, 0x0⟩,
    ⟨R.SR_UNLOCK_FAILED, 4, 1, 0x0, 0x0, 0x0, 0x0, 0x0, 0xFFFFFFFF, 0x0, 0x0⟩,
    ⟨R.SR_ENTROPY_FAIL, 4, 1, 0x0, 0x0, 0x0, 0x0, 0x0, 0xFFFFFFFF, 0x0, 0x0⟩,
    ⟨R.SR_MBOX_IGNORED, 4, 1, 0x0, 0x0, 0x0, 0x0, 0x0, 0xFFFFFFFF, 0x0, 0x0⟩,
    ⟨R.STORE_STATUS, 4, 1, 0x0, 0x0, 0x0, 0x0, 0x0, 0x0, 0x0, 0x0⟩,
    ⟨R.DRV_FABRIC, 4, 1, 0x0, 0x0, 0x0, 0x0, 0x0, 0x0, 0x0, 0x0⟩,
    ⟨R.DRV_PORT_STATUS, 4, 8, 0x4, 0x0, 0x0, 0x0, 0x0, 0x0, 0x0, 0x0⟩,
    ⟨R.DRV_CMD_TIMEOUT, 4, 1, 0x0, 0x0, 0x0, 0x0, 0x0, 0xFFFFFFFF, 0x0, 0x0⟩,
    ⟨R.DRV_CTRL_RESET, 4, 1, 0x0, 0x0, 0x0, 0x0, 0x0, 0xFFFFFFFF, 0x0, 0x0⟩,
    ⟨R.DRV_LOST, 4, 1, 0x0, 0x0, 0x0, 0x0, 0x0, 0xFFFFFFFF, 0x0, 0x0⟩,
    ⟨R.DRV_INBOUND_REFUSED, 4, 1, 0x0, 0x0, 0x0, 0x0, 0x0, 0xFFFFFFFF, 0x0, 0x0⟩,
    ⟨R.DRV_NON_NVME, 4, 1, 0x0, 0x0, 0x0, 0x0, 0x0, 0xFFFFFFFF, 0x0, 0x0⟩,
    ⟨R.STORE_TAG_MISMATCH, 4, 1, 0x0, 0x0, 0x0, 0x0, 0x0, 0xFFFFFFFF, 0x0, 0x0⟩,
    ⟨R.STORE_FIXITY_MISMATCH, 4, 1, 0x0, 0x0, 0x0, 0x0, 0x0, 0xFFFFFFFF, 0x0, 0x0⟩,
    ⟨R.STORE_REPAIRED_READ, 4, 1, 0x0, 0x0, 0x0, 0x0, 0x0, 0xFFFFFFFF, 0x0, 0x0⟩,
    ⟨R.STORE_DEGRADED_WRITE, 4, 1, 0x0, 0x0, 0x0, 0x0, 0x0, 0xFFFFFFFF, 0x0, 0x0⟩,
    ⟨R.STORE_REFUSED_DEGRADED, 4, 1, 0x0, 0x0, 0x0, 0x0, 0x0, 0xFFFFFFFF, 0x0, 0x0⟩,
    ⟨R.STORE_VOLUME_FULL, 4, 1, 0x0, 0x0, 0x0, 0x0, 0x0, 0xFFFFFFFF, 0x0, 0x0⟩,
    ⟨R.STORE_OVERLAP, 4, 1, 0x0, 0x0, 0x0, 0x0, 0x0, 0xFFFFFFFF, 0x0, 0x0⟩,
    ⟨R.JOURNAL_FULL_WAIT, 4, 1, 0x0, 0x0, 0x0, 0x0, 0x0, 0xFFFFFFFF, 0x0, 0x0⟩,
    ⟨R.JOURNAL_SINGLE_REFUSED, 4, 1, 0x0, 0x0, 0x0, 0x0, 0x0, 0xFFFFFFFF, 0x0, 0x0⟩ ]

/-- Register table, part 7. -/
def regTable7 : List RegInfo :=
  [ ⟨R.NVMT_CONN_REFUSED, 4, 1, 0x0, 0x0, 0x0, 0x0, 0x0, 0xFFFFFFFF, 0x0, 0x0⟩,
    ⟨R.NVMT_TLS_FAIL, 4, 1, 0x0, 0x0, 0x0, 0x0, 0x0, 0xFFFFFFFF, 0x0, 0x0⟩,
    ⟨R.NVMT_DIGEST_ERR, 4, 1, 0x0, 0x0, 0x0, 0x0, 0x0, 0xFFFFFFFF, 0x0, 0x0⟩,
    ⟨R.NVMT_PDU_ERR, 4, 1, 0x0, 0x0, 0x0, 0x0, 0x0, 0xFFFFFFFF, 0x0, 0x0⟩,
    ⟨R.STORE_WRITES, 8, 1, 0x0, 0x0, 0x0, 0x0, 0x0, 0x0, 0x0, 0x0⟩,
    ⟨R.STORE_READS, 8, 1, 0x0, 0x0, 0x0, 0x0, 0x0, 0x0, 0x0, 0x0⟩,
    ⟨R.JOURNAL_BLOCKS, 8, 1, 0x0, 0x0, 0x0, 0x0, 0x0, 0x0, 0x0, 0x0⟩,
    ⟨R.DBG_THREAD_SEL, 4, 1, 0x0, 0x0, 0x7FF, 0x0, 0x0, 0x0, 0x0, 0x0⟩,
    ⟨R.DBG_THREAD_CTRL, 4, 1, 0x0, 0x0, 0x0, 0x0, 0xF, 0x0, 0x0, 0x0⟩,
    ⟨R.DBG_THREAD_PC, 4, 1, 0x0, 0x0, 0x0, 0x0, 0x0, 0x0, 0x0, 0x0⟩,
    ⟨R.DBG_THREAD_STAGED, 4, 1, 0x0, 0x0, 0x0, 0x0, 0x0, 0x0, 0x0, 0x0⟩,
    ⟨R.DBG_REFUSED, 4, 1, 0x0, 0x0, 0x0, 0x0, 0x0, 0xFFFFFFFF, 0x0, 0x0⟩,
    ⟨R.DBG_TRACE_CTRL, 8, 4, 0x8, 0x0, 0x8000FFFFFFFFFFFF, 0x0, 0x0, 0x0, 0x0, 0x0⟩ ]

/-- Every register of BAR0 that the manual names. -/
def regTable : List RegInfo :=
  regTable1 ++ regTable2 ++ regTable3 ++ regTable4 ++ regTable5 ++ regTable6 ++ regTable7

/-- The register that holds offset `o`, with the copy's base offset. -/
def regAt (o : Nat) : Option (RegInfo × Nat) :=
  regTable.findSome? fun r =>
    let step := if r.stride = 0 then r.bytes else r.stride
    if r.off ≤ o ∧ (o - r.off) / step < r.count ∧ (o - r.off) % step < r.bytes then
      some (r, r.off + (o - r.off) / step * step)
    else none

/-- Reset value of the register at base offset `o`; a read of an unassigned offset returns zero (R11). -/
def regReset (o : Nat) : BitVec 64 :=
  match regTable.find? (fun r => decide (r.off ≤ o) &&
      (if r.stride = 0 then decide (o = r.off) else decide ((o - r.off) % r.stride = 0 ∧ (o - r.off) / r.stride < r.count))) with
  | some r => BitVec.ofNat 64 r.reset
  | none => 0

end Sys2Proof.Machine
end

