-- ==== Sys2Proof/Machine/Table.lean ====
section
/-!
DEFINITION. Operations on sparse tables in canonical form: keys strictly rising, no entry equal to
what an unlisted key reads as. The default is a function of the key, so that a table of registers
can carry each register's reset value.
-/

namespace Sys2Proof

/-- The value at a key; an unlisted key reads as the default `d k`. -/
def Tbl.get {α : Type} (d : Nat → α) : Tbl α → Nat → α
  | [], k => d k
  | (k', v) :: t, k => if k' = k then v else Tbl.get d t k

/-- The entry of a table under a key, if it has one. -/
def Tbl.find {α : Type} (m : Tbl α) (k : Nat) : Option α := (m.find? fun e => decide (e.1 = k)).map fun e => e.2

/-- Put a non-default value at a key, keeping the keys rising. -/
def Tbl.put {α : Type} (k : Nat) (v : α) : Tbl α → Tbl α
  | [] => [(k, v)]
  | (k', v') :: t =>
    if k < k' then (k, v) :: (k', v') :: t
    else if k = k' then (k, v) :: t
    else (k', v') :: Tbl.put k v t

/-- Remove a key. -/
def Tbl.erase {α : Type} (k : Nat) : Tbl α → Tbl α
  | [] => []
  | (k', v') :: t => if k' = k then Tbl.erase k t else (k', v') :: Tbl.erase k t

/-- Write a key: a value equal to the default removes the entry. -/
def Tbl.set {α : Type} [DecidableEq α] (d : Nat → α) (m : Tbl α) (k : Nat) (v : α) : Tbl α :=
  if v = d k then Tbl.erase k m else Tbl.put k v m

/-- The keys are strictly rising, each above `lo`. -/
def Tbl.rising {α : Type} : Option Nat → Tbl α → Bool
  | _, [] => true
  | lo, (k, _) :: t => (match lo with | none => true | some l => decide (l < k)) && Tbl.rising (some k) t

/-- Canonical form: keys strictly rising and no entry equal to its default. -/
def Tbl.wf {α : Type} [DecidableEq α] (d : Nat → α) (m : Tbl α) : Bool :=
  Tbl.rising none m && m.all (fun e => decide (e.2 ≠ d e.1))

/-- Change the value at a key. -/
def Tbl.modify {α : Type} [DecidableEq α] (d : Nat → α) (m : Tbl α) (k : Nat) (f : α → α) : Tbl α :=
  Tbl.set d m k (f (Tbl.get d m k))

/-- What an unlisted byte of memory reads as. GDDR6 and SRAM are cleared before use (R531, R538, R542);
for host memory, whose contents are the host's, the model takes zero (DESIGN CHOICE, log entry 4). -/
def memDefault (_ : Nat) : Byte := 0

/-- Canonical form of a memory. -/
def Memory.wf (m : Memory) : Bool := Tbl.wf memDefault m

/-- Read one byte. -/
def Memory.read (m : Memory) (a : Nat) : Byte := Tbl.get memDefault m a

/-- Write one byte. -/
def Memory.write (m : Memory) (a : Nat) (b : Byte) : Memory := Tbl.set memDefault m a b

/-- Read `n` consecutive bytes from `a`. -/
def Memory.readBytes (m : Memory) (a : Nat) : Nat → List Byte
  | 0 => []
  | n + 1 => Memory.read m a :: Memory.readBytes m (a + 1) n

/-- Write consecutive bytes from `a`, lowest address first. -/
def Memory.writeBytes (m : Memory) (a : Nat) : List Byte → Memory
  | [] => m
  | b :: bs => Memory.writeBytes (Memory.write m a b) (a + 1) bs

/-- Write `n` zero bytes from `a`. -/
def Memory.zero (m : Memory) (a n : Nat) : Memory := m.filter (fun e => decide (e.1 < a) || decide (a + n ≤ e.1))

end Sys2Proof
end

