-- ==== Sys2Proof/Syntax.lean ====
section
/-!
DEFINITION. What the block accepts: the commands, events and instructions of spec/opcode_table.json,
one constructor of `Instr` a row, with the operands each carries.
-/

namespace Sys2Proof

/-- The path an Ehrenan command packet came by (R74). -/
inductive Path where
  | frontDoor
  | roomRing (room : Nat)
  | mctp
  | mailbox
  deriving DecidableEq, Repr

/-- How the read of a packet's parameter block ended (R80): `short` is an MCTP message with fewer inline bytes than PARAM_LEN (R78). -/
inductive ParamDma where
  | done
  | timedOut
  | aborted
  | short
  deriving DecidableEq, Repr

/-- The 16-byte time structure (R5). -/
structure Time where
  sec  : Nat
  ns   : Nat
  frac : Nat
  deriving DecidableEq, Repr

/-- An Ehrenan command packet (R79): the header's fields and the parameter block that PARAM_LEN and
PARAM_PTR name, as the device has read it. `entry` is the host address of the packet's own header and
`pass` the pass parity of its ring, for the in-place reply; none where the path has no ring entry. -/
structure Packet where
  path     : Path
  flags    : BitVec 16
  tag      : BitVec 32
  atTime   : Time
  rep      : BitVec 32
  room     : Nat
  params   : List Byte
  paramDma : ParamDma
  replyPtr : Nat
  replyLen : Nat
  entry    : Option Nat
  pass     : Bool
  deriving DecidableEq, Repr

/-- What a memory write request brings (R42): its data, its T bit (R71) and whether it is poisoned (R60). -/
structure Payload where
  data     : BitVec 64
  tbit     : Bool
  poisoned : Bool
  deriving DecidableEq, Repr

/-- A memory read request: 8 bytes rather than 4 (R42), and its T bit (R71). -/
structure Access where
  wide : Bool
  tbit : Bool
  deriving DecidableEq, Repr

/-- The guard and the executing thread of a Dreko instruction (R331): bit 3 NEG, bits 2 to 0 the predicate. -/
structure Issue where
  thread : Fin 2048
  guard  : BitVec 4
  deriving DecidableEq, Repr

/-- Number of a g register (R327). -/
abbrev Greg := Fin 32
/-- Number of a vector register. -/
abbrev Vreg := Fin 8
/-- Number of a predicate. -/
abbrev Preg := Fin 8
/-- A pair operand (R332): pair k is v(2k), v(2k+1). -/
abbrev Vpair := Fin 4
/-- A TILE field that names a tile (R338): 0 to 31 for C0 to C31, 32 to 39 for D0 to D7. -/
abbrev TileNo := Fin 40

/-- What enumeration finds at a function of the drive fabric (R474, R513): its root port, whether it stands directly below it,
whether it is an NVMe controller, and what Identify returns. -/
structure DriveInfo where
  port     : Nat
  direct   : Bool
  nvme     : Bool
  serial   : List Byte
  blocks   : Nat
  lbaOk    : Bool
  vwc      : Bool
  trim     : Bool
  mdts     : Nat
  width    : Nat
  rate     : Nat
  degraded : Bool
  deriving DecidableEq, Repr


/-- The commands, events and instructions the block takes: one constructor a row of spec/opcode_table.json. -/
inductive Instr where
  /-- DEV_IDENTIFY (R86). Returns identity, serial number and firmware versions. -/
  | devIdentify (p : Packet)
  /-- DEV_STATUS (R86). Returns global, generation, power, store, strongroom and replay status. -/
  | devStatus (p : Packet)
  /-- DEV_RESET (R571). Performs a warm restart or a cold reset and replies as its mode states. -/
  | devReset (p : Packet)
  /-- CFG_COMMIT (R29). Turns the staging store into the next configuration generation and distributes it. -/
  | cfgCommit (p : Packet)
  /-- CFG_ROLLBACK (R33). Reinstates the previous live generation under its original number. -/
  | cfgRollback (p : Packet)
  /-- DEVICE_PROFILE (R36). Stages the Compact or Full profile before the first commit after reset. -/
  | deviceProfile (p : Packet)
  /-- CFG_DISCARD (R85). Empties the staging store. -/
  | cfgDiscard (p : Packet)
  /-- CFG_QUERY (R87). Returns staged, current or previous settings of one object as a command parameter block. -/
  | cfgQuery (p : Packet)
  /-- ROOM_QUERY (R108). Returns a room's state, limits and running long-running commands. -/
  | roomQuery (p : Packet)
  /-- ROOM_FURNISH (R104). Stages a room's PASID, limits and SRAM reservation, moving it from vacant to furnished at commit. -/
  | roomFurnish (p : Packet)
  /-- ROOM_OPEN (R98). Self-committing move of a furnished room to open. -/
  | roomOpen (p : Packet)
  /-- ROOM_CLOSE (R102). Self-committing move of an open room to furnished; its rings stop fetching. -/
  | roomClose (p : Packet)
  /-- ROOM_RESET (R114). Starts a room reset: the room enters resetting and its drain budget begins. -/
  | roomReset (p : Packet)
  /-- ROOM_VACATE (R117). Releases a furnished room's allocations and detaches its key domains. -/
  | roomVacate (p : Packet)
  /-- ROOM_FREEZE (R118). Moves an open room to frozen and stops work-ring fetching. -/
  | roomFreeze (p : Packet)
  /-- ROOM_SAVE (R120). Accepts a save of a frozen room and waits for its in-flight work to drain. -/
  | roomSave (p : Packet)
  /-- ROOM_SAVE_DRAINED (R120). Once ROOM.INFLIGHT reaches 0, discards held packets and writes the encrypted saved state, MAGIC last. -/
  | roomSaveDrained (room : Fin 1024)
  /-- ROOM_RESTORE (R122). Checks and loads a saved state into a vacant room, leaving it frozen. -/
  | roomRestore (p : Packet)
  /-- ROOM_THAW (R125). Moves a frozen room to open and delivers held packets. -/
  | roomThaw (p : Packet)
  /-- ROOM_DOZE (R151). Marks the room dozing or awake and sets WAKE_ON_COMPLETION. -/
  | roomDoze (p : Packet)
  /-- ROOM_MSG_SET (R109). Stages the room's 16 interrupt message store entries. -/
  | roomMsgSet (p : Packet)
  /-- ROOM_POLICY (R111). Stages the room's drain budget, error policies and outstanding-read limit. -/
  | roomPolicy (p : Packet)
  /-- ROOM_DIRTY_LOG (R119). Starts, stops or fetches the room's DMA dirty-page log. -/
  | roomDirtyLog (p : Packet)
  /-- RING_CREATE (R128). Stages creation of room or owner rings and assigns global numbers. -/
  | ringCreate (p : Packet)
  /-- RING_DESTROY (R158). Stages removal of disabled rings. -/
  | ringDestroy (p : Packet)
  /-- RING_ENABLE (R156). Resumes fetching at the published head, skipping entries that already hold completions. -/
  | ringEnable (p : Packet)
  /-- RING_DISABLE (R155). Stops fetching, finishes entries past their point of no return and discards the rest. -/
  | ringDisable (p : Packet)
  /-- RING_MODERATE (R148). Sets a ring's moderation timer and count. -/
  | ringModerate (p : Packet)
  /-- RING_WEIGHT (R147). Stages weight and burst of rings and rooms. -/
  | ringWeight (p : Packet)
  /-- RING_RX_MODE (R157). Sets a receive ring to drop or hold with a hold limit. -/
  | ringRxMode (p : Packet)
  /-- PORT_CONFIG (R601). Stages a port's speed, medium, MTU, flow control and lane map. -/
  | portConfig (p : Packet)
  /-- PORT_ADMIN (R601). Self-committing administrative up or down of a port. -/
  | portAdmin (p : Packet)
  /-- PORT_QUERY (R178). Returns a port's link state, training result and PTP settings. -/
  | portQuery (p : Packet)
  /-- PORT_PTP (R176). Stages a port's timestamp mode, reference and asymmetry. -/
  | portPtp (p : Packet)
  /-- CLS_BANK_LOAD (R229). Fills an unreferenced table bank from host memory. -/
  | clsBankLoad (p : Packet)
  /-- CLS_BANK_SELECT (R229). Stages the table banks for the next generation. -/
  | clsBankSelect (p : Packet)
  /-- CLS_KEY_PROFILE (R207). Stages a key profile or the selection map. -/
  | clsKeyProfile (p : Packet)
  /-- CLS_HASH_SET (R223). Stages a hash profile with its Toeplitz key and indirection table. -/
  | clsHashSet (p : Packet)
  /-- CLS_EXCEPTION (R202). Stages exception actions, alternate tunnel ports and default actions. -/
  | clsException (p : Packet)
  /-- CLS_TUNNEL (R241). Stages tunnel entries, paths or device-owned addresses. -/
  | clsTunnel (p : Packet)
  /-- CLS_MIRROR (R247). Stages mirror sessions. -/
  | clsMirror (p : Packet)
  /-- TM_NODE_SET (R268). Stages traffic manager node settings. -/
  | tmNodeSet (p : Packet)
  /-- TM_SHAPER_RATE (R279). Self-committing change of shaper rates, optionally forgiving debt. -/
  | tmShaperRate (p : Packet)
  /-- TM_POLICER_SET (R280). Stages ingress policers. -/
  | tmPolicerSet (p : Packet)
  /-- TM_GATE_LIST (R283). Stages a port's gate control list. -/
  | tmGateList (p : Packet)
  /-- TM_TELEMETRY (R289). Stages the depth and delay telemetry sweep. -/
  | tmTelemetry (p : Packet)
  /-- TIME_SET (R174). Replaces the time base or its tick source and re-evaluates the pending store. -/
  | timeSet (p : Packet)
  /-- TIME_ADJUST (R174). Sets the tick increment and adds a signed offset to the time. -/
  | timeAdjust (p : Packet)
  /-- PERIOD_SET (R179). Stages the device period P and its phase. -/
  | periodSet (p : Packet)
  /-- SYNC_CONFIG (R600). Stages SYNC_IN enable, polarity, reacquire and offset. -/
  | syncConfig (p : Packet)
  /-- PPS_SET (R187). Self-committing setting of one PPS_OUT output. -/
  | ppsSet (p : Packet)
  /-- SCHED_CANCEL (R95). Removes a stored scheduled command by handle. -/
  | schedCancel (p : Packet)
  /-- SCHED_QUERY (R95). Lists stored and recently finished scheduled commands. -/
  | schedQuery (p : Packet)
  /-- KEY_DOMAIN_CREATE (R374). Allocates a key domain slot and creates generation 1. -/
  | keyDomainCreate (p : Packet)
  /-- KEY_DOMAIN_ROTATE (R375). Creates and makes current the next key generation. -/
  | keyDomainRotate (p : Packet)
  /-- KEY_DOMAIN_DESTROY (R376). Crypto-erases a key domain and logs its tombstone. -/
  | keyDomainDestroy (p : Packet)
  /-- KEY_DOMAIN_QUERY (R377). Returns a domain's vault record without keys and its usage counters. -/
  | keyDomainQuery (p : Packet)
  /-- KEY_IMPORT_WRAPPED (R378). Unwraps a key wrapped to the Import key into a handle or the migration key table. -/
  | keyImportWrapped (p : Packet)
  /-- KEY_SA_ADD (R379). Adds an ESP SA, MACsec SA or TLS PSK and returns its handle. -/
  | keySaAdd (p : Packet)
  /-- KEY_SA_DELETE (R379). Removes a session key by handle. -/
  | keySaDelete (p : Packet)
  /-- KEY_SEAL_NEW (R380). Generates the next seal key pair. -/
  | keySealNew (p : Packet)
  /-- SEAL_STATUS (R439). Returns the open epoch, publication and leaf state. -/
  | sealStatus (p : Packet)
  /-- SEAL_PUBKEYS (R441). Returns current and next public seal keys with a DeviceID statement. -/
  | sealPubkeys (p : Packet)
  /-- SEAL_EXPORT (R437). Writes an export stream of knots, logs, a proof or key pairs. -/
  | sealExport (p : Packet)
  /-- SEAL_HANDOVER (R442). Stops writes and publishes a HANDOVER knot to a successor. -/
  | sealHandover (p : Packet)
  /-- SEAL_ACCEPT (R443). Verifies a predecessor's handover knot and takes on its rope. -/
  | sealAccept (p : Packet)
  /-- VOL_CREATE (R484). Stages creation of a volume or replacement of a member. -/
  | volCreate (p : Packet)
  /-- VOL_DESTROY (R487). Stages removal of a volume, optionally sanitizing its members. -/
  | volDestroy (p : Packet)
  /-- NS_CREATE (R488). Stages creation, attachment or detachment of a virtual namespace. -/
  | nsCreate (p : Packet)
  /-- NS_DELETE (R489). Stages removal of a virtual namespace. -/
  | nsDelete (p : Packet)
  /-- JOURNAL_SET (R492). Stages the journal drive pair and its settings. -/
  | journalSet (p : Packet)
  /-- STORAGE_OPEN (R512). Opens the storage path once replay ends and begins or continues the rope. -/
  | storageOpen (p : Packet)
  /-- SWEEP_SET (R449). Stages fixity sweep schedules and shares of volumes. -/
  | sweepSet (p : Packet)
  /-- TRANSCRYPT_START (R456). Starts a REKEY, MOVE or PULL transcryption batch. -/
  | transcryptStart (p : Packet)
  /-- TRANSCRYPT_CANCEL (R463). Stops a batch's selection and replies once no extent is in flight. -/
  | transcryptCancel (p : Packet)
  /-- NVMT_SET (R507). Stages NVMe/TCP listeners, subsystems, exports, hosts and initiator connections. -/
  | nvmtSet (p : Packet)
  /-- DRIVE_QUERY (R513). Returns one record per drive present. -/
  | driveQuery (p : Packet)
  /-- MEM_MARCH (R536). Runs a march test on SRAM banks, the line pool or a GDDR6 range. -/
  | memMarch (p : Packet)
  /-- MEM_REGION_SET (R520). Stages the annex GDDR6 region size. -/
  | memRegionSet (p : Packet)
  /-- MEM_ERR_QUERY (R541). Returns the recent memory error log. -/
  | memErrQuery (p : Packet)
  /-- PWR_STATE (R550). Requests or holds a ladder state, optionally with a wake time. -/
  | pwrState (p : Packet)
  /-- PWR_POLICY (R550). Stages the wake budget, idle times, cold-node mode and thermal limits. -/
  | pwrPolicy (p : Packet)
  /-- DBG_NONCE (R386). Returns a fresh unlock nonce. -/
  | dbgNonce (p : Packet)
  /-- DBG_UNLOCK (R386). Checks an unlock token and enters debug level 1 or 2. -/
  | dbgUnlock (p : Packet)
  /-- DBG_LOCK (R385). Returns to debug level 0, with a cold reset from level 2. -/
  | dbgLock (p : Packet)
  /-- DBG_LEDGER (R580). Reads debug ledger entries or a cluster trace buffer. -/
  | dbgLedger (p : Packet)
  /-- DBG_STALL_POLICY (R324). Stages stall sentinel thresholds and actions of wait groups. -/
  | dbgStallPolicy (p : Packet)
  /-- FW_QUERY (R360). Returns the state of image slots and the annex region. -/
  | fwQuery (p : Packet)
  /-- FW_LOAD (R360). Writes one chunk of an image and verifies it at the last chunk. -/
  | fwLoad (p : Packet)
  /-- FW_ACTIVATE (R360). Sets TRIAL and warm-restarts into the other slot. -/
  | fwActivate (p : Packet)
  /-- ANNEX_LOAD (R361). Verifies and installs a signed annex image and starts annex threads. -/
  | annexLoad (p : Packet)
  /-- ANNEX_CORES (R303). Stages whole cores to release to annex code at the next restart. -/
  | annexCores (p : Packet)
  /-- SCHED_RELEASE (R92). The timekeeper releases a stored one-shot command at its time for execution. -/
  | schedRelease (handle : Nat)
  /-- PROGRESS_EVENT (R83). A long-running command posts a PROGRESS event at most 250 ms after the last. -/
  | progressEvent (n : Nat)
  /-- FRONTDOOR_DOORBELL (R76). An 8-byte tail write to the front door ring. -/
  | frontdoorDoorbell (v : BitVec 64)
  /-- FRONTDOOR_CTRL_WRITE (R77). Write to FRONTDOOR.CTRL that enables fetching or stops it and discards unbegun commands. -/
  | frontdoorCtrlWrite (v : BitVec 32)
  /-- RING_DOORBELL (R136). A tail write to a room work or command ring doorbell, checked and recorded. -/
  | ringDoorbell (ref : Nat) (v : Payload)
  /-- EVENT_RING_DOORBELL (R153). A consumer-head write to an event ring doorbell, optionally acknowledging an overflow. -/
  | eventRingDoorbell (room : Fin 1024) (v : Payload)
  /-- OWNER_DOORBELL (R138). A write to RINGS.OWNER_DOORBELL naming an owner ring by kind and number. -/
  | ownerDoorbell (v : BitVec 64)
  /-- OWNER_EVENT_OVERFLOW_ACK (R153). W1C write to RINGS.OWNER_EVENT_OVERFLOW that acknowledges an owner event ring overflow. -/
  | ownerEventOverflowAck (v : BitVec 32)
  /-- MBOX_DOORBELL (R387). Write of GO to SR.MBOX_DOORBELL that submits one recovery packet. -/
  | mboxDoorbell (v : BitVec 32)
  /-- REGISTER_WRITE (R7). A BAR write to a register with no row of its own, taking effect by its access code. -/
  | registerWrite (off : Nat) (wide : Bool) (v : Payload)
  /-- RC_COUNTER_READ (R8). A read of an RC counter returns its value and clears it. -/
  | rcCounterRead (off : Nat) (access : Access)
  /-- BAR_BAD_ACCESS (R42). A BAR access of an unsupported size or alignment is refused and counted. -/
  | barBadAccess (read : Bool)
  /-- TIME_NOW_LATCH (R173). A read of TIME.NOW_FRAC latches all 16 bytes of the time. -/
  | timeNowLatch
  /-- TIME_INCR_WRITE (R174). A write to TIME.INCR takes effect at the next tick, clamped to its limits. -/
  | timeIncrWrite (v : BitVec 64)
  /-- APPLY_OFFSET (R174). Write of 1 to TIME.CTRL.APPLY_OFFSET adds the signed offset to the time. -/
  | applyOffset
  /-- WIN_WRITE (R230). Entry window WRITE writes an entry body, then its control byte after acknowledgement. -/
  | winWrite
  /-- WIN_INVALIDATE (R230). Entry window INVALIDATE clears VALID and removes any cached copy. -/
  | winInvalidate
  /-- WIN_READ (R230). Entry window READ copies an entry into CLS.WIN_DATA. -/
  | winRead
  /-- HALT (R317). DBG.THREAD_CTRL.HALT halts the selected thread at its next instruction boundary. -/
  | halt
  /-- RESUME (R317). DBG.THREAD_CTRL.RESUME resumes a halted thread. -/
  | resume
  /-- STEP (R317). DBG.THREAD_CTRL.STEP issues one instruction of a halted thread. -/
  | step
  /-- RESEAT (R301). DBG.THREAD_CTRL.RESEAT restarts the selected thread at its entry point. -/
  | reseat
  /-- MSIX_TABLE_WRITE (R149). A write to an MSI-X table entry or mask releases or holds its vector's messages. -/
  | msixTableWrite (vec : Fin 2048) (field : Fin 4) (v : BitVec 32)
  /-- BME_CLEAR (R61). A configuration write clearing Bus Master Enable stops request TLPs and marks work HALTED_BME. -/
  | bmeClear (v : BitVec 16)
  /-- BME_SET (R62). Setting Bus Master Enable resumes HALTED_BME work and sends held interrupts. -/
  | bmeSet (v : BitVec 16)
  /-- CTO_VALUE_WRITE (R54). A write of the Completion Timeout Value selects a timeout or is refused. -/
  | ctoValueWrite (v : BitVec 16)
  /-- FLR_INITIATE (R572). A configuration write initiating FLR abandons tags, stops work and resets the function. -/
  | flrInitiate
  /-- D3HOT_ENTRY (R150). PF0 enters D3hot; DMA stops and writes are held, with PME as PME_En allows. -/
  | d3hotEntry (v : BitVec 16)
  /-- D0_RETURN (R150). PF0 returns to D0 and held writes and interrupts are issued in order. -/
  | d0Return (v : BitVec 16)
  /-- COMPLETION_RECEIVED (R55). A completion TLP arrives and is delivered, discarded or counted by its tag's state. -/
  | completionReceived (tag : Nat) (status : Fin 4) (final : Bool)
  /-- COMPLETION_TIMEOUT (R56). A busy tag reaches its completion timeout, fails its work item and enters quarantine. -/
  | completionTimeout (tag : Nat)
  /-- QUARANTINE_END (R55). A quarantined tag's quarantine ends and the tag becomes free. -/
  | quarantineEnd (tag : Nat)
  /-- ATS_TRANSLATION_COMPLETION (R66). A Translation Completion arrives and the device uses or refuses the translation. -/
  | atsTranslationCompletion (room : Nat) (page : Nat) (phys : Option Nat)
  /-- ATS_INVALIDATION_REQUEST (R67). An Invalidation Request stops use of matching translation entries. -/
  | atsInvalidationRequest (room : Nat) (page : Nat) (pages : Nat) (itag : Nat) (global : Bool)
  /-- INVALIDATION_COMPLETION (R67). The device sends Invalidation Completion once requests using the entries have ended. -/
  | invalidationCompletion (itag : Nat)
  /-- DOE_OBJECT_WRITE (R68). A data object written to the DOE mailbox is handled and answered. -/
  | doeObjectWrite (bytes : List Byte)
  /-- DOE_ABORT (R68). A DOE Abort clears the mailbox. -/
  | doeAbort
  /-- SPDM_REQUEST (R69). An SPDM request over DOE or MCTP is answered by the SPDM responder. -/
  | spdmRequest (bytes : List Byte) (mctp : Bool)
  /-- IDE_KM_MESSAGE (R70). An IDE_KM message programs or controls an IDE stream. -/
  | ideKmMessage (stream : Fin 17) (op : Fin 3) (key : List Byte)
  /-- IDE_STREAM_INSECURE (R70). A selective IDE stream leaves the Secure state and its locked rooms enter error. -/
  | ideStreamInsecure (stream : Fin 17)
  /-- LOCK_INTERFACE_REQUEST (R127). Locks a furnished or open room's TDI to CONFIG_LOCKED. -/
  | lockInterfaceRequest (room : Fin 1024) (stream : Fin 17)
  /-- START_INTERFACE_REQUEST (R127). Moves a CONFIG_LOCKED TDI to RUN. -/
  | startInterfaceRequest (room : Fin 1024)
  /-- STOP_INTERFACE_REQUEST (R127). Performs a room reset that ends with the TDI CONFIG_UNLOCKED. -/
  | stopInterfaceRequest (room : Fin 1024)
  /-- TDI_ERROR (R111). A TDISP message moves a room's TDI to ERROR and the room enters error with cause 0x05. -/
  | tdiError (room : Fin 1024)
  /-- L0P_NARROW (R45). Traffic below 40 % for 50 µs narrows the host link width. -/
  | l0pNarrow
  /-- L0P_WIDEN (R45). Traffic above 75 % for 2 µs widens the host link. -/
  | l0pWiden
  /-- ASPM_L1_ENTRY (R46). The host link enters ASPM L1 after 10 µs without traffic. -/
  | aspmL1Entry
  /-- PME_TURN_OFF (R549). The host's PME_Turn_Off makes the device complete Nap entry, acknowledge and go to Slumber. -/
  | pmeTurnOff
  /-- PERST_ASSERT (R567). PERST# assertion without a prior PME_Turn_Off causes a conventional reset. -/
  | perstAssert
  /-- PERST_DEASSERT (R546). PERST# deassertion starts link training and wakes the device from Slumber or deeper. -/
  | perstDeassert
  /-- HOT_RESET (R567). A hot reset on the host link causes a conventional reset. -/
  | hotReset
  /-- PCIE_LINK_DOWN (R567). Host link down other than L2 entry frees tags and causes a conventional reset. -/
  | pcieLinkDown
  /-- MCTP_MESSAGE (R78). An assembled MCTP message is dispatched by type or dropped when oversize. -/
  | mctpMessage (type : BitVec 8) (bytes : List Byte)
  /-- SET_ENDPOINT_ID (R78). MCTP control Set Endpoint ID assigns the device's endpoint ID. -/
  | setEndpointId (eid : BitVec 8)
  /-- GET_TID (R97). PLDM GetTID. -/
  | getTid (bytes : List Byte)
  /-- GET_PLDM_VERSION (R97). PLDM GetPLDMVersion. -/
  | getPldmVersion (bytes : List Byte)
  /-- GET_PLDM_TYPES (R97). PLDM GetPLDMTypes. -/
  | getPldmTypes (bytes : List Byte)
  /-- GET_PLDM_COMMANDS (R97). PLDM GetPLDMCommands. -/
  | getPldmCommands (bytes : List Byte)
  /-- GET_PDR_REPOSITORY_INFO (R97). PLDM GetPDRRepositoryInfo. -/
  | getPdrRepositoryInfo (bytes : List Byte)
  /-- GET_PDR (R97). PLDM GetPDR. -/
  | getPdr (bytes : List Byte)
  /-- GET_SENSOR_READING (R97). PLDM GetSensorReading returns a numeric sensor. -/
  | getSensorReading (bytes : List Byte)
  /-- GET_STATE_SENSOR_READINGS (R97). PLDM GetStateSensorReadings returns state sensors. -/
  | getStateSensorReadings (bytes : List Byte)
  /-- POLL_FOR_PLATFORM_EVENT_MESSAGE (R97). PLDM poll returns a queued sensor event. -/
  | pollForPlatformEventMessage (bytes : List Byte)
  /-- PLDM_SENSOR_UPDATE (R97). A sensor updates at its interval and a threshold crossing queues an event. -/
  | pldmSensorUpdate (sensor : Fin 13) (v : Nat)
  /-- SMBUS_TIMEOUT_RESET (R595). SMB_SCL held low for 25 ms to 35 ms resets the device's bus interface. -/
  | smbusTimeoutReset
  /-- JTAG_IDCODE (R385). JTAG IDCODE instruction. -/
  | jtagIdcode
  /-- JTAG_BYPASS (R385). JTAG BYPASS instruction. -/
  | jtagBypass
  /-- JTAG_SAMPLE_PRELOAD (R385). JTAG SAMPLE/PRELOAD instruction. -/
  | jtagSamplePreload (bytes : List Byte)
  /-- JTAG_EXTEST (R385). JTAG EXTEST, served only after a cold reset that it forces. -/
  | jtagExtest
  /-- JTAG_TRST (R597). TRST# low resets the TAP asynchronously. -/
  | jtagTrst
  /-- ISLAND_ADOPT (R26). An island adopts a committed generation at its boundary and sets its applied bit. -/
  | islandAdopt (island : Fin 18)
  /-- GEN_ACK (R27). Firmware acknowledges GEN_ADOPT for a cluster, and the housekeeper marks it applied. -/
  | genAck (cluster : Fin 4)
  /-- COMMIT_STALL_TIMEOUT (R32). An island not adopted or deferred 1 ms after distribution stalls the commit. -/
  | commitStallTimeout
  /-- GENERATION_RETIRE (R29). The older generation retires when drained or 50 µs after the reply. -/
  | generationRetire
  /-- RX_FRAME (R167). A frame received at a port MAC is checked, timestamped and passed to parse slices. -/
  | rxFrame (port : Fin 4) (bytes : List Byte) (fcsOk : Bool) (corrected : Nat) (uncorrectable : Nat)
  /-- PAUSE_FRAME_RECEIVE (R169). A received pause or PFC frame pauses transmission of its enabled classes. -/
  | pauseFrameReceive (port : Fin 4) (bytes : List Byte)
  /-- PAUSE_QUANTA_EXPIRY (R169). A received pause's quanta expire and the class may transmit again. -/
  | pauseQuantaExpiry (port : Fin 4) (cls : Fin 8)
  /-- PFC_XOFF_REPEAT (R169). XOFF is repeated every half quanta time while occupancy stays above XON. -/
  | pfcXoffRepeat (port : Fin 4) (cls : Fin 8)
  /-- LINK_UP (R164). A port completes training, comes up and posts PORT_LINK. -/
  | linkUp (port : Fin 4)
  /-- LINK_DOWN (R165). A port loses lock or sees a fault, declares link down and retrains. -/
  | linkDown (port : Fin 4) (fault : Fin 3)
  /-- MODULE_READY (R164). A C2M module reports ready and link-up timing starts. -/
  | moduleReady (port : Fin 4)
  /-- TIME_REF_LOST (R172). No TIME_REF edge for 1 µs switches the tick to REFCLK_SYS. -/
  | timeRefLost
  /-- TIME_REF_RESTORED (R172). After 1 s of valid edges the tick returns to TIME_REF. -/
  | timeRefRestored
  /-- SYNC_EDGE (R181). A SYNC_IN edge is captured and qualifies, moves the boundary, or counts as outlier. -/
  | syncEdge (rising : Bool)
  /-- SYNC_WINDOW_CLOSE (R181). A sync window closes, counting a miss when no pulse qualified. -/
  | syncWindowClose
  /-- PERIOD_BOUNDARY (R183). A period boundary fires: latch, count, gate restart, epoch close and staged period settings. -/
  | periodBoundary
  /-- GATE_ENTRY_CHANGE (R283). A gate list entry's duration ends and the next entry's gates take effect. -/
  | gateEntryChange (port : Fin 4)
  /-- PPS_PULSE (R187). A PPS_OUT pulse edge appears at its programmed instant. -/
  | ppsPulse (out : Fin 4)
  /-- AGE_CLOCK_ADVANCE (R214). The age clock advances every 2^26 ns and hit cache entries write LAST_HIT. -/
  | ageClockAdvance
  /-- AGING_SWEEP (R214). The 60 s aging sweep invalidates idle flow entries. -/
  | agingSweep
  /-- PACKET_PARSE (R219). A packet enters a parse slice, is stamped, parsed, looked up and hashed. -/
  | packetParse (n : Nat)
  /-- FLOW_TABLE_LOOKUP_DONE (R211). A GDDR6 flow lookup after a cache miss returns and fills the cache. -/
  | flowTableLookupDone (n : Nat)
  /-- SWITCH_PASS (R237). The switch stage applies a packet's action record in its step order. -/
  | switchPass
  /-- SERVICE_PACKET (R251). A service thread processes a packet for the named room's SA, SC or connection. -/
  | servicePacket (t : Fin 2048)
  /-- BACK_STAIR_PACKET (R262). A back-stair thread answers, reassembles or delivers an admitted packet. -/
  | backStairPacket
  /-- REASM_TIMEOUT (R258). A datagram incomplete 2 s after its first fragment is discarded. -/
  | reasmTimeout
  /-- TM_ENQUEUE (R270). The traffic manager enqueues or drops a frame at its leaf. -/
  | tmEnqueue
  /-- TM_SCHEDULE_DECISION (R274). A destination's per-cycle scheduling decision sends one eligible frame. -/
  | tmScheduleDecision (dest : Fin 6)
  /-- RX_HOLD_LIMIT_EXPIRY (R157). A held packet waits HOLD_LIMIT and is dropped at the queue head. -/
  | rxHoldLimitExpiry (ref : Nat)
  /-- TELEMETRY_VISIT (R290). A sweep visits one leaf and writes a record into the telemetry ring. -/
  | telemetryVisit
  /-- TX_DESCRIPTOR (R140). The ring engine fetches a transmit descriptor and hands its frame to the parse slices. -/
  | txDescriptor (ref : Nat)
  /-- RX_FRAME_DELIVERY (R141). The ring engine writes a frame from destination 4 into posted receive buffers. -/
  | rxFrameDelivery
  /-- STORE_WRITE (R499). A store write descriptor hashes, encrypts, journals and writes an extent. -/
  | storeWrite (ref : Nat)
  /-- STORE_READ (R501). A store read descriptor reads, checks and returns extents. -/
  | storeRead (ref : Nat)
  /-- STORE_FLUSH (R502). A flush completes once earlier writes of the ring have completed. -/
  | storeFlush (ref : Nat)
  /-- STORE_DEALLOCATE (R502). A deallocate journals and removes whole extents from the map. -/
  | storeDeallocate (ref : Nat)
  /-- STORE_VERIFY (R502). A verify re-hashes one extent and logs a Sweep-verified record. -/
  | storeVerify (ref : Nat)
  /-- MODERATION_FIRE (R148). A ring's moderation fires by count or timer, posting COMPLETION and making its vector due. -/
  | moderationFire (ref : Nat)
  /-- HELD_INTERRUPT_RELEASE (R149). When no hold remains, each held vector sends one message. -/
  | heldInterruptRelease
  /-- ROOM_RESET_DRAIN_END (R114). The drain budget ends or in-flight work reaches 0, and the room is squashed and reset. -/
  | roomResetDrainEnd (room : Fin 1024)
  /-- STALL_SENTINEL_EVAL (R322). Every 1 µs the sentinel tests watched wait groups and reports or recovers stalls. -/
  | stallSentinelEval (cluster : Fin 4)
  /-- LINE_MESSAGE_DELIVER (R310). A message becomes available to a thread blocked in LGET, which receives it. -/
  | lineMessageDeliver (line : Nat)
  /-- LEND_ACCEPT (R309). A blocked END beat is accepted when its line has room. -/
  | lendAccept (line : Nat)
  /-- HITCH_GRANT (R313). The hitch unit grants a freed unit to the head of the hitch queue. -/
  | hitchGrant (hitch : Nat)
  /-- DEADLINE_TIMEOUT (R310). An LGETD or HTIED deadline passes and returns TIMEOUT. -/
  | deadlineTimeout (t : Fin 2048)
  /-- PARK_WAKE (R341). A parked thread's deadline is reached and it becomes ready. -/
  | parkWake (t : Fin 2048)
  /-- LH_READY_CHANGE (R315). Line and hitch service starts or stops; stopping discards staged messages and frees hitches. -/
  | lhReadyChange (up : Bool)
  /-- ADD (R334). gd := ga + gb. -/
  | add (x : Issue) (d : Greg) (a : Greg) (b : Greg)
  /-- SUB (R334). gd := ga − gb. -/
  | sub (x : Issue) (d : Greg) (a : Greg) (b : Greg)
  /-- AND (R334). Bitwise AND. -/
  | and (x : Issue) (d : Greg) (a : Greg) (b : Greg)
  /-- OR (R334). Bitwise OR. -/
  | or (x : Issue) (d : Greg) (a : Greg) (b : Greg)
  /-- XOR (R334). Bitwise XOR. -/
  | xor (x : Issue) (d : Greg) (a : Greg) (b : Greg)
  /-- SHL (R334). Shift left by register. -/
  | shl (x : Issue) (d : Greg) (a : Greg) (b : Greg)
  /-- SHR (R334). Logical shift right by register. -/
  | shr (x : Issue) (d : Greg) (a : Greg) (b : Greg)
  /-- SRA (R334). Arithmetic shift right by register. -/
  | sra (x : Issue) (d : Greg) (a : Greg) (b : Greg)
  /-- MUL (R334). Low 64 bits of the product. -/
  | mul (x : Issue) (d : Greg) (a : Greg) (b : Greg)
  /-- MULHU (R334). High 64 bits of the unsigned product. -/
  | mulhu (x : Issue) (d : Greg) (a : Greg) (b : Greg)
  /-- DIVU (R334). Unsigned quotient on the core's divider. -/
  | divu (x : Issue) (d : Greg) (a : Greg) (b : Greg)
  /-- REMU (R334). Unsigned remainder on the core's divider. -/
  | remu (x : Issue) (d : Greg) (a : Greg) (b : Greg)
  /-- CLZ (R334). Count leading zero bits. -/
  | clz (x : Issue) (d : Greg) (a : Greg)
  /-- POPC (R334). Count bits set. -/
  | popc (x : Issue) (d : Greg) (a : Greg)
  /-- BSWAP (R334). Reverse the 8 bytes. -/
  | bswap (x : Issue) (d : Greg) (a : Greg)
  /-- SEXTB (R334). Sign-extend bits [7:0]. -/
  | sextb (x : Issue) (d : Greg) (a : Greg)
  /-- SEXTH (R334). Sign-extend bits [15:0]. -/
  | sexth (x : Issue) (d : Greg) (a : Greg)
  /-- SEXTW (R334). Sign-extend bits [31:0]. -/
  | sextw (x : Issue) (d : Greg) (a : Greg)
  /-- ADDI (R334). gd := ga + immediate. -/
  | addi (x : Issue) (d : Greg) (a : Greg) (imm : BitVec 12)
  /-- ANDI (R334). Bitwise AND with immediate. -/
  | andi (x : Issue) (d : Greg) (a : Greg) (imm : BitVec 12)
  /-- ORI (R334). Bitwise OR with immediate. -/
  | ori (x : Issue) (d : Greg) (a : Greg) (imm : BitVec 12)
  /-- XORI (R334). Bitwise XOR with immediate. -/
  | xori (x : Issue) (d : Greg) (a : Greg) (imm : BitVec 12)
  /-- SHLI (R334). Shift left by immediate. -/
  | shli (x : Issue) (d : Greg) (a : Greg) (n : BitVec 6)
  /-- SHRI (R334). Logical shift right by immediate. -/
  | shri (x : Issue) (d : Greg) (a : Greg) (n : BitVec 6)
  /-- SRAI (R334). Arithmetic shift right by immediate. -/
  | srai (x : Issue) (d : Greg) (a : Greg) (n : BitVec 6)
  /-- LDI (R334). gd := signed immediate. -/
  | ldi (x : Issue) (d : Greg) (imm : BitVec 17)
  /-- LSH16 (R334). gd := (gd << 16) OR 16-bit immediate. -/
  | lsh16 (x : Issue) (d : Greg) (imm : BitVec 16)
  /-- CMP_EQ (R334). Predicate := ga = gb. -/
  | cmpEq (x : Issue) (d : Preg) (a : Greg) (b : Greg)
  /-- CMP_NE (R334). Predicate := ga ≠ gb. -/
  | cmpNe (x : Issue) (d : Preg) (a : Greg) (b : Greg)
  /-- CMP_LTU (R334). Predicate := ga < gb unsigned. -/
  | cmpLtu (x : Issue) (d : Preg) (a : Greg) (b : Greg)
  /-- CMP_LTS (R334). Predicate := ga < gb signed. -/
  | cmpLts (x : Issue) (d : Preg) (a : Greg) (b : Greg)
  /-- CMP_GEU (R334). Predicate := ga ≥ gb unsigned. -/
  | cmpGeu (x : Issue) (d : Preg) (a : Greg) (b : Greg)
  /-- CMP_GES (R334). Predicate := ga ≥ gb signed. -/
  | cmpGes (x : Issue) (d : Preg) (a : Greg) (b : Greg)
  /-- CMP_TEST (R334). Predicate := (ga AND gb) ≠ 0. -/
  | cmpTest (x : Issue) (d : Preg) (a : Greg) (b : Greg)
  /-- CMPI_EQ (R334). Predicate := ga = immediate. -/
  | cmpiEq (x : Issue) (d : Preg) (a : Greg) (imm : BitVec 12)
  /-- CMPI_NE (R334). Predicate := ga ≠ immediate. -/
  | cmpiNe (x : Issue) (d : Preg) (a : Greg) (imm : BitVec 12)
  /-- CMPI_LTS (R334). Predicate := ga < immediate signed. -/
  | cmpiLts (x : Issue) (d : Preg) (a : Greg) (imm : BitVec 12)
  /-- CMPI_LTU (R334). Predicate := ga < immediate unsigned. -/
  | cmpiLtu (x : Issue) (d : Preg) (a : Greg) (imm : BitVec 12)
  /-- PAND (R334). Predicate AND. -/
  | pand (x : Issue) (d : Preg) (a : Preg) (b : Preg)
  /-- POR (R334). Predicate OR. -/
  | por (x : Issue) (d : Preg) (a : Preg) (b : Preg)
  /-- PXOR (R334). Predicate XOR. -/
  | pxor (x : Issue) (d : Preg) (a : Preg) (b : Preg)
  /-- PNOT (R334). Predicate NOT. -/
  | pnot (x : Issue) (d : Preg) (a : Preg)
  /-- PGET (R334). Copies the predicates into gd. -/
  | pget (x : Issue) (d : Greg)
  /-- PSET (R334). Sets p1 to p7 from ga. -/
  | pset (x : Issue) (a : Greg)
  /-- J (R333). Branch by a signed instruction offset. -/
  | j (x : Issue) (off : BitVec 22)
  /-- JAL (R333). Branch and write the return address to g30. -/
  | jal (x : Issue) (off : BitVec 22)
  /-- JR (R334). Jump to ga and write the return address. -/
  | jr (x : Issue) (d : Greg) (a : Greg)
  /-- LDB (R347). Load 1 byte, zero-extended. -/
  | ldb (x : Issue) (d : Greg) (a : Greg) (imm : BitVec 12)
  /-- LDH (R347). Load 2 bytes, zero-extended. -/
  | ldh (x : Issue) (d : Greg) (a : Greg) (imm : BitVec 12)
  /-- LDW (R347). Load 4 bytes, zero-extended. -/
  | ldw (x : Issue) (d : Greg) (a : Greg) (imm : BitVec 12)
  /-- LDD (R347). Load 8 bytes. -/
  | ldd (x : Issue) (d : Greg) (a : Greg) (imm : BitVec 12)
  /-- STB (R347). Posted store of 1 byte. -/
  | stb (x : Issue) (b : Greg) (a : Greg) (imm : BitVec 12)
  /-- STH (R347). Posted store of 2 bytes. -/
  | sth (x : Issue) (b : Greg) (a : Greg) (imm : BitVec 12)
  /-- STW (R347). Posted store of 4 bytes. -/
  | stw (x : Issue) (b : Greg) (a : Greg) (imm : BitVec 12)
  /-- STD (R347). Posted store of 8 bytes. -/
  | std (x : Issue) (b : Greg) (a : Greg) (imm : BitVec 12)
  /-- VLD (R347). Load 64 bytes into a vector register. -/
  | vld (x : Issue) (d : Vreg) (a : Greg) (imm : BitVec 12)
  /-- VST (R347). Posted store of 64 bytes. -/
  | vst (x : Issue) (b : Vreg) (a : Greg) (imm : BitVec 12)
  /-- AADD (R316). Atomic fetch-and-add on scratch. -/
  | aadd (x : Issue) (d : Greg) (a : Greg) (b : Greg)
  /-- ASWP (R316). Atomic swap on scratch. -/
  | aswp (x : Issue) (d : Greg) (a : Greg) (b : Greg)
  /-- ACAS (R316). Atomic compare-and-swap on scratch. -/
  | acas (x : Issue) (d : Greg) (a : Greg) (b : Greg)
  /-- LPUT (R307). Stages a beat for a line. -/
  | lput (x : Issue) (d : Greg) (a : Greg) (b : Vreg)
  /-- LEND (R309). Stages the last beat and waits for the line unit to accept the message. -/
  | lend (x : Issue) (d : Greg) (a : Greg) (b : Vreg)
  /-- LENDT (R309). As LEND, returning FULL instead of blocking. -/
  | lendt (x : Issue) (d : Greg) (a : Greg) (b : Vreg)
  /-- LDROP (R309). Discards the staged message. -/
  | ldrop (x : Issue) (d : Greg)
  /-- LGET (R310). Receives the oldest message of a line, blocking while empty. -/
  | lget (x : Issue) (d : Greg) (a : Greg)
  /-- LGETD (R310). As LGET, with a deadline. -/
  | lgetd (x : Issue) (d : Greg) (a : Greg) (b : Greg)
  /-- LTRY (R310). As LGET, returning EMPTY at once. -/
  | ltry (x : Issue) (d : Greg) (a : Greg)
  /-- HTIE (R312). Ties one unit of a hitch, blocking until granted. -/
  | htie (x : Issue) (d : Greg) (a : Greg)
  /-- HTIED (R312). As HTIE, with a deadline. -/
  | htied (x : Issue) (d : Greg) (a : Greg) (b : Greg)
  /-- HUNTIE (R312). Unties a held hitch unit. -/
  | huntie (x : Issue) (d : Greg) (a : Greg)
  /-- HTRY (R312). Ties a hitch only when free and unqueued, otherwise TAKEN. -/
  | htry (x : Issue) (d : Greg) (a : Greg)
  /-- TPUT (R334). LPUT to a tile request line. -/
  | tput (x : Issue) (v : Vreg) (tile : TileNo)
  /-- TEND (R334). LEND to a tile request line. -/
  | tend (x : Issue) (d : Greg) (v : Vreg) (tile : TileNo)
  /-- TENDT (R334). LENDT to a tile request line. -/
  | tendt (x : Issue) (d : Greg) (v : Vreg) (tile : TileNo)
  /-- PARK (R341). Parks the thread until the time value reaches ga. -/
  | park (x : Issue) (a : Greg)
  /-- YIELD (R342). Yields issue to other ready threads of the same priority. -/
  | yield (x : Issue)
  /-- TIMENS (R341). Returns the time value. -/
  | timens (x : Issue) (d : Greg)
  /-- BRK (R343). Halts the thread at debug level 1 or 2, faults at level 0. -/
  | brk (x : Issue)
  /-- TRESEAT (R344). Reseats the thread that ga names. -/
  | treseat (x : Issue) (a : Greg)
  /-- IFLUSH (R344). Invalidates the core's instruction cache. -/
  | iflush (x : Issue)
  /-- FENCE (R306). Waits until every earlier store and atomic is acknowledged. -/
  | fence (x : Issue)
  /-- MFS (R329). Reads a system register. -/
  | mfs (x : Issue) (d : Greg) (n : BitVec 12)
  /-- MTS (R329). Writes the GEN system register. -/
  | mts (x : Issue) (a : Greg) (n : BitVec 12)
  /-- VXOR (R334). Vector XOR. -/
  | vxor (x : Issue) (d : Vreg) (a : Vreg) (b : Vreg)
  /-- VAND (R334). Vector AND. -/
  | vand (x : Issue) (d : Vreg) (a : Vreg) (b : Vreg)
  /-- VOR (R334). Vector OR. -/
  | vor (x : Issue) (d : Vreg) (a : Vreg) (b : Vreg)
  /-- VANDN (R334). Vector AND NOT. -/
  | vandn (x : Issue) (d : Vreg) (a : Vreg) (b : Vreg)
  /-- VXOR3 (R334). Three-way vector XOR into vd. -/
  | vxor3 (x : Issue) (d : Vreg) (a : Vreg) (b : Vreg)
  /-- VADD_8 (R334). Element-wise 8-bit sum. -/
  | vadd_8 (x : Issue) (d : Vreg) (a : Vreg) (b : Vreg)
  /-- VADD_16 (R334). Element-wise 16-bit sum. -/
  | vadd_16 (x : Issue) (d : Vreg) (a : Vreg) (b : Vreg)
  /-- VADD_32 (R334). Element-wise 32-bit sum. -/
  | vadd_32 (x : Issue) (d : Vreg) (a : Vreg) (b : Vreg)
  /-- VADD_64 (R334). Element-wise 64-bit sum. -/
  | vadd_64 (x : Issue) (d : Vreg) (a : Vreg) (b : Vreg)
  /-- VSUB_8 (R334). Element-wise 8-bit difference. -/
  | vsub_8 (x : Issue) (d : Vreg) (a : Vreg) (b : Vreg)
  /-- VSUB_16 (R334). Element-wise 16-bit difference. -/
  | vsub_16 (x : Issue) (d : Vreg) (a : Vreg) (b : Vreg)
  /-- VSUB_32 (R334). Element-wise 32-bit difference. -/
  | vsub_32 (x : Issue) (d : Vreg) (a : Vreg) (b : Vreg)
  /-- VSUB_64 (R334). Element-wise 64-bit difference. -/
  | vsub_64 (x : Issue) (d : Vreg) (a : Vreg) (b : Vreg)
  /-- VCLMUL (R335). Per-lane carry-less product in normal order into a pair. -/
  | vclmul (x : Issue) (d : Vpair) (a : Vreg) (b : Vreg)
  /-- VCLMUL_G (R335). Per-lane carry-less product in GCM order into a pair. -/
  | vclmulG (x : Issue) (d : Vpair) (a : Vreg) (b : Vreg)
  /-- VGFRED (R335). Per-lane reduction modulo g(x), normal order. -/
  | vgfred (x : Issue) (d : Vreg) (a : Vpair)
  /-- VGFRED_G (R335). Per-lane reduction modulo g(x), GCM order. -/
  | vgfredG (x : Issue) (d : Vreg) (a : Vpair)
  /-- VGFX (R335). Per-lane multiply by x^n, normal order. -/
  | vgfx (x : Issue) (d : Vreg) (a : Vreg) (n : BitVec 5)
  /-- VGFX_G (R335). Per-lane multiply by x^n, GCM order. -/
  | vgfxG (x : Issue) (d : Vreg) (a : Vreg) (n : BitVec 5)
  /-- VGF8MUL (R335). Byte-wise GF(2^8) product. -/
  | vgf8mul (x : Issue) (d : Vreg) (a : Vreg) (b : Vreg)
  /-- VGF8MAC (R335). Byte-wise GF(2^8) multiply-accumulate. -/
  | vgf8mac (x : Issue) (d : Vreg) (a : Vreg) (b : Vreg)
  /-- VGF8MULS (R335). Every byte times a scalar in GF(2^8). -/
  | vgf8muls (x : Issue) (d : Vreg) (a : Vreg) (b : Greg)
  /-- VGF8MACS (R335). Scalar GF(2^8) multiply-accumulate. -/
  | vgf8macs (x : Issue) (d : Vreg) (a : Vreg) (b : Greg)
  /-- VFOLD (R334). XOR of the four lanes into lane 0. -/
  | vfold (x : Issue) (d : Vreg) (a : Vreg)
  /-- VCTR32 (R334). Builds four 32-bit counter blocks. -/
  | vctr32 (x : Issue) (d : Vreg) (a : Vreg) (b : Greg)
  /-- VCTR128 (R334). Builds four 128-bit counter blocks. -/
  | vctr128 (x : Issue) (d : Vreg) (a : Vreg) (b : Greg)
  /-- VTAGEQ (R346). Constant-time 16-byte tag comparison into a predicate. -/
  | vtageq (x : Issue) (d : Preg) (a : Vreg) (b : Vreg)
  /-- VMVG (R334). Moves a 64-bit vector element to a g register. -/
  | vmvg (x : Issue) (d : Greg) (a : Vreg) (e : Fin 8)
  /-- VMVV (R334). Moves a g register into a vector element. -/
  | vmvv (x : Issue) (d : Vreg) (a : Greg) (e : Fin 8)
  /-- VBCAST (R334). Broadcasts ga to every 64-bit element. -/
  | vbcast (x : Issue) (d : Vreg) (a : Greg)
  /-- VSHUF (R334). Byte shuffle under a control vector. -/
  | vshuf (x : Issue) (d : Vreg) (a : Vreg) (b : Vreg)
  /-- VBSWAP128 (R334). Reverses byte order in each lane. -/
  | vbswap128 (x : Issue) (d : Vreg) (a : Vreg)
  /-- VZERO (R334). Clears a vector register. -/
  | vzero (x : Issue) (d : Vreg)
  /-- LHDR (R340). Forms a line message header in a vector register. -/
  | lhdr (x : Issue) (d : Vreg) (a : Greg)
  /-- AES_FWD (R393). A cipher tile request computing the forward cipher over whitened blocks. -/
  | aesFwd (tile : Fin 40)
  /-- AES_INV (R393). A cipher tile request computing the inverse cipher over whitened blocks. -/
  | aesInv (tile : Fin 40)
  /-- KEY_PREFETCH (R394). A cipher tile request loading a key schedule and taking a lease. -/
  | keyPrefetch (tile : Fin 40)
  /-- DIGEST_SHA256 (R395). A digest tile request compressing data into a SHA-256 state. -/
  | digestSha256 (tile : Fin 40)
  /-- DIGEST_SHA512 (R395). A digest tile request compressing data into a SHA-512 state. -/
  | digestSha512 (tile : Fin 40)
  /-- KECCAK_ABSORB (R395). A digest tile request absorbing rate blocks into a Keccak state. -/
  | keccakAbsorb (tile : Fin 40)
  /-- KECCAK_SQUEEZE (R395). A digest tile request squeezing output from a Keccak state. -/
  | keccakSqueeze (tile : Fin 40)
  /-- DIGEST_DUAL (R395). A digest tile request running SHA-256 and Keccak absorption over the same data. -/
  | digestDual (tile : Fin 40)
  /-- TILE_BURST (R404). A tile grants one burst to a cluster, charging or renewing its lease. -/
  | tileBurst (tile : Fin 40)
  /-- TILE_RESPONSE_DELIVER (R401). A held tile response is delivered once the writer's home line has room. -/
  | tileResponseDeliver (tile : Fin 40)
  /-- TILE_INTERNAL_ERROR (R409). A tile detects an internal error, ends its requests and drops its keys. -/
  | tileInternalError (tile : Fin 40)
  /-- TILE_RESTART (R409). A faulted tile takes requests again within 10 µs. -/
  | tileRestart (tile : Fin 40)
  /-- STRONGROOM_LEASE (R371). The strongroom grants or refuses a lease, reserving eMRAM counter space first. -/
  | strongroomLease (tile : Fin 40)
  /-- KEY_SCHEDULE_LOAD (R368). A tile loads a key schedule over the private key bus, unwrapping an uncached slot. -/
  | keyScheduleLoad (tile : Fin 40)
  /-- VAULT_PERSIST (R369). The strongroom writes dirty vault pages, then the root, then the vault generation. -/
  | vaultPersist
  /-- KNOT_SIGN (R427). The strongroom signs a knot body with one leaf of both seal keys. -/
  | knotSign
  /-- BOTTOM_TREE_BUILD (R381). The next bottom tree of each family is built once the current one is half used. -/
  | bottomTreeBuild
  /-- SEAL_AUTO_NEW (R383). The strongroom runs KEY_SEAL_NEW itself when fewer than 2^30 leaves remain. -/
  | sealAutoNew
  /-- DRBG_RESEED (R363). The DRBG reseeds after 2^20 requests or 1 s. -/
  | drbgReseed
  /-- ENTROPY_HEALTH_FAIL (R364). A failed health test restarts the start-up test and may set ENTROPY_FAIL. -/
  | entropyHealthFail
  /-- IMPORT_HANDLE_EXPIRY (R378). An import handle expires after 60 s. -/
  | importHandleExpiry
  /-- NONCE_EXPIRY (R386). An unlock nonce expires after 600 s. -/
  | nonceExpiry
  /-- TRIAL_TIMEOUT (R358). A trial slot not READY within 1 s is abandoned for the next reset. -/
  | trialTimeout
  /-- IMAGE_READY (R357). The booted image reaches READY and pending fuse writes and boot record updates are made. -/
  | imageReady
  /-- CODE_REGION_CHECK (R533). Once a minute the code region is re-hashed and a mismatch warm-restarts. -/
  | codeRegionCheck (ok : Bool)
  /-- PLACE_CONFIRM (R420). Journal confirmation of a place puts its record in the epoch log and both frontiers. -/
  | placeConfirm
  /-- EPOCH_CLOSE (R421). An epoch with no pending place closes and its knot body is built. -/
  | epochClose
  /-- KNOT_PUBLISH (R434). Both journal drives confirm a knot; it is published and KNOT is posted. -/
  | knotPublish
  /-- EPOCH_LOG_PERSIST (R420). A closed log reaches the seal volume, is checked against the roots and its entries released. -/
  | epochLogPersist
  /-- DRIVE_COMPLETION (R476). A drive command completes and a DRIVE_COMPLETION message reaches a storage thread. -/
  | driveCompletion (drive : Fin 64) (id : Nat) (status : Nat) (data : List Byte)
  /-- JOURNAL_BLOCK_SUBMIT (R494). A journal block is submitted when full or 2 µs after its first item. -/
  | journalBlockSubmit
  /-- MAP_CHECKPOINT (R491). A map checkpoint writes changed map pages and frees superseded blocks. -/
  | mapCheckpoint
  /-- DRIVE_CMD_TIMEOUT (R480). A drive command past DRIVE_TIMEOUT is aborted. -/
  | driveCmdTimeout (drive : Fin 64) (id : Nat)
  /-- CONTROLLER_RESET (R480). A command still outstanding 1 s after abort resets the drive controller. -/
  | controllerReset (drive : Fin 64)
  /-- CONTROLLER_READY_TIMEOUT (R480). A controller not ready 10 s after reset is declared lost. -/
  | controllerReadyTimeout (drive : Fin 64)
  /-- DRIVE_ENUMERATION (R474). The root complex enumerates root ports and enables NVMe controllers. -/
  | driveEnumeration (found : List DriveInfo)
  /-- DRIVE_HOT_ADD (R478). A hot-added drive is enumerated and appears unassigned. -/
  | driveHotAdd (info : DriveInfo)
  /-- DRIVE_REMOVAL (R479). A removed drive's commands fail, it is declared lost and its volume degrades. -/
  | driveRemoval (drive : Fin 64)
  /-- DRIVE_ASYNC_EVENT (R477). A drive's asynchronous event leads to a SMART read and possible loss. -/
  | driveAsyncEvent (drive : Fin 64) (warning : BitVec 8)
  /-- DRIVE_INBOUND_REQUEST (R475). A drive's inbound request is admitted only within an outstanding command buffer. -/
  | driveInboundRequest (drive : Fin 64) (addr : Nat) (len : Nat) (posted : Bool)
  /-- JOURNAL_RESYNC (R497). After journal drive replacement the survivor's regions are copied and writes resume. -/
  | journalResync
  /-- REBUILD_EXTENT (R506). A rebuild writes one extent's missing pieces. -/
  | rebuildExtent (vol : Fin 256)
  /-- SWEEP_CYCLE_START (R450). A new fixity sweep cycle of a volume begins. -/
  | sweepCycleStart (vol : Fin 256)
  /-- SWEEP_EXTENT (R448). A sweep verifies one extent and repairs or marks it. -/
  | sweepExtent (vol : Fin 256)
  /-- TRANSCRYPT_EXTENT (R458). A batch moves one extent through source, check, encrypt, write, seal and switch. -/
  | transcryptExtent (n : Fin 16) (data : Option (List Byte))
  /-- BATCH_CURSOR_PERSIST (R462). A batch persists its cursor at least once per second. -/
  | batchCursorPersist
  /-- BACKGROUND_DEALLOCATE (R468). Maintenance threads free extents of a destroyed domain or deleted namespace in the background. -/
  | backgroundDeallocate
  /-- STORAGE_STARTUP (R512). After enumeration, the journal is found, the vault opened and replay run. -/
  | storageStartup
  /-- REPLAY_IN_PLACE (R574). A housekeeper replays the work of a recovered thread, group or cluster. -/
  | replayInPlace
  /-- NVMT_CONNECTION_OPEN (R509). A TCP connection to a listener is accepted or refused with RST. -/
  | nvmtConnectionOpen (init : Bool) (index : Fin 4096) (remote : List Byte) (port : BitVec 16) (t : Fin 2048) (subsys : BitVec 16) (host : Fin 4096) (queue : Fin 65) (ctrl : Nat)
  /-- NVMT_TLS_HANDSHAKE (R510). A TLS 1.3 PSK handshake completes or fails on a connection. -/
  | nvmtTlsHandshake (c : Nat) (ident : List Byte) (ok : Bool)
  /-- NVMT_PDU_ERROR (R510). A bad digest or malformed PDU ends the connection. -/
  | nvmtPduError (c : Nat) (digest : Bool)
  /-- TCP_RETRANSMIT_TIMEOUT (R511). A TCP retransmission timer expires. -/
  | tcpRetransmitTimeout (c : Nat)
  /-- TCP_PROGRESS_TIMEOUT (R511). A connection without acknowledgement progress for 30 s is reset. -/
  | tcpProgressTimeout (c : Nat)
  /-- NVMT_IDENTIFY (R508). NVMe/TCP Identify admin command. -/
  | nvmtIdentify (c : Nat) (sqe : List Byte)
  /-- NVMT_GET_LOG_PAGE (R508). NVMe/TCP Get Log Page admin command. -/
  | nvmtGetLogPage (c : Nat) (sqe : List Byte)
  /-- NVMT_GET_FEATURES (R508). NVMe/TCP Get Features admin command. -/
  | nvmtGetFeatures (c : Nat) (sqe : List Byte)
  /-- NVMT_SET_FEATURES (R508). NVMe/TCP Set Features admin command. -/
  | nvmtSetFeatures (c : Nat) (sqe : List Byte)
  /-- NVMT_KEEP_ALIVE (R508). NVMe/TCP Keep Alive admin command. -/
  | nvmtKeepAlive (c : Nat) (sqe : List Byte)
  /-- NVMT_ASYNC_EVENT_REQUEST (R508). NVMe/TCP Asynchronous Event Request admin command. -/
  | nvmtAsyncEventRequest (c : Nat) (sqe : List Byte)
  /-- NVMT_READ (R509). NVMe/TCP Read handled as a store read. -/
  | nvmtRead (c : Nat) (sqe : List Byte)
  /-- NVMT_WRITE (R509). NVMe/TCP Write creating or superseding one extent. -/
  | nvmtWrite (c : Nat) (sqe : List Byte) (data : List Byte)
  /-- NVMT_FLUSH (R508). NVMe/TCP Flush. -/
  | nvmtFlush (c : Nat) (sqe : List Byte)
  /-- NVMT_DEALLOCATE (R509). NVMe/TCP Dataset Management deallocate handled as a store deallocate. -/
  | nvmtDeallocate (c : Nat) (sqe : List Byte) (data : List Byte)
  /-- SCRUB_PASS (R528). The scrubber reads a word or line and writes back corrected data. -/
  | scrubPass (addr : Nat) (kind : Fin 3)
  /-- ZERO_FILL_CHUNK (R531). A GDDR6 chunk is zero-filled under new memory keys. -/
  | zeroFillChunk (chunk : Nat)
  /-- GDDR6_RECALIBRATE (R543). GDDR6 controllers recalibrate every 100 ms without stopping traffic. -/
  | gddr6Recalibrate
  /-- LADDER_DESCEND (R548). The porch descends to the deepest ladder state its conditions allow. -/
  | ladderDescend
  /-- LADDER_WAKE (R551). A wake event returns the device to Run, aborting any descent in progress. -/
  | ladderWake (cause : Fin 8)
  /-- WAKE_AT_TIMER (R551). WAKE_AT is reached on the time base or holdover counter. -/
  | wakeAtTimer
  /-- HIBERNATE_TIMER (R548). After HIBERNATE_AFTER_S in Slumber the device enters Hibernate. -/
  | hibernateTimer
  /-- POWER_GROUP_TIMEOUT (R556). A PWR_GOOD late by 1 ms lowers every group and sets PWR_FAULT. -/
  | powerGroupTimeout (group : Fin 5)
  /-- PWR_GOOD_FALL (R556). A PWR_GOOD falls while its group should be up, a loss of main power. -/
  | pwrGoodFall (group : Fin 5)
  /-- POWER_RETRY (R556). 100 ms after a failed cold start the porch retries once. -/
  | powerRetry
  /-- VSB_DIP_START (R559). VSB falls below 2.65 V and the strongroom freezes eMRAM writes. -/
  | vsbDipStart (mv : Nat)
  /-- VSB_DIP_END (R559). VSB rises above 2.72 V, the dip is latched and deferred knots are signed. -/
  | vsbDipEnd (mv : Nat)
  /-- VSB_BROWNOUT (R559). VSB falls below 2.35 V and the porch lowers every group and holds reset. -/
  | vsbBrownout (mv : Nat)
  /-- BROWNOUT_RELEASE (R559). VSB held above 2.50 V for 10 ms begins a cold start. -/
  | brownoutRelease
  /-- VSB_FIRST_APPLY (R562). First application of VSB begins a cold start. -/
  | vsbFirstApply
  /-- COLD_START (R562). The porch starts the oscillator, raises groups, verifies the image and releases threads. -/
  | coldStart (bif' : Fin 4)
  /-- THERMAL_SAMPLE (R560). Each 1 ms sample drives throttling, warnings and the power cap. -/
  | thermalSample (island : Fin 18) (temp : BitVec 10) (watts : Nat)
  /-- THERMTRIP_RELEASE (R561). VSB removal or PERST# held 100 ms leaves the THERMTRIP state. -/
  | thermtripRelease
  /-- AVS_CURRENT_READ (R557). Firmware reads the VDD_CORE regulator over AVSBus every 1 ms. -/
  | avsCurrentRead (ok : Bool) (amps : Nat)
  /-- CORE_RETIRE_TIMEOUT (R565). A core with ready threads retires nothing for 1 ms, a cluster fault. -/
  | coreRetireTimeout (core : Fin 256)
  /-- CORRIDOR_ACK_TIMEOUT (R565). A corridor transfer unacknowledged for 1 ms is a device fault. -/
  | corridorAckTimeout
  /-- CLUSTER_FAULT (R569). A cluster-scope fault restarts the cluster and replays its work in place. -/
  | clusterFault (cluster : Fin 4)
  /-- DEVICE_FAULT (R565). A device-scope fault reports AER and performs a warm restart. -/
  | deviceFault
  /-- DATA_LINK_UP (R47). The host link finishes training and its data link layer comes up, after which the device sends PM_PME, sets PME_Status and releases WAKE#. -/
  | dataLinkUp (rate : Fin 8) (lanes : Fin 17) (flit : Bool)
  /-- MSIX_CONTROL_WRITE (R149). A configuration write to MSI-X Enable or Function Mask in the MSI-X capability holds or releases pending vectors. -/
  | msixControlWrite (v : BitVec 16)
  /-- MALFORMED_TLP (R60). A received Malformed TLP, Flow Control Protocol Error or Data Link Protocol Error is reported as fatal and the link recovers. -/
  | malformedTlp (kind : Fin 3)
  /-- RECEIVER_ERROR (R60). A Receiver Error, Bad TLP or Bad DLLP on the host link is counted and reported as correctable. -/
  | receiverError (kind : Fin 3)
  /-- REPLAY_TIMER_TIMEOUT (R60). The data link replay timer expires, the device replays and reports a correctable error, and Replay Number Rollover follows when repeated. -/
  | replayTimerTimeout
  /-- UNSUPPORTED_REQUEST (R60). A received request that the device does not support, such as a room page access without the T bit, is completed with Unsupported Request. -/
  | unsupportedRequest
  /-- NO_COMMON_ABILITY (R163). Auto-negotiation ends with a link partner that offers no common ability, leaving the link down with NO_COMMON set. -/
  | noCommonAbility (port : Fin 4)
  /-- KEEP_ALIVE_TIMER_EXPIRY (R508). An NVMe/TCP controller's Keep Alive Timer runs out without a Keep Alive from the host. -/
  | keepAliveTimerExpiry (ctrl : Nat)
  /-- MARCH_RUN_END (R536). A MEM_MARCH run finishes, releases the banks or line pool and writes its reply with the faults found. -/
  | marchRunEnd (faults : List Nat) (skipped : Nat)
  /-- SEAL_KEY_PAIR_BUILT (R380). The strongroom finishes building both top trees and first bottom trees of a new seal pair, which becomes the next pair. -/
  | sealKeyPairBuilt
  /-- IMAGE_SECTION_LOADED (R554). After Hibernate exit, the ROM finishes loading and checking a remaining image section in the background, releasing waiting fetches or forcing a cold start on a mismatch. -/
  | imageSectionLoaded
  /-- CODE_RELOAD_END (R534). The strongroom finishes reloading and re-verifying the code sections after an uncorrectable code error, then reseats threads that faulted with FETCH. -/
  | codeReloadEnd
  /-- JTAG_DEBUG_ACCESS (R385). A JTAG access to threads, scratch, lines or other debug resources at debug level 1 or 2. -/
  | jtagDebugAccess (kind : Fin 4) (write : Bool) (addr : Nat) (v : BitVec 64)
  deriving DecidableEq, Repr

end Sys2Proof
end

