-- ==== Sys2Proof/Machine/Units.lean ====
section
/-!
DEFINITION. The units of the VX-3200 as plain data: one structure per unit of the manual, each with its
reset value. `Machine/State.lean` joins them into the state.
-/

namespace Sys2Proof.Machine

/-- Time zero (R5). -/
def Time.zero : Time := ⟨0, 0, 0⟩

/-- One PPS_OUT output (R187 to R189). Times on the time base are in units of 2^-32 ns. -/
structure Pps where
  /-- PPS_SET block of the running pulse train; empty when off. -/
  block  : List Byte
  /-- Block that takes effect at the next boundary. -/
  next   : Option (List Byte)
  /-- Armed one-shot pulse: its block. -/
  shot   : Option (List Byte)
  /-- Time base from which aligned instants count. -/
  start  : Nat
  /-- Number of the boundary that the last pulse of mode 3 belonged to. -/
  mark   : Nat
  /-- The output shows its active level until this clock. -/
  fall   : Option Nat
  /-- The pulse now out is active low. -/
  low    : Bool
  /-- Clock at which the last PPS_SET was accepted, from which R189 counts 10 µs. -/
  asked  : Nat
  /-- Clock at which the PPS_SET of the running pulse train was accepted. -/
  since  : Nat
  /-- STRICT of the command that armed the one-shot pulse (R93, R189). -/
  strict : Bool
  deriving DecidableEq, Repr

/-- An output that is off. -/
def Pps.off : Pps := ⟨[], none, none, 0, 0, none, false, 0, 0, false⟩

/-- Timekeeper state (island 2). Instants on the period timer are in units of 2^-32 ns. -/
structure Timekeeper where
  /-- The time base (R172, R173). -/
  now        : Time
  /-- The host's latch of TIME.NOW (R173). -/
  latch      : Time
  /-- The period timer (R179). -/
  timer      : Nat
  /-- TIME_SET selected TIME_REF, and TIME_REF has valid edges (R172). -/
  refSel     : Bool
  refPresent : Bool
  isSet      : Bool
  holdover   : Bool
  /-- A time step has not yet been followed by the re-evaluation of R93. -/
  stepped    : Bool
  /-- P in µs and PHASE in ns in force, and those that take effect at the next boundary (R179, R186). -/
  periodUs   : Nat
  phase      : Nat
  nextPeriod : Option (Nat × Nat)
  /-- SYNC_CONFIG in force (R600). -/
  syncOn     : Bool
  syncFall   : Bool
  syncAuto   : Bool
  syncOffset : Nat
  /-- The open window: scheduled boundary, instant at which it fires, flags, and the boundary after it (R182). -/
  sched      : Nat
  fire       : Nat
  fired      : Bool
  taken      : Bool
  following  : Nat
  /-- The boundary of the open window, and the one after it, are moved by slewing. -/
  slewing    : Bool
  nextSlew   : Bool
  acquiring  : Bool
  /-- The outlier that acquisition aims at, and windows closed in a row without a qualifying pulse. -/
  target     : Option Int
  missedRun  : Nat
  /-- PERIOD.LAST and SYNC.LAST_EDGE. -/
  last       : Time
  lastEdge   : Time
  /-- Period timer at the last boundary. -/
  lastFire   : Nat
  pps        : Tbl Pps
  deriving DecidableEq, Repr

/-- The timekeeper after reset: P 10 ms, PHASE 0, SYNC_IN disabled (R179, R600). The first boundary is scheduled at instant
0, as PERIOD.NEXT reads at reset (R190); TIME_REF is taken to be present (DESIGN CHOICE, log entry 21). -/
def Timekeeper.reset : Timekeeper where
  now := Time.zero
  latch := Time.zero
  timer := 0
  refSel := false
  refPresent := true
  isSet := false
  holdover := false
  stepped := false
  periodUs := 10000
  phase := 0
  nextPeriod := none
  syncOn := false
  syncFall := false
  syncAuto := false
  syncOffset := 0
  sched := 0
  fire := 0
  fired := false
  taken := false
  following := 0
  slewing := false
  nextSlew := false
  acquiring := false
  target := none
  missedRun := 0
  last := Time.zero
  lastEdge := Time.zero
  lastFire := 0
  pps := []

/-! ## Ports (R160 to R178) -/

/-- A port (islands 5 to 8). -/
structure Port where
  /-- Administrative state, PORT_CONFIG and PORT_PTP blocks in force at the port; an empty block is none. -/
  admin       : Bool
  conf        : List Byte
  ptp         : List Byte
  link        : Bool
  anDone      : Bool
  ltDone      : Bool
  noCommon    : Bool
  localFault  : Bool
  remoteFault : Bool
  /-- Clock from which the link-up times of R164 count, while the port trains. -/
  training    : Option Nat
  moduleReady : Bool
  linkUps     : Nat
  lastChange  : Time
  /-- Clock until which the link partner holds each class paused (R169). -/
  paused      : Tbl Nat
  /-- Classes for which the port has sent XOFF, with the clock of the last one. -/
  xoff        : Tbl Nat
  deriving DecidableEq, Repr

/-- A port that is administratively down and has no configuration (R601). -/
def Port.reset : Port where
  admin := false
  conf := []
  ptp := []
  link := false
  anDone := false
  ltDone := false
  noCommon := false
  localFault := false
  remoteFault := false
  training := none
  moduleReady := false
  linkUps := 0
  lastChange := Time.zero
  paused := []
  xoff := []

/-! ## Host link (R39 to R73) -/

/-- What became of a host read's tag (R55). -/
inductive TagState where
  | free
  | busy
  | quarantinedTimeout (ends : Nat)
  | quarantinedAbandoned (ends : Nat)
  deriving DecidableEq, Repr

/-- A tag of the host link's read requests (R55): its state, when and under which timeout its request was issued, the room it
reads for, the ring and work item that wait for the data, and the address read. -/
structure Tag where
  state  : TagState
  issued : Nat
  cto    : Nat
  room   : Option Nat
  ref    : Nat
  work   : Nat
  addr   : Nat
  deriving DecidableEq, Repr

/-- An unused tag. -/
def Tag.free : Tag := ⟨.free, 0, 0, none, 0, 0, 0⟩

/-- A posted write of the device to host memory; `room` names the PASID it carries (R65). -/
structure HostWrite where
  room : Option Nat
  addr : Nat
  data : List Byte
  /-- The work item it belongs to, 0 for none. -/
  work : Nat
  /-- Relaxed Ordering: data of a ring created with relaxed data (R51). -/
  relaxed : Bool
  deriving DecidableEq, Repr

/-- A D-state of PF0 (R47). -/
inductive DState where
  | d0
  | d3hot
  | d3cold
  deriving DecidableEq, Repr

/-- A cached translation (R66): the room whose PASID tags it and its 4 KiB page. -/
structure AtsEntry where
  room : Nat
  page : Nat
  phys : Nat
  deriving DecidableEq, Repr

/-- A translation invalidation that waits for the requests that used its entries (R67). -/
structure Invalidation where
  itag  : Nat
  tags  : List Nat
  since : Nat
  deriving DecidableEq, Repr

/-- The state of one IDE stream (R70). -/
inductive IdeState where
  | insecure
  | keyed
  | secure
  deriving DecidableEq, Repr

/-- An IDE stream: number 0 is the link stream, 1 to 16 the selective ones; `key` is what IDE_KM delivered. A room names the
stream it is locked to. -/
structure IdeStream where
  state : IdeState
  key   : List Byte
  /-- The RID association block: first and last requester, and whether it is valid. -/
  rid   : Nat × Nat × Bool
  /-- Up to four address association blocks: first and last address. -/
  addrs : List (Nat × Nat)
  /-- PCRC is enabled. -/
  pcrc  : Bool
  deriving DecidableEq, Repr

/-- An MSI-X table entry and its pending bit (R41, R149). -/
structure MsixEntry where
  addr    : Nat
  data    : Nat
  masked  : Bool
  pending : Bool
  deriving DecidableEq, Repr

/-- MSI-X entries come out of reset masked, as PCI Express has it. PRESUMED, log entry 2. -/
def MsixEntry.reset : MsixEntry := ⟨0, 0, true, false⟩

/-- What the device raises under AER (R60). -/
inductive AerError where
  | receiverError | badTlp | badDllp | replayTimerTimeout | replayNumRollover | correctedInternal
  | completionTimeoutAdvisory | completionTimeoutNonFatal
  | unexpectedCompletion | poisonedTlp | unsupportedRequest
  | malformedTlp | flowControlProtocol | dataLinkProtocol | uncorrectableInternal
  deriving DecidableEq, Repr

/-- Host link state (island 3). -/
structure HostLink where
  memEnable      : Bool
  bme            : Bool
  /-- Command register bits without effect on the model: Parity Error Response, SERR# Enable, Interrupt Disable. -/
  cmdOther       : BitVec 3
  dstate         : DState
  pmeEn          : Bool
  pmeStatus      : Bool
  /-- PME is wanted and WAKE# or PM_PME is owed (R47). -/
  wakeAsserted   : Bool
  msixEnable     : Bool
  functionMask   : Bool
  ctoValue       : Nat
  tag10          : Bool
  tag14          : Bool
  relaxedEnable  : Bool
  ltrEnable      : Bool
  l0pEnable      : Bool
  aspmL1Enable   : Bool
  /-- ASPM L1.2 is enabled in the L1 PM Substates capability (R548). -/
  l12Enable      : Bool
  inL1           : Bool
  atsEnable      : Bool
  pasidEnable    : Bool
  maxPayload     : Nat
  maxReadReq     : Nat
  rate           : Nat
  lanes          : Nat
  trainedLanes   : Nat
  flit           : Bool
  dlUp           : Bool
  tags           : Tbl Tag
  ats            : List AtsEntry
  invalidations  : List Invalidation
  heldWrites     : List HostWrite
  /-- Translations asked for and not yet answered, and those answered with no access: room (0xFFFF the owner) and page. -/
  atsAsked       : List (Nat × Nat)
  atsDenied      : List (Nat × Nat)
  /-- The response that the DOE mailbox holds, and the object being written to it (R68). -/
  doe            : List Byte
  doeIn          : List Byte
  /-- SPDM sessions: those established, and those whose handshake has begun (R69). -/
  spdmSessions   : List Nat
  spdmOpening    : List Nat
  ide            : Tbl IdeStream
  aer            : List AerError
  msix           : Tbl MsixEntry
  /-- Replay timer expiries in a row (R60). -/
  replayNum      : Nat
  /-- Configuration space words that hold what was written or logged: byte offset to value (R39, R41, R43, R60). -/
  cfg            : Tbl Nat
  /-- Configuration requests are answered with Retry Status until the device is ready or serves recovery only (R563). -/
  retrying       : Bool
  /-- Clock at which the FLR under way completes (R64). -/
  flrUntil       : Nat
  /-- Clock of the last traffic on the link (R46). -/
  lastTlp        : Nat
  deriving DecidableEq, Repr

/-- A selective or link stream before IDE_KM. -/
def IdeStream.reset : IdeStream := ⟨.insecure, [], (0, 0, false), [], false⟩

/-- The host link after reset. Command register enables are 0 as PCI Express has them (PRESUMED, log entry 2). -/
def HostLink.reset : HostLink where
  memEnable := false
  bme := false
  cmdOther := 0
  dstate := .d0
  pmeEn := false
  pmeStatus := false
  wakeAsserted := false
  msixEnable := false
  functionMask := false
  ctoValue := 0
  tag10 := false
  tag14 := false
  relaxedEnable := true
  ltrEnable := false
  l0pEnable := false
  aspmL1Enable := false
  l12Enable := false
  inL1 := false
  atsEnable := false
  pasidEnable := false
  maxPayload := 128
  maxReadReq := 512
  rate := 0
  lanes := 0
  trainedLanes := 0
  flit := false
  dlUp := false
  tags := []
  ats := []
  invalidations := []
  heldWrites := []
  atsAsked := []
  atsDenied := []
  doe := []
  doeIn := []
  spdmSessions := []
  spdmOpening := []
  ide := []
  aer := []
  msix := []
  replayNum := 0
  cfg := []
  retrying := true
  flrUntil := 0
  lastTlp := 0

/-! ## Configuration generations (R20 to R37) -/

/-- Settings of one generation: key to parameter block, as CFG_QUERY returns it (R87).
The key is opcode × 2^32 + selector. An empty block is no setting. -/
abbrev Settings := Tbl (List Byte)

/-- How a command came to run (R89 to R93): at once, at once because its time had passed, released as a one-shot
command (`late` after a time step put it in the past), or a periodic command's execution. -/
inductive Sched where
  | now
  | late
  | oneShot (handle : Nat) (late : Bool)
  | periodic (handle : Nat) (last : Bool)
  deriving DecidableEq, Repr

/-- A command under execution: its opcode, its packet and how it came to run. -/
structure Ctx where
  opcode : Nat
  pkt    : Packet
  sched  : Sched
  deriving DecidableEq, Repr

/-- A commit or rollback that has not yet replied; `start` is the clock at t1. -/
structure Commit where
  ctx      : Ctx
  start    : Nat
  warn     : Bool
  rollback : Bool
  /-- A one-shot pulse fired at its arming (R189). -/
  late     : Bool
  deriving DecidableEq, Repr

/-- Generation state (R20 to R36). -/
structure Gen where
  current    : Nat
  previous   : Nat
  /-- The number most recently assigned; the next commit takes the one after it. -/
  last       : Nat
  warn       : Bool
  rolledBack : Bool
  stalled    : Bool
  prevLive   : Bool
  inProgress : Bool
  applied    : BitVec 18
  deferred   : BitVec 18
  cur        : Settings
  prev       : Settings
  /-- The staging store, in staging order: key and block (R21). -/
  staged     : List (Nat × List Byte)
  /-- Changes of the commit in progress, or of the rollback's return, in staging order. -/
  changes    : List (Nat × List Byte)
  commit     : Option Commit
  /-- Clock at which the last commit replied (step 5), or its late adoption ended (R29 step 7, R32). -/
  repliedAt  : Option Nat
  /-- A rollback was done and no new commit has completed since (R33). -/
  rolledOnce : Bool
  profile    : Nat
  locked     : Bool
  deriving DecidableEq, Repr

/-- Generation 0 in force, nothing staged (R34, R35). -/
def Gen.reset : Gen where
  current := 0
  previous := 0
  last := 0
  warn := false
  rolledBack := false
  stalled := false
  prevLive := false
  inProgress := false
  applied := BitVec.ofNat 18 0x3FFFF
  deferred := 0
  cur := []
  prev := []
  staged := []
  changes := []
  commit := none
  repliedAt := none
  rolledOnce := false
  profile := 0
  locked := false

/-! ## Ehrenan commands (R74 to R97) -/

/-- A command in the timekeeper's pending store (R89 to R92). -/
structure Stored where
  handle    : Nat
  opcode    : Nat
  pkt       : Packet
  /-- Executions still to run; 0 for a periodic command repeated until cancelled. -/
  remaining : Nat
  started   : Bool
  /-- For a periodic command that has run: boundaries still to count. -/
  wait      : Nat
  accepted  : Nat
  deriving DecidableEq, Repr

/-- A finished scheduled command (R95). `room` is none for the owner. -/
structure Finished where
  room   : Option Nat
  handle : Nat
  tag    : BitVec 32
  status : Nat
  opcode : Nat
  deriving DecidableEq, Repr

/-- A command that has been accepted and has not replied: long-running (R82, R83), or RING_DISABLE waiting for its
rings (R158). `object` is what it holds, `refs` the rings it waits for. -/
structure Running where
  ctx      : Ctx
  long     : Bool
  object   : Nat
  refs     : List Nat
  lastPost : Nat
  progress : Nat
  /-- Ranges of host memory whose reads are still to be started, the work item that reads them (0 none), and how the data came; with nothing to read
  the command is ready from its acceptance (R56, R82). -/
  reads    : List (Nat × Nat)
  work     : Nat
  ready    : Option ParamDma
  deriving DecidableEq, Repr

/-- A command fetched from a command ring and not begun (R77, R155): its ring, entry index, opcode and packet; the address and length of a
parameter block that is still to be read, and the work item that reads it (0 none, R80). -/
structure Fetched where
  ref    : Nat
  index  : Nat
  opcode : Nat
  pkt    : Packet
  ptr    : Nat
  len    : Nat
  work   : Nat
  deriving DecidableEq, Repr

/-- A reply the device has written (R81). -/
structure Reply where
  path       : Path
  opcode     : Nat
  tag        : BitVec 32
  status     : Nat
  rflags     : Nat
  dataLen    : Nat
  generation : Nat
  doneTime   : Time
  data       : List Byte
  deriving DecidableEq, Repr

/-- Housekeepers, the pending store and the MCTP endpoint (R74 to R97). -/
structure Ehrenan where
  stored     : List Stored
  finished   : List Finished
  running    : List Running
  nextHandle : Nat
  eid        : Nat
  /-- PLDM sensor readings (sensor ID to raw value) and state events queued for polling (R97). -/
  sensors    : Tbl Nat
  pldmEvents : List (Nat × Nat)
  fetched    : List Fetched
  /-- Replies written while commands are served have made the front door's vector due (R76); none outside such a run. -/
  frontDue   : Option Bool
  deriving DecidableEq, Repr

/-- No command waits. -/
def Ehrenan.reset : Ehrenan := ⟨[], [], [], 1, 0, [], [], [], none⟩

/-! ## Rooms (R98 to R127) -/

/-- Room states (R98), numbered as `ROOM.STATUS.STATE`. -/
inductive RoomState where
  | vacant | furnished | opened | frozen | inError | resetting
  deriving DecidableEq, Repr

/-- TDI states (R107, R126). -/
inductive Tdi where
  | unlocked | locked | run | error
  deriving DecidableEq, Repr

/-- An interrupt message store entry (R109, R110). -/
structure MsgEntry where
  addr    : Nat
  data    : Nat
  pasid   : Bool
  masked  : Bool
  pending : Bool
  deriving DecidableEq, Repr

/-- The state before a ROOM_MSG_SET is applied (R110). -/
def MsgEntry.reset : MsgEntry := ⟨0, 0, false, true, false⟩

/-- Furnished limits of a room (R104). -/
structure Limits where
  pasid      : Nat
  queuePairs : Nat
  storeRings : Nat
  keyDomains : Nat
  policers   : Nat
  namespaces : Nat
  nvmtConns  : Nat
  sramUnits  : Nat
  reads      : Nat
  deriving DecidableEq, Repr

/-- No limits: a vacant room. -/
def Limits.zero : Limits := ⟨0, 0, 0, 0, 0, 0, 0, 0, 0⟩

/-- A running dirty-page log (R119). -/
structure DirtyLog where
  pages : List Nat
  full  : Bool
  deriving DecidableEq, Repr

/-- A room reset in progress (R114). -/
structure RoomResetting where
  since  : Nat
  budget : Nat
  deriving DecidableEq, Repr

/-- A room (R98 to R127). -/
structure Room where
  state        : RoomState
  doze         : Bool
  wakeOn       : Bool
  wakePosted   : Bool
  errorCause   : Nat
  /-- Clock at which the room last entered the in-error state (R101). -/
  errorAt      : Nat
  tdi          : Tdi
  stream       : Nat
  generation   : Nat
  limits       : Limits
  drainBudget  : Nat
  errTimeout   : Bool
  errAbort     : Bool
  errBadDesc   : Bool
  readLimit    : Nat
  notOpenDrop  : Nat
  squashed     : Nat
  dmaTimeout   : Nat
  dmaAbort     : Nat
  dirty        : Option DirtyLog
  freezeTime   : Time
  resetting    : Option RoomResetting
  /-- A ROOM_SAVE accepted and waiting for the drain (R120). -/
  saving       : Bool
  pasidLocked  : Bool
  headMirror   : Nat
  /-- Migration keys that the tenant imported through the room's own command ring (R126). -/
  tenantKeys   : List Nat
  /-- Namespace bindings that ROOM_RESTORE dropped (R122): local indexes. -/
  dropped      : List Nat
  deriving DecidableEq, Repr

/-- A vacant room, with the policy defaults of R111. -/
def Room.vacant : Room where
  state := .vacant
  doze := false
  wakeOn := false
  wakePosted := false
  errorCause := 0
  errorAt := 0
  tdi := .unlocked
  stream := 0
  generation := 0
  limits := Limits.zero
  drainBudget := 1000
  errTimeout := false
  errAbort := false
  errBadDesc := false
  readLimit := 0
  notOpenDrop := 0
  squashed := 0
  dmaTimeout := 0
  dmaAbort := 0
  dirty := none
  freezeTime := Time.zero
  resetting := none
  saving := false
  pasidLocked := false
  headMirror := 0
  tenantKeys := []
  dropped := []

/-! ## Rings (R128 to R159) -/

/-- What follows the completion of a work item (R111): a counted failure, or a malformed descriptor. -/
inductive EndCause where
  | plain | timeout | abort | badDesc
  deriving DecidableEq, Repr

/-- A work item the ring engine has fetched and not completed: entry index, TAG, its descriptor bytes
and whether it has passed its point of no return (R155). -/
structure Entry where
  id       : Nat
  index    : Nat
  pass     : Bool
  tag      : BitVec 32
  desc     : List Byte
  /-- Host reads still outstanding for it, those still to be issued (their addresses), and pages whose translation it waits for. -/
  reads    : Nat
  redo     : List Nat
  pages    : List Nat
  /-- How many of the reads still to be issued have been counted as waiting for a tag (R73). -/
  waited   : Nat
  ponr     : Bool
  /-- Marked HALTED_BME (R61). -/
  halted   : Bool
  failed   : Option Nat
  /-- Journal entry of a store write, and whether it is marked complete (R115). -/
  journal  : Option Nat
  complete : Bool
  /-- Its work has ended: its completion, which waits for the entries before it where the ring completes in order (R134), and what follows. -/
  ended    : Option (List Byte × EndCause)
  deriving DecidableEq, Repr

/-- A ring (R128 to R158). -/
structure Ring where
  live       : Bool
  log2       : Nat
  base       : Nat
  relaxed    : Bool
  vector     : Nat
  mirror     : Nat
  eventRing  : Option Nat
  classMask  : Nat
  globalNo   : Nat
  enabled    : Bool
  /-- Head and pass parity at the head; for an event ring TAIL and the parity there. -/
  head       : Nat
  pass       : Bool
  /-- Last accepted TAIL, the next index to fetch, and its pass parity. -/
  tail       : Nat
  next       : Nat
  nextPass   : Bool
  /-- TAIL recorded at the last enable, while entries up to it are still to be fetched (R156). -/
  enableTail : Option Nat
  /-- The last doorbell value recorded while the ring was disabled (R136). -/
  recorded   : Option Nat
  /-- Entries beyond the head that already hold completions. -/
  done       : List Nat
  completed  : Nat
  /-- NOBUF_DROP of a receive ring, DROPPED of an event ring (R139). -/
  dropped    : Nat
  consHead   : Nat
  consPass   : Bool
  overflow   : Bool
  timerUs    : Nat
  modCount   : Nat
  sinceFire  : Nat
  firstSince : Option Nat
  /-- TIMER_US as it applied to the last completion counted (R158). -/
  timerNow   : Nat
  hold       : Bool
  holdLimit  : Nat
  work       : List Entry
  deriving DecidableEq, Repr

/-- No ring. The moderation defaults are those of R148, the hold limit that of R157. -/
def Ring.absent : Ring where
  live := false
  log2 := 6
  base := 0
  relaxed := false
  vector := 0
  mirror := 0
  eventRing := none
  classMask := 0
  globalNo := 0
  enabled := false
  head := 0
  pass := true
  tail := 0
  next := 0
  nextPass := true
  enableTail := none
  recorded := none
  done := []
  completed := 0
  dropped := 0
  consHead := 0
  consPass := true
  overflow := false
  timerUs := 8
  modCount := 32
  sinceFire := 0
  firstSince := none
  timerNow := 8
  hold := false
  holdLimit := 10000
  work := []

/-- The ring engine's fetch arbiters (R147): grants that each room, with 1,024 for the owner, and each ring has had in the round, the ring of
each room granted last, the grant in force with the descriptors left in it, and the room whose command ring was served last. -/
structure Arb where
  used    : Tbl Nat
  ringUsed : Tbl Nat
  last    : Tbl Nat
  grant   : Option (Nat × Nat)
  cmdLast : Nat
  deriving DecidableEq, Repr

/-- Before the first round. -/
def Arb.reset : Arb := ⟨[], [], [], none, 0⟩

/-! ## Packets and the traffic manager (R264 to R292) -/

/-- A packet on its way through the device, without its FCS, and what the parse slices have found on this pass. -/
structure Pkt where
  bytes    : List Byte
  /-- SOURCE of a receive completion (R141): a port, or 0x8000 + a room; the owner's rings give 0xFFFF. -/
  source   : Nat
  /-- What R192 orders by: the port number, or 16 + the transmit ring's reference. -/
  origin   : Nat
  /-- Generation stamp (R23); none before the first parse, and after reassembly. -/
  stamp    : Option Nat
  time     : Time
  tsValid  : Bool
  /-- Pass number and RECIRC bits [29:0] (R205, R248, R259); `recirc` says that it came by the recirculation input. -/
  pass     : Nat
  recircMd : Nat
  recirc   : Bool
  pktType  : Nat
  l3ok     : Bool
  l4ok     : Bool
  hash     : Option Nat
  hashProf : Option Nat
  pattern  : Nat
  mark     : Nat
  action   : Nat
  /-- Reason of the back stair that an exception chose (R254), in place of the action. -/
  stair    : Option Nat
  /-- META of the transmit descriptor (R140). -/
  txMeta   : Nat
  /-- The transmit entry it came from: ring and work item. -/
  tx       : Option (Nat × Nat)
  wantTs   : Bool
  /-- Checksums the port inserts (R140): L3 and L4, with the header starts counted from the packet's end. -/
  l3csum   : Bool
  l4csum   : Bool
  l3end    : Nat
  l4end    : Nat
  /-- A mirror copy (R247). -/
  copy     : Bool
  /-- The ingress stamp that a receive completion shows (R141), once the stamp itself is gone. -/
  ingress  : Nat
  deriving DecidableEq, Repr

/-- A queued frame and the clock at which it was enqueued. -/
structure Frame where
  pkt : Pkt
  enq : Nat
  deriving DecidableEq, Repr

/-- A packet of bytes from a source, before its first pass. -/
def Pkt.fresh (bytes : List Byte) (source origin : Nat) (time : Time) : Pkt where
  bytes := bytes
  source := source
  origin := origin
  stamp := none
  time := time
  tsValid := false
  pass := 0
  recircMd := 0
  recirc := false
  pktType := 0
  l3ok := false
  l4ok := false
  hash := none
  hashProf := none
  pattern := 0xFFFFFFFF
  mark := 0
  action := 0
  stair := none
  txMeta := 0
  tx := none
  wantTs := false
  l3csum := false
  l4csum := false
  l3end := 0
  l4end := 0
  copy := false
  ingress := 0

/-- An exact-match lookup that missed the flow cache (R211): its bank and buckets; an INVALIDATE in them ends its right to
fill the cache (R213). -/
structure Look where
  bank : Nat
  b1   : Nat
  b2   : Nat
  fill : Bool
  deriving DecidableEq, Repr

/-- A packet between its parse slice and the switch stage, in entry order; `look` is none once its lookup is resolved. -/
structure Piece where
  pkt  : Pkt
  look : Option Look
  deriving DecidableEq, Repr

/-- A packet on its way to a leaf queue (R270). -/
structure Enq where
  dest : Nat
  leaf : Nat
  pkt  : Pkt
  deriving DecidableEq, Repr

/-- A packet handed to a service thread by a line message (R250), under its packet buffer handle. -/
structure Handed where
  handle  : Nat
  room    : Nat
  service : Nat
  pkt     : Pkt
  deriving DecidableEq, Repr

/-- A packet waiting on the back stair (R256). Classes: 0 control, 1 reassembly, 2 other. -/
structure Stair where
  cls    : Nat
  reason : Nat
  pkt    : Pkt
  deriving DecidableEq, Repr

/-- A datagram in reassembly (R258): its key, the bytes in front of the fragmented header's payload, its fragments by offset,
its total length once the last fragment came, and whether it was discarded. -/
structure Datagram where
  key       : List Byte
  first     : Option Pkt
  /-- Length fields of the tunnel headers in front of the fragmented header: where an IP header or a UDP length lies, and which it is:
  4 IPv4, 6 IPv6, 0 UDP. -/
  outer     : List (Nat × Nat)
  l3off     : Nat
  hdrLen    : Nat
  frags     : List (Nat × List Byte)
  total     : Option Nat
  began     : Nat
  discarded : Bool
  deriving DecidableEq, Repr

/-- A token bucket: its tokens and the clock they stood at. -/
structure Bucket where
  tokens : Nat
  since  : Nat
  deriving DecidableEq, Repr

/-- The packet path between the ports and the traffic manager. -/
structure Pipe where
  /-- Packets waiting for a parse slice, in arrival order. -/
  input    : List Pkt
  pieces   : List Piece
  enq      : List Enq
  handed   : List Handed
  nextHandle : Nat
  stair    : List Stair
  reasm    : List Datagram
  /-- Frames that destination 4 has sent and the ring engine has yet to deliver: leaf and packet. -/
  delivery : List (Nat × Frame)
  /-- Back-stair allowances per room and per port, and answers allowed per port (R256, R261). -/
  roomBuckets : Tbl Bucket
  portBuckets : Tbl Bucket
  answers     : Tbl Bucket
  /-- Candidate packets each mirror session has seen (R247). -/
  mirrorSeen  : Tbl Nat
  /-- IPv4 identification per tunnel entry (R246). -/
  tunnelId    : Tbl Nat
  /-- Action counters: counter × 2 for packets, × 2 + 1 for bytes (R236). -/
  actionCount : Tbl (BitVec 64)
  /-- Action records as most recently written, committed or not (R7, R234). -/
  written     : Tbl (List Byte)
  /-- The host or port source that the parse input granted last (R38). -/
  granted     : Nat
  deriving DecidableEq, Repr

/-- No packet in the device. -/
def Pipe.reset : Pipe := ⟨[], [], [], [], 1, [], [], [], [], [], [], [], [], [], [], 4⟩

/-! ## Parsing and classification (R191 to R233) -/

/-- An entry window operation in progress (R230): 1 WRITE, 2 INVALIDATE or 3 READ, its table, bank and index, and the entry that WRITE
writes. -/
structure WinOp where
  op    : Nat
  table : Nat
  bank  : Nat
  index : Nat
  data  : List Byte
  deriving DecidableEq, Repr

/-- The large tables of island 9 (R208 to R229): entries by table code × 2^24 + bank × 2^23 + index. -/
structure Cls where
  entries : Tbl (List Byte)
  /-- SEED1 and SEED2 of the flow banks. -/
  seeds   : Tbl (Nat × Nat)
  /-- Flow cache sets: entries' keys in `entries` and whether each was hit, most recently used first (R211). -/
  cache   : Tbl (List (Nat × Bool))
  ageClock : Nat
  /-- CLS.WIN_DATA (R230). -/
  winData : List Byte
  /-- The entry window operation in progress, while WIN_STATUS.DONE is 0 (R230, R231). -/
  winOp   : Option WinOp
  deriving DecidableEq, Repr

/-- Tables empty: an entry never written reads as zero. -/
def Cls.reset : Cls := ⟨[], [], [], 0, List.replicate 160 0, none⟩

/-- A leaf queue's frames and telemetry figures (R270, R290). `drops` is its 64-bit drop counter (R292). -/
structure Leaf where
  queue : List Frame
  peak  : Nat
  since : Nat
  drops : Nat
  deriving DecidableEq, Repr

/-- An empty leaf. -/
def Leaf.empty : Leaf := ⟨[], 0, 0, 0⟩

/-- A shaper's credit, in units of 1/8,000,000 byte, as it stood at clock `since` (R275). -/
structure Credit where
  amount : Int
  since  : Nat
  deriving DecidableEq, Repr

/-- A parent's round (R274): the first index it has not passed, and that child's grants left in the round and frames left in
its grant, once it is served. -/
structure Round where
  child  : Nat
  grants : Nat
  frames : Nat
  deriving DecidableEq, Repr

/-- A policer's bucket (R280), in units of 1/8,000,000 byte or 1/10^9 packet, and its two counters (R282). -/
structure Policer where
  tokens  : Nat
  since   : Nat
  conform : BitVec 64
  dropped : BitVec 64
  deriving DecidableEq, Repr

/-- A port's running gate list (R283 to R285): the block in force, the block of the next boundary, the entry now running, and
when it and its cycle began on the period timer, and the classes that were paused when their open windows opened (R170). -/
structure Gate where
  list    : List Byte
  next    : Option (List Byte)
  entry   : Nat
  start   : Nat
  cycle   : Nat
  shut    : List Nat
  deriving DecidableEq, Repr

/-- No list: every gate is open. -/
def Gate.off : Gate := ⟨[], none, 0, 0, 0, []⟩

/-- A frame on a port's wire (R165, R184): its packet, its bytes without the FCS, when it began and when it ends on the period timer, and
the timestamp of its completion. -/
structure Wire where
  pkt   : Pkt
  bytes : List Byte
  began : Nat
  stop  : Nat
  ts    : Option Time
  /-- A word of it was uncorrectable: it ends with an inverted FCS (R534). -/
  spoiled : Bool
  deriving DecidableEq, Repr

/-- A telemetry sweep in progress (R289 to R291). -/
structure Sweep where
  number : Nat
  start  : Time
  began  : Nat
  /-- Leaves still to visit: destination × 65,536 + leaf. -/
  left   : List Nat
  batch  : Nat
  recs   : List (List Byte)
  deriving DecidableEq, Repr

/-- Traffic manager state (island 10). -/
structure Tm where
  leaves   : Tbl Leaf
  credits  : Tbl Credit
  rounds   : Tbl Round
  policers : Tbl Policer
  gates    : Tbl Gate
  /-- Settings the traffic manager acts under: its adopted generation's (R269, R281). -/
  nodes    : Settings
  sweep    : Option Sweep
  sweeps   : Nat
  /-- Periods counted toward the next sweep. -/
  sweepWait : Nat
  /-- Period timer at which the frame each destination is sending ends. -/
  wireEnd  : Tbl Nat
  /-- The frame on each port's wire. -/
  wire     : Tbl Wire
  deriving DecidableEq, Repr

/-- Empty queues, no list, no sweep (R267). -/
def Tm.reset : Tm := ⟨[], [], [], [], [], [], none, 0, 0, [], []⟩

/-! ## Dreko threads, lines and hitches (R293 to R352) -/

/-- Thread roles (R297). -/
inductive Role where
  | idle | housekeeper | service | backStair | storage | seal | maintenance | annex | annexPacket
  deriving DecidableEq, Repr

/-- What a thread does now, as `THR.STATE.STATE` shows it (R326); a debug halt stands in `Thread.halted`. -/
inductive ThState where
  | idle | ready | blockedLine | blockedLend | blockedHitch | parked | reseating | faulted
  deriving DecidableEq, Repr

/-- A thread (R297, R327). -/
structure Thread where
  role      : Role
  priority  : Nat
  group     : Nat
  reseatOnFault : Bool
  entry     : Nat
  stackBase : Nat
  stackSize : Nat
  arg       : Nat
  state     : ThState
  halted    : Bool
  g         : Vector Word 32
  v         : Vector Vec 8
  p         : BitVec 8
  pc        : BitVec 32
  gen       : BitVec 16
  retired   : BitVec 64
  /-- Line and beats of the staged message (R307). -/
  staged    : Option (Nat × List Vec)
  /-- The line or hitch waited on and the register that takes the result. -/
  object    : Nat
  resultReg : Greg
  deadline  : Option Nat
  held      : List Nat
  /-- Packet handles a PACKET message gave the thread (R516). -/
  packets   : List (Nat × Nat)
  seq       : Nat
  deriving DecidableEq, Repr

/-- A thread before the thread map is loaded. -/
def Thread.idle : Thread where
  role := .idle
  priority := 0
  group := 0
  reseatOnFault := false
  entry := 0
  stackBase := 0
  stackSize := 0
  arg := 0
  state := .idle
  halted := false
  g := Vector.replicate 32 0
  v := Vector.replicate 8 0
  p := 0
  pc := 0
  gen := 0
  retired := 0
  staged := none
  object := 0
  resultReg := 0
  deadline := none
  held := []
  packets := []
  seq := 0

/-- A line (R299, R307 to R311). Kinds: 0 any, 1 one wait group, 2 one thread, 3 units only. Capacity 0 is an unused line. -/
structure Line where
  cap        : Nat
  writerKind : Nat
  writer     : Nat
  readerKind : Nat
  reader     : Nat
  queue      : List (List Vec)
  readers    : List Nat
  writers    : List Nat
  deriving DecidableEq, Repr

/-- An unused line. -/
def Line.unused : Line := ⟨0, 0, 0, 0, 0, [], [], []⟩

/-- A hitch (R299, R312 to R314): COUNT 0 is unused, 1 a lock. -/
structure Hitch where
  count   : Nat
  holders : List Nat
  queue   : List Nat
  deriving DecidableEq, Repr

/-- An unused hitch. -/
def Hitch.unused : Hitch := ⟨0, [], []⟩

/-- Stall sentinel state of a wait group (R322, R324). -/
structure Group where
  t1us    : Nat
  t2us    : Nat
  recover : Bool
  since   : Option Nat
  sinceTime : Time
  stage   : Nat
  deriving DecidableEq, Repr

/-- Defaults of R322; annex groups report only. -/
def Group.default (g : Nat) : Group := ⟨100, 10000, decide (g % 64 < 56), none, Time.zero, 0⟩

/-- A record of a cluster's trace unit (R320). -/
structure TraceRec where
  index  : Nat
  thread : Nat
  kind   : Nat
  pc     : Nat
  time   : Nat
  deriving DecidableEq, Repr

/-- Cores, threads, lines and hitches (islands 11 to 14 and the line and hitch units). -/
structure Cores where
  threads    : Tbl Thread
  lines      : Tbl Line
  hitches    : Tbl Hitch
  lhReady    : Bool
  groups     : Tbl Group
  annexCores : List Nat
  /-- ANNEX_CORES takes hold at the next restart (R303). -/
  annexNext  : List Nat
  freqMhz    : Tbl Nat
  /-- Generation each cluster last adopted. -/
  clusterGen : Tbl Nat
  traces     : Tbl (List TraceRec)
  /-- Bytes of the packet each packet buffer handle names (R516). -/
  packetLens : Tbl Nat
  /-- Messages that each hardware unit has written to lines, modulo 2^32 (SEQ of R308). -/
  unitSeq    : Tbl Nat
  /-- CYCLES of each cluster in units of 1/1,000 cycle (R328) as it stood at a clock, and the clock of the last reset. -/
  cycles     : Tbl (Nat × Nat)
  resetAt    : Nat
  deriving DecidableEq, Repr

/-- Cores before threads are released (R297, R315: LH_READY 0). -/
def Cores.reset : Cores := ⟨[], [], [], false, [], [], [], [], [], [], [], [], [], 0⟩

/-! ## Memory (R514 to R544) -/

/-- A record of the memory error log (R541). -/
structure ErrRec where
  kind   : Nat
  region : Nat
  unit   : Nat
  count  : Nat
  addr   : Nat
  time   : Time
  deriving DecidableEq, Repr

/-- A MEM_MARCH run in progress (R536): its parameter block and when it began. -/
structure March where
  params : List Byte
  start  : Nat
  deriving DecidableEq, Repr

/-- The memory unit (island 16): error correction, repair, regions, tests. -/
structure MemUnit where
  sramReady : Bool
  gddrReady : Bool
  fullTrain : Bool
  /-- GDDR6 training parameters are saved in the porch's wake logic (R543). -/
  trainSaved : Bool
  /-- Words (8 B of SRAM, 64 B of GDDR6) that read as uncorrectable, by thread address (R534). -/
  bad       : List Nat
  /-- Corrections of the last 24 h: row or unit address and clock (R529). -/
  corrected : List (Nat × Nat)
  spares    : Tbl Nat
  repaired  : List Nat
  retired   : List Nat
  substituted : List (Nat × Nat)
  remapped  : List Nat
  /-- GDDR6 chunks of 2 MiB not yet zero-filled (R531). -/
  unfilled  : List Nat
  march     : Option March
  errLog    : List ErrRec
  errLost   : Nat
  annexMib  : Nat
  /-- Offset and length of the annex image in the code region (R361, R522). -/
  annexCode : Nat × Nat
  /-- Fetches of the code region wait for a reload (R534). -/
  codeReload : Bool
  recalAt   : Nat
  /-- The memory keys that the controllers hold, by the draw of the strongroom that made them; none while they hold no keys (R530, R542). -/
  keys      : Option Nat
  deriving DecidableEq, Repr

/-- Memory before the boot march; the annex region has its default size (R519). -/
def MemUnit.reset : MemUnit where
  sramReady := false
  gddrReady := false
  fullTrain := false
  trainSaved := false
  bad := []
  corrected := []
  spares := []
  repaired := []
  retired := []
  substituted := []
  remapped := []
  unfilled := []
  march := none
  errLog := []
  errLost := 0
  annexMib := 1024
  annexCode := (0, 0)
  codeReload := false
  recalAt := 0
  keys := none

/-! ## Faults and the debug ledger (R565 to R581) -/

/-- A debug ledger entry (R579). -/
structure LedgerEntry where
  index : Nat
  kind  : Nat
  scope : Nat
  unit  : Nat
  gen   : Nat
  time  : Time
  body  : List Byte
  deriving DecidableEq, Repr

/-- Fault handling state. -/
structure FaultUnit where
  ledger     : List LedgerEntry
  ledgerNext : Nat
  /-- INDEX below which DBG_LEDGER has read. -/
  ledgerRead : Nat
  /-- Clocks of recent reseats, cluster restarts and escalated warm restarts (R566): unit and clock. -/
  reseats    : List (Nat × Nat)
  clusterRestarts : List Nat
  escalatedWarm   : List Nat
  deriving DecidableEq, Repr

/-- No entry yet. -/
def FaultUnit.reset : FaultUnit := ⟨[], 0, 0, [], [], []⟩

/-! ## Strongroom (R353 to R388) -/

/-- An OWNER_KEY fuse slot (R353). -/
structure OwnerKey where
  valid   : Bool
  revoked : Bool
  alg     : Nat
  hash    : List Byte
  deriving DecidableEq, Repr

/-- The one-time fuses outside the device-unique secret, which nothing exposes (R353). Their contents at manufacture are the
model's (DESIGN CHOICE, log entry 17). -/
structure Fuses where
  serial        : Nat
  vendorLms     : List Byte
  vendorEcdsa   : List Byte
  owner         : List OwnerKey
  secureVersion : Nat
  deriving DecidableEq, Repr

/-- Fuses of an unowned device with serial number 0. -/
def Fuses.blank : Fuses := ⟨0, List.replicate 32 0, List.replicate 48 0, List.replicate 5 ⟨false, false, 0, List.replicate 48 0⟩, 0⟩

/-- A copy of the boot record (R356, R358). -/
structure BootRec where
  active : Nat
  trial  : Bool
  seq    : Nat
  ok     : Bool
  deriving DecidableEq, Repr

/-- A flash region for an image: STATE of R360 and the bytes already written. -/
structure Slot where
  state   : Nat
  written : Nat
  deriving DecidableEq, Repr

/-- A vault record with its counters (R369, R371): `state` 0 free, 1 active, 2 detached, 3 destroyed. -/
structure VaultRec where
  state     : Nat
  room      : Nat
  index     : Nat
  policy    : Nat
  cur       : Nat
  prev      : Nat
  log2Inv   : Nat
  log2Blk   : Nat
  resInv    : Nat
  resBlk    : Nat
  nextInv   : Nat
  nextBlk   : Nat
  keyCur    : List Byte
  keyPrev   : List Byte
  deriving DecidableEq, Repr

/-- A free slot. -/
def VaultRec.free : VaultRec := ⟨0, 0, 0, 0, 0, 0, 0, 0, 0, 0, 0, 0, [], []⟩

/-- An entry of the migration key table (R378) with its eMRAM sequences (R367). -/
structure MigKey where
  id       : List Byte
  room     : Nat
  key      : List Byte
  saved    : Nat
  restored : Nat
  deriving DecidableEq, Repr

/-- An import handle (R378): one use, by one room, until a clock. -/
structure ImportKey where
  handle : Nat
  room   : Nat
  target : Nat
  ends   : Nat
  key    : List Byte
  deriving DecidableEq, Repr

/-- A session key (R379): its KEY_ADD record without the key, the key, and its sequence and replay state. -/
structure SessKey where
  room   : Nat
  kind   : Nat
  body   : List Byte
  key    : List Byte
  seq    : Nat
  window : Nat
  deriving DecidableEq, Repr

/-- A seal key pair (R380 to R383): public identifiers of both families, the next leaf, the reservation mark and the number
of bottom trees built. -/
structure SealPair where
  seed   : List Byte
  leaf   : Nat
  mark   : Nat
  built  : Nat
  deriving DecidableEq, Repr

/-- The private keys of the identities, 0 before the boot that derives them, and the certificates that boot gives the Alias and Import
keys (R362). -/
structure Identities where
  deviceId   : Nat
  aliasId    : Nat
  importId   : Nat
  aliasCert  : List Byte
  importCert : List Byte
  deriving DecidableEq, Repr

/-- Strongroom state (island 1). -/
structure Strongroom where
  fuses       : Fuses
  bootA       : BootRec
  bootB       : BootRec
  slotA       : Slot
  slotB       : Slot
  annexSlot   : Slot
  /-- Contents of boot flash (R356). -/
  flash       : Memory
  romDone     : Bool
  /-- KX_STATUS.READY, IMAGE_VALID and RECOVERY_ONLY (R72). -/
  ready       : Bool
  imageValid  : Bool
  recovery    : Bool
  bootSlot    : Nat
  trial       : Bool
  /-- The clock of thread release, and whether the trial's second has passed without READY (R358). -/
  releasedAt  : Nat
  trialOver   : Bool
  /-- Header of the booted image; empty before a boot. -/
  header      : List Byte
  annexHeader : List Byte
  /-- Digests of measurement blocks 1 to 6 (R359). -/
  measures    : Tbl (List Byte)
  entropyRun  : Nat
  entropyFail : Bool
  dipFrozen   : Bool
  vaultOpen   : Bool
  vaultLocked : Bool
  vaultEpoch  : Nat
  vaultGen    : Nat
  vaultDirty  : Bool
  vault       : Tbl VaultRec
  /-- The vault as last persisted to the journal namespace, with its generation (R369). -/
  vaultSaved  : Tbl VaultRec
  /-- Vault pages whose current location in the journal namespace is the second one (R369). -/
  vaultLoc    : List Nat
  savedGen    : Nat
  /-- eMRAM counter reservations of R371, by slot: generation, invocation and block marks. -/
  reserved    : Tbl (Nat × Nat × Nat)
  cache       : List Nat
  migration   : List MigKey
  imports     : List ImportKey
  nextImport  : Nat
  sessions    : Tbl SessKey
  sealCur     : Option SealPair
  sealNext    : Option SealPair
  sealStopped : Bool
  sealNewBusy : Bool
  /-- The valid unlock nonce and the clock at which it ends (R386). -/
  nonce       : Option (List Byte × Nat)
  debugLevel  : Nat
  /-- Owner chains of SPDM slots 1 to 7, as SET_CERTIFICATE wrote them (R362). -/
  certs       : Tbl (List Byte)
  ids         : Identities
  mboxBusy    : Bool
  /-- The work item that reads the mailbox's packet (0 none, R387). -/
  mboxRead    : Nat
  mboxDone    : Bool
  /-- The hibernate record of eMRAM (R367, R554): slot, image digest, secure version and owner slot. -/
  hibernate   : Option (Nat × List Byte × Nat × Nat)
  /-- Per-room context keys drawn at boot (R365): the draw of room 0. -/
  contextBase : Nat
  /-- Next invocation number of the context keys (R407). -/
  contextInv : Nat
  /-- Debug state of eMRAM (R367): unlocks done and the nonce last consumed. -/
  unlocks    : Nat
  lastNonce  : List Byte
  /-- Per-boot memory keys (R365, R530): the draw of this boot's pair. -/
  memKeys    : Nat
  deriving DecidableEq, Repr

/-- The strongroom before the ROM runs. -/
def Strongroom.reset : Strongroom where
  fuses := Fuses.blank
  bootA := ⟨0, false, 0, true⟩
  bootB := ⟨0, false, 0, false⟩
  slotA := ⟨0, 0⟩
  slotB := ⟨0, 0⟩
  annexSlot := ⟨0, 0⟩
  flash := []
  romDone := false
  ready := false
  imageValid := false
  recovery := false
  bootSlot := 0
  trial := false
  releasedAt := 0
  trialOver := false
  header := []
  annexHeader := []
  measures := []
  entropyRun := 0
  entropyFail := false
  dipFrozen := false
  vaultOpen := false
  vaultLocked := false
  vaultEpoch := 0
  vaultGen := 0
  vaultDirty := false
  vault := []
  vaultSaved := []
  vaultLoc := []
  savedGen := 0
  reserved := []
  cache := []
  migration := []
  imports := []
  nextImport := 1
  sessions := []
  sealCur := none
  sealNext := none
  sealStopped := false
  sealNewBusy := false
  nonce := none
  debugLevel := 0
  certs := []
  ids := ⟨0, 0, 0, [], []⟩
  mboxBusy := false
  mboxRead := 0
  mboxDone := false
  hibernate := none
  contextBase := 0
  contextInv := 0
  unlocks := 0
  lastNonce := []
  memKeys := 0

/-! ## Cipher and digest tiles (R389 to R416) -/

/-- A lease on a tile's cache entry (R371, R404): encrypt or decrypt, the blocks and invocations left, and the next
invocation number. -/
structure Lease where
  encrypt : Bool
  blocks  : Nat
  inv     : Nat
  next    : Nat
  deriving DecidableEq, Repr

/-- A cached key schedule (R402): its key reference, the key, and its lease. -/
structure TileKey where
  ref   : Nat
  key   : List Byte
  lease : Option Lease
  deriving DecidableEq, Repr

/-- What a held request waits for: nothing, its key schedule, or a lease (R402, R404). -/
inductive TileWait where
  | ready | schedule | lease
  deriving DecidableEq, Repr

/-- A request that a tile holds (R399): the thread that wrote it, its message, and how far it is. `sha` and `kec` are the states
of a digest request. -/
structure TileReq where
  thread : Nat
  msg    : List Byte
  wait   : TileWait
  done   : Nat
  kdone  : Nat
  inv    : Nat
  nonce  : List Byte
  sha    : List Byte
  kec    : List Byte
  outs   : List Byte
  deriving DecidableEq, Repr

/-- A tile: the requests it holds in the order taken, the cluster whose turn comes next, its key schedules most recently used
first, and the responses it keeps for full home lines (R399 to R402). -/
structure Tile where
  held       : List TileReq
  turn       : Nat
  keys       : List TileKey
  responses  : List (Nat × List Vec)
  restarting : Bool
  deriving DecidableEq, Repr

/-- An idle tile with no key. -/
def Tile.idle : Tile := ⟨[], 0, [], [], false⟩

/-- Record protection of a TLS 1.3 connection (R252): TLS_AES_256_GCM_SHA384, or else TLS_AES_128_GCM_SHA256; the traffic secrets of what the
device sends and receives, and the number of the next record under each. -/
structure Tls where
  strong    : Bool
  outSecret : List Byte
  inSecret  : List Byte
  outSeq    : Nat
  inSeq     : Nat
  deriving DecidableEq, Repr

/-- A TCP connection of the NVMe/TCP service (R507 to R511): which record of NVMT_SET made it (`initiator`, `index`), its device
address, peer and ports, the party and thread it belongs to, and how far it is. -/
structure Conn where
  initiator : Bool
  index     : Nat
  addr      : Nat
  remote    : List Byte
  lport     : Nat
  rport     : Nat
  room      : Nat
  thread    : Nat
  /-- The TLS handshake is done, or none is required; and the record protection it left. -/
  secure    : Bool
  tls       : Option Tls
  /-- Target side: the controller and queue it carries (queue 0 is the admin queue). -/
  ctrl      : Option Nat
  queue     : Nat
  /-- Path MTU (R261, R511), retransmissions in a row, and the clock of the last acknowledgement progress. -/
  pmtu      : Nat
  retries   : Nat
  progress  : Nat
  deriving DecidableEq, Repr

/-- An NVMe/TCP target controller (R508): its subsystem (none for discovery at a listener), the host entry it matched, queues
granted, the keep alive timer and event configuration, and its outstanding asynchronous event requests. -/
structure Ctrl where
  subsys   : Option Nat
  listener : Nat
  host     : List Byte
  queues   : Nat
  kato     : Nat
  lastKeep : Nat
  aen      : Nat
  events   : List Nat
  changed  : List Nat
  errors   : Nat
  deriving DecidableEq, Repr

/-! ## The seal rope (R417 to R447) -/

/-- An epoch that is open, or closed and not yet published (R419 to R424): its places, the records confirmed and not yet folded
(`seq`, record), and the log of those folded. `body` and `knot` are built by the close and by the signature. -/
structure Epoch where
  number   : Nat
  kind     : Nat
  flags    : Nat
  openTime : Time
  close    : Option Time
  periodUs : Nat
  skipped  : Nat
  /-- A boundary passed during a dip (R433). -/
  dipSkip  : Bool
  /-- Next sequence number, places taken by sweeps and batches, places pending. -/
  next     : Nat
  maint    : Nat
  held     : List Nat
  arrived  : List (Nat × List Byte)
  log      : List (Nat × List Byte)
  body     : List Byte
  knot     : List Byte
  /-- Drive writes of the knot record still to complete, and whether one of them failed. -/
  writes   : Nat
  submitted : Bool
  failed   : Bool
  /-- NEXT_KEYS of a HANDOVER knot. -/
  nextKeys : List Byte
  deriving DecidableEq, Repr

/-- A published knot with its log and whether the log is on the seal volume (R434, R436). -/
structure Knot where
  epoch     : Nat
  rec'      : List Byte
  log       : List (Nat × List Byte)
  persisted : Bool
  deriving DecidableEq, Repr

/-- When the next epoch opens, while none is open (R432). -/
inductive NextOpen where
  | storageOpen | boundary | never
  deriving DecidableEq, Repr

/-- Rope state (R431 to R447). -/
structure Rope where
  held     : Bool
  id       : List Byte
  /-- First epoch of the rope on this device, the number and kind of the next epoch. -/
  first    : Nat
  number   : Nat
  kind     : Nat
  opened   : Option Epoch
  closed   : List Epoch
  knots    : List Knot
  lastPub  : Option Nat
  /-- CLOSE_TIME and knot record of the last epoch closed and the last knot signed (for a successor, the handover knot). -/
  lastClose : Time
  prev     : List Byte
  /-- The predecessor's handover knot, for a successor; numbers of epochs lost in a reset that carried DIP. -/
  base     : List Byte
  lostDip  : List Nat
  /-- Pairs that have signed knots here: first epoch, PK1 and PK2. -/
  pairs    : List (Nat × List Byte × List Byte)
  next     : NextOpen
  paused   : Bool
  handed   : Bool
  extended : Bool
  deriving DecidableEq, Repr

/-- No rope. -/
def Rope.none' : Rope where
  held := false
  id := []
  first := 0
  number := 0
  kind := 1
  opened := none
  closed := []
  knots := []
  lastPub := none
  lastClose := Time.zero
  prev := []
  base := []
  lostDip := []
  pairs := []
  next := .storageOpen
  paused := false
  handed := false
  extended := false

/-! ## Storage path (R472 to R513) -/

/-- An extent map entry (R490) with its volume, the place of its Write or Splice record, and its latest fixity record with that
record's epoch. DAMAGED: 0 whole, 1 by tag, 2 by fixity. `missing` has one bit per member of its group. -/
structure Extent where
  vol      : Nat
  domain   : Nat
  ns       : Nat
  lba      : Nat
  seq      : Nat
  blocks   : Nat
  gen      : Nat
  damaged  : Nat
  group    : Nat
  missing  : Nat
  mlba     : Nat
  inv      : Nat
  tag      : List Byte
  sha      : List Byte
  sha3     : List Byte
  epoch    : Nat
  place    : Nat
  recEpoch : Nat
  rec'     : List Byte
  deriving DecidableEq, Repr

/-- Blocks that become free once a map checkpoint has run (R491) and, after a splice, once the epoch is published (R460):
group, first block, count. -/
structure Dying where
  group : Nat
  first : Nat
  count : Nat
  epoch : Option Nat
  deriving DecidableEq, Repr

/-- A sweep cycle of a volume (R450): when it began, the extents still to visit (namespace, LBA, sequence), whether it lags. -/
structure Cycle where
  start   : Nat
  left    : List (Nat × Nat × Nat)
  lagging : Bool
  deriving DecidableEq, Repr

/-- A volume (R481 to R487, R503 to R506): `members` are the serial numbers, group by group; `lost` the lost ones among them by
position; `rebuilding` those that replacement made whole again only in part. -/
structure Volume where
  layout     : Nat
  k          : Nat
  m          : Nat
  groups     : Nat
  flags      : Nat
  share      : Nat
  nsid       : Nat
  members    : List (List Byte)
  lost       : List Nat
  rebuilding : List Nat
  key        : Nat
  extents    : List Extent
  used       : List (Nat × Nat × Nat)
  dying      : List Dying
  cycle      : Option Cycle
  /-- When the last cycle began, once it has ended. -/
  lastCycle  : Option Nat
  /-- Pages of the extent map as the last checkpoint left them on the volume (R490, R491). -/
  pages      : List (List Byte)
  deriving DecidableEq, Repr

/-- A virtual namespace (R488, R489): `next` is its next write sequence, `gone` that it was deleted and its extents go in the
background. -/
structure Space where
  vol      : Nat
  room     : Nat
  index    : Nat
  size     : Nat
  readOnly : Bool
  next     : Nat
  gone     : Bool
  deriving DecidableEq, Repr

/-- What a drive command is for: a journal block, a knot record, a piece of an operation (its extent's number in the operation,
the member, the byte offset in the piece), a resynchronisation, an administrative command. -/
inductive CmdUse where
  | journal (seq : Nat)
  | knot (epoch : Nat)
  | piece (op ext member off : Nat)
  | sanitize
  | smart
  | other
  deriving DecidableEq, Repr

/-- A command outstanding to a drive (R475, R476, R480): what waits for it, its block range and buffer, and when it was issued and
aborted. -/
structure DriveCmd where
  id      : Nat
  use     : CmdUse
  write   : Bool
  lba     : Nat
  blocks  : Nat
  buf     : Nat
  issued  : Nat
  aborted : Option Nat
  deriving DecidableEq, Repr

/-- An NVMe drive (R474 to R480, R513). -/
structure Drive where
  serial     : List Byte
  port       : Nat
  blocks     : Nat
  lbaOk      : Bool
  vwc        : Bool
  trim       : Bool
  mdts       : Nat
  width      : Nat
  rate       : Nat
  degraded   : Bool
  critical   : Nat
  lost       : Bool
  sanitizing : Bool
  cmds       : List DriveCmd
  timeouts   : List Nat
  resetAt    : Option Nat
  /-- Bytes delivered in the running 100 ms window and in the one before it, and whether that one served foreground work. -/
  winStart   : Nat
  winBytes   : Nat
  lastBytes  : Nat
  lastBusy   : Bool
  winBusy    : Bool
  /-- It returned after removal: unassigned whatever its label says (R506). -/
  returned   : Bool
  /-- It stands directly below its root port (R472). -/
  direct     : Bool
  /-- Bytes that sweeps, batches, deallocation and rebuilds took in the running window, by user (R450, R468, R506). -/
  maint      : Tbl Nat
  deriving DecidableEq, Repr

/-- A drive fabric root port (R472, R513). -/
structure DrvPort where
  present   : Bool
  up        : Bool
  contained : Bool
  width     : Nat
  rate      : Nat
  deriving DecidableEq, Repr

/-- A root port with nothing attached. -/
def DrvPort.empty : DrvPort := ⟨false, false, false, 0, 0⟩

/-- Where a storage operation came from: a ring and its work item, an NVMe/TCP connection and command identifier, a sweep of a
volume, a batch slot, a key domain's destruction, a background deallocation, replay. -/
inductive OpSrc where
  | ring (ref work : Nat)
  | conn (c cid : Nat)
  | sweep (vol : Nat)
  | batch (slot : Nat)
  | tomb (slot : Nat)
  | internal
  deriving DecidableEq, Repr

/-- Operations of the storage path. -/
inductive OpKind where
  | write | read | verify | dealloc | repair | sweep | splice | tomb | rebuild
  deriving DecidableEq, Repr

/-- What an operation waits for: its data, a lease, entry ring space, its OPEN, its piece writes, its piece reads, a repair, a
place, its COMPLETE. -/
inductive OpStage where
  | data | key | space | opening | writing | reading | repairing | place | completing
  deriving DecidableEq, Repr

/-- A storage operation in flight (R498 to R502, R448, R458). `ext` is the extent it writes or checks, `todo` those a read has
still to deliver, `old` the extent it replaces or its source. -/
structure StoreOp where
  id       : Nat
  kind     : OpKind
  src      : OpSrc
  thread   : Nat
  room     : Nat
  vol      : Nat
  ns       : Nat
  lba      : Nat
  blocks   : Nat
  domain   : Nat
  stage    : OpStage
  ext      : Option Extent
  old      : Option Extent
  todo     : List Extent
  /-- Journal entry, 0 for none. -/
  entry    : Nat
  data     : List Byte
  /-- Pieces read: member, offset, bytes; members whose read failed; pieces wanted of every member. -/
  got      : List (Nat × Nat × List Byte)
  bad      : List Nat
  all      : Bool
  /-- Drive commands outstanding for the stage. -/
  waits    : Nat
  out      : List Byte
  records  : List (List Byte)
  epoch    : Nat
  place    : Nat
  placed   : Bool
  rehash   : Bool
  fixity   : Nat
  host     : List (Nat × Nat)
  repaired : Bool
  replayed : Bool
  retried  : Bool
  waiters  : List Nat
  since    : Nat
  /-- Drive status of a failed piece plus one; 0 for none. -/
  detail   : Nat
  /-- Hashes of its plaintext while it waits for a lease, as firmware writes them outside core scratch (R410); empty for none. -/
  chain    : List Byte
  /-- Its staged data was lost once and fetched again (R534). -/
  restaged : Bool
  deriving DecidableEq, Repr

/-- A journal entry's OPEN item (R495): OP, room, volume, the extent and what it supersedes, and its source. -/
structure JEntry where
  id     : Nat
  op     : Nat
  room   : Nat
  vol    : Nat
  ext    : Extent
  super  : Option Nat
  source : Nat
  index  : Nat
  deriving DecidableEq, Repr

/-- A journal item (R495). COMPLETE repeats its entry, so that an entry without an OPEN (a verified record) is whole. -/
inductive JItem where
  | start (e : JEntry)
  | complete (e : JEntry) (epoch place : Nat) (records : List (List Byte))
  | abandon (e : JEntry)
  | release (id : Nat)
  deriving DecidableEq, Repr

/-- A journal block (R494): its sequence, items, bytes, the journal drives it is valid on, and drive writes outstanding. -/
structure JBlock where
  seq    : Nat
  items  : List JItem
  stamp  : Time
  size   : Nat
  valid  : List (List Byte)
  waits  : Nat
  failed : Bool
  deriving DecidableEq, Repr

/-- An unreleased journal entry (R496, R573): what has been confirmed of it, and whether its map change is applied and
checkpointed. `stuck` marks a COMPLETE entry on a failed volume (R577). -/
structure Live where
  e        : JEntry
  openOk   : Bool
  complete : Option (Nat × Nat × List (List Byte))
  abandoned : Bool
  applied  : Bool
  saved    : Bool
  stuck    : Bool
  deriving DecidableEq, Repr

/-- A selected extent of a batch: the source extent's identity, or a manifest record (R457). -/
inductive Sel where
  | local' (vol ns lba seq : Nat)
  | remote (rec' : List Byte)
  deriving DecidableEq, Repr

/-- A transcryption batch (R456 to R464). -/
structure Batch where
  ctx        : Ctx
  left       : List Sel
  selected   : Nat
  done       : Nat
  superseded : Nat
  mismatched : Nat
  cancelled  : Bool
  ending     : Option Nat
  keptPrev   : Bool
  replayed   : Bool
  savedAt    : Nat
  /-- The manifest of a PULL is still being read (R457). -/
  loading    : Bool
  deriving DecidableEq, Repr

/-- A repair or tombstone that replay finishes in the first epoch after it (R574, R575): its record and journal entry. -/
structure Later where
  op   : Nat
  e    : JEntry
  rec' : List Byte
  deriving DecidableEq, Repr

/-- Replay (R573 to R577, R581): phase, in place, an entry is stuck, progress. `work` lists threads whose work is to be replayed
in place. -/
structure Replay where
  phase    : Nat
  inPlace  : Bool
  stuck    : Bool
  progress : Nat
  active   : Bool
  work     : List Nat
  later    : List Later
  deriving DecidableEq, Repr

/-- What the storage path keeps as the previous copy of its configuration (R20, R33): volumes, namespaces and the journal pair. -/
structure StoreCopy where
  volumes   : Tbl Volume
  spaces    : Tbl Space
  journal   : List (List Byte)
  jLost     : List (List Byte)
  jnsid     : Nat
  ringGib   : Nat
  timeoutMs : Nat
  deriving DecidableEq, Repr

/-- Storage path state (islands 16 and 17 and the storage threads). -/
structure Store where
  /-- `STORE.STATUS.PATH`: 0 closed, 1 replaying, 2 open, 3 reads only. -/
  path      : Nat
  /-- Serial numbers of the journal drives set, and of those lost. -/
  journal   : List (List Byte)
  jLost     : List (List Byte)
  jnsid     : Nat
  ringGib   : Nat
  timeoutMs : Nat
  /-- Sequence number of the storage configuration, 0 before the first is written (R493). -/
  confSeq   : Nat
  jid       : List Byte
  /-- A replaced journal drive is being brought up to date (R497). -/
  resync    : Bool
  queue     : List JItem
  queueSince : Option Nat
  blockSeq  : Nat
  /-- 4 KiB units written to the entry ring since it was empty. -/
  ringPos   : Nat
  entryNext : Nat
  blocks    : List JBlock
  entries   : List Live
  drives    : Tbl Drive
  ports     : Tbl DrvPort
  fabric    : Nat
  nextCmd   : Nat
  volumes   : Tbl Volume
  spaces    : Tbl Space
  ops       : List StoreOp
  nextOp    : Nat
  batches   : Tbl Batch
  /-- Batch cursors as last persisted in the journal namespace (R462). -/
  cursors   : Tbl Batch
  /-- Leases that the storage threads' tiles hold: slot × 65,536 + generation. -/
  leases    : Tbl Lease
  rope      : Rope
  replay    : Replay
  /-- Key domains destroyed with DEALLOCATE whose extents go in the background (R468). -/
  sinking   : List Nat
  conns     : Tbl Conn
  ctrls     : Tbl Ctrl
  /-- The previous copy of the storage configuration, while the generation before is live (R20). -/
  before    : Option StoreCopy
  deriving DecidableEq, Repr

/-- No storage configuration. -/
def Store.reset : Store where
  path := 0
  journal := []
  jLost := []
  jnsid := 0
  ringGib := 32
  timeoutMs := 5000
  confSeq := 0
  jid := []
  resync := false
  queue := []
  queueSince := none
  blockSeq := 0
  ringPos := 0
  entryNext := 1
  blocks := []
  entries := []
  drives := []
  ports := []
  fabric := 0
  nextCmd := 1
  volumes := []
  spaces := []
  ops := []
  nextOp := 1
  batches := []
  cursors := []
  leases := []
  rope := Rope.none'
  replay := ⟨0, false, false, 0, false, [], []⟩
  sinking := []
  conns := []
  ctrls := []
  before := none

/-! ## Power ladder and supplies (R545 to R564) -/

/-- The porch (island 0). -/
structure Power where
  /-- Ladder state by its code (R545), and a descent in progress. -/
  ladder    : Nat
  entering  : Option Nat
  /-- PWR_STATE: the last target, whether it is held, and whether it is still to be reached (R550). -/
  target    : Nat
  hold      : Bool
  asked     : Bool
  wakeAt    : Option Time
  wakeCause : Nat
  /-- Clock since which the device has been idle, in Hush, and in Slumber. -/
  idleSince : Nat
  hushSince : Nat
  slumberSince : Nat
  /-- PWR_EN and PWR_GOOD, and groups that failed (R555, R556). -/
  enabled   : BitVec 5
  good      : BitVec 5
  failed    : BitVec 5
  /-- A start raises the groups (R556): the first of them and since when; and the clock of a retry. -/
  raising   : Option (Nat × Nat)
  retryAt   : Option Nat
  retried   : Bool
  vsb       : Bool
  dipSince  : Option Nat
  /-- Held in reset by a brownout (R559), and in Off by a THERMTRIP (R561). -/
  brownout  : Bool
  tripped   : Bool
  avsFails  : Nat
  coreMv    : Nat
  /-- Clock of the last step of the clusters' frequency (R560). -/
  stepAt    : Nat
  /-- A cold start has begun (R562): the next COLD_START runs it. -/
  starting  : Bool
  throttled : Bool
  warn      : Bool
  crit      : Bool
  /-- Image sections still to load after Hibernate (R554). -/
  sections  : List Nat
  deriving DecidableEq, Repr

/-- The porch at first power: `PWR.STATE.CURRENT` reads 0 (R564), no group is up. -/
def Power.reset : Power where
  ladder := 0
  entering := none
  target := 0
  hold := false
  asked := false
  wakeAt := none
  wakeCause := 0
  idleSince := 0
  hushSince := 0
  slumberSince := 0
  enabled := 0
  good := 0
  failed := 0
  raising := none
  retryAt := none
  retried := false
  vsb := true
  dipSince := none
  brownout := false
  tripped := false
  avsFails := 0
  coreMv := 800
  stepAt := 0
  starting := false
  throttled := false
  warn := false
  crit := false
  sections := []

/-- The JTAG TAP (R385, R597): the instruction in force, the boundary values preloaded, and whether EXTEST has forced its cold
reset and is served. -/
structure Jtag where
  ir      : Nat
  preload : List Byte
  extest  : Bool
  deriving DecidableEq, Repr

/-- The TAP in reset: IDCODE in force, as IEEE 1149.1 has it (PRESUMED, log entry 2). -/
def Jtag.reset : Jtag := ⟨0, [], false⟩

end Sys2Proof.Machine
end

