-- ==== Sys2Proof/Machine/State.lean ====
section
/-!
DEFINITION. The state of the VX-3200 block, what can stop a step, and the state after reset.
-/

namespace Sys2Proof.Machine

/-- What the device has sent to the world outside host memory, newest last. -/
inductive OutMsg where
  /-- An MSI-X message (R148, R149). -/
  | msix (vector addr data : Nat)
  /-- A room interrupt message (R109): room, entry, address, data, PASID carried, T bit. -/
  | roomMsg (room entry addr data : Nat) (pasid tbit : Bool)
  /-- A reply to a command (R81). -/
  | reply (r : Reply)
  | pmPme
  | wake (asserted : Bool)
  | ltr (ns : Option Nat)
  | aer (e : AerError)
  /-- A completion with Unsupported Request status to a read or request of the host (R42, R71). -/
  | unsupported
  | invalidationDone (itag : Nat)
  /-- A Translation Request for a page of a party: a room, 0xFFFF the owner (R66). -/
  | translate (room page : Nat)
  /-- A configuration request answered with Configuration Request Retry Status (R64). -/
  | retry
  /-- A memory read request: tag, PASID, selective stream with the T bit, address (R55, R65, R71). -/
  | read (tag : Nat) (pasid stream : Option Nat) (addr : Nat)
  /-- A memory write TLP: PASID, selective stream with the T bit, address, length, Relaxed Ordering (R49, R51, R65, R71). -/
  | write (pasid stream : Option Nat) (addr len : Nat) (relaxed : Bool)
  | pmeToAck
  /-- A frame on the wire of a port, FCS not shown. -/
  | frame (port : Nat) (bytes : List Byte)
  /-- A frame that ends with an inverted FCS (R534). -/
  | badFrame (port : Nat) (bytes : List Byte)
  /-- A pause (class 8) or PFC frame with its quanta (R168). -/
  | pause (port cls quanta : Nat)
  /-- Remote Fault sent on a port (R165). -/
  | remoteFault (port : Nat)
  /-- A PPS_OUT edge (R187). -/
  | pps (output : Nat) (high : Bool)
  /-- DOE, SPDM, MCTP and PLDM answers. -/
  | message (kind : Nat) (bytes : List Byte)
  /-- The value a register read returned. -/
  | value (off : Nat) (v : BitVec 64)
  /-- A JTAG data register shifted out. -/
  | jtag (v : BitVec 64)
  /-- A command to a drive: index, identifier, NVMe opcode (0x100 and above: administrative commands; 0x200 an Unsupported Request
  completion), first block, blocks, data written. -/
  | drive (d id op lba blocks : Nat) (data : List Byte)
  /-- A TCP or NVMe/TCP answer on a connection. -/
  | conn (c : Nat) (kind : Nat) (bytes : List Byte)
  deriving DecidableEq, Repr

/-- The state of the block: every register, memory, queue, mode and pin the manual gives it. -/
structure State where
  /-- Commands that wait, first in first out. -/
  pending  : List Instr
  /-- Ticks of the timekeeper's 1 GHz clock since VSB was applied: the model's elapsed nanoseconds. -/
  clock    : Nat
  /-- How many free values have been drawn: the model's own field (log entry 3). -/
  draws    : Nat
  regs     : Tbl (BitVec 64)
  hostMem  : Memory
  out      : List OutMsg
  time     : Timekeeper
  link     : HostLink
  gen      : Gen
  cmd      : Ehrenan
  rooms    : Tbl Room
  rings    : Tbl Ring
  arb      : Arb
  msgs     : Tbl MsgEntry
  ports    : Tbl Port
  pipe     : Pipe
  cls      : Cls
  tm       : Tm
  cores    : Cores
  /-- Scratch, shared SRAM and GDDR6, by thread address; core scratch in the scratch window (R305). -/
  mem      : Memory
  memory   : MemUnit
  fault    : FaultUnit
  sr       : Strongroom
  tiles    : Tbl Tile
  store    : Store
  power    : Power
  jtag     : Jtag
  deriving DecidableEq, Repr

/-- Reasons a step stops with a fault. -/
inductive Fault where
  /-- No meaning raises it: every stop of the manual is an effect of its own. Kept so that the type has a member. -/
  | unreachable
  deriving DecidableEq, Repr

/-- Reasons a step refuses a command. -/
inductive Refusal where
  /-- Raised by `exec`'s arms for a command without a meaning. Safe: no claim about it can be proved. -/
  | notModelled (mnemonic : String)
  deriving DecidableEq, Repr

/-- The machine right after reset. -/
def State.reset : State where
  pending := []
  clock := 0
  draws := 0
  regs := []
  hostMem := []
  out := []
  time := Timekeeper.reset
  link := HostLink.reset
  gen := Gen.reset
  cmd := Ehrenan.reset
  rooms := []
  rings := []
  arb := Arb.reset
  msgs := []
  ports := []
  pipe := Pipe.reset
  cls := Cls.reset
  tm := Tm.reset
  cores := Cores.reset
  mem := []
  memory := MemUnit.reset
  fault := FaultUnit.reset
  sr := Strongroom.reset
  tiles := []
  store := Store.reset
  power := Power.reset
  jtag := Jtag.reset

end Sys2Proof.Machine
end

