-- ==== Sys2Proof/Machine/Ops.lean ====
section
/-!
DEFINITION. The operations every family of commands shares: byte order and bit fields, time, registers,
writes to host memory, interrupts, events, completions and replies.
-/

namespace Sys2Proof

/-! ## Bytes and bit fields (R4) -/

/-- The `n` low bytes of a number, least significant first. -/
def leBytes (v : Nat) : Nat → List Byte
  | 0 => []
  | n + 1 => BitVec.ofNat 8 v :: leBytes (v / 256) n

/-- A little-endian number. -/
def leNat : List Byte → Nat
  | [] => 0
  | b :: bs => b.toNat + 256 * leNat bs

/-- The `n` low bytes of a number, most significant first. -/
def beBytes (v n : Nat) : List Byte := (leBytes v n).reverse

/-- A big-endian number. -/
def beNat (bs : List Byte) : Nat := leNat bs.reverse

/-- The little-endian field of `len` bytes at `off`; bytes past the end read as zero. -/
def fld (bs : List Byte) (off len : Nat) : Nat := leNat ((bs.drop off).take len)

/-- The big-endian field of `len` bytes at `off`. -/
def bfld (bs : List Byte) (off len : Nat) : Nat := beNat ((bs.drop off).take len)

/-- Bits [hi:lo] of a number. -/
def bits (v hi lo : Nat) : Nat := v / 2 ^ lo % 2 ^ (hi + 1 - lo)

/-- Bit `i` of a number. -/
def bit (v i : Nat) : Bool := decide (v / 2 ^ i % 2 = 1)

/-- A truth value as a bit. -/
def b01 (b : Bool) : Nat := if b then 1 else 0

/-- All bytes of the range are zero (a reserved field, R599). -/
def zeros (bs : List Byte) (off len : Nat) : Bool := ((bs.drop off).take len).all (fun b => b == 0)

/-- `n` zero bytes. -/
def pad (n : Nat) : List Byte := List.replicate n 0

/-- A list cut or zero-filled to `n` bytes. -/
def fit (bs : List Byte) (n : Nat) : List Byte := (bs ++ pad (n - bs.length)).take n

/-- Replace the bytes of `bs` from `off` by `new`. -/
def splice (bs : List Byte) (off : Nat) (new : List Byte) : List Byte :=
  bs.take off ++ new ++ bs.drop (off + new.length)

/-- Bytes from `a` up to `b`. -/
def slice (bs : List Byte) (a b : Nat) : List Byte := (bs.drop a).take (b - a)

/-- ASCII bytes. -/
def ascii (t : String) : List Byte := t.toList.map (fun c => BitVec.ofNat 8 c.toNat)

/-! ## Time (R5) -/

/-- Nanoseconds per second. -/
def nsPerSec : Nat := 1000000000

/-- A time as whole units of 2^-32 ns since the epoch. -/
def Time.units (t : Time) : Nat := (t.sec * nsPerSec + t.ns) * 2 ^ 32 + t.frac

/-- The time of a count of units of 2^-32 ns; nanoseconds stay below 10^9 (R5). -/
def Time.ofUnits (u : Nat) : Time := ⟨u / 2 ^ 32 / nsPerSec, u / 2 ^ 32 % nsPerSec, u % 2 ^ 32⟩

/-- The time value of R341, modulo 2^64. -/
def Time.value (t : Time) : Nat := (t.sec * nsPerSec + t.ns) % 2 ^ 64

/-- Nanoseconds since the epoch. -/
def Time.toNs (t : Time) : Nat := t.sec * nsPerSec + t.ns

/-- The 16 bytes of the time structure. -/
def Time.bytes (t : Time) : List Byte := leBytes t.sec 8 ++ leBytes t.ns 4 ++ leBytes t.frac 4

/-- Read a time structure. -/
def Time.ofBytes (bs : List Byte) (off : Nat) : Time := ⟨fld bs off 8, fld bs (off + 8) 4, fld bs (off + 12) 4⟩

/-- The nanoseconds field is in range (R5). -/
def Time.valid (t : Time) : Bool := decide (t.ns < nsPerSec)

/-- Order of times. -/
def Time.le (a b : Time) : Bool := decide (a.units ≤ b.units)

end Sys2Proof

namespace Sys2Proof.Machine

/-- What a meaning answers. -/
abbrev Res := Host.Outcome State Fault Refusal

/-! ## Free values -/

/-- Draw a fresh 64-bit value the spec leaves open. -/
def State.free (s : State) : BitVec 64 × State :=
  (Config.freeValue s.draws, { s with draws := s.draws + 1 })

/-- `n` bytes whose value the manual leaves open. -/
def State.freeBytes (s : State) (n : Nat) : List Byte × State :=
  let k := (n + 7) / 8
  ((((List.range k).map (fun i => leBytes (Config.freeValue (s.draws + i)).toNat 8)).flatten).take n, { s with draws := s.draws + k })

/-- Draw a fresh secret (key, nonce, signature part). -/
def State.secret (s : State) : BitVec 512 × State :=
  (Config.secret s.draws, { s with draws := s.draws + 1 })

/-- `n` fresh bytes that only the strongroom determines. -/
def State.secretBytes (s : State) (n : Nat) : List Byte × State :=
  let k := (n + 63) / 64
  ((((List.range k).map (fun i => leBytes (Config.secret (s.draws + i)).toNat 64)).flatten).take n,
    { s with draws := s.draws + k })

/-! ## Registers of BAR0 (R7, R8) -/

/-- The value the register file holds. -/
def State.reg (s : State) (o : Nat) : BitVec 64 := Tbl.get regReset s.regs o

/-- Set a register of the file. -/
def State.setReg (s : State) (o : Nat) (v : BitVec 64) : State :=
  { s with regs := Tbl.set regReset s.regs o v }

/-- A 32-bit counter, saturating at 0xFFFF_FFFF. -/
def satAdd (v : BitVec 64) (n : Nat) : BitVec 64 :=
  BitVec.ofNat 64 (min (v.toNat + n) 0xFFFFFFFF)

/-- Count `n` in a saturating counter. -/
def State.count (s : State) (o : Nat) (n : Nat) : State := s.setReg o (satAdd (s.reg o) n)

/-- Count one event in a saturating counter. -/
def State.bump (s : State) (o : Nat) : State := s.count o 1

/-- Count `n` in a 64-bit counter that wraps. -/
def State.count64 (s : State) (o : Nat) (n : Nat) : State := s.setReg o (s.reg o + BitVec.ofNat 64 n)

/-- Set the bits of `m` in a register. -/
def State.setBits (s : State) (o : Nat) (m : Nat) : State := s.setReg o (s.reg o ||| BitVec.ofNat 64 m)

/-- Clear the bits of `m` in a register. -/
def State.clearBits (s : State) (o : Nat) (m : Nat) : State := s.setReg o (s.reg o &&& ~~~ BitVec.ofNat 64 m)

/-- Write the bits of `m` of a register from `v`. -/
def State.putBits (s : State) (o : Nat) (m v : Nat) : State :=
  s.setReg o ((s.reg o &&& ~~~ BitVec.ofNat 64 m) ||| (BitVec.ofNat 64 v &&& BitVec.ofNat 64 m))

/-- Record something the device sends. -/
def State.emit (s : State) (m : OutMsg) : State := { s with out := s.out ++ [m] }

/-! ## Advanced Error Reporting (R43, R60) -/

/-- A configuration space word that holds what was written or logged; the severity register's reset value is R60's. -/
def cfgReset (o : Nat) : Nat := if o = 0x10C then 0x00442010 else 0

/-- Read such a word. -/
def State.cfgWord (s : State) (o : Nat) : Nat := Tbl.get cfgReset s.link.cfg o

/-- Change such a word. -/
def State.setCfg (s : State) (o v : Nat) : State := { s with link := { s.link with cfg := Tbl.set cfgReset s.link.cfg o v } }

/-- Set bits of such a word. -/
def State.orCfg (s : State) (o m : Nat) : State := s.setCfg o (s.cfgWord o ||| m)

/-- Bit of an error in the Uncorrectable Error registers; the bit places are the standard's (PRESUMED, log entry 2). -/
def AerError.uncorrectable : AerError → Option Nat
  | .dataLinkProtocol => some 4
  | .poisonedTlp => some 12
  | .flowControlProtocol => some 13
  | .completionTimeoutAdvisory | .completionTimeoutNonFatal => some 14
  | .unexpectedCompletion => some 16
  | .malformedTlp => some 18
  | .unsupportedRequest => some 20
  | .uncorrectableInternal => some 22
  | _ => none

/-- Bit of an error in the Correctable Error registers; an advisory non-fatal error sets bit 13 (PRESUMED, log entry 2). -/
def AerError.correctable : AerError → Option Nat
  | .receiverError => some 0
  | .badTlp => some 6
  | .badDllp => some 7
  | .replayNumRollover => some 8
  | .replayTimerTimeout => some 12
  | .completionTimeoutAdvisory | .unexpectedCompletion | .poisonedTlp | .unsupportedRequest => some 13
  | .correctedInternal => some 14
  | _ => none

/-- An error comes with a TLP, whose header the header log takes (R43). -/
def AerError.hasTlp (e : AerError) : Bool :=
  match e with
  | .poisonedTlp | .unexpectedCompletion | .malformedTlp | .unsupportedRequest => true
  | _ => false

/-- A register's mask holds back the report of an error. -/
def State.aerMasked (s : State) (e : AerError) : Bool :=
  match e.correctable, e.uncorrectable with
  | some c, u => bit (s.cfgWord 0x114) c || u.any fun u => bit (s.cfgWord 0x108) u
  | none, some u => bit (s.cfgWord 0x108) u
  | none, none => false

/-- Note an error in the AER status registers: the first one that a TLP caused fills the header log, whose contents are the TLP's and free
in the model (log entry 79). -/
def State.noteAer (s : State) (e : AerError) : State :=
  let s := match e.correctable with | some b => (s.orCfg 0x110 (2 ^ b)).orCfg 0x68 (2 ^ 16) | none => s
  let s := if e = .unsupportedRequest then s.orCfg 0x68 (2 ^ 19) else s
  match e.uncorrectable with
  | none => s
  | some u =>
    let first := decide (s.cfgWord 0x104 = 0)
    let s := s.orCfg 0x104 (2 ^ u)
    let s := if e.correctable.isSome then s else s.orCfg 0x68 (if bit (s.cfgWord 0x10C) u then 2 ^ 18 else 2 ^ 17)
    if first then
      let s := s.setCfg 0x118 u
      if e.hasTlp then
        (List.range 4).foldl (fun s k => s.setCfg (0x11C + 4 * k) ((Config.freeValue (2 ^ 64 * (k + 1) + s.link.aer.length)).toNat % 2 ^ 32)) s
      else s
    else s

/-- Report an error under AER (R60): its status, and the report unless it is masked. -/
def State.reportAer (s : State) (e : AerError) : State :=
  let quiet := s.aerMasked e
  let s := s.noteAer e
  if quiet then s else { s with link := { s.link with aer := s.link.aer ++ [e] }, out := s.out ++ [.aer e] }

/-- The increment in force, in units of 2^-32 ns: `TIME.INCR` brought to the nearer limit (R174). -/
def State.incr (s : State) : Nat :=
  min (max (s.reg R.TIME_INCR).toNat 0xF0000000) 0x110000000

/-- One tick of the timekeeper's 1 GHz clock: the time base and the period timer advance by the increment (R172, R179). In Hibernate and
Off the timekeeper stops (R175, R549). -/
def State.tick (s : State) : State :=
  if s.power.ladder ≥ 5 then { s with clock := s.clock + 1 }
  else { s with clock := s.clock + 1, time := { s.time with now := Time.ofUnits (s.time.now.units + s.incr), timer := s.time.timer + s.incr } }

/-! ## The power ladder and the corridor (R17, R48, R545, R547, R552) -/

/-- Cycles of a cluster's clock so far, in units of 1/1,000 cycle: its clock runs in Run at the frequency in force (R328, R545; that it stands in the
other states: DEDUCED, log entry 11). -/
def State.milliCycles (s : State) (c : Nat) : Nat :=
  let x := Tbl.get (fun _ => (0, s.cores.resetAt)) s.cores.cycles c
  x.1 + (if s.power.ladder = 0 then (s.clock - x.2) * Tbl.get (fun _ => 2000) s.cores.freqMhz c else 0)

/-- Settle the cycle counts of the clusters before their clocks change. -/
def State.settleCycles (s : State) : State :=
  { s with cores := { s.cores with cycles := (List.range 4).map fun c => (c, s.milliCycles c, s.clock) } }

/-- The porch enters a ladder state (R545); a host that enabled LTR is told (R48). -/
def State.setLadder (s : State) (n : Nat) : State :=
  let s := s.settleCycles
  let s : State := { s with power := { s.power with ladder := n, entering := none } }
  let s := s.bump R.PWR_TRANSITIONS
  if !s.link.ltrEnable ∨ !s.link.dlUp then s
  else s.emit (.ltr (if n ≤ 1 then some 20000 else if n = 2 then some 100000 else if n = 3 then some 1000000 else none))

/-- A corridor request reaches a stopped island (R17): from Hush the device is back in Run, with the cause Work (R551), and a descent that has
not yet gated anything ends (R552). -/
def State.stir (s : State) : State :=
  let p := s.power
  if p.tripped ∨ p.brownout ∨ 1 < p.ladder ∨ (p.ladder = 0 ∧ p.entering.isNone) then s
  else
    let s := if p.entering.isSome then s.bump R.PWR_ENTRY_ABORTED else s
    let s : State := { s with power := { s.power with entering := none, wakeCause := 2, asked := false } }
    if p.ladder = 1 then s.setLadder 0 else s

/-! ## Windows of BAR0 (R11, R42, R63) -/

/-- No FLR is under way (R64). -/
def State.flrDone (s : State) : Bool := decide (s.link.flrUntil ≤ s.clock)

/-- Configuration requests are answered (R64, R563). -/
def State.configOpen (s : State) : Bool := s.flrDone && (!s.link.retrying || s.sr.ready || s.sr.recovery)

/-- A configuration request: its effect, or Configuration Request Retry Status (R64, R563). -/
def State.config (s : State) (f : State → State) : State := if s.configOpen then f s else s.emit .retry

/-- Windows of BAR0 that respond now: all once READY, three under recovery only, and before READY the identity window (R11, R563, R570). -/
def State.windowOpen (s : State) (o : Nat) : Bool :=
  if s.sr.recovery then decide (o < 0x200000) || (decide (0xA00000 ≤ o) && decide (o < 0xB00000))
  else s.sr.ready || decide (o < 0x100000)

/-- Memory requests to the BARs are answered: Memory Space Enable is set and PF0 is in D0 (R42, R63; D0: PRESUMED, log entry 56). -/
def State.barOpen (s : State) : Bool := s.link.memEnable && decide (s.link.dstate = .d0) && s.flrDone

/-- The host reads a BAR that does not answer (R60, R64): Unsupported Request, reported under AER but while an FLR is under way. -/
def State.barRefuse (s : State) : State := (if s.flrDone then s.reportAer .unsupportedRequest else s).emit .unsupported

/-! ## Rooms and rings -/

/-- A room. -/
def State.room (s : State) (r : Nat) : Room := Tbl.get (fun _ => Room.vacant) s.rooms r

/-- Change a room. -/
def State.setRoom (s : State) (r : Nat) (x : Room) : State :=
  { s with rooms := Tbl.set (fun _ => Room.vacant) s.rooms r x }

/-- A ring, by its reference (R130). -/
def State.ring (s : State) (ref : Nat) : Ring := Tbl.get (fun _ => Ring.absent) s.rings ref

/-- Change a ring. -/
def State.setRing (s : State) (ref : Nat) (x : Ring) : State :=
  { s with rings := Tbl.set (fun _ => Ring.absent) s.rings ref x }

/-- An interrupt message store entry: room × 16 + index (R110). -/
def State.msg (s : State) (e : Nat) : MsgEntry := Tbl.get (fun _ => MsgEntry.reset) s.msgs e

/-- Change an interrupt message store entry. -/
def State.setMsg (s : State) (e : Nat) (x : MsgEntry) : State :=
  { s with msgs := Tbl.set (fun _ => MsgEntry.reset) s.msgs e x }

/-- An MSI-X table entry. -/
def State.vec (s : State) (v : Nat) : MsixEntry := Tbl.get (fun _ => MsixEntry.reset) s.link.msix v

/-- Change an MSI-X table entry. -/
def State.setVec (s : State) (v : Nat) (x : MsixEntry) : State :=
  { s with link := { s.link with msix := Tbl.set (fun _ => MsixEntry.reset) s.link.msix v x } }

/-- A ring reference (R130). -/
def refOf (kind : Nat) (owner : Bool) (room index : Nat) : Nat :=
  kind * 2 ^ 28 + b01 owner * 2 ^ 27 + room * 2 ^ 16 + index

/-- KIND of a ring reference. -/
def refKind (ref : Nat) : Nat := bits ref 31 28
/-- OWNER of a ring reference. -/
def refOwner (ref : Nat) : Bool := bit ref 27
/-- ROOM of a ring reference. -/
def refRoom (ref : Nat) : Nat := bits ref 26 16
/-- INDEX of a ring reference. -/
def refIndex (ref : Nat) : Nat := bits ref 15 0

/-- The room whose memory a ring lies in; none for the owner's. -/
def refSpace (ref : Nat) : Option Nat := if refOwner ref then none else some (refRoom ref)

/-- The front door as a ring reference: the owner's command ring. -/
def frontDoorRef : Nat := refOf 4 true 0 0
/-- A room's command ring. -/
def commandRef (room : Nat) : Nat := refOf 4 false room 0
/-- A room's event ring. -/
def roomEventRef (room : Nat) : Nat := refOf 3 false room 0
/-- Owner event ring n. -/
def ownerEventRef (n : Nat) : Nat := refOf 3 true 0 n

/-! ## Settings in force (R21, R26, R87) -/

/-- Key of a setting: the opcode that makes it and its selector (R87). -/
def keyOf (op sel : Nat) : Nat := op * 2 ^ 32 + sel
/-- Opcode of a key. -/
def keyOp (k : Nat) : Nat := k / 2 ^ 32
/-- Selector of a key. -/
def keySel (k : Nat) : Nat := k % 2 ^ 32

/-- A block in settings; empty when the object has none. -/
def Settings.block (t : Settings) (op sel : Nat) : List Byte := Tbl.get (fun _ => []) t (keyOf op sel)

/-- The settings an island has adopted: those it uses for work that carries no stamp (R26). -/
def State.adopted (s : State) (island : Nat) : Settings :=
  if s.gen.applied.getLsbD island || !s.gen.prevLive then s.gen.cur else s.gen.prev

/-- A register with access RWC, as a generation's settings have it; pseudo-opcode 0xFFFF keys such registers by offset. -/
def rwcReg (c : Settings) (off : Nat) : Nat :=
  match c.block 0xFFFF off with
  | [] => (regReset off).toNat
  | b => fld b 0 4

/-! ## Tags (R52 to R55, R105) -/

/-- A tag. -/
def State.tag (s : State) (t : Nat) : Tag := Tbl.get (fun _ => Tag.free) s.link.tags t

/-- Change a tag. -/
def State.setTag (s : State) (t : Nat) (x : Tag) : State :=
  { s with link := { s.link with tags := Tbl.set (fun _ => Tag.free) s.link.tags t x } }

/-- Tags that the enables in force allow (R52). -/
def State.tagSpace (s : State) : Nat :=
  if s.link.flit && s.link.tag14 then 16384 else if s.link.tag10 then 1024 else 256

/-- A tag is in quarantine. -/
def Tag.quarantined (t : Tag) : Bool :=
  match t.state with
  | .quarantinedTimeout _ | .quarantinedAbandoned _ => true
  | _ => false

/-- Tags in quarantine (`HOSTLINK.TAG_QUARANTINE`). -/
def State.quarantine (s : State) : Nat := (s.link.tags.filter fun e => e.2.quarantined).length

/-- `HOSTLINK.NP_LIMIT.EFFECTIVE` (R53, R73): LIMIT brought into range, and the tags of the space not in quarantine. -/
def State.npEffective (s : State) : Nat :=
  let limit := min (max (rwcReg (s.adopted 3) R.HOSTLINK_NP_LIMIT % 65536) 64) 16384
  min limit (s.tagSpace - (s.link.tags.filter fun e => e.2.quarantined && decide (e.1 < s.tagSpace)).length)

/-- Busy tags. -/
def State.busyTags (s : State) : List (Nat × Tag) := s.link.tags.filter fun e => decide (e.2.state = .busy)

/-- Tags of a room that are busy or quarantined (R105). -/
def State.roomTags (s : State) (room : Nat) : Nat :=
  (s.link.tags.filter fun e => decide (e.2.room = some room) && decide (e.2.state ≠ .free)).length

/-- Completion timeout in ns for an encoding of the Completion Timeout Value (R54); none for one that is refused. -/
def ctoNs (v : Nat) : Option Nat :=
  match v with
  | 0 => some 10000000
  | 1 => some 80000
  | 2 => some 8000000
  | 5 => some 40000000
  | 6 => some 160000000
  | 9 => some 640000000
  | 10 => some 2500000000
  | _ => none

/-- Completion timeout in force. -/
def State.cto (s : State) : Nat := (ctoNs s.link.ctoValue).getD 10000000

/-- Non-posted requests outstanding: reads and Translation Requests (R53). -/
def State.outstanding (s : State) : Nat := s.busyTags.length + s.link.atsAsked.length

/-- The first free number from `lo`. -/
def firstFree (used : List Nat) (lo : Nat) : Nat → Nat
  | 0 => lo
  | fuel + 1 => if used.contains lo then firstFree used (lo + 1) fuel else lo

/-- A free tag of the space. The manual does not say which of several; the lowest is taken (DESIGN CHOICE, log entry 80). -/
def State.freeTag (s : State) : Option Nat :=
  let n := firstFree (s.link.tags.map fun e => e.1) 0 (s.link.tags.length + 1)
  if n < s.tagSpace then some n else none

/-- A tag and the limit on outstanding requests let another read go (R53). -/
def State.tagFree (s : State) : Bool := decide (s.outstanding < s.npEffective) && s.freeTag.isSome

/-- A room's limit on reads lets another one go (R105). -/
def State.roomMayRead (s : State) (room : Option Nat) : Bool :=
  match room with
  | some r => decide (s.roomTags r < (s.room r).readLimit)
  | none => true

/-! ## Host memory -/

/-- The PASID that a party's requests carry (R65): a room's, once PASID Enable is set; the owner's carry none. -/
def State.pasidOf (s : State) (room : Option Nat) : Option Nat :=
  match room with
  | some r => if s.link.pasidEnable then some (s.room r).limits.pasid else none
  | none => none

/-- The key of a host address: each PASID has its own address space, and requests without one share theirs (R65). -/
def hostKey (pasid : Option Nat) (a : Nat) : Nat :=
  match pasid with
  | none => a
  | some p => (p + 1) * 2 ^ 64 + a

/-- A room that is resetting; 0xFFFF names none (R100). -/
def State.roomResets (s : State) (room : Nat) : Bool := decide (room ≠ 0xFFFF) && decide ((s.room room).state = .resetting)

/-- The selective stream of a party's requests, sent with the T bit: a room's while its TDI is in RUN (R71). -/
def State.streamOf (s : State) (room : Option Nat) : Option Nat :=
  match room with
  | some r => if (s.room r).tdi = .run then some (s.room r).stream else none
  | none => none

/-- Read host memory. -/
def State.hostRead (s : State) (room : Option Nat) (a n : Nat) : List Byte :=
  Memory.readBytes s.hostMem (hostKey (s.pasidOf room) a) n

/-- Pages that a write of `n` bytes at `a` touches. -/
def pagesOf (a n : Nat) : List Nat :=
  if n = 0 then [] else (List.range ((a + n - 1) / 4096 + 1 - a / 4096)).map (fun i => (a / 4096 + i) * 4096)

/-- Add pages to a dirty-page log of at most 262,144 pages (R119). -/
def DirtyLog.add (d : DirtyLog) : List Nat → DirtyLog
  | [] => d
  | p :: ps =>
    if d.full || d.pages.contains p then DirtyLog.add d ps
    else if d.pages.length ≥ 262144 then DirtyLog.add { d with full := true } ps
    else DirtyLog.add { d with pages := d.pages ++ [p] } ps

/-- Record a write in the room's dirty-page log, if it has one. -/
def State.logDirty (s : State) (room : Option Nat) (a n : Nat) : State :=
  match room with
  | none => s
  | some r =>
    match (s.room r).dirty with
    | none => s
    | some d => s.setRoom r { s.room r with dirty := some (d.add (pagesOf a n)) }

/-- Writes reach the host: Bus Master Enable is set and PF0 is in D0 (R61, R150). -/
def State.dmaOpen (s : State) : Bool := s.link.bme && decide (s.link.dstate = .d0)

/-- The link carries traffic: it leaves ASPM L1 (R46). -/
def State.traffic (s : State) : State := { s with link := { s.link with lastTlp := s.clock, inL1 := false } }

/-! ## Translations (R66) -/

/-- What tags a party's entries in the translation cache: the room, by its PASID; 0xFFFF for requests without one. -/
def State.party (s : State) (room : Option Nat) : Nat := if s.link.pasidEnable then room.getD 0xFFFF else 0xFFFF

/-- A page is in the translation cache. -/
def State.translated (s : State) (room : Option Nat) (page : Nat) : Bool :=
  s.link.ats.any fun e => decide (e.room = s.party room) && decide (e.page = page)

/-- Pages of a range that lack a translation; none while ATS is disabled. -/
def State.lacking (s : State) (room : Option Nat) (a n : Nat) : List Nat :=
  if s.link.atsEnable then (pagesOf a n).filter fun p => !s.translated room p else []

/-- Use a page's entry: it becomes the most recently used. -/
def State.useTranslation (s : State) (room : Option Nat) (page : Nat) : State :=
  match s.link.ats.find? fun e => decide (e.room = s.party room) && decide (e.page = page) with
  | some e => { s with link := { s.link with ats := e :: s.link.ats.erase e } }
  | none => s

/-- The address a request carries: translated while ATS is enabled. -/
def State.onBus (s : State) (room : Option Nat) (a : Nat) : Nat :=
  if s.link.atsEnable then
    match s.link.ats.find? fun e => decide (e.room = s.party room) && decide (e.page = a / 4096 * 4096) with
    | some e => e.phys + a % 4096
    | none => a
  else a

/-- Ask for the translation of a page, once, and within the limit on outstanding requests (R53, R66). -/
def State.askPage (s : State) (room : Option Nat) (page : Nat) : State :=
  let key := (s.party room, page)
  if !s.dmaOpen || s.translated room page || s.link.atsAsked.contains key || decide (s.npEffective ≤ s.outstanding) then s
  else (State.emit { s with link := { s.link with atsAsked := s.link.atsAsked ++ [key] } } (.translate key.1 page)).traffic

/-- Ask for every translation that a range lacks. -/
def State.askRange (s : State) (room : Option Nat) (a n : Nat) : State := (s.lacking room a n).foldl (fun s p => s.askPage room p) s

/-! ## Posted writes (R49 to R51, R61) -/

/-- The TLPs of a transfer: no larger than `most`, and none crosses a 4 KiB boundary (R49). -/
def tlps (most : Nat) : Nat → Nat → Nat → List (Nat × Nat)
  | 0, _, _ => []
  | fuel + 1, a, n =>
    if n = 0 then []
    else
      let k := max 1 (min n (min most (4096 - a % 4096)))
      (a, k) :: tlps most fuel (a + k) (n - k)

/-- Carry out a posted write: its TLPs leave in order, and host memory holds the data. Host memory is keyed by the untranslated address: the
host's own translation names the same byte (DESIGN CHOICE, log entry 77). -/
def State.commitWrite (s : State) (w : HostWrite) : State :=
  let sent := (tlps s.link.maxPayload (w.data.length + 1) w.addr w.data.length).map fun t =>
    OutMsg.write (s.pasidOf w.room) (s.streamOf w.room) (s.onBus w.room t.1) t.2 (w.relaxed && s.link.relaxedEnable)
  let s := (pagesOf w.addr w.data.length).foldl (fun s p => s.useTranslation w.room p) s
  (State.traffic { s with hostMem := Memory.writeBytes s.hostMem (hostKey (s.pasidOf w.room) w.addr) w.data, out := s.out ++ sent }).logDirty
    w.room w.addr w.data.length

/-- A write can leave now: DMA is open and its pages are translated (R61, R66, R150). -/
def State.canSend (s : State) (w : HostWrite) : Bool := s.dmaOpen && decide (s.lacking w.room w.addr w.data.length = [])

/-- Send a posted write; while DMA is stopped, a translation is awaited or an earlier write waits, hold it in order (R50, R61, R66, R150). -/
def State.hostWrite (s : State) (w : HostWrite) : State :=
  if decide (s.link.heldWrites = []) && s.canSend w then s.commitWrite w
  else State.askRange { s with link := { s.link with heldWrites := s.link.heldWrites ++ [w] } } w.room w.addr w.data.length

/-- Send held writes in order, as far as they can go: at most `fuel` of them (R62, R66, R150). -/
def State.sendHeld (s : State) : Nat → State
  | 0 => s
  | fuel + 1 =>
    match s.link.heldWrites with
    | [] => s
    | w :: ws =>
      if s.canSend w then State.sendHeld (State.commitWrite { s with link := { s.link with heldWrites := ws } } w) fuel
      else s.askRange w.room w.addr w.data.length

/-- Write an entry as two writes, bytes 0x04 onward and then bytes 0x00 to 0x03 (R133). -/
def State.writeEntry (s : State) (room : Option Nat) (a : Nat) (bs : List Byte) (work : Nat) : State :=
  (s.hostWrite ⟨room, a + 4, bs.drop 4, work, false⟩).hostWrite ⟨room, a, bs.take 4, work, false⟩

/-! ## Interrupts (R148 to R151) -/

/-- PM_PME from D3hot, once until PME_Status is cleared (R47, R150). -/
def State.wantPme (s : State) : State :=
  if s.link.pmeEn && decide (s.link.dstate = .d3hot) && !s.link.pmeStatus then
    { s with link := { s.link with pmeStatus := true }, out := s.out ++ [.pmPme] }
  else s

/-- An MSI-X vector's message is held (R149). -/
def State.vecHeld (s : State) (v : Nat) : Bool :=
  !s.link.bme || decide (s.link.dstate ≠ .d0) || (s.vec v).masked || !s.link.msixEnable || s.link.functionMask

/-- Make an MSI-X vector due. -/
def State.dueVec (s : State) (v : Nat) : State :=
  if s.vecHeld v then (s.setVec v { s.vec v with pending := true }).wantPme
  else (s.setVec v { s.vec v with pending := false }).emit (.msix v (s.vec v).addr (s.vec v).data)

/-! ## Events (R144, R145, R152) -/

/-- Entries of a ring. -/
def Ring.size (r : Ring) : Nat := 2 ^ r.log2

/-- Unconsumed events of an event ring, from the consumer head to TAIL. -/
def Ring.unconsumed (r : Ring) : Nat :=
  if r.pass = r.consPass then r.head - r.consHead else r.head + r.size - r.consHead

/-- Slot of a room ring in the head mirror page (R137). -/
def mirrorSlot (ref : Nat) : Nat :=
  match refKind ref with
  | 0 => refIndex ref
  | 1 => 64 + refIndex ref
  | 2 => 128 + refIndex ref
  | 3 => 160
  | _ => 161

/-- Address of a ring's head mirror entry; none where it has none. -/
def State.mirrorAddr (s : State) (ref : Nat) : Option Nat :=
  if refOwner ref then (if (s.ring ref).mirror = 0 then none else some (s.ring ref).mirror)
  else if (s.room (refRoom ref)).headMirror = 0 then none
  else some ((s.room (refRoom ref)).headMirror + 8 * mirrorSlot ref)

/-- The head mirror entry (R139). -/
def Ring.mirrorBytes (ref : Nat) (r : Ring) : List Byte :=
  leBytes r.head 2 ++ leBytes (b01 r.pass) 2 ++
    leBytes (if refKind ref = 1 ∨ refKind ref = 3 then r.dropped else r.completed) 4

/-- Publish a ring's head (R139). -/
def State.writeMirror (s : State) (ref work : Nat) : State :=
  match s.mirrorAddr ref with
  | none => s
  | some a => s.hostWrite ⟨refSpace ref, a, Ring.mirrorBytes ref (s.ring ref), work, false⟩

/-- The 32 bytes of an event (R144). -/
def eventBytes (type : Nat) (phase : Bool) (subject data : Nat) (t : Time) : List Byte :=
  leBytes type 2 ++ leBytes (b01 phase * 2 ^ 15) 2 ++ leBytes subject 4 ++ leBytes data 8 ++ Time.bytes t

/-- Advance a ring's position by one entry, flipping the pass parity at the wrap (R131). -/
def Ring.advance (r : Ring) : Ring :=
  if r.head + 1 ≥ r.size then { r with head := 0, pass := !r.pass } else { r with head := r.head + 1 }

/-- A message store entry's message is held (R149, R150, R151). -/
def State.msgHeld (s : State) (room e : Nat) : Bool :=
  !s.link.bme || decide (s.link.dstate ≠ .d0) || (s.room room).doze || (s.msg e).masked

/-- A ring's message is due and held (R149). -/
def State.ringHeld (s : State) (ref : Nat) : Bool :=
  let n := (s.ring ref).vector
  if refOwner ref then (s.vec n).pending && s.vecHeld n
  else
    let e := refRoom ref * 16 + n
    (s.msg e).pending && s.msgHeld (refRoom ref) e

/-- Count an event or completion toward the ring's moderation; true when it fires (R148). The timer of a ring whose message is held does not
start (R149), and the timer and count in force at the last completion are those that apply (R158). -/
def Ring.tally (r : Ring) (now : Nat) (held : Bool) : Ring × Bool :=
  let r := { r with sinceFire := r.sinceFire + 1, firstSince := if held then r.firstSince else some (r.firstSince.getD now), timerNow := r.timerUs }
  if r.timerUs = 0 ∨ r.sinceFire ≥ r.modCount then ({ r with sinceFire := 0, firstSince := none }, true)
  else (r, false)

/-- The device's time base (R173). -/
def State.now (s : State) : Time := s.time.now

/-- Write one event at a ring's TAIL and advance it (R144), with the head mirror that follows (R139). -/
def State.putEvent (s : State) (ref type subject data : Nat) : State :=
  let r := s.ring ref
  let s := s.writeEntry (refSpace ref) (r.base + 32 * r.head) (eventBytes type r.pass subject data s.now) 0
  (s.setRing ref r.advance).writeMirror ref 0

/-- Drop an event for a full or overflowed ring (R152, steps 1 and 2). -/
def State.dropEvent (s : State) (ref : Nat) : State :=
  let r := s.ring ref
  ((s.setRing ref { r with dropped := r.dropped + 1, overflow := true }).bump R.RINGENG_EVENT_DROP).writeMirror ref 0

/-- The event ring takes no event now: it is full or overflowed (R152). -/
def Ring.refusesEvent (r : Ring) : Bool := r.overflow || decide (r.unconsumed ≥ r.size)

/-- Post an event to an event ring (R145, R152): true when its vector is then due, by its own moderation or by an overflow. -/
def State.postEvent (s : State) (ref type subject data : Nat) : State × Bool :=
  let r := s.ring ref
  if !r.live || !r.enabled then (s.bump R.RINGENG_EVENT_DROP, false)
  else if r.refusesEvent then (s.dropEvent ref, !r.overflow)
  else
    let s := s.putEvent ref type subject data
    let (r', fires) := (s.ring ref).tally s.clock (s.ringHeld ref)
    (s.setRing ref r', fires)

/-- Post an event to an owner event ring (R145, R152); its own moderation and overflow make its vector due. -/
def State.postOwnerRing (s : State) (ref type subject data : Nat) : State :=
  let (s, due) := s.postEvent ref type subject data
  if due then s.dueVec (s.ring ref).vector else s

/-- The lowest-numbered enabled owner event ring whose CLASS_MASK claims the type; ring 0 when none does (R145). -/
def State.ownerEventRing (s : State) (type : Nat) : Nat :=
  ((List.range 16).find? fun n =>
    (s.ring (ownerEventRef n)).live && (s.ring (ownerEventRef n)).enabled && bit (s.ring (ownerEventRef n)).classMask type).getD 0

/-- Post an owner event of a type other than COMPLETION (R145). -/
def State.postOwner (s : State) (type subject data : Nat) : State :=
  s.postOwnerRing (ownerEventRef (if type = 5 ∨ type = 6 then 0 else s.ownerEventRing type)) type subject data

/-- Make a room's interrupt message due; a dozing room may wake the owner once (R110, R151). -/
def State.dueMsg (s : State) (room index ref : Nat) : State :=
  let e := room * 16 + index
  if s.msgHeld room e then
    let s := (s.setMsg e { s.msg e with pending := true }).wantPme
    let x := s.room room
    if x.doze && x.wakeOn && !x.wakePosted then
      (s.setRoom room { x with wakePosted := true }).postOwner 6 room ref
    else s
  else
    (s.setMsg e { s.msg e with pending := false }).emit
      (.roomMsg room index (s.msg e).addr (s.msg e).data (s.msg e).pasid (decide ((s.room room).tdi = .run)))

/-- Make a ring's vector due. -/
def State.dueRing (s : State) (ref : Nat) : State :=
  if refOwner ref then s.dueVec (s.ring ref).vector else s.dueMsg (refRoom ref) (s.ring ref).vector ref

/-- Post an event to a room's event ring (R145, R152). -/
def State.postRoom (s : State) (room type subject data : Nat) : State :=
  let (s, due) := s.postEvent (roomEventRef room) type subject data
  if due then s.dueRing (roomEventRef room) else s

/-- The event ring that takes a ring's COMPLETION events; none for an event ring, and where the ring names none (R145). -/
def State.eventRingOf (s : State) (ref : Nat) : Option Nat :=
  if refKind ref = 3 then none
  else (s.ring ref).eventRing.map fun n => if refOwner ref then ownerEventRef n else roomEventRef (refRoom ref)

/-- The ring's moderation fires (R148): a COMPLETION event where the ring names an event ring, and its vector is due; when both rings make the same
vector due, one message is sent. -/
def State.fire (s : State) (ref : Nat) : State :=
  let r := s.ring ref
  let s := s.setRing ref { r with sinceFire := 0, firstSince := none }
  match s.eventRingOf ref with
  | none => s.dueRing ref
  | some ev =>
    let (s, due) := s.postEvent ev 1 ref (r.head + b01 r.pass * 2 ^ 16)
    let s := if due ∧ (s.ring ev).vector ≠ (s.ring ref).vector then s.dueRing ev else s
    s.dueRing ref

/-! ## In-place completions (R131, R133, R134, R146) -/

/-- Advance the head over entries that hold completions (R134), at most `fuel` of them. -/
def Ring.settle (r : Ring) : Nat → Ring
  | 0 => r
  | n + 1 => if r.done.contains r.head then Ring.settle { r.advance with done := r.done.filter (fun i => decide (i ≠ r.head)) } n else r

/-- A reply on the front door makes its vector due (R76): at once, or when the run that serves commands ends, so that replies that make it due
together send one message. -/
def State.dueFront (s : State) : State :=
  match s.cmd.frontDue with
  | some _ => { s with cmd := { s.cmd with frontDue := some true } }
  | none => s.dueVec (s.ring frontDoorRef).vector

/-- Replies that `f` writes on the front door make its vector due together (R76). -/
def State.together (f : State → State) (s : State) : State :=
  if s.cmd.frontDue.isSome then f s
  else
    let s := f { s with cmd := { s.cmd with frontDue := some false } }
    let due := decide (s.cmd.frontDue = some true)
    let s : State := { s with cmd := { s.cmd with frontDue := none } }
    if due then s.dueFront else s

/-- Write a completion over entry `index`, publish the head and tally moderation (R146). The bytes' word at
offset 0x02 gets PHASE (R131). A room in error gets no further completion (R112). -/
def State.complete (s : State) (ref index : Nat) (phase : Bool) (bs : List Byte) (work : Nat) : State :=
  if !refOwner ref && decide ((s.room (refRoom ref)).state = .inError) then s
  else
    let r := s.ring ref
    let bs := splice bs 2 (leBytes (fld bs 2 2 % 2 ^ 15 + b01 phase * 2 ^ 15) 2)
    let s := s.writeEntry (refSpace ref) (r.base + 64 * index) bs work
    let r := Ring.settle { r with done := r.done ++ [index], completed := (r.completed + 1) % 2 ^ 32 } r.size
    let s := (s.setRing ref r).writeMirror ref work
    if ref = frontDoorRef then s.dueFront
    else
      let (r, fires) := r.tally s.clock (s.ringHeld ref)
      let s := s.setRing ref r
      if fires then s.fire ref else s

/-- Fire a ring's moderation now if completions wait for it. -/
def State.fireNow (s : State) (ref : Nat) : State := if (s.ring ref).sinceFire = 0 then s else s.fire ref

/-! ## Replies (R81) -/

/-- Status codes (R88). -/
inductive Status where
  | ok | okLate | okWarn | busy | busyGeneration | commitStalled | invalidOpcode | invalidParam | notPermitted
  | roomError | roomFrozen | dmaTimeout | dmaAborted | haltedBme | keyExhausted | keyAbsent | supplyLow | timePassed
  | fixityMismatch | sealInvalid | tagMismatch | driveError | journalUnavailable | volumeDegraded | squashed | replayed
  deriving DecidableEq, Repr

/-- The code of a status (R88). -/
def Status.code : Status → Nat
  | .ok => 0x0000 | .okLate => 0x0001 | .okWarn => 0x0002
  | .busy => 0x0010 | .busyGeneration => 0x0011 | .commitStalled => 0x0012
  | .invalidOpcode => 0x0020 | .invalidParam => 0x0021 | .notPermitted => 0x0022
  | .roomError => 0x0030 | .roomFrozen => 0x0031
  | .dmaTimeout => 0x0040 | .dmaAborted => 0x0041 | .haltedBme => 0x0042
  | .keyExhausted => 0x0050 | .keyAbsent => 0x0051 | .supplyLow => 0x0052
  | .timePassed => 0x0060
  | .fixityMismatch => 0x0070 | .sealInvalid => 0x0071 | .tagMismatch => 0x0072
  | .driveError => 0x0080 | .journalUnavailable => 0x0081 | .volumeDegraded => 0x0082
  | .squashed => 0x0090 | .replayed => 0x00A0

/-- The room whose command ring a path is; none for the owner and the management controller. -/
def Path.ringRoom : Path → Option Nat
  | .roomRing r => some r
  | _ => none

/-- The command ring of a path, where it has one. -/
def Path.ringRef : Path → Option Nat
  | .frontDoor => some frontDoorRef
  | .roomRing r => some (commandRef r)
  | _ => none

/-- The 32-byte reply (R81), its PHASE bit still clear. -/
def Reply.bytes (r : Reply) : List Byte :=
  leBytes r.status 2 ++ leBytes r.rflags 2 ++ leBytes r.tag.toNat 4 ++ leBytes r.dataLen 4 ++
    leBytes r.generation 2 ++ pad 2 ++ Time.bytes r.doneTime

/-- The work item that a command's reply belongs to: its entry (R61); the numbers of other work items are smaller. -/
def Packet.workNumber (p : Packet) : Nat :=
  match p.entry with
  | some a => (match Path.ringRoom p.path with | some r => r + 2 | none => 1) * 2 ^ 70 + a
  | none => 0

/-- Space for reply data: REPLY_LEN where there is a reply address, 992 bytes over MCTP (R78, R79). -/
def Packet.replySpace (p : Packet) : Nat :=
  match p.path with
  | .mctp => 992
  | _ => if p.replyPtr = 0 then 0 else p.replyLen

/-- Post an event to a command's submitter (R79, R145): for a command by MCTP or the mailbox, which has no ring, the owner's event ring (DESIGN
CHOICE, log entry 82). -/
def State.postSubmitter (s : State) (path : Path) (type subject data : Nat) : State :=
  match Path.ringRoom path with
  | some r => s.postRoom r type subject data
  | none => s.postOwner type subject data

/-- An address is that of one of the ring's entries: the front door's ring may have moved since a command was fetched (R77). -/
def Ring.holdsEntry (r : Ring) (a : Nat) : Bool := decide (r.base ≤ a) && decide ((a - r.base) % 64 = 0) && decide ((a - r.base) / 64 < r.size)

/-- Write a reply: its data, the in-place reply over the packet's header, and a COMMAND_DONE event when
FLAGS.EVENT asks for one (R79, R81). `dl` is DATA_LEN when the command was stored; `more` says that the command itself
cut its data to whole records. With REPLY_PTR 0 and data to return it is TRUNCATED with DATA_LEN 0 (DESIGN CHOICE, log entry 82). -/
def State.reply (s : State) (p : Packet) (opcode : Nat) (st : Status) (data : List Byte) (more : Bool) (dl : Option Nat) (dry : Bool) : State :=
  let cut := data.take (Packet.replySpace p)
  let r : Reply :=
    { path := p.path, opcode := opcode, tag := p.tag, status := st.code
      rflags := b01 (more || decide (cut.length < data.length)) + 2 * b01 dl.isSome + 4 * b01 dry
      dataLen := dl.getD cut.length, generation := s.gen.current, doneTime := s.now, data := cut }
  let work := Packet.workNumber p
  let s := if p.path = .mctp ∨ cut = [] then s else s.hostWrite ⟨Path.ringRoom p.path, p.replyPtr, cut, work, false⟩
  let s := s.emit (.reply r)
  let s := match Path.ringRef p.path, p.entry with
    | some ref, some a =>
      if (s.ring ref).holdsEntry a then s.complete ref ((a - (s.ring ref).base) / 64) p.pass (Reply.bytes r) work
      else (s.writeEntry (Path.ringRoom p.path) a (splice (Reply.bytes r) 2 (leBytes (r.rflags + b01 p.pass * 2 ^ 15) 2)) work).dueFront
    | none, some a => s.writeEntry none a (splice (Reply.bytes r) 2 (leBytes (r.rflags + b01 p.pass * 2 ^ 15) 2)) work
    | _, none => s
  let s : State := if p.path = .mailbox then { s with sr := { s.sr with mboxBusy := false, mboxDone := true } } else s
  if bit p.flags.toNat 4 then s.postSubmitter p.path 2 p.tag.toNat st.code else s

end Sys2Proof.Machine
end

