-- ==== Sys2Proof/Machine/Crypto.lean ====
section
/-!
DEFINITION. The public cryptographic functions the manual names by their standards: AES (FIPS 197), SHA-256, SHA-384 and
SHA-512 (FIPS 180-4), Keccak (FIPS 202), GCM (NIST SP 800-38D), CMAC (SP 800-38B), CRC-32C.
-/

namespace Sys2Proof

/-! ## AES -/

/-- The AES S-box. -/
def aesSboxTable : List Byte :=
  [0x63, 0x7C, 0x77, 0x7B, 0xF2, 0x6B, 0x6F, 0xC5, 0x30, 0x01, 0x67, 0x2B, 0xFE, 0xD7, 0xAB, 0x76] ++
  [0xCA, 0x82, 0xC9, 0x7D, 0xFA, 0x59, 0x47, 0xF0, 0xAD, 0xD4, 0xA2, 0xAF, 0x9C, 0xA4, 0x72, 0xC0] ++
  [0xB7, 0xFD, 0x93, 0x26, 0x36, 0x3F, 0xF7, 0xCC, 0x34, 0xA5, 0xE5, 0xF1, 0x71, 0xD8, 0x31, 0x15] ++
  [0x04, 0xC7, 0x23, 0xC3, 0x18, 0x96, 0x05, 0x9A, 0x07, 0x12, 0x80, 0xE2, 0xEB, 0x27, 0xB2, 0x75] ++
  [0x09, 0x83, 0x2C, 0x1A, 0x1B, 0x6E, 0x5A, 0xA0, 0x52, 0x3B, 0xD6, 0xB3, 0x29, 0xE3, 0x2F, 0x84] ++
  [0x53, 0xD1, 0x00, 0xED, 0x20, 0xFC, 0xB1, 0x5B, 0x6A, 0xCB, 0xBE, 0x39, 0x4A, 0x4C, 0x58, 0xCF] ++
  [0xD0, 0xEF, 0xAA, 0xFB, 0x43, 0x4D, 0x33, 0x85, 0x45, 0xF9, 0x02, 0x7F, 0x50, 0x3C, 0x9F, 0xA8] ++
  [0x51, 0xA3, 0x40, 0x8F, 0x92, 0x9D, 0x38, 0xF5, 0xBC, 0xB6, 0xDA, 0x21, 0x10, 0xFF, 0xF3, 0xD2] ++
  [0xCD, 0x0C, 0x13, 0xEC, 0x5F, 0x97, 0x44, 0x17, 0xC4, 0xA7, 0x7E, 0x3D, 0x64, 0x5D, 0x19, 0x73] ++
  [0x60, 0x81, 0x4F, 0xDC, 0x22, 0x2A, 0x90, 0x88, 0x46, 0xEE, 0xB8, 0x14, 0xDE, 0x5E, 0x0B, 0xDB] ++
  [0xE0, 0x32, 0x3A, 0x0A, 0x49, 0x06, 0x24, 0x5C, 0xC2, 0xD3, 0xAC, 0x62, 0x91, 0x95, 0xE4, 0x79] ++
  [0xE7, 0xC8, 0x37, 0x6D, 0x8D, 0xD5, 0x4E, 0xA9, 0x6C, 0x56, 0xF4, 0xEA, 0x65, 0x7A, 0xAE, 0x08] ++
  [0xBA, 0x78, 0x25, 0x2E, 0x1C, 0xA6, 0xB4, 0xC6, 0xE8, 0xDD, 0x74, 0x1F, 0x4B, 0xBD, 0x8B, 0x8A] ++
  [0x70, 0x3E, 0xB5, 0x66, 0x48, 0x03, 0xF6, 0x0E, 0x61, 0x35, 0x57, 0xB9, 0x86, 0xC1, 0x1D, 0x9E] ++
  [0xE1, 0xF8, 0x98, 0x11, 0x69, 0xD9, 0x8E, 0x94, 0x9B, 0x1E, 0x87, 0xE9, 0xCE, 0x55, 0x28, 0xDF] ++
  [0x8C, 0xA1, 0x89, 0x0D, 0xBF, 0xE6, 0x42, 0x68, 0x41, 0x99, 0x2D, 0x0F, 0xB0, 0x54, 0xBB, 0x16]

/-- The inverse S-box. -/
def aesInvSboxTable : List Byte :=
  [0x52, 0x09, 0x6A, 0xD5, 0x30, 0x36, 0xA5, 0x38, 0xBF, 0x40, 0xA3, 0x9E, 0x81, 0xF3, 0xD7, 0xFB] ++
  [0x7C, 0xE3, 0x39, 0x82, 0x9B, 0x2F, 0xFF, 0x87, 0x34, 0x8E, 0x43, 0x44, 0xC4, 0xDE, 0xE9, 0xCB] ++
  [0x54, 0x7B, 0x94, 0x32, 0xA6, 0xC2, 0x23, 0x3D, 0xEE, 0x4C, 0x95, 0x0B, 0x42, 0xFA, 0xC3, 0x4E] ++
  [0x08, 0x2E, 0xA1, 0x66, 0x28, 0xD9, 0x24, 0xB2, 0x76, 0x5B, 0xA2, 0x49, 0x6D, 0x8B, 0xD1, 0x25] ++
  [0x72, 0xF8, 0xF6, 0x64, 0x86, 0x68, 0x98, 0x16, 0xD4, 0xA4, 0x5C, 0xCC, 0x5D, 0x65, 0xB6, 0x92] ++
  [0x6C, 0x70, 0x48, 0x50, 0xFD, 0xED, 0xB9, 0xDA, 0x5E, 0x15, 0x46, 0x57, 0xA7, 0x8D, 0x9D, 0x84] ++
  [0x90, 0xD8, 0xAB, 0x00, 0x8C, 0xBC, 0xD3, 0x0A, 0xF7, 0xE4, 0x58, 0x05, 0xB8, 0xB3, 0x45, 0x06] ++
  [0xD0, 0x2C, 0x1E, 0x8F, 0xCA, 0x3F, 0x0F, 0x02, 0xC1, 0xAF, 0xBD, 0x03, 0x01, 0x13, 0x8A, 0x6B] ++
  [0x3A, 0x91, 0x11, 0x41, 0x4F, 0x67, 0xDC, 0xEA, 0x97, 0xF2, 0xCF, 0xCE, 0xF0, 0xB4, 0xE6, 0x73] ++
  [0x96, 0xAC, 0x74, 0x22, 0xE7, 0xAD, 0x35, 0x85, 0xE2, 0xF9, 0x37, 0xE8, 0x1C, 0x75, 0xDF, 0x6E] ++
  [0x47, 0xF1, 0x1A, 0x71, 0x1D, 0x29, 0xC5, 0x89, 0x6F, 0xB7, 0x62, 0x0E, 0xAA, 0x18, 0xBE, 0x1B] ++
  [0xFC, 0x56, 0x3E, 0x4B, 0xC6, 0xD2, 0x79, 0x20, 0x9A, 0xDB, 0xC0, 0xFE, 0x78, 0xCD, 0x5A, 0xF4] ++
  [0x1F, 0xDD, 0xA8, 0x33, 0x88, 0x07, 0xC7, 0x31, 0xB1, 0x12, 0x10, 0x59, 0x27, 0x80, 0xEC, 0x5F] ++
  [0x60, 0x51, 0x7F, 0xA9, 0x19, 0xB5, 0x4A, 0x0D, 0x2D, 0xE5, 0x7A, 0x9F, 0x93, 0xC9, 0x9C, 0xEF] ++
  [0xA0, 0xE0, 0x3B, 0x4D, 0xAE, 0x2A, 0xF5, 0xB0, 0xC8, 0xEB, 0xBB, 0x3C, 0x83, 0x53, 0x99, 0x61] ++
  [0x17, 0x2B, 0x04, 0x7E, 0xBA, 0x77, 0xD6, 0x26, 0xE1, 0x69, 0x14, 0x63, 0x55, 0x21, 0x0C, 0x7D]

/-- S-box lookup. -/
def aesSbox (b : Byte) : Byte := aesSboxTable.getD b.toNat 0

/-- Inverse S-box lookup. -/
def aesInvSbox (b : Byte) : Byte := aesInvSboxTable.getD b.toNat 0

/-- Multiplication by x in GF(2^8) modulo x^8 + x^4 + x^3 + x + 1. -/
def xtime (b : Byte) : Byte := if b.getLsbD 7 then (b <<< 1) ^^^ 0x1B else b <<< 1

/-- Multiplication in GF(2^8). -/
def gmul8 (a : Byte) (b : Nat) : Byte :=
  let a2 := xtime a
  let a4 := xtime a2
  let a8 := xtime a4
  (if bit b 0 then a else 0) ^^^ (if bit b 1 then a2 else 0) ^^^ (if bit b 2 then a4 else 0) ^^^ (if bit b 3 then a8 else 0)

/-- XOR of byte lists. -/
def xorBytes (a b : List Byte) : List Byte := List.zipWith (fun x y => x ^^^ y) a b

/-- Byte `i` of a list. -/
def byteAt (bs : List Byte) (i : Nat) : Byte := bs.getD i 0

/-- ShiftRows, on a block of 16 bytes in column order. -/
def shiftRows (b : List Byte) : List Byte := (List.range 16).map fun i => byteAt b ((i + 4 * (i % 4)) % 16)

/-- Its inverse. -/
def invShiftRows (b : List Byte) : List Byte := (List.range 16).map fun i => byteAt b ((i + 16 - 4 * (i % 4)) % 16)

/-- MixColumns with the coefficients of one row. -/
def mixWith (c0 c1 c2 c3 : Nat) (b : List Byte) : List Byte :=
  (List.range 16).map fun i =>
    let k := i / 4 * 4
    let r := i % 4
    gmul8 (byteAt b (k + r)) c0 ^^^ gmul8 (byteAt b (k + (r + 1) % 4)) c1 ^^^
      gmul8 (byteAt b (k + (r + 2) % 4)) c2 ^^^ gmul8 (byteAt b (k + (r + 3) % 4)) c3

/-- Words of the key schedule, newest first, until `n` words stand. -/
def aesExpand (nk : Nat) (rcon : Byte) (ws : List (List Byte)) (i : Nat) : Nat → List (List Byte)
  | 0 => ws
  | fuel + 1 =>
    let prev := ws.headD []
    let back := ws.getD (nk - 1) []
    let t :=
      if i % nk = 0 then xorBytes ((prev.drop 1 ++ prev.take 1).map aesSbox) [rcon, 0, 0, 0]
      else if nk > 6 ∧ i % nk = 4 then prev.map aesSbox
      else prev
    aesExpand nk (if i % nk = 0 then xtime rcon else rcon) (xorBytes back t :: ws) (i + 1) fuel

/-- Round keys of a 16- or 32-byte key. -/
def aesRoundKeys (key : List Byte) : List (List Byte) :=
  let nk := key.length / 4
  let ws := ((List.range nk).map fun i => (key.drop (4 * i)).take 4).reverse
  let all := (aesExpand nk 1 ws nk (4 * (nk + 7) - nk)).reverse
  (List.range (nk + 7)).map fun r => ((all.drop (4 * r)).take 4).flatten

/-- AES of one block. -/
def aesEncrypt (key block : List Byte) : List Byte :=
  let ks := aesRoundKeys key
  let n := ks.length - 1
  let s := xorBytes block (ks.headD [])
  let s := (List.range (n - 1)).foldl (fun s r =>
    xorBytes (mixWith 2 3 1 1 (shiftRows (s.map aesSbox))) (ks.getD (r + 1) [])) s
  xorBytes (shiftRows (s.map aesSbox)) (ks.getD n [])

/-- The inverse cipher of one block. -/
def aesDecrypt (key block : List Byte) : List Byte :=
  let ks := aesRoundKeys key
  let n := ks.length - 1
  let s := xorBytes block (ks.getD n [])
  let s := (List.range (n - 1)).foldl (fun s r =>
    mixWith 14 11 13 9 (xorBytes ((invShiftRows s).map aesInvSbox) (ks.getD (n - 1 - r) []))) s
  xorBytes ((invShiftRows s).map aesInvSbox) (ks.headD [])

/-! ## GCM (NIST SP 800-38D) -/

/-- One step of the bitwise product: bit 0 is the most significant bit of byte 0. -/
def ghashMulAux (v z : Nat) (x : Nat) : Nat → Nat
  | 0 => z
  | n + 1 =>
    let z := if bit x n then z ^^^ v else z
    let v := if bit v 0 then v / 2 ^^^ (0xE1 * 2 ^ 120) else v / 2
    ghashMulAux v z x n

/-- Product in the field of GHASH. -/
def ghashMul (x y : Nat) : Nat := ghashMulAux y 0 x 128

/-- Split into blocks of 16 bytes, the last padded with zeros. -/
def blocks16 (bs : List Byte) : List (List Byte) :=
  (List.range ((bs.length + 15) / 16)).map fun i => fit ((bs.drop (16 * i)).take 16) 16

/-- GHASH over additional data and ciphertext. -/
def ghash (h : Nat) (aad ct : List Byte) : Nat :=
  let data := blocks16 aad ++ blocks16 ct ++ [beBytes (8 * aad.length) 8 ++ beBytes (8 * ct.length) 8]
  data.foldl (fun y b => ghashMul (y ^^^ beNat b) h) 0

/-- Key stream of counter mode from block counter `c`. -/
def gcmStream (key nonce : List Byte) (c n : Nat) : List Byte :=
  (((List.range ((n + 15) / 16)).map fun i => aesEncrypt key (nonce ++ beBytes (c + i) 4)).flatten).take n

/-- GCM encryption with a 96-bit nonce: ciphertext and tag. -/
def gcmSeal (key nonce aad pt : List Byte) : List Byte × List Byte :=
  let ct := xorBytes pt (gcmStream key nonce 2 pt.length)
  let h := beNat (aesEncrypt key (pad 16))
  (ct, xorBytes (beBytes (ghash h aad ct) 16) (aesEncrypt key (nonce ++ beBytes 1 4)))

/-- GCM decryption; none when the tag fails. -/
def gcmOpen (key nonce aad ct tag : List Byte) : Option (List Byte) :=
  let h := beNat (aesEncrypt key (pad 16))
  let t := xorBytes (beBytes (ghash h aad ct) 16) (aesEncrypt key (nonce ++ beBytes 1 4))
  if t = tag then some (xorBytes ct (gcmStream key nonce 2 ct.length)) else none

/-! ## SHA-2 (FIPS 180-4) -/

/-- Round constants of SHA-256. -/
def sha256K : List (BitVec 32) :=
  [0x428A2F98, 0x71374491, 0xB5C0FBCF, 0xE9B5DBA5, 0x3956C25B, 0x59F111F1, 0x923F82A4, 0xAB1C5ED5, 0xD807AA98, 0x12835B01, 0x243185BE, 0x550C7DC3, 0x72BE5D74, 0x80DEB1FE, 0x9BDC06A7, 0xC19BF174] ++
  [0xE49B69C1, 0xEFBE4786, 0x0FC19DC6, 0x240CA1CC, 0x2DE92C6F, 0x4A7484AA, 0x5CB0A9DC, 0x76F988DA, 0x983E5152, 0xA831C66D, 0xB00327C8, 0xBF597FC7, 0xC6E00BF3, 0xD5A79147, 0x06CA6351, 0x14292967] ++
  [0x27B70A85, 0x2E1B2138, 0x4D2C6DFC, 0x53380D13, 0x650A7354, 0x766A0ABB, 0x81C2C92E, 0x92722C85, 0xA2BFE8A1, 0xA81A664B, 0xC24B8B70, 0xC76C51A3, 0xD192E819, 0xD6990624, 0xF40E3585, 0x106AA070] ++
  [0x19A4C116, 0x1E376C08, 0x2748774C, 0x34B0BCB5, 0x391C0CB3, 0x4ED8AA4A, 0x5B9CCA4F, 0x682E6FF3, 0x748F82EE, 0x78A5636F, 0x84C87814, 0x8CC70208, 0x90BEFFFA, 0xA4506CEB, 0xBEF9A3F7, 0xC67178F2]

/-- Round constants of SHA-512. -/
def sha512K : List (BitVec 64) :=
  [0x428A2F98D728AE22, 0x7137449123EF65CD, 0xB5C0FBCFEC4D3B2F, 0xE9B5DBA58189DBBC, 0x3956C25BF348B538, 0x59F111F1B605D019, 0x923F82A4AF194F9B, 0xAB1C5ED5DA6D8118, 0xD807AA98A3030242, 0x12835B0145706FBE, 0x243185BE4EE4B28C, 0x550C7DC3D5FFB4E2, 0x72BE5D74F27B896F, 0x80DEB1FE3B1696B1, 0x9BDC06A725C71235, 0xC19BF174CF692694] ++
  [0xE49B69C19EF14AD2, 0xEFBE4786384F25E3, 0x0FC19DC68B8CD5B5, 0x240CA1CC77AC9C65, 0x2DE92C6F592B0275, 0x4A7484AA6EA6E483, 0x5CB0A9DCBD41FBD4, 0x76F988DA831153B5, 0x983E5152EE66DFAB, 0xA831C66D2DB43210, 0xB00327C898FB213F, 0xBF597FC7BEEF0EE4, 0xC6E00BF33DA88FC2, 0xD5A79147930AA725, 0x06CA6351E003826F, 0x142929670A0E6E70] ++
  [0x27B70A8546D22FFC, 0x2E1B21385C26C926, 0x4D2C6DFC5AC42AED, 0x53380D139D95B3DF, 0x650A73548BAF63DE, 0x766A0ABB3C77B2A8, 0x81C2C92E47EDAEE6, 0x92722C851482353B, 0xA2BFE8A14CF10364, 0xA81A664BBC423001, 0xC24B8B70D0F89791, 0xC76C51A30654BE30, 0xD192E819D6EF5218, 0xD69906245565A910, 0xF40E35855771202A, 0x106AA07032BBD1B8] ++
  [0x19A4C116B8D2D0C8, 0x1E376C085141AB53, 0x2748774CDF8EEB99, 0x34B0BCB5E19B48A8, 0x391C0CB3C5C95A63, 0x4ED8AA4AE3418ACB, 0x5B9CCA4F7763E373, 0x682E6FF3D6B2B8A3, 0x748F82EE5DEFB2FC, 0x78A5636F43172F60, 0x84C87814A1F0AB72, 0x8CC702081A6439EC, 0x90BEFFFA23631E28, 0xA4506CEBDE82BDE9, 0xBEF9A3F7B2C67915, 0xC67178F2E372532B] ++
  [0xCA273ECEEA26619C, 0xD186B8C721C0C207, 0xEADA7DD6CDE0EB1E, 0xF57D4F7FEE6ED178, 0x06F067AA72176FBA, 0x0A637DC5A2C898A6, 0x113F9804BEF90DAE, 0x1B710B35131C471B, 0x28DB77F523047D84, 0x32CAAB7B40C72493, 0x3C9EBE0A15C9BEBC, 0x431D67C49C100D4C, 0x4CC5D4BECB3E42B6, 0x597F299CFC657E2A, 0x5FCB6FAB3AD6FAEC, 0x6C44198C4A475817]

/-- Initial value of SHA-256. -/
def sha256Init : List (BitVec 32) :=
  [0x6A09E667, 0xBB67AE85, 0x3C6EF372, 0xA54FF53A, 0x510E527F, 0x9B05688C, 0x1F83D9AB, 0x5BE0CD19]

/-- Initial value of SHA-512. -/
def sha512Init : List (BitVec 64) :=
  [0x6A09E667F3BCC908, 0xBB67AE8584CAA73B, 0x3C6EF372FE94F82B, 0xA54FF53A5F1D36F1, 0x510E527FADE682D1, 0x9B05688C2B3E6C1F, 0x1F83D9ABFB41BD6B, 0x5BE0CD19137E2179]

/-- Initial value of SHA-384. -/
def sha384Init : List (BitVec 64) :=
  [0xCBBB9D5DC1059ED8, 0x629A292A367CD507, 0x9159015A3070DD17, 0x152FECD8F70E5939, 0x67332667FFC00B31, 0x8EB44A8768581511, 0xDB0C2E0D64F98FA7, 0x47B5481DBEFA4FA4]

/-- The rotations and shifts of a SHA-2 function: Σ0, Σ1, σ0, σ1. -/
structure ShaRot where
  big0 : Nat × Nat × Nat
  big1 : Nat × Nat × Nat
  low0 : Nat × Nat × Nat
  low1 : Nat × Nat × Nat

/-- SHA-256's. -/
def sha256Rot : ShaRot := ⟨(2, 13, 22), (6, 11, 25), (7, 18, 3), (17, 19, 10)⟩
/-- SHA-512's. -/
def sha512Rot : ShaRot := ⟨(28, 34, 39), (14, 18, 41), (1, 8, 7), (19, 61, 6)⟩

/-- Σ: three rotations. -/
def shaBig {w : Nat} (r : Nat × Nat × Nat) (x : BitVec w) : BitVec w :=
  x.rotateRight r.1 ^^^ x.rotateRight r.2.1 ^^^ x.rotateRight r.2.2

/-- σ: two rotations and a shift. -/
def shaLow {w : Nat} (r : Nat × Nat × Nat) (x : BitVec w) : BitVec w :=
  x.rotateRight r.1 ^^^ x.rotateRight r.2.1 ^^^ (x >>> r.2.2)

/-- Extend the message schedule by `n` words; `ws` is newest first. -/
def shaSchedule {w : Nat} (r : ShaRot) (ws : List (BitVec w)) : Nat → List (BitVec w)
  | 0 => ws
  | n + 1 =>
    shaSchedule r ((shaLow r.low1 (ws.getD 1 0) + ws.getD 6 0 + shaLow r.low0 (ws.getD 14 0) + ws.getD 15 0) :: ws) n

/-- One round on the working variables a to h. -/
def shaRound {w : Nat} (r : ShaRot) (v : List (BitVec w)) (k m : BitVec w) : List (BitVec w) :=
  match v with
  | [a, b, c, d, e, f, g, h] =>
    let t1 := h + shaBig r.big1 e + ((e &&& f) ^^^ (~~~e &&& g)) + k + m
    let t2 := shaBig r.big0 a + ((a &&& b) ^^^ (a &&& c) ^^^ (b &&& c))
    [t1 + t2, a, b, c, d + t1, e, f, g]
  | _ => v

/-- Compress one block into a state. -/
def shaCompress {w : Nat} (r : ShaRot) (ks : List (BitVec w)) (st : List (BitVec w)) (block : List Byte) : List (BitVec w) :=
  let n := w / 8
  let ms := ((List.range 16).map fun i => BitVec.ofNat w (beNat ((block.drop (n * i)).take n))).reverse
  let ms := (shaSchedule r ms (ks.length - 16)).reverse
  let v := (List.zip ks ms).foldl (fun v km => shaRound r v km.1 km.2) st
  List.zipWith (fun x y => x + y) st v

/-- Pad a message to whole blocks of `blk` bytes, its length in `lenBytes` bytes. -/
def shaPad (blk lenBytes : Nat) (m : List Byte) : List Byte :=
  let z := (blk - (m.length + 1 + lenBytes) % blk) % blk
  m ++ [0x80] ++ pad z ++ beBytes (8 * m.length) lenBytes

/-- Blocks of `n` bytes. -/
def chunks (n : Nat) (m : List Byte) : List (List Byte) := (List.range (m.length / n)).map fun i => (m.drop (n * i)).take n

/-- Bytes of a SHA-2 state. -/
def shaBytes {w : Nat} (st : List (BitVec w)) : List Byte := (st.map fun x => beBytes x.toNat (w / 8)).flatten

/-- SHA-256. -/
def sha256 (m : List Byte) : List Byte := shaBytes ((chunks 64 (shaPad 64 8 m)).foldl (shaCompress sha256Rot sha256K) sha256Init)

/-- SHA-512. -/
def sha512 (m : List Byte) : List Byte := shaBytes ((chunks 128 (shaPad 128 16 m)).foldl (shaCompress sha512Rot sha512K) sha512Init)

/-- SHA-384. -/
def sha384 (m : List Byte) : List Byte :=
  (shaBytes ((chunks 128 (shaPad 128 16 m)).foldl (shaCompress sha512Rot sha512K) sha384Init)).take 48

/-! ## Keccak (FIPS 202) -/

/-- The LFSR behind the round constants, x^8 + x^6 + x^5 + x^4 + 1: its bits, oldest first, from state `r`. -/
def keccakLfsr (r : Byte) : Nat → List Bool
  | 0 => []
  | n + 1 => bit r.toNat 0 :: keccakLfsr (if bit r.toNat 7 then (r <<< 1) ^^^ 0x71 else r <<< 1) n

/-- ι: the constant of round `i` has the LFSR's bits 7i to 7i + 6 at places 2^j - 1. -/
def iotaWord (i : Nat) : BitVec 64 :=
  let bs := (keccakLfsr 1 168).drop (7 * i)
  BitVec.ofNat 64 ((List.range 7).map fun j => b01 (bs.getD j false) * 2 ^ (2 ^ j - 1)).sum

/-- A state as five planes of five lanes. -/
abbrev Planes := List (List (BitVec 64))

/-- Turn a plane by `n` lanes. -/
def turnPlane (n : Nat) (p : List (BitVec 64)) : List (BitVec 64) := p.drop n ++ p.take n

/-- XOR of planes, lane by lane. -/
def xorPlane (p q : List (BitVec 64)) : List (BitVec 64) := List.zipWith (fun u v => u ^^^ v) p q

/-- θ: every plane takes the parities of the two neighbouring columns, one of them turned by a bit. -/
def thetaStep (a : Planes) : Planes :=
  let parity := a.foldl xorPlane (List.replicate 5 0)
  a.map (xorPlane (xorPlane (turnPlane 4 parity) ((turnPlane 1 parity).map fun v => v.rotateLeft 1)))

/-- ρ and π as one walk: from (x, y) each step goes on to (y, 2x + 3y), and step `t` turns its lane by (t + 1)(t + 2) / 2 and puts it where
the walk goes next. `out` collects the lanes with their places. -/
def rhoPiWalk (a : Planes) (x y t : Nat) (out : List (Nat × BitVec 64)) : Nat → List (Nat × BitVec 64)
  | 0 => out
  | n + 1 =>
    let v := (a.getD y []).getD x 0
    let z := (2 * x + 3 * y) % 5
    rhoPiWalk a y z (t + 1) ((5 * z + y, v.rotateLeft ((t + 1) * (t + 2) / 2 % 64)) :: out) n

/-- ρ then π; the lane at the origin stays. -/
def rhoPiStep (a : Planes) : Planes :=
  let moved := rhoPiWalk a 1 0 0 [(0, (a.headD []).headD 0)] 24
  (List.range 5).map fun y => (List.range 5).map fun x => ((moved.find? fun e => decide (e.1 = 5 * y + x)).map fun e => e.2).getD 0

/-- χ: each lane takes the AND of its next but one with the complement of its next. -/
def chiStep (p : List (BitVec 64)) : List (BitVec 64) :=
  xorPlane p (List.zipWith (fun u v => ~~~u &&& v) (turnPlane 1 p) (turnPlane 2 p))

/-- ι: the constant goes into the lane at the origin. -/
def iotaStep (k : BitVec 64) (a : Planes) : Planes :=
  match a with
  | (l :: ls) :: ps => ((l ^^^ k) :: ls) :: ps
  | _ => a

/-- Keccak-f[1600] on 25 lanes in plane order: 24 rounds. -/
def keccakF (lanes : List (BitVec 64)) : List (BitVec 64) :=
  let a : Planes := (List.range 5).map fun y => (lanes.drop (5 * y)).take 5
  ((List.range 24).foldl (fun a i => iotaStep (iotaWord i) ((rhoPiStep (thetaStep a)).map chiStep)) a).flatten

/-- Lanes of a 200-byte state. -/
def lanesOf (bs : List Byte) : List (BitVec 64) := (List.range 25).map fun i => BitVec.ofNat 64 (fld bs (8 * i) 8)

/-- Bytes of the lanes. -/
def laneBytes (a : List (BitVec 64)) : List Byte := (a.map fun x => leBytes x.toNat 8).flatten

/-- Absorb one rate block into a state of 200 bytes. -/
def keccakAbsorb (st block : List Byte) : List Byte :=
  laneBytes (keccakF (lanesOf (xorBytes st (fit block 200))))

/-- SHA3-256: rate 136, domain bits 01. -/
def sha3_256 (m : List Byte) : List Byte :=
  let z := 136 - (m.length + 1) % 136
  let p := if z = 136 then m ++ [0x86] else m ++ [0x06] ++ pad (z - 1) ++ [0x80]
  ((chunks 136 p).foldl keccakAbsorb (pad 200)).take 32

/-- SHAKE256 with at most 136 bytes of output. -/
def shake256 (m : List Byte) (n : Nat) : List Byte :=
  let rate := 136
  let z := rate - m.length % rate
  let tail : List Byte := if z = 1 then [0x9F] else [0x1F] ++ pad (z - 2) ++ [0x80]
  ((chunks rate (m ++ tail)).foldl keccakAbsorb (pad 200)).take n

/-! ## CMAC (NIST SP 800-38B), key derivation (SP 800-108, SP 800-56C) and key wrap (SP 800-38F) -/

/-- A subkey of CMAC: doubling in GF(2^128). -/
def cmacDouble (x : Nat) : Nat := if 2 ^ 127 ≤ x then (2 * x % 2 ^ 128) ^^^ 0x87 else 2 * x

/-- CMAC-AES. -/
def cmac (key m : List Byte) : List Byte :=
  let k1 := cmacDouble (beNat (aesEncrypt key (pad 16)))
  let whole := m ≠ [] ∧ m.length % 16 = 0
  let n := (m.length + 15) / 16 - 1
  let last := if whole then xorBytes (m.drop (16 * n)) (beBytes k1 16)
    else xorBytes (fit (m.drop (16 * n) ++ [0x80]) 16) (beBytes (cmacDouble k1) 16)
  let c := (List.range n).foldl (fun c i => aesEncrypt key (xorBytes c ((m.drop (16 * i)).take 16))) (pad 16)
  aesEncrypt key (xorBytes c last)

/-- The counter-mode KDF of SP 800-108 with CMAC-AES-256 as its PRF (R366): `bits` bits, in whole bytes. Counter and length are 32 bits,
big-endian (DESIGN CHOICE, log entry 81: the standard leaves their width to its user). -/
def kdf (key label context : List Byte) (bits : Nat) : List Byte :=
  (((List.range ((bits + 127) / 128)).map fun i =>
    cmac key (beBytes (i + 1) 4 ++ label ++ [0] ++ context ++ beBytes bits 4)).flatten).take (bits / 8)

/-- The one-step KDF of SP 800-56C with SHA-384, one block of it (R378). -/
def oneStepKdf (z info : List Byte) (n : Nat) : List Byte := (sha384 (beBytes 1 4 ++ z ++ info)).take n

/-- The six passes of AES key wrap over `n` semiblocks, in the steps' order. -/
def wrapSteps (n : Nat) : List (Nat × Nat) := (List.range (6 * n)).map fun t => (t % n, t + 1)

/-- AES key wrap of whole semiblocks (KW). -/
def keyWrap (key p : List Byte) : List Byte :=
  let n := p.length / 8
  let r := (wrapSteps n).foldl (fun (st : List Byte × List (List Byte)) it =>
    let b := aesEncrypt key (st.1 ++ st.2.getD it.1 [])
    (xorBytes (b.take 8) (beBytes it.2 8), st.2.set it.1 (b.drop 8))) (List.replicate 8 0xA6, chunks 8 p)
  r.1 ++ r.2.flatten

/-- AES key unwrap; none when the integrity check fails. -/
def keyUnwrap (key c : List Byte) : Option (List Byte) :=
  let n := c.length / 8 - 1
  let r := (wrapSteps n).reverse.foldl (fun (st : List Byte × List (List Byte)) it =>
    let b := aesDecrypt key (xorBytes st.1 (beBytes it.2 8) ++ st.2.getD it.1 [])
    (b.take 8, st.2.set it.1 (b.drop 8))) (c.take 8, chunks 8 (c.drop 8))
  if r.1 = List.replicate 8 0xA6 ∧ c.length % 8 = 0 ∧ 2 ≤ n then some r.2.flatten else none

/-! ## P-384 and ECDSA (FIPS 186-5) -/

/-! ## HMAC and the TLS 1.3 key schedule (RFC 2104, RFC 5869, RFC 8446) -/

/-- HMAC over a hash of the given block size. -/
def hmac (h : List Byte → List Byte) (blk : Nat) (key m : List Byte) : List Byte :=
  let k := fit (if blk < key.length then h key else key) blk
  h ((k.map fun b => b ^^^ 0x5C) ++ h ((k.map fun b => b ^^^ 0x36) ++ m))

/-- HKDF-Expand-Label with an empty context, for at most one hash of output. -/
def expandLabel (h : List Byte → List Byte) (blk : Nat) (secret label : List Byte) (n : Nat) : List Byte :=
  let full : List Byte := [0x74, 0x6C, 0x73, 0x31, 0x33, 0x20] ++ label
  (hmac h blk secret (beBytes n 2 ++ beBytes full.length 1 ++ full ++ [0, 1])).take n

/-- The field's prime. -/
def p384P : Nat := 2 ^ 384 - 2 ^ 128 - 2 ^ 96 + 2 ^ 32 - 1

/-- The order of the base point. -/
def p384N : Nat := 0xffffffffffffffffffffffffffffffffffffffffffffffffc7634d81f4372ddf581a0db248b0a77aecec196accc52973

/-- The coefficient b; a is -3. -/
def p384B : Nat := 0xb3312fa7e23ee7e4988e056be3f82d19181d9c6efe8141120314088f5013875ac656398d8a2ed19d2a85c8edd3ec2aef

/-- The base point. -/
def p384G : Nat × Nat :=
  (0xaa87ca22be8b05378eb1c71ef320ad746e1d3b628ba79b9859f741e082542a385502f25dbf55296c3a545e3872760ab7,
    0x3617de4a96262c6f5d9e98bf9292dc29f8f41dbd289a147ce9da3113b5f0b8c00a60b1ce1d7e819d7a431d7c90ea0e5f)

/-- `b ^ e` modulo `m`, over the low `n` bits of `e`, highest first. -/
def powMod (m b e : Nat) : Nat → Nat
  | 0 => 1 % m
  | n + 1 => let h := powMod m b (e / 2) n; h * h % m * (if e % 2 = 1 then b else 1) % m

/-- Inverse modulo a prime of 384 bits. -/
def invMod (m a : Nat) : Nat := powMod m (a % m) (m - 2) 384

/-- The chord or tangent of slope `l` through two points gives their sum. -/
def p384Third (l : Nat) (a b : Nat × Nat) : Nat × Nat :=
  let x := (l * l + 2 * p384P - a.1 - b.1) % p384P
  (x, (l * (a.1 + p384P - x) + p384P - a.2) % p384P)

/-- Sum of two points; none is the point at infinity. -/
def p384Add : Option (Nat × Nat) → Option (Nat × Nat) → Option (Nat × Nat)
  | none, b => b
  | a, none => a
  | some a, some b =>
    if a.1 = b.1 then
      if (a.2 + b.2) % p384P = 0 then none
      else some (p384Third (3 * (a.1 * a.1 + p384P - 1) * invMod p384P (2 * a.2)) a b)
    else some (p384Third ((b.2 + p384P - a.2) * invMod p384P (b.1 + p384P - a.1)) a b)

/-- A multiple of a point, by the low `n` bits of `k`. -/
def p384Mul (p : Option (Nat × Nat)) (k : Nat) : Nat → Option (Nat × Nat)
  | 0 => none
  | n + 1 =>
    let h := p384Mul p (k / 2) n
    let d := p384Add h h
    if k % 2 = 1 then p384Add d p else d

/-- A point in its 96 bytes, x then y. -/
def pointBytes (p : Option (Nat × Nat)) : List Byte :=
  match p with
  | some q => beBytes q.1 48 ++ beBytes q.2 48
  | none => pad 96

/-- A point of the curve from its 96 bytes, or from the 97 of its uncompressed form. -/
def pointOf (bs : List Byte) : Option (Nat × Nat) :=
  let bs := if bs.length = 97 ∧ bs.headD 0 = 4 then bs.drop 1 else bs
  let x := beNat (bs.take 48)
  let y := beNat (bs.drop 48)
  if bs.length = 96 ∧ x < p384P ∧ y < p384P ∧ y * y % p384P = (x * x * x + (p384P - 3) * x + p384B) % p384P then some (x, y) else none

/-- A private key from 448 bits, by the extra random bits of FIPS 186-5 (R366). -/
def ecKeyOf (bits448 : List Byte) : Nat := beNat bits448 % (p384N - 1) + 1

/-- The public key of a private key. -/
def ecPublic (d : Nat) : List Byte := pointBytes (p384Mul (some p384G) d 384)

/-- An ECDSA signature with SHA-384: the secret number `k`, then r and s of 48 bytes each. -/
def ecdsaSign (d k : Nat) (m : List Byte) : List Byte :=
  let r := match p384Mul (some p384G) k 384 with | some q => q.1 % p384N | none => 0
  beBytes r 48 ++ beBytes (invMod p384N k * (beNat (sha384 m) + r * d) % p384N) 48

/-- An ECDSA signature with SHA-384 verifies under a public key of 96 bytes. -/
def ecdsaVerifies (pub m sig : List Byte) : Bool :=
  let r := beNat (sig.take 48)
  let s := beNat (sig.drop 48)
  match pointOf pub with
  | none => false
  | some q =>
    let w := invMod p384N s
    let v := p384Add (p384Mul (some p384G) (beNat (sha384 m) * w % p384N) 384) (p384Mul (some q) (r * w % p384N) 384)
    decide (sig.length = 96 ∧ 1 ≤ r ∧ r < p384N ∧ 1 ≤ s ∧ s < p384N) &&
      (match v with | some u => decide (u.1 % p384N = r) | none => false)

/-- The shared secret of ECDH (R378): the x coordinate. -/
def ecdh (d : Nat) (pub : List Byte) : Option (List Byte) :=
  match pointOf pub with
  | none => none
  | some q => (p384Mul (some q) d 384).map fun z => beBytes z.1 48

/-! ## HSS verification (RFC 8554, NIST SP 800-208) -/

/-- Parameters of an LM-OTS type with 32-byte hashes: Winternitz width, chains, checksum shift. SHA-256 types begin at 1, SHAKE types at 9. -/
def otsParams (type base : Nat) : Option (Nat × Nat × Nat) :=
  match type - base, decide (base ≤ type) with
  | 0, true => some (1, 265, 7)
  | 1, true => some (2, 133, 6)
  | 2, true => some (4, 67, 4)
  | 3, true => some (8, 34, 0)
  | _, _ => none

/-- Height of an LMS type with 32-byte hashes: the types from `base` on have heights 5, 10, 15, 20 and 25. -/
def lmsHeight (type base : Nat) : Option Nat := if base ≤ type ∧ type < base + 5 then some (5 * (type - base + 1)) else none

/-- The `i`-th Winternitz digit of width `w`. -/
def otsDigit (bs : List Byte) (w i : Nat) : Nat := (bs.getD (i * w / 8) 0).toNat / 2 ^ (8 - w - i * w % 8) % 2 ^ w

/-- One chain of an LM-OTS signature, from value `v` at step `j` to the chain's end; `pre` is what every hash begins with. -/
def otsChain (h : List Byte → List Byte) (pre v : List Byte) (j : Nat) : Nat → List Byte
  | 0 => v
  | n + 1 => otsChain h pre (h (pre ++ beBytes j 1 ++ v)) (j + 1) n

/-- The candidate LM-OTS public key of a signature: C and the chains' values. -/
def otsCandidate (h : List Byte → List Byte) (w p ls : Nat) (id sig m : List Byte) : List Byte :=
  let q := h (id ++ [0x81, 0x81] ++ sig.take 32 ++ m)
  let sum := ((List.range (256 / w)).map fun i => 2 ^ w - 1 - otsDigit q w i).sum
  let ds := q ++ beBytes (sum * 2 ^ ls % 65536) 2
  let zs := (List.range p).map fun i =>
    let a := otsDigit ds w i
    otsChain h (id ++ beBytes i 2) ((sig.drop (32 + 32 * i)).take 32) a (2 ^ w - 1 - a)
  h (id ++ [0x80, 0x80] ++ zs.flatten)

/-- Climb an LMS tree from a node to its root along the path. -/
def lmsClimb (h : List Byte → List Byte) (i : List Byte) (node : Nat) (v : List Byte) : List (List Byte) → List Byte
  | [] => v
  | s :: path =>
    let pre := i ++ beBytes (node / 2) 4 ++ [0x83, 0x83]
    lmsClimb h i (node / 2) (h (pre ++ if node % 2 = 1 then s ++ v else v ++ s)) path

/-- Bytes of an LMS signature at the head of `bs`, by its types; none when they are not of the family. -/
def lmsLength (lms ots : Nat) (bs : List Byte) : Option (Nat × Nat × Nat × Nat) :=
  match otsParams (bfld bs 4 4) ots with
  | none => none
  | some (w, p, ls) => (lmsHeight (bfld bs (8 + 32 * (p + 1)) 4) lms).map fun hgt => (w, p, ls, hgt)

/-- An LMS signature at the head of `bs` verifies under a public key of 56 bytes, its tree at least `least` high; the bytes behind it. -/
def lmsRest (h : List Byte → List Byte) (lms ots least : Nat) (pk m bs : List Byte) : Option (List Byte) :=
  match lmsLength lms ots bs with
  | none => none
  | some (w, p, ls, hgt) =>
    let q := bfld bs 0 4
    let i := (pk.drop 8).take 16
    let off := 12 + 32 * (p + 1)
    let kc := otsCandidate h w p ls (i ++ beBytes q 4) (bs.drop 8) m
    let leaf := h (i ++ beBytes (2 ^ hgt + q) 4 ++ [0x82, 0x82] ++ kc)
    let root := lmsClimb h i (2 ^ hgt + q) leaf ((List.range hgt).map fun k => (bs.drop (off + 32 * k)).take 32)
    if bfld pk 0 4 = bfld bs (off - 4) 4 ∧ bfld pk 4 4 = bfld bs 4 4 ∧ q < 2 ^ hgt ∧ least ≤ hgt ∧ off + 32 * hgt ≤ bs.length ∧
        root = pk.drop 24 then
      some (bs.drop (off + 32 * hgt))
    else none

/-- The levels of an HSS signature below the first: each signs the public key of the next, the last the message. -/
def hssLevels (h : List Byte → List Byte) (lms ots least : Nat) (m : List Byte) (pk bs : List Byte) : Nat → Bool
  | 0 => decide (lmsRest h lms ots least pk m bs = some [])
  | n + 1 =>
    match lmsLength lms ots bs with
    | none => false
    | some (_, p, _, hgt) =>
      let next := (bs.drop (12 + 32 * (p + 1) + 32 * hgt)).take 56
      match lmsRest h lms ots least pk next bs with
      | none => false
      | some r => hssLevels h lms ots least m next (r.drop 56) n

/-- An HSS signature verifies under a public key of 60 bytes. -/
def hssVerifies (h : List Byte → List Byte) (lms ots least : Nat) (pub m sig : List Byte) : Bool :=
  let l := bfld pub 0 4
  decide (pub.length = 60 ∧ 1 ≤ l ∧ l ≤ 8 ∧ bfld sig 0 4 + 1 = l) && hssLevels h lms ots least m (pub.drop 4) (sig.drop 4) (l - 1)

/-- HSS of the SHA-256 family. -/
def hssSha (least : Nat) (pub m sig : List Byte) : Bool := hssVerifies sha256 5 1 least pub m sig

/-- HSS of the SHAKE family. -/
def hssShake (pub m sig : List Byte) : Bool := hssVerifies (fun x => shake256 x 32) 0x0F 9 5 pub m sig

/-! ## CRC-32C and CRC-32 -/

/-- One byte into a reflected CRC register. -/
def crcByte (poly : BitVec 32) (c : BitVec 32) (b : Byte) : BitVec 32 :=
  (List.range 8).foldl (fun c _ => if c.getLsbD 0 then (c >>> 1) ^^^ poly else c >>> 1) (c ^^^ b.setWidth 32)

/-- CRC-32C with initial value and final inversion of all ones; `seed` replaces the initial value. -/
def crc32c (seed : BitVec 32) (bs : List Byte) : BitVec 32 := ~~~(bs.foldl (crcByte 0x82F63B78) seed)

/-- The Ethernet FCS. -/
def fcs (bs : List Byte) : BitVec 32 := ~~~(bs.foldl (crcByte 0xEDB88320) 0xFFFFFFFF)

end Sys2Proof
end

