-- ==== Sys2Proof/Machine/ThreadOps.lean ====
section
/-!
DEFINITION. Shared operations on Dreko threads, lines, hitches and thread-visible memory: registers,
faults and reseating (R301, R302, R350, R351), access rules (R305, R516, R522), line messages
(R307 to R311, R337 to R340) and hitches (R312 to R314).
-/

namespace Sys2Proof.Machine

/-! ## Debug ledger (R579) -/

/-- Bytes of a ledger entry, padded to a multiple of 16. -/
def LedgerEntry.len (e : LedgerEntry) : Nat := (32 + e.body.length + 15) / 16 * 16

/-- Bytes of a ledger entry (R579). -/
def LedgerEntry.bytes (e : LedgerEntry) : List Byte :=
  fit (leBytes e.index 4 ++ leBytes e.kind 2 ++ leBytes e.len 2 ++ leBytes e.scope 1 ++ pad 1 ++ leBytes e.unit 2 ++
    leBytes e.gen 2 ++ pad 2 ++ Time.bytes e.time ++ e.body) e.len

/-- Bytes that a list of entries takes. -/
def ledgerSize (es : List LedgerEntry) : Nat := (es.map LedgerEntry.len).sum

/-- Drop the oldest entries until the ring of 16 MiB holds the rest; answers how many unread ones went. -/
def ledgerTrim (read : Nat) : List LedgerEntry → List LedgerEntry × Nat
  | [] => ([], 0)
  | e :: es =>
    if ledgerSize (e :: es) ≤ 16777216 then (e :: es, 0)
    else ((ledgerTrim read es).1, (ledgerTrim read es).2 + b01 (decide (read ≤ e.index)))

/-- Append a ledger entry; what it overwrites unread counts in FAULT.LEDGER_LOST. -/
def State.ledger (s : State) (kind scope unit : Nat) (body : List Byte) : State :=
  let e : LedgerEntry := ⟨s.fault.ledgerNext, kind, scope, unit, s.gen.current, s.now, body⟩
  let t := ledgerTrim s.fault.ledgerRead (s.fault.ledger ++ [e])
  State.count { s with fault := { s.fault with ledger := t.1, ledgerNext := s.fault.ledgerNext + 1 } } R.FAULT_LEDGER_LOST t.2

/-! ## Threads and their registers (R327, R328) -/

/-- A thread. -/
def State.thread (s : State) (t : Nat) : Thread := Tbl.get (fun _ => Thread.idle) s.cores.threads t

/-- Change a thread. -/
def State.setThread (s : State) (t : Nat) (x : Thread) : State :=
  { s with cores := { s.cores with threads := Tbl.set (fun _ => Thread.idle) s.cores.threads t x } }

/-- Read a g register: g0 reads zero (R327). -/
def Thread.rg (x : Thread) (r : Greg) : Word := if r = 0 then 0 else x.g.get r

/-- Write a g register: a write of g0 is discarded (R327). -/
def Thread.wg (x : Thread) (r : Greg) (v : Word) : Thread :=
  if r = 0 then x else { x with g := x.g.set r.val v r.isLt }

/-- Read a vector register. -/
def Thread.rv (x : Thread) (r : Vreg) : Vec := x.v.get r

/-- Write a vector register. -/
def Thread.wv (x : Thread) (r : Vreg) (v : Vec) : Thread := { x with v := x.v.set r.val v r.isLt }

/-- Read a predicate: p0 reads 1 (R327). -/
def Thread.rp (x : Thread) (r : Preg) : Bool := decide (r = 0) || x.p.getLsbD r.val

/-- Write a predicate: a write of p0 is discarded (R327). -/
def Thread.wp (x : Thread) (r : Preg) (b : Bool) : Thread :=
  if r = 0 then x
  else { x with p := if b then x.p ||| (1#8 <<< r.val) else x.p &&& ~~~ (1#8 <<< r.val) }

/-- Core of a thread (R10). -/
def coreOf (t : Nat) : Nat := t / 8
/-- Cluster of a thread. -/
def clusterOf (t : Nat) : Nat := t / 512
/-- Global wait group of a thread (R321). -/
def State.groupOf (s : State) (t : Nat) : Nat := clusterOf t * 64 + (s.thread t).group

/-- A core runs annex code: cores 240 to 255 always, and the released cores in force (R303). -/
def State.annexCore (s : State) (c : Nat) : Bool := decide (240 ≤ c) || s.cores.annexCores.contains c

/-- A thread is an annex thread. -/
def State.isAnnex (s : State) (t : Nat) : Bool := s.annexCore (coreOf t)

/-- The values a thread starts with (R298). -/
def Thread.start (x : Thread) (t : Nat) (gen : Nat) : Thread :=
  { x with
    state := .ready, halted := false
    g := ((Vector.replicate 32 (0 : Word)).set 1 (BitVec.ofNat 64 x.arg)).set 2 (BitVec.ofNat 64 t) |>.set 31 (BitVec.ofNat 64 (x.stackBase + x.stackSize))
    v := Vector.replicate 8 0, p := 0, pc := BitVec.ofNat 32 x.entry, gen := BitVec.ofNat 16 gen, retired := 0
    staged := none, object := 0, resultReg := 0, deadline := none, held := [], packets := [] }

/-- Trace one event of a thread when its cluster's trace unit selects it at debug level 1 or 2 (R320). Kinds:
1 taken branch, 2 LEND, 3 LGET, 4 tie, 5 untie. -/
def State.trace (s : State) (t kind : Nat) (pc : BitVec 32) : State :=
  let c := clusterOf t
  let ctl := (s.reg (R.DBG_TRACE_CTRL + 8 * c)).toNat
  let sel := (List.range 4).any fun k => bit ctl (44 + k) && decide (bits ctl (11 * k + 10) (11 * k) = t)
  if s.sr.debugLevel ≥ 1 ∧ bit ctl 63 ∧ sel then
    let old : List TraceRec := Tbl.get (fun _ => []) s.cores.traces c
    let new : List TraceRec := (old ++ [TraceRec.mk (match old.getLast? with | some r => r.index + 1 | none => 0) t kind pc.toNat s.clock]).drop (old.length + 1 - 65536)
    { s with cores := { s.cores with traces := Tbl.set (fun _ => []) s.cores.traces c new } }
  else s

/-! ## Lines (R299, R300, R307 to R311) -/

/-- A line's entry in the table. -/
def State.line (s : State) (n : Nat) : Line := Tbl.get (fun _ => Line.unused) s.cores.lines n

/-- Change a line. -/
def State.setLine (s : State) (n : Nat) (l : Line) : State :=
  { s with cores := { s.cores with lines := Tbl.set (fun _ => Line.unused) s.cores.lines n l } }

/-- A hitch. -/
def State.hitch (s : State) (n : Nat) : Hitch := Tbl.get (fun _ => Hitch.unused) s.cores.hitches n

/-- Change a hitch. -/
def State.setHitch (s : State) (n : Nat) (h : Hitch) : State :=
  { s with cores := { s.cores with hitches := Tbl.set (fun _ => Hitch.unused) s.cores.hitches n h } }

/-- A party of a line entry admits a thread: 0 any, 1 a wait group, 2 a thread, 3 units only (R299). -/
def State.admits (s : State) (kind who t : Nat) : Bool :=
  match kind with
  | 0 => true
  | 1 => decide (s.groupOf t = who)
  | 2 => decide (t = who)
  | _ => false

/-- A thread may write a line (R299, R300). -/
def State.mayWrite (s : State) (t n : Nat) : Bool :=
  if n < 2048 then true
  else if n < 2052 then decide ((s.thread t).role = .housekeeper)
  else if n = 2052 then true
  else if n < 2056 then false
  else if n < 2096 then true
  else if n < 4096 then false
  else s.admits (s.line n).writerKind (s.line n).writer t

/-- A thread may read a line (R299, R300). -/
def State.mayRead (s : State) (t n : Nat) : Bool :=
  if n < 2048 then decide (t = n)
  else if n < 2052 then decide (clusterOf t = n - 2048) && !s.isAnnex t && decide ((s.thread t).role ≠ .idle)
  else if n = 2052 then decide ((s.thread t).role = .housekeeper)
  else if n < 4096 then false
  else s.admits (s.line n).readerKind (s.line n).reader t

/-- An annex thread reaches its home line, the tile request lines and annex lines only (R304). -/
def State.annexLineOk (s : State) (t n : Nat) : Bool :=
  !s.isAnnex t || decide (n = t) || (decide (2056 ≤ n) && decide (n < 2096)) || decide (61440 ≤ n)

/-- Beats queued on a line. -/
def Line.used (l : Line) : Nat := (l.queue.map List.length).sum

/-- Remove a thread from a line's reader and writer queues. -/
def Line.leave (l : Line) (t : Nat) : Line :=
  { l with readers := l.readers.filter (fun i => decide (i ≠ t)), writers := l.writers.filter (fun i => decide (i ≠ t)) }

/-- Byte `i` of a vector register (R328). -/
def Vec.byte (v : Vec) (i : Nat) : Byte := v.extractLsb' (8 * i) 8

/-- The 64 bytes of a vector register. -/
def Vec.bytes (v : Vec) : List Byte := (List.range 64).map (Vec.byte v)

/-- The vector register of up to 64 bytes. -/
def Vec.ofBytes (bs : List Byte) : Vec := BitVec.ofNat 512 (leNat (bs.take 64))

/-- Replace bytes of a vector register from `off`. -/
def Vec.put (v : Vec) (off : Nat) (bs : List Byte) : Vec := Vec.ofBytes (splice (Vec.bytes v) off bs)

/-- What the line unit writes into the header of an accepted message: WRITER, BEATS and SEQ (R308). -/
def stampHeader (writer seq : Nat) (beats : List Vec) : List Vec :=
  match beats with
  | [] => []
  | b :: bs =>
    Vec.put (Vec.put b 4 (leBytes writer 2 ++ leBytes beats.length 1)) 0x1C (leBytes seq 4) :: bs

/-- The line unit accepts a thread's message: it becomes visible whole (R307). -/
def State.acceptMessage (s : State) (t n : Nat) (beats : List Vec) : State :=
  let x := s.thread t
  let l := s.line n
  let s := s.setLine n { l with queue := l.queue ++ [stampHeader t x.seq beats], writers := l.writers.filter (fun i => decide (i ≠ t)) }
  s.setThread t { x with staged := none, seq := (x.seq + 1) % 2 ^ 32 }

/-- A hardware unit writes a message to a line, numbered by the unit's own count (R308); false when the line has no room (R309).
A tile's unit number is 0x100 + its tile number (R396); of another unit the manual gives none, and the model takes its island number (DESIGN CHOICE, log entry 73). -/
def State.unitMessage (s : State) (unit n : Nat) (beats : List Vec) : State × Bool :=
  let l := s.line n
  if l.used + beats.length ≤ l.cap ∧ l.writers = [] then
    let seq := Tbl.get (fun _ => 0) s.cores.unitSeq unit
    let s := s.setLine n { l with queue := l.queue ++ [stampHeader (2 ^ 15 + unit) seq beats] }
    ({ s with cores := { s.cores with unitSeq := Tbl.put unit ((seq + 1) % 2 ^ 32) s.cores.unitSeq } }, true)
  else (s, false)

/-- Address of a thread's receive buffer in the scratch window (R305). -/
def recvBuffer (t : Nat) : Nat := 0x20000000 + 0x20000 * coreOf t + 0x1000 * (t % 8)

/-- A role that takes packet messages (R297). -/
def Role.takesPackets : Role → Bool
  | .service | .backStair | .annexPacket => true
  | _ => false

/-- Deliver a message into a thread's receive buffer; a PACKET message also hands it the packet (R339, R516). -/
def State.deliver (s : State) (t : Nat) (beats : List Vec) : State :=
  let bytes := (beats.map Vec.bytes).flatten
  let s := { s with mem := Memory.writeBytes s.mem (recvBuffer t) bytes }
  let x := s.thread t
  if fld bytes 0 2 = 1 ∧ Role.takesPackets x.role then
    let h := fld bytes 0x18 4
    s.setThread t { x with packets := x.packets ++ [(h, Tbl.get (fun _ => 0) s.cores.packetLens h)] }
  else s

/-! ## Reseating and faults (R301, R302, R350) -/

/-- Take a thread out of every line queue. -/
def State.leaveLines (s : State) (t : Nat) : State :=
  { s with cores := { s.cores with lines := (s.cores.lines.map fun e => (e.1, e.2.leave t)) } }

/-- Untie a thread's hitches and take it out of every hitch queue. -/
def State.leaveHitches (s : State) (t : Nat) : State :=
  { s with cores := { s.cores with hitches := s.cores.hitches.map fun e =>
      (e.1, { e.2 with holders := e.2.holders.filter (fun i => decide (i ≠ t)), queue := e.2.queue.filter (fun i => decide (i ≠ t)) }) } }

/-- Generation a cluster last adopted. -/
def State.clusterGen (s : State) (c : Nat) : Nat := Tbl.get (fun _ => 0) s.cores.clusterGen c

/-- A tile. -/
def State.tile (s : State) (n : Nat) : Tile := Tbl.get (fun _ => Tile.idle) s.tiles n

/-- Change a tile. -/
def State.setTile (s : State) (n : Nat) (x : Tile) : State :=
  { s with tiles := Tbl.set (fun _ => Tile.idle) s.tiles n x }

/-- The tiles end a reseated thread's requests and discard its responses (R301, R408). -/
def State.dropRequests (s : State) (t : Nat) : State :=
  (List.range 40).foldl (fun s n =>
    let x := s.tile n
    let gone := (x.held.filter fun r => decide (r.thread = t)).length + (x.responses.filter fun r => decide (r.1 = t)).length
    (s.setTile n { x with held := x.held.filter (fun r => decide (r.thread ≠ t))
                          responses := x.responses.filter (fun r => decide (r.1 ≠ t)) }).count R.TILE_RESP_DISCARD gone) s

/-- Thread fault codes (R350). -/
inductive ThFault where
  | illegal | privileged | address | permission | alignment | atomicTarget | lineRefused | hitchMisuse
  | memoryError | breakpointLocked | fetch
  deriving DecidableEq, Repr

/-- The code of a thread fault (R350). -/
def ThFault.code : ThFault → Nat
  | .illegal => 1 | .privileged => 2 | .address => 3 | .permission => 4 | .alignment => 5 | .atomicTarget => 6
  | .lineRefused => 7 | .hitchMisuse => 8 | .memoryError => 9 | .breakpointLocked => 10 | .fetch => 11

/-- Body of a thread fault ledger entry (R351). -/
def faultBody (code flags t pc word target : Nat) (time : Time) : List Byte :=
  leBytes code 1 ++ leBytes flags 1 ++ leBytes t 2 ++ leBytes pc 4 ++ leBytes word 4 ++ pad 4 ++ leBytes target 8 ++ pad 8 ++ Time.bytes time

/-! ## Memory seen by a thread (R305, R347, R514, R516, R519, R522) -/

/-- Base of the annex GDDR6 region (R519). -/
def State.annexBase (s : State) : Nat := 0x8C0000000 - s.memory.annexMib * 0x100000

/-- The region of a shared SRAM or GDDR6 address (R514, R519). -/
def State.regionOf (s : State) (a : Nat) : Option Nat :=
  if a < 0x40000000 then none
  else if a < 0x40E00000 then some 0
  else if a < 0x43E00000 then some 1
  else if a < 0x44E00000 then some 2
  else if a < 0x45600000 then some 3
  else if a < 0x45A00000 then some 4
  else if a < 0x45E00000 then some 5
  else if a < 0x46000000 then some 6
  else if a < 0x100000000 then none
  else if a < 0x104000000 then some 7
  else if a < 0x124000000 then some 8
  else if a < 0x12C000000 then some 9
  else if a < 0x130000000 then some 10
  else if a < 0x142000000 then some 11
  else if a < 0x14A000000 then some 12
  else if a < 0x14E000000 then some 13
  else if a < 0x156000000 then some 14
  else if a < 0x158000000 then some 15
  else if a < 0x200000000 then some 16
  else if a < 0x400000000 then some 17
  else if a < 0x600000000 then some 18
  else if a < 0x700000000 then some 19
  else if a < 0x700200000 then some 20
  else if a < s.annexBase then some 21
  else if a < 0x8C0000000 then some 22
  else none

/-- The thread holds a packet whose cells cover the access (R516). -/
def Thread.ownsPacket (x : Thread) (a n : Nat) : Bool :=
  x.packets.any fun h => decide (0x40E00000 + 64 * (h.1 % 2 ^ 20) ≤ a ∧ a + n ≤ 0x40E00000 + 64 * (h.1 % 2 ^ 20) + (h.2 + 255) / 256 * 256)

/-- Storage threads' roles in the region table (R522). -/
def Role.storageLike : Role → Bool
  | .storage | .seal | .maintenance => true
  | _ => false

/-- A thread may make an access to a region (R522). -/
def State.regionOk (s : State) (t a n region : Nat) (write : Bool) : Bool :=
  let x := s.thread t
  let annex := s.isAnnex t
  match region with
  | 0 | 16 | 21 => !annex
  | 1 => (if annex then decide (x.role = .annexPacket) else Role.takesPackets x.role) && x.ownsPacket a n
  | 5 | 22 => true
  | 6 => !annex && decide (0x45E00000 + 0x4000 ≤ a)
  | 7 => !write && (!annex || (decide (0x100000000 + s.memory.annexCode.1 ≤ a) && decide (a + n ≤ 0x100000000 + s.memory.annexCode.1 + s.memory.annexCode.2)))
  | 8 | 15 => !annex && !write && decide (x.role = .housekeeper)
  | 11 | 14 | 17 => !annex && Role.storageLike x.role
  | 13 => !annex && decide (x.role = .backStair)
  | 18 => !annex && (decide (x.role = .storage) || decide (x.role = .service) || decide (x.role = .maintenance))
  | _ => false

/-- An access within core scratch: the thread's own at offsets below 0x2_0000, any core's through the window (R305). -/
inductive Place where
  | scratch (core off : Nat) (own : Bool)
  | region (n : Nat)
  | outside
  deriving DecidableEq, Repr

/-- Where an address lies (R305). -/
def State.place (s : State) (t a : Nat) : Place :=
  if a < 0x20000 then .scratch (coreOf t) a true
  else if 0x20000000 ≤ a ∧ a < 0x22000000 then .scratch ((a - 0x20000000) / 0x20000) ((a - 0x20000000) % 0x20000) false
  else match s.regionOf a with
    | some r => .region r
    | none => .outside

/-- The address that memory holds the byte under: own scratch lies in the scratch window. -/
def devAddr (t a : Nat) : Nat := if a < 0x20000 then 0x20000000 + 0x20000 * coreOf t + a else a

/-- The fault of an access, if it has one: bits [63:36], alignment, the map of R305, the permissions of R305, R304 and
R522. Their order among themselves is the model's (DEDUCED, log entry 10). -/
def State.accessFault (s : State) (t : Nat) (a n : Nat) (write : Bool) : Option ThFault :=
  if a ≥ 2 ^ 36 then some .address
  else if a % n ≠ 0 then some .alignment
  else match s.place t a with
    | .outside => some .address
    | .scratch c off own =>
      if s.isAnnex t ∧ ¬ s.annexCore c then some .permission
      else if off < 0x8000 then
        (if own then (if off / 0x1000 = t % 8 ∧ ¬ write then none else some .permission)
         else if c = coreOf t ∧ off / 0x1000 = t % 8 then some .address else some .permission)
      else none
    | .region r => if s.regionOk t a n r write then none else some .permission

/-- Bytes of the word or line at an address that carries one check code (R526, R527). -/
def wordSize (a : Nat) : Nat := if a < 0x100000000 then 8 else 64

/-- The access reads an uncorrectable word (R534). -/
def State.poisoned (s : State) (t a n : Nat) : Bool :=
  s.memory.bad.any fun b => decide (b < devAddr t a + n ∧ devAddr t a < b + wordSize b)

/-- Load `n` bytes, zero-extended. -/
def State.load (s : State) (t a n : Nat) : Nat := leNat (Memory.readBytes s.mem (devAddr t a) n)

/-- Store bytes; a store to a GDDR6 chunk not yet filled waits for its fill first (R531). A word written whole is good again. -/
def State.storeBytes (s : State) (t a : Nat) (bs : List Byte) : State :=
  let left := if devAddr t a < 0x100000000 then s.memory.unfilled
    else s.memory.unfilled.filter (fun c => decide (c ≠ (devAddr t a - 0x100000000) / 0x200000))
  let whole (b : Nat) : Bool := decide (devAddr t a ≤ b ∧ b + wordSize b ≤ devAddr t a + bs.length)
  { s with mem := Memory.writeBytes s.mem (devAddr t a) bs, memory := { s.memory with unfilled := left, bad := s.memory.bad.filter fun b => !whole b } }

/-- Append a memory error log record, merging it with an equal one (R541). -/
def mergeErr (r : ErrRec) : List ErrRec → List ErrRec
  | [] => [r]
  | e :: es => if e.kind = r.kind ∧ e.addr = r.addr then { e with count := e.count + r.count, time := r.time } :: es else e :: mergeErr r es

/-- The 32 bytes of an error log record (R541). -/
def ErrRec.bytes (e : ErrRec) : List Byte :=
  leBytes e.kind 1 ++ leBytes e.region 1 ++ leBytes e.unit 2 ++ leBytes e.count 4 ++ leBytes e.addr 8 ++ Time.bytes e.time

/-- Bank, core or channel of an address; the spread of lines over channels is a hash the manual does not give, so a
GDDR6 channel is a free value (log entry 3). -/
def State.unitOf (s : State) (a : Nat) : Nat :=
  if a < 0x40000000 then (a - 0x20000000) / 0x20000
  else if a < 0x100000000 then (a - 0x40000000) / 0x40000
  else (Config.freeValue (s.draws + a)).toNat % 32

/-- Record an error of a word or line in the error log (R541). -/
def State.logMem (s : State) (kind a : Nat) : State :=
  let r : ErrRec := ⟨kind, (s.regionOf a).getD 0xFF, s.unitOf a, 1, a, s.now⟩
  let log := mergeErr r s.memory.errLog
  { s with memory := { s.memory with errLog := log.drop (log.length - 4096), errLost := s.memory.errLost + (log.length - 4096) } }

/-- Count and record an uncorrectable word or line (R534), with its ledger entry (R565). -/
def State.noteUe (s : State) (a : Nat) : State :=
  let s := s.bump (if a < 0x100000000 then R.MEM_SRAM_UE else R.MEM_GDDR6_UE)
  let s := s.logMem 2 a
  s.ledger 4 3 (s.unitOf a) (ErrRec.bytes ⟨2, (s.regionOf a).getD 0xFF, s.unitOf a, 1, a, s.now⟩)

/-- Count a corrected word or line (R526, R527). -/
def State.noteCe (s : State) (a : Nat) : State :=
  let s := s.bump (if a < 0x100000000 then R.MEM_SRAM_CE else R.MEM_GDDR6_CE)
  let s := s.logMem 1 a
  { s with memory := { s.memory with corrected := s.memory.corrected ++ [(a, s.clock)] } }

/-! ## Result codes and the end of a wait (R315, R337) -/

/-- Result codes as 64-bit values (R337). -/
def resFull : Word := -1
/-- EMPTY. -/
def resEmpty : Word := -2
/-- TIMEOUT. -/
def resTimeout : Word := -3
/-- TAKEN. -/
def resTaken : Word := -4
/-- UNAVAILABLE. -/
def resUnavailable : Word := -5

/-- A blocked or parked thread goes on after the instruction it stopped at. -/
def State.release (s : State) (t : Nat) : State :=
  s.setThread t { s.thread t with
    state := .ready, object := 0, deadline := none, pc := (s.thread t).pc + 4, retired := (s.thread t).retired + 1 }

/-- A blocked thread's instruction completes with a result (R337). -/
def State.answer (s : State) (t : Nat) (v : Word) : State :=
  (s.setThread t ((s.thread t).wg (s.thread t).resultReg v)).release t

/-- Every blocked thread returns UNAVAILABLE and every staged message is discarded (R315). -/
def State.freeThread (s : State) (t : Nat) : State :=
  let s := s.count R.THR_PARTIAL_DISCARD (b01 (s.thread t).staged.isSome)
  let s := s.setThread t { s.thread t with staged := none, held := [] }
  match (s.thread t).state with
  | .blockedLine | .blockedLend | .blockedHitch => s.answer t resUnavailable
  | _ => s

/-- The line and hitch units stop serving (R315): queued messages are lost and every hitch becomes free. -/
def State.lhDown (s : State) : State :=
  let s := ((List.range 2048).foldl State.freeThread s)
  { s with cores := { s.cores with
      lhReady := false
      lines := s.cores.lines.map fun e => (e.1, { e.2 with queue := [], readers := [], writers := [] })
      hitches := s.cores.hitches.map fun e => (e.1, { e.2 with holders := [], queue := [] }) } }

end Sys2Proof.Machine
end

