-- ==== Sys2Proof/Machine/CmdOps.lean ====
section
/-!
DEFINITION. How Ehrenan commands end: replies, schedule results, long-running commands (R81 to R95).
-/

namespace Sys2Proof.Machine

/-- The status means that the command ran and took effect without failure (R88). -/
def Status.good : Status → Bool
  | .ok | .okLate | .okWarn => true
  | _ => false

end Sys2Proof.Machine

namespace Sys2Proof

/-- FLAGS.AT_TIME (R79). -/
def Packet.atTimeFlag (p : Packet) : Bool := p.flags.getLsbD 0
/-- FLAGS.STRICT. -/
def Packet.strict (p : Packet) : Bool := p.flags.getLsbD 1
/-- FLAGS.FORGIVE. -/
def Packet.forgive (p : Packet) : Bool := p.flags.getLsbD 2
/-- FLAGS.PERIODIC. -/
def Packet.periodic (p : Packet) : Bool := p.flags.getLsbD 3
/-- FLAGS.DRY_RUN. -/
def Packet.dry (p : Packet) : Bool := p.flags.getLsbD 5

/-- The packet with ROOM as R75 sets it. -/
def Packet.scoped (p : Packet) : Packet :=
  match p.path with
  | .roomRing r => { p with room := r }
  | _ => p

end Sys2Proof

namespace Sys2Proof.Machine

/-- Keep a finished scheduled command for SCHED_QUERY: the last 64 of each submitter, newest first (R95). -/
def State.noteFinished (s : State) (f : Finished) : State :=
  let mine := (f :: s.cmd.finished).filter (fun g => decide (g.room = f.room))
  let others := s.cmd.finished.filter (fun g => decide (g.room ≠ f.room))
  { s with cmd := { s.cmd with finished := mine.take 64 ++ others } }

/-- Report a scheduled command's end: SCHED_DONE with TAG, handle and status, and the finished list (R90, R91, R95). -/
def State.schedDone (s : State) (x : Ctx) (handle : Nat) (st : Status) : State :=
  let room := Path.ringRoom x.pkt.path
  (s.postSubmitter x.pkt.path 4 x.pkt.tag.toNat (handle * 2 ^ 16 + st.code)).noteFinished
    ⟨room, handle, x.pkt.tag, st.code, x.opcode⟩

/-- Reply data of a scheduled command goes to REPLY_PTR before its SCHED_DONE (DEDUCED, log entry 12). -/
def State.schedData (s : State) (x : Ctx) (data : List Byte) : State :=
  let cut := data.take (Packet.replySpace x.pkt)
  if cut = [] ∨ x.pkt.path = .mctp then s else s.hostWrite ⟨Path.ringRoom x.pkt.path, x.pkt.replyPtr, cut, 0, false⟩

/-- A command that acts late is counted in SCHED.LATE (R90): a one-shot command, once. -/
def Sched.counted : Sched → Bool
  | .now => true
  | .oneShot _ passed => !passed
  | .late | .periodic _ _ => false

/-- A command ends (R81, R90, R91): a periodic one never with OK_LATE. -/
def State.finish (s : State) (x : Ctx) (st : Status) (data : List Byte) (more : Bool := false) : State :=
  let lateSt := if st = .ok then .okLate else st
  match x.sched with
  | .now => s.reply x.pkt x.opcode st data more none false
  | .late => s.reply x.pkt x.opcode lateSt data more none false
  | .oneShot h late => (s.schedData x data).schedDone x h (if late then lateSt else st)
  | .periodic h last =>
    let st := if st = .okLate then .ok else st
    if last || !st.good then (s.schedData x data).schedDone x h st else s.schedData x data

/-- What a command's body answers: an end, or acceptance with the reply to follow. -/
inductive Out where
  | done (st : Status) (data : List Byte) (s : State)
  /-- An end whose data the command cut to whole records, with more to fetch. -/
  | part (st : Status) (data : List Byte) (s : State)
  | held (s : State)

/-- The status an answer carries; OK for acceptance. -/
def Out.status : Out → Status
  | .done st _ _ => st
  | .part st _ _ => st
  | .held _ => .ok

/-- End with a status and no data. -/
def Out.of (s : State) (st : Status) : Out := .done st [] s

/-- A running command that does its work elsewhere. -/
def Running.plain (x : Ctx) (long : Bool) (object : Nat) (refs : List Nat) (now : Nat) : Running := ⟨x, long, object, refs, now, 0, [], 0, none⟩

/-- Hold a command: it has been accepted and replies later. `object` is what it holds. -/
def State.hold (s : State) (x : Ctx) (long : Bool) (object : Nat) (refs : List Nat) : State :=
  { s with cmd := { s.cmd with running := s.cmd.running ++ [Running.plain x long object refs s.clock] } }

/-- Hold a long-running command whose work follows once ranges of host memory have been read, or at the next tick when there are none
(R56, R82). -/
def State.holdWork (s : State) (x : Ctx) (object : Nat) (reads : List (Nat × Nat)) : State :=
  { s with cmd := { s.cmd with running := s.cmd.running ++ [⟨x, true, object, [], s.clock, 0, reads, 0, if reads = [] then some .done else none⟩] } }

/-- The running command of an opcode on an object. -/
def State.runningOn (s : State) (opcode object : Nat) : Option Running :=
  s.cmd.running.find? fun r => decide (r.ctx.opcode = opcode) && decide (r.object = object)

/-- Remove a running command. -/
def State.unrun (s : State) (r : Running) : State :=
  { s with cmd := { s.cmd with running := s.cmd.running.filter (fun q => decide (q ≠ r)) } }

/-- A running command ends. -/
def State.endRunning (s : State) (opcode object : Nat) (st : Status) (data : List Byte) : State :=
  match s.runningOn opcode object with
  | some r => (s.unrun r).finish r.ctx st data
  | none => s

/-! ## Rooms in error (R111, R112) -/

/-- Rings of a room, in ring-reference order. -/
def State.roomRings (s : State) (room : Nat) : List Nat :=
  (s.rings.map (fun e => e.1)).filter (fun ref => !refOwner ref && decide (refRoom ref = room) && (s.ring ref).live)

/-- Work items of a room fetched and not yet completed (`ROOM.INFLIGHT`, R107). -/
def State.inflight (s : State) (room : Nat) : Nat :=
  ((s.roomRings room).map fun ref => if refKind ref = 4 then 0 else (s.ring ref).work.length).sum +
    (s.cmd.fetched.filter fun f => decide (f.ref = commandRef room)).length +
    (s.cmd.running.filter fun r => decide (r.ctx.pkt.path = Path.roomRing room) && (match r.ctx.sched with | .now | .late => true | _ => false)).length

/-- A leaf queue of the traffic manager: destination × 65,536 + leaf. -/
def State.leaf (s : State) (n : Nat) : Leaf := Tbl.get (fun _ => Leaf.empty) s.tm.leaves n

/-- Change a leaf queue. -/
def State.setLeaf (s : State) (n : Nat) (l : Leaf) : State :=
  { s with tm := { s.tm with leaves := Tbl.set (fun _ => Leaf.empty) s.tm.leaves n l } }

/-- The leaf of a receive ring: destination 4, its global number (R266). -/
def State.rxLeaf (s : State) (ref : Nat) : Nat := 4 * 65536 + (s.ring ref).globalNo

/-- Drop the packets queued for a room's receive rings, counted in ROOM.NOT_OPEN_DROP (R102, R112). -/
def State.dropRoomPackets (s : State) (room : Nat) : State :=
  (s.roomRings room).foldl (fun s ref =>
    if refKind ref = 1 then
      let l := s.leaf (s.rxLeaf ref)
      let s := s.setLeaf (s.rxLeaf ref) { l with queue := [] }
      s.setRoom room { s.room room with notOpenDrop := min ((s.room room).notOpenDrop + l.queue.length) 0xFFFFFFFF }
    else s) s

/-- A room changes state: ROOM.GENERATION shows the generation it happened in (R107). -/
def State.moveRoom (s : State) (room : Nat) (st : RoomState) : State :=
  s.setRoom room { s.room room with state := st, generation := s.gen.current }

/-- The states in which an error cause acts (R111). -/
def errorActs (st : RoomState) (cause : Nat) : Bool :=
  match st with
  | .furnished => decide (cause = 4 ∨ cause = 5)
  | .opened | .frozen => true
  | _ => false

/-- A room enters the in-error state on a cause (R112), when the cause acts in its state; a save of it ends with
ROOM_ERROR. Causes 0x04 and 0x05 bring the TDI into ERROR; on the others it keeps its state, which R126 leaves open (DESIGN CHOICE, log
entry 85). -/
def State.roomError (s : State) (room cause : Nat) : State :=
  if errorActs (s.room room).state cause then
    let s := s.moveRoom room .inError
    let x := s.room room
    let s := s.setRoom room { x with
      errorCause := cause, errorAt := s.clock, saving := false, tdi := if cause = 4 ∨ cause = 5 then .error else x.tdi }
    let s := s.dropRoomPackets room
    let s := s.ledger 8 5 room (leBytes room 2 ++ leBytes cause 1 ++ pad 13)
    let s := s.postOwnerRing (ownerEventRef 0) 5 room cause
    s.endRunning 0x0107 room .roomError []
  else s

/-- The status of a ROOM_FREEZE or ROOM_THAW that finds the room elsewhere: ROOM_ERROR when an error cause reached the room at the same moment
(R101), else as R100 says. -/
def State.missedState (s : State) (room : Nat) : Status :=
  match (s.room room).state with
  | .resetting => .busy
  | .inError => if (s.room room).errorAt = s.clock then .roomError else .notPermitted
  | _ => .notPermitted

/-- Count a work item of a room that failed with DMA_TIMEOUT or DMA_ABORTED, and let the policy act (R111). -/
def State.roomDmaFail (s : State) (room : Nat) (timeout : Bool) : State :=
  let x := s.room room
  let s := s.setRoom room (if timeout then { x with dmaTimeout := min (x.dmaTimeout + 1) 0xFFFFFFFF }
    else { x with dmaAbort := min (x.dmaAbort + 1) 0xFFFFFFFF })
  if timeout then (if x.errTimeout then s.roomError room 1 else s)
  else if x.errAbort then s.roomError room 2 else s

end Sys2Proof.Machine
end

