-- ==== Sys2Proof/Machine/Commands.lean ====
section
/-!
DEFINITION. The frame every Ehrenan command runs in: paths, checks, the pending store and dry runs
(R74, R75, R79, R80, R84, R88 to R91, R96, R599).
-/

namespace Sys2Proof.Machine

/-- A command of the opcode table (R85). `shape` gives the needed length and the limit of its parameter block, none for
a block whose own counts are out of range; `zero` says that its reserved fields are zero (R599). -/
structure Command where
  opcode   : Nat
  front    : Bool
  room     : Bool
  mctp     : Bool
  recovery : Bool
  sched    : Bool
  shape    : List Byte → Option (Nat × Nat)
  zero     : List Byte → Bool
  body     : Ctx → State → Out
  /-- The work of a long-running command that `body` has accepted and held, done once what it reads is there (R82). -/
  after    : Option (Ctx → State → Out) := none

/-- A parameter block of one fixed length. -/
def fixedShape (n : Nat) : List Byte → Option (Nat × Nat) := fun _ => some (n, n)

/-- A parameter block of a fixed part and counted records: its count at `off`, `w` bytes wide, from `lo` to `hi`. -/
def recShape (fixed size off w lo hi : Nat) : List Byte → Option (Nat × Nat) := fun bs =>
  let n := fld bs off w
  if bs.length < fixed then some (fixed, fixed + size * hi)
  else if n < lo ∨ hi < n then none
  else some (fixed + size * n, fixed + size * hi)

/-- Record `i` of a block of records. -/
def record (bs : List Byte) (fixed size i : Nat) : List Byte := (bs.drop (fixed + size * i)).take size

/-- The records of a block. -/
def recordsOf (bs : List Byte) (fixed size n : Nat) : List (List Byte) := (List.range n).map (record bs fixed size)

/-- Every reserved range (offset, length) of the block is zero. -/
def zeroAt (rs : List (Nat × Nat)) (bs : List Byte) : Bool := rs.all fun r => zeros bs r.1 r.2

/-- Every reserved range of every record is zero. -/
def zeroRecs (fixed size : Nat) (n : List Byte → Nat) (rs : List (Nat × Nat)) (bs : List Byte) : Bool :=
  (recordsOf bs fixed size (n bs)).all (zeroAt rs)

/-- The command may come by this path (R74); only the recovery subset runs while RECOVERY_ONLY is 1 (R96). -/
def Command.permits (c : Command) (s : State) (path : Path) : Bool :=
  (!s.sr.recovery || c.recovery) &&
    match path with
    | .frontDoor => c.front
    | .roomRing _ => c.room
    | .mctp => c.mctp
    | .mailbox => c.recovery && s.sr.recovery

/-- The parameter block meets the needed length, the limit and the zero rule of R599. -/
def Command.paramsOk (c : Command) (bs : List Byte) : Bool :=
  match c.shape bs with
  | none => false
  | some (need, limit) =>
    decide (need ≤ bs.length) && decide (bs.length ≤ limit) && zeros bs need (bs.length - need) && c.zero bs

/-- The ROOM field is in range, and a command that acts on one room names one (R79). -/
def roomFieldOk (opcode room : Nat) : Bool :=
  (decide (room < 1024) || decide (room = 0xFFFF)) &&
    !(decide (opcode / 256 = 1) && decide (opcode ≠ 0x0100) && decide (room = 0xFFFF))

/-- Checks made before a command's own: path, frozen room, flags, ROOM, the parameter read, its length and reserved
fields. Their order among themselves is the model's (DEDUCED, log entry 13). R75 lets only ROOM_QUERY through in a frozen room, while R99 and
R151 accept ROOM_DOZE there: the model follows those two (DEDUCED, log entry 85). -/
def Command.refuses (c : Command) (s : State) (p : Packet) : Option Status :=
  if !c.permits s p.path then some .notPermitted
  else if (match p.path with | .roomRing r => decide ((s.room r).state = RoomState.frozen) && decide (c.opcode ≠ 0x0100 ∧ c.opcode ≠ 0x010A) | _ => false) then
    some .roomFrozen
  else if bits p.flags.toNat 14 6 ≠ 0 then some .invalidParam
  else if !roomFieldOk c.opcode p.room then some .invalidParam
  else match p.paramDma with
    | .timedOut => some .dmaTimeout
    | .aborted => some .dmaAborted
    | .short => some .invalidParam
    | .done =>
      if !c.paramsOk p.params then some .invalidParam
      else if p.atTimeFlag && (!c.sched || !p.atTime.valid || decide (p.params.length > 1024)) then some .invalidParam
      else if p.periodic && (!p.atTimeFlag || decide (p.rep.toNat / 2 ^ 16 = 0)) then some .invalidParam
      else none

/-- The status that a command would end with (R84): of a long-running command that its body accepts, that of its work. -/
def Command.dryStatus (c : Command) (x : Ctx) (s : State) : Status :=
  match c.body x s, c.after with
  | .held t, some f => (f x t).status
  | o, _ => o.status

/-- Run a command's body and end it as its context says; a dry run keeps nothing but its reply (R84). -/
def Command.run (c : Command) (x : Ctx) (s : State) : State :=
  if x.pkt.dry then s.reply x.pkt x.opcode (c.dryStatus x s) [] false none true
  else match c.body x s with
    | .done st data s' => s'.finish x st data
    | .part st data s' => s'.finish x st data true
    | .held s' => s'

/-- The next schedule handle: ascending, skipping 0 and every handle still stored (R95). -/
def nextHandle (used : List Nat) (h : Nat) : Nat → Nat
  | 0 => h
  | fuel + 1 => if h = 0 ∨ used.contains h then nextHandle used ((h + 1) % 2 ^ 32) fuel else h

/-- Put a command into the pending store (R89 to R91), which holds 4,096. A dry command answers what acceptance and its
own checks would give (R84). -/
def Command.keep (c : Command) (x : Ctx) (s : State) : State :=
  let full := decide (s.cmd.stored.length ≥ 4096)
  if x.pkt.dry then
    let st := c.dryStatus x s
    s.reply x.pkt x.opcode (if full then .busy else if st.good then .ok else st) [] false none true
  else if full then (s.bump R.SCHED_FULL).reply x.pkt x.opcode .busy [] false none false
  else
    let h := nextHandle (s.cmd.stored.map Stored.handle) s.cmd.nextHandle 4097
    let e : Stored := ⟨h, x.opcode, x.pkt, if x.pkt.periodic then x.pkt.rep.toNat % 2 ^ 16 else 1, false, 0, s.clock⟩
    let s := { s with cmd := { s.cmd with stored := s.cmd.stored ++ [e], nextHandle := (h + 1) % 2 ^ 32 } }
    s.reply x.pkt x.opcode .ok [] false (some h) false

/-- A one-shot command whose time has passed (R90). -/
def Command.late (c : Command) (x : Ctx) (s : State) : State :=
  if x.pkt.strict then
    (if x.pkt.dry then s else s.bump R.SCHED_PASSED).reply x.pkt x.opcode .timePassed [] false none x.pkt.dry
  else if x.pkt.dry then
    let st := c.dryStatus { x with sched := .late } s
    s.reply x.pkt x.opcode (if st = .ok then .okLate else st) [] false none true
  else c.run { x with sched := .late } (s.bump R.SCHED_LATE)

/-- Submit a packet: refuse it, store it, or run it (R75, R89 to R91). -/
def Command.submit (c : Command) (p0 : Packet) (s : State) : State :=
  let p := p0.scoped
  let x : Ctx := ⟨c.opcode, p, .now⟩
  match c.refuses s p with
  | some st =>
    let s := s.reply p c.opcode st [] false none p.dry
    match p.path, st with
    | .roomRing r, .dmaTimeout => if p.dry then s else s.roomDmaFail r true
    | .roomRing r, .dmaAborted => if p.dry then s else s.roomDmaFail r false
    | _, _ => s
  | none =>
    if !p.atTimeFlag then c.run x s
    else if p.periodic || decide (p.atTime.units > s.now.units) then c.keep x s
    else c.late x s

end Sys2Proof.Machine
end

