-- ==== Sys2Proof/Machine/SettingsOps.lean ====
section
/-!
DEFINITION. The staging store and the settings of a generation (R20, R21, R87).
-/

namespace Sys2Proof.Machine

/-- The block of a setting in a list of changes. -/
def changeOf (cs : List (Nat × List Byte)) (k : Nat) : Option (List Byte) :=
  (cs.find? fun c => decide (c.1 = k)).map fun c => c.2

/-- Put a change at the end of the list, replacing an earlier one of the same object. -/
def putChange (cs : List (Nat × List Byte)) (k : Nat) (b : List Byte) : List (Nat × List Byte) :=
  cs.filter (fun c => decide (c.1 ≠ k)) ++ [(k, b)]

/-- The staged change of an object. -/
def State.stagedAt (s : State) (op sel : Nat) : Option (List Byte) := changeOf s.gen.staged (keyOf op sel)

/-- Stage a change (R21). -/
def State.stage (s : State) (op sel : Nat) (b : List Byte) : State :=
  { s with gen := { s.gen with staged := putChange s.gen.staged (keyOf op sel) b } }

/-- Take a change out of the staging store. -/
def State.unstage (s : State) (op sel : Nat) : State :=
  { s with gen := { s.gen with staged := s.gen.staged.filter (fun c => decide (c.1 ≠ keyOf op sel)) } }

/-- Set a block in settings. -/
def Settings.set (t : Settings) (k : Nat) (b : List Byte) : Settings := Tbl.set (fun _ => []) t k b

/-- Setting of the generation in force; empty when it has its default. -/
def State.cfg (s : State) (op sel : Nat) : List Byte := s.gen.cur.block op sel

/-- Settings of a generation number: a packet's stamp chooses between the live ones (R23). -/
def State.cfgOf (s : State) (stamp : Nat) : Settings :=
  if stamp = s.gen.current then s.gen.cur
  else if s.gen.prevLive ∧ stamp = s.gen.previous then s.gen.prev
  else s.gen.cur

/-- A stamp belongs to a live generation (R30). -/
def State.stampLive (s : State) (stamp : Nat) : Bool :=
  decide (stamp = s.gen.current) || (s.gen.prevLive && decide (stamp = s.gen.previous))

/-- Setting in the generation that the next commit would build. -/
def State.built (s : State) (op sel : Nat) : List Byte := (s.stagedAt op sel).getD (s.cfg op sel)

/-- The profile whose limits apply to a command now: the locked one, else the staged one, else Compact (R36, R104). -/
def State.profileNow (s : State) : Nat :=
  if s.gen.locked then s.gen.profile else match s.stagedAt 0x0006 0 with
    | some b => fld b 0 1
    | none => 1

/-- Stage one block per record of a command that carries COUNT records: header `hd` with COUNT 1, then the record. -/
def State.stageRecs (s : State) (op : Nat) (hd : List Byte) (sel : List Byte → Nat) (rs : List (List Byte)) : State :=
  rs.foldl (fun s r => s.stage op (sel r) (hd ++ r)) s

/-- COUNT 1 in `w` bytes, padded to `n`. -/
def countOne (w n : Nat) : List Byte := leBytes 1 w ++ pad (n - w)

/-! ## Registers of a generation (R7, R21) -/

/-! ## Interrupt release (R110, R149, R151) -/

/-- Send every pending message of a room that no hold stops. -/
def State.releaseMsgs (s : State) (room : Nat) : State :=
  (List.range 16).foldl (fun s i =>
    if (s.msg (room * 16 + i)).pending && !s.msgHeld room (room * 16 + i) then s.dueMsg room i 0 else s) s

/-- Send every pending MSI-X message that no hold stops. -/
def State.releaseVecs (s : State) : State :=
  (s.link.msix.map (fun e => e.1)).foldl (fun s v => if (s.vec v).pending && !s.vecHeld v then s.dueVec v else s) s

/-- Rooms with pending messages. -/
def State.pendingRooms (s : State) : List Nat :=
  ((s.msgs.filter fun e => e.2.pending).map fun e => e.1 / 16).eraseDups

/-- Timers of rings with completions that no firing has covered start again once their held messages are sent (R149;
DESIGN CHOICE, log entry 86). -/
def State.restartTimers (s : State) : State :=
  { s with rings := s.rings.map fun e =>
      if e.2.sinceFire ≠ 0 ∧ e.2.firstSince = none ∧ !s.ringHeld e.1 then (e.1, { e.2 with firstSince := some s.clock }) else e }

/-- Send every held message that no hold keeps any longer (R149). -/
def State.releaseAll (s : State) : State := (s.pendingRooms.foldl State.releaseMsgs s.releaseVecs).restartTimers

end Sys2Proof.Machine
end

