-- ==== Sys2Proof/Machine/Parser.lean ====
section
/-!
DEFINITION. The packet parser: headers, limits, length checks, fragments, checksums, key fields and the parse result
(R194 to R205).
-/

namespace Sys2Proof.Machine

/-- One tunnel level of a parsed packet (R196). Kinds of tunnel as in PKT_TYPE; L3 codes 0 to 5 and L4 codes 0 to 6 (R201). -/
structure Level where
  /-- Tunnel kind that began the level, 0 for the outer headers, and where its header starts. -/
  tunnel : Nat
  tunOff : Nat
  l2     : Option Nat
  /-- Tags: TPID and TCI. -/
  tags   : List (Nat × Nat)
  etype  : Option Nat
  l3     : Nat
  l3off  : Nat
  /-- End of the L3 payload after trimming. -/
  l3end  : Nat
  proto  : Option Nat
  frag   : Option Nat
  l4     : Nat
  /-- Start of a completely parsed L4 header. -/
  l4off  : Option Nat
  l4len  : Nat
  spi    : Option Nat
  deriving DecidableEq, Repr

/-- A level with nothing parsed in it. -/
def Level.start (tunnel off : Nat) : Level := ⟨tunnel, off, none, [], none, 0, 0, 0, none, none, 0, none, 0, none⟩

/-- A parsed packet: its levels, outermost first, the marks of R196 and R198, and the end of the bytes that are no padding. -/
structure Parsed where
  done  : List Level
  cur   : Level
  count : Nat
  deep  : Bool
  bad   : Bool
  stop  : Nat
  /-- Whether the template parser may stop here: the last header was complete. -/
  off   : Nat
  deriving DecidableEq, Repr

/-- All levels, outermost first. -/
def Parsed.levels (p : Parsed) : List Level := p.done ++ [p.cur]

/-- Ports and tag type that the settings add. -/
structure ParseCfg where
  tpid   : Nat
  vxlan  : Nat
  geneve : Nat
  deriving DecidableEq, Repr

/-- What the parser meets next. -/
inductive Hdr where
  | eth
  | etype (t : Nat)
  | proto (n : Nat) (v6 : Bool)
  | udp (port : Nat)
  | ip (v6 : Bool)
  deriving DecidableEq, Repr

/-- Step over a parsed header. -/
def Parsed.over (p : Parsed) (n : Nat) : Parsed := { p with off := p.off + n, count := p.count + 1 }

/-- Change the level being parsed. -/
def Parsed.lvl (p : Parsed) (f : Level → Level) : Parsed := { p with cur := f p.cur }

/-- A header of `n` bytes at the parse position would be the thirteenth, or would end beyond byte 384 (R196). -/
def Parsed.past (p : Parsed) (n : Nat) : Bool := decide (p.count ≥ 12) || decide (384 < p.off + n)

/-- Stop in front of a header with the marks of R196 and R198; a packet can carry both (R199). -/
def Parsed.stopAt (p : Parsed) (deep bad : Bool) : Parsed × Option Hdr := ({ p with deep := deep, bad := bad }, none)

/-- Mark LEN_CONFLICT at a header of at least `n` bytes, and stop. -/
def Parsed.conflict (p : Parsed) (n : Nat) : Parsed × Option Hdr := p.stopAt (p.past n) true

/-- Parse a header of `n` bytes, or stop in front of it where it passes the end of what encloses it or a depth limit. -/
def Parsed.take (p : Parsed) (n : Nat) (k : Parsed → Parsed × Option Hdr) : Parsed × Option Hdr :=
  let cut := decide (p.stop < p.off + n)
  if cut || p.past n then p.stopAt (p.past n) cut else k (p.over n)

/-- Begin the next tunnel level (R196). -/
def Parsed.nextLevel (p : Parsed) (tunnel off : Nat) : Parsed := { p with done := p.done ++ [p.cur], cur := Level.start tunnel off }

/-- The header that begins a tunnel level has been parsed with result `r`, or is stopped at. In front of a third tunnel level the parser
stops with PARSE_DEEP, and with LEN_CONFLICT where that header conflicts too (R196, R199). -/
def Parsed.begins (p : Parsed) (r : Parsed × Option Hdr) : Parsed × Option Hdr :=
  if p.done.length ≥ 2 then p.stopAt true (r.1.bad && decide (r.1.count = p.count))
  else if r.1.count = p.count then p.stopAt r.1.deep r.1.bad
  else r

/-- The L4 code of a protocol (R201). -/
def l4Code (n : Nat) : Nat :=
  match n with
  | 6 => 1 | 17 => 2 | 1 => 3 | 58 => 4 | 50 => 5 | _ => 6

/-- Ethernet header and the tags behind it (R194, R195). -/
def parseTags (c : ParseCfg) (bs : List Byte) : Nat → Parsed → Parsed × Option Hdr
  | 0, p => (p, none)
  | n + 1, p =>
    let t := bfld bs (p.off - 2) 2
    if t = 0x8100 ∨ t = 0x88A8 ∨ (c.tpid ≠ 0 ∧ t = c.tpid) then
      if p.cur.tags.length ≥ 2 then (p.lvl fun l => { l with etype := some t }).stopAt true false
      else p.take 4 fun q => parseTags c bs n (q.lvl fun l => { l with tags := l.tags ++ [(t, bfld bs p.off 2)] })
    else (p.lvl fun l => { l with etype := some t }, some (.etype t))

/-- IPv4 header (R194, R198, R203). -/
def parseIp4 (bs : List Byte) (p : Parsed) : Parsed × Option Hdr :=
  let room := p.stop - p.off
  let b0 := bfld bs p.off 1
  let hl := b0 % 16 * 4
  let total := bfld bs (p.off + 2) 2
  if room < 20 ∨ hl < 20 ∨ total > room ∨ total < hl then p.conflict (max hl 20)
  else p.take hl fun q =>
    let n := bfld bs (p.off + 9) 1
    let f := bfld bs (p.off + 6) 2
    let more := bit f 13
    let fo := f % 2 ^ 13
    let q := { q with stop := p.off + total }.lvl fun l => { l with l3 := 1, l3off := p.off, l3end := p.off + total, proto := some n }
    if more ∨ fo ≠ 0 then
      (q.lvl fun l => { l with frag := some (b01 (decide (fo = 0)) * 2 ^ 15 + b01 more * 2 ^ 14 + fo), l4 := l4Code n }, none)
    else (q, some (.proto n false))

/-- IPv6 fixed header. -/
def parseIp6 (bs : List Byte) (p : Parsed) : Parsed × Option Hdr :=
  let plen := bfld bs (p.off + 4) 2
  if p.stop - p.off < 40 ∨ plen > p.stop - p.off - 40 then p.conflict 40
  else p.take 40 fun q =>
    let n := bfld bs (p.off + 6) 1
    ({ q with stop := p.off + 40 + plen }.lvl fun l => { l with l3 := 2, l3off := p.off, l3end := p.off + 40 + plen, proto := some n },
      some (.proto n true))

/-- GRE and NVGRE (R194): the level begins at the header. -/
def parseGre (bs : List Byte) (p : Parsed) : Parsed × Option Hdr :=
  let p := p.lvl fun l => { l with l4 := 6 }
  let f := bfld bs p.off 2
  let c := bit f 15
  let k := bit f 13
  let q := bit f 12
  let t := bfld bs (p.off + 2) 2
  if p.off + 2 ≤ p.stop ∧ f % 8 ≠ 0 then (p, none)
  else p.begins (p.take (if p.off + 4 ≤ p.stop then 4 + 4 * (b01 c + b01 k + b01 q) else 4) fun r =>
    (r.nextLevel (if k && !c && !q && decide (t = 0x6558) then 4 else 3) p.off,
      if t = 0x6558 then some .eth else if t = 0x0800 then some (.ip false) else if t = 0x86DD then some (.ip true) else none))

/-- What follows an IP header or extension header (R194). -/
def parseProto (bs : List Byte) (n : Nat) (v6 : Bool) (p : Parsed) : Parsed × Option Hdr :=
  let p := if v6 then p.lvl fun l => { l with proto := some n } else p
  let other := p.lvl fun l => { l with l4 := 6 }
  match n with
  | 1 | 58 => p.take 8 fun q => (q.lvl fun l => { l with l4 := l4Code n, l4off := some p.off, l4len := 8 }, none)
  | 6 =>
    let hl := bfld bs (p.off + 12) 1 / 16 * 4
    if p.off + 20 > p.stop ∨ hl < 20 then p.conflict 20
    else p.take hl fun q => (q.lvl fun l => { l with l4 := 1, l4off := some p.off, l4len := hl }, none)
  | 17 =>
    let ul := bfld bs (p.off + 4) 2
    if p.off + 8 > p.stop ∨ ul < 8 ∨ p.off + ul > p.stop then p.conflict 8
    else p.take 8 fun q =>
      ({ q with stop := p.off + ul }.lvl fun l => { l with l4 := 2, l4off := some p.off, l4len := 8 }, some (.udp (bfld bs (p.off + 2) 2)))
  | 50 => p.take 8 fun q =>
      (q.lvl fun l => { l with l4 := 5, l4off := some p.off, l4len := 8, spi := some (bfld bs p.off 4) }, none)
  | 51 =>
    if p.off + 2 > p.stop then p.conflict 8
    else p.take ((bfld bs (p.off + 1) 1 + 2) * 4) fun q =>
      (q.lvl fun l => { l with spi := some (bfld bs (p.off + 4) 4) }, some (.proto (bfld bs p.off 1) v6))
  | 47 => parseGre bs p
  | 4 => other.begins (parseIp4 bs (other.nextLevel 5 p.off))
  | 41 => other.begins (parseIp6 bs (other.nextLevel 5 p.off))
  | 0 | 43 | 60 =>
    if !v6 then (other, none)
    else if p.off + 2 > p.stop then p.conflict 8
    else p.take ((bfld bs (p.off + 1) 1 + 1) * 8) fun q => (q, some (.proto (bfld bs p.off 1) true))
  | 44 =>
    if !v6 then (other, none)
    else p.take 8 fun q =>
      let f := bfld bs (p.off + 2) 2
      let n := bfld bs p.off 1
      (q.lvl fun l => { l with proto := some n, l4 := l4Code n,
                               frag := some (b01 (decide (f / 8 = 0)) * 2 ^ 15 + b01 (bit f 0) * 2 ^ 14 + f / 8) }, none)
  | _ => (other, none)

/-- Behind a UDP header (R194, R198). -/
def parseUdp (c : ParseCfg) (bs : List Byte) (port : Nat) (p : Parsed) : Parsed × Option Hdr :=
  let missing := decide (p.stop ≤ p.off)
  let b0 := bfld bs p.off 1
  if port = 4789 ∨ (c.vxlan ≠ 0 ∧ port = c.vxlan) then
    if !missing && !bit b0 3 then (p, none)
    else p.begins (p.take 8 fun q => (q.nextLevel 1 p.off, some .eth))
  else if port = 6081 ∨ (c.geneve ≠ 0 ∧ port = c.geneve) then
    if !missing && decide (b0 / 64 ≠ 0) then (p, none)
    else p.begins (p.take (8 + if missing then 0 else b0 % 64 * 4) fun q =>
      let t := bfld bs (p.off + 2) 2
      (q.nextLevel 2 p.off,
        if t = 0x6558 then some .eth else if t = 0x0800 then some (.ip false) else if t = 0x86DD then some (.ip true) else none))
  else (p, none)

/-- Behind an EtherType (R194). -/
def parseEtype (bs : List Byte) (t : Nat) (p : Parsed) : Parsed × Option Hdr :=
  let version := bfld bs p.off 1 / 16
  let l3 (n code : Nat) : Parsed × Option Hdr := p.take n fun q => (q.lvl fun l => { l with l3 := code, l3off := p.off, l3end := p.stop }, none)
  match t with
  | 0x0800 => if p.off ≥ p.stop then p.conflict 20 else if version = 4 then parseIp4 bs p else (p, none)
  | 0x86DD => if p.off ≥ p.stop then p.conflict 40 else if version = 6 then parseIp6 bs p else (p, none)
  | 0x0806 => l3 28 3
  | 0x88E5 => if p.off ≥ p.stop then p.conflict 8 else l3 (if bit (bfld bs p.off 1) 5 then 16 else 8) 4
  | 0x88F7 => l3 34 5
  | _ => (p, none)

/-- One parser step. -/
def parseOne (c : ParseCfg) (bs : List Byte) (h : Hdr) (p : Parsed) : Parsed × Option Hdr :=
  match h with
  | .eth => p.take 14 fun q => parseTags c bs 4 (q.lvl fun l => { l with l2 := some p.off })
  | .etype t => parseEtype bs t p
  | .proto n v6 => parseProto bs n v6 p
  | .udp port => parseUdp c bs port p
  | .ip false => parseIp4 bs p
  | .ip true => parseIp6 bs p

/-- Follow headers until the parser stops. -/
def parseLoop (c : ParseCfg) (bs : List Byte) : Nat → Parsed × Option Hdr → Parsed
  | n + 1, (p, some h) => parseLoop c bs n (parseOne c bs h p)
  | _, (p, _) => p

/-- Parse a packet from its Ethernet header. At most 12 headers need at most 30 steps. -/
def parse (c : ParseCfg) (bs : List Byte) : Parsed :=
  parseLoop c bs 40 (⟨[], Level.start 0 0, 0, false, false, bs.length, 0⟩, some .eth)

/-! ## Parse result and checksums (R200, R201) -/

/-- A level's selector (R205): 3 is the innermost parsed. -/
def Parsed.at (p : Parsed) (n : Nat) : Option Level := if n = 3 then some p.cur else p.levels[n]?

/-- A level holds a fragment. -/
def Parsed.frag (p : Parsed) : Bool := p.levels.any fun l => l.frag.isSome

/-- PKT_TYPE (R201). -/
def Parsed.pktType (p : Parsed) : Nat :=
  p.done.length * 2 ^ 14 + p.cur.tunnel * 2 ^ 11 + p.cur.l3 * 2 ^ 8 + p.cur.l4 * 2 ^ 5 + b01 p.frag * 16 + b01 p.deep * 8 +
    b01 p.bad * 4 + (match p.levels with | l :: _ => l.tags.length | [] => 0)

/-- Sum of 16-bit big-endian words. -/
def sum16 : List Byte → Nat
  | a :: b :: r => a.toNat * 256 + b.toNat + sum16 r
  | [a] => a.toNat * 256
  | [] => 0

/-- Fold a sum into 16 bits with end-around carry. -/
def fold16 (n : Nat) : Nat :=
  let a := n % 65536 + n / 65536
  let b := a % 65536 + a / 65536
  b % 65536 + b / 65536

/-- The Internet checksum of bytes. -/
def inetSum (bs : List Byte) (start : Nat) : Nat := 65535 - fold16 (sum16 bs + start)

/-- Sum of the pseudo-header of a level's L3 header. -/
def pseudo (bs : List Byte) (l : Level) (proto len : Nat) : Nat :=
  (if l.l3 = 1 then sum16 (slice bs (l.l3off + 12) (l.l3off + 20)) else sum16 (slice bs (l.l3off + 8) (l.l3off + 40))) + proto + len

/-- Failed IPv4 header checksums, and whether any was checked (R200). -/
def Parsed.l3Checks (p : Parsed) (bs : List Byte) : Nat × Nat :=
  let v4 := p.levels.filter fun l => decide (l.l3 = 1)
  let bad := v4.filter fun l => decide (inetSum (slice bs l.l3off (l.l3off + bfld bs l.l3off 1 % 16 * 4)) 0 ≠ 0)
  (v4.length, bad.length)

/-- The L4 check (R200), where the innermost L4 header is TCP or UDP: none when no check applies. -/
def Parsed.l4Check (p : Parsed) (bs : List Byte) : Option Bool :=
  if p.frag then none
  else (p.levels.reverse.find? fun l => l.l4off.isSome).bind fun l =>
    let o := l.l4off.getD 0
    match l.l4 with
    | 2 =>
      let n := bfld bs (o + 4) 2
      if l.l3 = 1 ∧ bfld bs (o + 6) 2 = 0 then some true
      else some (bfld bs (o + 6) 2 ≠ 0 && decide (inetSum (slice bs o (o + n)) (pseudo bs l 17 n) = 0))
    | 1 => some (decide (inetSum (slice bs o l.l3end) (pseudo bs l 6 (l.l3end - o)) = 0))
    | _ => none

/-! ## Key fields (R205) -/

/-- What a key field may read besides the bytes. -/
structure KeyCtx where
  source  : Nat
  txMeta  : Nat
  recirc  : Nat
  pktType : Nat
  deriving DecidableEq, Repr

/-- Bytes of a field in a key; none for an identifier outside the catalogue. -/
def fieldSize (id : Nat) : Option Nat :=
  match id with
  | 0x01 | 0x04 | 0x12 | 0x13 | 0x14 | 0x28 | 0x30 | 0x31 | 0x33 => some 2
  | 0x02 | 0x03 | 0x20 | 0x21 | 0x34 | 0x41 => some 4
  | 0x10 | 0x11 => some 6
  | 0x22 | 0x23 => some 16
  | 0x24 | 0x25 | 0x26 | 0x32 => some 1
  | 0x27 | 0x40 | 0x42 => some 3
  | _ => none

/-- Levels a field admits (R205); a field without levels takes 0 (DEDUCED, log entry 22). -/
def fieldLevelOk (id level : Nat) : Bool :=
  if id < 0x10 then decide (level = 0) else if id ≥ 0x40 then decide (1 ≤ level ∧ level ≤ 3) else decide (level ≤ 3)

/-- A field of a level's headers. -/
def Level.field (l : Level) (bs : List Byte) (id : Nat) : Option (List Byte) :=
  let v4 := decide (l.l3 = 1)
  let v6 := decide (l.l3 = 2)
  let take (o n : Nat) : Option (List Byte) := some (slice bs o (o + n))
  let l4 (ok : Bool) (o n : Nat) : Option (List Byte) := match l.l4off with
    | some b => if ok then take (b + o) n else none
    | none => none
  let ports := decide (l.l4 = 1 ∨ l.l4 = 2)
  match id with
  | 0x10 => l.l2.bind fun o => take o 6
  | 0x11 => l.l2.bind fun o => take (o + 6) 6
  | 0x12 => l.etype.map fun t => beBytes t 2
  | 0x13 => l.tags[0]?.map fun t => beBytes t.2 2
  | 0x14 => l.tags[1]?.map fun t => beBytes t.2 2
  | 0x20 => if v4 then take (l.l3off + 12) 4 else none
  | 0x21 => if v4 then take (l.l3off + 16) 4 else none
  | 0x22 => if v6 then take (l.l3off + 8) 16 else none
  | 0x23 => if v6 then take (l.l3off + 24) 16 else none
  | 0x24 => if v4 || v6 then l.proto.map fun n => beBytes n 1 else none
  | 0x25 => if v4 then take (l.l3off + 1) 1 else if v6 then some (beBytes (bfld bs l.l3off 2 / 16 % 256) 1) else none
  | 0x26 => if v4 then take (l.l3off + 8) 1 else if v6 then take (l.l3off + 7) 1 else none
  | 0x27 => if v6 then some (beBytes (bfld bs l.l3off 4 % 2 ^ 20) 3) else none
  | 0x28 => l.frag.map fun f => beBytes f 2
  | 0x30 => l4 ports 0 2
  | 0x31 => l4 ports 2 2
  | 0x32 => l4 (decide (l.l4 = 1)) 13 1
  | 0x33 => l4 (decide (l.l4 = 3 ∨ l.l4 = 4)) 0 2
  | 0x34 => l.spi.map fun n => beBytes n 4
  | 0x40 => if l.tunnel = 1 ∨ l.tunnel = 2 ∨ l.tunnel = 4 then take (l.tunOff + 4) 3 else none
  | 0x41 => if (l.tunnel = 3 ∨ l.tunnel = 4) ∧ bit (bfld bs l.tunOff 1) 5 then
      take (l.tunOff + 4 + 4 * b01 (bit (bfld bs l.tunOff 1) 7)) 4 else none
  | 0x42 => if l.tunnel = 2 ∧ bfld bs l.tunOff 1 % 64 ≠ 0 then take (l.tunOff + 8) 3 else none
  | _ => none

/-- A key field of a packet; none when it is absent (R205). -/
def Parsed.field (p : Parsed) (c : KeyCtx) (bs : List Byte) (id level : Nat) : Option (List Byte) :=
  match id with
  | 0x01 => some (beBytes c.source 2)
  | 0x02 => some (beBytes c.txMeta 4)
  | 0x03 => some (beBytes c.recirc 4)
  | 0x04 => some (beBytes c.pktType 2)
  | _ => (p.at level).bind fun l => l.field bs id

end Sys2Proof.Machine
end

