-- ==== Sys2Proof/Machine/RingOps.lean ====
section
/-!
DEFINITION. What the ring engine does with rings: doorbells, fetching, skipping, disabling (R131 to R136, R155, R156).
-/

namespace Sys2Proof.Machine

/-- Entries from `a` to `b` around the ring. -/
def Ring.dist (r : Ring) (a b : Nat) : Nat := (b + r.size - a) % r.size

/-- Entries posted and not yet fetched. -/
def Ring.posted (r : Ring) : Nat := r.dist r.next r.tail

/-- Advance the fetch position by one entry (R131). -/
def Ring.fetched1 (r : Ring) : Ring :=
  let r := { r with enableTail := if r.enableTail = some ((r.next + 1) % r.size) then none else r.enableTail }
  if r.next + 1 ≥ r.size then { r with next := 0, nextPass := !r.nextPass } else { r with next := r.next + 1 }

/-- Position of an index with its pass parity, counted over two passes. -/
def Ring.spot (r : Ring) (pass : Bool) (i : Nat) : Nat := if pass then i else r.size + i

/-- Positions from one spot to another, over two passes. -/
def Ring.spotDist (r : Ring) (a b : Nat) : Nat := (b + 2 * r.size - a) % (2 * r.size)

/-- A doorbell value the ring engine accepts (R136): reserved bits zero, TAIL in range, not backward, and for an event
ring not beyond what was written. -/
def Ring.accepts (r : Ring) (kind v : Nat) : Bool :=
  let tail := v % 2 ^ 16
  decide (bits v 62 17 = 0) && decide (tail < r.size) &&
    (if kind = 3 then
      let cons := r.spot r.consPass r.consHead
      decide (r.spotDist cons (r.spot (bit v 16) tail) ≤ r.spotDist cons (r.spot r.pass r.head))
    else !bit v 63 && !bit v 16 && decide (r.dist r.head r.tail ≤ r.dist r.head tail))

/-- Act on an accepted doorbell; for an event ring the consumer head moves and ACK_OVERFLOW ends an overflow (R153). -/
def State.ringTail (s : State) (ref v : Nat) : State :=
  let r := s.ring ref
  if refKind ref = 3 then
    let s := s.setRing ref { r with consHead := v % 2 ^ 16, consPass := bit v 16 }
    if bit v 63 ∧ r.overflow then
      (s.setRing ref { s.ring ref with overflow := false, dropped := 0 }).writeMirror ref 0
    else s
  else s.setRing ref { r with tail := v % 2 ^ 16 }

/-- A doorbell to a ring (R136): ignored and counted, recorded for a disabled ring, held while Bus Master Enable is clear
(R63), or acted on. -/
def State.doorbell (s : State) (ref v : Nat) : State :=
  let r := s.ring ref
  if !r.live then s.bump R.RINGENG_DOORBELL_BAD
  else if !r.enabled then
    if v % 2 ^ 16 < r.size ∧ bits v 62 17 = 0 then s.setRing ref { r with recorded := some v }
    else s.bump R.RINGENG_DOORBELL_BAD
  else if !r.accepts (refKind ref) v then s.bump R.RINGENG_DOORBELL_BAD
  else s.ringTail ref v

/-- The ring engine fetches: its island is powered, and no entry to Nap or deeper is under way (R17, R553). -/
def State.fetches (s : State) : Bool := decide (s.power.ladder < 3) && s.power.entering.isNone

/-- The ring engine may fetch from the ring now: the ring is enabled, DMA is open, and the room's state and TDI let it
(R17, R61, R75, R98, R126, R150, R553). -/
def State.serves (s : State) (ref : Nat) : Bool :=
  s.fetches && (s.ring ref).live && (s.ring ref).enabled && s.dmaOpen &&
    (refOwner ref ||
      let x := s.room (refRoom ref)
      decide (x.tdi ≠ .locked) &&
        match x.state with
        | .opened => true
        | .furnished | .frozen => decide (refKind ref = 4)
        | _ => false)

/-- The 64 bytes at the fetch position. -/
def State.peek (s : State) (ref : Nat) : List Byte :=
  s.hostRead (refSpace ref) ((s.ring ref).base + 64 * (s.ring ref).next) 64

/-- The read of the entry at the fetch position may leave (R50, R53, R66, R105): no earlier write waits, a tag is free, the room's limit allows it and
its page is translated. The model ends the read within the row that needs it (DESIGN CHOICE, log entry 80). -/
def State.entryReady (s : State) (ref : Nat) : Bool :=
  decide (s.link.heldWrites = []) && s.tagFree && s.roomMayRead (refSpace ref) &&
    decide (s.lacking (refSpace ref) ((s.ring ref).base + 64 * (s.ring ref).next) 64 = [])

/-- Ask for the translation that the entry at the fetch position of a ring with posted entries lacks (R66). -/
def State.askEntry (s : State) (ref : Nat) : State :=
  if s.serves ref && decide ((s.ring ref).posted ≠ 0) then s.askRange (refSpace ref) ((s.ring ref).base + 64 * (s.ring ref).next) 64 else s

/-- Skip entries that already hold completions while fetching up to the TAIL recorded at enable (R156). A skipped entry
at the head advances the head, which is published. -/
def State.skipDone (s : State) (ref : Nat) : Nat → State
  | 0 => s
  | n + 1 =>
    let r := s.ring ref
    if r.enableTail = none ∨ r.next = r.tail then s
    else if bit (fld (s.peek ref) 2 2) 15 = r.nextPass then
      let r := Ring.settle { r.fetched1 with done := r.done ++ [r.next] } r.size
      let s := (s.setRing ref r).bump R.RINGENG_PHASE_SKIP
      (if r.head = (s.ring ref).head then s.writeMirror ref 0 else s).skipDone ref n
    else s

/-- What follows a completion (R56, R60, R111, R143): a failure counts and the room's policy acts. A malformed descriptor's event and interrupt go
before its room enters the in-error state, so its ring's moderation fires (DEDUCED, log entry 86). -/
def State.afterEnd (s : State) (ref : Nat) (cause : EndCause) : State :=
  match refSpace ref with
  | none => s
  | some room => match cause with
    | .plain => s
    | .timeout => s.roomDmaFail room true
    | .abort => s.roomDmaFail room false
    | .badDesc => if (s.room room).errBadDesc ∧ errorActs (s.room room).state 3 then (s.fireNow ref).roomError room 3 else s

/-- A receive descriptor is well formed (R141, R143). BUF_ADDR is 64-byte aligned: R143 does not name it, and one that is not is taken as malformed
(DESIGN CHOICE, log entry 86). -/
def rxDescOk (d : List Byte) : Bool :=
  let n := fld d 0x10 4
  decide (fld d 0 2 = 0x0201) && decide (fld d 2 2 % 2 ^ 15 = 0) && zeros d 0x14 44 && decide (fld d 8 8 % 64 = 0) &&
    decide (256 ≤ n ∧ n ≤ 16384 ∧ n % 64 = 0)

/-- A receive completion that carries a status alone: TAG and BUF_ADDR from the posted entry. -/
def rxStatus (d : List Byte) (st : Status) : List Byte :=
  leBytes st.code 2 ++ pad 2 ++ slice d 4 8 ++ pad 40 ++ slice d 8 16 ++ pad 8

/-- Malformed receive descriptors at the fetch position complete with INVALID_PARAM as they are fetched (R143, R147). -/
def State.weedRx (s : State) (ref : Nat) : Nat → State
  | 0 => s
  | n + 1 =>
    let r := s.ring ref
    if refKind ref ≠ 1 ∨ !s.serves ref ∨ !s.entryReady ref ∨ r.posted = 0 ∨ rxDescOk (s.peek ref) then s
    else
      let bs := rxStatus (s.peek ref) .invalidParam
      let s := ((s.setRing ref r.fetched1).bump R.RINGENG_BAD_DESC).complete ref r.next r.nextPass bs 0
      (s.afterEnd ref .badDesc).weedRx ref n

/-- Fetch the next descriptor of a work ring: its entry index, its pass parity and its bytes. -/
def State.fetch (s : State) (ref : Nat) : Option (Nat × Bool × List Byte × State) :=
  if !s.serves ref || !s.entryReady ref then none
  else
    let s := s.skipDone ref 65536
    let r := s.ring ref
    if r.next = r.tail then none
    else some (r.next, r.nextPass, s.peek ref, (s.setRing ref r.fetched1).stir)

/-! ## Arbitration (R147) -/

/-- Weight and burst of a ring, or of a room as a target of RING_WEIGHT: 1 and 8 unless it says otherwise. -/
def State.weightOf (s : State) (target : Nat) : Nat × Nat :=
  match s.cfg 0x0205 target with
  | [] => (1, 8)
  | b => (fld b 12 1, fld b 13 1)

/-- The room a ring is fetched for: 1,024 stands for the owner, whose rings take part as one further room. -/
def fetchRoom (ref : Nat) : Nat := if refOwner ref then 1024 else refRoom ref

/-- A room's weight. -/
def State.roomWeight (s : State) (room : Nat) : Nat := (s.weightOf (if room = 1024 then 0xFFFFFFFF else 0xF0000000 + room)).1

/-- A transmit ring's source has a place in the merge stage beyond the packets already on their way (R192). -/
def State.hostMayFetch (s : State) (ref : Nat) : Bool :=
  let mine (p : Pkt) := !p.recirc && decide (p.origin = 16 + ref)
  decide ((s.pipe.input.filter mine).length + (s.pipe.pieces.filter fun e => mine e.pkt).length < 4096)

/-- A transmit or store ring whose next descriptor can be fetched. -/
def State.fetchable (s : State) (ref : Nat) : Bool :=
  (decide (refKind ref = 0) && s.hostMayFetch ref || decide (refKind ref = 2) && decide (s.store.ops.length < 65536)) &&
    decide ((s.ring ref).posted ≠ 0) && s.serves ref && s.entryReady ref

/-- A room's rings that can have a grant in this round, in ring-reference order. -/
def State.grantable (s : State) (room : Nat) : List Nat :=
  if s.roomWeight room ≤ Tbl.get (fun _ => 0) s.arb.used room then []
  else (s.rings.map fun e => e.1).filter fun ref =>
    decide (fetchRoom ref = room) && s.fetchable ref && decide (Tbl.get (fun _ => 0) s.arb.ringUsed ref < (s.weightOf ref).1)

/-- The next ring of a room after the one granted last, around its rings. -/
def State.nextRing (s : State) (room : Nat) : Option Nat :=
  let rs := s.grantable room
  let last := s.arb.last.find? fun e => decide (e.1 = room)
  match rs.find? fun r => match last with | some e => decide (e.2 < r) | none => true with
  | some r => some r
  | none => rs.head?

/-- The transmit and store arbiter gives a ring the next fetch (R147): the grant in force goes on while its burst lasts; then the next ring of a room
with grants left in the round, and when no room has any, a new round begins. The order of the rooms within a round is the commands' (log
entry 16). -/
def State.grantTo (s : State) (ref : Nat) : Option State :=
  let going := match s.arb.grant with | some (g, left) => decide (left ≠ 0) && s.fetchable g | none => false
  if going then
    match s.arb.grant with
    | some (g, left) => if g = ref then some { s with arb := { s.arb with grant := some (g, left - 1) } } else none
    | none => none
  else
    let open' := (s.rings.map fun e => fetchRoom e.1).any fun room => decide (s.grantable room ≠ [])
    let s : State := if open' then s else { s with arb := { s.arb with used := [], ringUsed := [] } }
    let room := fetchRoom ref
    if s.nextRing room = some ref then
      let a := s.arb
      some { s with arb := { a with
        used := Tbl.put room (Tbl.get (fun _ => 0) a.used room + 1) a.used, ringUsed := Tbl.put ref (Tbl.get (fun _ => 0) a.ringUsed ref + 1) a.ringUsed
        last := Tbl.put room ref a.last, grant := some (ref, (s.weightOf ref).2 - 1) } }
    else none

/-- Fetch the next descriptor of a transmit or store ring, when the arbiter gives it the fetch. -/
def State.fetchGranted (s : State) (ref : Nat) : Option (Nat × Bool × List Byte × State) := (s.grantTo ref).bind fun s => s.fetch ref

/-- The next work item number: the model's own names for work in flight. -/
def State.workId (s : State) : Nat × State := (s.draws + 1, { s with draws := s.draws + 1 })

/-- Add a fetched entry to the ring's work in flight. -/
def State.addWork (s : State) (ref : Nat) (e : Entry) : State :=
  s.setRing ref { s.ring ref with work := (s.ring ref).work ++ [e] }

/-- A work item in flight whose work has not ended. -/
def State.workOf (s : State) (ref id : Nat) : Option Entry := (s.ring ref).work.find? fun e => decide (e.id = id) && e.ended.isNone

/-- Change a work item. -/
def State.setWork (s : State) (ref : Nat) (e : Entry) : State :=
  s.setRing ref { s.ring ref with work := (s.ring ref).work.map fun w => if w.id = e.id then e else w }

/-- Remove a work item. -/
def State.dropWork (s : State) (ref id : Nat) : State :=
  s.setRing ref { s.ring ref with work := (s.ring ref).work.filter fun w => decide (w.id ≠ id) }

/-- Nothing that RING_DISABLE waits for is left on a ring: no entry in flight, and no command of it begun, other than `self` (R155). -/
def State.ringQuiet (s : State) (self : Option Running) (ref : Nat) : Bool :=
  decide ((s.ring ref).work = []) && !s.cmd.running.any fun r => decide (some r ≠ self) && decide (Path.ringRef r.ctx.pkt.path = some ref) &&
    (match r.ctx.sched with | .now | .late => true | _ => false)

/-- A RING_DISABLE that waited for the ring's last entry replies once every ring it names is idle (R155, R158). -/
def State.settleDisable (s : State) : State :=
  match s.cmd.running.find? (fun r => decide (r.ctx.opcode = 0x0203) && r.refs.all (s.ringQuiet (some r))) with
  | some r => (s.unrun r).finish r.ctx .ok []
  | none => s

/-- Complete one entry whose work has ended. -/
def State.endEntry (s : State) (ref : Nat) (e : Entry) (bs : List Byte) (cause : EndCause) : State :=
  ((s.dropWork ref e.id).complete ref e.index e.pass bs e.id).afterEnd ref cause

/-- Complete the entries at the front of a ring whose work has ended, in ring order (R134). -/
def State.endInOrder (s : State) (ref : Nat) : Nat → State
  | 0 => s
  | n + 1 => match (s.ring ref).work with
    | [] => s
    | e :: _ => match e.ended with
      | some (bs, cause) => (s.endEntry ref e bs cause).endInOrder ref n
      | none => s

/-- A work item's work ends: its completion is written over its descriptor, on a transmit ring once every entry before it has completed (R128,
R134), and a waiting RING_DISABLE may reply. -/
def State.endWork (s : State) (ref : Nat) (e : Entry) (bs : List Byte) (cause : EndCause := .plain) : State :=
  if refKind ref = 0 then
    let s := s.setWork ref { e with ended := some (bs, cause), reads := 0, redo := [], pages := [], halted := false }
    (s.endInOrder ref (s.ring ref).work.length).settleDisable
  else (s.endEntry ref e bs cause).settleDisable

/-- A new entry of work in flight. -/
def Entry.fresh (id index : Nat) (pass : Bool) (desc : List Byte) : Entry :=
  ⟨id, index, pass, BitVec.ofNat 32 (fld desc 4 4), desc, 0, [], [], 0, false, false, none, none, false, none⟩

/-- RING_ENABLE of one ring (R156): fetching resumes at the published head up to the last recorded TAIL. -/
def State.enableRing (s : State) (ref : Nat) : State :=
  let r := s.ring ref
  if r.enabled then s
  else
    let s := s.setRing ref { r with enabled := true, recorded := none, next := r.head, nextPass := r.pass, completed := 0,
                                     dropped := if refKind ref = 1 then 0 else r.dropped }
    let s := match r.recorded with
      | some v => s.doorbell ref v
      | none => s
    let r := s.ring ref
    if refKind ref = 3 then s
    else
      let s := s.setRing ref { r with enableTail := if r.next = r.tail then none else some r.tail }
      if s.serves ref then (s.skipDone ref 65536).weedRx ref 65536 else s

/-- Descriptors a receive ring keeps prefetched: up to 8 (R147). -/
def Ring.prefetched (r : Ring) : Nat := min 8 r.posted

end Sys2Proof.Machine
end

