-- ==== Sys2Proof/Machine/Time.lean ====
section
/-!
DEFINITION. The timekeeper: time commands, the device period, SYNC_IN and the pulse outputs (R95, R172 to R189, R600).
-/

namespace Sys2Proof.Machine

/-- Units of 2^-32 ns in a nanosecond. -/
def perNs : Nat := 2 ^ 32

/-- A signed 64-bit number. -/
def signed64 (n : Nat) : Int := if n < 2 ^ 63 then (n : Int) else (n : Int) - 2 ^ 64

/-- A signed 32-bit number. -/
def signed32 (n : Nat) : Int := if n < 2 ^ 31 then (n : Int) else (n : Int) - 2 ^ 32

/-! ## Time steps (R93, R174, R189) -/

/-- A PPS output. -/
def State.ppsOut (s : State) (n : Nat) : Pps := Tbl.get (fun _ => Pps.off) s.time.pps n

/-- Change a PPS output. -/
def State.setPps (s : State) (n : Nat) (x : Pps) : State :=
  { s with time := { s.time with pps := Tbl.set (fun _ => Pps.off) s.time.pps n x } }

/-- The output goes to its active level for WIDTH. -/
def State.pulse (s : State) (n : Nat) (b : List Byte) : State :=
  let low := bit (fld b 2 1) 0
  (s.setPps n { s.ppsOut n with fall := some (s.clock + fld b 4 4), low := low }).emit (.pps n (!low))

/-- 10 µs after an acceptance, on the time base as it stands (R189). -/
def State.soonest (s : State) (accepted : Nat) : Nat :=
  ((s.now.units : Int) + ((accepted + 10000 : Nat) - (s.clock : Int)) * perNs).toNat

/-- A time step re-evaluates an output (R189): its train looks for its next instant on the new time, and an armed one-shot pulse whose START
now lies in the past fires at once, counted as R90 counts it, or under STRICT does not fire (R93). -/
def State.stepPps (s : State) (n : Nat) : State :=
  let p := s.ppsOut n
  if p = Pps.off then s
  else
    let s := s.setPps n { p with start := max s.now.units (s.soonest p.since) }
    match p.shot with
    | none => s
    | some b =>
      if s.now.units < (Time.ofBytes b 8).units then s
      else
        let s := s.setPps n { s.ppsOut n with shot := none }
        if p.strict then s.bump R.SCHED_PASSED else (s.bump R.SCHED_LATE).pulse n b

/-- Replace the time. The pulse outputs are re-evaluated here, and the pending store by the command or write that made the step (R93). -/
def State.stepTime (s : State) (t : Time) : State :=
  (List.range 4).foldl State.stepPps { s with time := { s.time with now := t, stepped := true } }

/-- The time after a signed offset, none below the PTP epoch (R174). -/
def offsetTime (t : Time) (ns : Int) (frac : Nat) : Option Time :=
  let u := (t.units : Int) + ns * perNs + frac
  if u < 0 then none else some (Time.ofUnits u.toNat)

/-- TIME_SET (0x0600, R174). -/
def cmdTimeSet : Command where
  opcode := 0x0600
  front := true
  room := false
  mctp := false
  recovery := false
  sched := false
  shape := fixedShape 17
  zero := fun bs => decide (fld bs 16 1 < 8)
  body := fun x s =>
    let bs := x.pkt.params
    let a := fld bs 16 1
    let t := Time.ofBytes bs 0
    if !t.valid then Out.of s .invalidParam
    else
      let s := if bit a 1 then { s with time := { s.time with refSel := bit a 2 } } else s
      Out.of (if bit a 0 then { s.stepTime t with time := { (s.stepTime t).time with isSet := true } } else s) .ok

/-- TIME_ADJUST (0x0601, R174): a refused offset changes neither the time nor the increment. -/
def cmdTimeAdjust : Command where
  opcode := 0x0601
  front := true
  room := false
  mctp := false
  recovery := false
  sched := true
  shape := fixedShape 20
  zero := fun bs => decide (fld bs 0 8 < 2 ^ 36)
  body := fun x s =>
    let bs := x.pkt.params
    match offsetTime s.now (signed64 (fld bs 8 8)) (fld bs 16 4) with
    | none => Out.of s .invalidParam
    | some t =>
      let s := if fld bs 0 8 = 0 then s else s.setReg R.TIME_INCR (BitVec.ofNat 64 (fld bs 0 8))
      Out.of (if zeros bs 8 12 then s else s.stepTime t) .ok

/-- TIME_INCR_WRITE (R174): the value acts from the next tick, brought to the nearer limit; bits [63:36] are reserved. -/
def execTimeIncrWrite (v : BitVec 64) (s : State) : Res :=
  if s.barOpen && s.windowOpen R.TIME_INCR then .next (s.setReg R.TIME_INCR (v &&& BitVec.ofNat 64 (2 ^ 36 - 1))) else .next s

/-- TIME_NOW_LATCH (R173): the read latches the time and answers the fraction. -/
def execTimeNowLatch (s : State) : Res :=
  if !s.barOpen then .next s.barRefuse
  else if !s.windowOpen R.TIME_NOW_FRAC then .next (s.emit (.value R.TIME_NOW_FRAC 0))
  else .next ({ s with time := { s.time with latch := s.now } }.emit (.value R.TIME_NOW_FRAC (BitVec.ofNat 64 s.now.frac)))

/-- APPLY_OFFSET without the re-evaluation of the pending store (R174). -/
def State.applyOffset (s : State) : State :=
  match offsetTime s.now (signed64 (s.reg R.TIME_OFFSET_NS).toNat) (s.reg R.TIME_OFFSET_FRAC).toNat with
  | some t => s.stepTime t
  | none => s.setBits R.TIME_STATUS 2

/-- TIME_REF_LOST (R172): the tick goes to REFCLK_SYS with no phase step; REF_LOST is set when TIME_REF was in use. -/
def execTimeRefLost (s : State) : Res :=
  let used := s.time.refSel && s.time.refPresent
  let s := { s with time := { s.time with refPresent := false } }
  .next (if used then s.setBits R.TIME_STATUS 8 else s)

/-- TIME_REF_RESTORED (R172). -/
def execTimeRefRestored (s : State) : Res := .next { s with time := { s.time with refPresent := true } }

/-! ## Period settings (R179, R600) -/

/-- P and PHASE of a PERIOD_SET block are in range. -/
def periodOk (bs : List Byte) : Bool :=
  decide (1000 ≤ fld bs 0 4 ∧ fld bs 0 4 ≤ 1000000) && decide (fld bs 8 8 < fld bs 0 4 * 1000)

/-- SYNC_CONFIG (0x0603, R600). -/
def cmdSyncConfig : Command where
  opcode := 0x0603
  front := true
  room := false
  mctp := false
  recovery := false
  sched := false
  shape := fixedShape 8
  zero := fun bs => decide (fld bs 0 1 < 16) && zeros bs 1 3
  body := fun x s =>
    if fld x.pkt.params 4 4 > 100000 then Out.of s .invalidParam else Out.of (s.stage 0x0603 0 x.pkt.params) .ok

/-- The timekeeper adopts SYNC_CONFIG (R182, R600): enabling SYNC_IN and REACQUIRE begin acquisition. -/
def State.applySync (s : State) (b : List Byte) : State :=
  let c := fld b 0 1
  let t := s.time
  let on := bit c 0
  { s with time := { t with
    syncOn := on, syncFall := bit c 1, syncAuto := bit c 3, syncOffset := fld b 4 4
    acquiring := on && (t.acquiring || !t.syncOn || bit c 2)
    target := if on && !bit c 2 then t.target else none
    missedRun := if on && t.syncOn then t.missedRun else 0 } }

/-! ## Boundaries (R180 to R186) -/

/-- P in units of the period timer. -/
def State.periodUnits (s : State) : Nat := s.time.periodUs * 1000 * perNs

/-- Distance from `x` to the nearest instant target + k × p; the later one at exactly half (R182). -/
def nearest (target : Int) (p : Nat) (x : Int) : Int :=
  let y := (x - target) % p
  if 2 * y < p then -y else p - y

/-- Bring a number into −w to w. -/
def clampInt (d : Int) (w : Nat) : Int := if d < -(w : Int) then -(w : Int) else if d > w then w else d

/-- The grid of time mode as an instant of the period timer (R180): PHASE counted from the PTP epoch on the time base. -/
def State.gridTarget (s : State) : Int :=
  (s.time.phase * perNs : Nat) - (s.now.units : Int) + (s.time.timer : Int)

/-- The window of an instant closes (R182): the next one opens. -/
def State.closeWindow (s : State) : State :=
  let t := s.time
  let missed := !t.taken && t.syncOn
  let run := if t.taken || !t.syncOn then 0 else t.missedRun + 1
  let s := if missed then s.bump R.SYNC_MISSED else s
  { s with time := { t with
    sched := t.following, fire := t.following, fired := false, taken := false, slewing := t.nextSlew, nextSlew := false
    missedRun := if run ≥ 16 && t.syncAuto then 0 else run
    acquiring := t.acquiring || (decide (run ≥ 16) && t.syncAuto) } }

/-- SYNC_WINDOW_CLOSE (R181, R182): at s + w, once the boundary has fired. -/
def execSyncWindowClose (s : State) : Res :=
  .next (if s.time.fired ∧ s.time.sched + s.periodUnits / 8 ≤ s.time.timer then s.closeWindow else s)

/-- The time structure of an instant of the period timer, by the time base as it stands. -/
def State.timeAt (s : State) (i : Nat) : Time := Time.ofUnits ((i : Int) - s.time.timer + s.now.units).toNat

/-- SYNC_EDGE (R181, R182, R600). -/
def execSyncEdge (rising : Bool) (s : State) : Res :=
  let t := s.time
  if rising = t.syncFall then .next s
  else
    let s := { s with time := { t with lastEdge := t.now } }
    if !t.syncOn then .next s
    else
      let b := t.timer + t.syncOffset * perNs
      let w := s.periodUnits / 8
      if t.taken ∨ b + w < t.sched ∨ t.sched + w < b then
        let s := s.bump R.SYNC_OUTLIER
        .next (if t.acquiring then { s with time := { s.time with target := some b } } else s)
      else
        let s := s.bump R.SYNC_MOVED
        .next { s with time := { s.time with
          taken := true, acquiring := false, missedRun := 0, target := none
          fire := if t.fired then t.fire else b
          following := if t.fired then b + s.periodUnits else t.following
          nextSlew := if t.fired then false else t.nextSlew } }

/-- The timekeeper's own part of a boundary (R183, R186): latch, count, take the staged P and pulse settings, and schedule the
next boundary (R182). -/
def State.boundary (s : State) : State :=
  let t := s.time
  let s := if t.slewing then s.bump R.PERIOD_SLEWED else s
  let s := s.count64 R.PERIOD_COUNT 1
  let (p, ph) := t.nextPeriod.getD (t.periodUs, t.phase)
  let s := { s with time := { t with last := t.now, lastFire := t.fire, fired := true, periodUs := p, phase := ph, nextPeriod := none } }
  let s := (List.range 4).foldl (fun s n =>
    match (s.ppsOut n).next with
    | some b =>
      let p := s.ppsOut n
      s.setPps n { p with
        next := none, block := if fld b 1 1 = 0 ∨ fld b 1 1 = 1 then [] else b, since := p.asked
        start := max (s.now.units + t.fire - t.timer) (s.soonest p.asked) }
    | none => s) s
  let pu := s.periodUnits
  let next := t.fire + pu
  let target := if t.syncOn then (if t.acquiring then t.target else none) else some s.gridTarget
  match target with
  | some g =>
    let d := clampInt (nearest g pu next) (pu / 8)
    { s with time := { s.time with following := ((next : Int) + d).toNat, nextSlew := decide (d ≠ 0) } }
  | none => { s with time := { s.time with following := next, nextSlew := false } }

/-- The boundary of the open window is due. A window whose successor is due has closed. -/
def State.boundaryDue (s : State) : Bool := !s.time.fired && decide (s.time.fire ≤ s.time.timer)

/-- Close a window whose end has passed, in either mode, so that the boundary after it can fire (R182). -/
def State.rollWindow (s : State) : State :=
  if s.time.fired ∧ s.time.following ≤ s.time.timer then s.closeWindow else s

/-! ## Pulse outputs (R187 to R189) -/

/-- PPS_SET parameters in range (R187): WIDTH and START in every mode (R5), INTERVAL in mode 4, ADVANCE in modes 2 and 3. -/
def ppsOk (bs : List Byte) (periodNs : Nat) : Bool :=
  let mode := fld bs 1 1
  let width := fld bs 4 4
  let interval := if mode = 2 then 1000000000 else if mode = 3 then periodNs else fld bs 0x18 8
  let adv := signed32 (fld bs 0x20 4)
  decide (fld bs 0 1 < 4) && decide (mode ≤ 4) && decide (fld bs 2 1 ≤ 1) && decide (100 ≤ width ∧ width ≤ 500000000) &&
    (Time.ofBytes bs 8).valid && (decide (mode ≤ 1) || decide (2 * width < interval)) &&
    (!decide (mode = 4) || decide (2000 ≤ fld bs 0x18 8 ∧ fld bs 0x18 8 ≤ 1000000000000)) &&
    (!decide (mode = 2 ∨ mode = 3) || decide (-((periodNs / 2 : Nat) : Int) ≤ adv ∧ adv ≤ ((periodNs / 2 : Nat) : Int)))

/-- The timekeeper adopts PPS_SET (R188, R189): a one-shot pulse is armed, and fires at once when its START has come; a mode takes effect at
the next boundary, and the train in force runs until then. -/
def State.applyPps (s : State) (b : List Byte) : State :=
  let n := fld b 0 1
  let s := s.setPps n { s.ppsOut n with next := some b }
  if fld b 1 1 = 1 then
    if (Time.ofBytes b 8).units ≤ s.now.units then s.pulse n b else s.setPps n { s.ppsOut n with shot := some b }
  else s

/-- The first instant origin + k × step that is not before `start`. -/
def alignedFrom (origin step start : Nat) : Nat :=
  if start ≤ origin then origin else origin + (start - origin + step - 1) / step * step

/-- The aligned instant a pulse train waits for, with its advance, on the time base; none for a train of boundaries. -/
def Pps.due (p : Pps) : Option (Nat × Int) :=
  match fld p.block 1 1 with
  | 2 => some (alignedFrom 0 (nsPerSec * perNs) p.start, signed32 (fld p.block 0x20 4))
  | 4 => some (alignedFrom (Time.ofBytes p.block 8).units (fld p.block 0x18 8 * perNs) p.start, 0)
  | _ => none

/-- The boundary a train of mode 3 pulses for now: with a negative ADVANCE the one scheduled, else the last one fired; its
number and its instant with the advance, on the time base (R188). -/
def State.boundaryPulse (s : State) (p : Pps) : Nat × Int :=
  let adv := signed32 (fld p.block 0x20 4)
  let base : Int := (s.now.units : Int) - s.time.timer
  let n := (s.reg R.PERIOD_COUNT).toNat
  if adv < 0 then
    let i := if s.time.fired then s.time.following else s.time.fire
    (n + 1, base + i + adv * perNs)
  else (n, base + s.time.lastFire + adv * perNs)

/-- PPS_PULSE (R187 to R189): the output's next edge, when its instant has come. -/
def execPpsPulse (out : Fin 4) (s : State) : Res :=
  let n := out.val
  let p := s.ppsOut n
  match p.fall, p.shot with
  | some c, _ =>
    if c ≤ s.clock then .next ((s.setPps n { p with fall := none }).emit (.pps n p.low)) else .next s
  | none, some b =>
    if (Time.ofBytes b 8).units ≤ s.now.units then .next ((s.setPps n { p with shot := none }).pulse n b) else .next s
  | none, none =>
    match p.due with
    | some (i, adv) =>
      if (i : Int) + adv * perNs ≤ s.now.units then .next ((s.setPps n { p with start := i + 1 }).pulse n p.block) else .next s
    | none =>
      let (k, i) := s.boundaryPulse p
      if fld p.block 1 1 = 3 ∧ p.mark < k ∧ (p.start : Int) ≤ i ∧ i ≤ s.now.units then
        .next ((s.setPps n { p with mark := k }).pulse n p.block)
      else .next s

/-! ## The pending store's commands (R95) -/

/-- A path may see a stored command: a room only its own. -/
def Stored.seenBy (e : Stored) (path : Path) : Bool :=
  match path with
  | .roomRing r => decide (e.pkt.path = Path.roomRing r)
  | _ => true

/-- SCHED_CANCEL (0x0605, R95). -/
def cmdSchedCancel : Command where
  opcode := 0x0605
  front := true
  room := true
  mctp := false
  recovery := false
  sched := false
  shape := fixedShape 8
  zero := zeroAt [(4, 4)]
  body := fun x s =>
    let h := fld x.pkt.params 0 4
    match s.cmd.stored.find? fun e => decide (e.handle = h) with
    | none => Out.of s .invalidParam
    | some e =>
      if !e.seenBy x.pkt.path then Out.of s .notPermitted
      else Out.of { s with cmd := { s.cmd with stored := s.cmd.stored.filter fun e => decide (e.handle ≠ h) } } .ok

/-- The boundary now scheduled, on the time base (`PERIOD.NEXT`). -/
def State.nextBoundary (s : State) : Time := s.timeAt (if s.time.fired then s.time.following else s.time.fire)

/-- NEXT_TIME of a stored command (R95). -/
def State.nextTime (s : State) (e : Stored) : Time :=
  if !e.pkt.periodic then e.pkt.atTime
  else
    let b := s.nextBoundary.units
    if e.started then Time.ofUnits (b + (e.wait - 1) * s.periodUnits)
    else
      let soon := (s.now.units + (e.accepted + 10000) * perNs) - s.clock * perNs
      Time.ofUnits (alignedFrom b s.periodUnits (max e.pkt.atTime.units soon))

/-- The room of a path as R95 shows it, 0xFFFF for the owner, whose commands are those of every other path (DESIGN CHOICE for MCTP, log
entry 82). -/
def Path.roomField (p : Path) : Nat := (Path.ringRoom p).getD 0xFFFF

/-- A record of SCHED_QUERY. -/
def State.storedRec (s : State) (e : Stored) : List Byte :=
  leBytes e.handle 4 ++ leBytes e.opcode 2 ++ leBytes e.pkt.flags.toNat 2 ++ leBytes e.pkt.tag.toNat 4 ++
    leBytes (Path.roomField e.pkt.path) 2 ++ leBytes e.remaining 2 ++ (s.nextTime e).bytes

/-- Insert a stored command in ascending handle order. -/
def insertStored (e : Stored) : List Stored → List Stored
  | [] => [e]
  | f :: fs => if e.handle < f.handle then e :: f :: fs else f :: insertStored e fs

/-- SCHED_QUERY (0x0606, R95). -/
def cmdSchedQuery : Command where
  opcode := 0x0606
  front := true
  room := true
  mctp := false
  recovery := false
  sched := false
  shape := fixedShape 8
  zero := fun _ => true
  body := fun x s =>
    let after := fld x.pkt.params 0 4
    let most := fld x.pkt.params 4 4
    if most < 1 ∨ 4096 < most then Out.of s .invalidParam
    else
      let all := ((s.cmd.stored.filter fun e => e.seenBy x.pkt.path && decide (after < e.handle)).foldr insertStored [])
      let shown := all.take most
      let room := Path.ringRoom x.pkt.path
      let done := s.cmd.finished.filter fun f => decide (f.room = room)
      .done .ok (leBytes shown.length 4 ++ leBytes (b01 (decide (most < all.length))) 4 ++ leBytes done.length 4 ++ pad 4 ++
        (shown.map s.storedRec).flatten ++
        (done.map fun f => leBytes f.handle 4 ++ leBytes f.tag.toNat 4 ++ leBytes f.status 2 ++ leBytes f.opcode 2 ++ pad 4).flatten) s

end Sys2Proof.Machine
end

