-- ==== Sys2Proof/Machine/PktOps.lean ====
section
/-!
DEFINITION. Packets: how they leave the device's hands, transmit completions, the generation they are processed under
(R23, R30, R140, R165, R271).
-/

namespace Sys2Proof.Machine

/-- A transmit completion (R140): its first 32 bytes. -/
def txCompletion (st : Status) (tag : BitVec 32) (ts : Option Time) (bytes : Nat) : List Byte :=
  leBytes st.code 2 ++ leBytes (b01 ts.isSome) 2 ++ leBytes tag.toNat 4 ++ (ts.getD Time.zero).bytes ++ leBytes bytes 4 ++ pad 4

/-- The transmit entry of a packet completes; bytes 0x20 to 0x3F keep what software wrote. -/
def State.txDone (s : State) (p : Pkt) (st : Status) (ts : Option Time) (bytes : Nat) : State :=
  match p.tx with
  | none => s
  | some (ref, id) =>
    match s.workOf ref id with
    | none => s
    | some e => s.endWork ref e (txCompletion st e.tag ts bytes ++ (e.desc.drop 32).take 32)

/-- The device drops a packet: a transmit entry it came from completes with OK and BYTES 0 (R165, R271; for drops before the
traffic manager DEDUCED, log entry 25). -/
def State.dropPkt (s : State) (p : Pkt) : State := s.txDone p .ok none 0

/-- Settings a packet is processed under: those of its stamp (R23). -/
def State.pktCfg (s : State) (p : Pkt) : Settings := s.cfgOf (p.stamp.getD s.gen.current)

/-- The packet carries a stamp whose generation has retired (R30). -/
def State.pktRetired (s : State) (p : Pkt) : Bool :=
  match p.stamp with
  | some g => !s.stampLive g
  | none => false

/-- Drop a packet of a retired generation (R30). -/
def State.retireDrop (s : State) (p : Pkt) : State := (s.bump R.DEVICE_GEN_RETIRE_DROP).dropPkt p

/-- The exception settings of a generation, with the defaults of R202. -/
def excOf (c : Settings) : List Byte :=
  match c.block 0x0404 0 with
  | [] => leBytes 2 1 ++ leBytes 1 1 ++ leBytes 2 1 ++ pad 61
  | b => b

/-- PORT_CONFIG of a port in a generation; empty for none. -/
def portConf (c : Settings) (port : Nat) : List Byte := c.block 0x0300 port

/-- What the parser recognises for a packet: the port's TPID_EXTRA (R168) and the alternate tunnel ports (R202). -/
def parseCfg (c : Settings) (source : Nat) : ParseCfg :=
  let e := excOf c
  ⟨if source < 4 then fld (portConf c source) 0x0C 2 else 0, fld e 4 2, fld e 6 2⟩

/-- Parse a packet as its stamp's settings say. -/
def State.parsePkt (s : State) (p : Pkt) : Parsed := parse (parseCfg (s.pktCfg p) p.source) p.bytes

/-- MTU of a port in a generation, FCS included (R167). -/
def mtuOf (c : Settings) (port : Nat) : Nat := if portConf c port = [] then 1526 else fld (portConf c port) 4 2

/-- RECIRC of a packet (R205). -/
def Pkt.recircField (p : Pkt) : Nat := p.pass * 2 ^ 30 + p.recircMd

/-- SOURCE of a packet as software sees it (R141, R205). -/
def Pkt.sourceField (p : Pkt) : Nat := if p.source = 0xFFFF then Config.ownerSource.toNat % 1024 + bits Config.ownerSource.toNat 15 15 * 2 ^ 15 else p.source

/-- A token bucket after refilling at `rate` units per second up to `depth` units, in units of 10^-9. -/
def Bucket.fill (b : Bucket) (now rate depth : Nat) : Bucket :=
  ⟨min (b.tokens + (now - b.since) * rate) (depth * nsPerSec), now⟩

/-- Take one unit from a bucket. -/
def Bucket.take (b : Bucket) : Option Bucket := if b.tokens < nsPerSec then none else some { b with tokens := b.tokens - nsPerSec }

/-! ## TLS records (R252, RFC 8446) -/

/-- The hash of a suite, its block and key sizes. -/
def Tls.hash (t : Tls) : (List Byte → List Byte) × Nat × Nat := if t.strong then (sha384, 128, 32) else (sha256, 64, 16)

/-- Write key of a traffic secret. -/
def Tls.key (t : Tls) (secret : List Byte) : List Byte := expandLabel t.hash.1 t.hash.2.1 secret [0x6B, 0x65, 0x79] t.hash.2.2

/-- Nonce of a record: its number over the static IV of the secret. -/
def Tls.nonce (t : Tls) (secret : List Byte) (seq : Nat) : List Byte :=
  xorBytes (expandLabel t.hash.1 t.hash.2.1 secret [0x69, 0x76] 12) (beBytes seq 12)

/-- The next generation of a traffic secret (KeyUpdate). -/
def Tls.next (t : Tls) (secret : List Byte) : List Byte :=
  expandLabel t.hash.1 t.hash.2.1 secret [0x74, 0x72, 0x61, 0x66, 0x66, 0x69, 0x63, 0x20, 0x75, 0x70, 0x64] (if t.strong then 48 else 32)

/-- The key of what the device sends turns. -/
def Tls.turnOut (t : Tls) : Tls := { t with outSecret := t.next t.outSecret, outSeq := 0 }
/-- The key of what the device receives turns. -/
def Tls.turnIn (t : Tls) : Tls := { t with inSecret := t.next t.inSecret, inSeq := 0 }

/-- Protect one record of a content type. -/
def Tls.sealRecord (t : Tls) (kind : Nat) (data : List Byte) : List Byte × Tls :=
  let head := beBytes 0x170303 3 ++ beBytes (data.length + 17) 2
  let e := gcmSeal (t.key t.outSecret) (t.nonce t.outSecret t.outSeq) head (data ++ beBytes kind 1)
  (head ++ e.1 ++ e.2, { t with outSeq := t.outSeq + 1 })

/-- Open one record: its content type and content, behind which any padding is cut. -/
def Tls.openRecord (t : Tls) (rec' : List Byte) : Option (Nat × List Byte × Tls) :=
  let n := rec'.length
  (gcmOpen (t.key t.inSecret) (t.nonce t.inSecret t.inSeq) (rec'.take 5) (slice rec' 5 (n - 16)) (rec'.drop (n - 16))).map fun pt =>
    let inner := (pt.reverse.dropWhile fun b => decide (b = 0)).reverse
    ((inner.getLastD 0).toNat, inner.dropLast, { t with inSeq := t.inSeq + 1 })

/-- Protect bytes in records of at most 16,384 B each. -/
def Tls.sealAll (t : Tls) : Nat → List Byte → List Byte × Tls
  | 0, _ => ([], t)
  | n + 1, data =>
    let r := t.sealRecord 23 (data.take 16384)
    if data.length ≤ 16384 then r
    else let more := r.2.sealAll n (data.drop 16384); (r.1 ++ more.1, more.2)

/-- Send a PDU on an NVMe/TCP connection: its type, and what it carries as the fields that the rules state. On a TLS connection it leaves inside
records. -/
def State.sendPdu (s : State) (c kind : Nat) (data : List Byte) : State :=
  match Tbl.find s.store.conns c with
  | none => s
  | some x => match x.tls with
    | none => s.emit (.conn c kind data)
    | some t =>
      let r := t.sealAll (data.length / 16384 + 1) (beBytes kind 1 ++ data)
      State.emit { s with store := { s.store with conns := Tbl.put c { x with tls := some r.2 } s.store.conns } } (.conn c 0x17 r.1)

end Sys2Proof.Machine
end

