-- ==== Sys2Proof/Machine/PortOps.lean ====
section
/-!
DEFINITION. Ports: settings in force, flow control by packet buffer occupancy, timestamps (R160 to R178).
-/

namespace Sys2Proof.Machine

/-- A port. -/
def State.port (s : State) (n : Nat) : Port := Tbl.get (fun _ => Port.reset) s.ports n

/-- Change a port. -/
def State.setPort (s : State) (n : Nat) (p : Port) : State :=
  { s with ports := Tbl.set (fun _ => Port.reset) s.ports n p }

/-- Offset of port n's copy of a port register (R171). -/
def portReg (r n : Nat) : Nat := r + 0x10000 * n

/-- Speed in Gb/s of a SPEED code (R160). -/
def speedGbps (code : Nat) : Nat :=
  match code with
  | 0 => 100 | 1 => 200 | 2 => 400 | _ => 800

/-- Speed in force at a port, in Gb/s. -/
def Port.gbps (p : Port) : Nat := speedGbps (fld p.conf 1 1)

/-- Lanes a speed uses (R160). -/
def Port.lanes (p : Port) : Nat :=
  if p.conf = [] then 0 else match fld p.conf 1 1 with
  | 3 => 4 | 2 => 2 | _ => 1

/-- The medium is C2M. -/
def Port.c2m (p : Port) : Bool := decide (fld p.conf 2 1 = 2)

/-- MTU in force at a port (R167). -/
def Port.mtu (p : Port) : Nat := if p.conf = [] then 1526 else fld p.conf 4 2

/-- The enabled classes of a PORT_CONFIG block (R169). -/
def enabledClasses (b : List Byte) : List Nat :=
  match fld b 6 1 with
  | 1 => [0]
  | 2 => (List.range 8).filter fun c => bit (fld b 7 1) c
  | _ => []

/-- XOFF, XON and XOFF + HEADROOM of a class, in bytes. -/
def classLimits (b : List Byte) (c : Nat) : Nat × Nat × Nat :=
  let xoff := fld b (0x10 + 4 * c) 2
  (xoff * 1024, fld b (0x12 + 4 * c) 2 * 1024, (xoff + fld b 0x30 4) * 1024)

/-- PFC class of a frame on a port: class 0 under 802.3 pause, else the outer tag's PCP, 0 without a tag (PRESUMED, IEEE
802.1Q, log entry 27). -/
def Port.classOf (p : Port) (bytes : List Byte) : Nat :=
  if fld p.conf 6 1 = 1 then 0
  else
    let t := bfld bytes 12 2
    if t = 0x8100 ∨ t = 0x88A8 ∨ (fld p.conf 0x0C 2 ≠ 0 ∧ t = fld p.conf 0x0C 2) then bfld bytes 14 1 / 32 else 0

/-- Every packet that lies in the packet buffer. -/
def State.packets (s : State) : List Pkt :=
  s.pipe.input ++ s.pipe.pieces.map Piece.pkt ++ s.pipe.enq.map Enq.pkt ++ s.pipe.handed.map Handed.pkt ++
    s.pipe.stair.map Stair.pkt ++ s.pipe.delivery.map (fun d => d.2.pkt) ++ (s.tm.leaves.flatMap fun e => e.2.queue.map Frame.pkt) ++
    s.tm.wire.map fun e => e.2.pkt

/-- Packet buffer bytes in use per port and class (R169), as the packets now held give it. -/
def State.occupancy (s : State) (port cls : Nat) : Nat :=
  ((s.packets.filter fun p => decide (p.source = port) && !p.copy && decide ((s.port port).classOf p.bytes = cls)).map fun p => p.bytes.length).sum

/-- Send a pause or PFC frame (R169). -/
def State.sendPause (s : State) (port cls quanta : Nat) : State :=
  (s.emit (.pause port cls quanta)).bump (portReg R.PORT_TX_PFC port)

/-- Quanta sent in XOFF; 0 selects 0xFFFF. -/
def Port.quanta (p : Port) : Nat := if fld p.conf 8 2 = 0 then 0xFFFF else fld p.conf 8 2

/-- Clocks that a number of pause quanta last: 512 bit times each. -/
def Port.quantaNs (p : Port) (q : Nat) : Nat := (q * 512 + p.gbps - 1) / p.gbps

/-- Act on one class's occupancy (R169). -/
def State.flowClass (s : State) (port cls : Nat) : State :=
  let p := s.port port
  let occ := s.occupancy port cls
  let (xoff, xon, _) := classLimits p.conf cls
  let sent := (p.xoff.find? fun e => decide (e.1 = cls)).isSome
  if !sent ∧ xoff ≤ occ then
    (s.sendPause port cls p.quanta).setPort port { p with xoff := Tbl.put cls s.clock p.xoff }
  else if sent ∧ occ ≤ xon then (s.sendPause port cls 0).setPort port { p with xoff := Tbl.erase cls p.xoff }
  else s

/-- Every port acts on its occupancy. -/
def State.flow (s : State) : State :=
  (List.range 4).foldl (fun s port =>
    if (s.port port).link then (enabledClasses (s.port port).conf).foldl (fun s c => s.flowClass port c) s else s) s

/-- A class of the port is paused by the link partner: under 802.3 pause every class, else an enabled class (R169). -/
def Port.isPaused (p : Port) (clock cls : Nat) : Bool :=
  p.paused.any fun e => decide (clock < e.2) && (enabledClasses p.conf).contains e.1 && (decide (fld p.conf 6 1 = 1) || decide (e.1 = cls))

/-! ## Timestamps (R176, R177) -/

/-- Corrections of a speed in tenths of a nanosecond: transmit, receive (R176). -/
def ballTenths (gbps : Nat) : Nat × Nat :=
  match gbps with
  | 800 => (384, 1126) | 400 => (462, 1310) | 200 => (618, 1644) | _ => (925, 2387)

/-- Tenths of a nanosecond and picoseconds in units of 2^-32 ns. -/
def tenths (n : Nat) : Nat := n * 2 ^ 32 / 10
/-- Picoseconds in units of 2^-32 ns. -/
def picos (n : Nat) : Nat := n * 2 ^ 32 / 1000

/-- The timestamp reported for a capture at `t` (R176). -/
def Port.stampTime (p : Port) (t : Time) (tx : Bool) : Time :=
  let r := fld p.ptp 2 1
  let (bt, br) := ballTenths p.gbps
  let d := (if r ≥ 1 then tenths (if tx then bt else br) else 0) + (if r = 2 then picos (fld p.ptp (if tx then 4 else 8) 4) else 0)
  Time.ofUnits (if tx then t.units + d else t.units - d)

/-- Where a PTP message starts in a frame: over Ethernet type 0x88F7, or UDP port 319 (R177). -/
def ptpOffset (q : Parsed) (bs : List Byte) : Option Nat :=
  if q.cur.l3 = 5 then some q.cur.l3off
  else match q.cur.l4off with
    | some o => if q.cur.l4 = 2 ∧ bfld bs (o + 2) 2 = 319 ∧ o + 8 + 34 ≤ bs.length then some (o + 8) else none
    | none => none

/-- A PTP event message: messageType 0 to 3 (IEEE 1588). -/
def ptpEvent (q : Parsed) (bs : List Byte) : Bool :=
  match ptpOffset q bs with
  | some o => decide (bfld bs o 1 % 16 ≤ 3)
  | none => false

/-! ## Link state (R163 to R166) -/

/-- Post PORT_LINK and note the change (R164, R178). -/
def State.linkEvent (s : State) (n : Nat) (up : Bool) : State :=
  (s.setPort n { s.port n with lastChange := s.now }).postOwner 11 n (b01 up)

/-- A port's running gate list. -/
def State.gate (s : State) (port : Nat) : Gate := Tbl.get (fun _ => Gate.off) s.tm.gates port

/-- Change a port's running gate list. -/
def State.setGate (s : State) (port : Nat) (g : Gate) : State :=
  { s with tm := { s.tm with gates := Tbl.set (fun _ => Gate.off) s.tm.gates port g } }

/-- Windows of a port open now, those of the classes of `opening`: a class that is paused starts no frame in its window (R170). -/
def State.openWindows (s : State) (port : Nat) (opening : List Nat) : State :=
  let g := s.gate port
  let kept := g.shut.filter fun c => !opening.contains c
  s.setGate port { g with shut := kept ++ opening.filter fun c => (s.port port).isPaused s.clock c }

/-- The frame on a port's wire has left it: the counters and the transmit completion (R140, R165), and behind a frame that ran into a new
gate cycle the cycle's first windows open now (R184). -/
def State.landFrame (s : State) (n : Nat) : State :=
  match Tbl.find s.tm.wire n with
  | none => s
  | some w =>
    if s.time.timer < w.stop then s
    else
      let len := w.bytes.length + 4
      let s : State := { s with tm := { s.tm with wire := Tbl.erase n s.tm.wire } }
      let s := if w.spoiled then (s.emit (.badFrame n w.bytes)).dropPkt w.pkt
        else ((((s.emit (.frame n w.bytes)).count64 (portReg R.PORT_TX_FRAMES n) 1).count64 (portReg R.PORT_TX_BYTES n) len).txDone w.pkt .ok w.ts len)
      if w.began < (s.gate n).cycle then s.openWindows n (List.range 8) else s

/-- Every frame whose end has come leaves its wire. -/
def State.landFrames (s : State) : State :=
  if s.tm.wire.any fun e => decide (e.2.stop ≤ s.time.timer) then (((s.landFrame 0).landFrame 1).landFrame 2).landFrame 3 |>.flow else s

/-- A frame on the wire of a port whose link goes down is lost (R165): it is not counted as sent, and its transmit completion carries what
that of a frame discarded for the link does, BYTES 0 and TS_VALID 0 (DESIGN CHOICE, log entry 87: the rule names no completion for it). -/
def State.loseFrame (s : State) (n : Nat) : State :=
  let s := s.landFrame n
  match Tbl.find s.tm.wire n with
  | none => s
  | some w => State.txDone { s with tm := { s.tm with wire := Tbl.erase n s.tm.wire } } w.pkt .ok none 0

/-- The link goes down; it trains again while the administrative state is up (R165, R166). -/
def State.portDown (s : State) (n : Nat) : State :=
  let p := s.port n
  if p.link then
    let s := (s.bump (portReg R.PORT_LINK_DOWN n)).setPort n { p with
      link := false, anDone := false, ltDone := false, paused := [], xoff := [], training := if p.admin then some s.clock else none }
    let s := s.loseFrame n
    State.linkEvent { s with tm := { s.tm with wireEnd := Tbl.erase n s.tm.wireEnd } } n false
  else s.setPort n { p with training := if p.admin then some s.clock else none }

/-- The flow control entries of a port that a new block keeps: of the classes it still enables, under the same kind of flow control. The
rules count enabled classes only (R169), so what the port sent or received for any other class has no further effect. -/
def keptClasses (old new : List Byte) (t : Tbl Nat) : Tbl Nat :=
  if fld old 6 1 = fld new 6 1 then t.filter fun e => (enabledClasses new).contains e.1 else []

/-- A port adopts PORT_CONFIG (R166): a change of SPEED, MEDIUM, AN_LT or LANE_MAP takes the link down. -/
def State.applyPortConfig (s : State) (n : Nat) (b : List Byte) : State :=
  let p := s.port n
  let drop := decide (p.conf = []) || decide ((slice p.conf 1 4, slice p.conf 0x34 0x38) ≠ (slice b 1 4, slice b 0x34 0x38))
  let s := s.setPort n { p with
    conf := b, noCommon := if drop then false else p.noCommon, paused := keptClasses p.conf b p.paused, xoff := keptClasses p.conf b p.xoff }
  if drop then s.portDown n else s.flow

/-- A port adopts PORT_ADMIN (R164). -/
def State.applyPortAdmin (s : State) (n : Nat) (up : Bool) : State :=
  let p := s.port n
  if up then (if p.admin then s else s.setPort n { p with admin := true, training := some s.clock, noCommon := false })
  else (s.setPort n { p with admin := false }).portDown n

end Sys2Proof.Machine
end

