-- ==== Sys2Proof/Machine/Ports.lean ====
section
/-!
DEFINITION. Port commands and the events of the MAC and the link (R162 to R178, R601).
-/

namespace Sys2Proof.Machine

/-! ## Commands -/

/-- The packet buffer a PORT_CONFIG block lets its classes take, in KiB (R601). -/
def bufferKib (b : List Byte) : Nat :=
  ((enabledClasses b).map fun c => fld b (0x10 + 4 * c) 2 + fld b 0x30 4).sum

/-- PORT_CONFIG in range (R601). -/
def portConfigOk (bs : List Byte) (others : List (List Byte)) : Bool :=
  let flow := fld bs 6 1
  let mtu := fld bs 4 2
  decide (fld bs 0 1 < 4) && decide (fld bs 1 1 ≤ 3) && decide (fld bs 2 1 ≤ 2) && decide (flow ≤ 2) &&
    decide (64 ≤ mtu ∧ mtu ≤ 16128) && (decide (flow = 0) || decide (16 ≤ fld bs 0x30 4 ∧ fld bs 0x30 4 ≤ 4096)) &&
    !(decide (flow = 2) && decide (fld bs 7 1 = 0)) &&
    ((enabledClasses bs).all fun c => decide (fld bs (0x12 + 4 * c) 2 < fld bs (0x10 + 4 * c) 2)) &&
    decide (((bs :: others).map bufferKib).sum ≤ 24 * 1024)

/-- PORT_CONFIG (0x0300, R601). -/
def cmdPortConfig : Command where
  opcode := 0x0300
  front := true
  room := false
  mctp := false
  recovery := false
  sched := false
  shape := fixedShape 64
  zero := fun bs => decide (fld bs 3 1 < 4) && decide (fld bs 0x0A 2 < 2) && zeros bs 0x0E 2 && decide (fld bs 0x34 4 < 512) && zeros bs 0x38 8
  body := fun x s =>
    let bs := x.pkt.params
    let n := fld bs 0 1
    let others := ((List.range 4).filter fun i => decide (i ≠ n)).map fun i => s.built 0x0300 i
    if portConfigOk bs others then Out.of (s.stage 0x0300 n bs) .ok else Out.of s .invalidParam

/-- PORT_PTP (0x0303, R176). -/
def cmdPortPtp : Command where
  opcode := 0x0303
  front := true
  room := false
  mctp := false
  recovery := false
  sched := false
  shape := fixedShape 32
  zero := zeroAt [(0x10, 16)]
  body := fun x s =>
    let bs := x.pkt.params
    if 3 < fld bs 0 1 ∨ 2 < fld bs 1 1 ∨ 2 < fld bs 2 1 ∨ 1 < fld bs 3 1 ∨ 1000000 < fld bs 4 4 ∨ 1000000 < fld bs 8 4 then
      Out.of s .invalidParam
    else Out.of (s.stage 0x0303 (fld bs 0 1) bs) .ok

/-- `PORT.STATUS` (R171). -/
def State.portStatus (s : State) (n : Nat) : Nat :=
  let p := s.port n
  let held := (List.range 8).map fun c => b01 ((p.paused.any fun e => decide (e.1 = c) && decide (s.clock < e.2))) * 2 ^ c
  held.sum * 2 ^ 24 + (if p.link then (2 ^ p.lanes - 1) * 2 ^ 16 else 0) + b01 p.remoteFault * 2 ^ 11 + b01 p.localFault * 2 ^ 10 +
    b01 p.ltDone * 2 ^ 9 + b01 p.anDone * 2 ^ 8 + fld p.conf 1 1 * 2 ^ 4 + b01 p.link * 2 + b01 p.admin

/-- PORT_QUERY (0x0302, R178). A used lane's SNR is measured: a free value. -/
def cmdPortQuery : Command where
  opcode := 0x0302
  front := true
  room := false
  mctp := true
  recovery := false
  sched := false
  shape := fixedShape 8
  zero := zeroAt [(1, 7)]
  body := fun x s =>
    let n := fld x.pkt.params 0 1
    if 3 < n then Out.of s .invalidParam
    else
      let p := s.port n
      let (snr, s') := s.free
      let lanes := (List.range 4).flatMap fun i => if i < p.lanes then leBytes (snr.toNat / 2 ^ (16 * i)) 2 else pad 2
      .done .ok (leBytes (s.portStatus n) 4 ++ leBytes (fld p.conf 2 1) 1 ++
        leBytes (b01 p.anDone + 2 * b01 p.ltDone + 4 * b01 p.noCommon) 1 ++ leBytes p.mtu 2 ++ leBytes p.linkUps 4 ++ pad 4 ++
        p.lastChange.bytes ++ fit (p.ptp.drop 1) 3 ++ pad 1 ++ fit (p.ptp.drop 4) 12 ++ lanes ++ pad 8) s'

/-! ## Frames from the link partner (R162, R167 to R169, R177) -/

/-- A frame is a pause or PFC frame: EtherType 0x8808 with opcode 0x0001 or 0x0101 (IEEE 802.3, 802.1Qbb). -/
def pauseKind (bs : List Byte) : Option Bool :=
  if bfld bs 12 2 ≠ 0x8808 then none
  else if bfld bs 14 2 = 0x0001 then some false
  else if bfld bs 14 2 = 0x0101 then some true
  else none

/-- Pause a class for a number of quanta, or let it go on (R169). -/
def Port.pauseClass (p : Port) (clock cls quanta : Nat) : Port :=
  if quanta = 0 then { p with paused := Tbl.erase cls p.paused }
  else { p with paused := Tbl.put cls (clock + p.quantaNs quanta) p.paused }

/-- The port acts on a pause or PFC frame, drops it and counts it (R167, R169). -/
def State.pauseIn (s : State) (n : Nat) (bs : List Byte) (pfc : Bool) : State :=
  let p := s.port n
  let s := s.bump (portReg (if pfc then R.PORT_RX_PFC else R.PORT_RX_PAUSE) n)
  if pfc ∧ fld p.conf 6 1 = 2 then
    let cs := (enabledClasses p.conf).filter fun c => bit (bfld bs 16 2) c
    s.setPort n (cs.foldl (fun p c => p.pauseClass s.clock c (bfld bs (18 + 2 * c) 2)) p)
  else if !pfc ∧ fld p.conf 6 1 = 1 then s.setPort n (p.pauseClass s.clock 0 (bfld bs 16 2))
  else s

/-- PAUSE_FRAME_RECEIVE (R169). -/
def execPauseFrameReceive (port : Fin 4) (bytes : List Byte) (s : State) : Res :=
  match pauseKind bytes with
  | some pfc => if (s.port port.val).link then .next (s.pauseIn port.val bytes pfc) else .next s
  | none => .next s

/-- PAUSE_QUANTA_EXPIRY (R169). -/
def execPauseQuantaExpiry (port : Fin 4) (cls : Fin 8) (s : State) : Res :=
  let p := s.port port.val
  if p.paused.any fun e => decide (e.1 = cls.val) && decide (e.2 ≤ s.clock) then
    .next (s.setPort port.val { p with paused := Tbl.erase cls.val p.paused })
  else .next s

/-- PFC_XOFF_REPEAT (R169): every half quanta time while the occupancy stays above XON. -/
def execPfcXoffRepeat (port : Fin 4) (cls : Fin 8) (s : State) : Res :=
  let p := s.port port.val
  let (_, xon, _) := classLimits p.conf cls.val
  if (enabledClasses p.conf).contains cls.val ∧ (p.xoff.any fun e => decide (e.1 = cls.val) && decide (e.2 + p.quantaNs p.quanta / 2 ≤ s.clock)) ∧ xon < s.occupancy port.val cls.val then
    .next ((s.sendPause port.val cls.val p.quanta).setPort port.val { p with xoff := Tbl.put cls.val s.clock p.xoff })
  else .next s

/-- A frame that passed the MAC's checks goes to the parse slices with its timestamp (R167, R177). -/
def State.acceptFrame (s : State) (n : Nat) (bytes : List Byte) : State :=
  let p := s.port n
  let q := parse ⟨fld p.conf 0x0C 2, 0, 0⟩ bytes
  let stamp := decide (fld p.ptp 1 1 ≠ 0) && (ptpEvent q bytes || decide (fld p.ptp 3 1 = 1))
  let k := { Pkt.fresh bytes n n (p.stampTime s.now false) with tsValid := stamp }
  let s := (s.count64 (portReg R.PORT_RX_FRAMES n) 1).count64 (portReg R.PORT_RX_BYTES n) (bytes.length + 4)
  State.flow { s.stir with pipe := { s.pipe with input := s.pipe.input ++ [k] } }

/-- RX_FRAME (R162, R167, R169): `bytes` without the FCS; `corrected` and `uncorrectable` count the frame's FEC codewords. -/
def execRxFrame (port : Fin 4) (bytes : List Byte) (fcsOk : Bool) (corrected uncorrectable : Nat) (s : State) : Res :=
  let n := port.val
  let p := s.port n
  if !p.link then .next s
  else
    let s := (s.count (portReg R.PORT_FEC_CORRECTED n) corrected).count (portReg R.PORT_FEC_UNCORRECTABLE n) uncorrectable
    let cls := p.classOf bytes
    if bytes.length + 4 < 64 then .next (s.bump (portReg R.PORT_RX_RUNT n))
    else if p.mtu < bytes.length + 4 then .next (s.bump (portReg R.PORT_RX_OVERSIZE n))
    else if !fcsOk ∨ uncorrectable ≠ 0 then .next (s.bump (portReg R.PORT_RX_FCS_ERR n))
    else match pauseKind bytes with
      | some pfc => .next (s.pauseIn n bytes pfc)
      | none =>
        if (enabledClasses p.conf).contains cls ∧ (classLimits p.conf cls).2.2 ≤ s.occupancy n cls then
          .next (s.bump (portReg R.PORT_RX_BUF_DROP n))
        else .next (s.acceptFrame n bytes)

/-! ## The link (R163 to R165) -/

/-- MODULE_READY (R164). -/
def execModuleReady (port : Fin 4) (s : State) : Res :=
  let p := s.port port.val
  .next (s.setPort port.val { p with moduleReady := true, training := if p.admin && !p.link then some s.clock else p.training })

/-- NO_COMMON_ABILITY (R163): the link stays down. -/
def execNoCommonAbility (port : Fin 4) (s : State) : Res :=
  let p := s.port port.val
  if p.admin ∧ !p.link ∧ p.conf ≠ [] ∧ !p.c2m ∧ bit (fld p.conf 3 1) 0 then
    .next (s.setPort port.val { p with noCommon := true, anDone := false, ltDone := false })
  else .next s

/-- LINK_DOWN (R165): 0 loss of lock, 1 local fault, 2 remote fault. The port sends Remote Fault and trains again. -/
def execLinkDown (port : Fin 4) (fault : Fin 3) (s : State) : Res :=
  let n := port.val
  if !(s.port n).link then .next s
  else
    let s := s.portDown n
    let s := s.setPort n { s.port n with localFault := decide (fault.val = 1), remoteFault := decide (fault.val = 2) }
    .next (s.emit (.remoteFault n))

/-- The port comes up (R163, R164): training of a CR or KR port did what AN_LT enables. -/
def State.portUp (s : State) (n : Nat) : State :=
  let p := s.port n
  let an := !p.c2m && bit (fld p.conf 3 1) 0
  let lt := !p.c2m && bit (fld p.conf 3 1) 1
  let s := s.setPort n { p with
    link := true, anDone := an, ltDone := lt, noCommon := false, localFault := false, remoteFault := false, training := none
    linkUps := (p.linkUps + 1) % 2 ^ 32 }
  s.linkEvent n true

/-- The port may come up now: administratively up, configured, training, and for C2M the module ready (R164). -/
def Port.mayRise (p : Port) : Bool := p.admin && decide (p.conf ≠ []) && !p.link && p.training.isSome && (!p.c2m || p.moduleReady)

end Sys2Proof.Machine
end

