-- ==== Sys2Proof/Machine/Classify.lean ====
section
/-!
DEFINITION. Classification: keys, the large tables, lookup results, payload patterns, hashing, the entry window and the CLS
commands (R202 to R233).
-/

namespace Sys2Proof.Machine

/-! ## Tables and banks (R208, R216, R218, R220, R227, R229) -/

/-- Bytes of an entry of a table code (R231). -/
def entrySize (table : Nat) : Nat :=
  match table with
  | 0 | 1 => 64 | 2 => 128 | 3 => 16 | 4 => 160 | _ => 4

/-- Entries of a table. -/
def tableSize (table : Nat) : Nat :=
  match table with
  | 0 => 4194304 | 1 => 64 | 2 => 131072 | 3 => 4096 | 4 => 4096 | 5 => 524288 | _ => 0

/-- Byte of an entry that holds VALID in bit 7; none for the indirection table. -/
def controlAt (table : Nat) : Option Nat :=
  match table with
  | 0 | 1 | 2 => some 0x2B | 3 => some 2 | 4 => some 0x80 | _ => none

/-- Key of an entry in the sparse store. -/
def entryKey (table bank index : Nat) : Nat := table * 2 ^ 24 + bank * 2 ^ 23 + index

/-- An entry never written reads as zero (R542). -/
def entryZero (k : Nat) : List Byte := pad (entrySize (k / 2 ^ 24))

/-- An entry. -/
def State.entry (s : State) (table bank index : Nat) : List Byte := Tbl.get entryZero s.cls.entries (entryKey table bank index)

/-- Change an entry. -/
def State.setEntryAt (s : State) (k : Nat) (b : List Byte) : State :=
  { s with cls := { s.cls with entries := Tbl.set entryZero s.cls.entries k b } }

/-- An entry's VALID bit. -/
def entryValid (table : Nat) (b : List Byte) : Bool :=
  match controlAt table with
  | some o => bit (fld b o 1) 7
  | none => false

/-- Listed entries of a table's bank, by index. -/
def State.bankEntries (s : State) (table bank : Nat) : List (Nat × List Byte) :=
  (s.cls.entries.filter fun e => decide (entryKey table bank 0 ≤ e.1 ∧ e.1 < entryKey table bank 0 + 2 ^ 23)).map fun e =>
    (e.1 % 2 ^ 23, e.2)

/-- Bank that a generation selects for a table code (R229; layout of CLS_BANK_SELECT DESIGN CHOICE, log entry 23). The flow
stash and the ranges belong to the flow and the ternary bank. -/
def bankOf (c : Settings) (table : Nat) : Nat :=
  fld (c.block 0x0401 0) (match table with | 1 => 0 | 3 => 2 | t => t) 1

/-- A live generation references a bank (R22). -/
def State.bankLive (s : State) (table bank : Nat) : Bool :=
  decide (bankOf s.gen.cur table = bank) || (s.gen.prevLive && decide (bankOf s.gen.prev table = bank))

/-! ## Keys (R206, R207) -/

/-- Selectors of a key profile block: field and level. -/
def selectors (b : List Byte) : List (Nat × Nat) :=
  (List.range (fld b 2 1)).map fun i => (fld b (4 + 2 * i) 1, fld b (5 + 2 * i) 1)

/-- Total key bytes of selectors; none when one names no catalogue field or a level the field does not have. -/
def keyBytes (sel : List (Nat × Nat)) : Option Nat :=
  sel.foldl (fun n f => match n, fieldSize f.1 with
    | some n, some k => if fieldLevelOk f.1 f.2 then some (n + k) else none
    | _, _ => none) (some 0)

/-- What a packet's keys read. -/
def Pkt.keyCtx (p : Pkt) : KeyCtx := ⟨p.sourceField, p.txMeta, p.recircField, p.pktType⟩

/-- The lookup key of a profile: 40 key bytes, PRESENT and the profile number (R206). -/
def lookupKey (c : Settings) (profile : Nat) (q : Parsed) (p : Pkt) : List Byte :=
  let sel := selectors (c.block 0x0402 profile)
  let one (f : Nat × Nat) : List Byte × Bool := match q.field p.keyCtx p.bytes f.1 f.2 with
    | some v => (v, true)
    | none => (pad ((fieldSize f.1).getD 0), false)
  let vs := sel.map one
  let present := (vs.zipIdx.map fun v => b01 v.1.2 * 2 ^ v.2).sum
  fit (vs.map fun v => v.1).flatten 40 ++ leBytes present 2 ++ leBytes profile 1

/-- Source class (R207). -/
def Pkt.sourceClass (p : Pkt) : Nat := if p.recirc then 5 else if p.source < 4 then p.source else 4

/-- Parse class of the innermost level (R207). -/
def Parsed.parseClass (q : Parsed) : Nat :=
  let l := q.cur
  if q.frag then 7
  else if l.l3 = 1 then (if l.l4 = 1 then 1 else if l.l4 = 2 then 2 else 3)
  else if l.l3 = 2 then (if l.l4 = 1 then 4 else if l.l4 = 2 then 5 else 6)
  else 0

/-- Exact-match, ternary and hash profiles that the selection map gives; 0xFF is none, as is a map never staged. -/
def mapProfiles (c : Settings) (q : Parsed) (p : Pkt) : Nat × Nat × Nat :=
  match c.block 0x0402 256 with
  | [] => (0xFF, 0xFF, 0xFF)
  | b =>
    let o := 4 + 4 * (p.sourceClass * 8 + q.parseClass)
    (fld b o 1, fld b (o + 1) 1, fld b (o + 2) 1)

/-! ## Exact match (R209 to R213) -/

/-- Seeds of a flow bank; of one never loaded 0xFFFF_FFFF and 0 (DESIGN CHOICE, log entry 24). -/
def State.seeds (s : State) (bank : Nat) : Nat × Nat := Tbl.get (fun _ => (0xFFFFFFFF, 0)) s.cls.seeds bank

/-- H1 and H2 of a lookup key (R209). -/
def State.hashes (s : State) (bank : Nat) (key : List Byte) : Nat × Nat :=
  ((crc32c (BitVec.ofNat 32 (s.seeds bank).1) key).toNat, (crc32c (BitVec.ofNat 32 (s.seeds bank).2) key).toNat)

/-- Entries of a lookup in the order of R210, by store key. -/
def lookOrder (bank b1 b2 : Nat) : List Nat :=
  ((List.range 4).map fun i => entryKey 0 bank (b1 * 4 + i)) ++ ((List.range 4).map fun i => entryKey 0 bank (b2 * 4 + i)) ++
    (List.range 64).map fun i => entryKey 1 bank i

/-- A flow entry matches a lookup key (R210). -/
def flowMatches (b key : List Byte) : Bool := bit (fld b 0x2B 1) 7 && decide (b.take 43 = key)

/-- Thread address of a bucket of a flow table bank (R208, R519). -/
def bucketAddr (bank b : Nat) : Nat := 0x104000000 + bank * 0x10000000 + 256 * b

/-- A bucket with an uncorrectable line is treated as a miss (R534). -/
def State.bucketBad (s : State) (bank b : Nat) : Bool :=
  s.memory.bad.any fun a => decide (bucketAddr bank b ≤ a ∧ a < bucketAddr bank b + 256)

/-- The winning entry of both buckets and the stash. -/
def State.flowFind (s : State) (l : Look) (key : List Byte) : Option Nat :=
  (lookOrder l.bank l.b1 l.b2).find? fun k =>
    !(decide (k / 2 ^ 24 = 0) && s.bucketBad l.bank (k % 2 ^ 23 / 4)) && flowMatches (Tbl.get entryZero s.cls.entries k) key

/-- A set of the flow cache (R211): its index is H1 bits [14:0], and each copy is one of its entry's bank. -/
def State.cacheSet (s : State) (set : Nat) : List (Nat × Bool) := Tbl.get (fun _ => []) s.cls.cache set

/-- Change a set of the flow cache. -/
def State.setCacheSet (s : State) (set : Nat) (ws : List (Nat × Bool)) : State :=
  { s with cls := { s.cls with cache := Tbl.set (fun _ => []) s.cls.cache set ws } }

/-- Write the age clock into an entry's LAST_HIT (R214). -/
def State.stampHit (s : State) (k : Nat) : State :=
  s.setEntryAt k (splice (Tbl.get entryZero s.cls.entries k) 0x36 (leBytes s.cls.ageClock 2))

/-- Use a cached entry: it becomes the most recently used, and hit. -/
def useEntry (ws : List (Nat × Bool)) (k : Nat) : List (Nat × Bool) := (k, true) :: ws.filter fun w => decide (w.1 ≠ k)

/-- Fill the cache with an entry; the least recently used of 8 ways goes, writing LAST_HIT when it was hit (R211, R214). -/
def State.cacheFill (s : State) (set k : Nat) : State :=
  let ws := useEntry (s.cacheSet set) k
  match ws[8]? with
  | some w => (if w.2 then s.stampHit w.1 else s).setCacheSet set (ws.take 8)
  | none => s.setCacheSet set ws

/-- Remove an entry's cached copy (R213). -/
def State.uncache (s : State) (k : Nat) : State :=
  { s with cls := { s.cls with cache := (s.cls.cache.map fun e => (e.1, e.2.filter fun w => decide (w.1 ≠ k))).filter fun e => decide (e.2 ≠ []) } }

/-! ## Ternary and range rules (R216 to R218) -/

/-- A range reference holds (R218). -/
def State.rangeHolds (s : State) (bank : Nat) (q : Parsed) (p : Pkt) (ref : Nat) : Bool :=
  if !bit ref 15 then true
  else
    let r := s.entry 3 bank (ref % 4096)
    match q.field p.keyCtx p.bytes (fld r 0 1) (fld r 1 1) with
    | some v => bit (fld r 2 1) 7 && decide (fld r 4 2 ≤ beNat v) && decide (beNat v ≤ fld r 6 2)
    | none => false

/-- Bytes of `a` and `b` agree under a mask. -/
def maskedEq : List Byte → List Byte → List Byte → Bool
  | a :: as, b :: bs, m :: ms => decide (a &&& m = b &&& m) && maskedEq as bs ms
  | _, _, _ => true

/-- A ternary entry matches (R217). -/
def State.ternaryMatches (s : State) (bank : Nat) (q : Parsed) (p : Pkt) (key b : List Byte) : Bool :=
  bit (fld b 0x2B 1) 7 && decide (fld b 0x2A 1 % 16 = fld key 42 1) && maskedEq (key.take 40) b (b.drop 0x2C) &&
    maskedEq ((key.drop 40).take 2) (b.drop 0x28) (b.drop 0x54) &&
    ((List.range 4).all fun r => s.rangeHolds bank q p (fld b (0x5C + 2 * r) 2))

/-- The matching entry of a stage with the lowest PRIORITY, the lower index first (R219). -/
def State.ternaryFind (s : State) (bank : Nat) (q : Parsed) (p : Pkt) (key : List Byte) (stage : Bool) : Option (Nat × List Byte) :=
  (s.bankEntries 2 bank).foldl (fun best e =>
    if bit (fld e.2 0x2B 1) 6 = stage ∧ s.ternaryMatches bank q p key e.2 then
      match best with
      | some b => if fld e.2 0x58 4 < fld b.2 0x58 4 then some e else best
      | none => some e
    else best) none

/-! ## Payload patterns (R220 to R222) -/

/-- Where a pattern's BASE lies in a packet (R220). -/
def patternBase (q : Parsed) (base : Nat) : Option Nat :=
  let outer := match q.levels with | l :: _ => l | [] => q.cur
  match base with
  | 0 => some 0
  | 1 => if outer.l3 = 0 then none else some outer.l3off
  | 2 => if q.cur.l3 = 0 then none else some q.cur.l3off
  | 3 => q.cur.l4off
  | 4 => q.cur.l4off.map fun o => o + q.cur.l4len
  | _ => none

/-- End of the L3-trimmed packet (R198, R221): each IP header ends the bytes behind its total or payload length. -/
def trimEnd (q : Parsed) (len : Nat) : Nat :=
  q.levels.foldl (fun e l => if l.l3 = 1 ∨ l.l3 = 2 then min e l.l3end else e) len

/-- A pattern matches a packet (R221). -/
def patternMatches (q : Parsed) (bytes b : List Byte) : Bool :=
  match patternBase q (fld b 0x81 1) with
  | none => false
  | some base =>
    let n := fld b 0x82 1
    let tries := if bit (fld b 0x80 1) 6 then 1 else fld b 0x86 2
    (List.range tries).any fun i =>
      let o := base + fld b 0x84 2 + i
      decide (o + n ≤ trimEnd q bytes.length) && maskedEq (slice bytes o (o + n)) b ((b.drop 0x40).take n)

/-- Search a pattern group: the pattern result, with HITS counted (R222). -/
def State.patternSearch (s : State) (bank group : Nat) (q : Parsed) (bytes : List Byte) : Nat × State :=
  let hits := (s.bankEntries 4 bank).filter fun e =>
    bit (fld e.2 0x80 1) 7 && decide (fld e.2 0x80 1 % 64 = group) && patternMatches q bytes e.2
  match hits with
  | [] => (0xFFFFFFFF, s)
  | e :: more =>
    (fld e.2 0x88 2 * 2 ^ 16 + b01 (decide (more ≠ [])) * 2 ^ 15 + e.1 % 4096,
      s.setEntryAt (entryKey 4 bank e.1) (splice e.2 0x90 (leBytes (fld e.2 0x90 8 + 1) 8)))

/-! ## Hashing (R223 to R226) -/

/-- The 32 bits of a key from bit `i` on, most significant first (R224). -/
def keyWindow (key i : Nat) (keyBits : Nat) : Nat := key / 2 ^ (keyBits - 32 - i) % 2 ^ 32

/-- The Toeplitz hash (R224). -/
def toeplitz (key input : List Byte) : Nat :=
  let k := beNat key
  let n := 8 * key.length
  ((List.range (8 * input.length)).foldl (fun (h : BitVec 32) i =>
    if bit ((input.getD (i / 8) 0).toNat) (7 - i % 8) then h ^^^ BitVec.ofNat 32 (keyWindow k i n) else h) 0#32).toNat

/-- Order two sides so that both directions of a flow give one input (R225). -/
def orderSides (full : Bool) (a b : List Byte) : List Byte × List Byte :=
  if full && decide (beNat b < beNat a) then (b, a) else (a, b)

/-- Addresses of an IP level. -/
def Level.addrs (l : Level) (bs : List Byte) : Option (List Byte × List Byte) :=
  if l.l3 = 1 then some (slice bs (l.l3off + 12) (l.l3off + 16), slice bs (l.l3off + 16) (l.l3off + 20))
  else if l.l3 = 2 then some (slice bs (l.l3off + 8) (l.l3off + 24), slice bs (l.l3off + 24) (l.l3off + 40))
  else none

/-- INPUT 0 at an Ethernet header: destination MAC, then source MAC (R224); in Full profile the smaller side stands in the
source position (R225). -/
def macInput (full : Bool) (bs : List Byte) (o : Nat) : List Byte :=
  let (a, b) := orderSides full (slice bs (o + 6) (o + 12)) (slice bs o (o + 6))
  b ++ a

/-- The hash input of a profile block, with the fallbacks of R226. -/
def hashInput (full : Bool) (b : List Byte) (q : Parsed) (bs : List Byte) : List Byte :=
  let input := fld b 1 1
  let lvl := q.at (fld b 2 1)
  let outermost : List Byte := macInput full bs 0
  if input = 0 then
    macInput full bs ((lvl.bind Level.l2).getD 0)
  else match lvl with
    | none => outermost
    | some l =>
      match l.addrs bs with
      | none => outermost
      | some (src, dst) =>
        let (a, c) := orderSides full src dst
        let byAddr := a ++ c
        if q.frag then byAddr
        else match input with
          | 2 => match l.field bs 0x30, l.field bs 0x31 with
            | some sp, some dp =>
              let (x, y) := orderSides full (src ++ sp) (dst ++ dp)
              let n := src.length
              x.take n ++ y.take n ++ x.drop n ++ y.drop n
            | _, _ => byAddr
          | 3 => match l.spi with
            | some spi => byAddr ++ beBytes spi 4
            | none => byAddr
          | _ => byAddr

/-- Flow hash of a packet under a hash profile; none for a profile never staged. -/
def State.flowHash (s : State) (c : Settings) (profile : Nat) (q : Parsed) (bs : List Byte) : Option Nat :=
  match c.block 0x0403 profile with
  | [] => none
  | b => some (toeplitz ((b.drop 8).take 44) (hashInput (decide (s.gen.profile = 2)) b q bs))

/-! ## The lookup result (R204, R219) -/

/-- An action record of a generation (R234, R235): record 0 drops, a record never written is invalid. -/
def actionRec (c : Settings) (i : Nat) : List Byte :=
  if i = 0 then pad 1 ++ leBytes 0x80 1 ++ pad 62
  else match c.block 0xFFFF (0x1000000 + 64 * i) with
    | [] => pad 64
    | b => b

/-- An action record as most recently written, committed or not (R7); record 0 is fixed (R235). -/
def State.writtenAction (s : State) (i : Nat) : List Byte :=
  if i = 0 then actionRec s.gen.cur 0
  else match Tbl.get (fun _ => []) s.pipe.written i with
    | [] => pad 64
    | b => b

/-- The default action of a packet's source (R202). -/
def defaultAction (c : Settings) (p : Pkt) : Nat :=
  let e := excOf c
  fld e (if p.sourceClass < 4 then 8 + 4 * p.sourceClass else if p.sourceClass = 4 then 0x18 else 0x1C) 4 % 2 ^ 24

/-- The exception action of a parse, if one stops classification (R199, R219): its code and back-stair reason. -/
def excAction (c : Settings) (q : Parsed) : Option (Nat × Nat) :=
  let e := excOf c
  let pick (code reason : Nat) : Option (Nat × Nat) := if code = 0 then none else some (code, reason)
  if q.bad then pick (fld e 1 1) 2 else if q.deep then pick (fld e 0 1) 1 else none

/-- A packet's flow hash under a hash profile; 0xFF is none (R223). -/
def State.hashed (s : State) (c : Settings) (q : Parsed) (hp : Nat) (p : Pkt) : Pkt :=
  { p with hashProf := if hp = 0xFF then none else some hp, hash := if hp = 0xFF then none else s.flowHash c hp q p.bytes }

/-- Apply a winning entry's fields: ACTION, FLOW_MARK, HASH_PROFILE and PATTERN_GROUP; flow and ternary entries hold them at
different offsets. -/
def State.applyEntry (s : State) (c : Settings) (q : Parsed) (mapHash : Nat) (p : Pkt) (e : Option (List Byte)) : Pkt × State :=
  let b := e.getD []
  let hp0 := if e.isSome then fld b 8 1 else 0xFF
  let hp := if hp0 = 0xFF then mapHash else hp0
  let group := if e.isSome then fld b 9 1 else 0
  let (pat, s) := if bit group 7 then s.patternSearch (bankOf c 4) (group % 64) q p.bytes else (0xFFFFFFFF, s)
  let p := s.hashed c q hp { p with action := if e.isSome then fld b 0 4 % 2 ^ 24 else defaultAction c p, mark := fld b 4 4, pattern := pat }
  -- a fragment handed to a service takes FRAG_SERVICE instead (R204)
  if q.frag then
    let r := actionRec c p.action
    if (fld r 0 1 = 4 ∨ fld r 0 1 = 3) ∧ fld r 6 1 ≠ 0 then
      ({ p with stair := some (if fld (excOf c) 2 1 = 2 then 6 else 0) }, s.bump R.CLS_FRAG_SERVICE)
    else (p, s.bump R.CLS_FRAG_TENANT)
  else (p, s)

/-- Resolve a packet's lookup result once its exact-match result is known (R219); the winner's HITS count. -/
def State.resolve (s : State) (c : Settings) (q : Parsed) (p : Pkt) (exact : Option (List Byte)) : Pkt × State :=
  let (_, tern, mapHash) := mapProfiles c q p
  let bank := bankOf c 2
  let key := if tern = 0xFF then [] else lookupKey c tern q p
  let find (stage : Bool) := if tern = 0xFF then none else s.ternaryFind bank q p key stage
  let win (e : Nat × List Byte) : Pkt × State :=
    (s.setEntryAt (entryKey 2 bank e.1) (splice e.2 0x70 (leBytes (fld e.2 0x70 8 + 1) 8))).applyEntry c q mapHash p (some (e.2.drop 0x64))
  match find false, exact, find true with
  | some g, _, _ => win g
  | none, some b, _ => s.applyEntry c q mapHash p (some (b.drop 0x2C))
  | none, none, some f => win f
  | none, none, none => s.applyEntry c q mapHash p none

/-- Hand a packet to the switch stage. -/
def State.addPiece (s : State) (x : Piece) : State := { s with pipe := { s.pipe with pieces := s.pipe.pieces ++ [x] } }

/-- Look up and resolve a parsed packet: a flow cache hit resolves at once, a miss waits for GDDR6 (R211). -/
def State.lookup (s : State) (c : Settings) (q : Parsed) (p : Pkt) : State :=
  let (exact, _, _) := mapProfiles c q p
  if exact = 0xFF then
    let (p, s) := s.resolve c q p none
    s.addPiece ⟨p, none⟩
  else
    let key := lookupKey c exact q p
    let bank := bankOf c 0
    let h := s.hashes bank key
    let set := h.1 % 32768
    match (s.cacheSet set).find? fun w => decide (w.1 / 2 ^ 23 % 2 = bank) && flowMatches (Tbl.get entryZero s.cls.entries w.1) key with
    | some w =>
      let s := (s.setCacheSet set (useEntry (s.cacheSet set) w.1)).count64 R.CLS_CACHE_HIT 1
      let (p, s) := s.resolve c q p (some (Tbl.get entryZero s.cls.entries w.1))
      s.addPiece ⟨p, none⟩
    | none => (s.count64 R.CLS_CACHE_MISS 1).addPiece ⟨p, some ⟨bank, h.1 % 2 ^ 20, h.2 % 2 ^ 20, true⟩⟩

/-- Fill in the parse result and the checksum flags, counting marks and failed checks (R200, R201, R233). -/
def State.noteParse (s : State) (q : Parsed) (p : Pkt) : Pkt × State :=
  let s := if q.deep then s.bump R.CLS_PARSE_DEEP else s
  let s := if q.bad then s.bump R.CLS_LEN_CONFLICT else s
  let p := { p with pktType := q.pktType, l3ok := false, l4ok := false }
  if p.source < 4 then
    let (n, bad) := q.l3Checks p.bytes
    let l4 := q.l4Check p.bytes
    ({ p with l3ok := decide (0 < n) && decide (bad = 0), l4ok := l4.getD false },
      s.count R.CLS_CSUM_BAD (bad + b01 (decide (l4 = some false))))
  else (p, s)

/-- A packet enters a parse slice (R23, R30, R191, R219). -/
def State.parseIn (s : State) (p : Pkt) : State :=
  if s.pktRetired p then s.retireDrop p
  else
    let p := { p with stamp := some (p.stamp.getD s.gen.current) }
    let c := s.pktCfg p
    let q := s.parsePkt p
    let (p, s) := s.noteParse q p
    match excAction c q with
    | some (code, reason) =>
      let hp := (mapProfiles c q p).2.2
      let p := s.hashed c q hp { p with mark := 0, pattern := 0xFFFFFFFF }
      s.addPiece ⟨{ p with stair := some (if code = 1 then 0 else reason) }, none⟩
    | none => s.lookup c q { p with stair := none }

/-- Packets of one source (R192). -/
def Pkt.sameSource (a b : Pkt) : Bool := decide (a.origin = b.origin) && decide (a.recirc = b.recirc)

/-- Take the first element that satisfies a test. -/
def takeFirst {α : Type} (f : α → Bool) : List α → Option (α × List α)
  | [] => none
  | x :: xs => if f x then some (x, xs) else (takeFirst f xs).map fun r => (r.1, x :: r.2)

/-- Contender of a waiting packet at the parse input (R38): ports 0 to 3, 4 host transmit, 5 recirculation. -/
def Pkt.contender (p : Pkt) : Nat := if p.recirc then 5 else if p.origin < 4 then p.origin else 4

/-- A packet's source has a place left in the merge stage (R192). -/
def State.mayEnter (s : State) (p : Pkt) : Bool := decide ((s.pipe.pieces.filter fun e => e.pkt.sameSource p).length < 4096)

/-- The first waiting packet of each source. -/
def firstOfSource : List Pkt → List Pkt
  | [] => []
  | p :: ps => p :: (firstOfSource ps).filter fun x => !x.sameSource p

/-- The contender whose turn it is among packets that may enter: recirculation first, then round robin among the ports and the host (R38). -/
def turn (granted : Nat) (ps : List Pkt) : Option Nat :=
  if ps.any fun p => p.recirc then some 5
  else ((List.range 5).map fun i => (granted + 1 + i) % 5).find? fun c => ps.any fun p => decide (p.contender = c)

/-- The packet that the input arbiter grants now. Where several sources of one contender wait, such as two transmit rings, the order among
them is the command's `n` (DESIGN CHOICE, log entry 16). -/
def State.grantedPacket (s : State) (n : Nat) : Option Pkt :=
  let ps := (firstOfSource s.pipe.input).filter s.mayEnter
  (turn s.pipe.granted ps).bind fun c =>
    let mine := ps.filter fun p => decide (p.contender = c)
    mine[n % mine.length]?

/-- PACKET_PARSE (R38, R191, R192, R219): one cycle of the input arbiter, and the packet it grants enters a slice. A cycle in which a source
waits whose merge share of 4,096 packets is full counts in SOURCE_WAIT (DESIGN CHOICE, log entry 66: the model's cycles of the arbiter are
these commands). -/
def execPacketParse (n : Nat) (s : State) : Res :=
  let t := if s.pipe.input.any fun p => !s.mayEnter p then s.bump R.CLS_SOURCE_WAIT else s
  match s.grantedPacket n with
  | none => .next t
  | some x =>
    match takeFirst (fun p => p.sameSource x) s.pipe.input with
    | none => .next t
    | some (p, rest) =>
      let granted := if p.recirc then s.pipe.granted else p.contender
      .next (State.parseIn { t with pipe := { t.pipe with input := rest, granted := granted } } p).flow

/-- FLOW_TABLE_LOOKUP_DONE (R210, R211, R213): the n-th waiting GDDR6 lookup returns. -/
def execFlowTableLookupDone (n : Nat) (s : State) : Res :=
  match (s.pipe.pieces.zipIdx.filter fun e => e.1.look.isSome)[n]? with
  | none => .next s
  | some (x, i) =>
    match x.look with
    | none => .next s
    | some l =>
      let c := s.pktCfg x.pkt
      let q := s.parsePkt x.pkt
      let key := lookupKey c (mapProfiles c q x.pkt).1 q x.pkt
      let found := s.flowFind l key
      let s := match found with
        | none => s.bump R.CLS_FLOW_MISS
        | some k => if l.fill then s.cacheFill (l.b1 % 32768) k else s
      let (p, s) := s.resolve c q x.pkt (found.map fun k => Tbl.get entryZero s.cls.entries k)
      .next { s with pipe := { s.pipe with pieces := s.pipe.pieces.set i ⟨p, none⟩ } }

/-! ## Aging (R214, R215) -/

/-- AGE_CLOCK_ADVANCE (R214): every 2^26 ns of the period timer; hit entries of the cache write LAST_HIT. -/
def execAgeClockAdvance (s : State) : Res :=
  let now := s.time.timer / 2 ^ 58 % 65536
  if now = s.cls.ageClock then .next s
  else
    let s := { s with cls := { s.cls with ageClock := now } }
    let hit := s.cls.cache.flatMap fun e => e.2.filterMap fun w => if w.2 then some w.1 else none
    let s := hit.foldl State.stampHit s
    .next { s with cls := { s.cls with cache := s.cls.cache.map fun e => (e.1, e.2.map fun w => (w.1, false)) } }

/-- Idle timeout of an age class in seconds; 0 for never (R214). -/
def ageTimeout (c : Nat) : Nat :=
  match c with
  | 1 => 1 | 2 => 10 | 3 => 60 | 4 => 300 | 5 => 900 | 6 => 1800 | 7 => 3600 | _ => 0

/-- A valid flow entry's idle time has reached its timeout. -/
def flowExpired (clock : Nat) (b : List Byte) : Bool :=
  let t := ageTimeout (bits (fld b 0x2B 1) 6 4)
  bit (fld b 0x2B 1) 7 && decide (t ≠ 0) && decide (t * nsPerSec ≤ (clock + 65536 - fld b 0x36 2) % 65536 * 2 ^ 26)

/-- Clear an entry's VALID bit. -/
def clearValid (table : Nat) (b : List Byte) : List Byte :=
  match controlAt table with
  | some o => splice b o (leBytes (fld b o 1 % 128) 1)
  | none => b

/-- AGING_SWEEP (R214): idle entries of every referenced flow bank go. -/
def execAgingSweep (s : State) : Res :=
  let old := s.cls.entries.filter fun e =>
    decide (e.1 / 2 ^ 24 ≤ 1) && s.bankLive 0 (e.1 / 2 ^ 23 % 2) && flowExpired s.cls.ageClock e.2
  .next (old.foldl (fun s e => ((s.setEntryAt e.1 (clearValid 0 e.2)).uncache e.1).bump R.CLS_FLOW_AGED) s)

/-! ## The entry window (R230, R231) -/

/-- TABLE, BANK and INDEX of the window registers. -/
def State.window (s : State) : Nat × Nat × Nat :=
  ((s.reg R.CLS_WIN_SELECT).toNat % 8, (s.reg R.CLS_WIN_SELECT).toNat / 16 % 2, (s.reg R.CLS_WIN_INDEX).toNat % 2 ^ 22)

/-- Hash profile and action index of an entry are in range (R208, R234). -/
def resultOk (b : List Byte) (action hash : Nat) : Bool :=
  decide (fld b action 4 < 65536) && (decide (fld b hash 1 < 64) || decide (fld b hash 1 = 0xFF))

/-- Fields of an entry are in range: REASON 3 or 4 when not (R216 to R231). -/
def fieldsRefused (table : Nat) (b : List Byte) : Option Nat :=
  let check (ok : Bool) : Option Nat := if ok then none else some 4
  match table with
  | 0 | 1 => check (resultOk b 0x2C 0x34)
  | 2 => check (resultOk b 0x64 0x6C)
  | 3 => check (match fieldSize (fld b 0 1) with | some n => decide (n ≤ 2) && fieldLevelOk (fld b 0 1) (fld b 1 1) | none => !bit (fld b 2 1) 7)
  | 4 =>
    let n := fld b 0x82 1
    let w := fld b 0x86 2
    if fld b 0x88 2 = 0xFFFF then some 3
    else check (decide (fld b 0x81 1 ≤ 4) && decide (1 ≤ n ∧ n ≤ 64) && decide (1 ≤ w ∧ w ≤ 512) &&
      (!bit (fld b 0x80 1) 6 || decide (w = 1)) && decide (fld b 0x84 2 + w - 1 + n ≤ 1024))
  | _ =>
    let v := fld b 0 4
    let t := v % 65536
    check (match v / 2 ^ 30 with | 0 => true | 1 => decide (t < 2048) | 2 => decide (t < 4096) | _ => decide (t = 0))

/-- Valid patterns of a group in a bank. -/
def State.groupSize (s : State) (bank group : Nat) : Nat :=
  ((s.bankEntries 4 bank).filter fun e => bit (fld e.2 0x80 1) 7 && decide (fld e.2 0x80 1 % 64 = group)).length

/-- Set WIN_STATUS after an operation (R231): DONE, or DONE with REFUSED and a reason. -/
def State.winEnd (s : State) (refused : Option Nat) : State :=
  match refused with
  | none => s.setReg R.CLS_WIN_STATUS 1
  | some r => (s.setReg R.CLS_WIN_STATUS (BitVec.ofNat 64 (3 + 16 * r))).bump R.CLS_WIN_REFUSED

/-- An INVALIDATE in a bucket ends the right of lookups in it to fill the cache (R213). -/
def State.noFill (s : State) (bank : Nat) (bucket : Option Nat) : State :=
  { s with pipe := { s.pipe with pieces := s.pipe.pieces.map fun x =>
      { x with look := x.look.map fun l =>
          { l with fill := l.fill && !(decide (l.bank = bank) && (match bucket with | some b => decide (l.b1 = b ∨ l.b2 = b) | none => true)) } } } }

/-- The bank that a running CLS_BANK_LOAD fills is the one of an entry window operation: REASON 5 (R231). -/
def State.bankLoading (s : State) (table bank : Nat) : Bool :=
  let t := match table with | 1 => 0 | 3 => 2 | t => t
  s.cmd.running.any fun r => decide (r.ctx.opcode = 0x0400) && decide (r.object = t * 2 + bank)

/-- Why an entry window operation is refused, if it is (R230, R231). -/
def State.winRefused (s : State) (op : Nat) : Option Nat :=
  let (t, bank, i) := s.window
  let new := s.cls.winData.take (entrySize t)
  if tableSize t ≤ i ∨ (op = 2 ∧ controlAt t = none) then some 4
  else if s.bankLoading t bank then some 5
  else if op ≠ 1 then none
  else if entryValid t (s.entry t bank i) then some 1
  else match fieldsRefused t new with
    | some r => some r
    | none => if t = 4 ∧ entryValid 4 new ∧ s.groupSize bank (fld new 0x80 1 % 64) ≥ 256 then some 2 else none

/-- Write an entry whole (R230, R231); the device writes LAST_HIT and VERSION of a flow entry (R208, R214), and the line it wrote is good
again (R534). -/
def State.winPut (s : State) (t bank i : Nat) (new : List Byte) : State :=
  let new := if t ≤ 1 then splice new 0x36 (leBytes s.cls.ageClock 2 ++ leBytes (fld (s.entry t bank i) 0x38 1 + 1) 1) else new
  let line := bucketAddr bank 0 + 64 * i
  let s : State := if t = 0 then { s with memory := { s.memory with bad := s.memory.bad.filter fun a => decide (a < line ∨ line + 64 ≤ a) } } else s
  s.setEntryAt (entryKey t bank i) new

/-- Remove an entry's cached copy, and the right of lookups in its buckets to fill the cache (R213). -/
def State.winDrop (s : State) (t bank i : Nat) : State :=
  if t ≤ 1 then (s.uncache (entryKey t bank i)).noFill bank (if t = 0 then some (i / 4) else none) else s

/-- An entry window operation (R230, R231), as a write of its code to WIN_CMD begins it: WRITE leaves its slot invalid until its end, but an
indirection entry is written at once (R228); INVALIDATE clears VALID at once. While an operation is in progress, another is ignored and
counted. -/
def State.winStart (s : State) (op : Nat) : State :=
  if !(s.barOpen && s.windowOpen R.CLS_WIN_CMD) then s
  else if s.cls.winOp.isSome then s.bump R.CLS_WIN_REFUSED
  else match s.winRefused op with
    | some r => s.winEnd (some r)
    | none =>
      let (t, bank, i) := s.window
      let new := s.cls.winData.take (entrySize t)
      let s := if op = 1 ∧ t = 5 then s.winPut t bank i new
        else if op = 2 then (s.setEntryAt (entryKey t bank i) (clearValid t (s.entry t bank i))).winDrop t bank i
        else s
      { s.setReg R.CLS_WIN_STATUS 0 with cls := { s.cls with winOp := some ⟨op, t, bank, i, new⟩ } }

/-- The entry window operation in progress ends (R230): DONE sets. The rule allows 2 µs; it is the next tick at which no command waits (DESIGN
CHOICE, log entry 87). -/
def State.winFinish (s : State) : State :=
  match s.cls.winOp with
  | none => s
  | some w =>
    let s : State := { s with cls := { s.cls with winOp := none } }
    let s := match w.op with
      | 1 => if w.table = 5 then s else s.winPut w.table w.bank w.index w.data
      | 2 => s.winDrop w.table w.bank w.index
      | _ => { s with cls := { s.cls with winData := splice s.cls.winData 0 (s.entry w.table w.bank w.index) } }
    s.winEnd none

/-- WIN_WRITE (R230): the body, then the control byte. -/
def execWinWrite (s : State) : Res := .next (s.winStart 1)

/-- WIN_INVALIDATE (R213, R230). -/
def execWinInvalidate (s : State) : Res := .next (s.winStart 2)

/-- WIN_READ (R230). -/
def execWinRead (s : State) : Res := .next (s.winStart 3)

/-! ## Commands (R202, R206, R223, R229) -/

/-- CLS_BANK_SELECT (0x0401, R229): byte t is the bank of table code t (DESIGN CHOICE, log entry 23). -/
def cmdClsBankSelect : Command where
  opcode := 0x0401
  front := true
  room := false
  mctp := false
  recovery := false
  sched := false
  shape := fixedShape 8
  zero := zeroAt [(1, 1), (3, 1), (6, 2)]
  body := fun x s =>
    if (x.pkt.params.any fun b => decide (1 < b.toNat)) then Out.of s .invalidParam else Out.of (s.stage 0x0401 0 x.pkt.params) .ok

/-- Entries of a bank image as store keys and bytes; a flow image's entries past the table are the stash, a ternary image's
ranges follow its entries (DESIGN CHOICE, log entry 24). -/
def bankImage (table bank n : Nat) (bs : List Byte) : List (Nat × List Byte) :=
  let size := entrySize table
  let main := (List.range n).map fun i =>
    (if table = 0 ∧ i ≥ 4194304 then entryKey 1 bank (i - 4194304) else entryKey table bank i, (bs.drop (size * i)).take size)
  if table = 2 then main ++ (List.range 4096).map fun i => (entryKey 3 bank i, (bs.drop (size * n + 16 * i)).take 16) else main

/-- A bank image keeps the limits of the chapter; an action index beyond the table is refused in any flow or ternary entry (R234). -/
def imageOk (es : List (Nat × List Byte)) : Bool :=
  es.all (fun e =>
    let t := e.1 / 2 ^ 24
    (decide (fieldsRefused t e.2 = none) || !(entryValid t e.2 || decide (t = 5))) &&
      (decide (2 < t) || decide (fld e.2 (if t = 2 then 0x64 else 0x2C) 4 < 65536))) &&
    (List.range 64).all fun g =>
      decide ((es.filter fun e => decide (e.1 / 2 ^ 24 = 4) && bit (fld e.2 0x80 1) 7 && decide (fld e.2 0x80 1 % 64 = g)).length ≤ 256)

/-- A CLS_BANK_LOAD in range, whose bank no live generation references (R22, R229). -/
def State.bankLoadRefused (s : State) (bs : List Byte) : Option Status :=
  let t := fld bs 0 1
  let most := if t = 0 then 4194368 else tableSize t
  if !([0, 2, 4, 5].contains t) ∨ 1 < fld bs 1 1 ∨ most < fld bs 4 4 ∨ (t ≠ 0 ∧ !zeros bs 16 8) then some .invalidParam
  else if s.bankLive t (fld bs 1 1) then some .notPermitted
  else none

/-- Bytes of a bank image in host memory. -/
def bankImageBytes (bs : List Byte) : Nat := entrySize (fld bs 0 1) * fld bs 4 4 + if fld bs 0 1 = 2 then 65536 else 0

/-- A bank image that has been read goes into its bank (R229). -/
def State.loadBank (s : State) (bs : List Byte) : Out :=
  let t := fld bs 0 1
  let bank := fld bs 1 1
  let es := bankImage t bank (fld bs 4 4) (s.hostRead none (fld bs 8 8) (bankImageBytes bs))
  if !imageOk es then Out.of s .invalidParam
  else
    let twin := if t = 0 then 1 else if t = 2 then 3 else t
    let kept := s.cls.entries.filter fun e => !(decide (e.1 / 2 ^ 23 = t * 2 + bank) || decide (e.1 / 2 ^ 23 = twin * 2 + bank))
    let s := { s with cls := { s.cls with
      entries := es.foldl (fun m e => Tbl.set entryZero m e.1 e.2) kept
      seeds := if t = 0 then Tbl.put bank (fld bs 16 4, fld bs 20 4) s.cls.seeds else s.cls.seeds
      cache := if t = 0 then
          (s.cls.cache.map fun e => (e.1, e.2.filter fun w => decide (w.1 / 2 ^ 23 % 2 ≠ bank))).filter fun e => decide (e.2 ≠ [])
        else s.cls.cache } }
    Out.of s .ok

/-- The bank that a CLS_BANK_LOAD holds. -/
def bankObject (bs : List Byte) : Nat := fld bs 0 1 * 2 + fld bs 1 1

/-- CLS_BANK_LOAD (0x0400, R22, R82, R229): accepted, it reads the image and then loads it. -/
def cmdClsBankLoad : Command where
  opcode := 0x0400
  front := true
  room := false
  mctp := false
  recovery := false
  sched := false
  shape := fixedShape 24
  zero := zeroAt [(2, 2)]
  body := fun x s =>
    let bs := x.pkt.params
    match s.bankLoadRefused bs with
    | some st => Out.of s st
    | none =>
      if (s.runningOn 0x0400 (bankObject bs)).isSome then Out.of s .busy
      else .held (s.holdWork x (bankObject bs) (if bankImageBytes bs = 0 then [] else [(fld bs 8 8, bankImageBytes bs)]))
  after := some fun x s =>
    match s.bankLoadRefused x.pkt.params with
    | some st => Out.of s st
    | none => s.loadBank x.pkt.params

/-- CLS_KEY_PROFILE in range (R206, R207). -/
def keyProfileOk (bs : List Byte) : Bool :=
  let n := fld bs 2 1
  if fld bs 0 1 = 0 then
    decide (fld bs 1 1 < 16) && decide (1 ≤ n ∧ n ≤ 12) && zeros bs (4 + 2 * n) (24 - 2 * n) &&
      (match keyBytes (selectors bs) with | some k => decide (k ≤ 40) | none => false)
  else
    decide (fld bs 0 1 = 1) && zeros bs 1 2 && (recordsOf bs 4 4 48).all fun m =>
      (decide (fld m 0 1 < 16) || decide (fld m 0 1 = 0xFF)) && (decide (fld m 1 1 < 16) || decide (fld m 1 1 = 0xFF)) &&
        (decide (fld m 2 1 < 64) || decide (fld m 2 1 = 0xFF)) && zeros m 3 1

/-- CLS_KEY_PROFILE (0x0402, R207). -/
def cmdClsKeyProfile : Command where
  opcode := 0x0402
  front := true
  room := false
  mctp := false
  recovery := false
  sched := false
  shape := fun bs => some (if fld bs 0 1 = 1 then 196 else 28, 196)
  zero := zeroAt [(3, 1)]
  body := fun x s =>
    let bs := x.pkt.params
    if keyProfileOk bs then Out.of (s.stage 0x0402 (fld bs 0 1 * 256 + fld bs 1 1) (bs.take (if fld bs 0 1 = 1 then 196 else 28))) .ok else Out.of s .invalidParam

/-- CLS_HASH_SET (0x0403, R223, R225). -/
def cmdClsHashSet : Command where
  opcode := 0x0403
  front := true
  room := false
  mctp := false
  recovery := false
  sched := false
  shape := fixedShape 64
  zero := zeroAt [(3, 1), (0x34, 12)]
  body := fun x s =>
    let bs := x.pkt.params
    let input := fld bs 1 1
    let room := fld bs 6 2
    if fld bs 0 1 ≥ 64 ∨ 3 < input ∨ 3 < fld bs 2 1 ∨ fld bs 4 2 ≥ 1024 ∨ (room ≥ 1024 ∧ room ≠ 0xFFFF) ∨
        (input = 3 ∧ s.profileNow = 2) then Out.of s .invalidParam
    else Out.of (s.stage 0x0403 (fld bs 0 1) bs) .ok

/-- CLS_EXCEPTION (0x0404, R202). -/
def cmdClsException : Command where
  opcode := 0x0404
  front := true
  room := false
  mctp := false
  recovery := false
  sched := false
  shape := fixedShape 64
  zero := zeroAt [(3, 1), (0x20, 32)]
  body := fun x s =>
    let bs := x.pkt.params
    let f := fld bs 2 1
    if 2 < fld bs 0 1 ∨ 2 < fld bs 1 1 ∨ f < 1 ∨ 2 < f ∨ !((List.range 6).all fun i => decide (fld bs (8 + 4 * i) 4 < 65536)) then
      Out.of s .invalidParam
    else Out.of (s.stage 0x0404 0 bs) .ok

end Sys2Proof.Machine
end

