-- ==== Sys2Proof/Machine/Tm.lean ====
section
/-!
DEFINITION. The traffic manager: tree, enqueue, scheduling rounds, shapers, policers, gate lists and its commands
(R264 to R288).
-/

namespace Sys2Proof.Machine

/-! ## Nodes (R265 to R268) -/

/-- Selector of a node (R87). -/
def nodeSel (dest level idx : Nat) : Nat := dest * 2 ^ 24 + level * 2 ^ 16 + idx

/-- The receive ring with a global number. -/
def State.ringOfGlobal (s : State) (g : Nat) : Option Nat :=
  (s.rings.find? fun e => e.2.live && decide (refKind e.1 = 1) && decide (e.2.globalNo = g)).map fun e => e.1

/-- A change staged in settings destroys a ring, or vacates its room. -/
def goneIn (c : Settings) (ref : Nat) : Bool :=
  decide (c.block 0x0201 ref ≠ []) || (!refOwner ref && decide (c.block 0x0105 (refRoom ref) ≠ []))

/-- The receive ring that leaf `idx` of destination 4 is in a generation (R266): a ring there is, or one that its settings create, and that
they do not destroy. -/
def State.leafRing (s : State) (c : Settings) (idx : Nat) : Option Nat :=
  let made := (c.find? fun e => decide (keyOp e.1 = 0x0200) && decide (refKind (keySel e.1) = 1) && decide (fld e.2 48 4 = idx)).map fun e => keySel e.1
  match (s.ringOfGlobal idx).orElse fun _ => made with
  | some ref => if goneIn c ref then none else some ref
  | none => none

/-- The default record of a node: weight 1, burst 4, depth 1,024 KiB (R267), and the default parent (R266). -/
def State.nodeDefault (s : State) (c : Settings) (dest level idx : Nat) : List Byte :=
  let parent := if dest = 4 ∧ level = 0 then
      match s.leafRing c idx with
      | some ref => if refOwner ref then 1024 else refRoom ref
      | none => 0
    else 0
  leBytes dest 1 ++ leBytes level 1 ++ leBytes idx 2 ++ leBytes (b01 (decide (idx = 0)) * 128) 1 ++ leBytes 1 1 ++ leBytes 4 1 ++ pad 1 ++
    leBytes parent 2 ++ pad 2 ++ leBytes (if level = 0 then 1024 else 0) 4 ++ pad 16

/-- The record of a node in a generation. -/
def State.nodeIn (s : State) (c : Settings) (dest level idx : Nat) : List Byte :=
  match c.block 0x0500 (nodeSel dest level idx) with
  | [] => s.nodeDefault c dest level idx
  | b => b.drop 8

/-- A node is valid; at destination 4 the rings decide over the leaves and the rooms over their subscribers, whatever the record says, and
subscriber 1,024 is that of the owner's rings (R266). -/
def State.nodeValidIn (s : State) (c : Settings) (dest level idx : Nat) : Bool :=
  if dest = 4 ∧ level = 0 then (s.leafRing c idx).isSome
  else if dest = 4 ∧ level = 1 ∧ idx < 1024 then
    (decide ((s.room idx).state ≠ .vacant) || decide (c.block 0x0101 idx ≠ [])) && decide (c.block 0x0105 idx = [])
  else if dest = 4 ∧ level = 1 ∧ idx = 1024 then true
  else bit (fld (s.nodeIn c dest level idx) 4 1) 7

/-- The record of a node in the traffic manager's adopted generation (R269). -/
def State.node (s : State) (dest level idx : Nat) : List Byte := s.nodeIn s.tm.nodes dest level idx

/-- A node is valid in the adopted generation. -/
def State.nodeValid (s : State) (dest level idx : Nat) : Bool := s.nodeValidIn s.tm.nodes dest level idx

/-- SHAPED of a node record. -/
def nodeShaped (r : List Byte) : Bool := bit (fld r 4 1) 6
/-- PARENT. -/
def nodeParent (r : List Byte) : Nat := fld r 8 2
/-- CLASS. -/
def nodeClass (r : List Byte) : Nat := fld r 7 1
/-- OVERHEAD, signed. -/
def nodeOverhead (r : List Byte) : Int := let v := fld r 0x0A 1; if v < 128 then (v : Int) else (v : Int) - 256

/-! ## Shapers (R275 to R278) -/

/-- Units of credit in a byte. -/
def perByte : Nat := 8000000

/-- Key of a node's credit. -/
def creditKey (dest level idx : Nat) : Nat := nodeSel dest level idx

/-- A shaped node's credit now: it grows at RATE up to BUCKET; with RATE 0 it does not change (R275, R278). -/
def State.creditOf (s : State) (r : List Byte) (dest level idx : Nat) : Int :=
  let bucket := fld r 0x14 4 * perByte
  let c := Tbl.get (fun _ => (⟨bucket, 0⟩ : Credit)) s.tm.credits (creditKey dest level idx)
  let rate := fld r 0x10 4
  if rate = 0 then c.amount else min (bucket : Int) (c.amount + rate * (s.clock - c.since))

/-- Set a node's credit. -/
def State.setCredit (s : State) (dest level idx : Nat) (v : Int) : State :=
  { s with tm := { s.tm with credits := Tbl.put (creditKey dest level idx) ⟨v, s.clock⟩ s.tm.credits } }

/-- A node's shaper lets it send: RATE above 0 and no debt (R273). -/
def State.shaperOk (s : State) (dest level idx : Nat) : Bool :=
  let r := s.node dest level idx
  !nodeShaped r || (decide (fld r 0x10 4 ≠ 0) && decide (0 ≤ s.creditOf r dest level idx))

/-- A frame's length for shaping: with the FCS, padded, at a port (R276). -/
def wireLen (dest len : Nat) : Nat := if dest < 4 then max len 60 + 4 else len

/-- Charge a sent frame to a node (R275, R276). -/
def State.charge (s : State) (dest level idx len : Nat) : State :=
  let r := s.node dest level idx
  if nodeShaped r then
    let cost := max 1 ((wireLen dest len : Int) + nodeOverhead r)
    s.setCredit dest level idx (s.creditOf r dest level idx - cost * perByte)
  else s

/-! ## Gates (R283 to R287) -/

/-- Duration of entry `i` of a gate list block. -/
def gateDuration (b : List Byte) (i : Nat) : Nat := fld b (0x0C + 8 * i) 4
/-- GATES of entry `i`. -/
def gateStates (b : List Byte) (i : Nat) : Nat := fld b (8 + 8 * i) 1
/-- Entries of a gate list block. -/
def gateCount (b : List Byte) : Nat := fld b 2 2
/-- The list is enabled. -/
def gateOn (b : List Byte) : Bool := bit (fld b 1 1) 0
/-- Length of the gate cycle in ns (R283). -/
def gateCycle (b : List Byte) : Nat := ((List.range (gateCount b)).map (gateDuration b)).sum

/-- Longest window of a class: a run of consecutive open entries within a cycle (R285, R287). -/
def longestWindow (b : List Byte) (cls : Nat) : Nat :=
  ((List.range (gateCount b)).foldl (fun (best : Nat × Nat) i =>
    let run := if bit (gateStates b i) cls then best.2 + gateDuration b i else 0
    (max best.1 run, run)) (0, 0)).1

/-- The boundary that ends the period now running. -/
def State.periodEnd (s : State) : Nat := if s.time.fired then s.time.following else s.time.fire

/-- The cycle now running is the last of its period: its final entry lasts until the boundary (R184, R285). -/
def State.lastCycle (s : State) (g : Gate) : Bool :=
  decide (s.time.lastFire + s.periodUnits ≤ g.cycle + gateCycle g.list * perNs)

/-- End of the window of a class that is open in entry `i`: the first later entry that closes it, or the cycle's end. -/
def windowEnd (b : List Byte) (cls : Nat) : Nat → Nat → Nat → Nat × Nat
  | 0, i, t => (i, t)
  | n + 1, i, t => if i < gateCount b ∧ bit (gateStates b i) cls then windowEnd b cls n (i + 1) (t + gateDuration b i) else (i, t)

/-- Remaining time of a class's open window in units of the period timer; none while its gate is closed (R285, R286). The final entry of a
period lasts until its boundary, and no window lasts past the boundary as now known (R184). -/
def State.windowLeft (s : State) (port cls : Nat) : Option Nat :=
  let g := s.gate port
  if bit (gateStates g.list g.entry) cls then
    let before := ((List.range g.entry).map (gateDuration g.list)).sum
    let (i, t) := windowEnd g.list cls (gateCount g.list) g.entry before
    let stop := if i ≥ gateCount g.list ∧ s.lastCycle g then s.periodEnd else min (g.cycle + t * perNs) s.periodEnd
    some (stop - s.time.timer)
  else none

/-- A frame's window time in units of the period timer (R286). -/
def windowTime (len overhead gbps : Nat) : Nat := (len + overhead) * 8 * perNs / gbps

/-- A frame fits the remaining window of its class, which was not paused when it opened (R170), or the port runs no list. -/
def State.gateOk (s : State) (port cls len : Nat) : Bool :=
  let g := s.gate port
  if !gateOn g.list then true
  else match s.windowLeft port cls with
    | some left => !g.shut.contains cls && decide (windowTime (wireLen port len) (fld g.list 4 1) (s.port port).gbps ≤ left)
    | none => false

/-- No window of its class can ever hold the frame (R287). -/
def State.windowOversize (s : State) (port cls len : Nat) : Bool :=
  let g := s.gate port
  gateOn g.list &&
    decide (longestWindow g.list cls * perNs < windowTime (wireLen port len) (fld g.list 4 1) (s.port port).gbps)

/-- Classes whose window opens with entry `i` of a list: open in it, and closed in the entry before, or the first of the cycle (R285). -/
def openingClasses (b : List Byte) (i : Nat) : List Nat :=
  (List.range 8).filter fun c => bit (gateStates b i) c && (decide (i = 0) || !bit (gateStates b (i - 1)) c)

/-- A port's list goes to entry `i`, at `start` of a cycle that began at `cycle`. -/
def State.enterGate (s : State) (port : Nat) (list : List Byte) (next : Option (List Byte)) (i start cycle : Nat) : State :=
  (s.setGate port ⟨list, next, i, start, cycle, (s.gate port).shut⟩).openWindows port (openingClasses list i)

/-- GATE_ENTRY_CHANGE (R283): the entry's duration has ended. The final entry of a period lasts until the boundary. -/
def execGateEntryChange (port : Fin 4) (s : State) : Res :=
  let g := s.gate port.val
  let stop := g.start + gateDuration g.list g.entry * perNs
  if !gateOn g.list ∨ s.time.timer < stop then .next s
  else if g.entry + 1 < gateCount g.list then .next (s.enterGate port.val g.list g.next (g.entry + 1) stop g.cycle)
  else if s.lastCycle g then .next s
  else
    let cycle := g.cycle + gateCycle g.list * perNs
    .next (s.enterGate port.val g.list g.next 0 cycle cycle)

/-- Every list restarts at entry 0 at a boundary, and a new list takes effect (R183, R283, R284). -/
def State.restartGates (s : State) : State :=
  (List.range 4).foldl (fun s port =>
    let g := s.gate port
    let list := g.next.getD g.list
    if list = [] then s else s.enterGate port list none 0 s.time.lastFire s.time.lastFire) s

/-! ## Leaves (R270 to R273) -/

/-- Key of a leaf. -/
def leafKey (dest leaf : Nat) : Nat := dest * 65536 + leaf

/-- Bytes queued on a leaf. -/
def Leaf.depth (l : Leaf) : Nat := (l.queue.map fun f => f.pkt.bytes.length).sum

/-- Count frames that a leaf drops (R292). -/
def State.leafDrop (s : State) (dest leaf n : Nat) : State :=
  let l := s.leaf (leafKey dest leaf)
  s.setLeaf (leafKey dest leaf) { l with drops := (l.drops + n) % 2 ^ 64, since := min (l.since + n) 0xFFFFFFFF }

/-- Take the head frame off a leaf. -/
def State.popLeaf (s : State) (dest leaf : Nat) : State :=
  let l := s.leaf (leafKey dest leaf)
  s.setLeaf (leafKey dest leaf) { l with queue := l.queue.tail }

/-- Discard the head frame of a leaf, counting it. -/
def State.discardHead (s : State) (dest leaf : Nat) : State :=
  match (s.leaf (leafKey dest leaf)).queue with
  | f :: _ => ((s.popLeaf dest leaf).leafDrop dest leaf 1).dropPkt f.pkt
  | [] => s

/-- Discard everything on a leaf that is no longer valid (R269). -/
def State.discardLeaf (s : State) (dest leaf : Nat) : State :=
  let n := (s.leaf (leafKey dest leaf)).queue.length
  (List.range n).foldl (fun s _ => (s.discardHead dest leaf).bump R.TM_LEAF_INVALID) s

/-- Posted buffers of a receive ring, from its fetch position: entry index, pass and descriptor, at most `n`. -/
def State.postedBuffers (s : State) (ref : Nat) : Nat → Ring → List (Nat × Bool × List Byte)
  | 0, _ => []
  | n + 1, r =>
    if r.next = r.tail then []
    else (r.next, r.nextPass, s.hostRead (refSpace ref) (r.base + 64 * r.next) 64) :: s.postedBuffers ref n r.fetched1

/-- The buffers that take a frame of `len` bytes, from the posted ones; none when they do not suffice. -/
def fitBuffers : List (Nat × Bool × List Byte) → Nat → Option (List (Nat × Bool × List Byte))
  | [], len => if len = 0 then some [] else none
  | b :: bs, len =>
    if len = 0 then some []
    else if rxDescOk b.2.2 then (fitBuffers bs (len - fld b.2.2 0x10 4)).map fun r => b :: r
    else (fitBuffers bs len).map fun r => b :: r

/-- Buffers posted on a ring for frames of the given lengths, one after the other: each frame begins in a buffer of its own. -/
def fitAll (bufs : List (Nat × Bool × List Byte)) : List Nat → Bool
  | [] => true
  | len :: rest => match fitBuffers bufs (max len 1) with
    | some used => fitAll (bufs.drop used.length) rest
    | none => false

/-- Posted buffers suffice for a frame of `len` bytes behind the frames already scheduled for the ring (R157): a frame uses at most 63 of
them. -/
def State.hasBuffers (s : State) (ref len : Nat) : Bool :=
  let r := (s.skipDone ref 65536).ring ref
  let before := (s.pipe.delivery.filter fun d => decide (d.1 = r.globalNo)).map fun d => d.2.pkt.bytes.length
  s.serves ref && fitAll (s.postedBuffers ref (256 * (before.length + 1)) r) (before ++ [len])

/-- A leaf of destination 4 is held: its room is frozen, or its ring is in hold mode and has no buffer for the head (R272). -/
def State.leafHeld (s : State) (dest leaf : Nat) : Bool :=
  if dest ≠ 4 then false
  else match s.ringOfGlobal leaf with
    | none => false
    | some ref =>
      (!refOwner ref && decide ((s.room (refRoom ref)).state = .frozen)) ||
        ((s.ring ref).hold && !s.hasBuffers ref (match (s.leaf (leafKey 4 leaf)).queue with | f :: _ => f.pkt.bytes.length | [] => 0))

/-- Count a frame dropped for lack of a buffer (R157), and publish the count (R139). -/
def State.noBuffer (s : State) (ref : Nat) : State :=
  let r := s.ring ref
  ((s.setRing ref { r with dropped := (r.dropped + 1) % 2 ^ 32 }).bump R.RINGENG_RX_NOBUF_DROP).writeMirror ref 0

/-- In hold mode beyond the depth, heads go until the new frame fits (R157). -/
def State.makeRoom (s : State) (ref leaf limit len : Nat) : Nat → State
  | 0 => s
  | n + 1 =>
    let l := s.leaf (leafKey 4 leaf)
    if l.queue = [] ∨ l.depth + len ≤ limit then s
    else ((s.discardHead 4 leaf).noBuffer ref).makeRoom ref leaf limit len n

/-- Refuse a frame at enqueue: a transmit entry completes with BUSY (R271). -/
def State.refuseFrame (s : State) (p : Pkt) : State := s.txDone p .busy none 0

/-- The traffic manager has enqueued a transmit frame: its entry is past its point of no return (R155). -/
def State.txPast (s : State) (p : Pkt) : State :=
  match p.tx with
  | none => s
  | some (ref, id) => match s.workOf ref id with
    | some e => s.setWork ref { e with ponr := true }
    | none => s

/-- Append a frame to its leaf; at destinations 0 to 4 it loses its stamp (R24). -/
def State.appendFrame (s : State) (e : Enq) : State :=
  let k := leafKey e.dest e.leaf
  let s := s.txPast e.pkt
  let l := s.leaf k
  let p := if e.dest = 5 then e.pkt else { e.pkt with stamp := none, ingress := e.pkt.stamp.getD 0 }
  let l := { l with queue := l.queue ++ [(⟨p, s.clock⟩ : Frame)] }
  s.setLeaf k { l with peak := max l.peak l.depth }

/-- Banks that the packet buffer has lost, retired or given as substitutes (R540). -/
def State.lostBanks (s : State) : Nat :=
  (s.memory.retired.filter fun b => decide (56 ≤ b ∧ b < 248)).length + s.memory.substituted.length

/-- Packet buffer capacity in force (R515, R540). -/
def State.bufferSram (s : State) : Nat := 48 * 2 ^ 20 - 0x40000 * s.lostBanks

/-- GDDR6 overflow (R519). -/
def overflowBytes : Nat := 4 * 2 ^ 30

/-- Bytes of frame that cells of 256 B take (R515). -/
def cellBytes (n : Nat) : Nat := (n + 255) / 256 * 256

/-- Cells that the frames of a room's leaf queues take (R515). -/
def State.roomCells (s : State) (room : Nat) : Nat :=
  (s.tm.leaves.map fun e =>
    if e.1 / 65536 = 4 ∧ (match s.ringOfGlobal (e.1 % 65536) with | some ref => decide (refSpace ref = some room) | none => false) = true
    then (e.2.queue.map fun f => cellBytes f.pkt.bytes.length).sum else 0).sum

/-- Bytes of a room's SRAM reservation. -/
def State.reserved (s : State) (room : Nat) : Nat := 65536 * (s.room room).limits.sramUnits

/-- Bytes of cells that the packets held in the device take (R515). -/
def State.bufferUsed (s : State) : Nat := (s.packets.map fun p => cellBytes p.bytes.length).sum

/-- The packet buffer is more than 75 % occupied (R247). -/
def State.bufferTight (s : State) : Bool := decide (3 * s.bufferSram < 4 * s.bufferUsed)

/-- A mirror copy for a leaf goes in front of nothing: it is dropped where the leaf is full or the buffer more than 75 % occupied (R247). -/
def State.copyLost (s : State) (dest leaf len : Nat) : Bool :=
  decide (fld (s.node dest 0 leaf) 0x0C 4 * 1024 < (s.leaf (leafKey dest leaf)).depth + len) || s.bufferTight

/-- The packet buffer and the overflow are both full for a frame (R270, R515): a room's own reservation serves its frames alone, the
rest of the buffer and the overflow serve all. -/
def State.bufferFull (s : State) (room : Option Nat) (len : Nat) : Bool :=
  let rooms := (s.rooms.filter fun r => decide (r.2.limits.sramUnits ≠ 0)).map fun r => r.1
  let held := (rooms.map fun r => min (s.roomCells r) (s.reserved r)).sum
  let all := s.bufferUsed
  let own := match room with | some r => decide (s.roomCells r + cellBytes len ≤ s.reserved r) | none => false
  !own && decide (s.bufferSram - (rooms.map s.reserved).sum + overflowBytes < all - held + cellBytes len)

/-- TM_ENQUEUE of one frame (R102, R157, R247, R270, R271). -/
def State.enqueue (s : State) (e : Enq) : State :=
  let len := e.pkt.bytes.length
  if s.pktRetired e.pkt then s.retireDrop e.pkt
  else if !s.nodeValid e.dest 0 e.leaf then (s.bump R.TM_LEAF_INVALID).refuseFrame e.pkt
  else if e.pkt.copy && s.copyLost e.dest e.leaf len then s.bump R.SW_MIRROR_DROP
  else
    let ref := if e.dest = 4 then s.ringOfGlobal e.leaf else none
    let room : Option Nat := ref.bind fun r => if refOwner r then none else some (refRoom r)
    let noteRoom (s : State) (r : Nat) : State :=
      s.setRoom r { s.room r with notOpenDrop := min ((s.room r).notOpenDrop + 1) 0xFFFFFFFF }
    let closed := match room with
      | some r => (match (s.room r).state with | .opened | .frozen => false | _ => true)
      | none => false
    if closed then (noteRoom s (room.getD 0)).refuseFrame e.pkt
    else
      let limit := fld (s.node e.dest 0 e.leaf) 0x0C 4 * 1024
      let frozen := match room with | some q => decide ((s.room q).state = RoomState.frozen) | none => false
      let hold := match ref with | some r => (s.ring r).hold && s.leafHeld 4 e.leaf && !frozen | none => false
      let s := if hold then s.makeRoom (ref.getD 0) e.leaf limit len 1000000 else s
      if limit < (s.leaf (leafKey e.dest e.leaf)).depth + len then
        let s := if frozen then noteRoom s (room.getD 0) else s.bump R.TM_LEAF_FULL_DROP
        (s.leafDrop e.dest e.leaf 1).refuseFrame e.pkt
      else if s.bufferFull room len then (s.bump R.TM_BUFFER_DROP).refuseFrame e.pkt
      else s.appendFrame e

/-- TM_ENQUEUE (R270): the oldest frame on its way to a leaf. -/
def execTmEnqueue (s : State) : Res :=
  match s.pipe.enq with
  | [] => .next s
  | e :: rest => .next (State.enqueue { s with pipe := { s.pipe with enq := rest } } e).flow

/-! ## Scheduling (R273, R274) -/

/-- Leaves of a destination that hold frames. -/
def State.busyLeaves (s : State) (dest : Nat) : List Nat :=
  (s.tm.leaves.filter fun e => decide (e.1 / 65536 = dest) && decide (e.2.queue ≠ [])).map fun e => e.1 % 65536

/-- A leaf is eligible on its own account (R273). -/
def State.leafEligible (s : State) (dest leaf : Nat) : Bool :=
  let r := s.node dest 0 leaf
  let head := match (s.leaf (leafKey dest leaf)).queue with | f :: _ => f.pkt.bytes.length | [] => 0
  s.nodeValid dest 0 leaf && !s.leafHeld dest leaf && s.shaperOk dest 0 leaf &&
    (decide (4 ≤ dest) ||
      ((s.port dest).link && !(s.port dest).isPaused s.clock (nodeClass r) && s.gateOk dest (nodeClass r) head))

/-- A subscriber or service node may pass frames: valid and its shaper allows. -/
def State.nodeOpen (s : State) (dest level idx : Nat) : Bool := s.nodeValid dest level idx && s.shaperOk dest level idx

/-- Eligible leaves with their subscriber and service node. -/
def State.eligible (s : State) (dest : Nat) : List (Nat × Nat × Nat) :=
  (s.busyLeaves dest).filterMap fun leaf =>
    let sub := nodeParent (s.node dest 0 leaf)
    let svc := nodeParent (s.node dest 1 sub)
    if s.leafEligible dest leaf ∧ s.nodeOpen dest 1 sub ∧ s.nodeOpen dest 2 svc then some (svc, sub, leaf) else none

/-- Key of a parent's round: the destination at level 3. -/
def roundKey (dest level idx : Nat) : Nat := dest * 2 ^ 24 + level * 2 ^ 16 + idx

/-- A parent's round. -/
def State.round (s : State) (k : Nat) : Round := Tbl.get (fun _ => ⟨0, 0, 0⟩) s.tm.rounds k

/-- The smallest of a list, at least `lo`. -/
def leastFrom (lo : Nat) (cs : List Nat) : Option Nat :=
  (cs.filter fun c => decide (lo ≤ c)).foldl (fun m c => match m with | some x => some (min x c) | none => some c) none

/-- The child a parent serves now (R274): the first eligible one its round has not passed, else the first of a new round. -/
def pickChild (r : Round) (cs : List Nat) : Nat :=
  match leastFrom r.child cs with
  | some c => c
  | none => (leastFrom 0 cs).getD 0

/-- Use one frame of the parent's grant for a child (R274); a new grant, and at a new child all its grants, begin as needed,
and the round passes a child whose grants are used. -/
def useGrant (r : Round) (child weight burst : Nat) : Round :=
  let r := if r.child = child ∧ (r.frames > 0 ∨ r.grants > 0) then r else ⟨child, weight, 0⟩
  let r : Round := if r.frames > 0 then { r with frames := r.frames - 1 } else ⟨child, r.grants - 1, burst - 1⟩
  if r.frames = 0 ∧ r.grants = 0 then ⟨child + 1, 0, 0⟩ else r

/-- Note a served child in its parent's round. -/
def State.serveChild (s : State) (dest plevel pidx level child : Nat) : State :=
  let k := roundKey dest plevel pidx
  let r := s.node dest level child
  { s with tm := { s.tm with rounds := Tbl.set (fun _ => (⟨0, 0, 0⟩ : Round)) s.tm.rounds k (useGrant (s.round k) child (fld r 5 1) (fld r 6 1)) } }

/-- The leaf that sends now: service node, subscriber, leaf (R274). -/
def State.pickLeaf (s : State) (dest : Nat) : Option (Nat × Nat × Nat) :=
  match s.eligible dest with
  | [] => none
  | es =>
    let svc := pickChild (s.round (roundKey dest 3 0)) (es.map fun e => e.1)
    let es := es.filter fun e => decide (e.1 = svc)
    let sub := pickChild (s.round (roundKey dest 2 svc)) (es.map fun e => e.2.1)
    let es := es.filter fun e => decide (e.2.1 = sub)
    some (svc, sub, pickChild (s.round (roundKey dest 1 sub)) (es.map fun e => e.2.2))

/-! ## Egress at a port (R140, R167, R177) -/

/-- Write a checksum into a packet at an offset; 0 becomes 0xFFFF for UDP. -/
def putSum (bs : List Byte) (at' v : Nat) (udp : Bool) : List Byte :=
  splice bs at' (beBytes (if udp && decide (v = 0) then 0xFFFF else v) 2)

/-- Compute the IPv4 header checksum of a header at an offset. -/
def fixIp4 (bs : List Byte) (o : Nat) : List Byte :=
  let b := splice bs (o + 10) [0, 0]
  putSum b (o + 10) (inetSum (slice b o (o + bfld b o 1 % 16 * 4)) 0) false

/-- Compute the TCP or UDP checksum at an offset, its L3 header given (R140). -/
def fixL4 (bs : List Byte) (l3 l4 : Nat) : List Byte :=
  let v6 := decide (bfld bs l3 1 / 16 = 6)
  let proto := if v6 then bfld bs (l3 + 6) 1 else bfld bs (l3 + 9) 1
  let stop := if v6 then l3 + 40 + bfld bs (l3 + 4) 2 else l3 + bfld bs (l3 + 2) 2
  let addrs := if v6 then sum16 (slice bs (l3 + 8) (l3 + 40)) else sum16 (slice bs (l3 + 12) (l3 + 20))
  let at' := if proto = 6 then l4 + 16 else l4 + 6
  if proto = 6 ∨ proto = 17 then
    let b := splice bs at' [0, 0]
    putSum b at' (inetSum (slice b l4 stop) (addrs + proto + (stop - l4))) (decide (proto = 17))
  else bs

/-- Insert the checksums a transmit descriptor asked for. -/
def Pkt.insertSums (p : Pkt) : List Byte :=
  let n := p.bytes.length
  let l3 := n - p.l3end
  let b := if p.l3csum ∧ l3 + 20 ≤ n ∧ bfld p.bytes l3 1 / 16 = 4 then fixIp4 p.bytes l3 else p.bytes
  if p.l4csum ∧ l3 + 20 ≤ n ∧ n - p.l4end + 8 ≤ n then fixL4 b l3 (n - p.l4end) else b

/-- Write a one-step Sync message's timestamp (R177): originTimestamp, correctionField and the UDP checksum. -/
def oneStep (bs : List Byte) (o : Nat) (udp : Option Nat) (t : Time) : List Byte :=
  let corr := (bfld bs (o + 8) 8 + t.frac / 65536) % 2 ^ 64
  let b := splice (splice bs (o + 34) (beBytes (t.sec % 2 ^ 48) 6 ++ beBytes t.ns 4)) (o + 8) (beBytes corr 8)
  match udp with
  | none => b
  | some u =>
    let old := bfld bs (u + 6) 2
    if old = 0 then b
    else putSum b (u + 6) (65535 - fold16 (65535 - old + sum16 (slice b o (o + 44)) + (65535 * 22 - sum16 (slice bs o (o + 44))))) true

/-- A port begins to send a frame (R140, R167, R177): padding, checksums, timestamp; the frame is on the wire until its end. -/
def State.sendFrame (s : State) (n : Nat) (k : Pkt) : State :=
  let p := s.port n
  let bs := k.insertSums
  let bs := bs ++ pad (60 - bs.length)
  let t := p.stampTime s.now true
  let q := parse ⟨fld p.conf 0x0C 2, 0, 0⟩ bs
  let mode := fld p.ptp 1 1
  let sync := match ptpOffset q bs with
    | some o => if mode = 2 ∧ bfld bs o 1 % 16 = 0 ∧ !bit (bfld bs (o + 6) 1) 1 ∧ o + 44 ≤ bs.length then some o else none
    | none => none
  let bs := match sync with
    | some o => if k.wantTs then oneStep bs o (if q.cur.l3 = 5 then none else q.cur.l4off) t else bs
    | none => bs
  let ts := if k.wantTs ∧ mode ≠ 0 ∧ sync = none then some t else none
  let stop := s.time.timer + windowTime (bs.length + 4) 20 p.gbps
  { s with tm := { s.tm with wireEnd := Tbl.put n stop s.tm.wireEnd, wire := Tbl.put n ⟨k, bs, s.time.timer, stop, ts, false⟩ s.tm.wire } }

/-! ## Decisions -/

/-- Heads that cannot be sent go first: while the link is down (R165), and frames no window can hold (R287). -/
def State.purgeLeaf (s : State) (dest leaf : Nat) : Nat → State
  | 0 => s
  | n + 1 =>
    match (s.leaf (leafKey dest leaf)).queue with
    | [] => s
    | f :: _ =>
      if !(s.port dest).link then
        (((s.popLeaf dest leaf).bump (portReg R.PORT_TX_LINKDOWN_DROP dest)).dropPkt f.pkt).purgeLeaf dest leaf n
      else if s.windowOversize dest (nodeClass (s.node dest 0 leaf)) f.pkt.bytes.length then
        ((s.discardHead dest leaf).bump (R.TM_WINDOW_OVERSIZE + 4 * dest)).purgeLeaf dest leaf n
      else s

/-- Purge every leaf of a port. -/
def State.purge (s : State) (dest : Nat) : State :=
  if dest < 4 then (s.busyLeaves dest).foldl (fun s leaf => s.purgeLeaf dest leaf (s.leaf (leafKey dest leaf)).queue.length) s else s

/-- Time a frame occupies the recirculation input: 1.6 Tb/s and 2.4 G packets/s (R249). -/
def recircTime (len : Nat) : Nat := max (len * 8 * perNs / 1600) (perNs * 5 / 12)

/-- Send one frame of a leaf: the port, the ring engine, or the recirculation input (R30, R248, R264). -/
def State.leave (s : State) (dest leaf : Nat) (f : Frame) : State :=
  let p := f.pkt
  if dest < 4 then s.sendFrame dest p
  else if dest = 4 then { s with pipe := { s.pipe with delivery := s.pipe.delivery ++ [(leaf, f)] } }
  else
    let s := { s with tm := { s.tm with wireEnd := Tbl.put 5 (s.time.timer + recircTime p.bytes.length) s.tm.wireEnd } }
    { s with pipe := { s.pipe with input := s.pipe.input ++ [p] } }

/-- One scheduling decision of a destination (R273, R274). -/
def State.decide1 (s : State) (dest : Nat) : State :=
  let s := (s.landFrame dest).purge dest
  if s.time.timer < Tbl.get (fun _ => 0) s.tm.wireEnd dest then s
  else match s.pickLeaf dest with
    | none => s
    | some (svc, sub, leaf) =>
      match (s.leaf (leafKey dest leaf)).queue with
      | [] => s
      | f :: _ =>
        let len := f.pkt.bytes.length
        let s := ((s.serveChild dest 3 0 2 svc).serveChild dest 2 svc 1 sub).serveChild dest 1 sub 0 leaf
        let s := ((s.charge dest 0 leaf len).charge dest 1 sub len).charge dest 2 svc len
        (s.popLeaf dest leaf).leave dest leaf f

/-- RX_HOLD_LIMIT_EXPIRY (R157): a held head that has waited HOLD_LIMIT goes. -/
def execRxHoldLimitExpiry (ref : Nat) (s : State) : Res :=
  let leaf := (s.ring ref).globalNo
  match (s.leaf (leafKey 4 leaf)).queue with
  | f :: _ =>
    if (s.ring ref).live ∧ refKind ref = 1 ∧ (s.ring ref).hold ∧ s.leafHeld 4 leaf ∧
        (refOwner ref ∨ (s.room (refRoom ref)).state ≠ RoomState.frozen) ∧ f.enq + (s.ring ref).holdLimit * 1000 ≤ s.clock then
      .next ((s.discardHead 4 leaf).noBuffer ref).flow
    else .next s
  | [] => .next s

/-! ## Policers (R280 to R282) -/

/-- A policer. -/
def State.policer (s : State) (n : Nat) : Policer := Tbl.get (fun _ => ⟨0, 0, 0, 0⟩) s.tm.policers n

/-- Change a policer. -/
def State.setPolicer (s : State) (n : Nat) (p : Policer) : State :=
  { s with tm := { s.tm with policers := Tbl.set (fun _ => (⟨0, 0, 0, 0⟩ : Policer)) s.tm.policers n p } }

/-- The record of a policer in a generation; empty for none. -/
def policerRec (c : Settings) (n : Nat) : List Byte := (c.block 0x0502 n).drop 8

/-- Tokens of one byte or packet. -/
def tokenUnit (r : List Byte) : Nat := if bit (fld r 2 1) 6 then nsPerSec else perByte

/-- Tokens now, refilled at RATE up to BURST (R280). -/
def Policer.fill (p : Policer) (r : List Byte) (now : Nat) : Nat :=
  min (p.tokens + fld r 8 4 * (now - p.since)) (fld r 0x0C 4 * tokenUnit r)

/-- A packet of `len` bytes meets a policer: whether it conforms (R280). An invalid policer lets it pass uncharged (R281). -/
def State.police (s : State) (n len : Nat) : Bool × State :=
  let r := policerRec s.tm.nodes n
  if !bit (fld r 2 1) 7 then (true, s)
  else
    let p := s.policer n
    let have' := p.fill r s.clock
    let cost := (if bit (fld r 2 1) 6 then 1 else len) * tokenUnit r
    if cost ≤ have' then (true, s.setPolicer n { p with tokens := have' - cost, since := s.clock, conform := p.conform + 1 })
    else (false, (s.setPolicer n { p with tokens := have', since := s.clock, dropped := p.dropped + 1 }).bump R.TM_POLICER_DROP)

/-! ## Adoption (R269, R277, R278, R281) -/

/-- Nodes a generation's settings name, as (dest, level, index). -/
def namedNodes (c : Settings) : List (Nat × Nat × Nat) :=
  (c.filter fun e => decide (keyOp e.1 = 0x0500)).map fun e => (keySel e.1 / 2 ^ 24, keySel e.1 / 2 ^ 16 % 256, keySel e.1 % 2 ^ 16)

/-- A node's credit after adoption: kept and clamped to the new BUCKET, full when it becomes shaped; FORGIVE lifts a debt. -/
def State.adoptCredit (s : State) (c : Settings) (forgive : List Nat) (n : Nat × Nat × Nat) : Nat × Option Credit :=
  let (d, l, i) := n
  let old := s.node d l i
  let new := s.nodeIn c d l i
  let k := creditKey d l i
  if !nodeShaped new then (k, none)
  else
    let full : Int := fld new 0x14 4 * perByte
    let v := if nodeShaped old then min full (s.creditOf old d l i) else full
    (k, some ⟨if forgive.contains k ∧ v < 0 then 0 else v, s.clock⟩)

/-- A policer after adoption: tokens kept and clamped, a new bucket full. -/
def State.adoptPolicer (s : State) (c : Settings) (n : Nat) : Policer :=
  let old := policerRec s.tm.nodes n
  let new := policerRec c n
  let p := s.policer n
  let full := fld new 0x0C 4 * tokenUnit new
  let keep := bit (fld old 2 1) 7 && decide (tokenUnit old = tokenUnit new)
  { p with tokens := if keep then min (p.fill old s.clock) full else full, since := s.clock }

/-- The traffic manager adopts a generation: shapers, policers, gate lists for the next boundary, and invalid leaves. -/
def State.tmAdopt (s : State) (c : Settings) (forgive : List Nat) : State :=
  let nodes := (namedNodes c ++ namedNodes s.tm.nodes).eraseDups
  let credits := nodes.foldl (fun m n => match s.adoptCredit c forgive n with
    | (k, some v) => Tbl.put k v m
    | (k, none) => Tbl.erase k m) s.tm.credits
  let pols := ((c ++ s.tm.nodes).filter fun e => decide (keyOp e.1 = 0x0502)).map fun e => keySel e.1
  let policers := pols.eraseDups.foldl (fun m n => Tbl.set (fun _ => (⟨0, 0, 0, 0⟩ : Policer)) m n (s.adoptPolicer c n)) s.tm.policers
  let lists := (List.range 4).filter fun port => decide (c.block 0x0503 port ≠ s.tm.nodes.block 0x0503 port)
  let s := { s with tm := { s.tm with nodes := c, credits := credits, policers := policers } }
  let s := lists.foldl (fun s port => s.setGate port { s.gate port with
    next := some (match c.block 0x0503 port with | [] => pad 8 | b => b) }) s
  (List.range 6).foldl (fun s d => (s.busyLeaves d).foldl (fun s leaf => if s.nodeValid d 0 leaf then s else s.discardLeaf d leaf) s) s

/-! ## Commands (R268, R279, R280, R283) -/

/-- The settings that the next commit would build: the generation in force with the staged changes. -/
def State.builtSettings (s : State) : Settings := s.gen.staged.foldl (fun t c => Settings.set t c.1 c.2) s.gen.cur

/-- Range of a node's index at its level. -/
def levelSize (level : Nat) : Nat := if level = 0 then 65536 else if level = 1 then 4096 else 64

/-- RATE and BUCKET of a shaped record. -/
def shapeOk (rate bucket : Nat) : Bool := decide (rate ≤ 800000000) && decide (1024 ≤ bucket ∧ bucket ≤ 16777216)

/-- Fields of a TM_NODE_SET record in range (R268). -/
def nodeRecOk (r : List Byte) : Bool :=
  let level := fld r 1 1
  let overhead := nodeOverhead r
  decide (fld r 0 1 ≤ 5) && decide (level ≤ 2) && decide (fld r 2 2 < levelSize level) && decide (fld r 4 1 % 64 = 0) &&
    decide (1 ≤ fld r 5 1) && decide (1 ≤ fld r 6 1 ∧ fld r 6 1 ≤ 64) && decide (if level = 0 then fld r 7 1 ≤ 7 else fld r 7 1 = 0) &&
    decide (if level = 2 then fld r 8 2 = 0 else fld r 8 2 < levelSize (level + 1)) && decide (-64 ≤ overhead) &&
    decide (if level = 0 then 1 ≤ fld r 0x0C 4 ∧ fld r 0x0C 4 ≤ 16384 else fld r 0x0C 4 = 0) &&
    (!nodeShaped r || shapeOk (fld r 0x10 4) (fld r 0x14 4)) && zeros r 0x0B 1 && zeros r 0x18 8

/-- Children of a node that are valid in a generation: named ones, the default ones and those of the rings and rooms. -/
def State.hasChildren (s : State) (c : Settings) (dest level idx : Nat) : Bool :=
  let named := (namedNodes c).filterMap fun n => if n.1 = dest ∧ n.2.1 + 1 = level then some n.2.2 else none
  let rooms := s.rooms.map fun e => e.1
  let rings := s.rings.filterMap (fun e => if refKind e.1 = 1 ∧ e.2.live then some e.2.globalNo else none) ++
    c.filterMap fun e => if keyOp e.1 = 0x0200 ∧ refKind (keySel e.1) = 1 then some (fld e.2 48 4) else none
  let extra := if dest = 4 then (if level = 1 then rings else 1024 :: rooms) else []
  (0 :: named ++ extra).any fun i => s.nodeValidIn c dest (level - 1) i && decide (nodeParent (s.nodeIn c dest (level - 1) i) = idx)

/-- Stage TM_NODE_SET records in order; the status that refuses one. -/
def State.stageNodes (s : State) : List (List Byte) → Status × State
  | [] => (.ok, s)
  | r :: rs =>
    let d := fld r 0 1
    let level := fld r 1 1
    let i := fld r 2 2
    let c := s.builtSettings
    let valid := bit (fld r 4 1) 7
    let bound := decide (d = 4) && (decide (level = 0) || (decide (level = 1) && decide (i < 1024)))
    if !nodeRecOk r then (.invalidParam, s)
    else if bound && decide (valid ≠ s.nodeValidIn c d level i) then (.invalidParam, s)
    else if valid ∧ level < 2 ∧ !s.nodeValidIn c d (level + 1) (fld r 8 2) then (.invalidParam, s)
    else if !valid ∧ level > 0 ∧ s.hasChildren c d level i then (.notPermitted, s)
    else (s.stage 0x0500 (nodeSel d level i) (countOne 4 8 ++ r)).stageNodes rs

/-- TM_NODE_SET (0x0500, R268). -/
def cmdTmNodeSet : Command where
  opcode := 0x0500
  front := true
  room := false
  mctp := false
  recovery := false
  sched := false
  shape := recShape 8 32 0 4 1 4096
  zero := zeroAt [(4, 4)]
  body := fun x s =>
    match s.stageNodes (recordsOf x.pkt.params 8 32 (fld x.pkt.params 0 4)) with
    | (.ok, s') => Out.of s' .ok
    | (st, _) => Out.of s st

/-- Policers of a room in settings. -/
def roomPolicers (c : Settings) (room : Nat) : Nat :=
  (c.filter fun e => decide (keyOp e.1 = 0x0502) && bit (fld (e.2.drop 8) 2 1) 7 && decide (fld (e.2.drop 8) 4 2 = room)).length

/-- A TM_POLICER_SET record in range (R280). -/
def policerOk (r : List Byte) : Bool :=
  let pk := bit (fld r 2 1) 6
  let room := fld r 4 2
  decide (fld r 2 1 % 64 = 0) && zeros r 3 1 && zeros r 6 2 && (decide (room < 1024) || decide (room = 0xFFFF)) &&
    (if pk then decide (1 ≤ fld r 8 4 ∧ fld r 8 4 ≤ 2000000000) && decide (1 ≤ fld r 0x0C 4 ∧ fld r 0x0C 4 ≤ 1048576)
     else decide (1 ≤ fld r 8 4 ∧ fld r 8 4 ≤ 800000000) && decide (64 ≤ fld r 0x0C 4 ∧ fld r 0x0C 4 ≤ 16777216))

/-- Policers a room may have: its limit, furnished or staged. -/
def State.policerLimit (s : State) (room : Nat) : Nat :=
  match s.stagedAt 0x0101 room with
  | some b => fld b 0x0C 2
  | none => (s.room room).limits.policers

/-- TM_POLICER_SET (0x0502, R280, R281). -/
def cmdTmPolicerSet : Command where
  opcode := 0x0502
  front := true
  room := false
  mctp := false
  recovery := false
  sched := false
  shape := recShape 8 16 0 2 1 256
  zero := zeroAt [(2, 6)]
  body := fun x s =>
    let rs := recordsOf x.pkt.params 8 16 (fld x.pkt.params 0 2)
    let s' := s.stageRecs 0x0502 (countOne 2 8) (fun r => fld r 0 2) rs
    let excess := rs.any fun r => decide (fld r 4 2 ≠ 0xFFFF) &&
      decide (s.policerLimit (fld r 4 2) < roomPolicers s'.builtSettings (fld r 4 2))
    if !rs.all policerOk ∨ excess then Out.of s .invalidParam else Out.of s' .ok

/-- TM_GATE_LIST parameters in range (R283). -/
def gateListOk (bs : List Byte) : Bool :=
  decide (fld bs 0 1 ≤ 3) && decide (fld bs 1 1 ≤ 1) && zeros bs 5 3 &&
    (List.range (gateCount bs)).all fun i =>
      zeros bs (9 + 8 * i) 3 && decide (8 ≤ gateDuration bs i ∧ gateDuration bs i ≤ 1000000000)

/-- TM_TELEMETRY parameters in range (R289). -/
def telemetryOk (bs : List Byte) : Bool :=
  decide (fld bs 0 1 % 128 = 0) && decide (1 ≤ fld bs 2 2) && zeros bs 6 2 && zeros bs 0x0C 4 &&
    (recordsOf bs 16 8 (fld bs 1 1)).all fun r =>
      decide (fld r 0 1 ≤ 5) && zeros r 1 1 && zeros r 6 2 && decide (fld r 2 2 ≤ fld r 4 2)

/-- TM_TELEMETRY (0x0504, R289). -/
def cmdTmTelemetry : Command where
  opcode := 0x0504
  front := true
  room := false
  mctp := false
  recovery := false
  sched := false
  shape := recShape 16 8 1 1 0 16
  zero := fun _ => true
  body := fun x s =>
    if telemetryOk x.pkt.params then Out.of (s.stage 0x0504 0 x.pkt.params) .ok else Out.of s .invalidParam

/-- Bits of `TM.GATE_WARN` in a generation (R288): windows shorter than a frame of the port MTU, for classes that have a leaf. -/
def State.gateWarn (s : State) (c : Settings) : Nat :=
  ((List.range 4).map fun port =>
    let b := c.block 0x0503 port
    let conf := portConf c port
    if !gateOn b then 0
    else ((List.range 8).map fun cls =>
      let leaves := (0 :: (namedNodes c).filterMap fun n => if n.1 = port ∧ n.2.1 = 0 then some n.2.2 else none)
      let used := leaves.any fun l => s.nodeValidIn c port 0 l && decide (nodeClass (s.nodeIn c port 0 l) = cls)
      let short := decide (longestWindow b cls * perNs < windowTime (mtuOf c port) (fld b 4 1) (speedGbps (fld conf 1 1)))
      b01 (used && short) * 2 ^ (8 * port + cls)).sum).sum

/-- P and PHASE of settings: the defaults where there is no block (R179). -/
def periodOf (t : Settings) : Nat × Nat :=
  match t.block 0x0602 0 with
  | [] => (10000, 0)
  | b => (fld b 0 4, fld b 8 8)

/-- Every enabled gate cycle of a generation divides its P (R185). -/
def cyclesDivide (c : Settings) : Bool :=
  let p := (periodOf c).1 * 1000
  (List.range 4).all fun port =>
    let b := c.block 0x0503 port
    !gateOn b || (decide (gateCycle b ≠ 0) && decide (p % gateCycle b = 0))

end Sys2Proof.Machine
end

