-- ==== Sys2Proof/Machine/Switch.lean ====
section
/-!
DEFINITION. The switch stage: action records, tunnels, mirroring, targets, service handover and back-stair admission
(R234 to R256), with CLS_TUNNEL and CLS_MIRROR.
-/

namespace Sys2Proof.Machine

/-! ## Tunnel templates (R245, R246) -/

/-- What a template's headers are: L3 start, IPv6, UDP start, tunnel header start, whether the packet's Ethernet header stays
inside, the IP version that a removed one must leave (0 any), and the parsed length. -/
structure Template where
  l3    : Nat
  v6    : Bool
  udp   : Option Nat
  tun   : Nat
  inner : Bool
  proto : Nat
  len   : Nat
  deriving DecidableEq, Repr

/-- A TPID the parser takes for a VLAN tag. -/
def isTpid (c : ParseCfg) (t : Nat) : Bool := decide (t = 0x8100) || decide (t = 0x88A8) || (decide (c.tpid ≠ 0) && decide (t = c.tpid))

/-- Start of the EtherType behind at most two tags. -/
def skipTags (c : ParseCfg) (bs : List Byte) : Nat → Nat → Nat
  | 0, o => o
  | n + 1, o => if isTpid c (bfld bs o 2) then skipTags c bs n (o + 4) else o

/-- IP version that a GRE or Geneve protocol type carries without an Ethernet header. -/
def protoVersion (t : Nat) : Nat := if t = 0x0800 then 4 else if t = 0x86DD then 6 else 0

/-- Parse a template of a TYPE (R246) as the parser follows headers (R194); none when it is not of that form. Its length fields, which
encapsulation writes, are not checked, and it has no port whose TPID_EXTRA would count (DEDUCED, log entry 25). -/
def template (c : Settings) (type : Nat) (bs : List Byte) : Option Template :=
  let e := skipTags ⟨0, 0, 0⟩ bs 2 12
  let l3 := e + 2
  let v6 := decide (bfld bs e 2 = 0x86DD)
  let ipOk := (v6 && decide (bfld bs l3 1 / 16 = 6)) ||
    (decide (bfld bs e 2 = 0x0800) && decide (bfld bs l3 1 = 0x45) && decide (bfld bs (l3 + 6) 2 % 2 ^ 14 = 0))
  let next := if v6 then bfld bs (l3 + 6) 1 else bfld bs (l3 + 9) 1
  let l4 := if v6 then l3 + 40 else l3 + 20
  let port := bfld bs (l4 + 2) 2
  let ex := excOf c
  let flags := bfld bs l4 2
  let nv := bit flags 13 && decide (bfld bs (l4 + 2) 2 = 0x6558)
  let gre := decide (next = 47) && decide (flags % 8 = 0) && !bit flags 15 && !bit flags 12
  if !ipOk then none
  else match type with
    | 1 =>
      if next = 17 ∧ (port = 4789 ∨ (fld ex 4 2 ≠ 0 ∧ port = fld ex 4 2)) ∧ bit (bfld bs (l4 + 8) 1) 3 then
        some ⟨l3, v6, some l4, l4 + 8, true, 0, l4 + 16⟩
      else none
    | 2 =>
      let t := bfld bs (l4 + 10) 2
      if next = 17 ∧ (port = 6081 ∨ (fld ex 6 2 ≠ 0 ∧ port = fld ex 6 2)) ∧ bfld bs (l4 + 8) 1 / 64 = 0 then
        some ⟨l3, v6, some l4, l4 + 8, decide (t = 0x6558), protoVersion t, l4 + 16 + bfld bs (l4 + 8) 1 % 64 * 4⟩
      else none
    | 3 =>
      let t := bfld bs (l4 + 2) 2
      if gre && !nv then some ⟨l3, v6, none, l4, decide (t = 0x6558), protoVersion t, l4 + 4 + 4 * b01 (bit flags 13)⟩ else none
    | 4 => if gre && nv then some ⟨l3, v6, none, l4, true, 0, l4 + 8⟩ else none
    | 5 => if next = 4 ∨ next = 41 then some ⟨l3, v6, none, l4, false, if next = 4 then 4 else 6, l4⟩ else none
    | _ => none

/-- The block of a CLS_TUNNEL object in a generation: kind 0 tunnel entries, 1 paths, 2 device addresses; empty for none. -/
def tunnelObj (c : Settings) (kind idx : Nat) : List Byte := (c.block 0x0405 (kind * 2 ^ 24 + idx)).drop 8

/-- The first IP header of a packet from a source whose tags are those of `c`: its start and version. -/
def firstIp (c : ParseCfg) (bs : List Byte) : Option (Nat × Nat) :=
  let e := skipTags c bs 2 12
  if bfld bs e 2 = 0x0800 then some (e + 2, 4) else if bfld bs e 2 = 0x86DD then some (e + 2, 6) else none

/-- Traffic class octet of an IP header. -/
def trafficClass (bs : List Byte) (o version : Nat) : Nat := if version = 4 then bfld bs (o + 1) 1 else bfld bs o 2 / 16 % 256

/-- Set the traffic class octet, repairing the IPv4 header checksum. -/
def setTrafficClass (bs : List Byte) (o version tc : Nat) : List Byte :=
  if version = 4 then fixIp4 (splice bs (o + 1) (beBytes tc 1)) o
  else splice bs o (beBytes (bfld bs o 2 / 4096 * 4096 + tc * 16 + bfld bs o 2 % 16) 2)

/-- Encapsulate bytes with a tunnel record (R246): the outer packet, or none for a protocol mismatch. `id` is the entry's IPv4
identification, and `tags` what counts as a tag in the packet. -/
def encapsulate (c : Settings) (tags : ParseCfg) (r bs : List Byte) (hash : Option Nat) (id : Nat) : Option (List Byte) :=
  let t0 := (r.drop 0x10).take (fld r 4 2)
  let opts := fld r 3 1
  match template c (fld r 2 1) t0 with
  | none => none
  | some t =>
    let ip := firstIp tags bs
    let payload : Option (List Byte) :=
      if t.inner then some bs
      else match ip with
        | some (o, v) => if v = t.proto then some (bs.drop o) else none
        | none => none
    match payload with
    | none => none
    | some pl =>
      let n := pl.length
      let b := t0
      -- DSCP and ECN from the inner IP header
      let tc0 := trafficClass b t.l3 (if t.v6 then 6 else 4)
      let tc := match ip with
        | some (o, v) =>
          let i := trafficClass bs o v
          let dscp := if bit opts 2 then i / 4 else tc0 / 4
          let ecn := if bit opts 1 then (if i % 4 = 3 then 2 else i % 4) else tc0 % 4
          dscp * 4 + ecn
        | none => tc0
      let b := if t.v6 then
          let w := bfld b t.l3 4
          let label := w % 2 ^ 20
          let label := match hash with | some h => if label = 0 then h % 2 ^ 20 else label | none => label
          splice (splice b t.l3 (beBytes (w / 2 ^ 28 * 2 ^ 28 + tc * 2 ^ 20 + label) 4)) (t.l3 + 4) (beBytes (t.len - t.l3 - 40 + n) 2)
        else
          let b := splice b (t.l3 + 1) (beBytes tc 1)
          splice (splice b (t.l3 + 2) (beBytes (t.len - t.l3 + n) 2)) (t.l3 + 4) (beBytes id 2)
      let b := if t.v6 then b else fixIp4 b t.l3
      let b := match t.udp, hash with
        | some u, some h => splice b u (beBytes (0xC000 + h % 2 ^ 14) 2)
        | _, _ => b
      let b := match t.udp with
        | some u => splice (splice b (u + 4) (beBytes (t.len - u + n) 2)) (u + 6) [0, 0]
        | none => b
      let b := if fld r 2 1 = 4 then (match hash with | some h => splice b (t.tun + 7) (beBytes h 1) | none => b) else b
      let out := b ++ pl
      match t.udp with
      | some u => if t.v6 ∨ bit opts 0 then some (fixL4 out t.l3 u) else some out
      | none => some out

/-! ## Decapsulation and edits (R237, R243) -/

/-- ECN of a level's IP header; none without IP. -/
def levelEcn (l : Level) (bs : List Byte) : Option Nat :=
  if l.l3 = 1 then some (bfld bs (l.l3off + 1) 1 % 4) else if l.l3 = 2 then some (bfld bs l.l3off 2 / 16 % 4) else none

/-- Carry CE inward over removed levels (R243): none when CE meets a Not-ECT header; otherwise whether the last is CE. -/
def carryCe (bs : List Byte) : List Level → Bool → Option Bool
  | [], ce => some ce
  | l :: ls, ce =>
    match levelEcn l bs with
    | none => carryCe bs ls ce
    | some e => if ce && decide (e = 0) then none else carryCe bs ls (ce || decide (e = 3))

/-- Why a packet is dropped, as the counter it is counted in. -/
abbrev Counter := Nat

/-- Remove `n` tunnel levels (R243). -/
def decap (rec' : List Byte) (q : Parsed) (bs : List Byte) (n : Nat) : Except Counter (List Byte) :=
  if n = 0 then .ok bs
  else if q.done.length < n then .error R.SW_DECAP_ABSENT
  else
    let removed := (q.levels.drop 1).take n
    let crit := removed.any fun l => decide (l.tunnel = 2) && bit (bfld bs (l.tunOff + 1) 1) 6
    if crit && !bit (fld rec' 1 1) 4 then .error R.SW_GENEVE_CRIT_DROP
    else match carryCe bs (q.levels.take (n + 1)) false, q.levels[n]? with
      | none, _ => .error R.SW_ECN_DROP
      | some ce, some l =>
        let bs' := match levelEcn l bs with
          | some e => if ce ∧ e ≠ 3 then
              let v := if l.l3 = 1 then 4 else 6
              setTrafficClass bs l.l3off v (trafficClass bs l.l3off v / 4 * 4 + 3)
            else bs
          | none => bs
        match l.l2 with
        | some o => .ok (bs'.drop o)
        | none =>
          if l.l3 = 1 ∨ l.l3 = 2 then
            let macs := if bit (fld rec' 1 1) 3 then slice rec' 0x20 0x2C else bs.take 12
            .ok (macs ++ beBytes (if l.l3 = 1 then 0x0800 else 0x86DD) 2 ++ bs'.drop l.l3off)
          else .error R.SW_DECAP_ABSENT
      | _, none => .error R.SW_DECAP_ABSENT

/-- VLAN_OP on the outermost Ethernet header (R237). -/
def vlanOp (c : ParseCfg) (rec' bs : List Byte) : Except Counter (List Byte) :=
  let tpid := if bit (fld rec' 0x0B 1) 0 then 0x88A8 else 0x8100
  let tagged := isTpid c (bfld bs 12 2)
  match fld rec' 0x0A 1 % 4 with
  | 1 =>
    if tagged && isTpid c (bfld bs 16 2) then .error R.SW_VLAN_DROP
    else .ok (bs.take 12 ++ beBytes tpid 2 ++ beBytes (fld rec' 0x0C 2) 2 ++ bs.drop 12)
  | 2 => .ok (if tagged then bs.take 12 ++ bs.drop 16 else bs)
  | 3 => .ok (if tagged then splice bs 14 (beBytes (fld rec' 0x0C 2) 2) else bs)
  | _ => .ok bs

/-- MAC_REWRITE. -/
def macRewrite (rec' bs : List Byte) : List Byte := if bit (fld rec' 1 1) 3 then slice rec' 0x20 0x2C ++ bs.drop 12 else bs

/-! ## Handing packets on -/

/-- Send a packet to a leaf queue. -/
def State.toLeaf (s : State) (dest leaf : Nat) (p : Pkt) : State :=
  { s with pipe := { s.pipe with enq := s.pipe.enq ++ [(⟨dest, leaf, p⟩ : Enq)] } }

/-- Drop a packet and count it. -/
def State.dropAt (s : State) (c : Counter) (p : Pkt) : State := (s.bump c).dropPkt p

/-- A bucket of a table; one never used is full. -/
def bucketOf (t : Tbl Bucket) (k depth : Nat) : Bucket := Tbl.get (fun _ => ⟨depth * nsPerSec, 0⟩) t k

/-- Take a packet's allowance (R256): one bucket per room, one per port, none for the owner (DEDUCED, log entry 25). -/
def State.allowance (s : State) (p : Pkt) : Option State :=
  let c := s.pktCfg p
  if p.source < 4 then
    let rate := rwcReg c R.SW_BSTAIR_PORT_RATE % 2 ^ 24
    match ((bucketOf s.pipe.portBuckets p.source (rate / 10)).fill s.clock rate (rate / 10)).take with
    | some b => some { s with pipe := { s.pipe with portBuckets := Tbl.put p.source b s.pipe.portBuckets } }
    | none => none
  else if p.source = 0xFFFF then some s
  else
    let rate := rwcReg c R.SW_BSTAIR_ROOM_RATE % 2 ^ 24
    let depth := rwcReg c R.SW_BSTAIR_ROOM_BURST % 2 ^ 16
    match ((bucketOf s.pipe.roomBuckets p.source depth).fill s.clock rate depth).take with
    | some b => some { s with pipe := { s.pipe with roomBuckets := Tbl.put p.source b s.pipe.roomBuckets } }
    | none => none

/-- Class of a packet on the back stair (R256). -/
def stairClass (p : Pkt) (reason : Nat) : Nat :=
  if reason = 6 then 1 else if p.pktType / 2 ^ 8 % 8 = 3 ∨ p.pktType / 2 ^ 5 % 8 = 3 ∨ p.pktType / 2 ^ 5 % 8 = 4 then 0 else 2

/-- Places of a class (R256). -/
def stairPlaces (cls : Nat) : Nat := match cls with | 0 => 4096 | 1 => 16384 | _ => 12288

/-- Admit a packet to the back stair (R254, R256). -/
def State.toStair (s : State) (p : Pkt) (reason : Nat) : State :=
  let cls := stairClass p reason
  match s.allowance p with
  | none => s.dropAt R.SW_BSTAIR_ALLOW_DROP p
  | some s =>
    if (s.pipe.stair.filter fun e => decide (e.cls = cls)).length ≥ stairPlaces cls then s.dropAt R.SW_BSTAIR_FULL p
    else { s with pipe := { s.pipe with stair := s.pipe.stair ++ [(⟨cls, reason, p⟩ : Stair)] } }

/-- The header beat of a PACKET message (R308). -/
def packetBeat (p : Pkt) (room service handle reason : Nat) : Vec :=
  Vec.ofBytes (leBytes 1 2 ++ pad 2 ++ pad 2 ++ leBytes 1 1 ++ leBytes reason 1 ++ leBytes (p.stamp.getD 0) 2 ++ leBytes room 2 ++
    leBytes service 1 ++ pad 1 ++ leBytes p.pktType 2 ++ leBytes p.pattern 4 ++ leBytes (p.hash.getD 0) 4 ++ leBytes handle 4 ++ pad 36)

/-- Cells of the packet buffer, in units of 64 B, that take no new packet: those of packets that threads hold, and the banks lost (R516, R540). -/
def State.usedCells (s : State) : List (Nat × Nat) :=
  (s.cores.packetLens.map fun e => (e.1, e.1 + (max e.2 1 + 255) / 256 * 4)) ++
    ((s.memory.retired.filter fun b => decide (56 ≤ b ∧ b < 248)) ++ s.memory.substituted.map fun x => x.2).map fun b =>
      ((b - 56) * 4096, (b - 55) * 4096)

/-- A handle for a packet of `len` bytes: consecutive free cells, the first from the last handle on, around the buffer (DESIGN CHOICE, log
entry 89: the manual leaves the place to the device). -/
def State.freeHandle (s : State) (len : Nat) : Option Nat :=
  let n := (max len 1 + 255) / 256 * 4
  let used := s.usedCells
  let fits (h : Nat) : Bool := decide (h + n ≤ 786432) && used.all fun u => decide (h + n ≤ u.1) || decide (u.2 ≤ h)
  let starts := s.pipe.nextHandle :: (0 :: used.map fun u => u.2).mergeSort
  (starts.find? fun h => decide (s.pipe.nextHandle ≤ h) && fits h).orElse fun _ => starts.find? fits

/-- Hand a packet to a thread by a line message (R250, R516); the packet lies in the packet buffer under its handle. Without a free run of cells
it is dropped as for a full buffer (R270). -/
def State.toThread (s : State) (p : Pkt) (t room service : Nat) : State :=
  match s.freeHandle p.bytes.length with
  | none => s.dropAt R.TM_BUFFER_DROP p
  | some h => match s.unitMessage 10 t [packetBeat p room service h 0] with
    | (s, true) =>
      { s with pipe := { s.pipe with handed := s.pipe.handed ++ [⟨h, room, service, p⟩], nextHandle := h + (max p.bytes.length 1 + 255) / 256 * 4 }
               mem := Memory.writeBytes s.mem (0x40E00000 + 64 * h) p.bytes
               cores := { s.cores with packetLens := Tbl.put h p.bytes.length s.cores.packetLens } }
    | (_, false) => s.dropAt R.SW_SERVICE_BUSY p

/-- A thread takes packet messages by its role in the map (R227, R297). -/
def State.takesPackets (s : State) (t : Nat) : Bool := decide (t < 2048) && Role.takesPackets (s.thread t).role

/-! ## Targets (R238, R239, R242) -/

/-- Where step 7 sends a packet. -/
inductive Target where
  /-- A leaf queue, with the tunnel of its path and whether the action's ENCAP applies. -/
  | leaf (dest leaf : Nat) (tunnel : Nat) (encap : Bool)
  | thread (t : Nat)
  | stair (reason : Nat) (count : Option Counter)
  | drop (count : Option Counter)
  deriving DecidableEq, Repr

/-- A receive queue of a room (R238, R239). -/
def State.roomTarget (s : State) (p : Pkt) (rec' : List Byte) (room queue : Nat) : Target :=
  if (s.room room).limits.queuePairs ≤ queue then .drop (some R.SW_ROOM_QUEUE_BAD)
  else if p.source = 0x8000 + room ∧ !bit (fld rec' 1 1) 5 then .drop (some R.SW_HAIRPIN_DROP)
  else
    let r := s.ring (refOf 1 false room queue)
    .leaf 4 (if r.live then r.globalNo else 65535) 0xFFFF false

/-- A path (R241, R242). -/
def pathTarget (c : Settings) (n : Nat) : Target :=
  let r := tunnelObj c 1 n
  if bit (fld r 2 1) 7 then .leaf (fld r 3 1) (fld r 4 2) (fld r 6 2) true else .drop (some R.SW_ACTION_INVALID)

/-- Resolve a disposition (R238). -/
def State.target (s : State) (c : Settings) (p : Pkt) (rec' : List Byte) : Target :=
  let t := fld rec' 4 2
  match fld rec' 0 1 with
  | 1 => s.roomTarget p rec' (fld rec' 2 2) t
  | 2 => pathTarget c t
  | 3 =>
    match p.hash, p.hashProf with
    | some h, some hp =>
      let b := c.block 0x0403 hp
      let e := fld (s.entry 5 (bankOf c 5) (fld b 4 2 * 512 + h % 512)) 0 4
      let v := e % 2 ^ 16
      let kind := e / 2 ^ 30
      if fld rec' 6 1 ≠ 0 ∧ kind ≠ 1 then .stair 4 (some R.SW_SERVICE_TARGET_BAD)
      else match kind with
        | 0 =>
          let room := fld b 6 2
          if room = 0xFFFF ∨ (s.room room).limits.queuePairs ≤ v then .stair 4 (some R.CLS_IND_BAD) else s.roomTarget p rec' room v
        | 1 => if s.takesPackets v then .thread v else .stair 4 (some R.CLS_IND_BAD)
        | 2 => pathTarget c v
        | _ => .drop none
    | _, _ => .stair 4 (some R.SW_NO_HASH)
  | 4 => if s.takesPackets t then .thread t else .stair 4 (some R.CLS_IND_BAD)
  | 5 => .stair 3 none
  | 6 => if p.pass ≥ 3 then .drop (some R.SW_RECIRC_LIMIT) else .leaf 5 t 0xFFFF true
  | _ => .drop none

/-- Encapsulate a packet with a tunnel entry (R245, R246); an invalid entry drops it (DEDUCED, log entry 25). -/
def State.encap (s : State) (c : Settings) (p : Pkt) (tunnel : Nat) : Except Counter (Pkt × State) :=
  if tunnel = 0xFFFF then .ok (p, s)
  else
    let r := tunnelObj c 0 tunnel
    if fld r 2 1 = 0 then .error R.SW_ACTION_INVALID
    else
      let id := Tbl.get (fun _ => 0) s.pipe.tunnelId tunnel
      match encapsulate c (parseCfg c p.source) r p.insertSums p.hash id with
      | none => .error R.SW_ENCAP_MISMATCH
      | some bs => .ok ({ p with bytes := bs, l3csum := false, l4csum := false },
          { s with pipe := { s.pipe with tunnelId := Tbl.put tunnel ((id + 1) % 65536) s.pipe.tunnelId } })

/-! ## Mirroring (R247) -/

/-- The record of a mirror session in a generation. -/
def mirrorRec (c : Settings) (n : Nat) : List Byte := (c.block 0x0406 n).drop 8

/-- Send a mirror copy, or drop it (R247). -/
def State.sendCopy (s : State) (c : Settings) (p : Pkt) (r : List Byte) : State :=
  let cut := fld r 2 2
  let k := { p with bytes := if cut = 0 then p.bytes else p.bytes.take cut, tx := none, wantTs := false, copy := true }
  let lost := s.bump R.SW_MIRROR_DROP
  let tgt : Target := match fld r 8 1 with
    | 0 => pathTarget c (fld r 0x0C 2)
    | 1 =>
      let g := s.ring (refOf 1 false (fld r 0x0A 2) (fld r 0x0C 2))
      if g.live then .leaf 4 g.globalNo 0xFFFF false else .drop none
    | _ => .leaf 4 (fld r 0x0C 2) 0xFFFF false
  match tgt with
  | .leaf d l tunnel enc =>
    let t := if enc then (if fld r 0x0E 2 = 0xFFFF then tunnel else fld r 0x0E 2) else 0xFFFF
    match s.encap c k t with
    | .error _ => lost
    | .ok (k, s') =>
      if s.copyLost d l k.bytes.length ∨ (d < 4 ∧ mtuOf c d < k.bytes.length + 4) then lost
      else s'.toLeaf d l k
  | _ => lost

/-- Offer a packet to one mirror session at a point: one candidate in N is copied. -/
def State.mirrorTo (s : State) (c : Settings) (p : Pkt) (n : Nat) (modified : Bool) : State :=
  let r := mirrorRec c n
  if n = 0xFF ∨ !bit (fld r 1 1) 7 ∨ bit (fld r 1 1) 6 ≠ modified then s
  else
    let seen := Tbl.get (fun _ => 0) s.pipe.mirrorSeen n + 1
    let s := { s with pipe := { s.pipe with mirrorSeen := Tbl.put n (seen % fld r 4 4) s.pipe.mirrorSeen } }
    if seen % fld r 4 4 = 0 then s.sendCopy c p r else s

/-- Both mirror sessions of an action record. -/
def State.mirror (s : State) (c : Settings) (p : Pkt) (rec' : List Byte) (modified : Bool) : State :=
  let m := fld rec' 0x0E 2
  let s := s.mirrorTo c p (m % 256) modified
  if m / 256 = m % 256 then s else s.mirrorTo c p (m / 256) modified

/-! ## One pass (R236, R237) -/

/-- Count a pass in the record's action counter (R236). -/
def State.countAction (s : State) (rec' : List Byte) (len : Nat) : State :=
  let v := fld rec' 0x2C 4
  if bit v 31 then
    let k := v % 2 ^ 14 * 2
    let t := s.pipe.actionCount
    let t := Tbl.set (fun _ => 0) t k (Tbl.get (fun _ => 0) t k + 1)
    { s with pipe := { s.pipe with actionCount := Tbl.set (fun _ => 0) t (k + 1) (Tbl.get (fun _ => 0) t (k + 1) + BitVec.ofNat 64 len) } }
  else s

/-- Anti-spoofing (R240). -/
def spoofOk (p : Pkt) (rec' : List Byte) : Bool :=
  !bit (fld rec' 1 1) 6 ||
    (decide (p.source = 0x8000 + fld rec' 0x1E 2) && (zeros rec' 0x18 6 || decide (slice rec' 0x18 0x1E = slice p.bytes 6 12)))

/-- Steps 5 and 6: decapsulation, VLAN_OP, MAC_REWRITE. -/
def editPacket (c : Settings) (rec' : List Byte) (q : Parsed) (p : Pkt) : Except Counter Pkt :=
  match decap rec' q p.bytes (fld rec' 7 1) with
  | .error e => .error e
  | .ok b => match vlanOp (parseCfg c p.source) rec' b with
    | .error e => .error e
    | .ok b => .ok { p with bytes := macRewrite rec' b }

/-- Steps 8 to 11 for a leaf target. -/
def State.sendOn (s : State) (c : Settings) (p : Pkt) (rec' : List Byte) (dest leaf tunnel : Nat) (useEncap : Bool) : State :=
  let e := fld rec' 8 2
  match s.encap c p (if useEncap ∧ e ≠ 0xFFFF then e else tunnel) with
  | .error cnt => s.dropAt cnt p
  | .ok (p, s) =>
    let s := s.mirror c p rec' true
    if dest < 4 ∧ mtuOf c dest < p.bytes.length + 4 then s.dropAt R.SW_EGRESS_OVERSIZE p
    else if dest = 5 then s.toLeaf 5 leaf { p with pass := p.pass + 1, recirc := true, recircMd := fld rec' 0x14 4 % 2 ^ 29 }
    else s.toLeaf dest leaf p

/-- One pass of the switch stage over a packet whose lookup result is known (R237). -/
def State.switchPass (s : State) (p : Pkt) : State :=
  let c := s.pktCfg p
  let rec' := actionRec c p.action
  let s := s.countAction rec' p.bytes.length
  if !bit (fld rec' 1 1) 7 then s.dropAt R.SW_ACTION_INVALID p
  else
    let pol := fld rec' 0x10 4
    match (if bit pol 31 then s.police (pol % 2 ^ 16) p.bytes.length else (true, s)) with
    | (false, s) => s.dropPkt p
    | (true, s) =>
      if !spoofOk p rec' then s.dropAt R.SW_SPOOF_DROP p
      else
        let s := s.mirror c p rec' false
        match editPacket c rec' (s.parsePkt p) p with
        | .error cnt => s.dropAt cnt p
        | .ok p =>
          match s.target c p rec' with
          | .drop none => s.dropPkt p
          | .drop (some cnt) => s.dropAt cnt p
          | .stair reason cnt => (match cnt with | some k => s.bump k | none => s).toStair p reason
          | .thread t => s.toThread p t (fld rec' 2 2) (fld rec' 6 1)
          | .leaf d l tunnel enc => s.sendOn c p rec' d l tunnel enc

/-- Take the first resolved packet that no earlier packet of its source precedes (R192). -/
def nextPiece : List Pkt → List Piece → Option (Pkt × List Piece)
  | _, [] => none
  | seen, x :: xs =>
    if x.look = none ∧ !(seen.any fun p => p.sameSource x.pkt) then some (x.pkt, xs)
    else (nextPiece (x.pkt :: seen) xs).map fun r => (r.1, x :: r.2)

/-- SWITCH_PASS (R192, R237). -/
def execSwitchPass (s : State) : Res :=
  match nextPiece [] s.pipe.pieces with
  | none => .next s
  | some (p, rest) =>
    let s := { s with pipe := { s.pipe with pieces := rest } }
    if s.pktRetired p then .next (s.retireDrop p).flow
    else match p.stair with
      | some 0 => .next (s.dropPkt p).flow
      | some r => .next (s.toStair p r).flow
      | none => .next (s.switchPass p).flow

/-! ## Commands (R241, R245 to R247, R260) -/

/-- Bytes of a CLS_TUNNEL record by KIND (R241). -/
def tunnelSize (kind : Nat) : Nat := match kind with | 0 => 352 | 1 => 16 | _ => 48

/-- A CLS_TUNNEL record in range (R241 to R246, R260); templates are parsed under the settings that the commit would build. -/
def tunnelRecOk (c : Settings) (kind : Nat) (r : List Byte) : Bool :=
  match kind with
  | 0 =>
    let n := fld r 4 2
    decide (fld r 0 2 < 16384) && decide (fld r 2 1 ≤ 5) && decide (fld r 3 1 < 8) && zeros r 6 10 &&
      (decide (fld r 2 1 = 0) ||
        (decide (34 ≤ n ∧ n ≤ 336) && (match template c (fld r 2 1) ((r.drop 0x10).take n) with
          | some t => decide (t.len = n)
          | none => false)))
  | 1 =>
    decide (fld r 0 2 < 4096) && decide (fld r 2 1 % 128 = 0) && decide (fld r 3 1 ≤ 3) &&
      (decide (fld r 6 2 < 16384) || decide (fld r 6 2 = 0xFFFF)) && zeros r 8 8
  | _ =>
    decide (fld r 0 2 < 256) && decide (fld r 2 1 % 32 = 0) && decide (fld r 3 1 ≤ 3) && zeros r 0x0C 4 && zeros r 0x20 16

/-- CLS_TUNNEL (0x0405, R241). -/
def cmdClsTunnel : Command where
  opcode := 0x0405
  front := true
  room := false
  mctp := false
  recovery := false
  sched := false
  shape := fun bs => recShape 8 (tunnelSize (fld bs 0 1)) 2 2 1 256 bs
  zero := zeroAt [(1, 1), (4, 4)]
  body := fun x s =>
    let bs := x.pkt.params
    let kind := fld bs 0 1
    let rs := recordsOf bs 8 (tunnelSize kind) (fld bs 2 2)
    if 2 < kind ∨ !rs.all (tunnelRecOk s.builtSettings kind) then Out.of s .invalidParam
    else Out.of (s.stageRecs 0x0405 (leBytes kind 1 ++ pad 1 ++ leBytes 1 2 ++ pad 4) (fun r => kind * 2 ^ 24 + fld r 0 2) rs) .ok

/-- A mirror session record in range (R247). -/
def mirrorOk (r : List Byte) : Bool :=
  let cut := fld r 2 2
  let kind := fld r 8 1
  decide (fld r 0 1 ≤ 15) && decide (fld r 1 1 % 64 = 0) && (decide (cut = 0) || decide (64 ≤ cut ∧ cut ≤ 16128)) &&
    decide (1 ≤ fld r 4 4 ∧ fld r 4 4 ≤ 65536) && decide (kind ≤ 2) && zeros r 9 1 && zeros r 0x10 16 &&
    (if kind = 1 then decide (fld r 0x0A 2 < 1024) else decide (fld r 0x0A 2 = 0xFFFF)) &&
    (if kind = 0 then decide (fld r 0x0C 2 < 4096) && (decide (fld r 0x0E 2 < 16384) || decide (fld r 0x0E 2 = 0xFFFF))
     else decide (fld r 0x0E 2 = 0xFFFF))

/-- CLS_MIRROR (0x0406, R247). -/
def cmdClsMirror : Command where
  opcode := 0x0406
  front := true
  room := false
  mctp := false
  recovery := false
  sched := false
  shape := recShape 8 32 0 1 1 16
  zero := zeroAt [(1, 7)]
  body := fun x s =>
    let rs := recordsOf x.pkt.params 8 32 (fld x.pkt.params 0 1)
    if rs.all mirrorOk then Out.of (s.stageRecs 0x0406 (countOne 1 8) (fun r => fld r 0 1) rs) .ok else Out.of s .invalidParam

end Sys2Proof.Machine
end

