-- ==== Sys2Proof/Machine/BackStair.lean ====
section
/-!
DEFINITION. The back stair: answers for device-owned addresses, reassembly, delivery to the owner (R254 to R262).
-/

namespace Sys2Proof.Machine

/-! ## Device-owned addresses (R260, R261) -/

/-- The KIND 2 record of an address in a generation. -/
def addrRec (c : Settings) (i : Nat) : List Byte := tunnelObj c 2 i
/-- The record is valid. -/
def addrValid (r : List Byte) : Bool := bit (fld r 2 1) 7
/-- The address is IPv6. -/
def addrV6 (r : List Byte) : Bool := bit (fld r 2 1) 6
/-- The address answers Echo Requests. -/
def addrEcho (r : List Byte) : Bool := bit (fld r 2 1) 5
/-- PORT of an address. -/
def addrPort (r : List Byte) : Nat := fld r 3 1
/-- MAC of an address. -/
def addrMac (r : List Byte) : List Byte := slice r 6 12
/-- The address's bytes: 4 or 16. -/
def addrBytes (r : List Byte) : List Byte := (r.drop 0x10).take (if addrV6 r then 16 else 4)
/-- The VLAN tags a frame of the address carries. -/
def addrTags (r : List Byte) : List (Nat × Nat) := if bit (fld r 4 2) 15 then [(0x8100, fld r 4 2 % 2 ^ 15)] else []

/-- The address's VLAN is the packet's: untagged, or one tag of its VID. -/
def addrVlan (r : List Byte) (tags : List (Nat × Nat)) : Bool :=
  match tags with
  | [] => !bit (fld r 4 2) 15
  | [t] => bit (fld r 4 2) 15 && decide (t.2 % 4096 = fld r 4 2 % 4096)
  | _ => false

/-- The device-owned addresses of a generation on a port. -/
def addrsOf (c : Settings) (port : Nat) : List Nat :=
  (List.range 256).filter fun i => addrValid (addrRec c i) && decide (addrPort (addrRec c i) = port)

/-- The device address that an IP address names on a port and VLAN. -/
def addrFor (c : Settings) (port : Nat) (tags : List (Nat × Nat)) (v6 : Bool) (ip : List Byte) : Option Nat :=
  (addrsOf c port).find? fun i =>
    let r := addrRec c i
    decide (addrV6 r = v6) && addrVlan r tags && decide (addrBytes r = ip)

/-- The block of an NVMT_SET object in a generation (R507): records from offset 8; KIND and the object's number select it. -/
def nvmtRec (c : Settings) (kind sel : Nat) : List Byte := (c.block 0x0909 (kind * 2 ^ 24 + sel)).drop 8

/-- A service listens on a TCP port of an address: a listener record, or a connection's local port. -/
def State.listens (s : State) (c : Settings) (addr port : Nat) : Bool :=
  (List.range 256).any (fun i =>
    let r := nvmtRec c 1 i
    decide (r ≠ []) && decide (fld r 4 1 = addr) && decide (fld r 8 2 = port)) ||
  s.store.conns.any (fun e => decide (e.2.addr = addr) && decide (e.2.lport = port))

/-! ## Building frames -/

/-- An Ethernet frame with tags. -/
def ethFrame (dst src : List Byte) (tags : List (Nat × Nat)) (etype : Nat) (payload : List Byte) : List Byte :=
  dst ++ src ++ (tags.map fun t => beBytes t.1 2 ++ beBytes t.2 2).flatten ++ beBytes etype 2 ++ payload

/-- An IPv4 packet with a header checksum. -/
def ip4Packet (src dst : List Byte) (proto ttl id : Nat) (body : List Byte) : List Byte :=
  fixIp4 ([0x45, 0] ++ beBytes (20 + body.length) 2 ++ beBytes id 2 ++ [0x40, 0] ++ beBytes ttl 1 ++ beBytes proto 1 ++ [0, 0] ++ src ++ dst ++ body) 0

/-- An IPv6 packet. -/
def ip6Packet (src dst : List Byte) (next hop : Nat) (body : List Byte) : List Byte :=
  beBytes 0x60000000 4 ++ beBytes body.length 2 ++ beBytes next 1 ++ beBytes hop 1 ++ src ++ dst ++ body

/-- An ICMPv6 message with its checksum at offset 2. -/
def icmp6 (src dst body : List Byte) : List Byte :=
  splice body 2 (beBytes (inetSum body (sum16 src + sum16 dst + 58 + body.length)) 2)

/-- An ARP packet. -/
def arpPacket (op : Nat) (smac sip tmac tip : List Byte) : List Byte :=
  beBytes 1 2 ++ beBytes 0x0800 2 ++ [6, 4] ++ beBytes op 2 ++ smac ++ sip ++ tmac ++ tip

/-- A Neighbor Advertisement with the target link-layer address (RFC 4861); `flags` is its first word. -/
def neighborAdv (mac ip dst : List Byte) (flags : Nat) : List Byte :=
  ip6Packet ip dst 58 255 (icmp6 ip dst ([136, 0, 0, 0] ++ beBytes flags 4 ++ ip ++ [2, 1] ++ mac))

/-- The IPv6 all-nodes group and its Ethernet address. -/
def allNodes : List Byte := [0xFF, 2] ++ pad 13 ++ [1]

/-- Send a frame of the device itself: it waits in leaf 0 of its port (DESIGN CHOICE, log entry 28). -/
def State.sendOwn (s : State) (port : Nat) (bytes : List Byte) : State :=
  s.toLeaf port 0 (Pkt.fresh bytes 0xFFFF (16 + 2 ^ 32) s.now)

/-- The gratuitous ARP request or unsolicited Neighbor Advertisement of an address (R261). -/
def announce (r : List Byte) : List Byte :=
  let mac := addrMac r
  let ip := addrBytes r
  if addrV6 r then ethFrame [0x33, 0x33, 0, 0, 0, 1] mac (addrTags r) 0x86DD (neighborAdv mac ip allNodes 0x20000000)
  else ethFrame (List.replicate 6 0xFF) mac (addrTags r) 0x0806 (arpPacket 1 mac ip (pad 6) ip)

/-- Announce addresses of the generation in force. -/
def State.announceAll (s : State) (idx : List Nat) : State :=
  idx.foldl (fun s i => s.sendOwn (addrPort (addrRec s.gen.cur i)) (announce (addrRec s.gen.cur i))) s

/-- LINK_UP (R163, R164, R261). -/
def execLinkUp (port : Fin 4) (s : State) : Res :=
  let n := port.val
  if (s.port n).mayRise then .next ((s.portUp n).announceAll (addrsOf s.gen.cur n)) else .next s

/-! ## Answers (R261) -/

/-- What the back stair does with a packet for a device-owned address. -/
inductive Answer where
  | send (bytes : List Byte)
  /-- Consumed without an answer. -/
  | consume
  /-- A path MTU for the connections of an address to a peer: protocol ports and the MTU. -/
  | pathMtu (addr : Nat) (peer : List Byte) (lport rport mtu : Nat)
  | none
  deriving DecidableEq, Repr

/-- The RST that answers a TCP segment (RFC 9293), given its IP addresses. -/
def rstSegment (seg : List Byte) (len : Nat) (src dst : List Byte) : List Byte :=
  let flags := bfld seg 13 1
  let ack := bit flags 4
  let seqLen := len - bfld seg 12 1 / 16 * 4 + b01 (bit flags 1) + b01 (bit flags 0)
  let body := slice seg 2 4 ++ slice seg 0 2 ++ (if ack then slice seg 8 12 ++ pad 4 else pad 4 ++ beBytes ((bfld seg 4 4 + seqLen) % 2 ^ 32) 4) ++
    [0x50, if ack then 4 else 0x14] ++ pad 6
  splice body 16 (beBytes (inetSum body (sum16 src + sum16 dst + 6 + 20)) 2)

/-- The answer to an IPv4 packet to a device-owned address; `ttl` and `id` are the values the manual leaves open. -/
def State.answer4 (s : State) (c : Settings) (a : Nat) (l : Level) (bs : List Byte) (tags : List (Nat × Nat)) (ttl id : Nat) : Answer :=
  let r := addrRec c a
  let src := slice bs (l.l3off + 12) (l.l3off + 16)
  let dst := slice bs (l.l3off + 16) (l.l3off + 20)
  let back (proto : Nat) (body : List Byte) : Answer :=
    .send (ethFrame (slice bs 6 12) (addrMac r) tags 0x0800 (ip4Packet dst src proto ttl id body))
  match l.l4off with
  | none => .none
  | some o =>
    let body := slice bs o l.l3end
    match l.proto with
    | some 1 =>
      if bfld body 0 1 = 8 then
        if addrEcho r then
          let b := [0, 0, 0, 0] ++ body.drop 4
          if mtuOf c (addrPort r) < 14 + 4 * tags.length + 20 + b.length + 4 then .consume
          else back 1 (splice b 2 (beBytes (inetSum b 0) 2))
        else .none
      else if bfld body 0 2 = 0x0304 ∧ slice body 20 24 = addrBytes r ∧ bfld body 17 1 = 6 then
        let h := bfld body 8 1 % 16 * 4
        .pathMtu a (slice body 24 28) (bfld body (8 + h) 2) (bfld body (10 + h) 2) (bfld body 6 2)
      else .none
    | some 6 =>
      if bit (bfld body 13 1) 2 ∨ s.listens c a (bfld body 2 2) then .none else back 6 (rstSegment body body.length src dst)
    | some 17 => .consume
    | _ => .none

/-- The answer to an IPv6 packet to a device-owned address. -/
def State.answer6 (s : State) (c : Settings) (a : Nat) (l : Level) (bs : List Byte) (tags : List (Nat × Nat)) (ttl : Nat) : Answer :=
  let r := addrRec c a
  let src := slice bs (l.l3off + 8) (l.l3off + 24)
  let dst := slice bs (l.l3off + 24) (l.l3off + 40)
  let back (proto hop : Nat) (body : List Byte) : Answer :=
    .send (ethFrame (slice bs 6 12) (addrMac r) tags 0x86DD (ip6Packet dst src proto hop body))
  match l.l4off with
  | none => .none
  | some o =>
    let body := slice bs o l.l3end
    match l.proto with
    | some 58 =>
      if bfld body 0 1 = 128 then
        if addrEcho r then
          let b := [129, 0, 0, 0] ++ body.drop 4
          if mtuOf c (addrPort r) < 14 + 4 * tags.length + 40 + b.length + 4 then .consume
          else back 58 ttl (icmp6 dst src b)
        else .none
      else if bfld body 0 1 = 2 ∧ slice body 16 32 = addrBytes r ∧ bfld body 14 1 = 6 then
        .pathMtu a (slice body 32 48) (bfld body 48 2) (bfld body 50 2) (bfld body 4 4)
      else .none
    | some 6 =>
      if bit (bfld body 13 1) 2 ∨ s.listens c a (bfld body 2 2) then .none else back 6 ttl (rstSegment body body.length src dst)
    | some 17 => .consume
    | _ => .none

/-- A Neighbor Solicitation for a device-owned address, to it or to its solicited-node group. -/
def solicited (c : Settings) (port : Nat) (tags : List (Nat × Nat)) (l : Level) (bs : List Byte) : Option Nat :=
  match l.l4off with
  | none => none
  | some o =>
    if l.proto = some 58 ∧ bfld bs o 1 = 135 then
      let t := slice bs (o + 8) (o + 24)
      let dst := slice bs (l.l3off + 24) (l.l3off + 40)
      let group : List Byte := [0xFF, 2] ++ pad 9 ++ [1, 0xFF] ++ t.drop 13
      if dst = t ∨ dst = group then addrFor c port tags true t else none
    else none

/-- The Neighbor Advertisement with Solicited and Override set. -/
def advFor (r bs : List Byte) (l : Level) (tags : List (Nat × Nat)) : List Byte :=
  let src := slice bs (l.l3off + 8) (l.l3off + 24)
  let dst := if src = pad 16 then allNodes else src
  ethFrame (slice bs 6 12) (addrMac r) tags 0x86DD (neighborAdv (addrMac r) (addrBytes r) dst 0x60000000)

/-- The answer to a packet (R261); the last part is the state after its free values were drawn. -/
def State.answerTo (s : State) (p : Pkt) : Answer × State :=
  let c := s.pktCfg p
  let q := s.parsePkt p
  let l := q.levels.headD (Level.start 0 0)
  let bs := p.bytes
  let f := s.free
  if p.source ≥ 4 then (.none, s)
  else match l.l3 with
    | 3 =>
      let o := l.l3off
      if bfld bs (o + 6) 2 = 1 then
        match addrFor c p.source l.tags false (slice bs (o + 24) (o + 28)) with
        | some a =>
          let r := addrRec c a
          (.send (ethFrame (slice bs 6 12) (addrMac r) l.tags 0x0806
            (arpPacket 2 (addrMac r) (addrBytes r) (slice bs (o + 8) (o + 14)) (slice bs (o + 14) (o + 18)))), s)
        | none => (.none, s)
      else (.none, s)
    | 1 =>
      match addrFor c p.source l.tags false (slice bs (l.l3off + 16) (l.l3off + 20)) with
      | some a => (s.answer4 c a l bs l.tags (f.1.toNat % 255 + 1) (f.1.toNat / 256 % 65536), f.2)
      | none => (.none, s)
    | 2 =>
      match solicited c p.source l.tags l bs with
      | some a => (.send (advFor (addrRec c a) bs l l.tags), s)
      | none => match addrFor c p.source l.tags true (slice bs (l.l3off + 24) (l.l3off + 40)) with
        | some a => (s.answer6 c a l bs l.tags (f.1.toNat % 255 + 1), f.2)
        | none => (.none, s)
    | _ => (.none, s)

/-- The device may send one more answer out of a port: 20,000 in each second. -/
def State.mayAnswer (s : State) (port : Nat) : Option State :=
  let b := Tbl.get (fun _ => (⟨0, 0⟩ : Bucket)) s.pipe.answers port
  let b : Bucket := if s.clock < b.since + nsPerSec then b else ⟨0, s.clock⟩
  if b.tokens ≥ 20000 then none else some { s with pipe := { s.pipe with answers := Tbl.put port ⟨b.tokens + 1, b.since⟩ s.pipe.answers } }

/-- Update the path MTU of a connection, down to 576 B for IPv4 and 1,280 B for IPv6 (R261, R511). -/
def State.setPathMtu (s : State) (addr : Nat) (peer : List Byte) (lport rport mtu : Nat) : State :=
  let least := if peer.length = 16 then 1280 else 576
  { s with store := { s.store with conns := s.store.conns.map fun e =>
      if e.2.addr = addr ∧ e.2.remote.take peer.length = peer ∧ e.2.lport = lport ∧ e.2.rport = rport then
        (e.1, { e.2 with pmtu := max least mtu }) else e } }

/-! ## Reassembly (R258, R259) -/

/-- The header chain in front of an L4 header, and that header, lie whole in the bytes. -/
def chainWhole (v6 : Bool) : Nat → Nat → List Byte → Bool
  | 0, _, _ => true
  | n + 1, proto, bs =>
    let len := bs.length
    match proto with
    | 6 => decide (20 ≤ len) && decide (bfld bs 12 1 / 16 * 4 ≤ len)
    | 17 | 1 | 58 | 50 => decide (8 ≤ len)
    | 51 => let h := (bfld bs 1 1 + 2) * 4; decide (h ≤ len) && chainWhole v6 n (bfld bs 0 1) (bs.drop h)
    | 0 | 43 | 60 =>
      if v6 then (let h := (bfld bs 1 1 + 1) * 8; decide (2 ≤ len ∧ h ≤ len) && chainWhole v6 n (bfld bs 0 1) (bs.drop h)) else true
    | _ => true

/-- A fragment: its key, where its payload starts, the payload, its offset, and whether more follow. -/
structure Frag where
  key  : List Byte
  l3   : Level
  at'  : Nat
  body : List Byte
  off  : Nat
  more : Bool
  outer : List (Nat × Nat)

/-- Length fields in front of the innermost level (R259): of each outer IP header, and of its UDP header. -/
def outerLengths (q : Parsed) : List (Nat × Nat) :=
  q.done.flatMap fun l =>
    (if l.l3 = 1 then [(l.l3off, 4)] else if l.l3 = 2 then [(l.l3off, 6)] else []) ++
      (match l.l4off with | some o => if l.l4 = 2 then [(o, 0)] else [] | none => [])

/-- Renew a length field so that its header encloses the rest of the packet. -/
def renewLength (bs : List Byte) (e : Nat × Nat) : List Byte :=
  let n := bs.length - e.1
  match e.2 with
  | 4 => fixIp4 (splice bs (e.1 + 2) (beBytes n 2)) e.1
  | 6 => splice bs (e.1 + 4) (beBytes (n - 40) 2)
  | _ => splice bs (e.1 + 4) (beBytes n 2)

/-- The fragment in a packet. -/
def fragOf (q : Parsed) (p : Pkt) : Option Frag :=
  let l := q.cur
  let bs := p.bytes
  match l.frag with
  | none => none
  | some f =>
    let addrs := if l.l3 = 2 then slice bs (l.l3off + 8) (l.l3off + 40) else slice bs (l.l3off + 12) (l.l3off + 20)
    let id := if l.l3 = 2 then slice bs (q.off - 4) q.off else slice bs (l.l3off + 4) (l.l3off + 6)
    let proto := leBytes (l.proto.getD 0) 1
    some ⟨leBytes p.source 2 ++ leBytes l.l3 1 ++ addrs ++ proto ++ id, l, q.off, slice bs q.off l.l3end, f % 2 ^ 13 * 8, bit f 14, outerLengths q⟩

/-- Reassembly memory in use. -/
def State.reasmBytes (s : State) : Nat :=
  ((s.pipe.reasm.filter fun d => !d.discarded).map fun d => (d.frags.map fun f => f.2.length).sum).sum

/-- Two pieces of a datagram overlap. -/
def overlaps (a : Nat × List Byte) (off len : Nat) : Bool := decide (a.1 < off + len ∧ off < a.1 + a.2.length)

/-- Add a fragment to a datagram: the datagram, or a reason to discard it. -/
def Datagram.add (d : Datagram) (f : Frag) (p : Pkt) : Option Datagram :=
  let len := f.body.length
  let total := if f.more then d.total else some (f.off + len)
  let front := if f.l3.l3 = 2 then f.at' - 8 - (f.l3.l3off + 40) else f.at' - f.l3.l3off
  let tooFar : Bool := match total with
    | some n => d.frags.any (fun g => decide (n < g.1 + g.2.length)) || decide (n < f.off + len) || (d.total.isSome && decide (d.total ≠ total))
    | none => false
  if d.frags.any (fun g => overlaps g f.off len) ∨ d.frags.length ≥ 64 ∨ 65535 < front + f.off + len ∨ tooFar ∨
      (f.l3.l3 = 1 ∧ f.off = 8) ∨ (f.off = 0 ∧ !chainWhole (decide (f.l3.l3 = 2)) 8 (f.l3.proto.getD 0) f.body) then none
  else
    let d := { d with frags := d.frags ++ [(f.off, f.body)], total := total }
    some (if f.off = 0 then { d with first := some p, outer := f.outer, l3off := f.l3.l3off, hdrLen := f.at' } else d)

/-- Payload bytes in order from an offset, when no gap is left. -/
def gather (fs : List (Nat × List Byte)) : Nat → Nat → List Byte → Option (List Byte)
  | 0, _, _ => none
  | n + 1, off, acc =>
    match fs.find? fun f => decide (f.1 = off) with
    | some f => if f.2 = [] then none else gather fs n (off + f.2.length) (acc ++ f.2)
    | none => some acc

/-- The whole payload of a complete datagram. -/
def Datagram.whole (d : Datagram) : Option (Pkt × List Byte) :=
  match d.first, d.total with
  | some p, some n =>
    match gather d.frags 66 0 [] with
    | some b => if b.length = n then some (p, b) else none
    | none => none
  | _, _ => none

/-- Where the Next Header field that names the Fragment header lies: the IPv6 header's, or the last extension header's. -/
def nextHeaderAt (bs : List Byte) (stop : Nat) : Nat → Nat → Nat → Nat
  | 0, _, field => field
  | n + 1, o, field => if o ≥ stop then field else nextHeaderAt bs stop n (o + (bfld bs (o + 1) 1 + 1) * 8) o

/-- The packet of a complete datagram (R259): the headers of its first fragment, and of the tunnel levels in front of them, with the lengths that
now enclose it (DEDUCED, log entry 75). -/
def Datagram.packet (d : Datagram) (p : Pkt) (body : List Byte) : List Byte :=
  let bs := p.bytes
  let o := d.l3off
  let whole :=
    if bfld bs o 1 / 16 = 6 then
      let fh := d.hdrLen - 8
      let nh := slice bs fh (fh + 1)
      let b := splice bs (nextHeaderAt bs fh 8 (o + 40) (o + 6)) nh
      splice (b.take fh) (o + 4) (beBytes (fh - (o + 40) + body.length) 2) ++ body
    else
      let b := splice (bs.take d.hdrLen) (o + 2) (beBytes (d.hdrLen - o + body.length) 2)
      fixIp4 (splice b (o + 6) (beBytes (bfld b (o + 6) 2 / 2 ^ 14 * 2 ^ 14) 2)) o ++ body
  d.outer.foldl renewLength whole

/-- Reinject a complete datagram as a new packet at the recirculation input. -/
def State.reinject (s : State) (p : Pkt) (bytes : List Byte) : State :=
  let k : Pkt := { Pkt.fresh bytes p.source p.origin p.time with recirc := true, recircMd := 2 ^ 29 }
  ({ s with pipe := { s.pipe with input := s.pipe.input ++ [k] } }).bump R.SW_REASM_DONE

/-- Replace the datagrams in reassembly. -/
def State.setReasm (s : State) (ds : List Datagram) : State := { s with pipe := { s.pipe with reasm := ds } }

/-- A fragment reaches reassembly. Its transmit entry, if any, completes now. -/
def State.reassemble (s : State) (p : Pkt) : State :=
  match fragOf (s.parsePkt p) p with
  | none => s.dropPkt p
  | some f =>
    let s := s.dropPkt p
    let others := s.pipe.reasm.filter fun d => decide (d.key ≠ f.key)
    match s.pipe.reasm.find? fun d => decide (d.key = f.key) with
    | some d =>
      if d.discarded then s
      else if 67108864 < s.reasmBytes + f.body.length then (s.setReasm (others ++ [{ d with discarded := true, frags := [], first := none }])).bump R.SW_REASM_BAD
      else match d.add f { p with tx := none } with
        | none => (s.setReasm (others ++ [{ d with discarded := true, frags := [], first := none }])).bump R.SW_REASM_BAD
        | some d => match d.whole with
          | some (p0, body) => (s.setReasm others).reinject p0 (d.packet p0 body)
          | none => s.setReasm (others ++ [d])
    | none =>
      if (s.pipe.reasm.filter fun d => !d.discarded).length ≥ 4096 ∨ 67108864 < s.reasmBytes + f.body.length then s.bump R.SW_REASM_FULL
      else
        let d : Datagram := ⟨f.key, none, [], 0, 0, [], none, s.clock, false⟩
        match d.add f { p with tx := none } with
        | none => (s.setReasm (others ++ [{ d with discarded := true }])).bump R.SW_REASM_BAD
        | some d => match d.whole with
          | some (p0, body) => s.reinject p0 (d.packet p0 body)
          | none => s.setReasm (others ++ [d])

/-- REASM_TIMEOUT (R258): datagrams 2 s after their first fragment. -/
def execReasmTimeout (s : State) : Res :=
  let late := s.pipe.reasm.filter fun d => decide (d.began + 2 * nsPerSec ≤ s.clock)
  .next ((s.setReasm (s.pipe.reasm.filter fun d => decide (s.clock < d.began + 2 * nsPerSec))).count R.SW_REASM_TIMEOUT
    (late.filter fun d => !d.discarded).length)

/-! ## The stair (R256, R262) -/

/-- Deliver an unfinished packet to the owner's ring (R262). -/
def State.toOwner (s : State) (p : Pkt) (reason : Nat) : State :=
  let r := rwcReg (s.pktCfg p) R.SW_BSTAIR_OWNER_RING
  if bit r 31 then s.toLeaf 4 (r % 65536) { p with mark := 0x00BA0000 + reason, copy := false }
  else s.dropAt R.SW_BSTAIR_NO_RING p

/-- The packet taken next: control first, then reassembly, then the rest, each in arrival order (R256). -/
def nextStair (es : List Stair) : Option Stair :=
  match es.find? fun e => decide (e.cls = 0) with
  | some e => some e
  | none => match es.find? fun e => decide (e.cls = 1) with
    | some e => some e
    | none => es.head?

/-- Threads that the thread map gives the back stair (R255): slot 7 of local cores 0 to 15 in each cluster. -/
def stairThreads : List Nat := (List.range 4).flatMap fun cl => (List.range 16).map fun core => cl * 512 + core * 8 + 7

/-- A thread of the back stair runs (R255). -/
def State.stairRuns (s : State) : Bool :=
  stairThreads.any fun t => decide ((s.thread t).role = .backStair) && decide ((s.thread t).state ≠ .faulted) && !(s.thread t).halted

/-- BACK_STAIR_PACKET (R255, R257 to R262): one of the threads of the back stair takes its next packet. -/
def execBackStairPacket (s : State) : Res :=
  match (if s.stairRuns then nextStair s.pipe.stair else none) with
  | none => .next s
  | some e =>
    let s := { s with pipe := { s.pipe with stair := s.pipe.stair.erase e } }
    let p := e.pkt
    if s.pktRetired p then .next (s.retireDrop p).flow
    else if e.reason = 6 then .next (s.reassemble p).flow
    else match s.answerTo p with
      | (.none, s) => .next (s.toOwner p e.reason).flow
      | (.consume, s) => .next (s.dropPkt p).flow
      | (.pathMtu a peer lp rp m, s) => .next ((s.setPathMtu a peer lp rp m).dropPkt p).flow
      | (.send bytes, s) =>
        match s.mayAnswer p.source with
        | some s => .next ((s.sendOwn p.source bytes).dropPkt p).flow
        | none => .next (s.dropAt R.SW_BSTAIR_ANSWER_LIMIT p).flow

/-- `SW.BSTAIR_STATUS` (R263). -/
def State.stairStatus (s : State) : Nat :=
  (s.pipe.reasm.filter fun d => !d.discarded).length * 2 ^ 16 + s.pipe.stair.length

end Sys2Proof.Machine
end

