-- ==== Sys2Proof/Machine/Drives.lean ====
section
/-!
DEFINITION. Drives, drive commands, volumes, and the device's own data on drives (R369, R436, R474 to R482, R490, R493, R503).
-/

namespace Sys2Proof.Machine

/-! ## Drives and volumes (R474 to R482, R503) -/

/-- Change the storage path's state. -/
def State.setStore (s : State) (x : Store) : State := { s with store := x }

/-- The drive at an index. -/
def State.drive (s : State) (d : Nat) : Option Drive := (s.store.drives.find? fun e => decide (e.1 = d)).map fun e => e.2

/-- Change a drive. -/
def State.setDrive (s : State) (d : Nat) (x : Drive) : State := { s with store := { s.store with drives := Tbl.put d x s.store.drives } }

/-- The drive with a serial number, while it is present, not lost, and has not come back after removal (R482, R506). -/
def State.driveOf (s : State) (serial : List Byte) : Option (Nat × Drive) :=
  s.store.drives.find? fun e => decide (e.2.serial = serial) && !e.2.lost && !e.2.returned

/-- Members of a group (R481). -/
def Volume.width (v : Volume) : Nat := if v.layout = 2 then v.k + v.m else v.k

/-- A volume. -/
def State.volume (s : State) (n : Nat) : Option Volume := (s.store.volumes.find? fun e => decide (e.1 = n)).map fun e => e.2

/-- Change a volume. -/
def State.setVolume (s : State) (n : Nat) (v : Volume) : State := { s with store := { s.store with volumes := Tbl.put n v s.store.volumes } }

/-- A member of a group is lost. -/
def Volume.lostAt (v : Volume) (g i : Nat) : Bool := v.lost.contains (g * v.width + i)

/-- Members of a group that are lost. -/
def Volume.lostIn (v : Volume) (g : Nat) : Nat := ((List.range v.width).filter fun i => v.lostAt g i).length

/-- A group can lose no more: how many members may be gone (R503). -/
def Volume.tolerates (v : Volume) : Nat := if v.layout = 2 then v.m else v.k - 1

/-- A group has failed (R503). -/
def Volume.groupFailed (v : Volume) (g : Nat) : Bool := decide (v.lostIn g > v.tolerates)

/-- A volume's state: 0 healthy, 1 degraded, 2 failed, that of its worst group (R503). -/
def Volume.state (v : Volume) : Nat :=
  if (List.range v.groups).any fun g => v.groupFailed g then 2 else if v.lost = [] then 0 else 1

/-- The drive that holds a member's pieces; none when the member is lost. -/
def State.memberDrive (s : State) (v : Volume) (g i : Nat) : Option Nat :=
  if v.lostAt g i then none else (s.driveOf (v.members.getD (g * v.width + i) [])).map fun e => e.1

/-- Issue one drive command (R476). Its buffer's address is the firmware's choice: a free value. -/
def State.issueDrive (s : State) (d : Nat) (use : CmdUse) (op lba blocks : Nat) (data : List Byte) : State :=
  match s.drive d with
  | none => s
  | some x =>
    let (buf, s) := s.free
    let id := s.store.nextCmd
    let c : DriveCmd := ⟨id, use, decide (op = 1), lba, blocks, buf.toNat, s.clock, none⟩
    let s := s.setDrive d { x with cmds := x.cmds ++ [c] }
    { s with store := { s.store with nextCmd := id + 1 } }.emit (.drive d id op lba blocks data)

/-- Offsets of the commands that a transfer of `len` bytes is split into, no larger than the drive's MDTS (R476). -/
def splitMdts (mdts len : Nat) : List Nat :=
  let lim := if mdts = 0 then len else 4096 * 2 ^ mdts
  (List.range ((len + lim - 1) / lim)).map fun i => i * lim

/-- Transfer `len` bytes from or to block `lba` of a drive: the state and the number of commands. -/
def State.transfer (s : State) (d : Nat) (use : Nat → CmdUse) (write : Bool) (lba len : Nat) (data : List Byte) : State × Nat :=
  match s.drive d with
  | none => (s, 0)
  | some x =>
    let lim := if x.mdts = 0 then len else 4096 * 2 ^ x.mdts
    let offs := splitMdts x.mdts len
    (offs.foldl (fun s o =>
      s.issueDrive d (use o) (if write then 1 else 2) (lba + o / 4096) (min lim (len - o) / 4096) (if write then slice data o (o + lim) else [])) s,
      offs.length)

/-- Journal drives that work: their indexes and serial numbers. -/
def State.journalDrives (s : State) : List (Nat × List Byte) :=
  (s.store.journal.filter fun j => !s.store.jLost.contains j).filterMap fun j => (s.driveOf j).map fun e => (e.1, j)

/-! ## Bandwidth of drives (R450) -/

/-- Count bytes a drive delivered, in windows of 100 ms (R450). -/
def Drive.account (x : Drive) (now bytes : Nat) (foreground : Bool) : Drive :=
  let w := 100000000
  let x := if now < x.winStart + w then x
    else if now < x.winStart + 2 * w then
      { x with winStart := x.winStart + w, lastBytes := x.winBytes, lastBusy := x.winBusy, winBytes := 0, winBusy := false, maint := [] }
    else { x with winStart := now / w * w, lastBytes := 0, lastBusy := false, winBytes := 0, winBusy := false, maint := [] }
  { x with winBytes := x.winBytes + bytes, winBusy := x.winBusy || foreground }

/-- A share of a drive's bandwidth: its user (0 the volume's sweep, n + 1 batch slot n, 17 background deallocation, 18 a rebuild), per mille, four times
as much on a drive without foreground work, and a pace in bytes for a time in ns, which it keeps below the cap (none: the cap alone). -/
structure Share where
  user  : Nat
  mille : Nat
  boost : Bool
  pace  : Option (Nat × Nat)
  deriving DecidableEq, Repr

/-- Per mille of the last window's bytes that a user may take from a drive now (R450). -/
def Share.now (h : Share) (x : Drive) : Nat := if h.boost && !x.lastBusy then min 1000 (4 * h.mille) else h.mille

/-- A user may take `n` bytes more from a drive in this window: it stays at its share of what the drive delivered in the window before, and at its pace. A
user that has taken nothing in the window may take one piece, however little the drive delivered before (DESIGN CHOICE, log entry 92). -/
def Share.allows (h : Share) (x : Drive) (n : Nat) : Bool :=
  let used := Tbl.get (fun _ => 0) x.maint h.user
  decide (used = 0) || (decide ((used + n) * 1000 ≤ x.lastBytes * h.now x) &&
    match h.pace with
    | some (bytes, ns) => decide ((used + n) * ns ≤ bytes * 100000000)
    | none => true)

/-- Present members of a group. -/
def State.groupDrives (s : State) (v : Volume) (g : Nat) : List Nat := (List.range v.width).filterMap fun i => s.memberDrive v g i

/-- Every drive of a group allows a user `n` bytes more. -/
def State.groupAllows (s : State) (v : Volume) (g n : Nat) (h : Share) : Bool :=
  (s.groupDrives v g).all fun d => match s.drive d with
    | some x => h.allows (x.account s.clock 0 false) n
    | none => true

/-- A user takes `n` bytes from every drive of a group. -/
def State.spend (s : State) (v : Volume) (g n user : Nat) : State :=
  (s.groupDrives v g).foldl (fun s d => match s.drive d with
    | some x =>
      let x := x.account s.clock 0 false
      s.setDrive d { x with maint := Tbl.set (fun _ => 0) x.maint user (Tbl.get (fun _ => 0) x.maint user + n) }
    | none => s) s

/-! ## The device's own data on drives (R369, R436, R482, R490, R493) -/

/-- Pad bytes to whole blocks of 4 KiB. -/
def wholeBlocks (bs : List Byte) : List Byte := fit bs (4096 * ((bs.length + 4095) / 4096))

/-- Write data of the device's own to a block of some drives. What ordered it does not wait for the drives (DESIGN CHOICE, log entry 91). -/
def State.metaWrite (s : State) (ds : List Nat) (lba : Nat) (data : List Byte) : State :=
  let data := wholeBlocks data
  ds.foldl (fun s d => (s.transfer d (fun _ => .other) true lba data.length data).1) s

/-- Write to a block of the journal namespace, on both drives (R492, R493). -/
def State.journalMeta (s : State) (lba : Nat) (data : List Byte) : State := s.metaWrite (s.journalDrives.map fun e => e.1) lba data

/-- Write `blocks` blocks whose layout the spec does not give to the journal namespace: their contents are free values. -/
def State.journalOpaque (s : State) (lba blocks : Nat) : State :=
  let (bs, s) := s.freeBytes (4096 * blocks)
  s.journalMeta lba bs

/-- Flush a drive (R476). -/
def State.flushDrive (s : State) (d : Nat) : State := s.issueDrive d .other 0 0 0 []

end Sys2Proof.Machine
end

