-- ==== Sys2Proof/Machine/Rings.lean ====
section
/-!
DEFINITION. Ring commands of group 0x02xx (R128 to R130, R147, R148, R155 to R158).
-/

namespace Sys2Proof.Machine

/-- Global numbers of a ring kind in use, by live rings and by staged creations. -/
def State.globals (s : State) (kind : Nat) : List Nat :=
  (s.rings.filterMap fun e => if refKind e.1 = kind ∧ e.2.live then some e.2.globalNo else none) ++
    s.gen.staged.filterMap fun c =>
      if keyOp c.1 = 0x0200 ∧ refKind (keySel c.1) = kind then some (fld c.2 48 4) else none

/-- Rings of one series (R128): owner event rings take 0 to 15, the event ring of room r 16 + r, command rings follow the
front door; otherwise the lowest free number (DESIGN CHOICE, log entry 14). -/
def State.newGlobal (s : State) (ref : Nat) : Nat :=
  let kind := refKind ref
  if kind = 3 ∧ !refOwner ref then 16 + refRoom ref
  else firstFree (s.globals kind) (if kind = 4 then 1 else 0) 70000

/-- Numbers a series of rings has (R128). -/
def seriesLimit (ref : Nat) : Nat :=
  match refKind ref with
  | 0 | 1 => 65536
  | 2 => 16384
  | 3 => if refOwner ref then 16 else 1040
  | _ => 1025

/-- The ring exists in the generation in force or is staged, and is not staged for removal. -/
def State.ringNamed (s : State) (ref : Nat) : Bool :=
  ((s.ring ref).live && decide (s.stagedAt 0x0201 ref = none)) || (s.stagedAt 0x0200 ref).isSome

/-- Limits of a room in the generation the next commit would build. -/
def State.limitsOf (s : State) (room : Nat) : Nat × Nat :=
  match s.stagedAt 0x0101 room with
  | some b => (fld b 4 2, fld b 6 2)
  | none => ((s.room room).limits.queuePairs, (s.room room).limits.storeRings)

/-- A ring record is one RING_CREATE accepts for a room, or for the owner when `room` is 0xFFFF (R128, R129). -/
def State.ringRecordOk (s : State) (room : Nat) (r : List Byte) : Bool :=
  let ref := fld r 0 4
  let kind := refKind ref
  let owner := decide (room = 0xFFFF)
  let log2 := fld r 4 1
  decide (6 ≤ log2 ∧ log2 ≤ 16) && decide (fld r 5 1 / 8 = 0) && !bit (fld r 5 1) 0 &&
    decide (fld r 8 8 % 4096 = 0) && zeros r 0x1C 4 && decide (refOwner ref = owner) &&
    (decide (fld r 0x1A 2 = 0) || (owner && decide (kind = 3))) &&
    (if owner then
      decide (kind ≤ 3) && decide (refRoom ref = 0) && decide (fld r 6 2 < 2048) && decide (fld r 0x10 8 % 8 = 0) &&
        (decide (fld r 0x18 2 < 16) || decide (fld r 0x18 2 = 0xFFFF))
    else
      decide (kind ≤ 4) && decide (refRoom ref = room) && decide (fld r 6 2 < 16) && decide (fld r 0x10 8 = 0) &&
        (decide (fld r 0x18 2 = 0) || decide (fld r 0x18 2 = 0xFFFF)) && !s.ringNamed ref &&
        (match kind with
          | 0 | 1 => decide (refIndex ref < (s.limitsOf room).1)
          | 2 => decide (refIndex ref < (s.limitsOf room).2)
          | _ => decide (refIndex ref = 0) && decide ((s.limitsOf room).1 ≠ 0)))

/-- Stage the records in order; answers the references with their global numbers, none when a record is refused. -/
def stageRings (room : Nat) (mirror : List Byte) : List (List Byte) → State → Option (List Byte × State)
  | [], s => some ([], s)
  | r :: rs, s =>
    if !s.ringRecordOk room r then none
    else
      let ref0 := fld r 0 4
      let g := s.newGlobal ref0
      if g ≥ seriesLimit ref0 then none
      else
        let ref := if room = 0xFFFF then refOf (refKind ref0) true 0 g else ref0
        let named := refOf (refKind ref0) true 0 g
        let block := mirror ++ countOne 4 8 ++ leBytes ref 4 ++ r.drop 4 ++ leBytes g 4
        match stageRings room mirror rs (s.stage 0x0200 ref block) with
        | some (bs, s') => some (leBytes named 4 ++ bs, s')
        | none => none

/-- A room that the owner may not change now: resetting (BUSY, R100) or locked by TDISP (NOT_PERMITTED, R126; RUN counts
as locked, log entry 15). -/
def State.roomBarred (s : State) (room : Nat) : Option Status :=
  if room = 0xFFFF then none
  else if (s.room room).state = .resetting then some .busy
  else if (s.room room).tdi = .locked ∨ (s.room room).tdi = .run then some .notPermitted
  else none

/-- RING_CREATE (0x0200, R128 to R130). -/
def cmdRingCreate : Command where
  opcode := 0x0200
  front := true
  room := false
  mctp := false
  recovery := false
  sched := false
  shape := recShape 16 32 8 4 1 256
  zero := zeroAt [(0x0C, 4)]
  body := fun x s =>
    let bs := x.pkt.params
    let room := x.pkt.room
    let mirror := fld bs 0 8
    match s.roomBarred room with
    | some st => Out.of s st
    | none =>
      if mirror % 4096 ≠ 0 ∨ (room = 0xFFFF ∧ mirror ≠ 0) then Out.of s .invalidParam
      else match stageRings room (bs.take 8) (recordsOf bs 16 32 (fld bs 8 4)) s with
        | some (data, s') => .done .ok data s'
        | none => Out.of s .invalidParam

/-- The path may name a ring (R75, R158): a tenant names its own room's rings. -/
def mayName (p : Packet) (ref : Nat) : Bool :=
  match p.path with
  | .roomRing r => !refOwner ref && decide (refRoom ref = r)
  | _ => true

/-- References of COUNT records of `size` bytes after an 8-byte header. -/
def ringRefs (bs : List Byte) (size : Nat) : List Nat := (recordsOf bs 8 size (fld bs 0 2)).map fun r => fld r 0 4

/-- The owner names a ring of a locked room (R126). -/
def State.locksOut (s : State) (p : Packet) (ref : Nat) : Bool :=
  (Path.ringRoom p.path).isNone && !refOwner ref && decide ((s.room (refRoom ref)).tdi = .locked ∨ (s.room (refRoom ref)).tdi = .run)

/-- Checks every record before any acts (R158): a reference the path may not name, one that names no ring, a room that is
resetting or being saved, a locked room's ring that the owner would change. -/
def State.refsRefused (s : State) (p : Packet) (refs : List Nat) : Option Status :=
  if !refs.all (mayName p) then some .notPermitted
  else if !refs.all (fun ref => (s.ring ref).live && decide (ref ≠ frontDoorRef)) then some .invalidParam
  else if refs.any (fun ref => !refOwner ref && (decide ((s.room (refRoom ref)).state = .resetting) || (s.room (refRoom ref)).saving)) then some .busy
  else if refs.any (s.locksOut p) then some .notPermitted
  else none

/-- RING_DESTROY (0x0201, R129, R158). -/
def cmdRingDestroy : Command where
  opcode := 0x0201
  front := true
  room := false
  mctp := false
  recovery := false
  sched := false
  shape := recShape 8 4 0 2 1 256
  zero := zeroAt [(2, 6)]
  body := fun x s =>
    let refs := ringRefs x.pkt.params 4
    match s.refsRefused x.pkt refs with
    | some st => Out.of s st
    | none =>
      if refs.any (fun ref => (s.ring ref).enabled) then Out.of s .notPermitted
      else Out.of (refs.foldl (fun s ref => s.stage 0x0201 ref (countOne 2 8 ++ leBytes ref 4)) s) .ok

/-- RING_ENABLE (0x0202, R156, R158). -/
def cmdRingEnable : Command where
  opcode := 0x0202
  front := true
  room := true
  mctp := false
  recovery := false
  sched := false
  shape := recShape 8 4 0 2 1 256
  zero := zeroAt [(2, 6)]
  body := fun x s =>
    let refs := ringRefs x.pkt.params 4
    match s.refsRefused x.pkt refs with
    | some st => Out.of s st
    | none => Out.of (refs.foldl State.enableRing s) .ok

/-- RING_MODERATE (0x0204, R148, R158): a new setting acts from the next completion. -/
def cmdRingModerate : Command where
  opcode := 0x0204
  front := true
  room := true
  mctp := false
  recovery := false
  sched := false
  shape := recShape 8 8 0 2 1 256
  zero := zeroAt [(2, 6)]
  body := fun x s =>
    let bs := x.pkt.params
    let rs := recordsOf bs 8 8 (fld bs 0 2)
    match s.refsRefused x.pkt (ringRefs bs 8) with
    | some st => Out.of s st
    | none =>
      if !rs.all (fun r => decide (fld r 4 2 ≤ 1023) && decide (1 ≤ fld r 6 2 ∧ fld r 6 2 ≤ 1024)) then Out.of s .invalidParam
      else Out.of (rs.foldl (fun s r =>
        s.setRing (fld r 0 4) { s.ring (fld r 0 4) with timerUs := fld r 4 2, modCount := fld r 6 2 }) s) .ok

/-- RING_WEIGHT (0x0205, R147, R158): staged. The order of grants is arbitration, which the commands give (log entry 16). -/
def cmdRingWeight : Command where
  opcode := 0x0205
  front := true
  room := false
  mctp := false
  recovery := false
  sched := false
  shape := recShape 8 8 0 2 1 256
  zero := fun bs => zeroAt [(2, 6)] bs && zeroRecs 8 8 (fun b => fld b 0 2) [(6, 2)] bs
  body := fun x s =>
    let bs := x.pkt.params
    let rs := recordsOf bs 8 8 (fld bs 0 2)
    let ok (r : List Byte) : Bool :=
      let target := fld r 0 4
      let whole := decide (target = 0xFFFFFFFF) || (decide (0xF0000000 ≤ target) && decide (target < 0xF0000400))
      decide (1 ≤ fld r 4 1) &&
        (if whole then decide (fld r 5 1 = 0) else s.ringNamed target && decide (1 ≤ fld r 5 1 ∧ fld r 5 1 ≤ 64))
    let rooms := rs.filterMap fun r =>
      let target := fld r 0 4
      if target = 0xFFFFFFFF then none
      else if 0xF0000000 ≤ target then some (target - 0xF0000000)
      else if refOwner target then none else some (refRoom target)
    if !rs.all ok then Out.of s .invalidParam
    else match rooms.findSome? s.roomBarred with
      | some st => Out.of s st
      | none => Out.of (s.stageRecs 0x0205 (countOne 2 8) (fun r => fld r 0 4) rs) .ok

/-- RING_RX_MODE (0x0206, R157, R158). -/
def cmdRingRxMode : Command where
  opcode := 0x0206
  front := true
  room := true
  mctp := false
  recovery := false
  sched := false
  shape := recShape 8 16 0 2 1 256
  zero := fun bs => zeroAt [(2, 6)] bs && zeroRecs 8 16 (fun b => fld b 0 2) [(5, 3), (12, 4)] bs
  body := fun x s =>
    let bs := x.pkt.params
    let rs := recordsOf bs 8 16 (fld bs 0 2)
    match s.refsRefused x.pkt (ringRefs bs 16) with
    | some st => Out.of s st
    | none =>
      if !rs.all (fun r => decide (refKind (fld r 0 4) = 1) && decide (fld r 4 1 ≤ 1) &&
          (decide (fld r 8 4 = 0) || decide (10 ≤ fld r 8 4 ∧ fld r 8 4 ≤ 100000))) then Out.of s .invalidParam
      else Out.of (rs.foldl (fun s r =>
        let q := s.ring (fld r 0 4)
        s.setRing (fld r 0 4) { q with hold := decide (fld r 4 1 = 1), holdLimit := if fld r 8 4 = 0 then q.holdLimit else fld r 8 4 }) s) .ok

/-! ## What a commit does to rings -/

/-- A ring comes to exist at the commit that applies RING_CREATE, disabled (R129). -/
def State.applyRingCreate (s : State) (ref : Nat) (b : List Byte) : State :=
  let r := b.drop 16
  let mirror := fld b 0 8
  let s := if refOwner ref ∨ mirror = 0 then s
    else s.setRoom (refRoom ref) { s.room (refRoom ref) with headMirror := mirror }
  s.setRing ref { Ring.absent with
    live := true, log2 := fld r 4 1, base := fld r 8 8, relaxed := bit (fld r 5 1) 2, vector := fld r 6 2
    mirror := fld r 0x10 8
    eventRing := if fld r 0x18 2 = 0xFFFF then none else some (fld r 0x18 2)
    classMask := fld r 0x1A 2, globalNo := fld b 48 4, hold := bit (fld r 5 1) 1 }

end Sys2Proof.Machine
end

