-- ==== Sys2Proof/Machine/Rooms.lean ====
section
/-!
DEFINITION. Room commands of group 0x01xx that are staged or act at once (R98 to R119, R125, R151). Opening, closing and
vacating, which commit themselves, stand in `Machine/Commit.lean`; saving and restoring in `Machine/RoomSave.lean`.
-/

namespace Sys2Proof.Machine

/-- Code of a room state (R107). -/
def RoomState.code : RoomState → Nat
  | .vacant => 0 | .furnished => 1 | .opened => 2 | .frozen => 3 | .inError => 4 | .resetting => 5

/-- Code of a TDI state (R107). -/
def Tdi.code : Tdi → Nat
  | .unlocked => 0 | .locked => 1 | .run => 2 | .error => 3

/-- `ROOM.STATUS` (R107). -/
def State.roomStatus (s : State) (room : Nat) : Nat :=
  let x := s.room room
  x.state.code + 16 * b01 x.doze + 32 * b01 (s.ring (roomEventRef room)).overflow + 256 * x.tdi.code +
    (if x.state = .inError then x.errorCause * 2 ^ 24 else 0)

/-- `ROOM.IDENT` (R107): 0, its reset value, while the room is vacant. -/
def State.roomIdent (s : State) (room : Nat) : Nat :=
  if (s.room room).state = .vacant then 0 else room * 2 ^ 20 + (s.room room).limits.pasid

/-- A record of a running long-running command (R108). -/
def Running.rec8 (r : Running) : List Byte :=
  leBytes r.ctx.pkt.tag.toNat 4 ++ leBytes r.ctx.opcode 2 ++ leBytes r.progress 2

/-- Running long-running commands that came by a path. -/
def State.runningBy (s : State) (path : Path) : List Running :=
  (s.cmd.running.filter fun r => r.long && decide (r.ctx.pkt.path = path)).take 64

/-- Key domains in use by a room; the vault lies in `Strongroom`. -/
def State.domainsUsed (s : State) (room : Nat) : Nat :=
  (s.sr.vault.filter fun v => decide (v.2.room = room) && decide (v.2.state = 1)).length

/-- ROOM_QUERY (0x0100, R108). -/
def cmdRoomQuery : Command where
  opcode := 0x0100
  front := true
  room := true
  mctp := true
  recovery := false
  sched := false
  shape := fixedShape 0
  zero := fun _ => true
  body := fun x s =>
    let r := x.pkt.room
    if r = 0xFFFF then
      .done .ok (pad 64 ++ ((s.runningBy .frontDoor).map Running.rec8).flatten) s
    else
      let m := s.room r
      let run := s.runningBy (.roomRing r)
      let vac := decide (m.state = .vacant)
      -- a query on the room's own ring is itself work fetched and not yet completed (R107)
      let fixed := leBytes (s.roomStatus r) 4 ++ leBytes (s.roomIdent r) 4 ++ leBytes m.generation 4 ++
        leBytes (s.inflight r + b01 (decide (x.pkt.path = .roomRing r))) 4 ++ leBytes m.limits.queuePairs 2 ++ leBytes m.limits.storeRings 2 ++
        leBytes m.limits.keyDomains 4 ++ leBytes m.limits.policers 2 ++ leBytes m.limits.namespaces 2 ++
        leBytes m.limits.nvmtConns 2 ++ leBytes m.limits.sramUnits 2 ++ leBytes m.readLimit 4 ++
        leBytes (if vac then 0 else m.drainBudget) 4 ++
        leBytes (b01 m.errTimeout + 2 * b01 m.errAbort + 4 * b01 m.errBadDesc) 1 ++
        leBytes (b01 m.doze + 2 * b01 m.wakeOn) 1 ++ leBytes run.length 2 ++ leBytes (s.domainsUsed r) 4
      .done .ok (fit fixed 64 ++ (run.map Running.rec8).flatten) s

/-- The limits in a ROOM_FURNISH block (R104). -/
def Limits.of (bs : List Byte) : Limits :=
  ⟨fld bs 0 4 % 2 ^ 20, fld bs 4 2, fld bs 6 2, fld bs 8 4, fld bs 0x0C 2, fld bs 0x0E 2, fld bs 0x10 2, fld bs 0x12 2, fld bs 0x14 4⟩

/-- Each limit lies in the range of the profile, 1 Compact or 2 Full (R104). -/
def Limits.inRange (l : Limits) (profile : Nat) : Bool :=
  let full := decide (profile = 2)
  decide (1 ≤ l.queuePairs ∧ l.queuePairs ≤ if full then 64 else 16) &&
    decide (l.storeRings ≤ if full then 16 else 32) && decide (l.keyDomains ≤ if full then 1024 else 4096) &&
    decide (l.policers ≤ if full then 64 else 128) && decide (l.namespaces ≤ if full then 16 else 64) &&
    decide (l.nvmtConns ≤ if full then 256 else 1024) && decide (l.sramUnits ≤ 32) &&
    decide (16 ≤ l.reads ∧ l.reads ≤ 4096)

/-- Limits held by every other room, furnished or staged to be. -/
def State.otherLimits (s : State) (room : Nat) : List Limits :=
  (s.rooms.filterMap fun e => if e.1 ≠ room ∧ e.2.state ≠ .vacant then some e.2.limits else none) ++
    s.gen.staged.filterMap fun c =>
      if keyOp c.1 = 0x0101 ∧ keySel c.1 ≠ room ∧ (s.room (keySel c.1)).state = .vacant then some (Limits.of c.2) else none

/-- SRAM units that rooms may reserve: the packet buffer in force less 16 MiB (R515). -/
def State.sramUnitsMax (s : State) : Nat :=
  512 - 4 * ((s.memory.retired.filter fun b => decide (56 ≤ b ∧ b < 248)).length + s.memory.substituted.length)

/-- The pools can satisfy all of these together (R104, R515: `cap` SRAM units); in Compact profile at most 256 rooms are other than vacant. -/
def poolsHold (ls : List Limits) (profile cap : Nat) : Bool :=
  let sum (f : Limits → Nat) := (ls.map f).sum
  decide (sum Limits.queuePairs ≤ 65536) && decide (sum Limits.storeRings ≤ 16384) && decide (sum Limits.keyDomains ≤ 1048576) &&
    decide (sum Limits.policers ≤ 65536) && decide (sum Limits.namespaces ≤ 4096) && decide (sum Limits.nvmtConns ≤ 65536) &&
    decide (sum Limits.sramUnits ≤ cap) && (decide (profile = 2) || decide (ls.length ≤ 256))

/-- The checks of R104 on a room's limits among the limits of others. -/
def furnishRefused (l : Limits) (others : List Limits) (profile cap : Nat) : Option Status :=
  if l.pasid = 0 ∨ others.any (fun o => decide (o.pasid = l.pasid)) then some .invalidParam
  else if !l.inRange profile then some .invalidParam
  else if !poolsHold (l :: others) profile cap then some .busy
  else none

/-- A room is not where a transition starts (R100): BUSY while resetting, otherwise NOT_PERMITTED. -/
def wrongState (st : RoomState) : Status := if st = .resetting then .busy else .notPermitted

/-- ROOM_FURNISH (0x0101, R104). At debug levels 1 and 2 the device refuses it (R385). -/
def cmdRoomFurnish : Command where
  opcode := 0x0101
  front := true
  room := false
  mctp := false
  recovery := false
  sched := false
  shape := fixedShape 32
  zero := fun bs => zeros bs 0x18 8 && decide (fld bs 0 4 < 2 ^ 20)
  body := fun x s =>
    let r := x.pkt.room
    if (s.room r).state ≠ .vacant then Out.of s (wrongState (s.room r).state)
    else if (s.runningOn 0x0108 r).isSome then Out.of s .busy
    else if s.sr.debugLevel ≥ 1 then Out.of s .notPermitted
    else match furnishRefused (Limits.of x.pkt.params) (s.otherLimits r) s.profileNow s.sramUnitsMax with
      | some st => Out.of s st
      | none => Out.of (s.stage 0x0101 r x.pkt.params) .ok

/-- A vacant room with no ROOM_FURNISH staged takes no entries and no policy (R111). -/
def State.unfurnished (s : State) (room : Nat) : Bool :=
  decide ((s.room room).state = .vacant) && decide (s.stagedAt 0x0101 room = none)

/-- ROOM_MSG_SET (0x010B, R109). -/
def cmdRoomMsgSet : Command where
  opcode := 0x010B
  front := true
  room := false
  mctp := false
  recovery := false
  sched := false
  shape := fixedShape 256
  zero := fun bs => (recordsOf bs 0 16 16).all fun r => decide (fld r 12 4 < 4)
  body := fun x s =>
    let r := x.pkt.room
    match s.roomBarred r with
    | some st => Out.of s st
    | none =>
      if s.unfurnished r then Out.of s .notPermitted
      else if !(recordsOf x.pkt.params 0 16 16).all (fun e => decide (fld e 0 8 % 4 = 0)) then Out.of s .invalidParam
      else Out.of (s.stage 0x010B r x.pkt.params) .ok

/-- ROOM_POLICY (0x010C, R111). -/
def cmdRoomPolicy : Command where
  opcode := 0x010C
  front := true
  room := false
  mctp := false
  recovery := false
  sched := false
  shape := fixedShape 12
  zero := zeroAt [(7, 1)]
  body := fun x s =>
    let r := x.pkt.room
    let bs := x.pkt.params
    let d := fld bs 0 4
    match s.roomBarred r with
    | some st => Out.of s st
    | none =>
      if s.unfurnished r then Out.of s .notPermitted
      else if d < 100 ∨ 10000 < d ∨ d % 100 ≠ 0 ∨ fld bs 4 1 > 1 ∨ fld bs 5 1 > 1 ∨ fld bs 6 1 > 1 ∨
          (fld bs 8 4 ≠ 0 ∧ (fld bs 8 4 < 16 ∨ 4096 < fld bs 8 4)) then Out.of s .invalidParam
      else Out.of (s.stage 0x010C r bs) .ok

/-- ROOM_DOZE (0x010A, R99, R151): awake, the held messages follow. -/
def cmdRoomDoze : Command where
  opcode := 0x010A
  front := false
  room := true
  mctp := false
  recovery := false
  sched := false
  shape := fixedShape 2
  zero := fun _ => true
  body := fun x s =>
    let r := x.pkt.room
    let bs := x.pkt.params
    match (s.room r).state with
    | .furnished | .opened | .frozen =>
      if fld bs 0 1 > 1 ∨ fld bs 1 1 > 1 then Out.of s .invalidParam
      else
        let on := decide (fld bs 0 1 = 1)
        let s := s.setRoom r { s.room r with doze := on, wakeOn := decide (fld bs 1 1 = 1), wakePosted := false }
        Out.of (if on then s else s.releaseMsgs r) .ok
    | st => Out.of s (wrongState st)

/-- ROOM_FREEZE (0x0106, R118). -/
def cmdRoomFreeze : Command where
  opcode := 0x0106
  front := true
  room := false
  mctp := false
  recovery := false
  sched := true
  shape := fixedShape 0
  zero := fun _ => true
  body := fun x s =>
    let r := x.pkt.room
    if (s.room r).state = .opened then
      let s := s.moveRoom r .frozen
      Out.of (s.setRoom r { s.room r with freezeTime := s.now }) .ok
    else Out.of s (s.missedState r)

/-- ROOM_THAW (0x0109, R125): held packets stay in their leaves, which are held no longer. At debug levels 1 and 2 the device
refuses it (R385). -/
def cmdRoomThaw : Command where
  opcode := 0x0109
  front := true
  room := false
  mctp := false
  recovery := false
  sched := false
  shape := fixedShape 0
  zero := fun _ => true
  body := fun x s =>
    let r := x.pkt.room
    if (s.room r).state ≠ .frozen then Out.of s (s.missedState r)
    else if (s.room r).tdi = .locked ∨ s.sr.debugLevel ≥ 1 then Out.of s .notPermitted
    else if (s.room r).saving ∨ (s.runningOn 0x0108 r).isSome then Out.of s .busy
    else Out.of (s.moveRoom r .opened) .ok

/-- Remove the commands stored through a room's command ring, each reporting SQUASHED (R94). -/
def State.squashStored (s : State) (room : Nat) : State :=
  let mine := s.cmd.stored.filter fun e => decide (e.pkt.path = Path.roomRing room)
  let s := { s with cmd := { s.cmd with stored := s.cmd.stored.filter fun e => decide (e.pkt.path ≠ Path.roomRing room) } }
  mine.foldl (fun s e => s.schedDone ⟨e.opcode, e.pkt, .oneShot e.handle false⟩ e.handle .squashed) s

/-- Step 1 of a room reset (R114): fetching stops, packets are dropped, stored commands go, a save ends SQUASHED (R101). -/
def State.beginReset (s : State) (room : Nat) : State :=
  let s := (s.moveRoom room .resetting).dropRoomPackets room
  let x := s.room room
  let s := s.setRoom room { x with
    resetting := some ⟨s.clock, x.drainBudget⟩, saving := false, doze := false, wakeOn := false, wakePosted := false, errorCause := 0 }
  (s.squashStored room).endRunning 0x0107 room .squashed []

/-- The states in which a room reset is accepted (R114). -/
def resetAccepts : RoomState → Bool
  | .furnished | .opened | .frozen | .inError => true
  | _ => false

/-- ROOM_RESET (0x0104, R114): it replies at the end of the sequence (ROOM_RESET_DRAIN_END). -/
def cmdRoomReset : Command where
  opcode := 0x0104
  front := true
  room := false
  mctp := false
  recovery := false
  sched := true
  shape := fixedShape 0
  zero := fun _ => true
  body := fun x s =>
    let r := x.pkt.room
    if s.sr.debugLevel ≥ 1 then Out.of s .notPermitted
    else if resetAccepts (s.room r).state then .held ((s.beginReset r).hold x true r [])
    else Out.of s (wrongState (s.room r).state)

/-- ROOM_DIRTY_LOG (0x010D, R119). -/
def cmdRoomDirtyLog : Command where
  opcode := 0x010D
  front := true
  room := false
  mctp := false
  recovery := false
  sched := false
  shape := fixedShape 8
  zero := zeroAt [(1, 7)]
  body := fun x s =>
    let r := x.pkt.room
    let m := s.room r
    if s.roomResets r then Out.of s .busy
    else match fld x.pkt.params 0 1, m.dirty with
    | 0, some _ => Out.of (s.setRoom r { m with dirty := some ⟨[], false⟩ }) .ok
    | 0, none =>
      if (s.rooms.filter fun e => e.2.dirty.isSome).length ≥ 64 then Out.of s .busy
      else Out.of (s.setRoom r { m with dirty := some ⟨[], false⟩ }) .ok
    | 1, some _ => Out.of (s.setRoom r { m with dirty := none }) .ok
    | 2, some d =>
      let n := min d.pages.length ((Packet.replySpace x.pkt - 16) / 8)
      let left := d.pages.drop n
      let data := leBytes (b01 d.full) 4 ++ leBytes n 4 ++ leBytes left.length 4 ++ pad 4 ++
        ((d.pages.take n).map fun p => leBytes p 8).flatten
      let s := s.setRoom r { m with dirty := some { d with pages := left } }
      if left = [] then .done .ok data s else .part .ok data s
    | _, _ => Out.of s .invalidParam

/-! ## What a commit does to rooms -/

/-- ROOM_FURNISH applied (R98, R110): counters start again and the message entries are cleared. -/
def State.applyFurnish (s : State) (room : Nat) (b : List Byte) : State :=
  let l := Limits.of b
  let s := (List.range 16).foldl (fun s i => s.setMsg (room * 16 + i) MsgEntry.reset) s
  (s.setRoom room { Room.vacant with limits := l, readLimit := l.reads }).moveRoom room .furnished

/-- ROOM_MSG_SET applied (R109, R110): pending messages stay due and go once unmasked. -/
def State.applyMsgSet (s : State) (room : Nat) (b : List Byte) : State :=
  let s := (List.range 16).foldl (fun s i =>
    let e := record b 0 16 i
    s.setMsg (room * 16 + i) { s.msg (room * 16 + i) with
      addr := fld e 0 8, data := fld e 8 4, pasid := bit (fld e 12 4) 1, masked := bit (fld e 12 4) 0 }) s
  s.releaseMsgs room

/-- ROOM_POLICY applied (R111). -/
def State.applyPolicy (s : State) (room : Nat) (b : List Byte) : State :=
  let x := s.room room
  s.setRoom room { x with
    drainBudget := fld b 0 4, errTimeout := bit (fld b 4 1) 0, errAbort := bit (fld b 5 1) 0, errBadDesc := bit (fld b 6 1) 0
    readLimit := if fld b 8 4 = 0 then x.limits.reads else fld b 8 4 }

end Sys2Proof.Machine
end

