-- ==== Sys2Proof/Machine/Keys.lean ====
section
/-!
DEFINITION. The strongroom's key commands and key events: domains, leases, the vault, imports, session keys and seal
key pairs (R363, R364, R367 to R383).
-/

namespace Sys2Proof.Machine

/-! ## Identities and derived keys (R362, R365, R366) -/

/-- A key derived from the device-unique secret (R366). -/
def udsKey (label : String) (context : List Byte) (bits : Nat) : List Byte := kdf (beBytes Config.uds.toNat 32) (ascii label) context bits

/-- Sign with a private key of the strongroom: the secret number is a fresh draw. -/
def State.sign (s : State) (d : Nat) (m : List Byte) : List Byte × State :=
  let k := s.secretBytes 56
  (ecdsaSign d (ecKeyOf k.1) m, k.2)

/-- Code of a measurement block's value type (R359; codes of the DMTF format, PRESUMED, log entry 41): 0 immutable ROM, 1 mutable firmware,
2 hardware configuration, 3 firmware configuration. -/
def measureType (i : Nat) : Nat :=
  match i with
  | 1 => 0
  | 2 => 3
  | 6 => 2
  | _ => 1

/-- Measurement block `i` in DMTF format: index, specification, size; then value type, value size and the digest (R359). -/
def State.measureBlock (s : State) (i : Nat) : List Byte :=
  leBytes i 1 ++ [1] ++ leBytes 51 2 ++ leBytes (measureType i) 1 ++ leBytes 48 2 ++ fit (Tbl.get (fun _ => []) s.sr.measures i) 48

/-- The certificate of a key that the DeviceID key certifies at each boot (R362). -/
def State.certify (s : State) (issuer key : Nat) : List Byte × State :=
  let (sig, s) := s.sign issuer (Config.toBeSigned (ecPublic issuer) (ecPublic key))
  (Config.certificate (ecPublic issuer) (ecPublic key) sig, s)

/-- Derive the identities at a boot (R362), the measurement blocks standing, and certify the Alias and Import keys. -/
def State.deriveIds (s : State) : State :=
  let blocks := ((List.range 4).map fun i => s.measureBlock (i + 1)).flatten
  let d := ecKeyOf (udsKey "KX-DEVID" [] 448)
  let a := ecKeyOf (udsKey "KX-ALIAS" blocks 448)
  let i := ecKeyOf (udsKey "KX-IMPORT" [] 448)
  let (ca, s) := s.certify d a
  let (ci, s) := s.certify d i
  { s with sr := { s.sr with ids := ⟨d, a, i, ca, ci⟩ } }

/-- The vault KEK of an epoch (R365). The epoch is 8 bytes, little-endian (DESIGN CHOICE, log entry 81). -/
def vaultKek (epoch : Nat) : List Byte := udsKey "KX-VAULT" (leBytes epoch 8) 256

/-- The vault MAC key (R365). -/
def vaultMacKey : List Byte := udsKey "KX-VMAC" [] 256

/-! ## Owner keys (R354, R355) and measurements (R359) -/

/-- The owner key in force: its slot number. -/
def Fuses.ownerSlot (f : Fuses) : Option Nat :=
  ((List.range 5).filter fun i => match f.owner[i]? with | some k => k.valid && !k.revoked | none => false).getLast?

/-- The owner key in force. -/
def Fuses.ownerKey (f : Fuses) : Option OwnerKey := match f.ownerSlot with | some i => f.owner[i]? | none => none

/-- Set a measurement block. -/
def State.measure (s : State) (i : Nat) (d : List Byte) : State :=
  { s with sr := { s.sr with measures := Tbl.set (fun _ => []) s.sr.measures i d } }

/-- Block 6: debug level, fused SECURE_VERSION, owner slot in force and device profile, one byte each (DESIGN CHOICE, log entry 45). -/
def State.measureConfig (s : State) : State :=
  s.measure 6 (sha384 (leBytes s.sr.debugLevel 1 ++ leBytes s.sr.fuses.secureVersion 1 ++ leBytes (s.sr.fuses.ownerSlot.getD 7) 1 ++
    leBytes (if s.gen.locked then s.gen.profile else 0) 1))

/-! ## The vault (R368 to R373) -/

/-- KIND, GENERATION and SLOT of a key reference (R368). -/
def refKeyKind (ref : Nat) : Nat := bits ref 39 36
/-- GENERATION of a key reference. -/
def refKeyGen (ref : Nat) : Nat := bits ref 35 20
/-- SLOT of a key reference. -/
def refKeySlot (ref : Nat) : Nat := bits ref 19 0

/-- A key domain's record. -/
def State.domain (s : State) (slot : Nat) : VaultRec := Tbl.get (fun _ => VaultRec.free) s.sr.vault slot

/-- Change a record: the vault is dirty until the next persist (R369). -/
def State.setDomain (s : State) (slot : Nat) (v : VaultRec) : State :=
  { s with sr := { s.sr with vault := Tbl.set (fun _ => VaultRec.free) s.sr.vault slot v, vaultDirty := true } }

/-- Both journal drives take writes (R492, R497). -/
def State.journalUp (s : State) : Bool := decide (s.store.journal ≠ []) && decide (s.store.jLost = []) && !s.store.resync

/-- The vault record as the vault holds it, both keys wrapped under the vault KEK, up to its MAC (R369). -/
def VaultRec.stored (slot epoch : Nat) (v : VaultRec) : List Byte :=
  let wrap (k : List Byte) : List Byte := if k = [] then pad 40 else keyWrap (vaultKek epoch) (fit k 32)
  leBytes (v.state * 2 ^ 30 + slot) 4 ++ leBytes v.room 2 ++ leBytes v.policy 2 ++ leBytes v.cur 2 ++ leBytes v.prev 2 ++
    [1] ++ leBytes v.log2Inv 1 ++ leBytes v.log2Blk 1 ++ [0] ++ leBytes v.resInv 8 ++ leBytes v.resBlk 8 ++ wrap v.keyCur ++ wrap v.keyPrev

/-- The MAC of a vault record: over its bytes, the slot and the vault generation of the persist (R369; slot 4 bytes and generation 8 bytes,
little-endian: DESIGN CHOICE, log entry 81). -/
def VaultRec.mac (slot epoch gen : Nat) (v : VaultRec) : List Byte :=
  cmac vaultMacKey (v.stored slot epoch ++ leBytes slot 4 ++ leBytes gen 8)

/-- Page `p` of a vault, its records with the MACs of a generation (R369). -/
def vaultPage (t : Tbl VaultRec) (epoch gen p : Nat) : List Byte :=
  ((List.range 256).map fun i =>
    let v := Tbl.get (fun _ => VaultRec.free) t (256 * p + i)
    v.stored (256 * p + i) epoch ++ v.mac (256 * p + i) epoch gen).flatten

/-- Pages whose records differ from those last persisted (R369). -/
def dirtyPages (now saved : Tbl VaultRec) : List Nat :=
  let rec' (t : Tbl VaultRec) (n : Nat) : VaultRec := Tbl.get (fun _ => VaultRec.free) t n
  ((((now ++ saved).map fun e => e.1).filter fun n => decide (rec' now n ≠ rec' saved n)).map fun n => n / 256).eraseDups

/-- A vault persist (R369): dirty pages go into their non-current locations, the root into its own, then the generation in eMRAM rises. The layout
of the root is not given: its bytes are free values. The persist releases the counter records whose marks it holds (R373). -/
def State.persistVault (s : State) : State :=
  let gen := s.sr.vaultGen + 1
  let ps := dirtyPages s.sr.vault s.sr.vaultSaved
  let s := ps.foldl (fun (s : State) p =>
    s.journalMeta (2048 + 16 * p + 8 * b01 (!s.sr.vaultLoc.contains p)) (vaultPage s.sr.vault s.sr.vaultEpoch gen p)) s
  let s := s.journalOpaque (1024 + 128 * (gen % 2)) 1
  { s with sr := { s.sr with vaultGen := gen, savedGen := gen, vaultSaved := s.sr.vault, vaultDirty := false, reserved := []
                             vaultLoc := s.sr.vaultLoc.filter (fun p => !ps.contains p) ++ ps.filter fun p => !s.sr.vaultLoc.contains p } }

/-- The vault can serve: open and not locked (R370, R385). -/
def State.vaultServes (s : State) : Bool := s.sr.vaultOpen && !s.sr.vaultLocked

/-- What refuses a command that must write eMRAM and persist the vault: SUPPLY_LOW in a dip (R384), no vault, no journal
that takes writes (log entry 19). `draws` says that the command needs fresh keys (R364). -/
def State.vaultRefuses (s : State) (draws : Bool) : Option Status :=
  if s.sr.dipFrozen then some .supplyLow
  else if draws && s.sr.entropyFail then some .busy
  else if !s.vaultServes then some .keyAbsent
  else if !s.journalUp then some .journalUnavailable
  else none

/-- End with a refusal, counting SUPPLY_LOW (R384). -/
def Out.refuse (s : State) (st : Status) : Out :=
  Out.of (if st = .supplyLow then s.bump R.SR_SUPPLY_LOW else s) st

/-- The room a key command acts for: the ring's room, or the header's ROOM, 0xFFFF for the owner. -/
def keyRoom (p : Packet) : Nat := p.room

/-- Key domains of a room that are active. -/
def State.roomDomains (s : State) (room : Nat) : List (Nat × VaultRec) :=
  s.sr.vault.filter fun e => decide (e.2.room = room) && decide (e.2.state = 1)

/-- The slot a room-local index names (R374). -/
def State.slotOf (s : State) (room index : Nat) : Option Nat :=
  ((s.roomDomains room).find? fun e => decide (e.2.index = index)).map fun e => e.1

/-- The slot a command names: the slot itself from the front door, the room-local index from a room command ring (R467;
the same form for KEY_DOMAIN_ROTATE and KEY_DOMAIN_QUERY, DESIGN CHOICE, log entry 20). -/
def State.namedSlot (s : State) (p : Packet) : Option Nat :=
  let n := fld p.params 0 4
  match p.path with
  | .roomRing r => s.slotOf r n
  | _ => if (s.domain n).state = 1 ∨ (s.domain n).state = 2 then some n else none

/-- A free slot: the lowest never used, else the lowest destroyed one whose destruction is persisted (R376). -/
def State.freeSlot (s : State) : Option Nat :=
  let used := s.sr.vault.map fun e => e.1
  let n := firstFree used 0 (used.length + 1)
  if n < 1048576 then some n
  else (s.sr.vault.find? fun e => decide (e.2.state = 3)).map fun e => e.1

/-- An import handle that a room may use now for a target (R378). -/
def State.importFor (s : State) (handle room target : Nat) : Option ImportKey :=
  s.sr.imports.find? fun h => decide (h.handle = handle) && decide (h.room = room) && decide (h.target = target) && decide (s.clock < h.ends)

/-- An import handle is used up. -/
def State.useImport (s : State) (handle : Nat) : State :=
  { s with sr := { s.sr with imports := s.sr.imports.filter fun h => decide (h.handle ≠ handle) } }

/-- The limits in KEY_DOMAIN_CREATE are in range (R374). -/
def domainParamsOk (bs : List Byte) : Bool :=
  let i := fld bs 5 1
  let b := fld bs 6 1
  decide (fld bs 4 1 = 1) && (decide (i = 0) || decide (16 ≤ i ∧ i ≤ 48)) && (decide (b = 0) || decide (20 ≤ b ∧ b ≤ 56)) &&
    decide (fld bs 7 1 ≤ 1)

/-- The record of a new domain. -/
def VaultRec.new (room : Nat) (bs key : List Byte) : VaultRec where
  state := 1
  room := room
  index := if room = 0xFFFF then 0 else fld bs 0 4
  policy := fld bs 8 2
  cur := 1
  prev := 0
  log2Inv := if fld bs 5 1 = 0 then 32 else fld bs 5 1
  log2Blk := if fld bs 6 1 = 0 then 48 else fld bs 6 1
  resInv := 0
  resBlk := 0
  nextInv := 0
  nextBlk := 0
  keyCur := key
  keyPrev := []

/-- KEY_DOMAIN_CREATE (0x0700, R374). -/
def cmdKeyDomainCreate : Command where
  opcode := 0x0700
  front := true
  room := true
  mctp := false
  recovery := false
  sched := false
  shape := fixedShape 16
  zero := fun bs => zeros bs 0x0A 2 && decide (fld bs 8 2 < 8)
  body := fun x s =>
    let bs := x.pkt.params
    let room := keyRoom x.pkt
    if !domainParamsOk bs then Out.of s .invalidParam
    else match s.vaultRefuses (decide (fld bs 7 1 = 0)) with
      | some st => Out.refuse s st
      | none =>
        if room ≠ 0xFFFF ∧ (s.room room).state = .vacant then Out.of s .notPermitted
        else if room ≠ 0xFFFF ∧ (s.room room).state = .resetting then Out.of s .busy
        else if room ≠ 0xFFFF ∧ (s.slotOf room (fld bs 0 4)).isSome then Out.of s .invalidParam
        else if room ≠ 0xFFFF ∧ (s.roomDomains room).length ≥ (s.room room).limits.keyDomains then Out.of s .busy
        else match s.freeSlot with
          | none => Out.of s .busy
          | some slot =>
            if fld bs 7 1 = 1 then
              match s.importFor (fld bs 0x0C 4) room 1 with
              | none => Out.of s .invalidParam
              | some h => .done .ok (leBytes slot 4) (((s.useImport h.handle).setDomain slot (VaultRec.new room bs h.key)).persistVault)
            else
              let k := s.secretBytes 32
              .done .ok (leBytes slot 4) ((k.2.setDomain slot (VaultRec.new room bs k.1)).persistVault)

/-- Make a new current generation (R375): the old one decrypts only, and counting starts again. -/
def State.rotate (s : State) (slot : Nat) : State :=
  let v := s.domain slot
  let k := s.secretBytes 32
  (k.2.setDomain slot { v with cur := v.cur + 1, prev := v.cur, keyPrev := v.keyCur, keyCur := k.1
                               resInv := 0, resBlk := 0, nextInv := 0, nextBlk := 0 }).persistVault

/-- A slot a path may act on: a tenant only its own room's; the owner any. -/
def State.mayUseSlot (s : State) (p : Packet) (slot : Nat) : Bool :=
  match p.path with
  | .roomRing r => decide ((s.domain slot).room = r)
  | _ => true

/-- KEY_DOMAIN_ROTATE (0x0701, R375). Generation 65,535 has no next (KEY_EXHAUSTED, DEDUCED, log entry 20). -/
def cmdKeyDomainRotate : Command where
  opcode := 0x0701
  front := true
  room := true
  mctp := false
  recovery := false
  sched := true
  shape := fixedShape 8
  zero := zeroAt [(4, 4)]
  body := fun x s =>
    match s.vaultRefuses true with
    | some st => Out.refuse s st
    | none =>
      match s.namedSlot x.pkt with
      | none => Out.of s .keyAbsent
      | some slot =>
        let v := s.domain slot
        if v.state ≠ 1 then Out.of s .keyAbsent
        else if s.roomResets v.room then Out.of s .busy
        else if v.prev ≠ 0 then Out.of s .busy
        else if v.cur ≥ 65535 then Out.of s .keyExhausted
        else Out.of (s.rotate slot) .ok

/-- The vault record as KEY_DOMAIN_QUERY shows it, both keys zeroed (R369, R377). -/
def VaultRec.bytes (slot epoch gen : Nat) (v : VaultRec) : List Byte := (v.stored slot epoch).take 32 ++ pad 80 ++ v.mac slot epoch gen

/-- KEY_DOMAIN_QUERY (0x0703, R377). -/
def cmdKeyDomainQuery : Command where
  opcode := 0x0703
  front := true
  room := true
  mctp := false
  recovery := false
  sched := false
  shape := fixedShape 8
  zero := zeroAt [(4, 4)]
  body := fun x s =>
    match s.namedSlot x.pkt with
    | none => Out.of s .keyAbsent
    | some slot =>
      let v := s.domain slot
      .done .ok (v.bytes slot s.sr.vaultEpoch s.sr.savedGen ++ leBytes v.nextInv 8 ++ leBytes v.nextBlk 8) s

/-- The key that KEY_IMPORT_WRAPPED unwraps (R378): ECDH with the Import key, the one-step KDF, AES-256 KW; none when a step fails. A PSK
of 48 bytes fills all 56 bytes of WRAPPED, a key of 32 bytes the first 40. SERIAL is 8 bytes, little-endian, and TARGET one (DESIGN CHOICE, log
entry 81). -/
def State.unwrapImport (s : State) (target : Nat) (ephemeral wrapped : List Byte) : Option (List Byte) :=
  match ecdh s.sr.ids.importId ephemeral with
  | none => none
  | some z =>
    let kek := oneStepKdf z (ascii "KX-WRAP" ++ leBytes s.sr.fuses.serial 8 ++ leBytes target 1) 32
    keyUnwrap kek (if target = 2 ∧ !zeros wrapped 40 16 then wrapped.take 56 else wrapped.take 40)

/-- KEY_IMPORT_WRAPPED (0x0704, R378): a 48-byte PSK is wrapped in 56 bytes, a 32-byte key in 40. -/
def cmdKeyImportWrapped : Command where
  opcode := 0x0704
  front := true
  room := true
  mctp := false
  recovery := false
  sched := false
  shape := fixedShape 184
  zero := zeroAt [(1, 7), (0x79, 7)]
  body := fun x s =>
    let bs := x.pkt.params
    let target := fld bs 0 1
    let room := keyRoom x.pkt
    let id := (bs.drop 8).take 16
    if target = 0 ∨ 3 < target ∨ (target ≠ 3 ∧ !zeros bs 8 16) then Out.of s .invalidParam
    else if s.sr.dipFrozen then Out.refuse s .supplyLow
    else if target = 3 ∧ s.sr.migration.any (fun m => decide (m.id = id)) then Out.of s .invalidParam
    else if target = 3 ∧ s.sr.migration.length ≥ 1024 then Out.of s .busy
    else if target = 3 ∧ !s.journalUp then Out.of s .journalUnavailable
    else match s.unwrapImport target ((bs.drop 0x18).take 97) (bs.drop 0x80) with
      | none => Out.of s .tagMismatch
      | some key =>
        if target = 3 then
          let s := { s with sr := { s.sr with migration := s.sr.migration ++ [(⟨id, room, fit key 32, 0, 0⟩ : MigKey)] } }
          let s := match x.pkt.path with
            | .roomRing r => s.setRoom r { s.room r with tenantKeys := (s.room r).tenantKeys ++ [leNat id] }
            | _ => s
          Out.of s.persistVault .ok
        else
          let h := s.sr.nextImport
          let e : ImportKey := ⟨h, room, target, s.clock + 60000000000, key⟩
          .done .ok (leBytes h 4) { s with sr := { s.sr with imports := s.sr.imports ++ [e], nextImport := (h + 1) % 2 ^ 32 } }

/-- IMPORT_HANDLE_EXPIRY (R378): handles past their 60 s end. -/
def execImportHandleExpiry (s : State) : Res :=
  .next { s with sr := { s.sr with imports := s.sr.imports.filter fun h => decide (s.clock < h.ends) } }

/-! ## Session keys (R252, R379) -/

/-- A session key. -/
def State.session (s : State) (h : Nat) : Option SessKey := (s.sr.sessions.find? fun e => decide (e.1 = h)).map fun e => e.2

/-- SecY of a MACsec record. -/
def secyOf (bs : List Byte) : Nat := fld bs 6 2

/-- A KEY_SA_ADD record's fields are in range (R252, R379). -/
def saRecordOk (bs : List Byte) : Bool :=
  let kind := fld bs 0 1
  let len := fld bs 2 1
  let macsec := decide (kind = 3 ∨ kind = 4)
  let esp := decide (kind = 1 ∨ kind = 2)
  let win := fld bs 0x10 4
  decide (1 ≤ kind ∧ kind ≤ 5) && decide (fld bs 1 1 ≤ 1) && decide (fld bs 3 1 < 8) &&
    (if esp then decide (len = 16 ∨ len = 32) else if macsec then decide (len = 32) else decide (len = 32 ∨ len = 48)) &&
    (!macsec || (decide (fld bs 4 2 < 4) && decide (secyOf bs < 1024) && decide (win ≤ 4096))) &&
    (macsec || zeros bs 8 8) && (decide (kind ≠ 1) || decide (win = 0) || decide (64 ≤ win ∧ win ≤ 4096)) &&
    (decide (kind = 2 ∨ kind = 4) || zeros bs 0x14 2) && (!esp || zeros bs 0x24 8)

/-- What refuses a further MACsec SA: a SecY of another party, a fifth receive SC, a second transmit SC, an AN in use. -/
def State.macsecRefuses (s : State) (room : Nat) (bs : List Byte) : Option Status :=
  let kind := fld bs 0 1
  let same := s.sr.sessions.filter fun e => decide (e.2.kind = 3 ∨ e.2.kind = 4) && decide (secyOf e.2.body = secyOf bs)
  let alike := same.filter fun e => decide (e.2.kind = kind)
  let scis := (alike.map fun e => fld e.2.body 8 8).eraseDups
  if same.any (fun e => decide (e.2.room ≠ room)) then some .notPermitted
  else if alike.any (fun e => decide (fld e.2.body 8 8 = fld bs 8 8) && decide (fld e.2.body 4 2 = fld bs 4 2)) then some .invalidParam
  else if !scis.contains (fld bs 8 8) && decide (scis.length ≥ if kind = 3 then 4 else 1) then some .busy
  else none

/-- What refuses a further session key (R252, R379). -/
def State.saRefuses (s : State) (room : Nat) (bs : List Byte) : Option Status :=
  let kind := fld bs 0 1
  if s.sr.sessions.length ≥ 196608 then some .busy
  else if room ≠ 0xFFFF ∧ (s.sr.sessions.filter fun e => decide (e.2.room = room)).length ≥ 4096 then some .busy
  else if kind ≤ 2 then
    if (s.sr.sessions.filter fun e => decide (e.2.kind ≤ 2)).length ≥ 65536 then some .busy else none
  else if kind ≤ 4 then s.macsecRefuses room bs
  else none

/-- Add a session key under the lowest free handle; handle 0 names none (R507). -/
def State.addSession (s : State) (room : Nat) (bs key : List Byte) : Nat × State :=
  let h := firstFree (s.sr.sessions.map fun e => e.1) 1 200000
  let k : SessKey := ⟨room, fld bs 0 1, bs.take 0x50, key, fld bs 0x18 8, 0⟩
  (h, { s with sr := { s.sr with sessions := Tbl.put h k s.sr.sessions } })

/-- KEY_SA_ADD (0x0705, R379). -/
def cmdKeySaAdd : Command where
  opcode := 0x0705
  front := true
  room := true
  mctp := false
  recovery := false
  sched := false
  shape := fixedShape 128
  zero := zeroAt [(0x16, 2)]
  body := fun x s =>
    let bs := x.pkt.params
    let room := keyRoom x.pkt
    if !saRecordOk bs then Out.of s .invalidParam
    else if s.sr.vaultLocked then Out.of s .keyAbsent
    else if room ≠ 0xFFFF ∧ (s.room room).state = .vacant then Out.of s .notPermitted
    else if s.roomResets room then Out.of s .busy
    else match s.saRefuses room bs with
      | some st => Out.of s st
      | none =>
        if fld bs 1 1 = 0 then
          let a := s.addSession room bs ((bs.drop 0x50).take (fld bs 2 1))
          .done .ok (leBytes a.1 4) a.2
        else match s.importFor (fld bs 0x50 4) room 2 with
          | none => Out.of s .invalidParam
          | some h =>
            if h.key.length ≠ fld bs 2 1 then Out.of s .invalidParam
            else
              let a := (s.useImport h.handle).addSession room bs h.key
              .done .ok (leBytes a.1 4) a.2

/-- KEY_SA_DELETE (0x0706, R379): HANDLE (4 B) and 4 reserved bytes (DESIGN CHOICE, log entry 20). -/
def cmdKeySaDelete : Command where
  opcode := 0x0706
  front := true
  room := true
  mctp := false
  recovery := false
  sched := false
  shape := fixedShape 8
  zero := zeroAt [(4, 4)]
  body := fun x s =>
    let h := fld x.pkt.params 0 4
    match s.session h with
    | none => Out.of s .keyAbsent
    | some k =>
      if (Path.ringRoom x.pkt.path).any fun r => decide (k.room ≠ r) then Out.of s .notPermitted
      else if s.roomResets k.room then Out.of s .busy
      else Out.of { s with sr := { s.sr with sessions := Tbl.erase h s.sr.sessions } } .ok

/-! ## Leases (R371 to R373) -/

/-- What a lease asks for and gets. -/
inductive LeaseResult where
  | absent
  | exhausted
  | waits
  | granted (firstInv inv blocks : Nat)
  deriving DecidableEq, Repr

/-- Reserve eMRAM counter space for a domain (R371): to 16 leases ahead, within its limits. -/
def State.reserve (s : State) (slot : Nat) : State :=
  let v := s.domain slot
  let v := { v with resBlk := min (2 ^ v.log2Blk) (v.nextBlk + 16 * 2 ^ 20), resInv := min (2 ^ v.log2Inv) (v.nextInv + 16 * 2 ^ 16) }
  let s := s.setDomain slot v
  { s with sr := { s.sr with reserved := Tbl.put slot (v.cur, v.resInv, v.resBlk) s.sr.reserved } }

/-- The lease procedure of R371 on a slot and generation. A lease that needs a new reservation waits while eMRAM is frozen;
when all 8,192 records are held, a persist starts at once (R373). -/
def State.lease (s : State) (slot gen : Nat) (encrypt : Bool) : LeaseResult × State :=
  let v := s.domain slot
  if !s.vaultServes ∨ v.state ≠ 1 ∨ (gen ≠ v.cur ∧ (encrypt ∨ gen ≠ v.prev)) then (.absent, s)
  else
    let b := min (2 ^ 20) (2 ^ v.log2Blk - v.nextBlk)
    let n := if encrypt then min (2 ^ 16) (2 ^ v.log2Inv - v.nextInv) else 0
    if b = 0 ∨ (encrypt ∧ n = 0) then (.exhausted, s.bump R.SR_LEASE_EXHAUSTED)
    else
      let short := decide (v.nextBlk + b > v.resBlk) || decide (v.nextInv + n > v.resInv)
      if short && s.sr.dipFrozen then (.waits, s)
      else
        let full := decide (s.sr.reserved.length ≥ 8192) && decide ((s.sr.reserved.filter fun e => decide (e.1 = slot)) = [])
        if short && full && !s.journalUp then (.waits, s)
        else
          let s := if short && full then s.persistVault else s
          let s := if short then s.reserve slot else s
          let w := s.domain slot
          let first := w.nextInv
          (.granted first n b, (s.setDomain slot { w with nextBlk := w.nextBlk + b, nextInv := w.nextInv + n }).bump R.SR_LEASE_GRANTED)

/-- What a load of a key domain's current generation into the strongroom's cache does to its counters: they go on at the marks (R371). A load of
the previous generation, which has no marks of its own, leaves them (DEDUCED, log entry 90). -/
def State.loadCounters (s : State) (ref : Nat) : State :=
  let v := s.domain (refKeySlot ref)
  if refKeyKind ref = 0 ∧ v.state = 1 ∧ refKeyGen ref = v.cur then
    { s with sr := { s.sr with vault := Tbl.set (fun _ => VaultRec.free) s.sr.vault (refKeySlot ref) { v with nextBlk := v.resBlk, nextInv := v.resInv } } }
  else s

/-- The strongroom's key cache of 16,384, least recently used out first (R368); a miss costs an unwrap, counted. -/
def State.cacheKey (s : State) (ref : Nat) : State :=
  let hit := s.sr.cache.contains ref
  let s := { s with sr := { s.sr with cache := (ref :: s.sr.cache.filter fun k => decide (k ≠ ref)).take 16384 } }
  if hit then s else (s.loadCounters ref).bump R.SR_CACHE_MISS

/-- VAULT_PERSIST (R369): a dirty vault is persisted while the journal takes writes and eMRAM is not frozen. -/
def execVaultPersist (s : State) : Res :=
  .next (if s.sr.vaultDirty && s.journalUp && s.sr.vaultOpen && !s.sr.dipFrozen then s.persistVault else s)

/-! ## Seal key pairs (R380 to R383) -/

/-- Leaves of a seal key (R380). -/
def sealLeaves : Nat := 2 ^ 40

/-- KEY_SEAL_NEW (0x0707, R380): it replies when both trees stand. -/
def cmdKeySealNew : Command where
  opcode := 0x0707
  front := true
  room := false
  mctp := false
  recovery := false
  sched := false
  shape := fixedShape 0
  zero := fun _ => true
  body := fun x s =>
    if s.sr.dipFrozen then Out.refuse s .supplyLow
    else if s.sr.entropyFail ∨ s.sr.sealNext.isSome ∨ s.sr.sealNewBusy ∨ (s.runningOn 0x0804 0).isSome then Out.of s .busy
    else .held ({ s with sr := { s.sr with sealNewBusy := true } }.hold x true 0 [])

/-- SEAL_AUTO_NEW (R383): fewer than 2^30 leaves remain and no next pair exists. -/
def execSealAutoNew (s : State) : Res :=
  match s.sr.sealCur with
  | some p =>
    if sealLeaves - p.leaf < 2 ^ 30 ∧ s.sr.sealNext = none ∧ !s.sr.sealNewBusy ∧ !s.sr.dipFrozen ∧ !s.sr.entropyFail then
      .next { s with sr := { s.sr with sealNewBusy := true } }
    else .next s
  | none => .next s

/-- SEAL_KEY_PAIR_BUILT (R380): the pair becomes the next pair and a waiting KEY_SEAL_NEW replies. -/
def execSealKeyPairBuilt (s : State) : Res :=
  if s.sr.sealNewBusy then
    let k := s.secretBytes 96
    let s := k.2
    let s := { s with sr := { s.sr with sealNext := some ⟨k.1, 0, 0, 1⟩, sealNewBusy := false } }
    .next (s.endRunning 0x0707 0 .ok [])
  else .next s

/-- BOTTOM_TREE_BUILD (R381): the next bottom trees stand once the current ones are half used. A bottom tree has 2^20 leaves. -/
def execBottomTreeBuild (s : State) : Res :=
  match s.sr.sealCur with
  | some p =>
    if p.built * 2 ^ 20 ≤ p.leaf + 2 ^ 19 ∧ p.built < 2 ^ 20 then
      .next { s with sr := { s.sr with sealCur := some { p with built := p.built + 1 } } }
    else .next s
  | none => .next s

/-! ## Entropy (R363, R364) -/

/-- DRBG_RESEED (R363): the generator's later outputs are fresh draws. -/
def execDrbgReseed (s : State) : Res := .next s.secret.2

/-- ENTROPY_HEALTH_FAIL (R364): counted; the third failure in a row sets ENTROPY_FAIL until the next cold reset. -/
def execEntropyHealthFail (s : State) : Res :=
  let n := s.sr.entropyRun + 1
  .next ({ s with sr := { s.sr with entropyRun := n, entropyFail := s.sr.entropyFail || decide (n ≥ 3) } }.bump R.SR_ENTROPY_FAIL)

/-! ## Unlock nonces (R386) -/

/-- DBG_NONCE (0x0C00, R386). -/
def cmdDbgNonce : Command where
  opcode := 0x0C00
  front := true
  room := false
  mctp := true
  recovery := true
  sched := false
  shape := fixedShape 0
  zero := fun _ => true
  body := fun _ s =>
    if s.sr.entropyFail then Out.of s .busy
    else
      let k := s.secretBytes 16
      .done .ok k.1 { k.2 with sr := { k.2.sr with nonce := some (k.1, s.clock + 600000000000) } }

/-- NONCE_EXPIRY (R386): a nonce ends after 600 s. -/
def execNonceExpiry (s : State) : Res :=
  match s.sr.nonce with
  | some n => if n.2 ≤ s.clock then .next { s with sr := { s.sr with nonce := none } } else .next s
  | none => .next s

end Sys2Proof.Machine
end

