-- ==== Sys2Proof/Decode.lean ====
section
/-!
DEFINITION. Decoding. No row of spec/opcode_table.json gives bits, so `decodeTableWord` answers none for
every word. The block's own sequencers, the Dreko threads, run 32-bit words: `encodeDreko` and
`decodeDreko` follow R330 to R334. The decoder is marked noncomputable because Lean's compiler builds no
constructor whose number in its type is above 244; the kernel evaluates it like any other definition, and no
meaning uses it (`Machine/Runner.lean` runs a word directly).
-/

namespace Sys2Proof

/-- The command that a word spells by the table's bits: no row of the table gives any. -/
def decodeTableWord (_nbits _w : Nat) : Option Instr := none

/-! ## Dreko encodings (R330 to R334) -/

/-- Format R: D [21:17], A [16:12], B [11:7], FN [6:0]. -/
def encR (major d a b fn : Nat) : Nat := major * 2 ^ 22 + d * 2 ^ 17 + a * 2 ^ 12 + b * 2 ^ 7 + fn

/-- Format I: D [21:17], A [16:12], IMM12 [11:0]; format S is the same with B in the D place. -/
def encI (major d a imm : Nat) : Nat := major * 2 ^ 22 + d * 2 ^ 17 + a * 2 ^ 12 + imm

/-- Format K: D [21:17], IMM17 [16:0]. -/
def encK (major d imm : Nat) : Nat := major * 2 ^ 22 + d * 2 ^ 17 + imm

/-- Format T: D [21:17], V [16:12], TILE [11:6], FN [5:0]. -/
def encT (d v tile fn : Nat) : Nat := 0x22 * 2 ^ 22 + d * 2 ^ 17 + v * 2 ^ 12 + tile * 2 ^ 6 + fn

/-- Bits [27:0] of a Dreko instruction's word and its issue fields; none for a command that is no Dreko instruction. -/
def drekoFields : Instr → Option (Issue × Nat)
  | .add x d a b => some (x, encR 0x01 d a b 0x00)
  | .sub x d a b => some (x, encR 0x01 d a b 0x01)
  | .and x d a b => some (x, encR 0x01 d a b 0x02)
  | .or x d a b => some (x, encR 0x01 d a b 0x03)
  | .xor x d a b => some (x, encR 0x01 d a b 0x04)
  | .shl x d a b => some (x, encR 0x01 d a b 0x05)
  | .shr x d a b => some (x, encR 0x01 d a b 0x06)
  | .sra x d a b => some (x, encR 0x01 d a b 0x07)
  | .mul x d a b => some (x, encR 0x01 d a b 0x08)
  | .mulhu x d a b => some (x, encR 0x01 d a b 0x09)
  | .divu x d a b => some (x, encR 0x01 d a b 0x0A)
  | .remu x d a b => some (x, encR 0x01 d a b 0x0B)
  | .clz x d a => some (x, encR 0x01 d a 0 0x0C)
  | .popc x d a => some (x, encR 0x01 d a 0 0x0D)
  | .bswap x d a => some (x, encR 0x01 d a 0 0x0E)
  | .sextb x d a => some (x, encR 0x01 d a 0 0x10)
  | .sexth x d a => some (x, encR 0x01 d a 0 0x11)
  | .sextw x d a => some (x, encR 0x01 d a 0 0x12)
  | .addi x d a imm => some (x, encI 0x02 d a imm.toNat)
  | .andi x d a imm => some (x, encI 0x03 d a imm.toNat)
  | .ori x d a imm => some (x, encI 0x04 d a imm.toNat)
  | .xori x d a imm => some (x, encI 0x05 d a imm.toNat)
  | .shli x d a n => some (x, encI 0x06 d a n.toNat)
  | .shri x d a n => some (x, encI 0x06 d a (0x400 + n.toNat))
  | .srai x d a n => some (x, encI 0x06 d a (0x800 + n.toNat))
  | .ldi x d imm => some (x, encK 0x07 d imm.toNat)
  | .lsh16 x d imm => some (x, encK 0x08 d imm.toNat)
  | .cmpEq x d a b => some (x, encR 0x09 d a b 0x00)
  | .cmpNe x d a b => some (x, encR 0x09 d a b 0x01)
  | .cmpLtu x d a b => some (x, encR 0x09 d a b 0x02)
  | .cmpLts x d a b => some (x, encR 0x09 d a b 0x03)
  | .cmpGeu x d a b => some (x, encR 0x09 d a b 0x04)
  | .cmpGes x d a b => some (x, encR 0x09 d a b 0x05)
  | .cmpTest x d a b => some (x, encR 0x09 d a b 0x06)
  | .cmpiEq x d a imm => some (x, encI 0x0A d a imm.toNat)
  | .cmpiNe x d a imm => some (x, encI 0x0A (8 + d) a imm.toNat)
  | .cmpiLts x d a imm => some (x, encI 0x0A (16 + d) a imm.toNat)
  | .cmpiLtu x d a imm => some (x, encI 0x0A (24 + d) a imm.toNat)
  | .pand x d a b => some (x, encR 0x0B d a b 0x00)
  | .por x d a b => some (x, encR 0x0B d a b 0x01)
  | .pxor x d a b => some (x, encR 0x0B d a b 0x02)
  | .pnot x d a => some (x, encR 0x0B d a 0 0x03)
  | .pget x d => some (x, encR 0x0B d 0 0 0x04)
  | .pset x a => some (x, encR 0x0B 0 a 0 0x05)
  | .j x off => some (x, 0x0C * 2 ^ 22 + off.toNat)
  | .jal x off => some (x, 0x0D * 2 ^ 22 + off.toNat)
  | .jr x d a => some (x, encR 0x0E d a 0 0x00)
  | .ldb x d a imm => some (x, encI 0x10 d a imm.toNat)
  | .ldh x d a imm => some (x, encI 0x11 d a imm.toNat)
  | .ldw x d a imm => some (x, encI 0x12 d a imm.toNat)
  | .ldd x d a imm => some (x, encI 0x13 d a imm.toNat)
  | .stb x b a imm => some (x, encI 0x14 b a imm.toNat)
  | .sth x b a imm => some (x, encI 0x15 b a imm.toNat)
  | .stw x b a imm => some (x, encI 0x16 b a imm.toNat)
  | .std x b a imm => some (x, encI 0x17 b a imm.toNat)
  | .vld x d a imm => some (x, encI 0x18 d a imm.toNat)
  | .vst x b a imm => some (x, encI 0x19 b a imm.toNat)
  | .aadd x d a b => some (x, encR 0x1A d a b 0x00)
  | .aswp x d a b => some (x, encR 0x1A d a b 0x01)
  | .acas x d a b => some (x, encR 0x1A d a b 0x02)
  | .lput x d a b => some (x, encR 0x20 d a b 0x00)
  | .lend x d a b => some (x, encR 0x20 d a b 0x01)
  | .lendt x d a b => some (x, encR 0x20 d a b 0x02)
  | .ldrop x d => some (x, encR 0x20 d 0 0 0x03)
  | .lget x d a => some (x, encR 0x20 d a 0 0x04)
  | .lgetd x d a b => some (x, encR 0x20 d a b 0x05)
  | .ltry x d a => some (x, encR 0x20 d a 0 0x06)
  | .htie x d a => some (x, encR 0x21 d a 0 0x00)
  | .htied x d a b => some (x, encR 0x21 d a b 0x01)
  | .huntie x d a => some (x, encR 0x21 d a 0 0x02)
  | .htry x d a => some (x, encR 0x21 d a 0 0x03)
  | .tput x v tile => some (x, encT 0 v tile 0x00)
  | .tend x d v tile => some (x, encT d v tile 0x01)
  | .tendt x d v tile => some (x, encT d v tile 0x02)
  | .park x a => some (x, encR 0x24 0 a 0 0x00)
  | .yield x => some (x, encR 0x24 0 0 0 0x01)
  | .timens x d => some (x, encR 0x24 d 0 0 0x02)
  | .brk x => some (x, encR 0x24 0 0 0 0x03)
  | .treseat x a => some (x, encR 0x24 0 a 0 0x04)
  | .iflush x => some (x, encR 0x24 0 0 0 0x05)
  | .fence x => some (x, encR 0x24 0 0 0 0x06)
  | .mfs x d n => some (x, encI 0x25 d 0 n.toNat)
  | .mts x a n => some (x, encI 0x26 0 a n.toNat)
  | .vxor x d a b => some (x, encR 0x30 d a b 0x00)
  | .vand x d a b => some (x, encR 0x30 d a b 0x01)
  | .vor x d a b => some (x, encR 0x30 d a b 0x02)
  | .vandn x d a b => some (x, encR 0x30 d a b 0x03)
  | .vxor3 x d a b => some (x, encR 0x30 d a b 0x04)
  | .vadd_8 x d a b => some (x, encR 0x30 d a b 0x08)
  | .vadd_16 x d a b => some (x, encR 0x30 d a b 0x09)
  | .vadd_32 x d a b => some (x, encR 0x30 d a b 0x0A)
  | .vadd_64 x d a b => some (x, encR 0x30 d a b 0x0B)
  | .vsub_8 x d a b => some (x, encR 0x30 d a b 0x0C)
  | .vsub_16 x d a b => some (x, encR 0x30 d a b 0x0D)
  | .vsub_32 x d a b => some (x, encR 0x30 d a b 0x0E)
  | .vsub_64 x d a b => some (x, encR 0x30 d a b 0x0F)
  | .vclmul x d a b => some (x, encR 0x31 (2 * d.val) a b 0x00)
  | .vclmulG x d a b => some (x, encR 0x31 (2 * d.val) a b 0x01)
  | .vgfred x d a => some (x, encR 0x31 d (2 * a.val) 0 0x02)
  | .vgfredG x d a => some (x, encR 0x31 d (2 * a.val) 0 0x03)
  | .vgfx x d a n => some (x, encR 0x31 d a n.toNat 0x04)
  | .vgfxG x d a n => some (x, encR 0x31 d a n.toNat 0x05)
  | .vgf8mul x d a b => some (x, encR 0x31 d a b 0x08)
  | .vgf8mac x d a b => some (x, encR 0x31 d a b 0x09)
  | .vgf8muls x d a b => some (x, encR 0x31 d a b 0x0A)
  | .vgf8macs x d a b => some (x, encR 0x31 d a b 0x0B)
  | .vfold x d a => some (x, encR 0x31 d a 0 0x10)
  | .vctr32 x d a b => some (x, encR 0x31 d a b 0x11)
  | .vctr128 x d a b => some (x, encR 0x31 d a b 0x12)
  | .vtageq x d a b => some (x, encR 0x31 d a b 0x13)
  | .vmvg x d a e => some (x, encR 0x32 d a e 0x00)
  | .vmvv x d a e => some (x, encR 0x32 d a e 0x01)
  | .vbcast x d a => some (x, encR 0x32 d a 0 0x02)
  | .vshuf x d a b => some (x, encR 0x32 d a b 0x03)
  | .vbswap128 x d a => some (x, encR 0x32 d a 0 0x04)
  | .vzero x d => some (x, encR 0x32 d 0 0 0x05)
  | .lhdr x d a => some (x, encR 0x32 d a 0 0x06)
  | _ => none

/-- The 32-bit word of a Dreko instruction: GUARD in bits [31:28] (R330). -/
def encodeDreko (i : Instr) : Option (BitVec 32) :=
  (drekoFields i).map fun f => BitVec.ofNat 32 (f.1.guard.toNat * 2 ^ 28 + f.2)

/-- The word of an instruction, 0 for a command that is no Dreko instruction. -/
def drekoWord (i : Instr) : Nat := ((encodeDreko i).getD 0).toNat

/-- The instruction fields of a word, as numbers. -/
structure DrekoWord where
  guard : Nat
  major : Nat
  d     : Nat
  a     : Nat
  b     : Nat
  fn    : Nat
  imm12 : Nat
  imm17 : Nat
  off22 : Nat
  deriving DecidableEq, Repr

/-- Cut a word into the fields of R330. -/
def DrekoWord.of (w : BitVec 32) : DrekoWord where
  guard := w.toNat / 2 ^ 28
  major := w.toNat / 2 ^ 22 % 64
  d := w.toNat / 2 ^ 17 % 32
  a := w.toNat / 2 ^ 12 % 32
  b := w.toNat / 2 ^ 7 % 32
  fn := w.toNat % 128
  imm12 := w.toNat % 2 ^ 12
  imm17 := w.toNat % 2 ^ 17
  off22 := w.toNat % 2 ^ 22

/-- A field that names a g register. -/
def gReg (n : Nat) : Greg := Fin.ofNat 32 n
/-- A field that names a vector register or a predicate. -/
def vReg (n : Nat) : Fin 8 := Fin.ofNat 8 n

/-- Integer register instructions, MAJOR 0x01. -/
noncomputable def decodeInt (x : Issue) (f : DrekoWord) : Option Instr :=
  let d := gReg f.d
  let a := gReg f.a
  let b := gReg f.b
  match f.fn with
  | 0x00 => some (.add x d a b)
  | 0x01 => some (.sub x d a b)
  | 0x02 => some (.and x d a b)
  | 0x03 => some (.or x d a b)
  | 0x04 => some (.xor x d a b)
  | 0x05 => some (.shl x d a b)
  | 0x06 => some (.shr x d a b)
  | 0x07 => some (.sra x d a b)
  | 0x08 => some (.mul x d a b)
  | 0x09 => some (.mulhu x d a b)
  | 0x0A => some (.divu x d a b)
  | 0x0B => some (.remu x d a b)
  | 0x0C => if f.b = 0 then some (.clz x d a) else none
  | 0x0D => if f.b = 0 then some (.popc x d a) else none
  | 0x0E => if f.b = 0 then some (.bswap x d a) else none
  | 0x10 => if f.b = 0 then some (.sextb x d a) else none
  | 0x11 => if f.b = 0 then some (.sexth x d a) else none
  | 0x12 => if f.b = 0 then some (.sextw x d a) else none
  | _ => none

/-- Comparisons, MAJOR 0x09, and predicate logic, MAJOR 0x0B: predicate fields have two zero high bits (R332). -/
noncomputable def decodeCmp (x : Issue) (f : DrekoWord) : Option Instr :=
  let d := vReg f.d
  let a := gReg f.a
  let b := gReg f.b
  if f.d ≥ 8 then none
  else match f.fn with
    | 0 => some (.cmpEq x d a b)
    | 1 => some (.cmpNe x d a b)
    | 2 => some (.cmpLtu x d a b)
    | 3 => some (.cmpLts x d a b)
    | 4 => some (.cmpGeu x d a b)
    | 5 => some (.cmpGes x d a b)
    | 6 => some (.cmpTest x d a b)
    | _ => none

/-- Predicate logic, MAJOR 0x0B. -/
noncomputable def decodePred (x : Issue) (f : DrekoWord) : Option Instr :=
  let d := vReg f.d
  let a := vReg f.a
  let b := vReg f.b
  match f.fn with
  | 0 => if f.d < 8 ∧ f.a < 8 ∧ f.b < 8 then some (.pand x d a b) else none
  | 1 => if f.d < 8 ∧ f.a < 8 ∧ f.b < 8 then some (.por x d a b) else none
  | 2 => if f.d < 8 ∧ f.a < 8 ∧ f.b < 8 then some (.pxor x d a b) else none
  | 3 => if f.d < 8 ∧ f.a < 8 ∧ f.b = 0 then some (.pnot x d a) else none
  | 4 => if f.a = 0 ∧ f.b = 0 then some (.pget x (gReg f.d)) else none
  | 5 => if f.d = 0 ∧ f.b = 0 then some (.pset x (gReg f.a)) else none
  | _ => none

/-- Line instructions, MAJOR 0x20. -/
noncomputable def decodeLine (x : Issue) (f : DrekoWord) : Option Instr :=
  let d := gReg f.d
  let a := gReg f.a
  match f.fn with
  | 0 => if f.b < 8 then some (.lput x d a (vReg f.b)) else none
  | 1 => if f.b < 8 then some (.lend x d a (vReg f.b)) else none
  | 2 => if f.b < 8 then some (.lendt x d a (vReg f.b)) else none
  | 3 => if f.a = 0 ∧ f.b = 0 then some (.ldrop x d) else none
  | 4 => if f.b = 0 then some (.lget x d a) else none
  | 5 => some (.lgetd x d a (gReg f.b))
  | 6 => if f.b = 0 then some (.ltry x d a) else none
  | _ => none

/-- Hitch instructions, MAJOR 0x21. -/
noncomputable def decodeHitch (x : Issue) (f : DrekoWord) : Option Instr :=
  let d := gReg f.d
  let a := gReg f.a
  match f.fn with
  | 0 => if f.b = 0 then some (.htie x d a) else none
  | 1 => some (.htied x d a (gReg f.b))
  | 2 => if f.b = 0 then some (.huntie x d a) else none
  | 3 => if f.b = 0 then some (.htry x d a) else none
  | _ => none

/-- Tile instructions, MAJOR 0x22, format T: a TILE field of 40 or more is illegal (R338). -/
noncomputable def decodeTile (x : Issue) (f : DrekoWord) : Option Instr :=
  let tile := f.imm12 / 64
  if h : tile < 40 then
    if f.a ≥ 8 then none
    else match f.imm12 % 64 with
      | 0 => if f.d = 0 then some (.tput x (vReg f.a) ⟨tile, h⟩) else none
      | 1 => some (.tend x (gReg f.d) (vReg f.a) ⟨tile, h⟩)
      | 2 => some (.tendt x (gReg f.d) (vReg f.a) ⟨tile, h⟩)
      | _ => none
  else none

/-- Thread control, MAJOR 0x24. -/
noncomputable def decodeCtl (x : Issue) (f : DrekoWord) : Option Instr :=
  match f.fn with
  | 0 => if f.d = 0 ∧ f.b = 0 then some (.park x (gReg f.a)) else none
  | 1 => if f.d = 0 ∧ f.a = 0 ∧ f.b = 0 then some (.yield x) else none
  | 2 => if f.a = 0 ∧ f.b = 0 then some (.timens x (gReg f.d)) else none
  | 3 => if f.d = 0 ∧ f.a = 0 ∧ f.b = 0 then some (.brk x) else none
  | 4 => if f.d = 0 ∧ f.b = 0 then some (.treseat x (gReg f.a)) else none
  | 5 => if f.d = 0 ∧ f.a = 0 ∧ f.b = 0 then some (.iflush x) else none
  | 6 => if f.d = 0 ∧ f.a = 0 ∧ f.b = 0 then some (.fence x) else none
  | _ => none

/-- Vector logic and sums, MAJOR 0x30. -/
noncomputable def decodeVec (x : Issue) (f : DrekoWord) : Option Instr :=
  let d := vReg f.d
  let a := vReg f.a
  let b := vReg f.b
  if f.d ≥ 8 ∨ f.a ≥ 8 ∨ f.b ≥ 8 then none
  else match f.fn with
    | 0x00 => some (.vxor x d a b)
    | 0x01 => some (.vand x d a b)
    | 0x02 => some (.vor x d a b)
    | 0x03 => some (.vandn x d a b)
    | 0x04 => some (.vxor3 x d a b)
    | 0x08 => some (.vadd_8 x d a b)
    | 0x09 => some (.vadd_16 x d a b)
    | 0x0A => some (.vadd_32 x d a b)
    | 0x0B => some (.vadd_64 x d a b)
    | 0x0C => some (.vsub_8 x d a b)
    | 0x0D => some (.vsub_16 x d a b)
    | 0x0E => some (.vsub_32 x d a b)
    | 0x0F => some (.vsub_64 x d a b)
    | _ => none

/-- Field arithmetic, MAJOR 0x31: pair operands name v0, v2, v4 or v6 (R332). -/
noncomputable def decodeField (x : Issue) (f : DrekoWord) : Option Instr :=
  let d := vReg f.d
  let a := vReg f.a
  let b := vReg f.b
  let vvv := f.d < 8 ∧ f.a < 8 ∧ f.b < 8
  match f.fn with
  | 0x00 => if vvv ∧ f.d % 2 = 0 then some (.vclmul x (Fin.ofNat 4 (f.d / 2)) a b) else none
  | 0x01 => if vvv ∧ f.d % 2 = 0 then some (.vclmulG x (Fin.ofNat 4 (f.d / 2)) a b) else none
  | 0x02 => if f.d < 8 ∧ f.a < 8 ∧ f.a % 2 = 0 ∧ f.b = 0 then some (.vgfred x d (Fin.ofNat 4 (f.a / 2))) else none
  | 0x03 => if f.d < 8 ∧ f.a < 8 ∧ f.a % 2 = 0 ∧ f.b = 0 then some (.vgfredG x d (Fin.ofNat 4 (f.a / 2))) else none
  | 0x04 => if f.d < 8 ∧ f.a < 8 ∧ 1 ≤ f.b ∧ f.b ≤ 8 then some (.vgfx x d a (BitVec.ofNat 5 f.b)) else none
  | 0x05 => if f.d < 8 ∧ f.a < 8 ∧ 1 ≤ f.b ∧ f.b ≤ 8 then some (.vgfxG x d a (BitVec.ofNat 5 f.b)) else none
  | 0x08 => if vvv then some (.vgf8mul x d a b) else none
  | 0x09 => if vvv then some (.vgf8mac x d a b) else none
  | 0x0A => if f.d < 8 ∧ f.a < 8 then some (.vgf8muls x d a (gReg f.b)) else none
  | 0x0B => if f.d < 8 ∧ f.a < 8 then some (.vgf8macs x d a (gReg f.b)) else none
  | 0x10 => if f.d < 8 ∧ f.a < 8 ∧ f.b = 0 then some (.vfold x d a) else none
  | 0x11 => if f.d < 8 ∧ f.a < 8 then some (.vctr32 x d a (gReg f.b)) else none
  | 0x12 => if f.d < 8 ∧ f.a < 8 then some (.vctr128 x d a (gReg f.b)) else none
  | 0x13 => if vvv then some (.vtageq x d a b) else none
  | _ => none

/-- Vector moves, MAJOR 0x32. -/
noncomputable def decodeMove (x : Issue) (f : DrekoWord) : Option Instr :=
  match f.fn with
  | 0x00 => if f.a < 8 ∧ f.b < 8 then some (.vmvg x (gReg f.d) (vReg f.a) (vReg f.b)) else none
  | 0x01 => if f.d < 8 ∧ f.b < 8 then some (.vmvv x (vReg f.d) (gReg f.a) (vReg f.b)) else none
  | 0x02 => if f.d < 8 ∧ f.b = 0 then some (.vbcast x (vReg f.d) (gReg f.a)) else none
  | 0x03 => if f.d < 8 ∧ f.a < 8 ∧ f.b < 8 then some (.vshuf x (vReg f.d) (vReg f.a) (vReg f.b)) else none
  | 0x04 => if f.d < 8 ∧ f.a < 8 ∧ f.b = 0 then some (.vbswap128 x (vReg f.d) (vReg f.a)) else none
  | 0x05 => if f.d < 8 ∧ f.a = 0 ∧ f.b = 0 then some (.vzero x (vReg f.d)) else none
  | 0x06 => if f.d < 8 ∧ f.b = 0 then some (.lhdr x (vReg f.d) (gReg f.a)) else none
  | _ => none

/-- The instruction a word spells for thread `t`; none for every encoding that R332 makes illegal (GUARD 0b1000 is
decoded and refused at issue, R331). MFS and MTS of numbers without a register are refused at issue (R329). -/
noncomputable def decodeDreko (t : Fin 2048) (w : BitVec 32) : Option Instr :=
  let f := DrekoWord.of w
  let x : Issue := ⟨t, BitVec.ofNat 4 f.guard⟩
  let d := gReg f.d
  let a := gReg f.a
  let imm := BitVec.ofNat 12 f.imm12
  match f.major with
  | 0x01 => decodeInt x f
  | 0x02 => some (.addi x d a imm)
  | 0x03 => some (.andi x d a imm)
  | 0x04 => some (.ori x d a imm)
  | 0x05 => some (.xori x d a imm)
  | 0x06 =>
    if f.imm12 < 0x40 then some (.shli x d a (BitVec.ofNat 6 f.imm12))
    else if 0x400 ≤ f.imm12 ∧ f.imm12 < 0x440 then some (.shri x d a (BitVec.ofNat 6 f.imm12))
    else if 0x800 ≤ f.imm12 ∧ f.imm12 < 0x840 then some (.srai x d a (BitVec.ofNat 6 f.imm12))
    else none
  | 0x07 => some (.ldi x d (BitVec.ofNat 17 f.imm17))
  | 0x08 => if f.imm17 < 2 ^ 16 then some (.lsh16 x d (BitVec.ofNat 16 f.imm17)) else none
  | 0x09 => decodeCmp x f
  | 0x0A =>
    match f.d / 8 with
    | 0 => some (.cmpiEq x (vReg f.d) a imm)
    | 1 => some (.cmpiNe x (vReg f.d) a imm)
    | 2 => some (.cmpiLts x (vReg f.d) a imm)
    | _ => some (.cmpiLtu x (vReg f.d) a imm)
  | 0x0B => decodePred x f
  | 0x0C => some (.j x (BitVec.ofNat 22 f.off22))
  | 0x0D => some (.jal x (BitVec.ofNat 22 f.off22))
  | 0x0E => if f.fn = 0 ∧ f.b = 0 then some (.jr x d a) else none
  | 0x10 => some (.ldb x d a imm)
  | 0x11 => some (.ldh x d a imm)
  | 0x12 => some (.ldw x d a imm)
  | 0x13 => some (.ldd x d a imm)
  | 0x14 => some (.stb x d a imm)
  | 0x15 => some (.sth x d a imm)
  | 0x16 => some (.stw x d a imm)
  | 0x17 => some (.std x d a imm)
  | 0x18 => if f.d < 8 then some (.vld x (vReg f.d) a imm) else none
  | 0x19 => if f.d < 8 then some (.vst x (vReg f.d) a imm) else none
  | 0x1A =>
    match f.fn with
    | 0 => some (.aadd x d a (gReg f.b))
    | 1 => some (.aswp x d a (gReg f.b))
    | 2 => some (.acas x d a (gReg f.b))
    | _ => none
  | 0x20 => decodeLine x f
  | 0x21 => decodeHitch x f
  | 0x22 => decodeTile x f
  | 0x24 => decodeCtl x f
  | 0x25 => if f.a = 0 then some (.mfs x d imm) else none
  | 0x26 => if f.d = 0 then some (.mts x a imm) else none
  | 0x30 => decodeVec x f
  | 0x31 => decodeField x f
  | 0x32 => decodeMove x f
  | _ => none

end Sys2Proof
end

