-- ==== Sys2Proof/Machine/Flags.lean ====
section
/-!
DEFINITION. Conditions that set a predicate (R334), and the arithmetic of the vector unit (R328, R335).
-/

namespace Sys2Proof.Machine

/-- Conditions of CMP.c and CMPI.c. -/
inductive Cond where
  | eq | ne | ltu | lts | geu | ges | test
  deriving DecidableEq, Repr

/-- The value of a condition. -/
def Cond.holds (c : Cond) (a b : Word) : Bool :=
  match c with
  | .eq => a == b
  | .ne => a != b
  | .ltu => a.ult b
  | .lts => a.slt b
  | .geu => !a.ult b
  | .ges => !a.slt b
  | .test => (a &&& b) != 0

/-- Leading zero bits; 64 for zero. -/
def clz64 (a : Word) : Nat → Nat
  | 0 => 0
  | n + 1 => if a.getLsbD n then 0 else clz64 a n + 1

/-- Bits set among the low `n`. -/
def popc64 (a : Word) : Nat → Nat
  | 0 => 0
  | n + 1 => b01 (a.getLsbD n) + popc64 a n

/-- Reverse the bytes of an `n`-byte number. -/
def swapBytes (v n : Nat) : Nat := beNat (leBytes v n)

/-! ## Vector elements (R328) -/

/-- Element `e` of `w` bits. -/
def Vec.elem (w : Nat) (v : Vec) (e : Nat) : BitVec w := v.extractLsb' (w * e) w

/-- The vector whose elements of `w` bits are `f 0`, `f 1`, …, `f (n - 1)`. -/
def Vec.build (w : Nat) (f : Nat → BitVec w) : Nat → Vec
  | 0 => 0
  | n + 1 => Vec.build w f n ||| ((f n).setWidth 512 <<< (w * n))

/-- Element-wise operation on elements of `w` bits. -/
def Vec.zip (w : Nat) (f : BitVec w → BitVec w → BitVec w) (a b : Vec) : Vec :=
  Vec.build w (fun e => f (Vec.elem w a e) (Vec.elem w b e)) (512 / w)

/-- Lane `k` (R328). -/
abbrev Vec.lane (v : Vec) (k : Nat) : BitVec 128 := Vec.elem 128 v k

/-- The vector of four lanes. -/
def Vec.lanes (f : Nat → BitVec 128) : Vec := Vec.build 128 f 4

/-! ## Carry-less and field arithmetic (R335) -/

/-- Carry-less product of the low 128 bits. -/
def clmul (a b : BitVec 256) : Nat → BitVec 256
  | 0 => 0
  | n + 1 => (if b.getLsbD n then a <<< n else 0) ^^^ clmul a b n

/-- g(x) = x^128 + x^7 + x^2 + x + 1. -/
def gPoly : BitVec 256 := BitVec.ofNat 256 (2 ^ 128 + 0x87)

/-- Clear the coefficients of x^(127 + n) down to x^128 by adding multiples of g(x). -/
def gReduce (v : BitVec 256) : Nat → BitVec 256
  | 0 => v
  | n + 1 => gReduce (if v.getLsbD (128 + n) then v ^^^ (gPoly <<< n) else v) n

/-- Reverse the bits of each byte of a lane: GCM order to normal order and back. -/
def revByteBits (v : BitVec 128) : Nat → BitVec 128
  | 0 => 0
  | n + 1 => revByteBits v n ||| (if v.getLsbD (n / 8 * 8 + (7 - n % 8)) then BitVec.ofNat 128 (2 ^ n) else 0)

/-- A lane in the order an instruction names, as normal order. -/
def lane2poly (gcm : Bool) (v : BitVec 128) : BitVec 128 := if gcm then revByteBits v 128 else v

/-- The 256-bit product of two lanes, as low and high lanes in the same order. -/
def laneMul (gcm : Bool) (a b : BitVec 128) : BitVec 128 × BitVec 128 :=
  let p := clmul ((lane2poly gcm a).setWidth 256) ((lane2poly gcm b).setWidth 256) 128
  (lane2poly gcm (p.setWidth 128), lane2poly gcm ((p >>> 128).setWidth 128))

/-- Reduce a 256-bit lane pair modulo g(x). -/
def laneRed (gcm : Bool) (lo hi : BitVec 128) : BitVec 128 :=
  let v := (lane2poly gcm lo).setWidth 256 ||| ((lane2poly gcm hi).setWidth 256 <<< 128)
  lane2poly gcm ((gReduce v 128).setWidth 128)

/-- Multiply a lane by x^n modulo g(x). -/
def laneX (gcm : Bool) (a : BitVec 128) (n : Nat) : BitVec 128 :=
  lane2poly gcm ((gReduce ((lane2poly gcm a).setWidth 256 <<< n) 128).setWidth 128)

/-- Carry-less product of two bytes. -/
def clmul8 (a b : BitVec 16) : Nat → BitVec 16
  | 0 => 0
  | n + 1 => (if b.getLsbD n then a <<< n else 0) ^^^ clmul8 a b n

/-- Reduce modulo x^8 + x^4 + x^3 + x^2 + 1 (0x11D). -/
def reduce8 (v : BitVec 16) : Nat → BitVec 16
  | 0 => v
  | n + 1 => reduce8 (if v.getLsbD (8 + n) then v ^^^ (0x11D#16 <<< n) else v) n

/-- Product in GF(2^8). -/
def gf8 (a b : Byte) : Byte := (reduce8 (clmul8 (a.setWidth 16) (b.setWidth 16) 8) 8).setWidth 8

/-- Big-endian value of a lane. -/
def laneBe (v : BitVec 128) : Nat := swapBytes v.toNat 16

/-- A lane from its big-endian value, modulo 2^128. -/
def laneOfBe (n : Nat) : BitVec 128 := BitVec.ofNat 128 (swapBytes (n % 2 ^ 128) 16)

end Sys2Proof.Machine
end

