-- ==== Sys2Proof/Machine/Narso.lean ====
section
/-!
DEFINITION. Formats of the seal rope and of the storage path as bytes: fixity records, Merkle roots, knots, exports, extent map
entries, journal items and blocks, erasure coding (R417, R418, R423 to R430, R438, R483, R490, R494, R495).
-/

namespace Sys2Proof.Machine

/-- A time structure in big-endian order (R417). -/
def narsoTime (t : Time) : List Byte := beBytes t.sec 8 ++ beBytes t.ns 4 ++ beBytes t.frac 4

/-! ## Fixity records (R417, R418) -/

/-- EXTENT_ID (R417). -/
def extentId (domain ns lba seq : Nat) : List Byte := beBytes (domain * 2 ^ 108 + ns * 2 ^ 96 + lba * 2 ^ 48 + seq) 16

/-- EXTENT_ID of an extent. -/
def Extent.ident (e : Extent) : List Byte := extentId e.domain e.ns e.lba e.seq

/-- A fixity record, its SEQUENCE still to be filled in. -/
def fixityRecord (ident : List Byte) (len : Nat) (sha sha3 : List Byte) (owner replayed : Bool) (type seq : Nat) : List Byte :=
  ident ++ beBytes len 8 ++ fit sha 32 ++ fit sha3 32 ++ beBytes (b01 replayed * 2 ^ 15 + b01 owner * 2 ^ 14 + type) 2 ++ beBytes seq 6

/-- A record with its place (R419). -/
def withSeq (r : List Byte) (seq : Nat) : List Byte := r.take 0x5A ++ beBytes seq 6

/-- A record with REPLAYED set (R417). -/
def withReplayed (r : List Byte) : List Byte := r.take 0x58 ++ beBytes (bfld r 0x58 2 ||| 0x8000) 2 ++ r.drop 0x5A

/-! ## Merkle trees (R423) -/

/-- The two hash families. -/
inductive Family where
  | sha256 | shake256
  deriving DecidableEq, Repr

/-- The family's function with 32 bytes of output. -/
def Family.hash (f : Family) (m : List Byte) : List Byte :=
  match f with
  | .sha256 => Sys2Proof.sha256 m
  | .shake256 => Sys2Proof.shake256 m 32

/-- Largest power of two below `n`, for n ≥ 2. -/
def splitPoint (n : Nat) : Nat := 2 ^ Nat.log2 (n - 1)

/-- The root of `n` leaves whose hashes are given, by the shape of R423; `fuel` bounds the depth. -/
def merkleNodes (f : Family) : Nat → List (List Byte) → List Byte
  | 0, ls => ls.headD []
  | fuel + 1, ls =>
    if ls.length ≤ 1 then ls.headD []
    else
      let k := splitPoint ls.length
      f.hash ([0x01] ++ merkleNodes f fuel (ls.take k) ++ merkleNodes f fuel (ls.drop k))

/-- Leaf hash. -/
def merkleLeaf (f : Family) (r : List Byte) : List Byte := f.hash ([0x00] ++ r)

/-- The root over an epoch's records (R423). -/
def merkleRoot (f : Family) (rs : List (List Byte)) : List Byte :=
  if rs = [] then f.hash [0x02] else merkleNodes f 21 (rs.map (merkleLeaf f))

/-- Siblings of leaf `i`, from the leaf upward. -/
def merkleProof (f : Family) : Nat → List (List Byte) → Nat → List (List Byte)
  | 0, _, _ => []
  | fuel + 1, ls, i =>
    if ls.length ≤ 1 then []
    else
      let k := splitPoint ls.length
      if i < k then merkleProof f fuel (ls.take k) i ++ [merkleNodes f fuel (ls.drop k)]
      else merkleProof f fuel (ls.drop k) (i - k) ++ [merkleNodes f fuel (ls.take k)]

/-! ## Knots (R424 to R430) -/

/-- A knot body (R424). -/
def knotBody (kind flags epoch serial : Nat) (rope : List Byte) (open' close : Time) (periodUs skipped count leaf : Nat)
    (root256 rootShake prev256 prevShake next : List Byte) : List Byte :=
  beBytes 0x4E52534B 4 ++ [1] ++ beBytes kind 1 ++ beBytes flags 2 ++ beBytes epoch 8 ++ beBytes serial 8 ++ fit rope 16 ++
    narsoTime open' ++ narsoTime close ++ beBytes periodUs 4 ++ beBytes skipped 4 ++ beBytes count 8 ++ beBytes leaf 8 ++
    fit root256 32 ++ fit rootShake 32 ++ fit prev256 32 ++ fit prevShake 32 ++ fit next 32

/-- Knot hashes (R428). -/
def knotHash (f : Family) (k : List Byte) : List Byte := f.hash ([0x03] ++ k)

/-- Key pair digest (R430). -/
def pairDigest (pk1 pk2 : List Byte) : List Byte :=
  (sha256 ([0x04] ++ pk1 ++ pk2)).take 16 ++ shake256 ([0x04] ++ pk1 ++ pk2) 16

/-- LMS and LM-OTS types of a family (R426). -/
def sealTypes : Family → Nat × Nat
  | .sha256 => (0x08, 0x03)
  | .shake256 => (0x12, 0x0B)

/-- HSS public key of a pair in a family (R426): L, then the level-0 LMS public key. -/
def SealPair.pk (p : SealPair) (f : Family) : List Byte :=
  let body := match f with | .sha256 => (p.seed.take 48) | .shake256 => (p.seed.drop 48).take 48
  beBytes 2 4 ++ beBytes (sealTypes f).1 4 ++ beBytes (sealTypes f).2 4 ++ fit body 48

/-- The pair's digest. -/
def SealPair.digest (p : SealPair) : List Byte := pairDigest (p.pk .sha256) (p.pk .shake256)

/-- An HSS signature with L = 2 under leaf `q` (R425, R426): the fields the standard fixes, and the rest as the signer draws it
(`rnd`, 5,680 bytes). -/
def hssSignature (f : Family) (q : Nat) (rnd : List Byte) : List Byte :=
  let (lms, ots) := sealTypes f
  let part (q a : Nat) : List Byte :=
    beBytes q 4 ++ beBytes ots 4 ++ slice rnd a (a + 2176) ++ beBytes lms 4 ++ slice rnd (a + 2176) (a + 2816)
  beBytes 1 4 ++ part (q / 2 ^ 20) 0 ++ (beBytes lms 4 ++ beBytes ots 4 ++ slice rnd 2816 2864) ++ part (q % 2 ^ 20) 2864

/-- The HSS index of a signature (R426). -/
def leafOf (sig : List Byte) : Nat := bfld sig 4 4 * 2 ^ 20 + bfld sig (4 + 2828 + 56) 4

/-- A knot record (R425). -/
def knotRecord (body sig1 sig2 : List Byte) : List Byte :=
  body ++ beBytes sig1.length 4 ++ sig1 ++ beBytes sig2.length 4 ++ sig2

/-- An export item (R438). -/
def exportItem (type : Nat) (content : List Byte) : List Byte := beBytes type 2 ++ pad 2 ++ beBytes content.length 4 ++ content

/-- An export stream of whole items that fit into `space`; true when some were left out (R437, R438). -/
def exportStream (items : List (List Byte)) (space : Nat) : List Byte × Bool :=
  let taken := items.foldl (fun (acc : List (List Byte) × Nat × Bool) it =>
    if !acc.2.2 && decide (acc.2.1 + it.length ≤ space) then (acc.1 ++ [it], acc.2.1 + it.length, false) else (acc.1, acc.2.1, true)) ([], 16, false)
  (beBytes 0x4E525345 4 ++ [1] ++ pad 3 ++ beBytes taken.1.length 4 ++ pad 4 ++ taken.1.flatten, taken.2.2)

/-! ## Erasure coding (R483) -/

/-- Power in GF(2^8). -/
def gf8Pow (a : Byte) : Nat → Byte
  | 0 => 1
  | n + 1 => gf8 a (gf8Pow a n)

/-- Inverse in GF(2^8): the 254th power. -/
def gf8Inv (a : Byte) : Byte := gf8Pow a 254

/-- Coefficient g(j, i) of parity strip j for data strip i (R483). -/
def cauchy (m j i : Nat) : Byte := gf8Inv (BitVec.ofNat 8 (j ^^^ (m + i)))

/-- A strip times a coefficient. -/
def scaleStrip (c : Byte) (s : List Byte) : List Byte := s.map (gf8 c)

/-- Strip size for L bytes over k data strips (R483). -/
def stripSize (k len : Nat) : Nat := 4096 * ((len + 4096 * k - 1) / (4096 * k))

/-- Data strips of a ciphertext. -/
def dataStrips (k : Nat) (ct : List Byte) : List (List Byte) :=
  let n := stripSize k ct.length
  (List.range k).map fun i => fit ((ct.drop (i * n)).take n) n

/-- All strips: k data strips, then m parity strips. -/
def strips (k m : Nat) (ct : List Byte) : List (List Byte) :=
  let ds := dataStrips k ct
  let n := stripSize k ct.length
  ds ++ (List.range m).map fun j =>
    (List.zip (List.range k) ds).foldl (fun acc d => xorBytes acc (scaleStrip (cauchy m j d.1) d.2)) (pad n)

/-- Row of the coding matrix for strip `s`: unit rows, then the Cauchy rows. -/
def codeRow (k m s : Nat) : List Byte :=
  (List.range k).map fun i => if s < k then (if i = s then 1 else 0) else cauchy m (s - k) i

/-- Combine a row and its strip with a multiple of another. -/
def addRow (c : Byte) (a b : List Byte × List Byte) : List Byte × List Byte :=
  (xorBytes a.1 (scaleStrip c b.1), xorBytes a.2 (scaleStrip c b.2))

/-- Gauss-Jordan elimination in column `c`: bring a row with a nonzero entry to place `c`, scale it, clear the others. -/
def eliminate (rows : List (List Byte × List Byte)) (c : Nat) : List (List Byte × List Byte) :=
  match (rows.drop c).findIdx? fun r => decide (byteAt r.1 c ≠ 0) with
  | none => rows
  | some i =>
    let p := rows.getD (c + i) ([], [])
    let inv := gf8Inv (byteAt p.1 c)
    let p := (scaleStrip inv p.1, scaleStrip inv p.2)
    let rest := rows.eraseIdx (c + i)
    let rest := rest.map fun r => addRow (byteAt r.1 c) r p
    rest.take c ++ [p] ++ rest.drop c

/-- The ciphertext of `len` bytes from at least k strips (strip number, bytes); none with fewer. -/
def reconstruct (k m len : Nat) (have' : List (Nat × List Byte)) : Option (List Byte) :=
  if have'.length < k then none
  else
    let rows := (have'.take k).map fun h => (codeRow k m h.1, h.2)
    let rows := (List.range k).foldl eliminate rows
    some (((rows.map fun r => r.2).flatten).take len)

/-! ## Extent map entries, journal items and blocks (R490, R494, R495) -/

/-- An extent map entry (R490). -/
def Extent.bytes (e : Extent) : List Byte :=
  e.ident ++ leBytes e.blocks 4 ++ leBytes e.gen 2 ++
    leBytes (if e.damaged = 1 then 0x8000 else if e.damaged = 2 then 0x4000 else 0) 2 ++ leBytes e.group 1 ++ pad 3 ++
    leBytes e.missing 4 ++ leBytes e.mlba 8 ++ leBytes e.inv 8 ++ fit e.tag 16 ++ fit e.sha 32 ++ fit e.sha3 32

/-- Header of a journal item (R495). -/
def itemHeader (kind : Nat) (e : JEntry) (len id : Nat) (ident : List Byte) : List Byte :=
  leBytes kind 1 ++ leBytes e.op 1 ++ leBytes len 2 ++ leBytes e.room 2 ++ leBytes e.vol 2 ++ leBytes id 8 ++ fit ident 16

/-- A journal entry that names nothing. -/
def JEntry.blank : JEntry :=
  ⟨0, 0, 0, 0, ⟨0, 0, 0, 0, 0, 0, 0, 0, 0, 0, 0, 0, [], [], [], 0, 0, 0, []⟩, none, 0, 0⟩

/-- Bytes of a journal item (R495). -/
def JItem.bytes : JItem → List Byte
  | .start e =>
    itemHeader 1 e 128 e.id e.ext.ident ++ leBytes e.ext.blocks 4 ++ leBytes e.ext.gen 2 ++ leBytes e.ext.group 1 ++ [0] ++
      leBytes e.ext.mlba 8 ++ leBytes e.ext.inv 8 ++ fit e.ext.tag 16 ++ leBytes (e.super.getD (2 ^ 64 - 1)) 8 ++ leBytes e.source 4 ++
      leBytes e.index 2 ++ pad 2 ++ pad 40
  | .complete e epoch place rs =>
    let len := if rs.length ≤ 1 then 160 else 256
    itemHeader 2 e len e.id e.ext.ident ++ fit (leBytes epoch 8 ++ leBytes place 6 ++ leBytes rs.length 2 ++ rs.flatten) (len - 32)
  | .abandon e => itemHeader 3 e 32 e.id e.ext.ident
  | .release id => itemHeader 4 JEntry.blank 32 id []

/-- Bytes of a journal block (R494), with its CRC. -/
def blockBytes (seq : Nat) (jid : List Byte) (items : List JItem) (t : Time) : List Byte :=
  let body := (items.map JItem.bytes).flatten
  let n := (64 + body.length + 4095) / 4096
  let mk (crc : Nat) : List Byte := fit (leBytes 0x4A524E4C 4 ++ leBytes 1 2 ++ leBytes n 2 ++ leBytes seq 8 ++ fit jid 16 ++
    leBytes items.length 2 ++ pad 2 ++ leBytes crc 4 ++ t.bytes ++ pad 8 ++ body) (4096 * n)
  mk (crc32c 0xFFFFFFFF (mk 0)).toNat

end Sys2Proof.Machine
end

