-- ==== Sys2Proof/Machine/Rope.lean ====
section
/-!
DEFINITION. The seal rope: places, epochs, knots (R419 to R436).
-/

namespace Sys2Proof.Machine

/-! ## Places (R419, R422) -/

/-- Change the rope. -/
def State.setRope (s : State) (r : Rope) : State := { s with store := { s.store with rope := r } }

/-- Signing has stopped for want of leaves, and no next pair exists (R383). -/
def State.signStopped (s : State) : Bool := s.sr.sealStopped && s.sr.sealNext.isNone

/-- The open epoch may close now (R422, R432, R433). -/
def State.canClose (s : State) : Bool :=
  !s.sr.dipFrozen && !s.signStopped && decide (s.sr.debugLevel ≠ 2) && decide (s.store.rope.closed.length < 2)

/-- A new epoch that opens at `t`. -/
def Epoch.start (number kind flags : Nat) (t : Time) : Epoch :=
  ⟨number, kind, flags, t, none, 0, 0, false, 0, 0, [], [], [], [], [], 0, false, false, []⟩

/-- Open the next epoch at `t` (R432); one opened during a dip carries DIP. -/
def State.openEpoch (s : State) (t : Time) : State :=
  let r := s.store.rope
  s.setRope { r with opened := some (Epoch.start r.number r.kind (if s.sr.dipFrozen then 2 else 0) t)
                     number := r.number + 1, kind := 2, next := .storageOpen, paused := false, extended := false }

/-- Close the open epoch at `t` with flags (R432); `next` says when the next one opens. P in force is given. -/
def State.closeEpoch (s : State) (t : Time) (flags periodUs : Nat) (next : NextOpen) : State :=
  let r := s.store.rope
  match r.opened with
  | none => s
  | some e =>
    let e := { e with flags := e.flags ||| flags, close := some t, periodUs := periodUs }
    let s := s.setRope { r with opened := none, closed := r.closed ++ [e], lastClose := t, next := next, extended := false
                                paused := bit flags 4 }
    let s := if bit flags 3 then s.bump R.SEAL_FULL_CLOSE else s
    if bit e.flags 0 then s.bump R.SEAL_RESET_CLOSE else s

/-- Close the open epoch and open the next at the same instant. -/
def State.turnEpoch (s : State) (t : Time) (flags : Nat) : State := (s.closeEpoch t flags s.time.periodUs .storageOpen).openEpoch t

/-- Places an epoch has (R422). -/
def epochPlaces : Nat := 1048576

/-- Close an epoch whose places are used up, when it can close (R422). -/
def State.closeFull (s : State) : State :=
  match s.store.rope.opened with
  | some e => if e.next ≥ epochPlaces ∧ s.canClose then s.turnEpoch s.now 8 else s
  | none => s

/-- Take `n` consecutive places in the open epoch (R419, R459): epoch and first sequence; none when it has none left now
(R422), or the share of sweeps and batches is used up (R452). -/
def State.takePlace (s : State) (n : Nat) (maint : Bool) : Option (Nat × Nat × State) :=
  let s := s.closeFull
  match s.store.rope.opened with
  | none => none
  | some e =>
    if e.next + n > epochPlaces ∨ (maint ∧ e.maint + n > 262144) then none
    else
      let e' := { e with next := e.next + n, maint := e.maint + (if maint then n else 0)
                         held := e.held ++ (List.range n).map fun i => e.next + i }
      some (e.number, e.next, (s.setRope { s.store.rope with opened := some e' }).closeFull)

/-- Change an epoch that is open or closed. -/
def Rope.modify (r : Rope) (n : Nat) (f : Epoch → Epoch) : Rope :=
  { r with opened := r.opened.map fun e => if e.number = n then f e else e
           closed := r.closed.map fun e => if e.number = n then f e else e }

/-- Both journal drives confirmed a place: it holds its record (R419). -/
def State.confirmPlaces (s : State) (epoch place : Nat) (rs : List (List Byte)) : State :=
  let items := (List.zip (List.range rs.length) rs).map fun x => (place + x.1, withSeq x.2 (place + x.1))
  s.setRope (s.store.rope.modify epoch fun e =>
    { e with held := e.held.filter fun p => decide (p < place ∨ place + rs.length ≤ p), arrived := e.arrived ++ items })

/-- A failed write releases its places (R419). -/
def State.releasePlaces (s : State) (epoch place n : Nat) : State :=
  s.setRope (s.store.rope.modify epoch fun e => { e with held := e.held.filter fun p => decide (p < place ∨ place + n ≤ p) })

/-- Insert a record into a log in sequence order. -/
def insertRecord (x : Nat × List Byte) : List (Nat × List Byte) → List (Nat × List Byte)
  | [] => [x]
  | y :: ys => if x.1 < y.1 then x :: y :: ys else y :: insertRecord x ys

/-- Fold the records that arrived in an epoch into its log and frontiers (R420). -/
def Epoch.fold (e : Epoch) : Epoch := { e with log := e.arrived.foldl (fun l x => insertRecord x l) e.log, arrived := [] }

/-! ## Boundaries (R432, R433) -/

/-- What the seal threads do at a period boundary; `periodUs` is the P that was in force. -/
def State.ropeBoundary (s : State) (t : Time) (periodUs : Nat) : State :=
  let r := s.store.rope
  match r.opened with
  | none => if r.held ∧ r.next = .boundary ∧ s.power.ladder ≤ 2 then s.openEpoch t else s
  | some e =>
    if s.canClose then (s.closeEpoch t 0 periodUs .storageOpen).openEpoch t
    else
      let e := { e with skipped := e.skipped + 1, dipSkip := e.dipSkip || s.sr.dipFrozen }
      (s.setRope { r with opened := some e, extended := true }).bump R.SEAL_EXTENDED

/-- Set DIP in a knot body that is complete and unsigned (R433). -/
def bodyDip (b : List Byte) : List Byte := if b = [] then b else b.take 6 ++ beBytes (bfld b 6 2 ||| 2) 2 ++ b.drop 8

/-- A dip begins: every epoch that is open or unsigned carries DIP (R424, R433). -/
def State.ropeDip (s : State) : State :=
  let mark (e : Epoch) : Epoch := if e.knot = [] then { e with flags := e.flags ||| 2, body := bodyDip e.body } else e
  s.setRope { s.store.rope with opened := s.store.rope.opened.map mark, closed := s.store.rope.closed.map mark }

/-- The dip ends: the open epoch closes at once when a boundary passed meanwhile (R433). -/
def State.ropeRecover (s : State) : State :=
  match s.store.rope.opened with
  | some e => if e.dipSkip ∧ s.canClose then s.turnEpoch s.now 2 else s
  | none => s

/-! ## Knots (R421 to R430) -/

/-- NEXT_KEYS of a knot record. -/
def nextKeysOf (k : List Byte) : List Byte := slice k 0xE0 0x100

/-- The pair that signs the next knot (R383): the next pair takes over near the end of the current one, or once signing has
stopped. None when no pair can sign. -/
def State.choosePair (s : State) : Option SealPair × State :=
  match s.sr.sealCur, s.sr.sealNext with
  | some c, some n =>
    if c.leaf ≥ sealLeaves - 2 ^ 20 ∨ s.sr.sealStopped then
      (some n, { s with sr := { s.sr with sealCur := some n, sealNext := none, sealStopped := false } })
    else (some c, s)
  | some c, none =>
    if c.leaf ≥ sealLeaves then (none, { s with sr := { s.sr with sealStopped := true } }) else (some c, s)
  | none, _ => (none, s)

/-- Key flags of a knot (R424, R429): the first knot of a pair links to the knot before it, or does not. -/
def Rope.keyFlags (r : Rope) (p : SealPair) (kind : Nat) : Nat :=
  let same : Bool := match r.pairs.getLast? with
    | some x => decide (x.2.1 = p.pk .sha256) && decide (x.2.2 = p.pk .shake256)
    | none => false
  if kind = 1 ∨ same then 0 else if nextKeysOf r.prev = p.digest then 0x20 else 0x40

/-- The oldest closed epoch without a body, when none of its places is pending (R421) and the knot before it is signed. -/
def Rope.toBuild (r : Rope) : Option Epoch :=
  match r.closed.find? fun e => decide (e.knot = []) with
  | some e => if e.body = [] ∧ e.held = [] ∧ e.arrived = [] then some e else none
  | none => none

/-- Build the body of a closed epoch (R423, R424, R429). -/
def State.buildBody (s : State) (e : Epoch) : State :=
  match s.choosePair with
  | (none, s) => s
  | (some p, s) =>
    let r := s.store.rope
    let flags := e.flags ||| r.keyFlags p e.kind
    let next := if e.nextKeys ≠ [] then e.nextKeys else match s.sr.sealNext with
      | some n => n.digest
      | none => pad 32
    let recs := e.log.map fun x => x.2
    let prev (f : Family) : List Byte := if e.kind = 1 then pad 32 else knotHash f r.prev
    let body := knotBody e.kind flags e.number s.sr.fuses.serial r.id e.openTime (e.close.getD e.openTime) e.periodUs e.skipped
      recs.length p.leaf (merkleRoot .sha256 recs) (merkleRoot .shake256 recs) (prev .sha256) (prev .shake256) next
    s.setRope (r.modify e.number fun x => { x with body := body, flags := flags })

/-- EPOCH_CLOSE (R421, R424): the seal threads build the next body. -/
def execEpochClose (s : State) : Res :=
  match s.store.rope.toBuild with
  | some e => .next (s.buildBody e)
  | none => .next s

/-- PLACE_CONFIRM (R420): records whose places are confirmed enter the epoch log and both frontiers. -/
def execPlaceConfirm (s : State) : Res :=
  .next (s.setRope { s.store.rope with opened := s.store.rope.opened.map Epoch.fold, closed := s.store.rope.closed.map Epoch.fold })

/-- First block of a knot's slot in the knot ring (R493). -/
def knotSlot (epoch : Nat) : Nat := 67584 + 3 * (epoch % 65536)

/-- Write a knot record to both journal drives (R434, R436). -/
def State.submitKnot (s : State) (e : Epoch) : State :=
  let (s, n) := s.journalDrives.foldl (fun (acc : State × Nat) d =>
    let (s, k) := acc.1.transfer d.1 (fun _ => .knot e.number) true (knotSlot e.number) 12288 (fit e.knot 12288)
    (s, acc.2 + k)) (s, 0)
  s.setRope (s.store.rope.modify e.number fun x => { x with writes := n, submitted := true, failed := false })

/-- Submit the signed knots that still wait for a journal with both drives, in epoch order. -/
def State.submitKnots (s : State) : State :=
  if !s.journalUp then s
  else (s.store.rope.closed.filter fun e => decide (e.knot ≠ []) && (!e.submitted || e.failed)).foldl State.submitKnot s

/-- Reserve leaves before signing with one (R382). -/
def State.reserveLeaf (s : State) (p : SealPair) : SealPair × State :=
  if p.leaf ≥ p.mark then ({ p with mark := (p.leaf / 1024 + 1) * 1024 }, s.bump R.SR_LEAF_BLOCKS) else (p, s)

/-- Note the pair that signs an epoch's knot, once for a run of epochs. -/
def notePair (pairs : List (Nat × List Byte × List Byte)) (n : Nat) (pair : List Byte × List Byte) : List (Nat × List Byte × List Byte) :=
  if pairs.getLast?.any (fun x => decide (x.2 = pair)) then pairs else pairs ++ [(n, pair)]

/-- KNOT_SIGN (R382, R427): the strongroom signs the oldest unsigned body with one leaf of both keys, and the knot record goes
to the journal drives. A frozen eMRAM defers it (R384); at debug level 2 only the knot flagged DEBUG is signed (R385). -/
def execKnotSign (s : State) : Res :=
  match s.store.rope.closed.find? fun e => decide (e.knot = []), s.sr.sealCur with
  | some e, some p =>
    if e.body = [] ∨ s.sr.dipFrozen ∨ (s.sr.debugLevel = 2 ∧ !bit e.flags 2) then .next s
    else
      let (p, s) := s.reserveLeaf p
      let q := p.leaf
      let r1 := s.secretBytes 5680
      let r2 := r1.2.secretBytes 5680
      let knot := knotRecord e.body (hssSignature .sha256 q r1.1) (hssSignature .shake256 q r2.1)
      let s := { r2.2 with sr := { r2.2.sr with sealCur := some { p with leaf := q + 1 } } }
      let r := s.store.rope
      let pair := (p.pk .sha256, p.pk .shake256)
      let pairs := notePair r.pairs e.number pair
      .next (s.setRope { r.modify e.number (fun x => { x with knot := knot }) with prev := knot, pairs := pairs }).submitKnots
  | _, _ => .next s

/-- The oldest closed epoch, once both journal drives have confirmed its knot (R434, R435). -/
def Rope.toPublish (r : Rope) : Option Epoch :=
  match r.closed with
  | e :: _ => if e.knot ≠ [] ∧ e.submitted ∧ !e.failed ∧ e.writes = 0 then some e else none
  | [] => none

/-- Publish a knot (R434, R436): it enters the knot store, the counters count it and the KNOT event is posted. -/
def State.publishKnot (s : State) (e : Epoch) : State :=
  let r := s.store.rope
  let s := s.setRope { r with closed := r.closed.drop 1, knots := r.knots ++ [⟨e.number, e.knot, e.log, false⟩], lastPub := some e.number }
  let s := s.bump R.SEAL_KNOTS
  let s := if bit e.flags 1 then s.bump R.SEAL_DIP_KNOTS else s
  s.postOwner 8 (e.number % 2 ^ 32) (e.number / 2 ^ 32)

/-- `SEAL.STATUS` (R447). A dip defers the signing as it begins (R384, step 4). -/
def State.sealStatus (s : State) (waiting : Bool) : Nat :=
  let r := s.store.rope
  let deferred := s.sr.dipFrozen && r.held
  b01 r.handed * 128 + b01 r.paused * 64 + b01 r.extended * 32 + b01 waiting * 16 + b01 deferred * 8 + b01 r.opened.isSome * 2 + b01 r.held

/-- Places assigned in the open epoch. -/
def State.placesTaken (s : State) : Nat := match s.store.rope.opened with | some e => e.next | none => 0

/-- `SEAL.EPOCH`: the number of the open epoch; with none open, the last one that was (DEDUCED, log entry 32). -/
def State.openNumber (s : State) : Nat := match s.store.rope.opened with | some e => e.number | none => s.store.rope.number - 1

/-- `SEAL.LAST_PUBLISHED`. -/
def State.lastPublished (s : State) : Nat := s.store.rope.lastPub.getD (2 ^ 64 - 1)

end Sys2Proof.Machine
end

