-- ==== Sys2Proof/Machine/Tiles.lean ====
section
/-!
DEFINITION. Cipher and digest tiles: requests, bursts, leases and responses (R389 to R409), and the strongroom's side of
leases and schedules (R368, R371).
-/

namespace Sys2Proof.Machine

/-! ## Request fields (R392, R395) -/

/-- CTRL of a request. -/
def TileReq.ctrl (r : TileReq) : Nat := fld r.msg 0x21 1
/-- OP of a request. -/
def TileReq.op (r : TileReq) : Nat := fld r.msg 0x20 1
/-- BLOCKS of a cipher request. -/
def TileReq.blocks (r : TileReq) : Nat := fld r.msg 0x22 2
/-- KEY_REF. -/
def TileReq.keyRef (r : TileReq) : Nat := fld r.msg 0x28 8
/-- ROOM of the header. -/
def TileReq.room (r : TileReq) : Nat := fld r.msg 0x0A 2
/-- RATE in bytes. -/
def TileReq.rate (r : TileReq) : Nat := 8 * fld r.msg 0x22 1
/-- LENGTH of a digest request. -/
def TileReq.len (r : TileReq) : Nat := fld r.msg 0x28 4
/-- The request is for decrypt-use. -/
def TileReq.decrypt (r : TileReq) : Bool := bit r.ctrl 7
/-- IN_MODE. -/
def TileReq.inMode (r : TileReq) : Nat := bits r.ctrl 5 4
/-- The request's op is a cipher tile's. -/
def TileReq.cipher (r : TileReq) : Bool := decide (1 ≤ r.op ∧ r.op ≤ 3)
/-- The request's op is a digest tile's. -/
def TileReq.digest (r : TileReq) : Bool := decide (0x11 ≤ r.op ∧ r.op ≤ 0x15)

/-- A cipher request in the form of R392 and R393, `beats` long. -/
def TileReq.cipherOk (r : TileReq) (beats : Nat) : Bool :=
  let m := r.msg
  let b := r.blocks
  let inMem := decide (r.inMode = 1)
  let outMem := !bit r.ctrl 1
  let al (on : Bool) (off : Nat) : Bool := !on || (decide (fld m off 8 % 16 = 0) && decide (0x40000000 ≤ fld m off 8))
  !bit r.ctrl 0 && decide (r.inMode ≠ 2) && decide (1 ≤ b ∧ b ≤ 256) && zeros m 0x60 32 &&
    (!(decide (r.inMode = 0) || bit r.ctrl 1) || decide (b ≤ 64)) && (decide (r.op ≠ 3) || decide (b = 1)) &&
    decide (r.keyRef < 2 ^ 40) && decide (refKeyKind r.keyRef ≤ 2) &&
    decide (beats = if r.inMode = 0 then 2 + (b + 3) / 4 else 2) &&
    (decide (r.op = 3) || (al inMem 0x40 && al (bit r.ctrl 3) 0x48 && al (bit r.ctrl 2) 0x50 && al outMem 0x58))

/-- A digest request in the form of R395, `beats` long. -/
def TileReq.digestOk (r : TileReq) (beats : Nat) : Bool :=
  let n := r.len
  let inline' := bit r.ctrl 5
  let unit := match r.op with | 0x11 | 0x15 => 64 | 0x12 => 128 | 0x13 => r.rate | _ => 1
  decide (r.ctrl % 32 = 0) && zeros r.msg 0x23 1 && zeros r.msg 0x2C 4 && zeros r.msg 0x38 8 && zeros r.msg 0x58 40 &&
    (decide (r.op = 0x11 ∨ r.op = 0x12) || decide (72 ≤ r.rate ∧ r.rate ≤ 168)) && decide (n % unit = 0) && decide (n ≤ 2 ^ 24) &&
    (decide (r.op ≠ 0x14) || (decide (1 ≤ n ∧ n ≤ 4096) && !inline')) && (!inline' || decide (n ≤ 3968)) &&
    decide (beats = if inline' then 2 + (n + 63) / 64 else 2)

/-- A request that keeps R392, R393 and R395 and names an operation of its tile's kind (R396). -/
def TileReq.ok (r : TileReq) (tile beats : Nat) : Bool :=
  decide (fld r.msg 0 2 = 4) && (if tile < 32 then r.cipher && r.cipherOk beats else r.digest && r.digestOk beats)

/-- A range lies in a region of the writing thread (R393, R522). -/
def State.rangeOk (s : State) (t a n : Nat) (write : Bool) : Bool :=
  decide (n = 0) ||
    match s.regionOf a with
    | some g => decide (s.regionOf (a + n - 1) = some g) && s.regionOk t a n g write
    | none => false

/-- Every operand and result of a request lies in the writer's regions. -/
def State.rangesOk (s : State) (r : TileReq) : Bool :=
  let m := r.msg
  let ok (on : Bool) (off n : Nat) (write : Bool) : Bool := !on || s.rangeOk r.thread (fld m off 8) n write
  if r.cipher then
    let n := 16 * r.blocks
    decide (r.op = 3) || (ok (decide (r.inMode = 1)) 0x40 n false && ok (bit r.ctrl 3) 0x48 n false && ok (bit r.ctrl 2) 0x50 n false &&
      ok (!bit r.ctrl 1) 0x58 n true)
  else
    let sha := decide (r.op = 0x11 ∨ r.op = 0x12 ∨ r.op = 0x15)
    let kec := decide (0x13 ≤ r.op)
    let shaLen := if r.op = 0x12 then 64 else 32
    ok (decide (r.op ≠ 0x14) && !bit r.ctrl 5) 0x30 r.len false && ok (sha && !bit r.ctrl 7) 0x40 shaLen false && ok sha 0x40 shaLen true &&
      ok (kec && !bit r.ctrl 6) 0x48 200 false && ok kec 0x48 200 true && ok (decide (r.op = 0x14)) 0x50 r.len true

/-- The owner of a key that a reference names: a room, or 0xFFFF; none when there is no such key. -/
def State.keyOwner (s : State) (ref : Nat) : Option Nat :=
  match refKeyKind ref with
  | 0 => if (s.domain (refKeySlot ref)).state = 1 then some (s.domain (refKeySlot ref)).room else none
  | 1 => (s.session (refKeySlot ref)).map fun k => k.room
  | _ => if refKeySlot ref < 1024 then some (refKeySlot ref) else none

/-- The check of R403; a key that does not exist is found absent later. -/
def State.keyPermitted (s : State) (r : TileReq) : Bool :=
  let kind := refKeyKind r.keyRef
  let annex := s.isAnnex r.thread
  (match s.keyOwner r.keyRef with
    | none => true
    | some o => decide (r.room = o) && (!annex || (decide (kind ≠ 2) && decide (o = 0xFFFF)))) &&
    (!bit r.ctrl 6 || (decide (kind ≠ 1) && !r.decrypt))

/-- The key that a reference names: none for no such key, generation or slot, or a locked vault. -/
def State.keyBytes (s : State) (ref : Nat) : Option (List Byte) :=
  let slot := refKeySlot ref
  let gen := refKeyGen ref
  match refKeyKind ref with
  | 0 =>
    let v := s.domain slot
    if !s.vaultServes ∨ v.state ≠ 1 ∨ gen = 0 then none
    else if gen = v.cur then some v.keyCur
    else if gen = v.prev then some v.keyPrev
    else none
  | 1 =>
    match s.session slot with
    | some k => if gen = 0 ∧ !s.sr.vaultLocked ∧ k.key.length ≤ 32 then some k.key else none
    | none => none
  | _ => if gen = 0 ∧ slot < 1024 ∧ !s.sr.vaultLocked then some (leBytes (Config.secret (s.sr.contextBase + slot)).toNat 32) else none

/-! ## Responses (R396, R401) -/

/-- Pad bytes to whole beats. -/
def toBeats (bs : List Byte) : List Vec := (List.range ((bs.length + 63) / 64)).map fun i => Vec.ofBytes ((bs.drop (64 * i)).take 64)

/-- The response message of a request. -/
def TileReq.response (r : TileReq) (tile result : Nat) : List Vec :=
  let body := if r.cipher then (if bit r.ctrl 1 then r.outs else []) else if r.op = 0x11 ∨ r.op = 0x12 then r.sha else []
  let bytes := leBytes 5 2 ++ pad 6 ++ leBytes (fld r.msg 8 2) 2 ++ leBytes r.room 2 ++ pad 4 ++ leBytes 0xFFFFFFFF 4 ++ pad 12 ++
    leBytes result 1 ++ leBytes tile 1 ++ leBytes r.done 2 ++ leBytes (fld r.msg 0x24 4) 4 ++
    leBytes (if r.digest then r.done else r.inv) 8 ++ fit r.nonce 12 ++ leBytes (if r.op = 0x15 then r.kdone * r.rate else 0) 4 ++ body
  toBeats bytes

/-- Deliver a response, or keep it when the home line has no room or earlier ones of the thread wait. -/
def State.respond (s : State) (tile t : Nat) (beats : List Vec) : State :=
  let x := s.tile tile
  let keep := s.setTile tile { x with responses := x.responses ++ [(t, beats)] }
  if x.responses.any (fun r => decide (r.1 = t)) then keep
  else match s.unitMessage (0x100 + tile) t beats with
    | (s, true) => s
    | (_, false) => keep

/-- Counter of a result. -/
def State.countResult (s : State) (result : Nat) : State :=
  match result with
  | 1 => s.bump R.TILE_BAD_REQUEST
  | 2 | 3 => s.bump R.TILE_KEY_REFUSED
  | 4 => s.bump R.TILE_EXHAUSTED
  | 5 => s.bump R.TILE_MEM_ERROR
  | _ => s

/-- A request ends with a result: it leaves the tile and its response goes out. -/
def State.endRequest (s : State) (tile : Nat) (r : TileReq) (result : Nat) : State :=
  let x := s.tile tile
  let s := s.setTile tile { x with held := x.held.filter fun q => decide (q.thread ≠ r.thread ∨ q.msg ≠ r.msg) }
  (s.countResult result).respond tile r.thread (r.response tile result)

/-- Replace a held request. -/
def State.setRequest (s : State) (tile : Nat) (old new : TileReq) : State :=
  let x := s.tile tile
  s.setTile tile { x with held := x.held.map fun q => if q = old then new else q }

/-! ## Taking requests (R396, R399, R403) -/

/-- The request that a line message carries. -/
def TileReq.ofBeats (beats : List Vec) : TileReq :=
  let m := (beats.map Vec.bytes).flatten
  { thread := fld m 4 2 % 2 ^ 15, msg := m, wait := .ready, done := 0, kdone := 0, inv := 0, nonce := [], sha := [], kec := [], outs := [] }

/-- The tile takes requests (R409, R416). -/
def State.tileReady (s : State) (tile : Nat) : Bool := s.cores.lhReady && !(s.tile tile).restarting

/-- The tile takes the oldest message of its line when that is a request of operation `op`, or one whose operation no tile has;
it holds up to 64 requests, 32 of one cluster. -/
def State.takeRequest (s : State) (tile op : Nat) : State :=
  let n := 2056 + tile
  match (s.line n).queue with
  | [] => s
  | beats :: rest =>
    let r := TileReq.ofBeats beats
    let x := s.tile tile
    if !s.tileReady tile ∨ (r.op ≠ op ∧ (r.cipher ∨ r.digest)) then s
    else
      let s' := s.setLine n { s.line n with queue := rest }
      let refuse (result : Nat) : State := (s'.countResult result).respond tile r.thread (r.response tile result)
      if x.held.length ≥ 64 ∨ (x.held.filter fun q => decide (clusterOf q.thread = clusterOf r.thread)).length ≥ 32 then s
      else if !r.ok tile beats.length then refuse 1
      else if !s.rangesOk r ∨ (r.cipher ∧ !s.keyPermitted r) then refuse 2
      else s'.setTile tile { x with held := x.held ++ [r] }

/-- AES_FWD (R392, R393): tile `tile` takes a request for the forward cipher. Its bursts are TILE_BURST's. -/
def execAesFwd (tile : Fin 40) (s : State) : Res := .next (s.takeRequest tile.val 0x01)
/-- AES_INV (R392, R393): the tile takes a request for the inverse cipher. -/
def execAesInv (tile : Fin 40) (s : State) : Res := .next (s.takeRequest tile.val 0x02)
/-- KEY_PREFETCH (R394): the tile takes a request for a key schedule and a lease. -/
def execKeyPrefetch (tile : Fin 40) (s : State) : Res := .next (s.takeRequest tile.val 0x03)
/-- DIGEST_SHA256 (R395). -/
def execDigestSha256 (tile : Fin 40) (s : State) : Res := .next (s.takeRequest tile.val 0x11)
/-- DIGEST_SHA512 (R395). -/
def execDigestSha512 (tile : Fin 40) (s : State) : Res := .next (s.takeRequest tile.val 0x12)
/-- KECCAK_ABSORB (R395). -/
def execKeccakAbsorb (tile : Fin 40) (s : State) : Res := .next (s.takeRequest tile.val 0x13)
/-- KECCAK_SQUEEZE (R395). -/
def execKeccakSqueeze (tile : Fin 40) (s : State) : Res := .next (s.takeRequest tile.val 0x14)
/-- DIGEST_DUAL (R395). -/
def execDigestDual (tile : Fin 40) (s : State) : Res := .next (s.takeRequest tile.val 0x15)

/-! ## Bursts (R400, R404 to R407) -/

/-- Work counter of a tile (R416). -/
def tileWork (tile : Nat) : Nat := 0x0904200 + 8 * tile

/-- A range reads an uncorrectable word. -/
def State.badRange (s : State) (t a n : Nat) : Bool := decide (n ≠ 0) && s.poisoned t a n

/-- One block of a cipher request (R393): none when an operand is uncorrectable, with the address at fault. -/
def State.cipherBlock (s : State) (r : TileReq) (key : List Byte) (i : Nat) : Except Nat (TileReq × State) :=
  let m := r.msg
  let at' (off : Nat) : Nat := fld m off 8 + 16 * i
  let operand (on : Bool) (off : Nat) : Except Nat (List Byte) :=
    if !on then .ok (pad 16)
    else if s.badRange r.thread (at' off) 16 then .error (at' off)
    else .ok (Memory.readBytes s.mem (at' off) 16)
  let input : Except Nat (List Byte) :=
    match r.inMode with
    | 0 => .ok ((m.drop (0x80 + 16 * i)).take 16)
    | 1 => operand true 0x40
    | _ => .ok (if bit r.ctrl 6 then r.nonce ++ slice m 0x3C 0x40 else slice m 0x30 0x40)
  match input, operand (bit r.ctrl 3) 0x48, operand (bit r.ctrl 2) 0x50 with
  | .ok x, .ok pre, .ok post =>
    let y := if r.op = 2 then aesDecrypt key (xorBytes x pre) else aesEncrypt key (xorBytes x pre)
    let out := xorBytes y post
    if bit r.ctrl 1 then .ok ({ r with done := r.done + 1, outs := r.outs ++ out }, s)
    else .ok ({ r with done := r.done + 1 }, s.storeBytes r.thread (at' 0x58) out)
  | .error a, _, _ => .error a
  | _, .error a, _ => .error a
  | _, _, .error a => .error a

/-- Up to `n` blocks; the third part is the address of an uncorrectable operand. -/
def State.cipherBurst (s : State) (r : TileReq) (key : List Byte) : Nat → TileReq × State × Option Nat
  | 0 => (r, s, none)
  | n + 1 =>
    match s.cipherBlock r key r.done with
    | .ok (r', s') => s'.cipherBurst r' key n
    | .error a => (r, s, some a)

/-- Data of a digest request from `a` to `b`; its address when uncorrectable. -/
def State.digestData (s : State) (r : TileReq) (a b : Nat) : Except Nat (List Byte) :=
  if bit r.ctrl 5 then .ok (slice r.msg (0x80 + a) (0x80 + b))
  else
    let p := fld r.msg 0x30 8 + a
    if s.badRange r.thread p (b - a) then .error p else .ok (Memory.readBytes s.mem p (b - a))

/-- Compress whole blocks into an encoded SHA state. -/
def shaOver (op : Nat) (st bs : List Byte) : List Byte :=
  if op = 0x12 then
    let w := (List.range 8).map fun i => BitVec.ofNat 64 (bfld st (8 * i) 8)
    shaBytes ((chunks 128 bs).foldl (shaCompress sha512Rot sha512K) w)
  else
    let w := (List.range 8).map fun i => BitVec.ofNat 32 (bfld st (4 * i) 4)
    shaBytes ((chunks 64 bs).foldl (shaCompress sha256Rot sha256K) w)

/-- The permutation on an encoded state. -/
def keccakPerm (st : List Byte) : List Byte := laneBytes (keccakF (lanesOf st))

/-- Squeeze `n` blocks of `rate` bytes: output and state. -/
def keccakOut (rate : Nat) (st : List Byte) : Nat → List Byte × List Byte
  | 0 => ([], st)
  | n + 1 =>
    let r := keccakOut rate (keccakPerm st) n
    (st.take rate ++ r.1, r.2)

/-- SHA blocks and Keccak blocks of a request in all. -/
def TileReq.units (r : TileReq) : Nat × Nat :=
  match r.op with
  | 0x11 => (r.len / 64, 0)
  | 0x12 => (r.len / 128, 0)
  | 0x13 => (0, r.len / r.rate)
  | 0x14 => (0, (r.len + r.rate - 1) / r.rate)
  | _ => (r.len / 64, r.len / r.rate)

/-- Blocks that DIGEST_DONE counts, and blocks of the Keccak engine: a request of one engine keeps its count in `done`. -/
def TileReq.position (r : TileReq) : Nat × Nat :=
  match r.op with
  | 0x13 | 0x14 => (0, r.done)
  | _ => (r.done, r.kdone)

/-- One burst of a digest request: up to 16 blocks per engine; an uncorrectable address ends it. -/
def State.digestBurst (s : State) (r : TileReq) : TileReq × State × Option Nat :=
  let (su, ku) := r.units
  let (sp, kp) := r.position
  let sn := min 16 (su - sp)
  let kn := min 16 (ku - kp)
  let sb := if r.op = 0x12 then 128 else 64
  match (if sn = 0 then .ok [] else s.digestData r (sb * sp) (sb * (sp + sn))),
        (if kn = 0 ∨ r.op = 0x14 then .ok [] else s.digestData r (r.rate * kp) (r.rate * (kp + kn))) with
  | .ok d, .ok k =>
    let sha := if sn = 0 then r.sha else shaOver r.op r.sha d
    if r.op = 0x14 then
      let o := keccakOut r.rate r.kec kn
      let at' := r.rate * kp
      let out := o.1.take (r.len - at')
      ({ r with kec := o.2, done := r.done + kn }, s.storeBytes r.thread (fld r.msg 0x50 8 + at') out, none)
    else
      let kec := if kn = 0 then r.kec else (chunks r.rate k).foldl keccakAbsorb r.kec
      let r := { r with sha := sha, kec := kec }
      (if r.op = 0x13 then { r with done := r.done + kn } else { r with done := r.done + sn, kdone := r.kdone + kn }, s, none)
  | .error a, _ => (r, s, some a)
  | _, .error a => (r, s, some a)

/-- Write a digest request's states back (R395). -/
def State.storeStates (s : State) (r : TileReq) : State :=
  let s := if r.sha = [] then s else s.storeBytes r.thread (fld r.msg 0x40 8) r.sha
  if r.kec = [] then s else s.storeBytes r.thread (fld r.msg 0x48 8) r.kec

/-- A tile's cache entry. -/
def Tile.key (x : Tile) (ref : Nat) : Option TileKey := x.keys.find? fun k => decide (k.ref = ref)

/-- Put an entry first in the cache; the least recently used that no held request uses makes room (R402). -/
def Tile.useKey (x : Tile) (k : TileKey) : Tile :=
  let rest := x.keys.filter fun e => decide (e.ref ≠ k.ref)
  let victim := (rest.filter fun e => !(x.held.any fun r => r.cipher && decide (r.keyRef = e.ref))).getLast?
  let rest := if rest.length < 64 then rest else match victim with
    | some v => rest.filter fun e => decide (e ≠ v)
    | none => rest.take 63
  { x with keys := k :: rest }

/-- The lease covers a burst (R404). -/
def Lease.covers (l : Lease) (decrypt : Bool) (blocks inv : Nat) : Bool :=
  decide (blocks ≤ l.blocks) && decide (inv ≤ l.inv) && (decrypt || l.encrypt)

/-- Draw the invocation of the first burst and form its nonce (R407). -/
def TileReq.draw (r : TileReq) (gen inv : Nat) : TileReq :=
  { r with inv := inv, nonce := beBytes gen 2 ++ pad 2 ++ beBytes inv 8 }

/-- Blocks of a cipher request's next burst; none for KEY_PREFETCH. -/
def TileReq.need (r : TileReq) : Nat := if r.op = 3 then 0 else min 16 (r.blocks - r.done)

/-- Invocations the next burst draws; KEY_PREFETCH has no burst (R394, R407). -/
def TileReq.needInv (r : TileReq) : Nat := if decide (r.op ≠ 3) && bit r.ctrl 6 && decide (r.done = 0) && decide (r.nonce = []) then 1 else 0

/-- What a tile does with the next burst of a request: the burst, or a wait for the schedule or for a lease. -/
def State.cipherStep (s : State) (tile : Nat) (r : TileReq) : Option State :=
  let x := s.tile tile
  match x.key r.keyRef with
  | none => none
  | some k =>
    let metered := decide (refKeyKind r.keyRef = 0)
    let ok := !metered || (match k.lease with
      | some l => l.covers r.decrypt r.need r.needInv
      | none => false)
    if !ok then none
    else
      let l := k.lease.getD ⟨true, 0, 0, 0⟩
      let drew := decide (r.needInv = 1)
      let inv := if metered then l.next else s.sr.contextInv
      let r1 := if drew then r.draw (if metered then refKeyGen r.keyRef else 0) inv else r
      let s := if drew && !metered then { s with sr := { s.sr with contextInv := s.sr.contextInv + 1 } } else s
      let k' := if metered then { k with lease := some { l with blocks := l.blocks - r.need, inv := l.inv - r.needInv, next := l.next + r.needInv } } else k
      let s := (s.setTile tile (x.useKey k')).setRequest tile r r1
      if r.op = 3 then some (s.endRequest tile r1 0)
      else
        match s.cipherBurst r1 k.key r.need with
        | (r2, s, bad) =>
          let s := (s.count64 (tileWork tile) (r2.done - r1.done)).setRequest tile r1 r2
          match bad with
          | some a => some ((s.noteUe a).endRequest tile r2 5)
          | none => some (if r2.done ≥ r2.blocks then s.endRequest tile r2 0 else s)

/-- The initial states of a digest request (R395): given by INIT_SHA and INIT_KECCAK, or read from its state addresses when the request begins, after
the earlier requests of its cluster; an uncorrectable address ends it. -/
def State.loadStates (s : State) (r : TileReq) : Except Nat TileReq :=
  let n := if r.op = 0x12 then 64 else 32
  let hasSha := decide (r.op = 0x11 ∨ r.op = 0x12 ∨ r.op = 0x15)
  let hasKec := decide (0x13 ≤ r.op)
  let read (want given : Bool) (first : List Byte) (a n : Nat) : Except Nat (List Byte) :=
    if !want then .ok [] else if given then .ok first
    else if s.badRange r.thread a n then .error a else .ok (Memory.readBytes s.mem a n)
  match read hasSha (bit r.ctrl 7) (if r.op = 0x12 then shaBytes sha512Init else shaBytes sha256Init) (fld r.msg 0x40 8) n,
        read hasKec (bit r.ctrl 6) (pad 200) (fld r.msg 0x48 8) 200 with
  | .ok sha, .ok kec => .ok { r with sha := sha, kec := kec }
  | .error a, _ => .error a
  | _, .error a => .error a

/-- The burst of a digest request that has its states. -/
def State.digestOn (s : State) (tile : Nat) (r : TileReq) : State :=
  match s.digestBurst r with
  | (r2, s, bad) =>
    let work := r2.done - r.done + (r2.kdone - r.kdone)
    let s := (s.count64 (tileWork tile) work).setRequest tile r r2
    match bad with
    | some a => ((s.storeStates r2).noteUe a).endRequest tile r2 5
    | none => if r2.position = r2.units then (s.storeStates r2).endRequest tile r2 0 else s

/-- A burst of a digest request: the first takes its states. -/
def State.digestStep (s : State) (tile : Nat) (r : TileReq) : State :=
  if r.sha = [] ∧ r.kec = [] then
    match s.loadStates r with
    | .ok r1 => (s.setRequest tile r r1).digestOn tile r1
    | .error a => (s.noteUe a).endRequest tile r 5
  else s.digestOn tile r

/-- Make a request wait: for its schedule, or for a lease, whose remainder the tile abandons (R404). -/
def State.awaitKey (s : State) (tile : Nat) (r : TileReq) : State :=
  let x := s.tile tile
  match x.key r.keyRef with
  | none => s.setRequest tile r { r with wait := .schedule }
  | some k =>
    let left := match k.lease with | some l => l.blocks | none => 0
    ((s.setTile tile (x.useKey { k with lease := none })).count R.TILE_LEASE_ABANDONED left).setRequest tile r { r with wait := .lease }

/-- The oldest request of a cluster, when the cluster may have a burst (R399, R401). -/
def Tile.oldest (x : Tile) (cluster : Nat) : Option TileReq :=
  if (x.responses.filter fun r => decide (clusterOf r.1 = cluster)).length ≥ 8 then none
  else match x.held.find? fun r => decide (clusterOf r.thread = cluster) with
    | some r => if r.wait = .ready then some r else none
    | none => none

/-- Grant one burst, trying the clusters in round robin from the tile's turn. -/
def State.grantBurst (s : State) (tile : Nat) : Nat → State
  | 0 => s
  | n + 1 =>
    let x := s.tile tile
    let c := x.turn
    let s' := s.setTile tile { x with turn := (c + 1) % 4 }
    match x.oldest c with
    | none => s'.grantBurst tile n
    | some r =>
      if r.digest then s'.digestStep tile r
      else match s'.cipherStep tile r with
        | some s'' => s''
        | none => (s'.awaitKey tile r).grantBurst tile n

/-- TILE_BURST (R400, R404). -/
def execTileBurst (tile : Fin 40) (s : State) : Res :=
  if s.tileReady tile.val then .next (s.grantBurst tile.val 4) else .next s

/-- TILE_RESPONSE_DELIVER (R401): kept responses whose home lines now have room, in order. -/
def execTileResponseDeliver (tile : Fin 40) (s : State) : Res :=
  let kept := (s.tile tile.val).responses
  .next (kept.foldl (fun s r => s.respond tile.val r.1 r.2) (s.setTile tile.val { s.tile tile.val with responses := [] }))

/-- The oldest held request that waits for `w`. -/
def Tile.waiter (x : Tile) (w : TileWait) : Option TileReq := x.held.find? fun r => decide (r.wait = w)

/-- KEY_SCHEDULE_LOAD (R368, R402): the strongroom gives a tile the schedule its oldest waiting request needs, or the request ends
with KEY_ABSENT. -/
def execKeyScheduleLoad (tile : Fin 40) (s : State) : Res :=
  let x := s.tile tile.val
  match x.waiter .schedule with
  | none => .next s
  | some r =>
    match s.keyBytes r.keyRef with
    | none => .next (s.endRequest tile.val r 3)
    | some key =>
      let s := if refKeyKind r.keyRef = 0 then s.cacheKey r.keyRef else s
      let s := s.setTile tile.val (x.useKey ⟨r.keyRef, key, none⟩)
      .next ((s.setRequest tile.val r { r with wait := .ready }).bump R.TILE_KEY_MISS)

/-- STRONGROOM_LEASE (R371, R404, R405): the lease that a tile's oldest waiting request needs. -/
def execStrongroomLease (tile : Fin 40) (s : State) : Res :=
  let x := s.tile tile.val
  match x.waiter .lease with
  | none => .next s
  | some r =>
    match s.lease (refKeySlot r.keyRef) (refKeyGen r.keyRef) (!r.decrypt) with
    | (.absent, s) => .next (s.endRequest tile.val r 3)
    | (.exhausted, s) => .next (s.endRequest tile.val r 4)
    | (.waits, s) => .next s
    | (.granted first inv blocks, s) =>
      match x.key r.keyRef with
      | none => .next (s.setRequest tile.val r { r with wait := .ready })
      | some k =>
        .next ((s.setTile tile.val (x.useKey { k with lease := some ⟨!r.decrypt, blocks, inv, first⟩ })).setRequest tile.val r { r with wait := .ready })

/-! ## Purges and faults (R376, R385, R402, R406, R409) -/

/-- Every tile drops the keys of which `f` holds, with their leases. -/
def State.purgeKeys (s : State) (f : Nat → Bool) : State :=
  { s with tiles := s.tiles.map fun e => (e.1, { e.2 with keys := e.2.keys.filter fun k => !f k.ref }) }

/-- Every tile drops a domain's keys (R376). -/
def State.purgeSlot (s : State) (slot : Nat) : State :=
  s.purgeKeys fun ref => decide (refKeyKind ref = 0) && decide (refKeySlot ref = slot)

/-- TILE_INTERNAL_ERROR (R409): every held request ends with TILE_FAULT, and the tile drops its keys and leases. -/
def execTileInternalError (tile : Fin 40) (s : State) : Res :=
  let n := tile.val
  if (s.tile n).restarting then .next s
  else
    let s := (s.tile n).held.foldl (fun s r => s.endRequest n r 6) s
    .next ((s.setTile n { s.tile n with keys := [], held := [], restarting := true }).bump R.TILE_FAULT)

/-- TILE_RESTART (R409): within 10 µs the tile takes requests again. -/
def execTileRestart (tile : Fin 40) (s : State) : Res :=
  .next (s.setTile tile.val { s.tile tile.val with restarting := false })

/-! ## Chaining state (R410, R411) -/

/-- AES-256-GCM under the context key of a room with a nonce of its per-boot counter (R407, R410), as nonce, ciphertext and tag (the order is the
firmware's: DESIGN CHOICE, log entry 90); none while the key does not serve. -/
def State.wrapState (s : State) (room : Nat) (aad st : List Byte) : Option (List Byte × State) :=
  (s.keyBytes (2 * 2 ^ 36 + room)).map fun key =>
    let nonce := pad 4 ++ beBytes s.sr.contextInv 8
    let e := gcmSeal key nonce aad st
    (nonce ++ e.1 ++ e.2, { s with sr := { s.sr with contextInv := s.sr.contextInv + 1 } })

/-- The state that was wrapped; none when its tag fails (R411). -/
def State.unwrapState (s : State) (room : Nat) (aad bs : List Byte) : Option (List Byte) :=
  (s.keyBytes (2 * 2 ^ 36 + room)).bind fun key => gcmOpen key (bs.take 12) aad (slice bs 12 (bs.length - 16)) (bs.drop (bs.length - 16))

/-- Additional data of a wrapped state: the room number in 2 bytes and the owning slot in 4 (R410; the widths: DESIGN CHOICE, log entry 90). -/
def chainAad (room slot : Nat) : List Byte := leBytes room 2 ++ leBytes slot 4

/-- Firmware writes chaining state outside core scratch: in clear when the key domain in `slot` has CLEAR_CONTEXT, and otherwise wrapped under the room's
context key (R410). The owner has no context key, and a locked vault gives none: the state then stays in scratch (none). -/
def State.saveChain (s : State) (room slot : Nat) (st : List Byte) : Option (List Byte × State) :=
  if bit (s.domain slot).policy 2 then some (st, s)
  else if 1024 ≤ room then none
  else s.wrapState room (chainAad room slot) st

/-- The chaining state that was written; none when its tag fails (R411). -/
def State.loadChain (s : State) (room slot : Nat) (bs : List Byte) : Option (List Byte) :=
  if bit (s.domain slot).policy 2 then some bs else s.unwrapState room (chainAad room slot) bs

/-- `TILE.STATUS` (R416). -/
def State.tileStatus (s : State) (n : Nat) : Nat :=
  (s.tile n).keys.length * 2 ^ 16 + (s.tile n).held.length * 2 ^ 8 + b01 (s.tile n).restarting * 2 + b01 (s.tileReady n)

end Sys2Proof.Machine
end

