-- ==== Sys2Proof/Machine/Journal.lean ====
section
/-!
DEFINITION. The extent map, block allocation, key leases of storage work, and the work journal (R371, R404, R482, R483,
R490 to R497, R504, R575).
-/

namespace Sys2Proof.Machine

/-! ## The extent map (R490, R491) -/

/-- Blocks that one piece of an extent takes (R481, R483). -/
def Volume.pieceBlocks (v : Volume) (blocks : Nat) : Nat := if v.layout = 2 then stripSize v.k (4096 * blocks) / 4096 else blocks

/-- A virtual namespace. -/
def State.space (s : State) (n : Nat) : Option Space := (s.store.spaces.find? fun e => decide (e.1 = n)).map fun e => e.2

/-- Change a namespace. -/
def State.setSpace (s : State) (n : Nat) (x : Space) : State := { s with store := { s.store with spaces := Tbl.put n x s.store.spaces } }

/-- Live extents of a namespace that a range of blocks touches, in LBA order. -/
def State.extentsIn (s : State) (ns lba blocks : Nat) : List Extent :=
  match s.space ns with
  | none => []
  | some sp =>
    match s.volume sp.vol with
    | none => []
    | some v => (v.extents.filter fun e => decide (e.ns = ns) && decide (e.lba < lba + blocks) && decide (lba < e.lba + e.blocks)).mergeSort
        fun a b => decide (a.lba ≤ b.lba)

/-- The live extent of an identity. -/
def State.extentAt (s : State) (vol ns lba seq : Nat) : Option Extent :=
  match s.volume vol with
  | none => none
  | some v => v.extents.find? fun e => decide (e.ns = ns) && decide (e.lba = lba) && decide (e.seq = seq)

/-- Change a live extent of an identity. -/
def State.setExtent (s : State) (x : Extent) : State :=
  match s.volume x.vol with
  | none => s
  | some v => s.setVolume x.vol { v with extents := v.extents.map fun e =>
      if e.ns = x.ns ∧ e.lba = x.lba ∧ e.seq = x.seq then x else e }

/-- Take an extent out of the map; its blocks become free after a checkpoint, and after an epoch's knot where one is named
(R460, R491). -/
def State.removeExtent (s : State) (x : Extent) (epoch : Option Nat) : State :=
  match s.volume x.vol with
  | none => s
  | some v => s.setVolume x.vol { v with
      extents := v.extents.filter fun e => !(decide (e.ns = x.ns) && decide (e.lba = x.lba) && decide (e.seq = x.seq))
      dying := v.dying ++ [(⟨x.group, x.mlba, v.pieceBlocks x.blocks, epoch⟩ : Dying)] }

/-- A place is later than another. -/
def placeLater (e1 p1 e2 p2 : Nat) : Bool := decide (e1 > e2) || (decide (e1 = e2) && decide (p1 > p2))

/-- Put an extent into the map, unless the map holds it or an extent with a later place (R500, R575). -/
def State.mapExtent (s : State) (x : Extent) : State :=
  match s.volume x.vol with
  | none => s
  | some v =>
    let same := v.extents.filter fun e => decide (e.ns = x.ns) && decide (e.lba = x.lba)
    if same.any fun e => decide (e.seq = x.seq) then s
    else if same.any fun e => placeLater e.epoch e.place x.epoch x.place then
      s.setVolume x.vol { v with dying := v.dying ++ [(⟨x.group, x.mlba, v.pieceBlocks x.blocks, none⟩ : Dying)] }
    else
      let s := same.foldl (fun s e => s.removeExtent e none) s
      match s.volume x.vol with
      | some v => s.setVolume x.vol { v with extents := v.extents ++ [x] }
      | none => s

/-! ## Block allocation (R482, R499) -/

/-- Blocks of a group: those of its smallest member that is present. The first 1 MiB holds the label (R482). -/
def State.groupBlocks (s : State) (v : Volume) (g : Nat) : Nat :=
  let caps := (List.range v.width).filterMap fun i => (s.driveOf (v.members.getD (g * v.width + i) [])).map fun d => d.2.blocks
  match caps.min? with
  | some n => n - 256
  | none => 0

/-- Blocks of a group in use. -/
def Volume.usedIn (v : Volume) (g : Nat) : Nat := ((v.used.filter fun u => decide (u.1 = g)).map fun u => u.2.2).sum

/-- First fit in a group: the lowest start from `lo` whose `n` blocks meet no range in use (DESIGN CHOICE, log entry 35). -/
def firstFit (used : List (Nat × Nat × Nat)) (n cap : Nat) : Nat → Nat → Option Nat
  | 0, _ => none
  | fuel + 1, lo =>
    if lo + n > cap + 256 then none
    else match used.find? fun u => decide (u.2.1 < lo + n) && decide (lo < u.2.1 + u.2.2) with
      | some u => firstFit used n cap fuel (u.2.1 + u.2.2)
      | none => some lo

/-- The group with the most free space, the lowest number first on a tie (R482). -/
def State.bestGroup (s : State) (v : Volume) : Nat :=
  ((List.range v.groups).foldl (fun (b : Nat × Nat) g =>
    let free := s.groupBlocks v g - v.usedIn g
    if free > b.2 then (g, free) else b) (0, 0)).1

/-- Allocate the pieces of an extent: group and member block; none when the volume has no room for it. -/
def State.allocate (s : State) (vol blocks : Nat) : Option (Nat × Nat × State) :=
  match s.volume vol with
  | none => none
  | some v =>
    let g := s.bestGroup v
    let n := v.pieceBlocks blocks
    let mine := v.used.filter fun u => decide (u.1 = g)
    (firstFit mine n (s.groupBlocks v g) (mine.length + 1) 256).map fun a =>
      (g, a, s.setVolume vol { v with used := v.used ++ [(g, a, n)] })

/-- A write to a group may proceed with its pieces still redundant (R504). -/
def Volume.writable (v : Volume) (g : Nat) : Bool :=
  let n := v.lostIn g
  decide (n = 0) || (match v.layout with
    | 1 => decide (v.k - n ≥ 2)
    | 2 => decide (n < v.m)
    | _ => false)

/-- Bits of a group's lost members (R504). -/
def Volume.missingBits (v : Volume) (g : Nat) : Nat :=
  ((List.range v.width).map fun i => if v.lostAt g i then 2 ^ i else 0).sum

/-! ## Leases of storage work (R371, R404) -/

/-- What a draw of key use answers. -/
inductive KeyDraw where
  | absent | exhausted | waits | ok (inv : Nat)
  deriving DecidableEq, Repr

/-- The lease that storage work holds on a key. -/
def State.heldLease (s : State) (k : Nat) : Lease := (Tbl.get (fun _ => none) (s.store.leases.map fun e => (e.1, some e.2)) k).getD ⟨false, 0, 0, 0⟩

/-- Change it. -/
def State.setHeldLease (s : State) (k : Nat) (l : Lease) : State := { s with store := { s.store with leases := Tbl.put k l s.store.leases } }

/-- Ask the strongroom for a new lease in place of the one held; the remainder is abandoned (R404). -/
def State.newLease (s : State) (slot gen : Nat) (encrypt : Bool) : Option KeyDraw × State :=
  match s.lease slot gen encrypt with
  | (.absent, s) => (some .absent, s)
  | (.exhausted, s) => (some .exhausted, s)
  | (.waits, s) => (some .waits, s)
  | (.granted first inv blocks, s) => (none, s.setHeldLease (slot * 65536 + gen) ⟨encrypt, blocks, inv, first⟩)

/-- Charge blocks to the lease, in whole bursts, taking further leases as they end (R404). -/
def State.chargeBlocks (s : State) (slot gen : Nat) (encrypt : Bool) (inv : Nat) : Nat → Nat → KeyDraw × State
  | 0, _ => (.ok inv, s)
  | fuel + 1, n =>
    let k := slot * 65536 + gen
    let l := s.heldLease k
    if l.blocks ≥ n ∧ (l.encrypt ∨ !encrypt) then (.ok inv, s.setHeldLease k { l with blocks := l.blocks - n })
    else
      let part := if l.encrypt ∨ !encrypt then l.blocks / 16 * 16 else 0
      match s.newLease slot gen encrypt with
      | (some r, s) => (r, s)
      | (none, s) => s.chargeBlocks slot gen encrypt inv fuel (n - part)

/-- Draw the use of a key for one extent: `n` blocks and, to encrypt, one invocation (R404, R407). -/
def State.drawKey (s : State) (slot gen : Nat) (encrypt : Bool) (n : Nat) : KeyDraw × State :=
  let d := s.domain slot
  if !s.vaultServes ∨ d.state ≠ 1 ∨ (gen ≠ d.cur ∧ (encrypt ∨ gen ≠ d.prev)) then (.absent, s)
  else
    let k := slot * 65536 + gen
    let s := s.cacheKey (gen * 2 ^ 20 + slot)
    if !encrypt then s.chargeBlocks slot gen false 0 4 n
    else
      let l := s.heldLease k
      let (r, s) := if l.encrypt ∧ l.inv ≥ 1 ∧ l.blocks ≥ 1 then ((none : Option KeyDraw), s) else s.newLease slot gen true
      match r with
      | some r => (r, s)
      | none =>
        let l := s.heldLease k
        (s.setHeldLease k { l with inv := l.inv - 1, next := l.next + 1 }).chargeBlocks slot gen true l.next 4 n

/-- Key of a generation of a domain. -/
def State.domainKey (s : State) (slot gen : Nat) : List Byte :=
  let d := s.domain slot
  if gen = d.cur then d.keyCur else d.keyPrev

/-- GCM nonce of an invocation (R371, R407). -/
def gcmNonce (gen inv : Nat) : List Byte := beBytes gen 2 ++ pad 2 ++ beBytes inv 8

/-- GCM blocks of an extent: its data, and E(J0) (R413). -/
def gcmBlocks (blocks : Nat) : Nat := 256 * blocks + 1

/-! ## The journal (R492 to R497) -/

/-- Add an item to the journal block being filled (R494). -/
def State.queueItem (s : State) (i : JItem) : State :=
  { s with store := { s.store with queue := s.store.queue ++ [i], queueSince := some (s.store.queueSince.getD s.clock) } }

/-- Bytes of the entry ring in use by blocks that hold unreleased items, those being filled included. -/
def State.ringUsed (s : State) : Nat :=
  (s.store.blocks.map fun b => b.size).sum + ((s.store.queue.map fun i => i.bytes.length).sum + 64)

/-- The entry ring has room for a further entry (R496). -/
def State.ringHasRoom (s : State) : Bool := decide (s.ringUsed + 65536 ≤ s.store.ringGib * 2 ^ 30)

/-- A journal entry. -/
def State.live (s : State) (id : Nat) : Option Live := s.store.entries.find? fun l => decide (l.e.id = id)

/-- Change a journal entry. -/
def State.setLive (s : State) (x : Live) : State :=
  { s with store := { s.store with entries := s.store.entries.map fun l => if l.e.id = x.e.id then x else l } }

/-- Give an entry the next number and record it; `opens` queues its OPEN item. -/
def State.addEntry (s : State) (e : JEntry) (opens : Bool) : Nat × State :=
  let id := s.store.entryNext
  let e := { e with id := id }
  let s := { s with store := { s.store with entryNext := id + 1
                                            entries := s.store.entries ++ [(⟨e, false, none, false, false, false, false⟩ : Live)] } }
  (id, if opens then s.queueItem (.start e) else s)

/-- Abandon an entry (R495, R499): its blocks become free. -/
def State.abandonEntry (s : State) (id : Nat) : State :=
  match s.live id with
  | none => s
  | some l =>
    if l.abandoned ∨ l.complete.isSome then s
    else
      let s := (s.setLive { l with abandoned := true }).queueItem (.abandon l.e)
      if l.e.op = 1 ∨ l.e.op = 3 then
        match s.volume l.e.vol with
        | some v => s.setVolume l.e.vol { v with dying := v.dying ++ [(⟨l.e.ext.group, l.e.ext.mlba, v.pieceBlocks l.e.ext.blocks, none⟩ : Dying)] }
        | none => s
      else s

/-- How many items from the front of the queue fit into one block of 64 KiB. -/
def fitItems : List JItem → Nat → Nat
  | [], _ => 0
  | i :: is, used => if used + i.bytes.length ≤ 65536 then 1 + fitItems is (used + i.bytes.length) else 0

/-- The items queued fill a journal block (R494). -/
def State.blockFull (s : State) : Bool := decide (fitItems s.store.queue 64 < s.store.queue.length)

/-- Submit a journal block with the items at the front of the queue to every journal drive that works. -/
def State.submitBlock (s : State) : State :=
  let n := fitItems s.store.queue 64
  let items := s.store.queue.take n
  let rest := s.store.queue.drop n
  let seq := s.store.blockSeq + 1
  let bytes := blockBytes seq s.store.jid items s.now
  let ringBlocks := s.store.ringGib * 262144
  let lba := 264192 + s.store.ringPos % (max 1 ringBlocks)
  let ds := s.journalDrives
  let b : JBlock := ⟨seq, items, s.now, bytes.length, [], ds.length, decide (ds.length < s.store.journal.length)⟩
  let s := { s with store := { s.store with queue := rest, queueSince := if rest = [] then none else some s.clock
                                            blockSeq := seq, ringPos := s.store.ringPos + bytes.length / 4096
                                            blocks := s.store.blocks ++ [b] } }
  ds.foldl (fun s d => s.issueDrive d.1 (.journal seq) 1 lba (bytes.length / 4096) bytes) s

/-- JOURNAL_BLOCK_SUBMIT (R494): a block goes out when it is full, or 2 µs after its first item. -/
def execJournalBlockSubmit (s : State) : Res :=
  match s.store.queueSince with
  | some t => if s.store.queue ≠ [] ∧ s.store.journal ≠ [] ∧ (s.blockFull ∨ t + 2000 ≤ s.clock) then .next s.submitBlock else .next s
  | none => .next s

/-- An entry has been applied (R496): abandoned, or its map change is checkpointed, its knots are published and their logs lie
on the seal volume. -/
def State.entryDone (s : State) (l : Live) : Bool :=
  l.abandoned || match l.complete with
    | none => false
    | some (epoch, _, rs) =>
      !l.stuck && l.saved && (decide (rs = []) || s.store.rope.knots.any fun k => decide (k.epoch = epoch) && k.persisted)

/-- Entries that remain after those at the front that are done. -/
def State.keptEntries (s : State) : List Live → List Live
  | [] => []
  | l :: ls => if s.entryDone l then s.keptEntries ls else l :: ls

/-- Ids of the entries an item belongs to. -/
def JItem.entry : JItem → Nat
  | .start e => e.id
  | .complete e _ _ _ => e.id
  | .abandon e => e.id
  | .release id => id

/-- Release entries whose work is done (R496): a RELEASE item, and the ring space of blocks that hold nothing unreleased. -/
def State.releaseEntries (s : State) : State :=
  let kept := s.keptEntries s.store.entries
  if kept.length = s.store.entries.length then s
  else
    let low := match kept with | l :: _ => l.e.id | [] => s.store.entryNext
    let s := { s with store := { s.store with entries := kept
                                              blocks := s.store.blocks.filter fun b => decide (b.waits ≠ 0) || b.items.any fun i => decide (low ≤ i.entry) } }
    s.queueItem (.release low)

/-- Tell the drives of a piece's blocks that they are free (R476): Dataset Management, deallocate, where the drive has it. -/
def State.trimBlocks (s : State) (v : Volume) (d : Dying) : State :=
  (List.range v.width).foldl (fun s i =>
    match s.memberDrive v d.group i with
    | none => s
    | some n => match s.drive n with
      | none => s
      | some x => if x.trim then s.issueDrive n .other 9 0 0 (pad 4 ++ leBytes d.count 4 ++ leBytes d.first 8) else s) s

/-- Free the blocks whose wait is over (R460, R491, R572): no drive command to them is outstanding. -/
def State.freeBlocks (s : State) (n : Nat) (v : Volume) : State :=
  let busy (d : Dying) : Bool := (List.range v.width).any fun i =>
    match s.memberDrive v d.group i with
    | none => false
    | some x => match s.drive x with
      | none => false
      | some y => y.cmds.any fun c => c.write && decide (c.use ≠ .other) && decide (c.lba < d.first + d.count) && decide (d.first < c.lba + c.blocks)
  let ready (d : Dying) : Bool := !busy d && match d.epoch with
    | none => true
    | some e => match s.store.rope.lastPub with | some p => decide (e ≤ p) | none => false
  let go := v.dying.filter ready
  let s := s.setVolume n { v with
    dying := v.dying.filter fun d => !ready d
    used := v.used.filter fun u => !go.any fun d => decide (u = (d.group, d.first, d.count)) }
  go.foldl (fun s d => s.trimBlocks v d) s

/-! ## Map pages (R486, R490, R491) -/

/-- Pages of a volume's extent map: its entries, 32 to a page, in namespace and then LBA order (R490; which entries share a page: DESIGN CHOICE, log
entry 91). -/
def Volume.mapPages (v : Volume) : List (List Byte) :=
  let es := (v.extents.mergeSort fun a b => decide (a.ns < b.ns) || (decide (a.ns = b.ns) && decide (a.lba ≤ b.lba))).map Extent.bytes
  (List.range ((es.length + 31) / 32)).map fun i => ((es.drop (32 * i)).take 32).flatten

/-- Write data of the device's own to a volume in the volume's layout, to the group with the most free space. The spec names no place for it: its first
block is a free value. -/
def State.volumeMeta (s : State) (n : Nat) (data : List Byte) : State :=
  match s.volume n with
  | none => s
  | some v =>
    let (at', s) := s.free
    let g := s.bestGroup v
    let ps := if v.layout = 2 then strips v.k v.m data else []
    (List.range v.width).foldl (fun s i =>
      match s.memberDrive v g i with
      | none => s
      | some d => s.metaWrite [d] at'.toNat (if v.layout = 2 then ps.getD i [] else data)) s

/-- Encrypt a map page under the volume's metadata key in the manner of R410, and write it; false when the key cannot be used now (R486). -/
def State.writePage (s : State) (n key : Nat) (page : List Byte) : State × Bool :=
  let gen := (s.domain key).cur
  match s.drawKey key gen true (gcmBlocks 1) with
  | (.ok inv, s) =>
    let e := gcmSeal (s.domainKey key gen) (gcmNonce gen inv) (chainAad 0xFFFF key) page
    (s.volumeMeta n (gcmNonce gen inv ++ e.1 ++ e.2), true)
  | (_, s) => (s, false)

/-- Write every map page of a volume that changed since its last checkpoint, and flush its members (R476, R491). A page whose key cannot be used now stays
changed: false. -/
def State.writePages (s : State) (n : Nat) (v : Volume) : State × Bool :=
  let new := v.mapPages
  let changed := (List.zip (List.range new.length) new).filter fun p => decide (v.pages.getD p.1 [] ≠ p.2)
  if changed = [] then (s, true)
  else
    let (s, ok) := changed.foldl (fun (acc : State × Bool) p =>
      let r := acc.1.writePage n v.key p.2
      (r.1, acc.2 && r.2)) (s, true)
    if !ok then (s, false)
    else
      let s := match s.volume n with | some w => s.setVolume n { w with pages := new } | none => s
      ((v.members.filterMap fun m => (s.driveOf m).map fun e => e.1).foldl State.flushDrive s, true)

/-- Checkpoint every volume: the state, and the volumes whose map pages could not be written. -/
def State.checkpoint (s : State) : State × List Nat :=
  s.store.volumes.foldl (fun (acc : State × List Nat) v =>
    let r := acc.1.writePages v.1 v.2
    (r.1, if r.2 then acc.2 else acc.2 ++ [v.1])) (s, [])

/-- An entry's map change stands in a checkpoint now (R496): it is applied, and its volume's pages are written. A tombstone changes no map. -/
def Live.saveUnless (late : List Nat) (l : Live) : Live :=
  { l with saved := l.saved || (l.applied && (decide (l.e.op = 4) || !late.contains l.e.vol)) }

/-- MAP_CHECKPOINT (R491, R496): changed map pages are written, the journal drives flushed, superseded blocks freed, and entries released. -/
def execMapCheckpoint (s : State) : Res :=
  let (s, late) := s.checkpoint
  let s := (s.journalDrives.map fun e => e.1).foldl State.flushDrive s
  let s : State := { s with store := { s.store with entries := s.store.entries.map (Live.saveUnless late) } }
  .next ((s.store.volumes.filter fun v => !late.contains v.1).foldl (fun s v => s.freeBlocks v.1 v.2) s).releaseEntries

/-- The records of an entry that COMPLETE items hold, for rebuilding a log (R420). -/
def State.recordsOfEpoch (s : State) (epoch : Nat) : List (Nat × List Byte) :=
  s.store.entries.foldl (fun l x => match x.complete with
    | some (e, p, rs) => if e = epoch then ((List.zip (List.range rs.length) rs).foldl (fun l r => insertRecord (p + r.1, withSeq r.2 (p + r.1)) l) l) else l
    | none => l) []

/-- A log matches the roots of a knot's body (R420). -/
def logMatches (knot : List Byte) (log : List (Nat × List Byte)) : Bool :=
  let rs := log.map fun x => x.2
  decide (merkleRoot .sha256 rs = slice knot 0x60 0x80) && decide (merkleRoot .shake256 rs = slice knot 0x80 0xA0)

/-- The seal volume's number (R485). -/
def State.sealVolume (s : State) : Option Nat := (s.store.volumes.find? fun v => bit v.2.flags 7).map fun v => v.1

/-- A knot and its epoch's log go to the seal volume (R436). -/
def State.keepKnot (s : State) (k : Knot) (log : List (Nat × List Byte)) : State :=
  match s.sealVolume with
  | some n => s.volumeMeta n (k.rec' ++ (log.map fun x => x.2).flatten)
  | none => s

/-- EPOCH_LOG_PERSIST (R420, R436, R496): the oldest closed log not yet on the seal volume is compared with both roots, rebuilt from
the journal entries on a mismatch, and stored. -/
def execEpochLogPersist (s : State) : Res :=
  match s.store.rope.knots.find? fun k => !k.persisted with
  | none => .next s
  | some k =>
    let log := if logMatches k.rec' k.log then k.log else s.recordsOfEpoch k.epoch
    let s := s.keepKnot k log
    let r := s.store.rope
    .next (s.setRope { r with knots := r.knots.map fun x => if x.epoch = k.epoch then { x with log := log, persisted := true } else x }).releaseEntries

end Sys2Proof.Machine
end

