-- ==== Sys2Proof/Machine/LinkOps.lean ====
section
/-!
DEFINITION. The host link's read requests: tags, limits, translations, failures of work items (R49, R52 to R57, R66, R105).
-/

namespace Sys2Proof.Machine

/-! ## Issuing reads (R50, R52, R53, R55, R66, R67, R105) -/

/-- A read may leave but for a tag: DMA is open, no earlier posted write waits (R50), and the room's limit allows it. -/
def State.mayRead' (s : State) (room : Option Nat) : Bool := s.dmaOpen && decide (s.link.heldWrites = []) && s.roomMayRead room

/-- Issue one read of a work item with a fresh tag (R55), once its page is translated (R66). -/
def State.issueRead (s : State) (ref id addr : Nat) : Option State :=
  let room := refSpace ref
  if s.mayRead' room && s.tagFree && decide (s.lacking room addr 1 = []) then
    s.freeTag.map fun t =>
      State.emit ((s.useTranslation room (addr / 4096 * 4096)).setTag t ⟨.busy, s.clock, s.cto, room, ref, id, addr⟩).traffic
        (.read t (s.pasidOf room) (s.streamOf room) (s.onBus room addr))
  else none

/-- Issue the reads of a work item in order, as many as can go: issued, and those left waiting. -/
def State.issueReads (s : State) (ref id : Nat) : List Nat → Nat → State × Nat × List Nat
  | [], n => (s, n, [])
  | a :: as, n =>
    match s.issueRead ref id a with
    | some s => s.issueReads ref id as (n + 1)
    | none => (s, n, a :: as)

/-- Start or go on with a work item's reads. Reads that a tag alone holds back count once in `HOSTLINK.TAG_WAIT` (R53, R73); one whose page has
no translation, or has it no longer, waits for a new one (R66, R67). -/
def State.driveReads (s : State) (ref : Nat) (e : Entry) : State :=
  if e.pages ≠ [] ∨ e.halted then s.setWork ref e
  else
    let room := refSpace ref
    let (s, n, left) := s.issueReads ref e.id e.redo 0
    let e := { e with reads := e.reads + n, redo := left, waited := min e.waited left.length }
    match left with
    | [] => s.setWork ref e
    | a :: _ =>
      let lacks := s.lacking room a 1
      if s.mayRead' room ∧ lacks ≠ [] then (s.setWork ref { e with pages := lacks }).askRange room a 1
      else if s.mayRead' room ∧ !s.tagFree then (s.setWork ref { e with waited := left.length }).count R.HOSTLINK_TAG_WAIT (left.length - e.waited)
      else s.setWork ref e

/-- Ask again for the translations that a work item waits for and that could not be asked for yet. -/
def State.askWaiting (s : State) (ref : Nat) (e : Entry) : State := e.pages.foldl (fun s p => s.askPage (refSpace ref) p) s

/-- Waiting work goes on: held writes, translations, and the reads of every ring's work items, in order. -/
def State.pump (s : State) : State :=
  (s.rings.map fun r => r.1).foldl (fun s ref =>
    (s.ring ref).work.foldl (fun s e => if e.pages ≠ [] then s.askWaiting ref e else if e.redo = [] then s else s.driveReads ref e) s)
    (s.sendHeld s.link.heldWrites.length)

/-- Addresses of the requests that reads of some ranges are split into (R49). -/
def State.requests (s : State) (rs : List (Nat × Nat)) : List Nat :=
  rs.flatMap fun r => (tlps s.link.maxReadReq (r.2 + 1) r.1 r.2).map fun t => t.1

/-- The pages of ranges that lack a translation, asked for (R66). -/
def State.translate (s : State) (room : Option Nat) (rs : List (Nat × Nat)) : List Nat × State :=
  let missing := (rs.flatMap fun r => s.lacking room r.1 r.2).eraseDups
  (missing, missing.foldl (fun s p => s.askPage room p) s)

/-! ## Work items that need host data -/

/-- A work item begins its host reads of some ranges. -/
def State.beginReads (s : State) (ref : Nat) (e : Entry) (rs : List (Nat × Nat)) : State :=
  let (pages, s) := s.translate (refSpace ref) rs
  let e := { e with redo := s.requests rs, pages := pages }
  (s.addWork ref e).driveReads ref e

/-- The item's data has all arrived. -/
def Entry.complete' (e : Entry) : Bool := decide (e.reads = 0) && decide (e.redo = []) && decide (e.pages = []) && !e.halted

/-- A completion with a status and nothing else (R140, R142): 32 bytes, and what software wrote behind them. -/
def Entry.failBytes (e : Entry) (st : Status) : List Byte := txCompletionBytes st e ++ (e.desc.drop 32).take 32
where
  txCompletionBytes (st : Status) (e : Entry) : List Byte := leBytes st.code 2 ++ pad 2 ++ leBytes e.tag.toNat 4 ++ pad 24

/-- A work item fails: its completion, then what the room's policy says (R56, R60, R111). -/
def State.failWork (s : State) (ref : Nat) (e : Entry) (st : Status) : State :=
  s.endWork ref e (e.failBytes st) (match st with | .dmaTimeout => .timeout | .dmaAborted => .abort | _ => .plain)

/-- A malformed descriptor (R143): its completion first, then the room's policy. -/
def State.badDesc (s : State) (ref : Nat) (e : Entry) (bytes : List Byte) : State :=
  ((s.addWork ref e).bump R.RINGENG_BAD_DESC).endWork ref e bytes .badDesc

/-- Mark a work item HALTED_BME, with a read to issue again (R61). -/
def Entry.halt (e : Entry) (again : List Nat) : Entry := { e with halted := true, redo := again ++ e.redo, reads := e.reads - again.length }

/-- Work items now marked HALTED_BME: those in the rings, and those whose completion or data write is held (R61). -/
def State.haltedCount (s : State) : Nat :=
  if s.link.bme then 0
  else ((s.rings.map fun r => (r.2.work.filter Entry.halted).length).sum) +
    ((s.link.heldWrites.map HostWrite.work).filter fun w => decide (w ≠ 0)).eraseDups.length

end Sys2Proof.Machine
end

