-- ==== Sys2Proof/Machine/Rx.lean ====
section
/-!
DEFINITION. The ring engine's transmit and receive work, moderation and held interrupts (R140, R141, R146 to R149).
-/

namespace Sys2Proof.Machine

/-! ## Transmit (R140) -/

/-- Segments of a transmit descriptor: address and length. -/
def txSegments (d : List Byte) : List (Nat × Nat) :=
  (List.range (fld d 2 2 % 4)).map fun i => (fld d (8 + 8 * i) 8, fld d (0x20 + 2 * i) 2)

/-- A transmit descriptor is well formed (R140, R143). -/
def txDescOk (d : List Byte) : Bool :=
  let f := fld d 2 2
  let n : Nat := ((txSegments d).map fun g => g.2).sum
  decide (fld d 0 2 = 0x0101) && decide (bits f 14 7 = 0) && !bit f 2 && decide (1 ≤ f % 4) && zeros d 0x2A 2 && zeros d 0x30 16 &&
    decide (14 ≤ n ∧ n ≤ 16124)

/-- The packet of a transmit descriptor, once its segments have arrived. -/
def State.txPacket (s : State) (ref : Nat) (e : Entry) : Pkt :=
  let d := e.desc
  let f := fld d 2 2
  let bs := (txSegments d).flatMap fun g => s.hostRead (refSpace ref) g.1 g.2
  let n := bs.length
  let bytes := if bit f 3 then bs.take 12 ++ beBytes 0x8100 2 ++ beBytes (fld d 0x26 2) 2 ++ bs.drop 12 else bs
  let source := if refOwner ref then 0xFFFF else 0x8000 + refRoom ref
  { Pkt.fresh bytes source (16 + ref) s.now with
    txMeta := fld d 0x2C 4, tx := some (ref, e.id), wantTs := bit f 6, l3csum := bit f 4, l4csum := bit f 5
    l3end := n - fld d 0x28 1, l4end := n - fld d 0x29 1 }

/-- Hand a transmit frame to the parse slices. -/
def State.txHand (s : State) (ref : Nat) (e : Entry) : State :=
  { s with pipe := { s.pipe with input := s.pipe.input ++ [s.txPacket ref e] } }

/-- TX_DESCRIPTOR (R140): the ring engine fetches the next descriptor of a transmit ring and reads its segments; the frame goes
on when the last has arrived. -/
def execTxDescriptor (ref : Nat) (s : State) : Res :=
  if refKind ref ≠ 0 then .next s
  else match s.fetchGranted ref with
    | none => .next (s.askEntry ref)
    | some (index, pass, d, s) =>
      let (id, s) := s.workId
      let e := Entry.fresh id index pass d
      if txDescOk d then .next (s.beginReads ref e (txSegments d))
      else .next (s.badDesc ref e (e.failBytes .invalidParam))

/-! ## Receive (R141, R157) -/

/-- Strip the outer tag where the port's option says so (R168): the frame, and the TCI taken out. -/
def State.stripTag (s : State) (p : Pkt) : List Byte × Option Nat :=
  let c := (s.port p.source).conf
  let t := bfld p.bytes 12 2
  if p.source < 4 ∧ bit (fld c 0x0A 2) 0 ∧ (t = 0x8100 ∨ t = 0x88A8 ∨ (fld c 0x0C 2 ≠ 0 ∧ t = fld c 0x0C 2)) then
    (p.bytes.take 12 ++ p.bytes.drop 16, some (bfld p.bytes 14 2))
  else (p.bytes, none)

/-- A receive completion (R141). -/
def rxCompletion (p : Pkt) (d : List Byte) (tci : Option Nat) (len : Nat) (more : Bool) : List Byte :=
  let flags := b01 more * 2 ^ 14 + b01 p.tsValid * 2 ^ 13 + b01 tci.isSome * 2 ^ 12 + b01 p.l3ok * 2 ^ 11 + b01 p.l4ok * 2 ^ 10 + b01 p.hash.isSome * 2 ^ 9
  pad 2 ++ leBytes flags 2 ++ slice d 4 8 ++ p.time.bytes ++ leBytes len 2 ++ leBytes (tci.getD 0) 2 ++ leBytes (p.hash.getD 0) 4 ++
    leBytes p.mark 4 ++ leBytes p.pktType 2 ++ leBytes p.sourceField 2 ++ leBytes p.ingress 2 ++ pad 2 ++ leBytes p.pattern 4 ++ slice d 8 16 ++ pad 8

/-- Write a frame into buffers, one completion each; a malformed descriptor on the way completes with INVALID_PARAM (R143). True when the whole
frame was written: a room that enters the in-error state on the way does no further DMA (R98). -/
def State.fillBuffers (s : State) (ref : Nat) (p : Pkt) (tci : Option Nat) : List (Nat × Bool × List Byte) → List Byte → State × Bool
  | [], _ => (s, true)
  | (index, pass, d) :: bs, data =>
    let s := s.setRing ref (s.ring ref).fetched1
    if !rxDescOk d then
      let s := ((s.bump R.RINGENG_BAD_DESC).complete ref index pass (rxStatus d .invalidParam) 0).afterEnd ref .badDesc
      if (refSpace ref).any fun r => decide ((s.room r).state = .inError) then (s, false) else s.fillBuffers ref p tci bs data
    else
      let n := fld d 0x10 4
      let part := data.take n
      let (id, s) := s.workId
      let s := s.hostWrite ⟨refSpace ref, fld d 8 8, part, id, (s.ring ref).relaxed⟩
      let s := s.complete ref index pass (rxCompletion p d tci part.length (decide (n < data.length))) id
      s.fillBuffers ref p tci bs (data.drop n)

/-- Buffers that a frame of `len` bytes takes on a ring; none when too few are posted. -/
def State.takeBuffers (s : State) (ref len : Nat) : Option (List (Nat × Bool × List Byte) × State) :=
  if !s.serves ref then none
  else
    let s := s.skipDone ref 65536
    (fitBuffers (s.postedBuffers ref 256 (s.ring ref)) (max len 1)).map fun bs => (bs, s)

/-- Ranges of host memory that a frame's buffers cover. -/
def bufferRanges : List (Nat × Bool × List Byte) → Nat → List (Nat × Nat)
  | [], _ => []
  | (_, _, d) :: bs, len => if rxDescOk d then (fld d 8 8, min len (fld d 0x10 4)) :: bufferRanges bs (len - fld d 0x10 4) else bufferRanges bs len

/-- A frame whose translation was refused (R66): the first descriptor fails with DMA_ABORTED and the frame is gone. -/
def State.rxAborted (s : State) (ref : Nat) (p : Pkt) (denied : List (Nat × Nat)) : List (Nat × Bool × List Byte) → State
  | [] => s.dropPkt p
  | (index, pass, d) :: _ =>
    let s := { s with link := { s.link with atsDenied := s.link.atsDenied.filter fun x => !denied.contains x } }
    let s := ((s.setRing ref (s.ring ref).fetched1).complete ref index pass (rxStatus d .dmaAborted) 0).dropPkt p
    match refSpace ref with
    | some r => s.roomDmaFail r false
    | none => s

/-- A frame that finds no buffer, or a room that takes none (R102, R157): in hold mode, and while the room is frozen, it goes back to the head of its
leaf; else it is dropped and counted. -/
def State.rxRefused (s : State) (ref leaf : Nat) (f : Frame) : State :=
  let back (s : State) : State :=
    let l := s.leaf (leafKey 4 leaf)
    s.setLeaf (leafKey 4 leaf) { l with queue := f :: l.queue }
  let full (s : State) : State := if (s.ring ref).hold then back s else (s.noBuffer ref).dropPkt f.pkt
  match refSpace ref with
  | some r => match (s.room r).state with
    | .opened => full s
    | .frozen => back s
    | _ => (s.setRoom r { s.room r with notOpenDrop := min ((s.room r).notOpenDrop + 1) 0xFFFFFFFF }).dropPkt f.pkt
  | none => full s

/-- RX_FRAME_DELIVERY (R141, R146): the ring engine writes the next frame of destination 4 into posted buffers. -/
def execRxFrameDelivery (s : State) : Res :=
  match s.pipe.delivery with
  | [] => .next s
  | (leaf, f) :: rest =>
    let p := f.pkt
    let gone (s : State) : State := { s with pipe := { s.pipe with delivery := rest } }
    match s.ringOfGlobal leaf with
    | none => .next ((gone s).dropPkt p).flow
    | some ref =>
      if !s.dmaOpen || !s.entryReady ref then .next (s.askEntry ref)
      else
        let (bytes, tci) := s.stripTag p
        match s.takeBuffers ref bytes.length with
        | none => .next ((gone s).rxRefused ref leaf f).flow
        | some (bs, s) =>
          let ranges := bufferRanges bs bytes.length
          let (missing, s) := s.translate (refSpace ref) ranges
          let denied := (missing.map fun g => (s.party (refSpace ref), g)).filter fun x => s.link.atsDenied.contains x
          if denied ≠ [] then .next ((gone s).rxAborted ref p denied bs).flow
          else if missing ≠ [] then .next s
          else
            let (s, whole) := (gone s).fillBuffers ref p tci bs bytes
            .next (if whole then (s.txDone p .ok none (p.bytes.length + 4)).weedRx ref 65536 else s.dropPkt p).flow

/-! ## Moderation and interrupts (R148, R149) -/

/-- MODERATION_FIRE (R148): the ring's timer has run since its first completion or event. -/
def execModerationFire (ref : Nat) (s : State) : Res :=
  let r := s.ring ref
  match r.firstSince with
  | some t => if r.live ∧ t + 1000 * r.timerNow ≤ s.clock then .next (s.fire ref) else .next s
  | none => .next s

/-- HELD_INTERRUPT_RELEASE (R149, R151). -/
def execHeldInterruptRelease (s : State) : Res := .next s.releaseAll

end Sys2Proof.Machine
end

