-- ==== Sys2Proof/Machine/StoreOps.lean ====
section
/-!
DEFINITION. Storage operations: how writes, reads, repairs, verifications, deallocations and splices go through their steps
(R448, R453, R454, R458, R459, R497 to R506).
-/

namespace Sys2Proof.Machine

/-! ## The operations in flight -/

/-- An operation in flight. -/
def State.op (s : State) (id : Nat) : Option StoreOp := s.store.ops.find? fun o => decide (o.id = id)

/-- Change it. -/
def State.setOp (s : State) (o : StoreOp) : State :=
  { s with store := { s.store with ops := s.store.ops.map fun x => if x.id = o.id then o else x } }

/-- Remove it. -/
def State.dropOp (s : State) (id : Nat) : State :=
  { s with store := { s.store with ops := s.store.ops.filter fun x => decide (x.id ≠ id) } }

/-- The storage threads. -/
def State.storageThreads (s : State) : List Nat :=
  (s.cores.threads.filter fun e => decide (e.2.role = .storage)).map fun e => e.1

/-- The storage thread that takes an operation (DESIGN CHOICE, log entry 36). -/
def State.opThread (s : State) (id : Nat) : Nat :=
  let ts := s.storageThreads
  ts.getD (id % max 1 ts.length) 0

/-- A new operation in its first stage. -/
def StoreOp.fresh (kind : OpKind) (src : OpSrc) (room vol ns lba blocks domain : Nat) : StoreOp :=
  ⟨0, kind, src, 0, room, vol, ns, lba, blocks, domain, .data, none, none, [], 0, [], [], [], false, 0, [], [], 0, 0, false, false, 0,
    [], false, false, false, [], 0, 0, [], false⟩

/-- Take an operation in. -/
def State.addOp (s : State) (o : StoreOp) : StoreOp × State :=
  let id := s.store.nextOp
  let o := { o with id := id, thread := s.opThread id, since := s.clock }
  (o, { s with store := { s.store with ops := s.store.ops ++ [o], nextOp := id + 1 } })

/-! ## Completions (R142, R146, R509) -/

/-- A store completion: 32 bytes, and what software posted behind them (R142). -/
def storeCompletion (desc : List Byte) (st : Status) (fixity : Bool) (seq epoch bytes detail : Nat) : List Byte :=
  leBytes st.code 2 ++ leBytes (b01 fixity) 2 ++ slice desc 4 8 ++ leBytes seq 8 ++ leBytes epoch 8 ++ leBytes bytes 4 ++
    leBytes detail 4 ++ (desc.drop 32).take 32

/-- Flushes whose turn has come: every write fetched before them has completed (R502). -/
def Ring.readyFlush (r : Ring) : Option Entry :=
  (List.range r.work.length).findSome? fun i =>
    match r.work[i]? with
    | some e => if fld e.desc 0 2 = 0x0303 ∧ (r.work.take i).all (fun w => decide (fld w.desc 0 2 ≠ 0x0301)) then some e else none
    | none => none

/-- Complete the flushes of a ring that wait for nothing more. -/
def State.endFlushes (s : State) (ref : Nat) : Nat → State
  | 0 => s
  | n + 1 =>
    match (s.ring ref).readyFlush with
    | some e => (s.endWork ref e (storeCompletion e.desc .ok false 0 0 0 0)).endFlushes ref n
    | none => s

/-- NVMe status of a device status (R509): DNR, status code type, status code; `write` and `range` tell the cases apart. -/
def nvmeStatus (st : Status) (write range : Bool) : Nat :=
  let dnr := 0x4000
  match st with
  | .ok | .okLate | .okWarn | .replayed => 0
  | .invalidParam => dnr + if range then 0x80 else 0x02
  | .notPermitted => dnr + 0x20
  | .busy => 0x81
  | .volumeDegraded | .journalUnavailable => 0x82
  | .keyAbsent | .keyExhausted => dnr + 0x286
  | .tagMismatch | .fixityMismatch => dnr + 0x281
  | .driveError => dnr + if write then 0x280 else 0x281
  | .squashed => dnr + 0x08
  | _ => dnr + 0x06

/-- The response capsule of an NVMe/TCP command, on a connection that still stands: its first words, command identifier and
status. -/
def State.nvmeRespond (s : State) (c cid status : Nat) (dw0 : Nat := 0) : State :=
  s.sendPdu c 5 (leBytes dw0 8 ++ leBytes cid 2 ++ leBytes status 2)

/-! ## Batches (R458 to R465) -/

/-- A batch by its slot. -/
def State.batch (s : State) (n : Nat) : Option Batch := (s.store.batches.find? fun b => decide (b.1 = n)).map fun b => b.2

/-- Change it. -/
def State.setBatch (s : State) (n : Nat) (b : Batch) : State := { s with store := { s.store with batches := Tbl.put n b s.store.batches } }

/-- BATCH, KIND and the two domains and volumes of a batch. -/
def Batch.id (b : Batch) : Nat := fld b.ctx.pkt.params 0 4
/-- KIND. -/
def Batch.kind (b : Batch) : Nat := fld b.ctx.pkt.params 4 1
/-- STOP_ON_MISMATCH. -/
def Batch.stops (b : Batch) : Bool := bit (fld b.ctx.pkt.params 5 1) 0
/-- The volume that a batch writes: a REKEY its source volume. -/
def Batch.target (b : Batch) : Nat := if b.kind = 1 then fld b.ctx.pkt.params 8 2 else fld b.ctx.pkt.params 0x0A 2
/-- Extents settled (R462). -/
def Batch.settled (b : Batch) : Nat := b.done + b.superseded + b.mismatched

/-- A batch passes over an extent under R458 step 2. -/
def Batch.mismatch (b : Batch) : Batch :=
  { b with mismatched := b.mismatched + 1, ending := if b.stops then some (b.ending.getD Status.fixityMismatch.code) else b.ending }

/-- What the end of an extent's operation means to its batch (R458, R461). A target volume that degraded meanwhile makes the extent
wait for its rebuild; any other failure ends the batch with its status. -/
def State.batchOp (s : State) (n : Nat) (o : StoreOp) (st : Status) : State :=
  match s.batch n with
  | none => s
  | some b =>
    match st with
    | .ok | .replayed => (s.setBatch n { b with done := b.done + 1 }).bump R.TRANSCRYPT_DONE
    | .squashed => (s.setBatch n { b with superseded := b.superseded + 1 }).bump R.TRANSCRYPT_SUPERSEDED
    | .fixityMismatch | .tagMismatch => (s.setBatch n b.mismatch).bump R.TRANSCRYPT_MISMATCHED
    | .volumeDegraded =>
      match o.old with
      | some x => s.setBatch n { b with left := b.left ++ [if x.vol = 0xFFFF then Sel.remote x.rec' else Sel.local' x.vol x.ns x.lba x.seq] }
      | none => s
    | st => s.setBatch n { b with ending := some (b.ending.getD st.code) }

/-- A REKEY batch's domain and source generation, while an extent is left under it (R465). -/
def State.rekeyLeft (s : State) (b : Batch) : Bool :=
  let d := fld b.ctx.pkt.params 0x0C 4
  let g := fld b.ctx.pkt.params 0x10 2
  s.store.volumes.any fun v => v.2.extents.any fun x => decide (x.domain = d) && decide (x.gen = g)

/-- The status of a code that a batch keeps. -/
def endingStatus (c : Nat) : Status :=
  (([.keyAbsent, .keyExhausted, .fixityMismatch, .journalUnavailable, .notPermitted, .busy, .driveError, .invalidParam] : List Status).find?
    fun t => decide (t.code = c)).getD .driveError

/-- A batch with nothing left to do and nothing in flight ends (R462, R463, R465). -/
def State.batchEnd (s : State) (n : Nat) : State :=
  match s.batch n with
  | none => s
  | some b =>
    let flying := s.store.ops.any fun o => decide (o.src = .batch n)
    if flying ∨ b.loading ∨ (b.left ≠ [] ∧ b.ending = none ∧ !b.cancelled) then s
    else
      let kept := decide (b.kind = 1) && s.rekeyLeft b
      let d := fld b.ctx.pkt.params 0x0C 4
      let s := if b.kind = 1 ∧ !kept ∧ (s.domain d).prev = fld b.ctx.pkt.params 0x10 2 then
          (s.setDomain d { s.domain d with prev := 0, keyPrev := [] }).persistVault
        else s
      let st : Status := match b.ending with
        | some c => endingStatus c
        | none => if b.mismatched ≠ 0 ∨ b.cancelled ∨ kept then .okWarn else .ok
      let data := leBytes b.selected 8 ++ leBytes b.done 8 ++ leBytes b.superseded 8 ++ leBytes b.mismatched 8 ++
        leBytes (b01 kept + 2 * b01 b.cancelled) 4 ++ pad 4
      let s : State := { s with store := { s.store with batches := Tbl.erase n s.store.batches, cursors := Tbl.erase n s.store.cursors } }
      let s := s.endRunning 0x0908 b.id .ok []
      let s := match s.runningOn 0x0907 b.id with
        | some r => s.unrun r
        | none => s
      s.finish b.ctx (if b.replayed then .replayed else st) data

/-- End an operation and report it to whoever asked (R146, R462, R509). `bytes` were transferred, `detail` is the drive's status. -/
def State.endOp (s : State) (o : StoreOp) (st : Status) (bytes detail : Nat) : State :=
  let s := s.dropOp o.id
  let st := if st = .ok ∧ o.replayed then .replayed else st
  let x := o.ext
  let s := if o.kind = .write ∧ (st = .ok ∨ st = .replayed) then s.count64 R.STORE_WRITES 1
    else if o.kind = .read ∧ (st = .ok ∨ st = .replayed) then s.count64 R.STORE_READS 1 else s
  match o.src with
  | .ring ref work =>
    match s.workOf ref work with
    | none => s
    | some e =>
      let good := decide (st = .ok ∨ st = .replayed)
      let single := match o.kind with | .read => false | _ => true
      let fix := good && decide (o.fixity ≠ 0) && (decide (o.records ≠ []) || !single)
      let rec' := o.records.getLast?.getD []
      let fix := fix && decide (rec' ≠ [])
      let s := if fix then s.hostWrite ⟨refSpace ref, o.fixity, rec', e.id, (s.ring ref).relaxed⟩ else s
      let seq := if good then (match x with | some y => y.seq | none => 0) else 0
      let epoch := if good then o.epoch else 0
      (s.endWork ref e (storeCompletion e.desc st fix seq epoch bytes detail)).endFlushes ref 64
  | .conn c cid =>
    let s := if o.kind = .read ∧ (st = .ok ∨ st = .replayed) then s.sendPdu c 7 o.out else s
    s.nvmeRespond c cid (nvmeStatus st (decide (o.kind ≠ .read)) false)
  | .sweep _ => if st = .keyAbsent then s.bump R.SWEEP_SKIPPED else s
  | .batch n => (s.batchOp n o st).batchEnd n
  | .tomb slot => s.endRunning 0x0702 slot (if o.replayed then .replayed else st) []
  | .internal => s

/-- An operation fails: its journal entry is abandoned and its places are released (R419, R499). -/
def State.failOp (s : State) (o : StoreOp) (st : Status) (detail : Nat := 0) : State :=
  let s := if o.entry ≠ 0 then s.abandonEntry o.entry else s
  let s := if o.placed then s.releasePlaces o.epoch o.place (max 1 o.records.length) else s
  s.endOp o st 0 detail

/-! ## Marks and events (R454) -/

/-- Mark an extent damaged and tell the owner and the room that owns its key domain (R454). -/
def State.markDamaged (s : State) (x : Extent) (kind : Nat) : State :=
  let s := s.setExtent { x with damaged := kind }
  let id := beNat x.ident / 2 ^ 64
  let s := s.postOwner 13 x.vol id
  let room := (s.domain x.domain).room
  if room = 0xFFFF then s else s.postRoom room 13 x.vol id

/-- OWNER of a domain's records (R417). -/
def State.ownerDomain (s : State) (slot : Nat) : Bool := decide ((s.domain slot).room = 0xFFFF)

/-- A fixity record of an extent. -/
def State.recordOf (s : State) (x : Extent) (type : Nat) (replayed : Bool) : List Byte :=
  fixityRecord x.ident (4096 * x.blocks) x.sha x.sha3 (s.ownerDomain x.domain) replayed type 0

/-! ## Places and COMPLETE (R419, R422, R459) -/

/-- Ask for the places of an operation's records and submit its COMPLETE; without places left it waits (R422, R452). After a
handover sweeps and repairs log nothing (R442). -/
def State.complete1 (s : State) (o : StoreOp) (e : JEntry) : State :=
  let n := o.records.length
  let maint : Bool := match o.kind with | .sweep | .splice | .repair => true | _ => false
  if n = 0 then (s.setOp { o with stage := .completing }).queueItem (.complete e 0 0 [])
  else match s.takePlace n maint with
    | some (ep, p, s) =>
      let rs := (List.zip (List.range n) o.records).map fun r => withSeq r.2 (p + r.1)
      let o := { o with stage := .completing, epoch := ep, place := p, placed := true, records := rs
                        ext := o.ext.map fun x => if o.kind = .write ∨ o.kind = .splice then { x with epoch := ep, place := p + n - 1 } else x }
      (s.setOp o).queueItem (.complete { e with ext := (o.ext.getD e.ext) } ep p rs)
    | none =>
      let s := if o.stage = .place then s else s.bump (if maint then R.SWEEP_PLACE_WAIT else R.SEAL_PLACE_WAIT)
      s.setOp { o with stage := .place }

/-- The journal entry of an operation. -/
def State.entryOf (s : State) (o : StoreOp) : JEntry := match s.live o.entry with | some l => l.e | none => JEntry.blank

/-- The foreground has superseded the extent that a sweep or batch visits: the map no longer holds it, or a write of it holds its
place (R455, R461). -/
def State.superseded (s : State) (x : Extent) : Bool :=
  (s.extentAt x.vol x.ns x.lba x.seq).isNone ||
    s.store.ops.any fun o => decide (o.kind = .write) && o.placed && decide (o.ns = x.ns) && decide (o.lba = x.lba)

/-- An operation's pieces are written, or it needs none: it goes to its places, unless a foreground write came first (R455,
R461). A sweep's end counts its result. -/
def State.toPlace (s : State) (o : StoreOp) : State :=
  let gone : Bool := match o.kind, o.old with
    | .splice, some x => decide (x.vol ≠ 0xFFFF) && s.superseded x
    | .sweep, some x => s.superseded x
    | _, _ => false
  if gone then
    match o.kind with
    | .sweep => (s.dropOp o.id).bump R.SWEEP_SUPERSEDED
    | _ => s.failOp o .squashed
  else if !s.journalUp then
    if o.kind = .sweep then s.dropOp o.id else (s.bump R.JOURNAL_SINGLE_REFUSED).failOp o .journalUnavailable
  else
    let (entry, s) := if o.entry ≠ 0 then (o.entry, s)
      else s.addEntry { JEntry.blank with op := 2, room := o.room, vol := o.vol, ext := o.ext.getD JEntry.blank.ext } false
    let o := { o with entry := entry }
    (s.setOp o).complete1 o (s.entryOf o)

/-! ## Writing pieces (R483, R499, R504) -/

/-- The bytes of a member's piece of an extent. -/
def Volume.pieceOf (v : Volume) (x : Extent) (ct : List Byte) (i : Nat) : List Byte :=
  if v.layout = 2 then
    let w := v.width
    (strips v.k v.m ct).getD ((i + w - x.seq % w) % w) []
  else ct

/-- Write the pieces of the members in `ms`: the state and the commands issued. -/
def State.writePieces (s : State) (o : StoreOp) (x : Extent) (ct : List Byte) (ms : List Nat) : State × Nat :=
  match s.volume x.vol with
  | none => (s, 0)
  | some v =>
    ms.foldl (fun (acc : State × Nat) i =>
      match acc.1.memberDrive v x.group i with
      | none => acc
      | some d =>
        let data := v.pieceOf x ct i
        let (s, n) := acc.1.transfer d (fun off => .piece o.id 0 i off) true x.mlba data.length data
        (s, acc.2 + n)) (s, 0)

/-- OPEN is confirmed: the pieces go out with FUA (R499, step 6), to every member that is not lost, or to those being repaired. -/
def State.startPieces (s : State) (o : StoreOp) : State :=
  match o.ext with
  | none => s.failOp o .driveError
  | some x =>
    let ms := if o.kind = .repair then o.bad else (List.range 20).filter fun i => !bit x.missing i
    let (s, n) := s.writePieces o x o.data ms
    let o := { o with stage := .writing, waits := n }
    let s := s.setOp o
    if n = 0 then s.toPlace o else s

/-- OPEN goes out once the entry ring has room for it (R496). -/
def State.openEntry (s : State) (o : StoreOp) (opCode : Nat) : State :=
  if !s.journalUp then (s.bump R.JOURNAL_SINGLE_REFUSED).failOp o .journalUnavailable
  else if !s.ringHasRoom then
    (if o.stage = .space then s else s.bump R.JOURNAL_FULL_WAIT).setOp { o with stage := .space }
  else
    let src := match o.src with | .ring ref _ => ref | .conn c _ => c | _ => 0
    let idx := match o.src with
      | .ring ref w => (match s.workOf ref w with | some e => e.index | none => 0)
      | .conn _ cid => cid
      | _ => 0
    let e : JEntry := { JEntry.blank with op := opCode, room := o.room, vol := (o.ext.map fun x => x.vol).getD o.vol
                                          ext := o.ext.getD JEntry.blank.ext, super := o.old.map fun x => x.seq, source := src, index := idx }
    let (id, s) := s.addEntry e true
    s.setOp { o with entry := id, stage := .opening }

/-- Journal OP code of an operation (R495). -/
def OpKind.code : OpKind → Nat
  | .write => 1
  | .repair => 2
  | .splice => 3
  | .tomb => 4
  | .dealloc => 5
  | _ => 2

/-- Allocate blocks for the new extent and submit OPEN, under the rules of a degraded group (R499, R504). -/
def State.placeExtent (s : State) (o : StoreOp) (gen inv : Nat) (ct tag sha sha3 : List Byte) : State :=
  match s.allocate o.vol o.blocks, s.space o.ns with
  | some (g, a, s), some sp =>
    match s.volume o.vol with
    | none => s.failOp o .driveError
    | some v =>
      if !v.writable g then
        let s := s.setVolume o.vol { v with used := v.used.filter fun u => decide (u ≠ (g, a, v.pieceBlocks o.blocks)) }
        (s.bump R.STORE_REFUSED_DEGRADED).failOp o .volumeDegraded
      else
        let x : Extent := ⟨o.vol, o.domain, o.ns, o.lba, sp.next, o.blocks, gen, 0, g, v.missingBits g, a, inv, tag, sha, sha3, 0, 0, 0, []⟩
        let s := s.setSpace o.ns { sp with next := (sp.next + 1) % 2 ^ 48 }
        let s := if x.missing ≠ 0 then s.bump R.STORE_DEGRADED_WRITE else s
        let o := { o with ext := some x, data := ct }
        (s.setOp o).openEntry o o.kind.code
  | _, _ => (s.bump R.STORE_VOLUME_FULL).failOp o .busy

/-- A domain may rotate by itself now (R375, R405). -/
def State.mayRotate (s : State) (slot : Nat) : Bool :=
  let d := s.domain slot
  bit d.policy 0 && decide (d.state = 1) && decide (d.prev = 0) && decide (d.cur < 65535) && (s.vaultRefuses true).isNone

/-- Storage work of recovered threads waits for its replay in place (R574). -/
def State.markReplay (s : State) (ts : List Nat) : State :=
  let work := ts.filter fun t => s.store.ops.any fun o => decide (o.thread = t)
  { s with store := { s.store with replay := { s.store.replay with work := s.store.replay.work ++ work } } }

/-- SHA-256 and SHA3-256 of an operation's plaintext: the ones firmware saved while it waited, or computed now; none when the saved ones fail their
tag (R411, R499). -/
def State.hashesOf (s : State) (o : StoreOp) : Option (List Byte × List Byte) :=
  if o.chain = [] then some (sha256 o.data, sha3_256 o.data)
  else (s.loadChain o.room o.domain o.chain).map fun st => (st.take 32, st.drop 32)

/-- A write or splice waits for its lease; its hashes, chaining state of the plaintext, leave the thread for the time (R410; that firmware writes them
outside scratch then: DESIGN CHOICE, log entry 90). -/
def State.awaitLease (s : State) (o : StoreOp) (hashes : List Byte) : State :=
  if o.chain ≠ [] then s.setOp { o with stage := .key }
  else match s.saveChain o.room o.domain hashes with
    | some (c, s) => s.setOp { o with stage := .key, chain := c }
    | none => s.setOp { o with stage := .key }

/-- Hash and encrypt the plaintext of a write or splice (R499, steps 2 and 3). An exhausted domain rotates and the extent is tried
once more (R405). Saved hashes whose tag fails send the operation to its replay in place (R411). -/
def State.encryptOp (s : State) (o : StoreOp) (fuel : Nat := 1) : State :=
  match s.hashesOf o with
  | none => (s.setOp { o with stage := .key, chain := [] }).markReplay [o.thread]
  | some (h2, h3) =>
    let gen := (s.domain o.domain).cur
    match s.drawKey o.domain gen true (gcmBlocks o.blocks) with
    | (.absent, s) => s.failOp o .keyAbsent
    | (.waits, s) => s.awaitLease o (h2 ++ h3)
    | (.exhausted, s) =>
      if !o.retried && s.mayRotate o.domain then
        match fuel with
        | 0 => s.failOp o .keyExhausted
        | n + 1 => (s.rotate o.domain).encryptOp { o with retried := true } n
      else s.failOp o .keyExhausted
    | (.ok inv, s) =>
      let (ct, tag) := gcmSeal (s.domainKey o.domain gen) (gcmNonce gen inv) [] o.data
      s.placeExtent { o with chain := [] } gen inv ct tag h2 h3

/-! ## Reading pieces (R501, R505) -/

/-- Members whose piece of an extent can be read. -/
def State.readable (s : State) (v : Volume) (x : Extent) : List Nat :=
  (List.range v.width).filter fun i => !bit x.missing i && (s.memberDrive v x.group i).isSome

/-- Strip number of a member (R483). -/
def Volume.stripAt (v : Volume) (x : Extent) (i : Nat) : Nat := let w := max 1 v.width; (i + w - x.seq % w) % w

/-- Length of a drive's queue. -/
def State.queueLength (s : State) (v : Volume) (g i : Nat) : Nat :=
  match s.memberDrive v g i with
  | some d => (match s.drive d with | some x => x.cmds.length | none => 0)
  | none => 0

/-- Members to read first (R501): the mirror copy with the shortest queue, or the data strips, or with one of those gone any k
strips (R505). Empty when too few pieces are left. -/
def State.firstMembers (s : State) (v : Volume) (x : Extent) : List Nat :=
  let ms := s.readable v x
  if v.layout = 2 then
    let byStrip := ms.mergeSort fun a b => decide (v.stripAt x a ≤ v.stripAt x b)
    if ms.length < v.k then [] else byStrip.take v.k
  else
    match ms with
    | [] => []
    | i :: is => [is.foldl (fun b j => if s.queueLength v x.group j < s.queueLength v x.group b then j else b) i]

/-- Read the pieces of members for an operation's current extent. -/
def State.readPieces (s : State) (o : StoreOp) (x : Extent) (ms : List Nat) : State :=
  match s.volume x.vol with
  | none => s.failOp o .driveError
  | some v =>
    let len := 4096 * v.pieceBlocks x.blocks
    let (s, n) := ms.foldl (fun (acc : State × Nat) i =>
      match acc.1.memberDrive v x.group i with
      | none => acc
      | some d =>
        let (s, k) := acc.1.transfer d (fun off => .piece o.id 0 i off) false x.mlba len []
        (s, acc.2 + k)) (s, 0)
    s.setOp { o with stage := .reading, waits := o.waits + n }

/-- A piece that has arrived whole: its parts in order. -/
def StoreOp.piece (o : StoreOp) (i : Nat) : List Byte :=
  (((o.got.filter fun g => decide (g.1 = i)).mergeSort fun a b => decide (a.2.1 ≤ b.2.1)).map fun g => g.2.2).flatten

/-- The pieces that have arrived, with their members. -/
def StoreOp.pieces (o : StoreOp) (len : Nat) : List (Nat × List Byte) :=
  ((o.got.map fun g => g.1).eraseDups.map fun i => (i, o.piece i)).filter fun p => decide (p.2.length = len) && !o.bad.contains p.1

/-- Ciphertext of an extent from pieces. -/
def Volume.assemble (v : Volume) (x : Extent) (ps : List (Nat × List Byte)) : Option (List Byte) :=
  if v.layout = 2 then reconstruct v.k v.m (4096 * x.blocks) (ps.map fun p => (v.stripAt x p.1, p.2))
  else (ps.head?).map fun p => p.2.take (4096 * x.blocks)

/-- Decrypt an extent under the generation that wrote it; none when the tag fails (R414). -/
def State.openExtent (s : State) (x : Extent) (ct : List Byte) : Option (List Byte) :=
  gcmOpen (s.domainKey x.domain x.gen) (gcmNonce x.gen x.inv) [] ct x.tag

/-- Both hashes of a plaintext equal those of the map (R448). -/
def Extent.hashesMatch (x : Extent) (pt : List Byte) : Bool := decide (sha256 pt = x.sha) && decide (sha3_256 pt = x.sha3)

/-- Sublists of pieces with up to two removed, fewest first (R453). -/
def erasures (ps : List (Nat × List Byte)) (m : Nat) : List (List (Nat × List Byte)) :=
  let idx := List.range ps.length
  [ps] ++ (if m ≥ 1 then idx.map fun i => ps.eraseIdx i else []) ++
    (if m ≥ 2 then idx.flatMap fun i => ((idx.filter fun j => decide (j > i)).map fun j => (ps.eraseIdx j).eraseIdx i) else [])

/-- What a check of an extent's pieces finds (R453): the verified ciphertext and plaintext with the members whose piece differs,
or the kind of damage. -/
inductive Finding where
  | good (ct pt : List Byte) (bad : List Nat)
  | damaged (kind : Nat)
  deriving DecidableEq, Repr

/-- Resolve an extent from all its pieces (R453). -/
def State.resolveExtent (s : State) (v : Volume) (x : Extent) (ps : List (Nat × List Byte)) : Finding :=
  let cands := if v.layout = 2 then (erasures ps v.m).filterMap fun q => v.assemble x q else ps.map fun p => p.2.take (4096 * x.blocks)
  let opened := cands.filterMap fun ct => (s.openExtent x ct).map fun pt => (ct, pt)
  match opened.find? fun c => x.hashesMatch c.2 with
  | some (ct, pt) =>
    let differs (i : Nat) : Bool := match ps.find? fun p => decide (p.1 = i) with
      | some p => decide (p.2 ≠ v.pieceOf x ct i)
      | none => true
    .good ct pt ((s.readable v x).filter differs)
  | none => if opened = [] then .damaged 1 else .damaged 2

/-- Start the repair of an extent (R453): a journaled rewrite of the bad members' pieces, which leaves a Sweep-verified record. The
operation `parent` waits for it. -/
def State.startRepair (s : State) (x : Extent) (ct : List Byte) (bad : List Nat) (parent : Nat) : State :=
  match s.store.ops.find? fun o => decide (o.kind = .repair) && decide (o.ext = some x) with
  | some r => s.setOp { r with waiters := r.waiters ++ [parent] }
  | none =>
    let r := { StoreOp.fresh .repair .internal 0xFFFF x.vol x.ns x.lba x.blocks x.domain with
      ext := some x, data := ct, bad := bad, waiters := [parent]
      records := if s.store.rope.handed then [] else [s.recordOf x 2 false] }
    let (r, s) := s.addOp r
    s.openEntry r 2

/-- A repair that can be journaled now. -/
def State.canRepair (s : State) : Bool := s.journalUp && (s.store.rope.opened.isSome || s.store.rope.handed)

end Sys2Proof.Machine
end

