-- ==== Sys2Proof/Machine/StoreRun.lean ====
section
/-!
DEFINITION. Storage operations step by step: pieces that arrive or are written, journal items confirmed, operations that go on
after a wait, and the store descriptors (R142, R143, R498 to R506).
-/

namespace Sys2Proof.Machine

/-! ## Records of an operation (R418, R459) -/

/-- The records that an operation logs (R418, R459). A manifest record's own identity, length and OWNER bit stand in the first
record of a pulled extent. -/
def State.recordsFor (s : State) (o : StoreOp) : List (List Byte) :=
  match o.kind, o.ext with
  | .write, some x => [s.recordOf x 1 o.replayed]
  | .splice, some x =>
    let new := s.recordOf x 3 o.replayed
    match o.old with
    | some y =>
      if y.vol = 0xFFFF then
        [fixityRecord (y.rec'.take 16) (4096 * x.blocks) x.sha x.sha3 (bit (bfld y.rec' 0x58 2) 14) o.replayed 2 0, new]
      else [fixityRecord y.ident (4096 * x.blocks) x.sha x.sha3 (s.ownerDomain y.domain) o.replayed 2 0, new]
    | none => [new]
  | _, _ => o.records

/-! ## Extents read and checked (R448, R501) -/

/-- Deliver a read's data and end it (R501, step 4). -/
def State.endRead (s : State) (o : StoreOp) : State :=
  let s := if o.repaired then s.bump R.STORE_REPAIRED_READ else s
  match o.src with
  | .ring ref work =>
    let (s, _) := o.host.foldl (fun (acc : State × List Byte) r =>
      (acc.1.hostWrite ⟨refSpace ref, r.1, acc.2.take r.2, work, (s.ring ref).relaxed⟩, acc.2.drop r.2)) (s, o.out)
    s.endOp o .ok o.out.length 0
  | _ => s.endOp o .ok o.out.length 0

/-- Go on to the next extent of an operation that reads. -/
def State.readNext (s : State) (o : StoreOp) : State :=
  match o.todo with
  | [] => s.endRead o
  | x :: _ =>
    if x.damaged = 1 ∧ o.kind ≠ .sweep then s.failOp o .tagMismatch
    else if x.damaged = 2 ∧ o.kind ≠ .sweep then s.failOp o .fixityMismatch
    else if (s.domain x.domain).state ≠ 1 then s.failOp o .keyAbsent
    else match s.volume x.vol with
      | none => s.failOp o .driveError
      | some v =>
        let ms := if o.all then s.readable v x else s.firstMembers v x
        if ms = [] ∨ (s.readable v x).length < (if v.layout = 2 then v.k else 1) then s.failOp o .driveError
        else s.readPieces { o with got := [], bad := [], waits := 0 } x ms

/-- Write the missing pieces of a verified extent to members that are present (R506), as a journaled repair without a record. -/
def State.rebuildPieces (s : State) (o : StoreOp) (x : Extent) (pt : List Byte) : State :=
  let s := s.dropOp o.id
  match s.volume x.vol with
  | none => s
  | some v =>
    let ms := (List.range v.width).filter fun i => bit x.missing i && (s.memberDrive v x.group i).isSome
    let ct := (gcmSeal (s.domainKey x.domain x.gen) (gcmNonce x.gen x.inv) [] pt).1
    let y := { x with missing := x.missing - (ms.map fun i => 2 ^ i).sum }
    let (r, s) := s.addOp { StoreOp.fresh .repair .internal 0xFFFF x.vol x.ns x.lba x.blocks x.domain with ext := some y, data := ct, bad := ms }
    s.openEntry r 2

/-- An extent has verified (R448, R458, R501, R502): what its operation does with the plaintext. -/
def State.extentGood (s : State) (o : StoreOp) (x : Extent) (pt : List Byte) : State :=
  match o.kind with
  | .read =>
    let a := max x.lba o.lba
    let b := min (x.lba + x.blocks) (o.lba + o.blocks)
    let part := slice pt (4096 * (a - x.lba)) (4096 * (b - x.lba))
    let within := decide (x.lba ≤ o.lba) && decide (o.lba + o.blocks ≤ x.lba + x.blocks)
    let o := { o with out := splice o.out (4096 * (a - o.lba)) part, todo := o.todo.drop 1, got := [], bad := [], all := false
                      ext := some x, epoch := if within then x.recEpoch else 0, records := if within then [x.rec'] else [] }
    (s.setOp o).readNext o
  | .verify =>
    if s.store.rope.handed then s.endOp { o with ext := some x } .ok 0 0
    else s.toPlace { o with ext := some x, records := [s.recordOf x 2 o.replayed] }
  | .sweep =>
    if o.repaired then s.dropOp o.id
    else
      let log := match (s.adopted 17).block 0x0906 o.vol with | [] => true | b => bit (fld b 10 1) 6
      if log && decide (x.damaged = 0) && !s.store.rope.handed && s.store.rope.opened.isSome then s.toPlace { o with ext := some x, records := [s.recordOf x 2 o.replayed] }
      else if s.superseded x then (s.dropOp o.id).bump R.SWEEP_SUPERSEDED
      else (s.dropOp o.id).count64 R.SWEEP_VERIFIED 1
  | .splice => s.encryptOp { o with data := pt }
  | .rebuild => s.rebuildPieces o x pt
  | _ => s.failOp o .driveError

/-- An extent that no copy or reconstruction verifies (R453, R454). -/
def State.extentBad (s : State) (o : StoreOp) (x : Extent) (kind : Nat) : State :=
  let s := s.markDamaged x kind
  match o.kind with
  | .sweep => (s.dropOp o.id).bump R.SWEEP_UNREPAIRED
  | _ =>
    let s := if kind = 2 ∧ (o.kind = .read ∨ o.kind = .verify) then s.bump R.STORE_FIXITY_MISMATCH else s
    s.failOp o (if kind = 1 then .tagMismatch else .fixityMismatch)

/-- A redone repair has its verified bytes where they belong (R574): its record waits for the first epoch that opens, before any other write. -/
def State.finishRedo (s : State) (o : StoreOp) : State :=
  let s := s.dropOp o.id
  { s with store := { s.store with replay := { s.store.replay with
    later := s.store.replay.later ++ o.records.map fun r => (⟨2, s.entryOf o, r⟩ : Later) } } }

/-- A repair is redone after a reset (R574, R575): the verified bytes go to the same place on every member whose piece differs. -/
def State.redoPieces (s : State) (o : StoreOp) (x : Extent) (ct : List Byte) (bad : List Nat) : State :=
  let (s, n) := s.writePieces o x ct bad
  let o := { o with stage := .writing, waits := n, data := ct, bad := bad, todo := [], detail := 0 }
  let s := (s.setOp o).count R.REPLAY_PIECES bad.length
  if n = 0 then s.finishRedo o else s

/-- All pieces that can be read have arrived: resolve the extent, and repair what differs (R453, R455). -/
def State.settleExtent (s : State) (o : StoreOp) (v : Volume) (x : Extent) : State :=
  match s.resolveExtent v x (o.pieces (4096 * v.pieceBlocks x.blocks)) with
  | .damaged k => s.extentBad o x k
  | .good ct pt bad =>
    if o.kind = .repair then s.redoPieces o x ct bad
    else if bad ≠ [] ∧ s.canRepair then
      (s.setOp { o with stage := .repairing, data := pt }).startRepair x ct bad o.id
    else s.extentGood o x pt

/-- The pieces an operation asked for have arrived (R501). -/
def State.piecesArrived (s : State) (o : StoreOp) : State :=
  match o.todo with
  | [] => s.endRead o
  | x :: _ =>
    match s.volume x.vol with
    | none => s.failOp o .driveError
    | some v =>
      let len := 4096 * v.pieceBlocks x.blocks
      let rest := (s.readable v x).filter fun i => !(o.got.any fun g => decide (g.1 = i)) && !o.bad.contains i
      let askAll (s : State) (o : StoreOp) : State :=
        if rest = [] then s.settleExtent { o with all := true } v x else s.readPieces { o with all := true } x rest
      match s.drawKey x.domain x.gen false (gcmBlocks x.blocks) with
      | (.absent, s) => s.failOp o .keyAbsent
      | (.exhausted, s) => s.failOp o .keyExhausted
      | (.waits, s) => s.setOp { o with stage := .key }
      | (.ok _, s) =>
        if o.all then s.settleExtent o v x
        else match v.assemble x (o.pieces len) with
          | none => if rest = [] then s.failOp o .driveError (o.detail - 1) else askAll s o
          | some ct =>
            match s.openExtent x ct with
            | none =>
              let s := if o.kind = .read ∨ o.kind = .verify then s.bump R.STORE_TAG_MISMATCH else s
              askAll s o
            | some pt =>
              if o.rehash && !x.hashesMatch pt then s.extentBad o x 2 else s.extentGood o x pt

/-! ## Drive commands of an operation -/

/-- The pieces of a write or repair are all done (R499, R504): pieces on members lost meanwhile become missing. -/
def State.piecesWritten (s : State) (o : StoreOp) : State :=
  match o.ext with
  | none => s.failOp o .driveError
  | some x =>
    match s.volume x.vol with
    | none => s.failOp o .driveError
    | some v =>
      let lost := o.bad.filter fun i => v.lostAt x.group i
      if o.bad.any (fun i => !v.lostAt x.group i) then s.failOp o .driveError (o.detail - 1)
      else if lost = [] then s.toPlace { o with records := s.recordsFor o }
      else if o.kind ≠ .repair ∧ !v.writable x.group then (s.bump R.STORE_REFUSED_DEGRADED).failOp o .volumeDegraded
      else
        let s := if x.missing = 0 ∧ o.kind ≠ .repair then s.bump R.STORE_DEGRADED_WRITE else s
        let x := { x with missing := x.missing ||| v.missingBits x.group }
        let o := { o with ext := some x, bad := [] }
        s.toPlace { o with records := s.recordsFor o }

/-- One command of a piece has ended. -/
def State.pieceDone (s : State) (op member off : Nat) (ok : Bool) (status : Nat) (data : List Byte) : State :=
  match s.op op with
  | none => s
  | some o =>
    match o.stage with
    | .writing =>
      let o := { o with waits := o.waits - 1, bad := if o.kind = .repair then o.bad else if ok then o.bad else o.bad ++ [member]
                        detail := if ok then o.detail else status + 1 }
      let s := s.setOp o
      if o.waits ≠ 0 then s
      else if o.kind = .repair then (if o.detail ≠ 0 then s.failOp o .driveError (o.detail - 1) else if o.old.isSome then s.finishRedo o else s.toPlace { o with bad := [] })
      else s.piecesWritten o
    | .reading =>
      let o := { o with waits := o.waits - 1, bad := if ok then o.bad else o.bad ++ [member], detail := if ok then o.detail else status + 1
                        got := if ok then o.got ++ [(member, off, data)] else o.got }
      let s := s.setOp o
      if o.waits = 0 then s.piecesArrived o else s
    | _ => s

/-! ## Journal items confirmed (R499, R500, R575) -/

/-- The local source of a splice, from its first record's identity. -/
def State.spliceSource (s : State) (r : List Byte) : Option Extent :=
  let id := r.take 16
  (s.store.volumes.flatMap fun v => v.2.extents).find? fun e => decide (e.ident = id)

/-- Apply an entry's map change (R491, R575). -/
def State.applyMap (s : State) (e : JEntry) (epoch place : Nat) (rs : List (List Byte)) : State :=
  let r := rs.getLast?.getD []
  match e.op with
  | 1 => s.mapExtent { e.ext with epoch := epoch, place := place, recEpoch := epoch, rec' := r }
  | 3 =>
    let s := match s.spliceSource (rs.headD []) with
      | some y => if y.ns = e.ext.ns ∧ y.lba = e.ext.lba ∧ y.vol = e.ext.vol ∧ y.seq = e.ext.seq then s else s.removeExtent y (some epoch)
      | none => s
    s.mapExtent { e.ext with epoch := epoch, place := place + 1, recEpoch := epoch, rec' := r }
  | 2 =>
    match s.extentAt e.ext.vol e.ext.ns e.ext.lba e.ext.seq with
    | some y =>
      let y := { y with missing := e.ext.missing }
      s.setExtent (if r = [] then y else { y with recEpoch := epoch, rec' := r })
    | none => s
  | 5 => s.removeExtent e.ext none
  | _ => s

/-- End the operation whose COMPLETE is confirmed; a repair's waiters go on (R499, R502). -/
def State.finishOp (s : State) (o : StoreOp) : State :=
  match o.kind with
  | .write => s.endOp o .ok (4096 * o.blocks) 0
  | .verify => s.endOp o .ok 0 0
  | .sweep => (s.dropOp o.id).count64 R.SWEEP_VERIFIED 1
  | .splice => s.endOp o .ok (4096 * o.blocks) 0
  | .tomb => (s.bump R.TRANSCRYPT_TOMBSTONES).endOp o .ok 0 0
  | .dealloc =>
    match o.todo with
    | x :: rest =>
      let o := { o with todo := rest, ext := some x, old := some x, entry := 0 }
      (s.setOp o).openEntry o 5
    | [] => s.endOp o .ok 0 0
  | .repair =>
    let s := s.dropOp o.id
    let s := if o.waiters = [] ∧ o.records = [] then s else s.bump R.SWEEP_REPAIRED
    o.waiters.foldl (fun s w => match s.op w, o.ext with
      | some p, some x => s.extentGood { p with repaired := true } x p.data
      | _, _ => s) s
  | .read => s
  | .rebuild => s.dropOp o.id

/-- A repair that could not be journaled or written: its waiters go on with the data they have. -/
def State.dropRepair (s : State) (o : StoreOp) : State :=
  o.waiters.foldl (fun s w => match s.op w, o.ext with
    | some p, some x => if p.kind = .sweep then (s.dropOp p.id).bump R.SWEEP_UNREPAIRED else s.extentGood p x p.data
    | _, _ => s) s

/-- The operation that runs under an entry. -/
def State.opOfEntry (s : State) (id : Nat) : Option StoreOp := s.store.ops.find? fun o => decide (o.entry = id)

/-- Both journal drives hold an item (R492, R499). -/
def State.confirmItem (s : State) (i : JItem) : State :=
  match i with
  | .start e =>
    let s := match s.live e.id with | some l => s.setLive { l with openOk := true } | none => s
    match s.opOfEntry e.id with
    | none => s
    | some o => match o.kind with
      | .write | .splice | .repair => s.startPieces o
      | .dealloc => s.toPlace { o with records := [] }
      | _ => s.toPlace o
  | .complete e ep p rs =>
    if (s.live e.id).any Live.abandoned then s
    else
    let s := match s.live e.id with
      | some l => s.setLive { l with e := e, complete := some (ep, p, rs), applied := true }
      | none => s
    let s := (s.applyMap e ep p rs).confirmPlaces ep p rs
    match s.opOfEntry e.id with
    | some o => s.finishOp o
    | none => s
  | .abandon _ => s
  | .release _ => s

/-- A journal write has failed on a drive (R419, R497): operations that waited for it fail before their COMPLETE. -/
def State.failItem (s : State) (i : JItem) : State :=
  match i with
  | .start e | .complete e _ _ _ =>
    match s.opOfEntry e.id with
    | some o =>
      let s := s.failOp o .journalUnavailable
      if o.kind = .repair then s.dropRepair o else s
    | none => s
  | _ => s

/-- One command of a journal block has ended. -/
def State.journalDone (s : State) (seq : Nat) (serial : List Byte) (ok : Bool) : State :=
  match s.store.blocks.find? fun b => decide (b.seq = seq) with
  | none => s
  | some b =>
    let b := { b with waits := b.waits - 1, valid := if ok then b.valid ++ [serial] else b.valid, failed := b.failed || !ok }
    let s := { s with store := { s.store with blocks := s.store.blocks.map fun x => if x.seq = seq then b else x } }
    if b.waits ≠ 0 then s
    else if b.failed then b.items.foldl State.failItem s
    else b.items.foldl State.confirmItem (s.count64 R.JOURNAL_BLOCKS 1)

/-! ## Operations that waited -/

/-- Let every operation that waits for a lease, ring space or a place try again, in order. -/
def State.storeRetry (s : State) : State :=
  s.store.ops.foldl (fun s q => match s.op q.id with
    | none => s
    | some o => match o.stage with
      | .key => if o.todo ≠ [] ∧ o.got ≠ [] then s.piecesArrived o else s.encryptOp o
      | .space => s.openEntry o o.kind.code
      | .place => s.toPlace o
      | _ => s) s

/-! ## Store descriptors (R142, R143, R498) -/

/-- A store descriptor is well formed for its TYPE (R142, R143). -/
def storeDescOk (d : List Byte) : Bool :=
  let t := fld d 0 2
  let f := fld d 2 2
  let len := fld d 0x18 4
  decide (0x0301 ≤ t ∧ t ≤ 0x0305) && decide (bits f 14 3 = 0) && zeros d 0x0A 2 && zeros d 0x1C 4 && zeros d 0x2C 4 && zeros d 0x38 8 &&
    (decide (t = 0x0303) || (decide (fld d 0x10 8 < 2 ^ 48) && decide (len % 4096 = 0) && decide (4096 ≤ len ∧ len ≤ 16777216) &&
      (decide (t ≥ 0x0304) || !bit f 0 || decide (1 ≤ fld d 0x28 4 ∧ fld d 0x28 4 ≤ 4096))))

/-- Global number of a namespace that a party names (R498; for the owner the number itself, DEDUCED, log entry 33). -/
def State.nsOf (s : State) (room : Option Nat) (n : Nat) : Option Nat :=
  match room with
  | some r => (s.store.spaces.find? fun e => decide (e.2.room = r) && decide (e.2.index = n) && !e.2.gone).map fun e => e.1
  | none => (s.store.spaces.find? fun e => decide (e.1 = n) && decide (e.2.room = 0xFFFF) && !e.2.gone).map fun e => e.1

/-- Slot of a key domain that a party names: an active one, else a destroyed one that it held. -/
def State.domainOf (s : State) (room : Option Nat) (n : Nat) : Option Nat :=
  match room with
  | some r =>
    match s.slotOf r n with
    | some k => some k
    | none => (s.sr.vault.find? fun e => decide (e.2.room = r) && decide (e.2.index = n) && decide (e.2.state ≠ 0)).map fun e => e.1
  | none => if (s.domain n).state ≠ 0 ∧ (s.domain n).room = 0xFFFF then some n else none

/-- What refuses a storage operation (R498). `kind` is the operation; the store's own refusals come in the table's order. -/
def State.storeRefuses (s : State) (kind : OpKind) (ns dom : Option Nat) (lba blocks : Nat) (roExport : Bool) : Option Status × State :=
  let writes : Bool := match kind with | .write | .dealloc => true | _ => false
  match ns, dom with
  | some n, some k =>
    if s.store.path < 2 then (some .journalUnavailable, s)
    else match s.space n with
      | none => (some .notPermitted, s)
      | some sp =>
        if writes && (sp.readOnly || roExport || decide (s.store.path = 3) || s.store.rope.handed) then (some .notPermitted, s)
        else if lba + blocks > sp.size then (some .invalidParam, s)
        else
          let hit := s.extentsIn n lba blocks
          if kind = .write ∧ hit.any (fun e => decide (e.lba ≠ lba ∨ e.blocks ≠ blocks)) then (some .invalidParam, s.bump R.STORE_OVERLAP)
          else if kind = .dealloc ∧ (hit = [] ∨ hit.any (fun e => decide (e.lba < lba ∨ e.lba + e.blocks > lba + blocks)) ∨
              (hit.map fun e => e.blocks).sum ≠ blocks) then (some .invalidParam, s)
          else if kind = .verify ∧ !(hit.length = 1 ∧ hit.all fun e => decide (e.lba = lba ∧ e.blocks = blocks)) then (some .invalidParam, s)
          else if kind = .write ∧ (s.domain k).state ≠ 1 then (some .keyAbsent, s)
          else if writes && !s.journalUp then (some .journalUnavailable, s.bump R.JOURNAL_SINGLE_REFUSED)
          else (none, s)
  | _, _ => (some .notPermitted, s)

/-- Begin an operation whose data has arrived (R499, R501, R502). -/
def State.beginOp (s : State) (o : StoreOp) : State :=
  match o.kind with
  | .write => s.encryptOp o
  | .read =>
    let o := { o with out := pad (4096 * o.blocks), todo := s.extentsIn o.ns o.lba o.blocks }
    (s.setOp o).readNext o
  | .verify =>
    let o := { o with todo := (s.extentsIn o.ns o.lba o.blocks).take 1, rehash := true }
    (s.setOp o).readNext o
  | .dealloc =>
    match s.extentsIn o.ns o.lba o.blocks with
    | x :: rest =>
      let o := { o with todo := rest, ext := some x, old := some x }
      (s.setOp o).openEntry o 5
    | [] => s.endOp o .ok 0 0
  | _ => s

/-- Ranges of a scatter list: entries of ADDR (8 B), LENGTH (4 B) and 4 reserved bytes (PRESUMED, log entry 34). -/
def sglRanges (bs : List Byte) (n : Nat) : List (Nat × Nat) := (List.range n).map fun i => (fld bs (16 * i) 8, fld bs (16 * i + 8) 4)

/-- The operation of a ring's work item. -/
def State.opOfWork (s : State) (ref id : Nat) : Option StoreOp := s.store.ops.find? fun o => decide (o.src = .ring ref id)

/-- A store work item's host reads or translations have arrived: the scatter list, then the data (R49, R66, R499). -/
def State.storeReady (s : State) (ref : Nat) (e : Entry) : State :=
  match s.opOfWork ref e.id with
  | none => s
  | some o =>
    if o.stage ≠ .data then s
    else
      let d := e.desc
      let len := fld d 0x18 4
      if o.host = [] then
        let rs := sglRanges (s.hostRead (refSpace ref) (fld d 0x20 8) (16 * fld d 0x28 4)) (fld d 0x28 4)
        if (rs.map fun r => r.2).sum ≠ len then ((s.dropOp o.id).bump R.RINGENG_BAD_DESC).endWork ref e (storeCompletion d .invalidParam false 0 0 0 0) .badDesc
        else
          let (pages, s) := s.translate (refSpace ref) rs
          let o := { o with host := rs }
          let e := { e with redo := if o.kind = .write then s.requests rs else [], pages := pages }
          let s := (s.setOp o).setWork ref e
          if o.kind = .write then s.driveReads ref e else if pages = [] then s.beginOp o else s
      else
        let o := if o.kind = .write then { o with data := (o.host.flatMap fun r => s.hostRead (refSpace ref) r.1 r.2).take len } else o
        (s.setOp o).beginOp o

/-- The kind of operation of a descriptor TYPE. -/
def kindOfType (t : Nat) : OpKind :=
  match t with
  | 0x0301 => .write
  | 0x0302 => .read
  | 0x0304 => .dealloc
  | _ => .verify

/-- Take a fetched store descriptor in (R142, R498). -/
def State.takeStore (s : State) (ref : Nat) (e : Entry) : State :=
  let d := e.desc
  let t := fld d 0 2
  if !storeDescOk d then s.badDesc ref e (storeCompletion d .invalidParam false 0 0 0 0)
  else if t = 0x0303 then (s.addWork ref e).endFlushes ref 64
  else
    let room := refSpace ref
    let kind := kindOfType t
    let ns := s.nsOf room (fld d 8 2)
    let dom := s.domainOf room (fld d 0x0C 4)
    let lba := fld d 0x10 8
    let len := fld d 0x18 4
    let lost : Bool := match room with | some r => decide (ns = none) && (s.room r).dropped.contains (fld d 8 2) | none => false
    match (if lost then (some Status.invalidParam, s) else s.storeRefuses kind ns dom lba (len / 4096) false) with
    | (some st, s) => (s.addWork ref e).endWork ref e (storeCompletion d st false 0 0 0 0)
    | (none, s) =>
      let n := ns.getD 0
      let vol := match s.space n with | some sp => sp.vol | none => 0
      let f := fld d 2 2
      let sgl := bit f 0 && decide (t < 0x0304)
      let hasVor := match s.volume vol with | some v => bit v.flags 6 | none => false
      let o := { StoreOp.fresh kind (.ring ref e.id) (room.getD 0xFFFF) vol n lba (len / 4096) (dom.getD 0) with
        rehash := bit f 1 || hasVor, fixity := if t = 0x0304 then 0 else fld d 0x30 8
        host := if sgl then [] else [(fld d 0x20 8, len)] }
      let (o, s) := s.addOp o
      if t ≥ 0x0304 then (s.addWork ref e).beginOp o
      else if sgl then s.beginReads ref e [(fld d 0x20 8, 16 * fld d 0x28 4)]
      else if kind = .write then s.beginReads ref e o.host
      else
        let (pages, s) := s.translate room o.host
        let s := s.addWork ref { e with pages := pages }
        if pages = [] then s.beginOp o else s

/-- The ring engine fetches the next descriptor of a store ring when it is of the given TYPE, or of none that exists; further
descriptors wait while 65,536 operations are in flight (R498). -/
def State.storeFetch (s : State) (ref type : Nat) : State :=
  if refKind ref ≠ 2 ∨ s.store.ops.length ≥ 65536 then s
  else match s.fetchGranted ref with
    | none => s.askEntry ref
    | some (index, pass, d, s') =>
      let t := fld d 0 2
      if t = type ∨ !decide (0x0301 ≤ t ∧ t ≤ 0x0305) then
        let (id, s') := s'.workId
        s'.takeStore ref (Entry.fresh id index pass d)
      else s

/-- STORE_WRITE (R499): the ring engine takes a write descriptor; its data, journal entries and pieces follow as they arrive. -/
def execStoreWrite (ref : Nat) (s : State) : Res := .next (s.storeFetch ref 0x0301)
/-- STORE_READ (R501). -/
def execStoreRead (ref : Nat) (s : State) : Res := .next (s.storeFetch ref 0x0302)
/-- STORE_FLUSH (R502). -/
def execStoreFlush (ref : Nat) (s : State) : Res := .next (s.storeFetch ref 0x0303)
/-- STORE_DEALLOCATE (R502). -/
def execStoreDeallocate (ref : Nat) (s : State) : Res := .next (s.storeFetch ref 0x0304)
/-- STORE_VERIFY (R502). -/
def execStoreVerify (ref : Nat) (s : State) : Res := .next (s.storeFetch ref 0x0305)

end Sys2Proof.Machine
end

