-- ==== Sys2Proof/Machine/StoreEvents.lean ====
section
/-!
DEFINITION. Events of the drive fabric and of the rope: completions, losses, timeouts, hot-plug, resynchronisation, rebuild and the
publication of knots (R434, R435, R472 to R480, R497, R503, R506).
-/

namespace Sys2Proof.Machine

/-! ## Drive commands end (R476) -/

/-- What a drive command's end means to whoever waits for it: it succeeded, or failed with a status. -/
def State.cmdEnd (s : State) (serial : List Byte) (use : CmdUse) (ok : Bool) (status : Nat) (data : List Byte) : State :=
  match use with
  | .journal seq => s.journalDone seq serial ok
  | .knot ep => s.setRope (s.store.rope.modify ep fun e => { e with writes := e.writes - 1, failed := e.failed || !ok })
  | .piece op _ member off => s.pieceDone op member off ok status data
  | .sanitize => match s.driveOf serial with
    | some (d, x) => s.setDrive d { x with sanitizing := false }
    | none => s
  | .smart => s
  | .other => s

/-- The commands of a drive that is lost or reset fail (R479, R480). No status of the drive's own exists then: the one shown is a free value. -/
def State.cmdsFail (s : State) (x : Drive) : State :=
  x.cmds.foldl (fun s c => let v := s.free; v.2.cmdEnd x.serial c.use false (v.1.toNat % 2 ^ 32) []) s

/-- First beat of a DRIVE_COMPLETION message (R308); what its payload holds is the firmware's (a free value). -/
def State.driveBeat (s : State) : Vec × State :=
  let (v, s) := s.free
  (BitVec.ofNat 512 (0x0007 + 2 ^ 48 + 0xFFFF * 2 ^ 80 + 0xFFFFFFFF * 2 ^ 128 + v.toNat * 2 ^ 256), s)

/-- The drive's MSI-X message reaches a storage thread's home line (R308, R476); a full line takes none (DESIGN CHOICE, log entry 36). -/
def State.driveMessage (s : State) (id : Nat) : State :=
  if s.storageThreads = [] then s
  else
    let (b, s) := s.driveBeat
    (s.unitMessage 17 (s.opThread id) [b]).1

/-- A command serves foreground work: it belongs to a ring's or a connection's operation. -/
def State.foreground (s : State) (use : CmdUse) : Bool :=
  match use with
  | .piece op _ _ _ => match s.op op with
    | some o => (match o.src with | .ring _ _ | .conn _ _ => true | _ => false)
    | none => false
  | _ => false

/-- DRIVE_COMPLETION (R476): a drive reports the end of a command with its NVMe status; a read brings its data. -/
def execDriveCompletion (drive : Fin 64) (id status : Nat) (data : List Byte) (s : State) : Res :=
  match s.drive drive.val with
  | none => .next s
  | some x =>
    match x.cmds.find? fun c => decide (c.id = id) with
    | none => .next s
    | some c =>
      let x := { x with cmds := x.cmds.filter fun d => decide (d.id ≠ id), resetAt := none }
      let x := x.account s.clock (4096 * c.blocks) (s.foreground c.use)
      let s := (s.setDrive drive.val x).driveMessage id
      .next (s.cmdEnd x.serial c.use (decide (status = 0)) status (fit data (if c.write then 0 else 4096 * c.blocks))).storeRetry

/-! ## Lost drives (R479, R497, R503) -/

/-- The volume and position of a member's serial number. -/
def State.memberOf (s : State) (serial : List Byte) : Option (Nat × Volume × Nat) :=
  s.store.volumes.findSome? fun v =>
    match v.2.members.findIdx? fun m => decide (m = serial) with
    | some i => if v.2.lost.contains i then none else some (v.1, v.2, i)
    | none => none

/-- The storage path closes when both journal drives are lost (R497). -/
def State.closeIfNoJournal (s : State) : State :=
  if s.store.journal ≠ [] ∧ s.store.jLost.length ≥ s.store.journal.length then { s with store := { s.store with path := 0 } } else s

/-- A journal drive is lost (R497): writes in flight fail before their COMPLETE, and what was queued is given up. -/
def State.loseJournal (s : State) (serial : List Byte) : State :=
  if !s.store.journal.contains serial ∨ s.store.jLost.contains serial then s
  else
    let items := s.store.queue
    let kept := items.filter fun i => match i with | .abandon _ | .release _ => true | _ => false
    let s := { s with store := { s.store with jLost := s.store.jLost ++ [serial], queue := kept
                                              queueSince := if kept = [] then none else s.store.queueSince } }
    let s := items.foldl State.failItem s
    let s := s.store.ops.foldl (fun s q => match s.op q.id with
      | none => s
      | some o => match o.kind, o.stage with
        | .read, _ | .rebuild, _ | .sweep, .reading | .verify, .reading | .verify, .data => s
        | _, .completing => s
        | .repair, _ => (s.failOp o .journalUnavailable).dropRepair o
        | _, _ => s.failOp o .journalUnavailable) s
    s.closeIfNoJournal

/-- Declare a drive lost (R479, steps 2 to 4): its volume degrades, the owner is told, its commands fail. -/
def State.loseDrive (s : State) (d : Nat) : State :=
  match s.drive d with
  | none => s
  | some x =>
    if x.lost then s
    else
      let s := (s.setDrive d { x with lost := true, cmds := [], sanitizing := false }).bump R.DRV_LOST
      let m := s.memberOf x.serial
      let s := match m with
        | some (n, v, i) => s.setVolume n { v with lost := v.lost ++ [i], rebuilding := v.rebuilding.filter fun r => decide (r ≠ i) }
        | none => s
      let vol := match m with | some (n, _, _) => n | none => 0xFFFF
      let s := (s.loseJournal x.serial).postOwner 9 (x.port * 256 + d) vol
      (s.cmdsFail x).storeRetry

/-- DRIVE_REMOVAL (R479): the port contains the link, or the switch above it reports the link down; the drive is lost, and its index is free again once
containment ends. The port of a drive behind a switch stays up. -/
def execDriveRemoval (drive : Fin 64) (s : State) : Res :=
  match s.drive drive.val with
  | none => .next s
  | some x =>
    let s := s.loseDrive drive.val
    .next { s with store := { s.store with
      drives := Tbl.erase drive.val s.store.drives
      ports := if x.direct then Tbl.set (fun _ => DrvPort.empty) s.store.ports x.port DrvPort.empty else s.store.ports } }

/-! ## Timeouts (R480) -/

/-- DRIVE_CMD_TIMEOUT (R480): the command is aborted; a third timeout within 60 s loses the drive. -/
def execDriveCmdTimeout (drive : Fin 64) (id : Nat) (s : State) : Res :=
  match s.drive drive.val with
  | none => .next s
  | some x =>
    match x.cmds.find? fun c => decide (c.id = id) with
    | none => .next s
    | some c =>
      if c.aborted.isSome ∨ s.clock < c.issued + s.store.timeoutMs * 1000000 then .next s
      else
        let ts := (x.timeouts.filter fun t => decide (s.clock < t + 60000000000)) ++ [s.clock]
        let x := { x with timeouts := ts, cmds := x.cmds.map fun d => if d.id = id then { d with aborted := some s.clock } else d }
        let s := ((s.setDrive drive.val x).bump R.DRV_CMD_TIMEOUT).emit (.drive drive.val id 0x108 0 0 [])
        .next (if ts.length ≥ 3 then s.loseDrive drive.val else s)

/-- CONTROLLER_RESET (R480): a command still outstanding 1 s after its abort resets the controller; its commands fail. -/
def execControllerReset (drive : Fin 64) (s : State) : Res :=
  match s.drive drive.val with
  | none => .next s
  | some x =>
    if x.cmds.any fun c => match c.aborted with | some t => decide (t + 1000000000 ≤ s.clock) | none => false then
      let s := (s.setDrive drive.val { x with cmds := [], resetAt := some s.clock, sanitizing := false }).bump R.DRV_CTRL_RESET
      .next (s.cmdsFail x).storeRetry
    else .next s

/-- CONTROLLER_READY_TIMEOUT (R480): a controller not ready 10 s after its reset is lost. -/
def execControllerReadyTimeout (drive : Fin 64) (s : State) : Res :=
  match s.drive drive.val with
  | none => .next s
  | some x => match x.resetAt with
    | some t => .next (if t + 10000000000 ≤ s.clock then s.loseDrive drive.val else s)
    | none => .next s

/-! ## Enumeration and hot-plug (R472 to R478) -/

/-- A drive as enumeration finds it. -/
def Drive.found (i : DriveInfo) (returned : Bool) : Drive :=
  ⟨fit i.serial 20, i.port, i.blocks, i.lbaOk, i.vwc, i.trim, i.mdts, i.width, i.rate, i.degraded, 0, false, false, [], [], none, 0, 0, 0, false, false,
    returned, i.direct, []⟩

/-- Root ports of a bifurcation, and the width of each (R472). -/
def rootPorts (fabric : Nat) : Nat := 2 ^ (3 - fabric % 4)

/-- Enable one function, or leave it disabled and count it (R472, R474). A root port that the bifurcation does not have shows no function; one trains at any
width up to its own (R473). -/
def State.addDrive (s : State) (i : DriveInfo) (returned : Bool) : State :=
  if rootPorts s.store.fabric ≤ i.port then s
  else
    let port : DrvPort := ⟨true, true, false, min i.width (32 / rootPorts s.store.fabric), i.rate⟩
    let s := { s with store := { s.store with ports := Tbl.set (fun _ => DrvPort.empty) s.store.ports i.port port } }
    if !i.nvme ∨ (s.store.fabric = 3 ∧ i.direct) ∨ s.store.drives.length ≥ 64 then s.bump R.DRV_NON_NVME
    else s.setDrive (firstFree (s.store.drives.map fun e => e.1) 0 64) (Drive.found i returned)

/-- DRIVE_ENUMERATION (R474): after release, every root port is enumerated afresh. -/
def execDriveEnumeration (found : List DriveInfo) (s : State) : Res :=
  let s := { s with store := { s.store with drives := [], ports := [] } }
  .next (found.foldl (fun s i => s.addDrive i false) s)

/-- DRIVE_HOT_ADD (R478, R506): the drive appears unassigned; no event is posted. -/
def execDriveHotAdd (info : DriveInfo) (s : State) : Res :=
  if s.store.drives.any fun e => decide (e.2.serial = fit info.serial 20) then .next s else .next (s.addDrive info true)

/-- DRIVE_ASYNC_EVENT (R477): the SMART log is read; read-only media, and on a journal drive a failed memory backup, lose the
drive. -/
def execDriveAsyncEvent (drive : Fin 64) (warning : BitVec 8) (s : State) : Res :=
  match s.drive drive.val with
  | none => .next s
  | some x =>
    let s := (s.setDrive drive.val { x with critical := warning.toNat }).emit (.drive drive.val 0 0x102 0 0 [])
    .next (if warning.getLsbD 3 ∨ (s.store.journal.contains x.serial ∧ warning.getLsbD 4) then s.loseDrive drive.val else s)

/-- DRIVE_INBOUND_REQUEST (R475): admitted only inside a buffer of an outstanding command. -/
def execDriveInboundRequest (drive : Fin 64) (addr len : Nat) (posted : Bool) (s : State) : Res :=
  match s.drive drive.val with
  | none => .next s
  | some x =>
    if x.cmds.any fun c => decide (c.buf ≤ addr) && decide (addr + len ≤ c.buf + 4096 * c.blocks) then .next s
    else
      let s := s.bump R.DRV_INBOUND_REFUSED
      .next (if posted then s else s.emit (.drive drive.val 0 0x200 0 0 []))

/-! ## Resynchronisation and rebuild (R497, R506) -/

/-- JOURNAL_RESYNC (R497): the new journal drive holds every region and the unreleased part of the entry ring; writes resume. -/
def execJournalResync (s : State) : Res :=
  if !s.store.resync then .next s
  else
    let s := { s with store := { s.store with resync := false
                                              blocks := s.store.blocks.map (fun (b : JBlock) => if b.failed then b else { b with valid := s.store.journal }) } }
    .next s.submitKnots.storeRetry

/-- A group member still awaits pieces of some extent. -/
def Volume.unfinished (v : Volume) (pos : Nat) : Bool :=
  v.extents.any fun x => decide (x.group = pos / max 1 v.width) && bit x.missing (pos % max 1 v.width) && decide (x.damaged = 0)

/-- REBUILD_EXTENT (R506): the next extent with a missing piece on a present member is verified and its pieces are written; with none
left the group is whole again. It reads at the volume's REBUILD_SHARE. -/
def execRebuildExtent (vol : Fin 256) (s : State) : Res :=
  match s.volume vol.val with
  | none => .next s
  | some v =>
    let v := { v with rebuilding := v.rebuilding.filter fun p => v.unfinished p }
    let s := s.setVolume vol.val v
    match v.extents.find? fun x => decide (x.damaged = 0) &&
        v.rebuilding.any (fun p => decide (x.group = p / max 1 v.width) && bit x.missing (p % max 1 v.width)) &&
        !(s.store.ops.any fun o => decide (o.old = some x)) with
    | none => .next s
    | some x =>
      let n := 4096 * v.pieceBlocks x.blocks
      if !s.groupAllows v x.group n ⟨18, v.share, false, none⟩ then .next s
      else
        let s := s.spend v x.group n 18
        let o := { StoreOp.fresh .rebuild .internal 0xFFFF vol.val x.ns x.lba x.blocks x.domain with old := some x, todo := [x], all := true }
        let (o, s) := s.addOp o
        .next (s.readNext o)

/-! ## Knots published (R434, R435) -/

/-- DBG_UNLOCK to level 2 ends once the DEBUG knot is published (R385): keys are zeroized, the vault locks, signing stops. -/
def State.enterLevelTwo (s : State) : State :=
  if (s.runningOn 0x0C01 0).isSome ∧ s.store.rope.closed = [] then
    let old := s.sr.debugLevel
    let s := (s.purgeKeys fun _ => true)
    let s := { s with sr := { s.sr with debugLevel := 2, vaultLocked := true, sessions := [], cache := [] }, store := { s.store with leases := [] } }
    let s := s.measureConfig.ledger 10 6 0 (leBytes old 1 ++ leBytes 2 1 ++ pad 14)
    s.endRunning 0x0C01 0 .ok []
  else s

/-! ## Registers (R513) -/

/-- `STORE.STATUS`. -/
def State.storeStatus (s : State) : Nat :=
  let x := s.store
  (x.volumes.filter fun v => decide (v.2.state ≠ 0)).length * 256 + b01 (decide (x.jLost.length = 1)) * 128 +
    b01 (x.volumes.any fun v => decide (v.2.rebuilding ≠ [])) * 64 + b01 (x.drives.any fun d => d.2.sanitizing) * 32 +
    b01 (x.volumes.any fun v => bit v.2.flags 7) * 8 + b01 (decide (x.journal ≠ [])) * 4 + x.path

/-- `DRV.FABRIC`. -/
def State.drvFabric (s : State) : Nat :=
  s.store.fabric * 2 ^ 16 + ((s.store.ports.map fun p => if p.2.up then 2 ^ p.1 else 0).sum) * 256 + s.store.drives.length

/-- `DRV.PORT_STATUS` of a root port; SRIS comes from the booted image's header (R473). -/
def State.drvPort (s : State) (n : Nat) : Nat :=
  let p := Tbl.get (fun _ => DrvPort.empty) s.store.ports n
  b01 (bit (fld s.sr.header 0x28 1) n) * 2 ^ 13 + b01 p.contained * 4096 + b01 p.present * 2048 + b01 p.up * 1024 + p.width * 16 + p.rate

/-- DREFCLK outputs that are driven, bit n for output n (R473, R592): those of root ports that run with a common clock. -/
def State.drefclk (s : State) : Nat :=
  let n := rootPorts s.store.fabric
  ((List.range n).map fun p => if bit (fld s.sr.header 0x28 1) p then 0 else 2 ^ (p * 8 / n)).sum

end Sys2Proof.Machine
end

