-- ==== Sys2Proof/Machine/Sweeps.lean ====
section
/-!
DEFINITION. Fixity sweeps, transcryption batches, crypto-erasure and background deallocation (R376, R448 to R471, R489).
-/

namespace Sys2Proof.Machine

/-! ## Sweep settings (R449, R451) -/

/-- A sweep record in force on a volume: none when the volume is not swept (R449). -/
def sweepOn (b : List Byte) : Bool := decide (b ≠ []) && bit (fld b 10 1) 7

/-- SHARE of a sweep block. -/
def sweepShare (b : List Byte) : Nat := fld b 12 2

/-- Volumes that a batch uses (R451). -/
def Batch.uses (b : Batch) (vol : Nat) : Bool :=
  decide (b.target = vol) || (decide (b.kind ≠ 3) && decide (fld b.ctx.pkt.params 8 2 = vol))

/-- SHARE of the batches that use a volume's drives; a drive belongs to one volume (R481). -/
def State.batchShare (s : State) (vol : Nat) : Nat :=
  ((s.store.batches.filter fun b => b.2.uses vol).map fun b => fld b.2.ctx.pkt.params 6 2).sum

/-- A SWEEP_SET record's fields are in range, and its volume exists in the generation that would be built (R449). -/
def State.sweepRecOk (s : State) (r : List Byte) : Bool :=
  decide (s.built 0x0900 (fld r 0 2) ≠ []) && decide (1 ≤ fld r 4 2 ∧ fld r 4 2 ≤ 500) && decide (24 ≤ fld r 8 4 ∧ fld r 8 4 ≤ 87660)

/-- SWEEP_SET (0x0906, R449, R451). -/
def cmdSweepSet : Command where
  opcode := 0x0906
  front := true
  room := false
  mctp := false
  recovery := false
  sched := false
  shape := recShape 8 16 0 2 1 256
  zero := fun bs => zeros bs 2 6 && zeroRecs 8 16 (fun bs => fld bs 0 2) [(3, 1), (6, 2), (12, 4)] bs &&
    (recordsOf bs 8 16 (fld bs 0 2)).all fun r => decide (fld r 2 1 % 32 = 0)
  body := fun x s =>
    let rs := recordsOf x.pkt.params 8 16 (fld x.pkt.params 0 2)
    if rs.all s.sweepRecOk && rs.all (fun r => !bit (fld r 2 1) 7 || decide (fld r 4 2 + s.batchShare (fld r 0 2) ≤ 500)) then
      Out.of (s.stageRecs 0x0906 (countOne 2 8) (fun r => fld r 0 2) rs) .ok
    else Out.of s .invalidParam

/-! ## Sweep cycles (R450, R455) -/

/-- A cycle still visits or checks extents. -/
def State.sweeping (s : State) (vol : Nat) (v : Volume) : Bool :=
  match v.cycle with
  | none => false
  | some c => decide (c.left ≠ []) || s.store.ops.any fun o => decide (o.src = .sweep vol)

/-- End a cycle that has visited everything, or whose volume is no longer swept. -/
def State.endCycle (s : State) (vol : Nat) : State :=
  match s.volume vol with
  | none => s
  | some v =>
    match v.cycle with
    | none => s
    | some c => if s.sweeping vol v ∧ sweepOn ((s.adopted 17).block 0x0906 vol) then s else s.setVolume vol { v with cycle := none, lastCycle := some c.start }

/-- SWEEP_CYCLE_START (R450): the extents that exist now, in ascending namespace and then LBA order; not earlier than CYCLE_HOURS
after the cycle before it began. -/
def execSweepCycleStart (vol : Fin 256) (s : State) : Res :=
  let s := s.endCycle vol.val
  match s.volume vol.val with
  | none => .next s
  | some v =>
    let b := (s.adopted 17).block 0x0906 vol.val
    let due : Bool := match v.lastCycle with | none => true | some t => decide (t + fld b 16 4 * 3600000000000 ≤ s.clock)
    if !sweepOn b ∨ v.cycle.isSome ∨ !due ∨ s.store.path < 2 then .next s
    else
      let ids := (v.extents.map fun x => (x.ns, x.lba, x.seq)).mergeSort fun a b => decide (a.1 < b.1) || (decide (a.1 = b.1) && decide (a.2.1 ≤ b.2.1))
      .next (s.setVolume vol.val { v with cycle := some ⟨s.clock, ids, false⟩ })

/-- Bytes that a cycle has still to read from the drive at a member's place. -/
def Volume.bytesLeft (v : Volume) (vol g : Nat) (left : List (Nat × Nat × Nat)) : Nat :=
  ((v.extents.filter fun x => decide (x.vol = vol) && decide (x.group = g) && left.contains (x.ns, x.lba, x.seq)).map
    fun x => 4096 * v.pieceBlocks x.blocks).sum

/-- SHARE and pace of a cycle on the drives of a group (R450): the bytes it has still to read there, and the time it has left. -/
def State.sweepSharing (s : State) (vol : Nat) (v : Volume) (c : Cycle) (g : Nat) : Share :=
  let b := (s.adopted 17).block 0x0906 vol
  ⟨0, sweepShare b, bit (fld b 10 1) 5, some (v.bytesLeft vol g c.left, c.start + fld b 16 4 * 3600000000000 - s.clock)⟩

/-- The pace that would finish the cycle on time exceeds a drive's cap, both in bytes per 100 ms window (R450). -/
def State.lags (s : State) (vol : Nat) (v : Volume) (c : Cycle) : Bool :=
  (List.range v.groups).any fun g =>
    let h := s.sweepSharing vol v c g
    match h.pace with
    | none => false
    | some (left, ns) => decide (left ≠ 0) && (s.groupDrives v g).any fun d => match s.drive d with
      | none => false
      | some x =>
        let x := x.account s.clock 0 false
        decide (ns = 0) || decide (left * 100000000 * 1000 > x.lastBytes * h.now x * ns)

/-- A cycle may read one extent more now (R450). -/
def State.sweepAllows (s : State) (vol : Nat) (v : Volume) (c : Cycle) (x : Extent) : Bool :=
  s.groupAllows v x.group (4096 * v.pieceBlocks x.blocks) (s.sweepSharing vol v c x.group)

/-- Some batch holds an extent: it is selected and not yet settled, or in flight (R455). -/
def State.batchHolds (s : State) (x : Extent) : Bool :=
  (s.store.batches.any fun b => b.2.left.contains (.local' x.vol x.ns x.lba x.seq)) ||
    s.store.ops.any fun o => decide (o.kind = .splice) && decide (o.old.map (fun y => (y.vol, y.ident)) = some (x.vol, x.ident))

/-- Visit one extent of a cycle (R448, R455). -/
def State.sweepVisit (s : State) (vol : Nat) (id : Nat × Nat × Nat) : State :=
  match s.extentAt vol id.1 id.2.1 id.2.2 with
  | none => s
  | some x =>
    if (s.domain x.domain).state ≠ 1 then s.bump R.SWEEP_SKIPPED
    else if s.batchHolds x then s
    else
      let o := { StoreOp.fresh .sweep (.sweep vol) 0xFFFF vol x.ns x.lba x.blocks x.domain with
        old := some x, todo := [x], all := true, rehash := true }
      let (o, s) := s.addOp o
      s.readNext o

/-- SWEEP_EXTENT (R448, R450): the maintenance threads take the cycle's next extent, as fast as pace and cap allow; a volume that is degraded or being
rebuilt waits (R455). -/
def execSweepExtent (vol : Fin 256) (s : State) : Res :=
  match s.volume vol.val with
  | none => .next s
  | some v =>
    match v.cycle with
    | none => .next s
    | some c =>
      if !sweepOn ((s.adopted 17).block 0x0906 vol.val) then .next (s.endCycle vol.val)
      else if v.lost ≠ [] ∨ v.rebuilding ≠ [] ∨ s.store.path < 2 then .next s
      else
        let lag := c.lagging || s.lags vol.val v c
        match c.left with
        | [] => .next (s.endCycle vol.val)
        | id :: rest =>
          match s.extentAt vol.val id.1 id.2.1 id.2.2 with
          | none => .next (s.setVolume vol.val { v with cycle := some { c with left := rest, lagging := lag } })
          | some x =>
            if !s.sweepAllows vol.val v c x then .next (s.setVolume vol.val { v with cycle := some { c with lagging := lag } })
            else .next (((s.spend v x.group (4096 * v.pieceBlocks x.blocks) 0).setVolume vol.val
              { v with cycle := some { c with left := rest, lagging := lag } }).sweepVisit vol.val id)

/-! ## Transcryption batches (R456 to R464) -/

/-- Fields of a TRANSCRYPT_START block that break their KIND's content (R456, R457). -/
def State.batchParamsOk (s : State) (bs : List Byte) : Bool :=
  let kind := fld bs 4 1
  let src := fld bs 8 2
  let dst := fld bs 0x0A 2
  let dom := fld bs 0x0C 4
  let gen := fld bs 0x10 2
  let tdom := fld bs 0x14 4
  let on (ns vol : Nat) : Bool := match s.space ns with | some sp => decide (sp.vol = vol) && !sp.gone | none => false
  decide (fld bs 0 4 ≠ 0) && !(s.store.batches.any fun b => decide (b.2.id = fld bs 0 4)) && decide (1 ≤ kind ∧ kind ≤ 3) &&
    decide (1 ≤ fld bs 6 2 ∧ fld bs 6 2 ≤ 500) &&
    (match kind with
    | 1 => (s.volume src).isSome && decide (dst = 0) && decide (dom ≠ 0xFFFFFFFF) && decide (tdom = 0xFFFFFFFF ∨ tdom = dom)
    | 2 => (s.volume src).isSome && (s.volume dst).isSome && decide (gen = 0) && on (fld bs 0x18 2) dst && decide (fld bs 0x20 8 ≤ fld bs 0x28 8)
    | _ => (s.volume dst).isSome && decide (gen = 0) && decide (tdom ≠ 0xFFFFFFFF) && on (fld bs 0x18 2) dst &&
        (s.store.conns.any fun c => c.2.initiator && decide (c.2.index = fld bs 0x1A 2)) &&
        decide (1 ≤ fld bs 0x38 4 ∧ fld bs 0x38 4 ≤ 16777216))

/-- A named domain is not active. -/
def State.batchDomainGone (s : State) (bs : List Byte) : Bool :=
  let gone (n : Nat) : Bool := decide (n ≠ 0xFFFFFFFF) && decide ((s.domain n).state ≠ 1)
  !s.vaultServes || (decide (fld bs 4 1 ≠ 3) && gone (fld bs 0x0C 4)) || gone (fld bs 0x14 4)

/-- The selected set (R457): extents of the map, or the manifest's records. -/
def State.selectBatch (s : State) (bs : List Byte) : List Sel :=
  let src := fld bs 8 2
  let dom := fld bs 0x0C 4
  let ns := fld bs 0x12 2
  let kind := fld bs 4 1
  if kind = 3 then
    (List.range (fld bs 0x38 4)).map fun i => Sel.remote (s.hostRead none (fld bs 0x30 8 + 96 * i) 96)
  else match s.volume src with
    | none => []
    | some v =>
      let pick (x : Extent) : Bool := (decide (dom = 0xFFFFFFFF) || decide (x.domain = dom)) && (decide (ns = 0xFFFF) || decide (x.ns = ns)) &&
        (if kind = 1 then decide (x.gen = fld bs 0x10 2) else decide (fld bs 0x20 8 ≤ x.lba) && decide (x.lba + x.blocks ≤ fld bs 0x28 8 + 1))
      ((v.extents.filter pick).mergeSort fun a b => decide (a.ns < b.ns) || (decide (a.ns = b.ns) && decide (a.lba ≤ b.lba))).map
        fun x => Sel.local' src x.ns x.lba x.seq

/-- A batch's set is selected (R457), its manifest being there, and it begins. -/
def State.beginBatch (s : State) (n : Nat) : State :=
  match s.batch n with
  | none => s
  | some b =>
    let sel := s.selectBatch b.ctx.pkt.params
    (s.setBatch n { b with left := sel, selected := sel.length, loading := false }).batchEnd n

/-- SHARE of every sweep and batch that would use a volume's drives (R451). -/
def State.shareWith (s : State) (vol extra : Nat) : Nat :=
  let b := s.built 0x0906 vol
  (if sweepOn b then sweepShare b else 0) + s.batchShare vol + extra

/-- TRANSCRYPT_START (0x0907, R456, R457). The storage path must be open for writes (DEDUCED from R442 and R498, log entry 37). -/
def cmdTranscryptStart : Command where
  opcode := 0x0907
  front := true
  room := false
  mctp := false
  recovery := false
  sched := true
  shape := fixedShape 80
  zero := fun bs => zeros bs 0x3C 20 && decide (fld bs 5 1 < 2)
  body := fun x s =>
    let bs := x.pkt.params
    let kind := fld bs 4 1
    let share := fld bs 6 2
    let dst := if kind = 1 then fld bs 8 2 else fld bs 0x0A 2
    if !s.batchParamsOk bs then Out.of s .invalidParam
    else if s.batchDomainGone bs then Out.of s .keyAbsent
    else if kind = 1 ∧ ((s.domain (fld bs 0x0C 4)).prev ≠ fld bs 0x10 2 ∨ fld bs 0x10 2 = 0) then Out.of s .invalidParam
    else if kind = 3 ∧ !s.store.rope.held then Out.of s .notPermitted
    else if s.store.path < 2 then Out.of s .journalUnavailable
    else if s.store.path = 3 ∨ s.store.rope.handed then Out.of s .notPermitted
    else if s.shareWith dst share > 500 ∨ (kind ≠ 3 ∧ s.shareWith (fld bs 8 2) share > 500) then Out.of s .invalidParam
    else if s.store.batches.length ≥ 16 then Out.of s .busy
    else
      let n := firstFree (s.store.batches.map fun b => b.1) 0 17
      let b : Batch := ⟨x, [], 0, 0, 0, 0, false, none, false, false, s.clock, true⟩
      if kind = 3 then .held ((s.setBatch n b).holdWork x (fld bs 0 4) [(fld bs 0x30 8, 96 * fld bs 0x38 4)])
      else .held (((s.setBatch n b).hold x true (fld bs 0 4) []).beginBatch n)
  after := some fun x s =>
    match s.store.batches.find? fun b => decide (b.2.id = fld x.pkt.params 0 4) && b.2.loading with
    | some b => .held ((s.hold x true (fld x.pkt.params 0 4) []).beginBatch b.1)
    | none => Out.of s .ok

/-- TRANSCRYPT_CANCEL (0x0908, R463): an unknown BATCH is INVALID_PARAM, a second cancel BUSY (DEDUCED, log entry 37). -/
def cmdTranscryptCancel : Command where
  opcode := 0x0908
  front := true
  room := false
  mctp := false
  recovery := false
  sched := false
  shape := fixedShape 8
  zero := zeroAt [(4, 4)]
  body := fun x s =>
    let id := fld x.pkt.params 0 4
    match s.store.batches.find? fun b => decide (b.2.id = id) with
    | none => Out.of s .invalidParam
    | some (n, b) =>
      if b.cancelled then Out.of s .busy
      else
        let s := s.setBatch n { b with cancelled := true, left := [] }
        let s : State := { s with store := { s.store with ops := s.store.ops.filter fun o => !(decide (o.src = .batch n) && decide (o.entry = 0)) } }
        .held ((s.hold x false id []).batchEnd n)

/-- An extent that a batch would write into a namespace meets no other one only in part, and ends within SIZE (R499; DESIGN CHOICE,
log entry 37). -/
def State.batchFits (s : State) (ns lba blocks : Nat) : Bool :=
  (match s.space ns with | some sp => decide (lba + blocks ≤ sp.size) | none => false) &&
    (s.extentsIn ns lba blocks).all fun e => decide (e.lba = lba ∧ e.blocks = blocks)

/-- A manifest record that a batch can pull: a Write, Sweep-verified or Splice record of a whole number of blocks (R417, R456). -/
def manifestOk (r : List Byte) : Bool :=
  let len := bfld r 0x10 8
  let t := bfld r 0x58 2 % 4096
  decide (1 ≤ t ∧ t ≤ 3) && decide (len % 4096 = 0) && decide (4096 ≤ len ∧ len ≤ 16777216)

/-- Move one local extent (R458): source, then what follows as its pieces arrive. -/
def State.moveLocal (s : State) (n : Nat) (b : Batch) (x : Extent) : State :=
  let bs := b.ctx.pkt.params
  let td := fld bs 0x14 4
  let domain := if b.kind = 1 ∨ td = 0xFFFFFFFF then x.domain else td
  let ns := if b.kind = 1 then x.ns else fld bs 0x18 2
  if (s.domain x.domain).state ≠ 1 ∨ (s.domain domain).state ≠ 1 then s.setBatch n { b with ending := some Status.keyAbsent.code }
  else if b.kind = 2 ∧ !s.batchFits ns x.lba x.blocks then s.setBatch n { b with ending := some Status.invalidParam.code }
  else
    let o := { StoreOp.fresh .splice (.batch n) 0xFFFF b.target ns x.lba x.blocks domain with old := some x, todo := [x], rehash := true }
    let (o, s) := s.addOp o
    s.readNext o

/-- Report an extent that a PULL batch found different from its manifest (R454, R458). -/
def State.pullMismatch (s : State) (n : Nat) (b : Batch) (r : List Byte) : State :=
  let s := (s.setBatch n b.mismatch).bump R.TRANSCRYPT_MISMATCHED
  let id := beNat (r.take 16) / 2 ^ 64
  let s := s.postOwner 13 b.target id
  let room := (s.domain (fld b.ctx.pkt.params 0x14 4)).room
  if room = 0xFFFF then s else s.postRoom room 13 b.target id

/-- Pull one extent of a manifest: `data` is what the remote target answered, none when its read failed (R458). -/
def State.pullRemote (s : State) (n : Nat) (b : Batch) (r : List Byte) (data : Option (List Byte)) : State :=
  let bs := b.ctx.pkt.params
  let domain := fld bs 0x14 4
  let ns := fld bs 0x18 2
  let lba := beNat (r.take 16) / 2 ^ 48 % 2 ^ 48
  let len := bfld r 0x10 8
  if (s.domain domain).state ≠ 1 then s.setBatch n { b with ending := some Status.keyAbsent.code }
  else match data with
    | none => (s.setBatch n b.mismatch).bump R.TRANSCRYPT_MISMATCHED
    | some d =>
      if !manifestOk r then (s.setBatch n b.mismatch).bump R.TRANSCRYPT_MISMATCHED
      else if !s.batchFits ns lba (len / 4096) then s.setBatch n { b with ending := some Status.invalidParam.code }
      else
        let pt := fit d len
        if sha256 pt ≠ slice r 0x18 0x38 ∨ sha3_256 pt ≠ slice r 0x38 0x58 then s.pullMismatch n b r
        else
          let y : Extent := { JEntry.blank.ext with vol := 0xFFFF, rec' := r }
          let o := { StoreOp.fresh .splice (.batch n) 0xFFFF b.target ns lba (len / 4096) domain with old := some y, data := pt }
          let (o, s) := s.addOp o
          s.encryptOp o

/-- The batch may take a further extent now (R456, R461): at most 64 in flight, the path open, the target volume whole. -/
def State.batchMayTake (s : State) (n : Nat) (b : Batch) : Bool :=
  !b.cancelled && !b.loading && decide (b.ending = none) && decide (s.store.path = 2) && s.journalUp &&
    decide ((s.store.ops.filter fun o => decide (o.src = .batch n)).length < 64) &&
    (match s.volume b.target with | some v => decide (v.lost = []) && decide (v.rebuilding = []) | none => false)

/-- The groups that the next extent of a batch uses, with the bytes it takes from each drive (R451): its source's, and the one its new copy goes to. -/
def State.batchPieces (s : State) (b : Batch) (x : Sel) : List (Volume × Nat × Nat) :=
  let bs := b.ctx.pkt.params
  let (src, blocks) : List (Volume × Nat × Nat) × Nat := match x with
    | .local' vol ns lba seq => match s.volume vol, s.extentAt vol ns lba seq with
      | some v, some e => ([(v, e.group, 4096 * v.pieceBlocks e.blocks)], e.blocks)
      | _, _ => ([], 0)
    | .remote r => ([], bfld r 0x10 8 / 4096)
  src ++ match s.volume b.target with
    | some v => if blocks = 0 ∨ fld bs 6 2 = 0 then [] else [(v, s.bestGroup v, 4096 * v.pieceBlocks blocks)]
    | none => []

/-- A batch's share of the drives' bandwidth (R450, R451). -/
def Batch.share (b : Batch) (n : Nat) : Share := ⟨n + 1, fld b.ctx.pkt.params 6 2, false, none⟩

/-- TRANSCRYPT_EXTENT (R458): batch slot `n` takes its next extent, once its SHARE allows. -/
def execTranscryptExtent (n : Fin 16) (data : Option (List Byte)) (s : State) : Res :=
  match s.batch n.val with
  | none => .next s
  | some b =>
    match b.left with
    | [] => .next (s.batchEnd n.val)
    | x :: rest =>
      let ps := s.batchPieces b x
      if !s.batchMayTake n.val b ∨ !(ps.all fun p => s.groupAllows p.1 p.2.1 p.2.2 (b.share n.val)) then .next s
      else
        let s := ps.foldl (fun s p => s.spend p.1 p.2.1 p.2.2 (n.val + 1)) s
        let b := { b with left := rest }
        let s := s.setBatch n.val b
        let s := match x with
          | .local' v ns lba seq =>
            match s.extentAt v ns lba seq with
            | none => (s.setBatch n.val { b with superseded := b.superseded + 1 }).bump R.TRANSCRYPT_SUPERSEDED
            | some e => s.moveLocal n.val b e
          | .remote r => s.pullRemote n.val b r data
        .next (s.batchEnd n.val)

/-- What a batch has still to do, with what is in flight (R462). -/
def State.cursorOf (s : State) (n : Nat) (b : Batch) : Batch :=
  let fly := (s.store.ops.filter fun o => decide (o.src = .batch n)).filterMap fun o => o.old.map fun x =>
    if x.vol = 0xFFFF then Sel.remote x.rec' else Sel.local' x.vol x.ns x.lba x.seq
  { b with left := fly ++ b.left, savedAt := s.clock }

/-- BATCH_CURSOR_PERSIST (R462): every batch's cursor goes to its slot in the journal namespace, whose layout is not given (R493). A batch whose manifest is
still being read has none yet. -/
def execBatchCursorPersist (s : State) : Res :=
  if !s.journalUp then .next s
  else
    let bs := s.store.batches.filter fun b => !b.2.loading
    let s := bs.foldl (fun s b => s.journalOpaque (768 + b.1) 1) s
    .next { s with store := { s.store with cursors := bs.map fun b => (b.1, s.cursorOf b.1 b.2) } }

/-- Batches go on from their cursors (R464); their replies carry REPLAYED. -/
def State.resumeBatches (s : State) : State :=
  let s : State := if s.store.batches ≠ [] then s
    else { s with store := { s.store with batches := s.store.cursors.map (fun b => (b.1, { b.2 with replayed := true })) } }
  s.store.batches.foldl (fun s b => s.batchEnd b.1) s

/-! ## Crypto-erasure (R376, R467 to R470) -/

/-- Every key of a domain leaves the strongroom's cache, the tiles and the storage leases, and both wrapped keys are zeroed
(R376, steps 1 to 4); its extents lose their damaged marks (R468). -/
def State.eraseDomain (s : State) (slot : Nat) : State :=
  let d := s.domain slot
  let s := s.setDomain slot { d with state := 3, keyCur := [], keyPrev := [] }
  let s : State := { s with
    sr := { s.sr with cache := s.sr.cache.filter fun k => decide (k / 65536 ≠ slot) }
    store := { s.store with
      leases := s.store.leases.filter fun e => decide (e.1 / 65536 ≠ slot)
      volumes := s.store.volumes.map (fun v => (v.1, { v.2 with extents := v.2.extents.map fun x => if x.domain = slot then { x with damaged := 0 } else x })) } }
  (s.purgeSlot slot).persistVault

/-- A metadata domain of a volume cannot be destroyed while the volume exists (R486). -/
def State.isMetadata (s : State) (slot : Nat) : Bool := s.store.volumes.any fun v => decide (v.2.key = slot)

/-- A Tombstone record (R418). -/
def State.tombRecord (s : State) (slot : Nat) (replayed : Bool) : List Byte :=
  fixityRecord (extentId slot 0 0 0) 0 [] [] (s.ownerDomain slot) replayed 4 0

/-- KEY_DOMAIN_DESTROY (0x0702, R376, R467, R470). -/
def cmdKeyDomainDestroy : Command where
  opcode := 0x0702
  front := true
  room := true
  mctp := false
  recovery := false
  sched := true
  shape := fixedShape 8
  zero := fun bs => zeros bs 5 3 && decide (fld bs 4 1 < 2)
  body := fun x s =>
    match s.vaultRefuses false with
    | some st => Out.refuse s st
    | none =>
      match s.namedSlot x.pkt with
      | none => Out.of s .keyAbsent
      | some slot =>
        let d := s.domain slot
        if Path.ringRoom x.pkt.path ≠ none ∧ !bit d.policy 1 then Out.of s .notPermitted
        else if s.isMetadata slot then Out.of s .notPermitted
        else if d.state = 1 ∧ s.roomResets d.room then Out.of s .busy
        else
          let s := s.eraseDomain slot
          let s : State := if bit (fld x.pkt.params 4 1) 0 then { s with store := { s.store with sinking := s.store.sinking ++ [slot] } } else s
          if !s.store.rope.held ∨ s.store.rope.handed then Out.of s .okWarn
          else
            let s := s.hold x false slot []
            let o := { StoreOp.fresh .tomb (.tomb slot) d.room 0 0 0 0 slot with records := [s.tombRecord slot false]
                                                                                 ext := some { JEntry.blank.ext with domain := slot } }
            let (o, s) := s.addOp o
            .held (s.openEntry o 4)

/-! ## Background deallocation (R468, R489) -/

/-- An extent goes in the background: its domain was destroyed with DEALLOCATE, or its namespace was deleted with FORCE. -/
def State.doomed (s : State) (x : Extent) : Bool :=
  s.store.sinking.contains x.domain || (match s.space x.ns with | some sp => sp.gone | none => false)

/-- Destroyed domains and deleted namespaces without extents left are done with. -/
def State.settleDoomed (s : State) : State :=
  let has (f : Extent → Bool) : Bool := s.store.volumes.any fun v => v.2.extents.any f
  { s with store := { s.store with
    sinking := s.store.sinking.filter fun d => has fun x => decide (x.domain = d)
    spaces := s.store.spaces.filter fun e => !e.2.gone || has fun x => decide (x.ns = e.1) } }

/-- Share of background deallocation on a volume (R468, R489): the volume's sweep SHARE, or 20 per mille. -/
def State.sinkShare (s : State) (vol : Nat) : Share :=
  let b := (s.adopted 17).block 0x0906 vol
  ⟨17, if sweepOn b then sweepShare b else 20, false, none⟩

/-- BACKGROUND_DEALLOCATE (R468, R489): the maintenance threads take the next extent that is to go, once their share allows. -/
def execBackgroundDeallocate (s : State) : Res :=
  let s := s.settleDoomed
  if s.store.path < 2 ∨ !s.journalUp then .next s
  else
    let busy (x : Extent) : Bool := s.store.ops.any fun o => decide (o.kind = .dealloc) && decide (o.ext = some x)
    match (s.store.volumes.flatMap fun v => v.2.extents).find? fun x => s.doomed x && !busy x with
    | none => .next s
    | some x =>
      match s.volume x.vol with
      | none => .next s
      | some v =>
        let n := 4096 * v.pieceBlocks x.blocks
        if !s.groupAllows v x.group n (s.sinkShare x.vol) then .next s
        else
          let s := s.spend v x.group n 17
          let o := { StoreOp.fresh .dealloc .internal 0xFFFF x.vol x.ns x.lba x.blocks x.domain with ext := some x, old := some x }
          let (o, s) := s.addOp o
          .next (s.openEntry o 5)

/-! ## Registers (R471) -/

/-- `SWEEP.STATUS`. -/
def State.sweepStatus (s : State) : Nat :=
  let on := s.store.volumes.filter fun v => s.sweeping v.1 v.2
  let lag := on.any fun v => match v.2.cycle with | some c => c.lagging | none => false
  let wait := s.store.ops.any fun o => decide (o.stage = .place) && (match o.kind with | .sweep | .splice | .repair => true | _ => false)
  b01 lag * 4 + b01 wait * 2 + b01 (decide (on ≠ []))

/-- The 32 bytes of a batch slot. -/
def State.batchSlot (s : State) (n : Nat) : List Byte :=
  match s.batch n with
  | none => pad 32
  | some b =>
    let waits : Bool := match s.volume b.target with | some v => decide (v.lost ≠ []) || decide (v.rebuilding ≠ []) | none => false
    leBytes b.id 4 ++ leBytes (if b.cancelled then 2 else if waits then 3 else 1) 4 ++ leBytes b.selected 8 ++ leBytes b.settled 8 ++ leBytes b.mismatched 8

/-- Parts per thousand of a batch's extents that are settled (R462). -/
def State.batchProgress (s : State) (id : Nat) : Nat :=
  match s.store.batches.find? fun b => decide (b.2.id = id) with
  | some b => if b.2.selected = 0 then 1000 else b.2.settled * 1000 / b.2.selected
  | none => 0

end Sys2Proof.Machine
end

