-- ==== Sys2Proof/Machine/Volumes.lean ====
section
/-!
DEFINITION. Volumes, namespaces, the journal pair and the opening of the storage path (R481 to R493, R506, R512, R513).
-/

namespace Sys2Proof.Machine

/-! ## Drives named by index (R484, R492) -/

/-- Drive indexes that a VOL_CREATE block names. -/
def volDrives (bs : List Byte) : List Nat :=
  if fld bs 2 1 = 1 then [fld bs 0x12 1]
  else
    let w := if fld bs 3 1 = 2 then fld bs 4 1 + fld bs 5 1 else fld bs 4 1
    (List.range (w * fld bs 6 1)).map fun i => fld bs (0x10 + i) 1

/-- Drive indexes that staged changes already take. -/
def State.stagedDrives (s : State) (except : Nat) : List Nat :=
  s.gen.staged.flatMap fun c =>
    if c.1 = except then []
    else if keyOp c.1 = 0x0900 then volDrives c.2
    else if keyOp c.1 = 0x0904 then [fld c.2 0 1, fld c.2 1 1]
    else []

/-- A drive is present, of 4 KiB blocks, and neither a member of a volume nor of the journal (R481, R484). -/
def State.driveFree (s : State) (d : Nat) : Bool :=
  match s.drive d with
  | none => false
  | some x => !x.lost && !x.sanitizing && x.lbaOk && (x.returned || ((s.memberOf x.serial).isNone && !s.store.journal.contains x.serial))

/-- Blocks of 4 KiB in 4 GiB. -/
def minDriveBlocks : Nat := 1048576

/-- A drive may become a member. -/
def State.memberOk (s : State) (d : Nat) : Bool :=
  s.driveFree d && (match s.drive d with | some x => decide (x.blocks ≥ minDriveBlocks) | none => false)

/-! ## Volumes (R484 to R487, R506) -/

/-- LAYOUT, K_OR_WAYS, M, GROUPS, FLAGS and REBUILD_SHARE are in range (R484). -/
def volShapeOk (bs : List Byte) : Bool :=
  let l := fld bs 3 1
  let k := fld bs 4 1
  let m := fld bs 5 1
  let g := fld bs 6 1
  (match l with
    | 0 => decide (k = 1 ∧ m = 0)
    | 1 => decide (2 ≤ k ∧ k ≤ 4 ∧ m = 0)
    | 2 => decide (1 ≤ k ∧ k ≤ 16 ∧ 1 ≤ m ∧ m ≤ 4)
    | _ => false) &&
    decide (1 ≤ g ∧ g ≤ 16) && decide (g * (k + m) ≤ 64) && decide (1 ≤ fld bs 8 2 ∧ fld bs 8 2 ≤ 1000)

/-- Another volume carries SEAL_VOLUME (R485). -/
def State.otherSeal (s : State) (vol : Nat) : Bool :=
  (s.store.volumes.any fun v => decide (v.1 ≠ vol) && bit v.2.flags 7 && (s.stagedAt 0x0901 v.1).isNone) ||
    s.gen.staged.any fun c => decide (keyOp c.1 = 0x0900) && decide (keySel c.1 < 256) && decide (keySel c.1 ≠ vol) && bit (fld c.2 7 1) 7

/-- Checks of VOL_CREATE with OP 0 (R484, R485). -/
def State.volCreateOk (s : State) (bs : List Byte) : Bool :=
  let vol := fld bs 0 2
  let ds := volDrives bs
  let taken := s.stagedDrives (keyOf 0x0900 vol)
  decide (vol < 256) && (s.volume vol).isNone && volShapeOk bs && decide (ds.eraseDups.length = ds.length) &&
    ds.all (fun d => s.memberOk d && !taken.contains d) && (!bit (fld bs 7 1) 7 || (decide (fld bs 3 1 ≠ 0) && !s.otherSeal vol))

/-- Position of the member that VOL_CREATE with OP 1 replaces. -/
def Volume.replaced (v : Volume) (bs : List Byte) : Nat := fld bs 0x10 1 * v.width + fld bs 0x11 1

/-- Checks of VOL_CREATE with OP 1 (R506). -/
def State.volReplaceOk (s : State) (bs : List Byte) : Bool :=
  match s.volume (fld bs 0 2) with
  | none => false
  | some v =>
    decide (fld bs 0x10 1 < v.groups) && decide (fld bs 0x11 1 < v.width) && v.lost.contains (v.replaced bs) && zeros bs 0x13 61 &&
      s.memberOk (fld bs 0x12 1) && !(s.stagedDrives (keyOf 0x0900 (fld bs 0 2 + 256 * (v.replaced bs + 1)))).contains (fld bs 0x12 1)

/-- VOL_CREATE (0x0900, R484, R485, R506). A replacement is staged under a selector of its own beside its volume's block. -/
def cmdVolCreate : Command where
  opcode := 0x0900
  front := true
  room := false
  mctp := false
  recovery := false
  sched := false
  shape := fixedShape 80
  zero := fun bs => zeros bs 0x0A 2 && decide (fld bs 7 1 % 64 = 0)
  body := fun x s =>
    let bs := x.pkt.params
    let vol := fld bs 0 2
    match fld bs 2 1 with
    | 0 => if s.volCreateOk bs then Out.of (s.stage 0x0900 vol bs) .ok else Out.of s .invalidParam
    | 1 =>
      if s.volReplaceOk bs then
        match s.volume vol with
        | some v => Out.of (s.stage 0x0900 (vol + 256 * (v.replaced bs + 1)) bs) .ok
        | none => Out.of s .invalidParam
      else Out.of s .invalidParam
    | _ => Out.of s .invalidParam

/-- VOL_DESTROY (0x0901, R487): a volume that is not there is INVALID_PARAM, one that a batch uses BUSY (R82). -/
def cmdVolDestroy : Command where
  opcode := 0x0901
  front := true
  room := false
  mctp := false
  recovery := false
  sched := false
  shape := fixedShape 8
  zero := fun bs => zeros bs 3 5 && decide (fld bs 2 1 < 2)
  body := fun x s =>
    let bs := x.pkt.params
    let vol := fld bs 0 2
    match s.volume vol with
    | none => Out.of s .invalidParam
    | some v =>
      let on := (s.store.spaces.any fun e => decide (e.2.vol = vol) && !e.2.gone && (s.stagedAt 0x0903 e.1).isNone) ||
        s.gen.staged.any fun c => decide (keyOp c.1 = 0x0902) && decide (fld c.2 2 1 = 0) && decide (fld c.2 4 2 = vol)
      if on ∨ (bit v.flags 7 ∧ s.store.rope.held) then Out.of s .notPermitted
      else if s.store.batches.any fun b => b.2.uses vol then Out.of s .busy
      else Out.of (s.stage 0x0901 vol bs) .ok

/-- Serial number of a drive index. -/
def State.serialOf (s : State) (d : Nat) : List Byte := match s.drive d with | some x => x.serial | none => []

/-- A drive becomes assigned: it is no longer one that came back (R506). -/
def State.claimDrive (s : State) (d : Nat) : State :=
  match s.drive d with
  | some x => s.setDrive d { x with returned := false }
  | none => s

/-- The owner's key domain for a volume's metadata (R486). -/
def State.metadataDomain (s : State) : Nat × State :=
  match s.freeSlot with
  | none => (2 ^ 20, s)
  | some slot =>
    let k := s.secretBytes 32
    let s := k.2.setDomain slot (VaultRec.new 0xFFFF (pad 16) k.1)
    (slot, if s.vaultServes ∧ s.journalUp then s.persistVault else s)

/-- A member label (R482): volume, group, place in it, the serial numbers of all members, the journal identifier. Its layout is not given: the fields stand
in the order in which the spec names them (DESIGN CHOICE, log entry 91). -/
def State.memberLabel (s : State) (vol : Nat) (v : Volume) (i : Nat) : List Byte :=
  leBytes vol 2 ++ leBytes (i / max 1 v.width) 1 ++ leBytes (i % max 1 v.width) 1 ++ v.members.flatten ++ fit s.store.jid 16

/-- Write both copies of the labels of some members of a volume (R482, R484, R506). -/
def State.writeLabels (s : State) (vol : Nat) (ps : List Nat) : State :=
  match s.volume vol with
  | none => s
  | some v => ps.foldl (fun s i =>
    match s.driveOf (v.members.getD i []) with
    | none => s
    | some e => (s.metaWrite [e.1] 0 (s.memberLabel vol v i)).metaWrite [e.1] 128 (s.memberLabel vol v i)) s

/-- Erase both copies of a member's label (R487). -/
def State.eraseLabel (s : State) (d : Nat) : State := (s.metaWrite [d] 0 (pad 4096)).metaWrite [d] 128 (pad 4096)

/-- Write the storage configuration into the copy that is not current (R484, R493); its layout is not given. -/
def State.writeConfig (s : State) : State :=
  let n := s.store.confSeq + 1
  { s with store := { s.store with confSeq := n } }.journalOpaque (256 + 256 * (n % 2)) 1

/-- A committed VOL_CREATE takes effect at the drive fabric (R484, R486, R506). -/
def State.applyVolCreate (s : State) (bs : List Byte) : State :=
  let vol := fld bs 0 2
  if fld bs 2 1 = 0 then
    let ds := volDrives bs
    let (key, s) := s.metadataDomain
    let v : Volume := ⟨fld bs 3 1, fld bs 4 1, fld bs 5 1, fld bs 6 1, fld bs 7 1, fld bs 8 2, fld bs 0x0C 4, ds.map s.serialOf, [], [], key, [], [], [],
      none, none, []⟩
    (ds.foldl State.claimDrive (s.setVolume vol v)).writeLabels vol (List.range ds.length)
  else match s.volume vol with
    | none => s
    | some v =>
      let g := fld bs 0x10 1
      let m := fld bs 0x11 1
      let pos := v.replaced bs
      let d := fld bs 0x12 1
      let mark (x : Extent) : Extent := if x.group = g ∧ !bit x.missing m then { x with missing := x.missing + 2 ^ m } else x
      ((s.setVolume vol { v with members := v.members.set pos (s.serialOf d), lost := v.lost.filter fun p => decide (p ≠ pos)
                                 rebuilding := v.rebuilding ++ [pos], extents := v.extents.map mark }).claimDrive d).writeLabels vol (List.range v.members.length)

/-- A committed VOL_DESTROY takes effect: the labels go, and with SANITIZE every member is sanitized (R487). -/
def State.applyVolDestroy (s : State) (bs : List Byte) : State :=
  let vol := fld bs 0 2
  match s.volume vol with
  | none => s
  | some v =>
    let ds := v.members.filterMap fun m => (s.driveOf m).map fun e => e.1
    let s : State := ds.foldl State.eraseLabel { s with store := { s.store with volumes := Tbl.erase vol s.store.volumes } }
    if bit (fld bs 2 1) 0 then
      ds.foldl (fun s d =>
        let s := match s.drive d with | some x => s.setDrive d { x with sanitizing := true } | none => s
        s.issueDrive d .sanitize 0x184 0 0 []) s
    else s

/-! ## Virtual namespaces (R488, R489) -/

/-- The room number of a namespace that is detached. -/
def noRoom : Nat := 0xFFFE

/-- Namespaces of a room with their local indexes, existing or staged. -/
def State.nsTaken (s : State) (ns room index : Nat) : Bool :=
  (s.store.spaces.any fun e => decide (e.1 ≠ ns) && decide (e.2.room = room) && decide (e.2.index = index) && !e.2.gone && (s.stagedAt 0x0903 e.1).isNone) ||
    s.gen.staged.any fun c => decide (keyOp c.1 = 0x0902) && decide (fld c.2 0 2 ≠ ns) && decide (fld c.2 2 1 ≠ 2) && decide (fld c.2 6 2 = room) && decide (fld c.2 8 2 = index)

/-- ROOM and LOCAL_INDEX that a namespace may take (R104, R488): the owner with index 0, or a room that is not vacant, with an index
below its limit that no other namespace has. -/
def State.nsPlaceOk (s : State) (ns room index : Nat) : Bool :=
  if room = 0xFFFF then decide (index = 0)
  else
    let lim := match s.stagedAt 0x0101 room with
      | some b => (Limits.of b).namespaces
      | none => if (s.room room).state = .vacant then 0 else (s.room room).limits.namespaces
    decide (room < 1024) && decide (index < lim) && !s.nsTaken ns room index

/-- NS_CREATE (0x0902, R488, R489). -/
def cmdNsCreate : Command where
  opcode := 0x0902
  front := true
  room := false
  mctp := false
  recovery := false
  sched := false
  shape := fixedShape 24
  zero := fun bs => zeros bs 0x0A 6 && decide (fld bs 3 1 % 128 = 0)
  body := fun x s =>
    let bs := x.pkt.params
    let ns := fld bs 0 2
    let room := fld bs 6 2
    let vol := fld bs 4 2
    let ok : Bool := match fld bs 2 1, s.space ns with
      | 0, none =>
        decide (ns < 4096) && decide (1 ≤ fld bs 0x10 8 ∧ fld bs 0x10 8 ≤ 2 ^ 48) && s.nsPlaceOk ns room (fld bs 8 2) &&
          (((s.volume vol).isSome && (s.stagedAt 0x0901 vol).isNone) || (s.stagedAt 0x0900 vol).isSome)
      | 1, some sp => !sp.gone && decide (sp.room = noRoom) && decide (room ≠ 0xFFFF) && s.nsPlaceOk ns room (fld bs 8 2)
      | 2, some sp => !sp.gone && decide (sp.room ≠ noRoom)
      | _, _ => false
    if !ok then Out.of s .invalidParam
    else if s.roomResets room then Out.of s .busy
    else Out.of (s.stage 0x0902 (if fld bs 2 1 = 0 then ns else ns + 4096) bs) .ok

/-- NS_DELETE (0x0903, R489). -/
def cmdNsDelete : Command where
  opcode := 0x0903
  front := true
  room := false
  mctp := false
  recovery := false
  sched := false
  shape := fixedShape 8
  zero := fun bs => zeros bs 3 5 && decide (fld bs 2 1 < 2)
  body := fun x s =>
    let bs := x.pkt.params
    let ns := fld bs 0 2
    match s.space ns with
    | none => Out.of s .invalidParam
    | some sp =>
      if sp.gone then Out.of s .invalidParam
      else if !bit (fld bs 2 1) 0 && (match s.volume sp.vol with | some v => v.extents.any fun x => decide (x.ns = ns) | none => false) then Out.of s .notPermitted
      else Out.of (s.stage 0x0903 ns bs) .ok

/-- A committed NS_CREATE takes effect. -/
def State.applyNsCreate (s : State) (bs : List Byte) : State :=
  let ns := fld bs 0 2
  match fld bs 2 1, s.space ns with
  | 0, _ => s.setSpace ns ⟨fld bs 4 2, fld bs 6 2, fld bs 8 2, fld bs 0x10 8, bit (fld bs 3 1) 7, 1, false⟩
  | 1, some sp => s.setSpace ns { sp with room := fld bs 6 2, index := fld bs 8 2 }
  | 2, some sp => s.setSpace ns { sp with room := noRoom, index := 0 }
  | _, none => s
  | _, some _ => s

/-- A committed NS_DELETE takes effect: the namespace goes at once, its extents in the background (R489). -/
def State.applyNsDelete (s : State) (bs : List Byte) : State :=
  let ns := fld bs 0 2
  match s.space ns with
  | some sp => (s.setSpace ns { sp with gone := true, room := noRoom }).settleDoomed
  | none => s

/-- The namespaces of a room that becomes vacant are detached (R489). -/
def State.detachSpaces (s : State) (room : Nat) : State :=
  { s with store := { s.store with spaces := s.store.spaces.map fun e => (e.1, if e.2.room = room then { e.2 with room := noRoom } else e.2) } }

/-! ## The journal pair (R492, R493, R497) -/

/-- Blocks that the journal namespace needs. -/
def journalBlocks (gib : Nat) : Nat := 264192 + gib * 262144

/-- A drive may serve the journal: it does already, or it is free (R492). -/
def State.journalDriveOk (s : State) (d gib : Nat) (plp : Bool) : Bool :=
  match s.drive d with
  | none => false
  | some x =>
    let mine := s.store.journal.contains x.serial && !s.store.jLost.contains x.serial && !x.returned && !x.lost
    (mine || (s.driveFree d && !(s.stagedDrives (keyOf 0x0904 0)).contains d)) && x.lbaOk && decide (journalBlocks gib ≤ x.blocks) && (!x.vwc || plp)

/-- JOURNAL_SET (0x0904, R492, R497). -/
def cmdJournalSet : Command where
  opcode := 0x0904
  front := true
  room := false
  mctp := false
  recovery := false
  sched := false
  shape := fixedShape 16
  zero := fun bs => zeros bs 3 1 && zeros bs 0x0A 2 && decide (fld bs 2 1 % 128 = 0)
  body := fun x s =>
    let bs := x.pkt.params
    let a := fld bs 0 1
    let b := fld bs 1 1
    let gib := if fld bs 8 2 = 0 then s.store.ringGib else fld bs 8 2
    let plp := bit (fld bs 2 1) 7
    let ms := fld bs 0x0C 4
    if a = b ∨ !(s.journalDriveOk a gib plp && s.journalDriveOk b gib plp) ∨ gib < 4 ∨ 256 < gib ∨ ms < 100 ∨ 30000 < ms then Out.of s .invalidParam
    else if s.store.path ≥ 2 ∧ !s.store.journal.contains (s.serialOf a) ∧ !s.store.journal.contains (s.serialOf b) then Out.of s .notPermitted
    else Out.of (s.stage 0x0904 0 bs) .ok

/-- A committed JOURNAL_SET takes effect (R492, R497). The first pair gets a journal identifier and an empty vault, which opens
(DEDUCED from R370, log entry 38). -/
def State.applyJournalSet (s : State) (bs : List Byte) : State :=
  let a := fld bs 0 1
  let b := fld bs 1 1
  let pair := [s.serialOf a, s.serialOf b]
  let old := s.store.journal
  let gone := s.store.jLost
  let fresh := pair.any fun d => !old.contains d || gone.contains d
  let s := (s.claimDrive a).claimDrive b
  let s : State := { s with store := { s.store with
    journal := pair, jLost := [], jnsid := fld bs 4 4, timeoutMs := fld bs 0x0C 4
    ringGib := if fld bs 8 2 = 0 then s.store.ringGib else fld bs 8 2
    resync := s.store.resync || (decide (old ≠ []) && fresh) } }
  if old = [] then
    let k := s.secretBytes 16
    let s := k.2
    let s : State := { s with store := { s.store with jid := k.1 }, sr := { s.sr with vaultOpen := true } }
    s.persistVault
  else s

/-! ## DRIVE_QUERY (R513) -/

/-- The record of one drive. -/
def State.driveRecord (s : State) (n : Nat) (x : Drive) : List Byte :=
  let mem := if x.returned then none else s.store.volumes.findSome? fun v => (v.2.members.findIdx? fun m => decide (m = x.serial)).map fun i => (v.1, v.2, i)
  let jr := s.store.journal.contains x.serial && !x.returned
  let st := if x.sanitizing then 5 else if x.lost then 4 else if jr then 3 else if mem.isSome then 2 else 1
  let place := match mem with
    | some (v, y, i) => leBytes v 2 ++ leBytes (i / max 1 y.width) 1 ++ leBytes (i % max 1 y.width) 1
    | none => leBytes 0xFFFF 2 ++ pad 2
  leBytes n 1 ++ leBytes x.port 1 ++ leBytes st 1 ++ [0] ++ place ++ leBytes x.blocks 8 ++ fit x.serial 20 ++
    leBytes (b01 x.vwc * 4 + b01 x.degraded * 2 + b01 (decide (x.critical ≠ 0))) 2 ++ leBytes x.width 1 ++ leBytes x.rate 1 ++ leBytes x.mdts 1 ++ pad 23

/-- DRIVE_QUERY (0x090A, R513). -/
def cmdDriveQuery : Command where
  opcode := 0x090A
  front := true
  room := false
  mctp := true
  recovery := false
  sched := false
  shape := fixedShape 0
  zero := fun _ => true
  body := fun _ s =>
    let ds := (List.range 64).filterMap fun n => (s.drive n).map fun x => s.driveRecord n x
    .done .ok ds.flatten s

/-! ## Opening the storage path (R431, R464, R512, R574) -/

/-- What refuses STORAGE_OPEN once replay has ended (R512). -/
def State.openRefuses (s : State) : Option Status :=
  let renew := s.store.rope.handed && s.sr.sealNext.isSome
  if s.store.journal = [] ∨ s.store.jLost.length ≥ s.store.journal.length ∨ s.store.replay.phase = 5 then some .journalUnavailable
  else if !s.vaultServes ∨ (!s.store.rope.held ∧ s.sr.sealCur = none ∧ s.sr.sealNext = none) then some .keyAbsent
  else if !(s.store.volumes.any fun v => bit v.2.flags 7 && decide (v.2.state ≠ 2)) then some .notPermitted
  else if renew ∧ !s.vaultServes then some .keyAbsent
  else none

/-- A rope begins with a new ROPE_ID (R431); the pair made by KEY_SEAL_NEW becomes current where none is, and for the rope that
follows a handover (R442). -/
def State.beginRope (s : State) : State :=
  let swap := (s.store.rope.handed && s.sr.sealNext.isSome) || s.sr.sealCur.isNone
  let s : State := if swap then { s with sr := { s.sr with sealCur := s.sr.sealNext, sealNext := none } } else s
  let k := s.secretBytes 16
  k.2.setRope { Rope.none' with held := true, id := k.1 }

/-- Repairs and tombstones that replay left for the first epoch take their places before any other work (R574, R575). -/
def State.finishLater (s : State) : State :=
  let todo := s.store.replay.later
  let s : State := { s with store := { s.store with replay := { s.store.replay with later := [] } } }
  todo.foldl (fun s l =>
    let kind : OpKind := if l.op = 4 then .tomb else .repair
    let o := { StoreOp.fresh kind .internal l.e.room l.e.vol l.e.ext.ns l.e.ext.lba l.e.ext.blocks l.e.ext.domain with
      ext := some l.e.ext, entry := l.e.id, records := [l.rec'], replayed := true }
    let (o, s) := s.addOp o
    s.toPlace o) s

/-- The path opens (R512). -/
def State.openPath (s : State) : State :=
  let s := if !s.store.rope.held ∨ (s.store.rope.handed ∧ s.sr.sealNext.isSome) then s.beginRope else s
  let s : State := { s with store := { s.store with path := if s.store.rope.handed then 3 else 2 } }
  let r := s.store.rope
  let s := if r.opened.isNone ∧ !r.handed ∧ r.next = .storageOpen ∧ s.sr.debugLevel ≠ 2 then s.openEpoch s.now else s
  s.finishLater.resumeBatches

/-- A STORAGE_OPEN that was accepted ends, unless replay still runs (R512). -/
def State.endStorageOpen (s : State) : State :=
  if (s.runningOn 0x0905 0).isNone ∨ s.store.replay.active then s
  else match s.openRefuses with
    | some st => s.endRunning 0x0905 0 st []
    | none => s.openPath.endRunning 0x0905 0 .ok []

/-- STORAGE_OPEN (0x0905, R512). -/
def cmdStorageOpen : Command where
  opcode := 0x0905
  front := true
  room := false
  mctp := false
  recovery := false
  sched := false
  shape := fixedShape 0
  zero := fun _ => true
  body := fun x s =>
    if (s.runningOn 0x0905 0).isSome ∨ (s.runningOn 0x0804 0).isSome then Out.of s .busy
    else if s.store.replay.active then .held (s.hold x true 0 [])
    else match s.openRefuses with
      | some st => Out.of s st
      | none => .held (s.hold x true 0 []).endStorageOpen

end Sys2Proof.Machine
end

