-- ==== Sys2Proof/Machine/Seals.lean ====
section
/-!
DEFINITION. Seal commands: status, public keys, exports, handover and acceptance (R437 to R444).
-/

namespace Sys2Proof.Machine

/-- A write waits for a place (R422). -/
def State.writesWait (s : State) : Bool :=
  s.store.ops.any fun o => decide (o.stage = .place) && (match o.kind with | .write | .verify | .tomb => true | _ => false)

/-- `SEAL.STATUS` now. -/
def State.sealStatusNow (s : State) : Nat := s.sealStatus s.writesWait

/-- Next leaf of the current pair. -/
def State.nextLeaf (s : State) : Nat := match s.sr.sealCur with | some p => p.leaf | none => 0

/-- SEAL_STATUS (0x0800, R439). -/
def cmdSealStatus : Command where
  opcode := 0x0800
  front := true
  room := true
  mctp := true
  recovery := false
  sched := false
  shape := fixedShape 0
  zero := fun _ => true
  body := fun _ s =>
    .done .ok (leBytes s.openNumber 8 ++ leBytes s.lastPublished 8 ++ leBytes s.placesTaken 4 ++ leBytes s.store.rope.closed.length 2 ++
      leBytes s.sealStatusNow 2 ++ leBytes s.nextLeaf 8 ++ leBytes (sealLeaves - s.nextLeaf) 8 ++ fit s.store.rope.id 16 ++ pad 8) s

/-- FIRST_EPOCH of the current pair: the first epoch it signed, else the next it is to sign. -/
def State.firstEpoch (s : State) (p : SealPair) : Nat :=
  match s.store.rope.pairs.find? fun x => decide (x.2 = (p.pk .sha256, p.pk .shake256)) with
  | some x => x.1
  | none => s.store.rope.number - s.store.rope.closed.length - b01 s.store.rope.opened.isSome

/-- SEAL_PUBKEYS (0x0801, R441). STATEMENT is signed by the DeviceID key. -/
def cmdSealPubkeys : Command where
  opcode := 0x0801
  front := true
  room := true
  mctp := true
  recovery := false
  sched := false
  shape := fixedShape 0
  zero := fun _ => true
  body := fun _ s =>
    let cur := match s.sr.sealCur with
      | some p => leBytes (s.firstEpoch p) 8 ++ p.pk .sha256 ++ p.pk .shake256 ++ p.digest
      | none => pad 160
    let next := match s.sr.sealNext with
      | some p => p.pk .sha256 ++ p.pk .shake256 ++ p.digest
      | none => pad 152
    let all := leBytes s.sr.fuses.serial 8 ++ fit s.store.rope.id 16 ++ cur ++ next
    let k := s.sign s.sr.ids.deviceId all
    .done .ok (all ++ k.1) k.2

/-! ## Exports (R437, R438, R440) -/

/-- A published knot. -/
def State.knotOf (s : State) (epoch : Nat) : Option Knot := s.store.rope.knots.find? fun k => decide (k.epoch = epoch)

/-- A key-pair item. -/
def pairItem (p : Nat × List Byte × List Byte) : List Byte := exportItem 3 (beBytes p.1 8 ++ p.2.1 ++ p.2.2)

/-- The pair that signed an epoch. -/
def Rope.pairFor (r : Rope) (epoch : Nat) : Option (Nat × List Byte × List Byte) := (r.pairs.filter fun p => decide (p.1 ≤ epoch)).getLast?

/-- The inclusion proof of a place (R438, R440). -/
def proofItem (k : Knot) (i : Nat) (r : List Byte) : List Byte :=
  let rs := k.log.map fun x => x.2
  let proof (f : Family) : List (List Byte) := merkleProof f 21 (rs.map (merkleLeaf f)) i
  let p1 := proof .sha256
  exportItem 4 (beBytes k.epoch 8 ++ r ++ beBytes i 4 ++ beBytes rs.length 4 ++ beBytes p1.length 1 ++ pad 3 ++ p1.flatten ++ (proof .shake256).flatten)

/-- Items of an export; none when it names epochs or places the rope does not hold (R437). -/
def State.exportItems (s : State) (kind first count seq : Nat) : Option (List (List Byte)) :=
  let r := s.store.rope
  if kind = 4 then some (r.pairs.map pairItem)
  else if kind = 3 then
    match s.knotOf first with
    | none => none
    | some k => match k.log.findIdx? fun x => decide (x.1 = seq), r.pairFor first with
      | some i, some p => some [pairItem p, exportItem 1 k.rec', proofItem k i ((k.log.map fun x => x.2).getD i [])]
      | _, _ => none
  else if count < 1 ∨ 65536 < count ∨ first < r.first ∨ r.lastPub.isNone ∨ r.lastPub.getD 0 < first + count - 1 then none
  else
    let ks := (List.range count).filterMap fun i => s.knotOf (first + i)
    let logs := if kind = 2 then ks.map fun k => exportItem 2 (beBytes k.epoch 8 ++ (k.log.map fun x => x.2).flatten) else []
    some (ks.map (fun k => exportItem 1 k.rec') ++ logs)

/-- Write the export stream (R437). -/
def State.exportSeal (s : State) (x : Ctx) : Out :=
  let bs := x.pkt.params
  match s.exportItems (fld bs 0 1) (fld bs 8 8) (fld bs 0x10 4) (fld bs 0x18 6) with
  | none => Out.of s .invalidParam
  | some items =>
    let (stream, cut) := exportStream items (Packet.replySpace x.pkt)
    if cut then .part .ok stream s else .done .ok stream s

/-- SEAL_EXPORT (0x0802, R82, R437). -/
def cmdSealExport : Command where
  opcode := 0x0802
  front := true
  room := false
  mctp := false
  recovery := false
  sched := false
  shape := fixedShape 32
  zero := zeroAt [(1, 7), (0x14, 4), (0x1E, 2)]
  body := fun x s =>
    let bs := x.pkt.params
    let kind := fld bs 0 1
    if kind < 1 ∨ 4 < kind ∨ !s.store.rope.held then Out.of s .invalidParam
    else if (s.exportItems kind (fld bs 8 8) (fld bs 0x10 4) (fld bs 0x18 6)).isNone then Out.of s .invalidParam
    else .held (s.holdWork x 0 [])
  after := some fun x s => s.exportSeal x

/-! ## Handover (R442) -/

/-- The handover record (R418). -/
def handoverRecord (serial : Nat) (keys : List Byte) : List Byte :=
  fixityRecord (beBytes serial 8 ++ pad 8) 0 (sha256 ([0x04] ++ keys)) (sha3_256 ([0x04] ++ keys)) false false 5 0

/-- The storage path stops accepting writes: those not yet at their journal completion end with NOT_PERMITTED. -/
def State.stopWrites (s : State) : State :=
  s.store.ops.foldl (fun s q => match s.op q.id with
    | none => s
    | some o => match o.kind, o.stage with
      | _, .completing => s
      | .write, _ | .dealloc, _ | .splice, _ => s.failOp o .notPermitted
      | _, _ => s) s

/-- Close the open epoch as a HANDOVER knot whose last record is the handover record. -/
def State.handOver (s : State) (serial : Nat) (pk1 pk2 : List Byte) : State :=
  let s := s.stopWrites
  let s := if s.store.rope.opened.isNone then s.openEpoch s.now else s
  match s.store.rope.opened with
  | none => s
  | some e =>
    let e := { e with kind := 3, nextKeys := pairDigest pk1 pk2, next := e.next + 1
                      arrived := e.arrived ++ [(e.next, withSeq (handoverRecord serial (pk1 ++ pk2)) e.next)] }
    let s := (s.setRope { s.store.rope with opened := some e }).closeEpoch s.now 0 s.time.periodUs .never
    let s := s.setRope { s.store.rope with handed := true }
    if s.store.path = 2 then { s with store := { s.store with path := 3 } } else s

/-- SEAL_HANDOVER (0x0803, R442). -/
def cmdSealHandover : Command where
  opcode := 0x0803
  front := true
  room := false
  mctp := false
  recovery := false
  sched := false
  shape := fixedShape 128
  zero := fun _ => true
  body := fun x s =>
    let bs := x.pkt.params
    if !s.store.rope.held ∨ s.store.rope.handed then Out.of s .notPermitted
    else if s.sr.dipFrozen then Out.refuse s .supplyLow
    else if s.sr.sealStopped then Out.of s .busy
    else .held ((s.hold x true 0 []).handOver (fld bs 0 8) (slice bs 8 68) (slice bs 68 128))

/-! ## Acceptance (R443) -/

/-- The knot's own checks of R443, under the predecessor's keys. -/
def handoverKnotOk (pk1 pk2 knot : List Byte) : Bool :=
  let body := knot.take 256
  let sig1 := slice knot 0x104 0x1758
  let sig2 := slice knot 0x175C 11696
  decide (bfld body 0 4 = 0x4E52534B) && decide (bfld body 4 1 = 1) && decide (bfld body 5 1 = 3) && decide (bfld knot 0x100 4 = 5716) &&
    decide (bfld knot 0x1758 4 = 5716) && decide (leafOf sig1 = bfld body 0x58 8) && decide (leafOf sig2 = bfld body 0x58 8) &&
    hssSha 5 pk1 body sig1 && hssShake pk2 body sig2

/-- The pair that SEAL_ACCEPT compares with: the current one, or the next when there is none (R443). -/
def State.acceptPair (s : State) : Option SealPair := match s.sr.sealCur with | some p => some p | none => s.sr.sealNext

/-- Check a predecessor's handover knot and take on its rope (R443). A device that already holds a rope refuses it (DEDUCED, log entry 39). -/
def State.acceptSeal (s : State) (bs : List Byte) : Out :=
  let knot := bs.drop 120
  let body := knot.take 256
  match s.acceptPair with
  | none => Out.of s .sealInvalid
  | some p =>
    let keys := p.pk .sha256 ++ p.pk .shake256
    if !(handoverKnotOk (bs.take 60) (slice bs 60 120) knot && decide (nextKeysOf body = p.digest) &&
        Config.holdsRecord knot (handoverRecord s.sr.fuses.serial keys)) then Out.of s .sealInvalid
    else if p.leaf ≠ 0 ∨ s.store.rope.held then Out.of s .notPermitted
    else
      let n := bfld body 8 8
      let close : Time := ⟨bfld body 0x38 8, bfld body 0x40 4, bfld body 0x44 4⟩
      let s : State := if s.sr.sealCur.isNone then { s with sr := { s.sr with sealCur := some p, sealNext := none } } else s
      Out.of (s.setRope { Rope.none' with
        held := true, id := slice body 0x18 0x28, first := n + 1, number := n + 1, kind := 4, lastClose := close, prev := knot, base := knot }) .ok

/-- SEAL_ACCEPT (0x0804, R82, R443): long-running; it holds the rope and the pair. -/
def cmdSealAccept : Command where
  opcode := 0x0804
  front := true
  room := false
  mctp := false
  recovery := false
  sched := false
  shape := fixedShape 11816
  zero := fun _ => true
  body := fun x s =>
    if (s.runningOn 0x0804 0).isSome then Out.of s .busy
    else if s.acceptPair.isNone then Out.of s .sealInvalid
    else .held (s.holdWork x 0 [])
  after := some fun x s => s.acceptSeal x.pkt.params

/-! ## Verifying a rope (R445): the verifier's procedure, which needs no device -/

/-- A time structure in Narso order at an offset of a knot body (R417). -/
def timeAt (b : List Byte) (o : Nat) : Time := ⟨bfld b o 8, bfld b (o + 8) 4, bfld b (o + 12) 4⟩

/-- What a verifier carries from knot to knot: the knot before (none before a GENESIS knot), the pair that signs, and the last leaf. -/
structure RopeWalk where
  prior : Option (List Byte)
  keys  : List Byte × List Byte
  leaf  : Option Nat
  deriving DecidableEq, Repr

/-- The pair that signs a knot, and the leaf its own must exceed (R445): the pair before, or the one that the knot before names, or one anchored anew. None
where no pair has that digest. -/
def RopeWalk.signer (w : RopeWalk) (pairs : List (List Byte × List Byte)) (anchor : List Byte → Option (List Byte × List Byte)) (b : List Byte) :
    Option ((List Byte × List Byte) × Option Nat) :=
  match w.prior with
  | none => some (w.keys, w.leaf)
  | some p =>
    let flags := bfld b 6 2
    let next := nextKeysOf p
    let named := pairs.find? fun k => decide (pairDigest k.1 k.2 = next)
    if bfld p 5 1 = 3 then named.map fun k => (k, none)
    else if bit flags 5 then (if next = pad 32 then none else named.map fun k => (k, none))
    else if bit flags 6 then (anchor b).map fun k => (k, none)
    else some (w.keys, w.leaf)

/-- A knot follows the one before it, or begins the rope (R445). `fams` are the hash families still trusted. -/
def RopeWalk.follows (w : RopeWalk) (fams : List Family) (b : List Byte) : Bool :=
  match w.prior with
  | none => decide (bfld b 5 1 = 1) && decide (bfld b 8 8 = 0) && decide (slice b 0xA0 0xE0 = pad 64)
  | some p =>
    let flags := bfld p 6 2
    let opens := timeAt b 0x28
    let closed := timeAt p 0x38
    decide (slice b 0x18 0x28 = slice p 0x18 0x28) && decide (bfld b 8 8 = bfld p 8 8 + 1) &&
      (!fams.contains .sha256 || decide (slice b 0xA0 0xC0 = knotHash .sha256 p)) &&
      (!fams.contains .shake256 || decide (slice b 0xC0 0xE0 = knotHash .shake256 p)) &&
      decide (closed.units ≤ opens.units) &&
      (decide (bfld p 5 1 = 3) || bit flags 0 || bit flags 4 || bit flags 2 || decide (opens = closed)) &&
      (decide (bfld p 5 1 ≠ 3) || decide (bfld b 5 1 = 4))

/-- A log belongs to a knot (R445). -/
def logOk (fams : List Family) (b : List Byte) (log : List (List Byte)) : Bool :=
  let seqs := log.map fun r => bfld r 0x5A 6
  decide (log.length = bfld b 0x50 8) && (List.zip seqs (seqs.drop 1)).all (fun p => decide (p.1 < p.2)) &&
    (!fams.contains .sha256 || decide (merkleRoot .sha256 log = slice b 0x60 0x80)) &&
    (!fams.contains .shake256 || decide (merkleRoot .shake256 log = slice b 0x80 0xA0))

/-- One round of the procedure: the state after a knot that it accepts, none after one that it rejects. -/
def RopeWalk.take (w : RopeWalk) (fams : List Family) (pairs : List (List Byte × List Byte)) (anchor : List Byte → Option (List Byte × List Byte))
    (k : List Byte) (log : Option (List (List Byte))) : Option RopeWalk :=
  let b := k.take 256
  let sig1 := slice k 0x104 0x1758
  let sig2 := slice k 0x175C 11696
  let leaf := bfld b 0x58 8
  match w.signer pairs anchor b with
  | none => none
  | some (keys, last) =>
    if decide (bfld b 0 4 = 0x4E52534B) && decide (bfld b 4 1 = 1) && w.follows fams b &&
        (!fams.contains .sha256 || (hssSha 5 keys.1 b sig1 && decide (leafOf sig1 = leaf))) &&
        (!fams.contains .shake256 || (hssShake keys.2 b sig2 && decide (leafOf sig2 = leaf))) &&
        last.all (fun l => decide (l < leaf)) && decide ((timeAt b 0x28).units ≤ (timeAt b 0x38).units) && log.all (logOk fams b) then
      some ⟨some k, keys, some leaf⟩
    else none

/-- A knot sequence with its logs is valid (R445). -/
def ropeValid (fams : List Family) (pairs : List (List Byte × List Byte)) (anchor : List Byte → Option (List Byte × List Byte)) :
    RopeWalk → List (List Byte × Option (List (List Byte))) → Bool
  | _, [] => true
  | w, k :: ks => match w.take fams pairs anchor k.1 k.2 with
    | some w => ropeValid fams pairs anchor w ks
    | none => false

end Sys2Proof.Machine
end

