-- ==== Sys2Proof/Machine/Replay.lean ====
section
/-!
DEFINITION. Journal replay after a reset and in place, the rebuilding of epochs, and the publication of knots (R370, R434, R435,
R512, R573 to R577).
-/

namespace Sys2Proof.Machine

/-! ## What a reset leaves of the storage path (R432, R434, R568) -/

/-- Sign and publish every closed epoch whose places are settled, as far as the journal and the strongroom allow (R570). The drives'
confirmations fall inside the reset (DESIGN CHOICE, log entry 40). -/
def State.flushRope (s : State) : Nat → State
  | 0 => s
  | n + 1 =>
    let s := s.setRope { s.store.rope with closed := s.store.rope.closed.map Epoch.fold }
    let s := match s.store.rope.toBuild with | some e => s.buildBody e | none => s
    match s.store.rope.closed with
    | [] => s
    | e :: _ =>
      if !s.journalUp ∨ e.held ≠ [] ∨ e.arrived ≠ [] ∨ (e.knot = [] ∧ (e.body = [] ∨ s.sr.dipFrozen)) then s
      else
        let s := if e.knot ≠ [] then s else match execKnotSign s with | .next t => t | _ => s
        match s.store.rope.closed with
        | [] => s
        | e :: _ => if e.knot = [] then s else (s.publishKnot e).flushRope n

/-- The open epoch closes with RESET at the trigger of a reset (R432). -/
def State.resetClose (s : State) : State := s.closeEpoch s.now 1 s.time.periodUs .storageOpen

/-- What the rope loses with the device's state (R434): the open epoch, and closed epochs without a published knot. -/
def State.loseRope (s : State) : State :=
  let r := s.store.rope
  let gone := r.closed ++ (match r.opened with | some e => [e] | none => [])
  s.setRope { r with opened := none, closed := [], extended := false, next := .storageOpen
                     lostDip := r.lostDip ++ (gone.filter fun e => bit e.flags 1).map fun e => e.number }

/-- The storage path at a reset that clears the device's memory: operations, connections, batches and drive commands are gone;
configuration, journal, map, rope and batch cursors stay (R464, R568). `drives` says that the drives stay enumerated. -/
def State.loseStore (s : State) (drives : Bool) : State :=
  let x := s.store
  let clean (d : Drive) : Drive := { d with cmds := [], resetAt := none }
  { s with store := { x with
    path := 0, before := none, queue := [], queueSince := none, ops := [], batches := [], leases := [], conns := [], ctrls := [], resync := false
    blocks := x.blocks.map (fun (b : JBlock) => { b with waits := 0 })
    drives := if drives then x.drives.map (fun d => (d.1, clean d.2)) else []
    ports := if drives then x.ports else []
    replay := ⟨0, false, false, 0, decide (x.journal ≠ []), [], x.replay.later⟩
    volumes := x.volumes.map (fun v => (v.1, { v.2 with cycle := none })) } }

/-! ## The vault at boot (R370, R371) -/

/-- The record of a slot at boot: an eMRAM reservation of its generation counts, and counting goes on from the marks. -/
def bootRecord (reserved : Tbl (Nat × Nat × Nat)) (slot : Nat) (v : VaultRec) : VaultRec :=
  let (i, b) := match reserved.find? fun e => decide (e.1 = slot) && decide (e.2.1 = v.cur) with
    | some e => (max v.resInv e.2.2.1, max v.resBlk e.2.2.2)
    | none => (v.resInv, v.resBlk)
  { v with resInv := i, resBlk := b, nextInv := i, nextBlk := b }

/-- The strongroom opens the vault: only a root of the eMRAM generation counts (R370). -/
def State.openVault (s : State) : State :=
  if s.sr.vaultOpen then s
  else if s.sr.savedGen ≠ s.sr.vaultGen then s
  else { s with sr := { s.sr with
    vaultOpen := true, vault := s.sr.vaultSaved.map fun e => (e.1, bootRecord s.sr.reserved e.1 e.2) } }

/-! ## Entries as the journal shows them (R573, R574) -/

/-- Blocks up to the first that is valid on neither drive; each block valid on one drive only is copied to the other. -/
def healBlocks (pair : List (List Byte)) : List JBlock → List JBlock × Nat
  | [] => ([], 0)
  | b :: bs =>
    if b.valid = [] then ([], 0)
    else
      let (rest, n) := healBlocks pair bs
      ({ b with valid := pair, failed := false } :: rest, n + b01 (pair.any fun d => !b.valid.contains d))

/-- What the journal says of an entry; none when it holds no item of it. -/
def readEntry (blocks : List JBlock) (l : Live) : Option Live :=
  let items := blocks.flatMap fun b => b.items.filter fun i => decide (i.entry = l.e.id)
  let starts := items.any fun i => match i with | .start _ => true | _ => false
  let gone := items.any fun i => match i with | .abandon _ => true | _ => false
  let done := items.findSome? fun i => match i with | .complete e ep p rs => some (e, ep, p, rs) | _ => none
  match done with
  | some (e, ep, p, rs) => some { l with e := e, openOk := starts, complete := some (ep, p, rs), abandoned := gone, stuck := false }
  | none => if starts ∨ gone then some { l with openOk := starts, complete := none, abandoned := gone, stuck := false } else none

/-- The time of the journal block that completed an entry. -/
def stampOf (blocks : List JBlock) (id : Nat) : Time :=
  match blocks.find? fun b => b.items.any fun i => match i with | .complete e _ _ _ => decide (e.id = id) | _ => false with
  | some b => b.stamp
  | none => Time.zero

/-! ## Applying entries (R575, R577) -/

/-- Counts and results of a replay: entries, applied, abandoned, executed again, redone; records to rebuild with their epoch,
sequence and completion time. -/
structure ReplayRun where
  entries   : Nat
  applied   : Nat
  abandoned : Nat
  again     : Nat
  redone    : Nat
  rebuilt   : List (Nat × Nat × Time × List Byte)
  deriving DecidableEq, Repr

/-- Last published epoch number plus one; the rope's first epoch when none is. -/
def Rope.firstLost (r : Rope) : Nat := match r.lastPub with | some n => n + 1 | none => r.first

/-- A published or rebuilt epoch holds a tombstone of a domain (R574). -/
def State.tombLogged (s : State) (slot : Nat) (a : ReplayRun) : Bool :=
  let is (r : List Byte) : Bool := decide (bfld r 0x58 2 % 4096 = 4) && decide (r.take 16 = extentId slot 0 0 0)
  (s.store.rope.knots.any fun k => k.log.any fun x => is x.2) || a.rebuilt.any fun x => is x.2.2.2

/-- The records of a complete entry: those of published epochs are not logged again, a place already held is not added again. -/
def State.replayRecords (s : State) (a : ReplayRun) (ep p : Nat) (t : Time) (rs : List (List Byte)) : State × ReplayRun :=
  (List.zip (List.range rs.length) rs).foldl (fun (acc : State × ReplayRun) x =>
    if ep < acc.1.store.rope.firstLost then (acc.1.bump R.SEAL_DUP_SUPPRESSED, acc.2)
    else if acc.2.rebuilt.any fun y => decide (y.1 = ep) && decide (y.2.1 = p + x.1) then acc
    else (acc.1, { acc.2 with rebuilt := acc.2.rebuilt ++ [(ep, p + x.1, t, withSeq x.2 (p + x.1))] })) (s, a)

/-- Redo a repair whose COMPLETE the journal does not hold (R574): read and verify the extent, rewrite what differs. -/
def State.redoRepair (s : State) (l : Live) (x : Extent) : State :=
  let (o, s) := s.addOp { StoreOp.fresh .repair .internal 0xFFFF x.vol x.ns x.lba x.blocks x.domain with
    ext := some x, old := some x, todo := [x], all := true, entry := l.e.id, records := [s.recordOf x 2 true], replayed := true }
  s.readNext o

/-- Replay one entry after a reset (R574, R575). Pieces of a COMPLETE entry are on the drives already, since COMPLETE follows them
(R499), so none is missing. -/
def State.replayEntry (s : State) (a : ReplayRun) (l : Live) : State × ReplayRun :=
  let a := { a with entries := a.entries + 1 }
  let failed : Bool := match s.volume l.e.vol with | some v => v.groupFailed l.e.ext.group | none => false
  if l.abandoned then (s, a)
  else match l.complete with
    | some (ep, p, rs) =>
      if failed ∧ l.e.op ≠ 4 then
        let s := s.setLive { l with stuck := true }
        ({ s with store := { s.store with replay := { s.store.replay with stuck := true } } }, a)
      else
        let gone := decide (l.e.op = 5) && (s.extentAt l.e.ext.vol l.e.ext.ns l.e.ext.lba l.e.ext.seq).isNone
        let s := if l.applied ∨ gone then s else s.applyMap l.e ep p rs
        let s := s.setLive { l with applied := true }
        s.replayRecords { a with applied := a.applied + 1 } ep p (stampOf s.store.blocks l.e.id) rs
    | none =>
      let later (r : List Byte) : State × ReplayRun :=
        ({ s with store := { s.store with replay := { s.store.replay with later := s.store.replay.later ++ [(⟨l.e.op, l.e, r⟩ : Later)] } } },
          { a with redone := a.redone + 1 })
      if l.e.op = 2 then
        match s.extentAt l.e.ext.vol l.e.ext.ns l.e.ext.lba l.e.ext.seq with
        | some x => (s.redoRepair l x, { a with redone := a.redone + 1 })
        | none => (s.abandonEntry l.e.id, { a with abandoned := a.abandoned + 1 })
      else if l.e.op = 4 then
        if s.tombLogged l.e.ext.domain a then (s.abandonEntry l.e.id, a) else later (s.tombRecord l.e.ext.domain true)
      else (s.abandonEntry l.e.id, { a with abandoned := a.abandoned + 1 })

/-! ## Rebuilding epochs (R434, R575) -/

/-- CLOSE_TIME of a knot record. -/
def closeOf (knot : List Byte) : Time := ⟨bfld knot 0x38 8, bfld knot 0x40 4, bfld knot 0x44 4⟩

/-- Rebuild one epoch from its records, closed with RESET at its latest completion, or at its opening when it holds none. The first
epoch of a rope opens at its first completion, for want of a knot before it (DESIGN CHOICE, log entry 40). -/
def State.rebuildEpoch (s : State) (a : ReplayRun) (n : Nat) : State :=
  let r := s.store.rope
  let mine := a.rebuilt.filter fun x => decide (x.1 = n)
  let opens : Time := if r.prev = [] then (match mine.head? with | some (_, _, t, _) => t | none => r.lastClose) else r.lastClose
  let close := mine.foldl (fun (t : Time) (x : Nat × Nat × Time × List Byte) => if t.units ≤ x.2.2.1.units then x.2.2.1 else t) opens
  let flags := if r.lostDip.contains n then 3 else 1
  let kind := if n ≠ r.first then 2 else if r.base = [] then 1 else 4
  let e := { Epoch.start n kind flags opens with close := some close, periodUs := s.time.periodUs, next := epochPlaces
                                                 arrived := mine.map fun (x : Nat × Nat × Time × List Byte) => (x.2.1, x.2.2.2) }
  ((s.setRope { r with closed := r.closed ++ [e.fold], lastClose := close, number := n + 1, kind := 2 }).bump R.SEAL_RESET_CLOSE).bump R.REPLAY_EPOCHS_REBUILT

/-- The rope as its published knots leave it. -/
def State.rewindRope (s : State) : State :=
  let r := s.store.rope
  let last := match r.knots.getLast? with | some k => k.rec' | none => r.base
  let n := r.firstLost
  s.setRope { r with
    prev := last, lastClose := if last = [] then r.lastClose else closeOf last, number := n, next := .storageOpen, opened := none
    kind := if n ≠ r.first then 2 else if r.base = [] then 1 else 4
    pairs := r.pairs.filter fun p => decide (p.1 < n) }

/-- Rebuild every epoch up to the highest that a complete entry names. -/
def State.rebuildEpochs (s : State) (a : ReplayRun) : State :=
  let s := s.rewindRope
  let n := s.store.rope.firstLost
  let top := a.rebuilt.foldl (fun m x => max m (x.1 + 1)) n
  let s := (List.range (top - n)).foldl (fun s i => s.rebuildEpoch a (n + i)) s
  s.setRope { s.store.rope with lostDip := [] }

/-! ## Replay ends (R512, R577, R579) -/

/-- Count a replay and record it in the ledger. -/
def State.countReplay (s : State) (a : ReplayRun) (epochs : Nat) : State :=
  let s := ((((s.count R.REPLAY_ENTRIES a.entries).count R.REPLAY_APPLIED a.applied).count R.REPLAY_ABANDONED a.abandoned).count
    R.REPLAY_REEXECUTED a.again).count R.REPLAY_REDONE a.redone
  s.ledger 7 6 0 (leBytes a.entries 4 ++ leBytes a.applied 4 ++ leBytes a.abandoned 4 ++ leBytes a.again 4 ++ leBytes a.redone 4 ++ leBytes epochs 4 ++ pad 8)

/-- Replay after a reset ends once the knots it rebuilt are published and the repairs it redoes are written; a waiting STORAGE_OPEN goes on. -/
def State.endReplay (s : State) : State :=
  if s.store.replay.active ∧ s.store.replay.phase = 3 ∧ s.store.rope.closed = [] ∧ s.store.ops = [] then
    { s with store := { s.store with replay := { s.store.replay with phase := 4, active := false, progress := 1000 } } }.endStorageOpen
  else s

/-- KNOT_PUBLISH (R434, R435): both journal drives hold the oldest closed epoch's knot. A SEAL_HANDOVER replies with it (R442), and
replay may end. -/
def execKnotPublish (s : State) : Res :=
  match s.store.rope.toPublish with
  | none => .next s
  | some e =>
    let s := s.publishKnot e
    let s := if e.kind = 3 then s.endRunning 0x0803 0 .ok e.knot else s
    .next s.enterLevelTwo.endReplay.storeRetry

/-- Drives that the start finds missing: members and journal drives that are not there are lost (R482, R493, R503). -/
def State.missingDrives (s : State) : State :=
  let here (m : List Byte) : Bool := (s.driveOf m).isSome
  let vols := s.store.volumes.map fun v =>
    (v.1, { v.2 with lost := v.2.lost ++ (List.range v.2.members.length).filter fun i => !here (v.2.members.getD i []) && !v.2.lost.contains i })
  let s : State := { s with store := { s.store with volumes := vols, jLost := s.store.journal.filter fun j => !here j || s.store.jLost.contains j } }
  s

/-- STORAGE_STARTUP (R512): after enumeration the journal is found, the vault opened and replay run. A rope that still has epochs
to publish from before an FLR goes first (R572). -/
def execStorageStartup (s : State) : Res :=
  if !s.sr.ready ∨ !s.store.replay.active ∨ s.store.replay.phase ≠ 0 ∨ s.store.rope.closed ≠ [] ∨ s.store.ops ≠ [] ∨ s.store.queue ≠ [] then .next s
  else
    let s := s.missingDrives
    let done (s : State) (phase : Nat) : State :=
      { s with store := { s.store with replay := { s.store.replay with phase := phase, active := false } } }.endStorageOpen
    if s.store.jLost.length ≥ s.store.journal.length then .next (done s 5)
    else
      let s := s.openVault
      let (blocks, healed) := healBlocks s.store.journal s.store.blocks
      let entries := s.store.entries.filterMap (readEntry blocks)
      let s : State := { s with store := { s.store with blocks := blocks, entries := entries } }
      let s := s.count R.REPLAY_JOURNAL_HEALED healed
      let (s, a) := entries.foldl (fun (acc : State × ReplayRun) l => acc.1.replayEntry acc.2 l) (s, ⟨0, 0, 0, 0, 0, []⟩)
      let s := if s.store.rope.held then s.rebuildEpochs a else s
      let s := s.countReplay a s.store.rope.closed.length
      .next { s with store := { s.store with replay := { s.store.replay with phase := 3, progress := 1000 } } }.endReplay

/-! ## Replay in place (R574) -/

/-- Plaintext of an operation that has encrypted it. -/
def State.plainOf (s : State) (o : StoreOp) : List Byte :=
  match o.ext with
  | some x => (s.openExtent x o.data).getD o.data
  | none => o.data

/-- Run a write, splice, deallocation, read or verification again from its source (R574), under an identifier of its own, so that
drive commands still outstanding for it count no more. -/
def State.runAgain (s : State) (o : StoreOp) (again : Bool) : State :=
  let (o0, s) := (s.dropOp o.id).addOp
    { o with stage := .data, entry := 0, got := [], bad := [], waits := 0, records := [], placed := false, replayed := o.replayed || again, chain := [] }
  match o.kind with
  | .write =>
    match o.src with
    | .ring ref work =>
      match s.workOf ref work with
      | none => s.dropOp o0.id
      | some e =>
        let e := { e with redo := s.requests o.host }
        ((s.setOp { o0 with ext := none, data := [] }).setWork ref e).driveReads ref e
    | _ =>
      let o1 := { o0 with data := s.plainOf o, ext := none }
      (s.setOp o1).encryptOp o1
  | .splice =>
    match o.old with
    | some x =>
      if x.vol = 0xFFFF then
        let o1 := { o0 with data := s.plainOf o, ext := none }
        (s.setOp o1).encryptOp o1
      else
        let o1 := { o0 with data := [], ext := none, todo := [x] }
        (s.setOp o1).readNext o1
    | none => s.dropOp o0.id
  | .read | .verify | .sweep | .rebuild =>
    let o1 := { o0 with records := [] }
    if o.kind = .read ∨ o.kind = .verify then (s.setOp { o1 with todo := [] }).beginOp { o1 with todo := [] } else (s.setOp o1).readNext o1
  | .dealloc =>
    match o.ext with
    | some _ => (s.setOp o0).openEntry o0 5
    | none => s.beginOp o0
  | .repair | .tomb => s

/-- A COMPLETE entry on a failed volume (R577): it stays unreleased, its operation ends without a completion, and an open room whose work it was
enters the in-error state with cause 0x06. The entry of an owner's ring stays in flight (DESIGN CHOICE, log entry 85). -/
def State.stickOp (s : State) (o : StoreOp) (l : Live) : State :=
  let s := s.setLive { l with stuck := true }
  let s := { s with store := { s.store with replay := { s.store.replay with stuck := true } } }.dropOp o.id
  match o.src with
  | .ring ref _ =>
    match refSpace ref with
    | some room => if (s.room room).state = .opened then s.roomError room 6 else s
    | none => s
  | _ => s

/-- The journal entry of an operation, when it is on a failed volume. -/
def State.stuckEntry (s : State) (o : StoreOp) : Option Live :=
  s.store.entries.find? fun l => decide (l.e.id = o.entry) && decide (l.e.op ≠ 4) &&
    (match s.volume l.e.vol with | some v => v.groupFailed l.e.ext.group | none => false)

/-- Replay one operation in place. -/
def State.replayOp (s : State) (a : ReplayRun) (o : StoreOp) : State × ReplayRun :=
  if o.stage = .completing ∧ o.entry ≠ 0 then
    match s.stuckEntry o with
    | some l => (s.stickOp o l, { a with entries := a.entries + 1 })
    | none =>
    (s.setOp { o with replayed := true }, { a with entries := a.entries + 1, applied := a.applied + 1 })
  else if o.entry = 0 then (if o.stage = .data ∨ o.stage = .repairing then s else s.runAgain o false, a)
  else
    let a := { a with entries := a.entries + 1 }
    match o.kind with
    | .repair =>
      let (o, s) := (s.dropOp o.id).addOp { o with replayed := true, records := o.records.map withReplayed }
      ((s.startPieces o).count R.REPLAY_PIECES o.bad.length, { a with redone := a.redone + 1 })
    | .tomb =>
      let o := { o with replayed := true, records := o.records.map withReplayed }
      ((s.setOp o).toPlace o, { a with redone := a.redone + 1 })
    | _ =>
      let s := s.abandonEntry o.entry
      let s := if o.placed then s.releasePlaces o.epoch o.place (max 1 o.records.length) else s
      (s.runAgain o true, { a with abandoned := a.abandoned + 1, again := a.again + 1 })

/-- REPLAY_IN_PLACE (R574): a housekeeper replays the work of recovered threads. -/
def execReplayInPlace (s : State) : Res :=
  let work := s.store.replay.work
  if work = [] then .next s
  else
    let s : State := { s with store := { s.store with replay := { s.store.replay with work := [], inPlace := true } } }
    let (s, a) := (s.store.ops.filter fun o => work.contains o.thread).foldl (fun (acc : State × ReplayRun) o =>
      match acc.1.op o.id with
      | some o => acc.1.replayOp acc.2 o
      | none => acc) (s, ⟨0, 0, 0, 0, 0, []⟩)
    let s := s.countReplay a 0
    .next { s with store := { s.store with replay := { s.store.replay with phase := if s.store.replay.active then s.store.replay.phase else 4, progress := 1000 } } }

/-- `REPLAY.STATUS` (R581). -/
def State.replayStatus (s : State) : Nat :=
  let r := s.store.replay
  r.progress * 2 ^ 16 + b01 r.stuck * 128 + b01 r.inPlace * 8 + r.phase

end Sys2Proof.Machine
end

