-- ==== Sys2Proof/Machine/Nvmt.lean ====
section
/-!
DEFINITION. NVMe/TCP: settings, connections, and the commands of the target (R507 to R511).
-/

namespace Sys2Proof.Machine

/-! ## NVMT_SET (R507) -/

/-- A record of the generation that would be built. -/
def State.nvmtBuilt (s : State) (kind sel : Nat) : List Byte := (s.built 0x0909 (kind * 2 ^ 24 + sel)).drop 8

/-- Bytes of a record's fields; the rest of its 640 is reserved (R507). -/
def nvmtLen : Nat → Nat
  | 1 => 14
  | 2 => 262
  | 3 => 13
  | 4 => 266
  | _ => 544

/-- Fields of a record in range. -/
def nvmtRecOk (r : List Byte) : Bool :=
  let k := fld r 0 1
  decide (1 ≤ k ∧ k ≤ 5) && zeros r 1 1 && zeros r (nvmtLen k) (640 - nvmtLen k) &&
    (match k with
    | 1 => decide (fld r 2 2 < 256) && decide (fld r 5 1 < 2) && decide (fld r 6 1 < 2) && zeros r 7 1 && decide (1000 ≤ fld r 10 4 ∧ fld r 10 4 ≤ 1000000)
    | 2 => decide (fld r 2 2 < 1024) && decide (fld r 4 2 < 1024 ∨ fld r 4 2 = 0xFFFF)
    | 3 => decide (fld r 2 2 < 1024) && decide (1 ≤ fld r 4 2 ∧ fld r 4 2 ≤ 256) && decide (fld r 6 2 < 4096) && decide (fld r 12 1 < 2)
    | 4 => decide (fld r 2 2 < 1024) && decide (1 ≤ fld r 4 1 ∧ fld r 4 1 ≤ 64) && zeros r 5 1
    | _ => decide (fld r 2 2 < 4096) && decide (1 ≤ fld r 5 1 ∧ fld r 5 1 ≤ 64) && decide (16 ≤ fld r 6 2 ∧ fld r 6 2 ≤ 1024) &&
        decide (fld r 30 2 < 1024 ∨ fld r 30 2 = 0xFFFF))

/-- A PSK handle that a party may name. -/
def State.pskOk (s : State) (handle room : Nat) : Bool :=
  match s.session handle with
  | some k => decide (k.kind = 5) && decide (k.room = room)
  | none => false

/-- Some listener requires TLS; every listener serves every subsystem. -/
def State.tlsListener (s : State) : Bool := (List.range 256).any fun i => decide (fld (s.nvmtBuilt 1 i) 5 1 = 1)

/-- Room of a namespace in the generation that would be built. -/
def State.nsRoom (s : State) (ns : Nat) : Nat :=
  match s.stagedAt 0x0902 ns with
  | some b => fld b 6 2
  | none => match s.space ns with | some sp => sp.room | none => noRoom

/-- Selector of a Host record: the entry of its subsystem with the same HOSTNQN, else the next one. -/
def State.hostSel (s : State) (r : List Byte) : Nat :=
  let base := fld r 2 2 * 4096
  let used := (List.range 4096).find? fun i => let h := s.nvmtBuilt 4 (base + i); decide (h = []) || decide (slice h 10 266 = slice r 10 266)
  base + used.getD 4095

/-- Stage one NVMT_SET record; none when it is refused (R507). -/
def State.stageNvmt (s : State) (r : List Byte) : Option State :=
  let sub := s.nvmtBuilt 2 (fld r 2 2)
  let put (sel : Nat) : Option State := some (s.stage 0x0909 (fld r 0 1 * 2 ^ 24 + sel) (countOne 2 8 ++ r))
  if !nvmtRecOk r then none
  else match fld r 0 1 with
    | 1 | 2 => put (fld r 2 2)
    | 3 => if sub = [] ∨ s.nsRoom (fld r 6 2) ≠ fld sub 4 2 then none else put (fld r 2 2 * 4096 + fld r 4 2)
    | 4 =>
      let psk := fld r 6 4
      if sub = [] ∨ (psk = 0 ∧ s.tlsListener) ∨ (psk ≠ 0 ∧ !s.pskOk psk (fld sub 4 2)) then none else put (s.hostSel r)
    | _ => if fld r 26 4 ≠ 0 ∧ !s.pskOk (fld r 26 4) (fld r 30 2) then none else put (fld r 2 2)

/-- NVMT_SET (0x0909, R507). -/
def cmdNvmtSet : Command where
  opcode := 0x0909
  front := true
  room := false
  mctp := false
  recovery := false
  sched := false
  shape := recShape 8 640 0 2 1 256
  zero := zeroAt [(2, 6)]
  body := fun x s =>
    let rs := recordsOf x.pkt.params 8 640 (fld x.pkt.params 0 2)
    match rs.foldl (fun (acc : Option State) r => match acc with | some s => s.stageNvmt r | none => none) (some s) with
    | some s => Out.of s .ok
    | none => Out.of s .invalidParam

/-! ## Connections (R507 to R511) -/

/-- Change a connection. -/
def State.setConn (s : State) (c : Nat) (x : Conn) : State := { s with store := { s.store with conns := Tbl.put c x s.store.conns } }

/-- A connection. -/
def State.conn (s : State) (c : Nat) : Option Conn := (s.store.conns.find? fun e => decide (e.1 = c)).map fun e => e.2

/-- A controller. -/
def State.ctrl (s : State) (k : Nat) : Option Ctrl := (s.store.ctrls.find? fun e => decide (e.1 = k)).map fun e => e.2

/-- Change a controller. -/
def State.setCtrl (s : State) (k : Nat) (x : Ctrl) : State := { s with store := { s.store with ctrls := Tbl.put k x s.store.ctrls } }

/-- A connection ends: its operations end unanswered. -/
def State.closeConn (s : State) (c : Nat) : State :=
  let s : State := { s with store := { s.store with conns := Tbl.erase c s.store.conns } }
  let mine (o : StoreOp) : Bool := match o.src with | .conn k _ => decide (k = c) | _ => false
  (s.store.ops.filter mine).foldl (fun s o => match s.op o.id with
    | some o => if o.stage = .completing then s else s.failOp o .squashed
    | none => s) s

/-- A controller ends with every connection of it. -/
def State.closeCtrl (s : State) (k : Nat) : State :=
  let s : State := { s with store := { s.store with ctrls := Tbl.erase k s.store.ctrls } }
  (s.store.conns.filter fun e => decide (e.2.ctrl = some k)).foldl (fun s e => s.closeConn e.1) s

/-- End a connection, and its controller with its admin queue. -/
def State.endConn (s : State) (c : Nat) : State :=
  match s.conn c with
  | none => s
  | some x => match x.ctrl with
    | some k => if x.queue = 0 then s.closeCtrl k else s.closeConn c
    | none => s.closeConn c

/-- Connections that count against a room (R104, R509). -/
def State.roomConns (s : State) (room : Nat) : Nat := (s.store.conns.filter fun e => decide (e.2.room = room)).length

/-- A connection beyond a limit is refused with a RST (R509). -/
def State.refuseConn (s : State) : State := (s.bump R.NVMT_CONN_REFUSED).emit (.conn 0xFFFFFFFF 0x100 [])

/-- A party may hold one connection more (R508, R509). -/
def State.connRoom (s : State) (room : Nat) : Bool :=
  decide (s.store.conns.length < 65536) && (decide (room = 0xFFFF) || decide (s.roomConns room < (s.room room).limits.nvmtConns))

/-- A number for a new connection. -/
def State.freeConn (s : State) : Nat := firstFree (s.store.conns.map fun e => e.1) 1 65537

/-- The target accepts a connection for a queue of a controller (R508, R509): queue 0 makes a controller. -/
def State.acceptConn (s : State) (l : List Byte) (index : Nat) (remote : List Byte) (port t subsys host queue k : Nat) : State :=
  let sub := nvmtRec (s.adopted 17) 2 subsys
  let h := nvmtRec (s.adopted 17) 4 (subsys * 4096 + host)
  let disc := decide (subsys = 0xFFFF) && decide (fld l 6 1 = 1) && decide (queue = 0)
  let room := if disc then 0xFFFF else fld sub 4 2
  let x : Conn := ⟨false, index, fld l 4 1, remote, fld l 8 2, port, room, t, decide (fld l 5 1 = 0), none, none, queue, 1500, 0, s.clock⟩
  if !s.connRoom room then s.refuseConn
  else if !disc ∧ (sub = [] ∨ h = []) then s.emit (.conn 0xFFFFFFFF 0x100 [])
  else if queue = 0 then
    if s.store.ctrls.length ≥ 8192 then s.refuseConn
    else
      let k := firstFree (s.store.ctrls.map fun e => e.1) 0 8193
      let y : Ctrl := ⟨if disc then none else some subsys, index, slice h 10 266, if disc then 0 else fld h 4 1, 0, s.clock, 0, [], [], 0⟩
      (s.setCtrl k y).setConn s.freeConn { x with ctrl := some k }
  else match s.ctrl k with
    | some y => if y.subsys = some subsys ∧ queue ≤ y.queues then s.setConn s.freeConn { x with ctrl := some k } else s.emit (.conn 0xFFFFFFFF 0x100 [])
    | none => s.emit (.conn 0xFFFFFFFF 0x100 [])

/-- NVMT_CONNECTION_OPEN (R507, R509): a host's connection to a listener, with the subsystem (0xFFFF discovery), Host entry and queue
that its Connect names; or, for `init`, a connection that the device opens under an initiator record. -/
def execNvmtConnectionOpen (init : Bool) (index : Fin 4096) (remote : List Byte) (port : BitVec 16) (t : Fin 2048) (subsys : BitVec 16)
    (host : Fin 4096) (queue : Fin 65) (ctrl : Nat) (s : State) : Res :=
  if init then
    let r := nvmtRec (s.adopted 17) 5 index.val
    if r = [] then .next s
    else if !s.connRoom (fld r 30 2) then .next s.refuseConn
    else
      .next (s.setConn s.freeConn ⟨true, index.val, fld r 4 1, slice r 10 26, port.toNat, fld r 8 2, fld r 30 2, t.val, decide (fld r 26 4 = 0), none, none,
        queue.val, 1500, 0, s.clock⟩)
  else
    let l := nvmtRec (s.adopted 17) 1 index.val
    if l = [] ∨ 256 ≤ index.val then .next s
    else .next (s.acceptConn l index.val remote port.toNat t.val subsys.toNat host.val queue.val ctrl)

/-- PSK handles that a connection may use (R510): those its subsystem's Host entries name, or its initiator record's. -/
def State.connPsks (s : State) (x : Conn) : List Nat :=
  if x.initiator then [fld (nvmtRec (s.adopted 17) 5 x.index) 26 4]
  else match x.ctrl with
    | none => []
    | some k => match s.ctrl k with
      | some y => (match y.subsys with
        | some n => ((s.adopted 17).filterMap fun e => if keyOp e.1 = 0x0909 ∧ keySel e.1 / 4096 = 4 * 4096 + n then some (fld (e.2.drop 8) 6 4) else none)
        | none => [])
      | none => []

/-- The record protection that a handshake under a PSK leaves (R252, R510): the suite whose hash the PSK's length fits (DEDUCED, log entry 88), and
traffic secrets, which the exchange of both sides makes and the command does not show: free values. -/
def State.tlsKeys (s : State) (psk : SessKey) : Tls × State :=
  let strong := decide (psk.key.length = 48)
  let n := if strong then 48 else 32
  let out := s.freeBytes n
  let inn := out.2.freeBytes n
  (⟨strong, out.1, inn.1, 0, 0⟩, inn.2)

/-- NVMT_TLS_HANDSHAKE (R510): the PSK identity must be one that the subsystem's hosts name, and the exchange must succeed under it;
otherwise the connection closes and is counted. -/
def execNvmtTlsHandshake (c : Nat) (ident : List Byte) (ok : Bool) (s : State) : Res :=
  match s.conn c with
  | none => .next s
  | some x =>
    if x.secure then .next s
    else
      let psk := ((s.connPsks x).filterMap s.session).find? fun k => decide (k.kind = 5) && decide (slice k.body 0x30 0x50 = fit ident 32)
      match psk, ok with
      | some k, true =>
        let t := s.tlsKeys k
        .next (t.2.setConn c { x with secure := true, tls := some t.1 })
      | _, _ => .next ((s.endConn c).bump R.NVMT_TLS_FAIL)

/-- NVMT_PDU_ERROR (R510): a termination request PDU ends the connection. -/
def execNvmtPduError (c : Nat) (digest : Bool) (s : State) : Res :=
  match s.conn c with
  | none => .next s
  | some _ => .next (((s.sendPdu c 3 []).endConn c).bump (if digest then R.NVMT_DIGEST_ERR else R.NVMT_PDU_ERR))

/-- TCP_RETRANSMIT_TIMEOUT (R511): the oldest unacknowledged segment goes out again. -/
def execTcpRetransmitTimeout (c : Nat) (s : State) : Res :=
  match s.conn c with
  | none => .next s
  | some x => .next ((s.setConn c { x with retries := x.retries + 1 }).emit (.conn c 0x101 []))

/-- TCP_PROGRESS_TIMEOUT (R511): no acknowledgement progress for 30 s resets the connection. -/
def execTcpProgressTimeout (c : Nat) (s : State) : Res :=
  match s.conn c with
  | none => .next s
  | some x => if x.progress + 30000000000 ≤ s.clock then .next ((s.emit (.conn c 0x100 [])).endConn c) else .next s

/-! ## Admin commands (R508). What a reply's data holds is shown as the fields that R508 states, in that order. -/

/-- Command identifier of a submission queue entry. -/
def sqeCid (q : List Byte) : Nat := fld q 2 2
/-- Command dword `n`, from 10. -/
def sqeDw (q : List Byte) (n : Nat) : Nat := fld q (4 * n) 4

/-- NVMe status Invalid Command Opcode and Invalid Field in Command, with DNR. -/
def nvmeBadOpcode : Nat := 0x4001
/-- Invalid Field in Command. -/
def nvmeBadField : Nat := 0x4002

/-- Run a command of the admin queue of a target connection. -/
def State.adminCmd (s : State) (c : Nat) (q : List Byte) (f : State → Nat → Ctrl → State) : State :=
  match s.conn c with
  | none => s
  | some x =>
    if x.initiator ∨ !x.secure then s
    else match x.ctrl with
      | none => s
      | some k => match s.ctrl k with
        | none => s
        | some y => if x.queue = 0 then f s k y else s.nvmeRespond c (sqeCid q) nvmeBadOpcode

/-- An export of a controller's subsystem: its record. -/
def State.exportOf (s : State) (y : Ctrl) (nsid : Nat) : List Byte :=
  match y.subsys with
  | some n => if nsid < 4096 then nvmtRec (s.adopted 17) 3 (n * 4096 + nsid) else []
  | none => []

/-- An admin command ends with data. -/
def State.adminData (s : State) (c : Nat) (q data : List Byte) : State := (s.sendPdu c 7 data).nvmeRespond c (sqeCid q) 0

/-- NVMT_IDENTIFY (R508): a namespace (CNS 0), the controller (CNS 1) or the active namespaces (CNS 2). -/
def execNvmtIdentify (c : Nat) (sqe : List Byte) (s : State) : Res :=
  .next (s.adminCmd c sqe fun s k y =>
    match sqeDw sqe 10 % 256 with
    | 0 =>
      let e := s.exportOf y (fld sqe 4 4)
      match (if e = [] then none else s.space (fld e 6 2)) with
      | some sp => s.adminData c sqe (leBytes sp.size 8 ++ leBytes 4096 4 ++ leBytes (b01 (sp.readOnly || bit (fld e 12 1) 0)) 1)
      | none => s.nvmeRespond c (sqeCid sqe) nvmeBadField
    | 1 =>
      let sub := match y.subsys with | some n => slice (nvmtRec (s.adopted 17) 2 n) 6 262 | none => []
      s.adminData c sqe (leBytes 12 1 ++ leBytes k 2 ++ leBytes 8192 4 ++ leBytes 131072 4 ++ leBytes 1024 2 ++ fit sub 256)
    | 2 => s.adminData c sqe ((((List.range 256).filter fun i => decide (i + 1 > fld sqe 4 4) && decide (s.exportOf y (i + 1) ≠ [])).map fun i => leBytes (i + 1) 4).flatten)
    | _ => s.nvmeRespond c (sqeCid sqe) nvmeBadField)

/-- NVMT_GET_LOG_PAGE (R508): error, SMART and Changed Namespace List; on a discovery controller, the discovery log (page 0x70) of its
listener. -/
def execNvmtGetLogPage (c : Nat) (sqe : List Byte) (s : State) : Res :=
  .next (s.adminCmd c sqe fun s k y =>
    match sqeDw sqe 10 % 256 with
    | 1 => s.adminData c sqe (leBytes y.errors 8)
    | 2 => s.adminData c sqe []
    | 4 => (s.setCtrl k { y with changed := [] }).adminData c sqe ((y.changed.map fun n => leBytes n 4).flatten)
    | 0x70 =>
      if y.subsys = none then
        s.adminData c sqe (((List.range 1024).map fun n => slice (nvmtRec (s.adopted 17) 2 n) 6 262).flatten)
      else s.nvmeRespond c (sqeCid sqe) 0x4109
    | _ => s.nvmeRespond c (sqeCid sqe) 0x4109)

/-- Queues granted, as Number of Queues reports them. -/
def queueFeature (n : Nat) : Nat := (n - 1) * 65536 + (n - 1)

/-- NVMT_GET_FEATURES (R508): Number of Queues, Keep Alive Timer, Asynchronous Event Configuration. -/
def execNvmtGetFeatures (c : Nat) (sqe : List Byte) (s : State) : Res :=
  .next (s.adminCmd c sqe fun s _ y =>
    match sqeDw sqe 10 % 256 with
    | 0x07 => s.nvmeRespond c (sqeCid sqe) 0 (queueFeature y.queues)
    | 0x0F => s.nvmeRespond c (sqeCid sqe) 0 y.kato
    | 0x0B => s.nvmeRespond c (sqeCid sqe) 0 y.aen
    | _ => s.nvmeRespond c (sqeCid sqe) nvmeBadField)

/-- NVMT_SET_FEATURES (R508): the host gets as many I/O queues as it asks for, up to those granted to its entry. -/
def execNvmtSetFeatures (c : Nat) (sqe : List Byte) (s : State) : Res :=
  .next (s.adminCmd c sqe fun s k y =>
    let v := sqeDw sqe 11
    match sqeDw sqe 10 % 256 with
    | 0x07 =>
      let n := min y.queues (min (v % 65536) (v / 65536) + 1)
      (s.setCtrl k { y with queues := n }).nvmeRespond c (sqeCid sqe) 0 (queueFeature n)
    | 0x0F => (s.setCtrl k { y with kato := v, lastKeep := s.clock }).nvmeRespond c (sqeCid sqe) 0
    | 0x0B => (s.setCtrl k { y with aen := v }).nvmeRespond c (sqeCid sqe) 0
    | _ => s.nvmeRespond c (sqeCid sqe) nvmeBadField)

/-- NVMT_KEEP_ALIVE (R508). -/
def execNvmtKeepAlive (c : Nat) (sqe : List Byte) (s : State) : Res :=
  .next (s.adminCmd c sqe fun s k y => (s.setCtrl k { y with lastKeep := s.clock }).nvmeRespond c (sqeCid sqe) 0)

/-- Answer a waiting Asynchronous Event Request of a controller with Namespace Attribute Changed, when the host asked for it. -/
def State.notifyNs (s : State) (k : Nat) : State :=
  match s.ctrl k with
  | none => s
  | some y =>
    match y.events, s.store.conns.find? fun e => decide (e.2.ctrl = some k) && decide (e.2.queue = 0) with
    | cid :: rest, some e => if bit y.aen 8 ∧ y.changed ≠ [] then (s.setCtrl k { y with events := rest }).nvmeRespond e.1 cid 0 0x040002 else s
    | _, _ => s

/-- NVMT_ASYNC_EVENT_REQUEST (R508): it waits for an event. -/
def execNvmtAsyncEventRequest (c : Nat) (sqe : List Byte) (s : State) : Res :=
  .next (s.adminCmd c sqe fun s k y => (s.setCtrl k { y with events := y.events ++ [sqeCid sqe] }).notifyNs k)

/-- A committed Export changes a namespace of its subsystem's controllers. -/
def State.applyExport (s : State) (sel : Nat) : State :=
  let sub := sel % 2 ^ 24 / 4096
  let nsid := sel % 4096
  s.store.ctrls.foldl (fun s e =>
    if e.2.subsys = some sub then (s.setCtrl e.1 { e.2 with changed := if e.2.changed.contains nsid then e.2.changed else e.2.changed ++ [nsid] }).notifyNs e.1
    else s) s

/-- KEEP_ALIVE_TIMER_EXPIRY (R508): a controller whose timer has run out ends. -/
def execKeepAliveTimerExpiry (ctrl : Nat) (s : State) : Res :=
  match s.ctrl ctrl with
  | none => .next s
  | some y => if y.kato ≠ 0 ∧ y.lastKeep + y.kato * 1000000 ≤ s.clock then .next (s.closeCtrl ctrl) else .next s

/-! ## I/O commands (R509) -/

/-- Run a command of an I/O queue; the controller's subsystem, room and export record are given. -/
def State.ioCmd (s : State) (c : Nat) (q : List Byte) (f : State → Conn → List Byte → State) : State :=
  match s.conn c with
  | none => s
  | some x =>
    if x.initiator ∨ !x.secure then s
    else match x.ctrl with
      | none => s
      | some k => match s.ctrl k with
        | none => s
        | some y =>
          if x.queue = 0 then s.nvmeRespond c (sqeCid q) nvmeBadOpcode
          else
            let e := s.exportOf y (fld q 4 4)
            if e = [] then s.nvmeRespond c (sqeCid q) 0x400B else f s x e

/-- The party of a connection. -/
def Conn.party (x : Conn) : Option Nat := if x.room = 0xFFFF then none else some x.room

/-- An operation of a connection under R498: refused with its NVMe status, or begun. -/
def State.connOp (s : State) (c : Nat) (q : List Byte) (x : Conn) (e : List Byte) (kind : OpKind) (lba blocks : Nat) (data : List Byte) : State :=
  let n := fld e 6 2
  let dom := s.domainOf x.party (fld e 8 4)
  let beyond : Bool := match s.space n with | some sp => decide (lba + blocks > sp.size) | none => false
  if blocks > 4096 then s.nvmeRespond c (sqeCid q) nvmeBadField
  else match s.storeRefuses kind (some n) (if kind = .read then some (dom.getD 0) else dom) lba blocks (bit (fld e 12 1) 0) with
    | (some st, s) => s.nvmeRespond c (sqeCid q) (nvmeStatus st (decide (kind ≠ .read)) beyond)
    | (none, s) =>
      let vol := match s.space n with | some sp => sp.vol | none => 0
      let vor := match s.volume vol with | some v => bit v.flags 6 | none => false
      let (o, s) := s.addOp { StoreOp.fresh kind (.conn c (sqeCid q)) x.room vol n lba blocks (dom.getD 0) with rehash := vor, data := data }
      s.beginOp o

/-- NVMT_READ (R509). -/
def execNvmtRead (c : Nat) (sqe : List Byte) (s : State) : Res :=
  .next (s.ioCmd c sqe fun s x e => s.connOp c sqe x e .read (fld sqe 40 8) (fld sqe 48 2 + 1) [])

/-- NVMT_WRITE (R509): `data` is what the host transferred. -/
def execNvmtWrite (c : Nat) (sqe data : List Byte) (s : State) : Res :=
  .next (s.ioCmd c sqe fun s x e => s.connOp c sqe x e .write (fld sqe 40 8) (fld sqe 48 2 + 1) (fit data (4096 * (fld sqe 48 2 + 1))))

/-- NVMT_FLUSH (R508): every write answered before it is durable already (R499). -/
def execNvmtFlush (c : Nat) (sqe : List Byte) (s : State) : Res :=
  .next (s.ioCmd c sqe fun s _ _ => s.nvmeRespond c (sqeCid sqe) 0)

/-- NVMT_DEALLOCATE (R509): every range must be deallocable; the capsule follows the last of them. -/
def execNvmtDeallocate (c : Nat) (sqe data : List Byte) (s : State) : Res :=
  .next (s.ioCmd c sqe fun s x e =>
    let n := fld e 6 2
    let dom := s.domainOf x.party (fld e 8 4)
    if !bit (sqeDw sqe 11) 2 then s.nvmeRespond c (sqeCid sqe) 0
    else
      let rs := (List.range (sqeDw sqe 10 % 256 + 1)).map fun i => (fld data (16 * i + 8) 8, fld data (16 * i + 4) 4)
      let (bad, s) := rs.foldl (fun (acc : Option (Status × Bool) × State) r =>
        match acc.1 with
        | some _ => acc
        | none => match acc.2.storeRefuses .dealloc (some n) dom r.1 r.2 (bit (fld e 12 1) 0) with
          | (some st, s) => (some (st, match s.space n with | some sp => decide (r.1 + r.2 > sp.size) | none => false), s)
          | (none, s) => (none, s)) (none, s)
      match bad with
        | some (st, beyond) => s.nvmeRespond c (sqeCid sqe) (nvmeStatus st true beyond)
        | none =>
          let vol := match s.space n with | some sp => sp.vol | none => 0
          match rs.flatMap fun r => s.extentsIn n r.1 r.2 with
          | [] => s.nvmeRespond c (sqeCid sqe) 0
          | y :: rest =>
            let o := { StoreOp.fresh .dealloc (.conn c (sqeCid sqe)) x.room vol n y.lba y.blocks (dom.getD 0) with ext := some y, old := some y, todo := rest }
            let (o, s) := s.addOp o
            s.openEntry o 5)

end Sys2Proof.Machine
end

