-- ==== Sys2Proof/Machine/LinkEvents.lean ====
section
/-!
DEFINITION. Events of the host link: read completions and timeouts, Bus Master Enable, translations, errors, link width, DOE, SPDM,
IDE and TDISP (R43 to R72, R126, R127).
-/

namespace Sys2Proof.Machine

/-! ## Work items whose reads have ended -/

/-- A command whose parameter block a work item reads is ready to begin (R80): with its bytes, or with the way the read failed. -/
def State.paramsRead (s : State) (ref id : Nat) (how : ParamDma) : State :=
  let got (f : Fetched) : Fetched := if f.ref = ref ∧ f.work = id then
      { f with len := 0, work := 0, pkt := { f.pkt with paramDma := how, params := if how = .done then s.hostRead (refSpace ref) f.ptr f.len else [] } }
    else f
  { s.dropWork ref id with cmd := { s.cmd with fetched := s.cmd.fetched.map got } }

/-- What a long-running command reads has come, or failed (R56, R82). -/
def State.longRead (s : State) (ref id : Nat) (how : ParamDma) : State :=
  let got (r : Running) : Running := if r.work = id then { r with work := 0, ready := some how } else r
  { s.dropWork ref id with cmd := { s.cmd with running := s.cmd.running.map got } }

/-- Fields of a command packet (R79) from its 64 bytes: the opcode and the packet, its parameter block still to be read. -/
def packetOf (path : Path) (bs : List Byte) (entry : Nat) (pass : Bool) : Nat × Packet :=
  (fld bs 0 2,
    { path := path, flags := BitVec.ofNat 16 (fld bs 2 2), tag := BitVec.ofNat 32 (fld bs 4 4), atTime := Time.ofBytes bs 8
      rep := BitVec.ofNat 32 (fld bs 0x18 4), room := fld bs 0x1C 2, params := [], paramDma := .done
      replyPtr := fld bs 0x30 8, replyLen := fld bs 0x38 4, entry := some entry, pass := pass })

/-- A packet in hand with its parameter block still to be read (R80). A block longer than any command's limit is cut one byte above the largest
(R599). -/
def fetchedOf (ref index : Nat) (path : Path) (bs : List Byte) (entry : Nat) (pass : Bool) : Fetched :=
  let (op, p) := packetOf path bs entry pass
  ⟨ref, index, op, p, fld bs 0x28 8, min (fld bs 0x20 4) 1048593, 0⟩

/-- Where the reads of long-running commands and those of the mailbox are held among the rings' work: neither is a ring. -/
def longRef : Nat := refOf 5 true 0 0
/-- The mailbox's. -/
def mailboxRef : Nat := refOf 6 true 0 0

/-- The mailbox's packet, or a parameter block of it, has been read (R80, R387). A packet that cannot be read leaves nothing to execute or to
write a reply for, and the mailbox is done (DESIGN CHOICE, log entry 83). -/
def State.mailboxReadEnd (s : State) (id : Nat) (how : ParamDma) : State :=
  if s.sr.mboxRead ≠ id then s.paramsRead mailboxRef id how
  else
    let s : State := { s.dropWork mailboxRef id with sr := { s.sr with mboxRead := 0 } }
    if how ≠ .done then { s with sr := { s.sr with mboxBusy := false, mboxDone := true } }
    else
      let a := (s.reg R.SR_MBOX_ADDR).toNat
      { s with cmd := { s.cmd with fetched := s.cmd.fetched ++ [fetchedOf mailboxRef 0 .mailbox (s.hostRead none a 64) a false] } }

/-- The reads and translations of a work item have all come: a transmit frame goes on, a store operation begins, a command has its
parameters. -/
def State.workReady (s : State) (ref : Nat) (e : Entry) : State :=
  match refKind ref with
  | 0 => s.txHand ref e
  | 2 => s.storeReady ref e
  | 4 => s.paramsRead ref e.id .done
  | 5 => s.longRead ref e.id .done
  | 6 => s.mailboxReadEnd e.id .done
  | _ => s

/-- A work item fails for a read or a translation (R56, R60, R66, R80); a store operation ends with it. -/
def State.failRead (s : State) (ref : Nat) (e : Entry) (st : Status) : State :=
  let how : ParamDma := if st = .dmaTimeout then .timedOut else .aborted
  if refKind ref = 4 then s.paramsRead ref e.id how
  else if refKind ref = 5 then s.longRead ref e.id how
  else if refKind ref = 6 then s.mailboxReadEnd e.id how
  else match s.opOfWork ref e.id with
  | none => s.failWork ref e st
  | some o =>
    let s := s.failOp o st
    match refSpace ref with
    | some r => s.roomDmaFail r (decide (st = .dmaTimeout))
    | none => s

/-- A tag is free again; an invalidation waits for it no longer (R67). -/
def State.freeTagNow (s : State) (t : Nat) : State :=
  let s := s.setTag t Tag.free
  { s with link := { s.link with invalidations := s.link.invalidations.map fun (i : Invalidation) => { i with tags := i.tags.erase t } } }

/-- A tag enters quarantine (R55). -/
def State.quarantineTag (s : State) (t : Nat) (q : TagState) : State :=
  let s := s.setTag t { s.tag t with state := q }
  { s with link := { s.link with invalidations := s.link.invalidations.map fun (i : Invalidation) => { i with tags := i.tags.erase t } } }

/-- Abandon every busy tag that `f` names (R55). -/
def State.abandonTags (s : State) (f : Tag → Bool) : State :=
  s.busyTags.foldl (fun s e => if f e.2 then s.quarantineTag e.1 (.quarantinedAbandoned (e.2.issued + 3 * e.2.cto)) else s) s

/-- Free every tag (R59). -/
def State.freeTags (s : State) : State :=
  { s with link := { s.link with tags := [], invalidations := s.link.invalidations.map fun (i : Invalidation) => { i with tags := [] } } }

/-- The read of a tag must be issued again once Bus Master Enable is set (R61): the tag no longer belongs to its work item. -/
def State.haltRead (s : State) (t : Nat) : State :=
  let x := s.tag t
  match s.workOf x.ref x.work with
  | none => s
  | some e => (s.setWork x.ref (e.halt [x.addr])).setTag t { x with work := 0 }

/-- One read of a work item has ended well. -/
def State.readArrived (s : State) (x : Tag) : State :=
  match s.workOf x.ref x.work with
  | none => s
  | some e =>
    let e := { e with reads := e.reads - 1 }
    let s := s.setWork x.ref e
    if e.complete' then s.workReady x.ref e else s

/-- A completion with an error status fails the work item and frees the tag (R60). -/
def State.readError (s : State) (t : Nat) (poisoned : Bool) : State :=
  let x := s.tag t
  let s := (s.freeTagNow t).bump R.HOSTLINK_ERR_CPL
  let s := if poisoned then s.reportAer .poisonedTlp else s
  match s.workOf x.ref x.work with
  | none => s
  | some e => s.failRead x.ref e .dmaAborted

/-- A completion TLP (R55, R57, R60, R61): status 0 successful, 1 Unsupported Request, 2 Completer Abort, 3 poisoned; `final` is
decided by the byte count. -/
def State.completionReceived (s : State) (tag : Nat) (status : Fin 4) (final : Bool) : State :=
  let s := s.traffic
  let x := s.tag tag
  match x.state with
  | .free => ((s.bump R.HOSTLINK_UNEXP_CPL).reportAer .unexpectedCompletion)
  | .quarantinedTimeout _ => ((s.bump R.HOSTLINK_LATE_CPL).reportAer .unexpectedCompletion)
  | .quarantinedAbandoned _ =>
    let s := s.bump R.HOSTLINK_ABANDONED_CPL
    (if final then (s.freeTagNow tag).pump else s)
  | .busy =>
    if status.val ≠ 0 then (s.readError tag (decide (status.val = 3))).pump
    else if !s.link.bme then
      let s := (s.bump R.HOSTLINK_BME_DISCARD).haltRead tag
      (if final then s.freeTagNow tag else s)
    else (if final then ((s.freeTagNow tag).readArrived x).pump else s)

/-- A completion timeout (R54 to R56, R61): the timer may fire from 90 % of the timeout on. -/
def State.completionTimeout (s : State) (tag : Nat) : State :=
  let x := s.tag tag
  if x.state ≠ .busy ∨ 10 * s.clock < 10 * x.issued + 9 * x.cto then s
  else
    let s := (s.quarantineTag tag (.quarantinedTimeout (s.clock + 2 * x.cto))).bump R.HOSTLINK_CPL_TIMEOUT
    let s := s.reportAer (if x.room.isSome then .completionTimeoutAdvisory else .completionTimeoutNonFatal)
    if !s.link.bme then (s.haltRead tag)
    else match s.workOf x.ref x.work with
      | none => s
      | some e => (s.failRead x.ref e .dmaTimeout).pump

/-- QUARANTINE_END (R55). -/
def execQuarantineEnd (tag : Nat) (s : State) : Res :=
  match (s.tag tag).state with
  | .quarantinedTimeout t | .quarantinedAbandoned t => if t ≤ s.clock then .next (s.freeTagNow tag).pump else .next s
  | _ => .next s

/-! ## Configuration writes (R39, R43, R54, R61) -/

/-- Bits of the Command register, other than Bus Master Enable. -/
def State.commandBits (s : State) (v : BitVec 16) : State :=
  { s with link := { s.link with memEnable := v.getLsbD 1, cmdOther := BitVec.ofNat 3 (b01 (v.getLsbD 6) + 2 * b01 (v.getLsbD 8) + 4 * b01 (v.getLsbD 10)) } }

/-- Every work item with a read still to be sent is marked HALTED_BME (R61). -/
def State.haltWaiting (s : State) : State :=
  { s with rings := s.rings.map fun (p : Nat × Ring) =>
      (p.1, { p.2 with work := p.2.work.map fun (e : Entry) => if e.redo = [] then e else { e with halted := true } }) }

/-- BME_CLEAR (R61): a write of the Command register with Bus Master Enable 0. -/
def execBmeClear (v : BitVec 16) (s : State) : Res :=
  .next (s.config fun s => State.haltWaiting { s.commandBits v with link := { (s.commandBits v).link with bme := false } })

/-- Every HALTED_BME work item goes on: its reads are issued again (R62). -/
def State.resumeReads (s : State) : State :=
  let s : State := { s with rings := s.rings.map fun (p : Nat × Ring) => (p.1, { p.2 with work := p.2.work.map fun (e : Entry) => { e with halted := false } }) }
  s.pump

/-- DMA is open again: held writes, halted work, then held interrupts (R62, R150). -/
def State.resumeDma (s : State) : State := if s.dmaOpen then (s.sendHeld s.link.heldWrites.length).resumeReads.releaseAll else s

/-- CTO_VALUE_WRITE (R54): a write of Device Control 2; a range D or reserved encoding keeps the previous timeout. LTR Mechanism Enable
is bit 10 and 10-Bit Tag Requester Enable bit 12 (PRESUMED, log entry 2). -/
def execCtoValueWrite (v : BitVec 16) (s : State) : Res :=
  let c := v.toNat % 16
  .next (s.config fun s => { s with link := { s.link with
    ctoValue := if (ctoNs c).isSome then c else s.link.ctoValue, ltrEnable := v.getLsbD 10, tag10 := v.getLsbD 12 } })

/-- Bits of the Power Management control and status register: PME_En, and PME_Status cleared by a 1 (PRESUMED, log entry 2). -/
def State.pmBits (s : State) (v : BitVec 16) : State :=
  { s with link := { s.link with pmeEn := v.getLsbD 8, pmeStatus := s.link.pmeStatus && !v.getLsbD 15 } }

/-- An interrupt that moderation made due is pending. -/
def State.anyPending (s : State) : Bool := s.msgs.any (fun m => m.2.pending) || s.link.msix.any fun m => m.2.pending

/-- D3HOT_ENTRY (R47, R150): a write of the power state D3hot. -/
def execD3hotEntry (v : BitVec 16) (s : State) : Res :=
  .next (s.config fun s =>
    let was := s.link.dstate
    let s := s.pmBits v
    if was ≠ .d0 then s
    else
      let s : State := { s with link := { s.link with dstate := .d3hot } }
      if s.anyPending then s.wantPme else s)

/-- MSIX_TABLE_WRITE (R41, R149): a word of a table entry, 0 and 1 the address, 2 the data, 3 the control with its Mask bit. -/
def execMsixTableWrite (vec : Fin 2048) (field : Fin 4) (v : BitVec 32) (s : State) : Res :=
  if !s.barOpen then .next s
  else
    let x := s.vec vec.val
    let x := match field.val with
      | 0 => { x with addr := x.addr / 2 ^ 32 * 2 ^ 32 + v.toNat / 4 * 4 }
      | 1 => { x with addr := v.toNat * 2 ^ 32 + x.addr % 2 ^ 32 }
      | 2 => { x with data := v.toNat }
      | _ => { x with masked := v.getLsbD 0 }
    .next (s.setVec vec.val x).releaseVecs

/-- MSIX_CONTROL_WRITE (R149): MSI-X Enable is bit 15 and Function Mask bit 14 (PRESUMED, log entry 2). -/
def execMsixControlWrite (v : BitVec 16) (s : State) : Res :=
  .next (s.config fun s => State.releaseVecs { s with link := { s.link with msixEnable := v.getLsbD 15, functionMask := v.getLsbD 14 } })

/-! ## Translations (R66, R67) -/

/-- A work item waits for a page no longer. -/
def State.pageCame (s : State) (ref : Nat) (e : Entry) (page : Nat) : State :=
  let e := { e with pages := e.pages.filter fun p => decide (p ≠ page) }
  let s := (s.setWork ref e).driveReads ref e
  match s.workOf ref e.id with
  | some e => if e.complete' then s.workReady ref e else s
  | none => s

/-- Work items that wait for a page of a party. -/
def State.waitPage (s : State) (room page : Nat) : List (Nat × Entry) :=
  s.rings.flatMap fun r => if s.party (refSpace r.1) = room then (r.2.work.filter fun e => e.pages.contains page).map fun e => (r.1, e) else []

/-- A frame waits for delivery into a party's buffers. -/
def State.frameWaits (s : State) (room : Nat) : Bool :=
  s.pipe.delivery.any fun d => match s.ringOfGlobal d.1 with
    | some ref => decide (s.party (refSpace ref) = room)
    | none => false

/-- Held writes to a page that may not be accessed go, and the room's policy sees an aborted access (R66, R111). -/
def State.denyWrites (s : State) (room page : Nat) : State :=
  let hit (w : HostWrite) : Bool := decide (s.party w.room = room) && (pagesOf w.addr w.data.length).contains page
  let gone := s.link.heldWrites.filter hit
  let s : State := { s with link := { s.link with heldWrites := s.link.heldWrites.filter fun w => !hit w } }
  match gone with
  | [] => s
  | w :: _ => match w.room with
    | some r => s.roomDmaFail r false
    | none => s

/-- ATS_TRANSLATION_COMPLETION (R66): the page's address, or none for no access, which fails the work that waited. -/
def execAtsTranslationCompletion (room page : Nat) (phys : Option Nat) (s : State) : Res :=
  if !s.link.atsAsked.contains (room, page) then .next s
  else
    let s : State := { s with link := { s.link with atsAsked := s.link.atsAsked.filter fun a => decide (a ≠ (room, page)) } }
    match phys with
    | some a =>
      let s : State := { s with link := { s.link with ats := ((⟨room, page, a⟩ : AtsEntry) :: s.link.ats).take 8192 } }
      .next ((s.waitPage room page).foldl (fun s w => s.pageCame w.1 w.2 page) (s.sendHeld s.link.heldWrites.length)).pump
    | none =>
      let s : State := if s.frameWaits room then { s with link := { s.link with atsDenied := s.link.atsDenied ++ [(room, page)] } } else s
      .next ((s.waitPage room page).foldl (fun s w => s.failRead w.1 w.2 .dmaAborted) (s.denyWrites room page)).pump

/-- A cached translation matches an Invalidation Request. -/
def atsMatches (room page pages : Nat) (global : Bool) (e : AtsEntry) : Bool :=
  (global || decide (e.room = room)) && decide (page ≤ e.page ∧ e.page < page + 4096 * pages)

/-- A busy tag's request used an entry that an Invalidation Request removes. -/
def State.tagUses (s : State) (room page pages : Nat) (global : Bool) (t : Tag) : Bool :=
  (global || decide (s.party t.room = room)) && decide (page ≤ t.addr ∧ t.addr < page + 4096 * pages)

/-- ATS_INVALIDATION_REQUEST (R67): matching entries are used no longer; a Global Invalidate matches every PASID. -/
def execAtsInvalidationRequest (room page pages itag : Nat) (global : Bool) (s : State) : Res :=
  let used := (s.busyTags.filter fun e => s.tagUses room page pages global e.2).map fun e => e.1
  .next { s with link := { s.link with
    ats := s.link.ats.filter fun e => !atsMatches room page pages global e
    invalidations := s.link.invalidations ++ [(⟨itag, used, s.clock⟩ : Invalidation)] } }

/-- INVALIDATION_COMPLETION (R67): sent once every request that used the entries has completed or entered quarantine, or at the limit
of 10 µs plus the completion timeout. -/
def execInvalidationCompletion (itag : Nat) (s : State) : Res :=
  match s.link.invalidations.find? fun i => decide (i.itag = itag) with
  | none => .next s
  | some i =>
    if i.tags = [] ∨ i.since + 10000 + s.cto ≤ s.clock then
      .next (State.emit { s with link := { s.link with invalidations := s.link.invalidations.erase i } } (.invalidationDone itag))
    else .next s

/-! ## Errors (R60) -/

/-- RECEIVER_ERROR (R60): 0 Receiver Error, 1 Bad TLP, 2 Bad DLLP. -/
def execReceiverError (kind : Fin 3) (s : State) : Res :=
  .next (s.reportAer (match kind.val with | 0 => .receiverError | 1 => .badTlp | _ => .badDllp))

/-- MALFORMED_TLP (R60): 0 Malformed TLP, 1 Flow Control Protocol Error, 2 Data Link Protocol Error; link recovery keeps the state. -/
def execMalformedTlp (kind : Fin 3) (s : State) : Res :=
  .next (s.reportAer (match kind.val with | 0 => .malformedTlp | 1 => .flowControlProtocol | _ => .dataLinkProtocol))

/-- REPLAY_TIMER_TIMEOUT (R60): the fourth in a row rolls the replay number over (PRESUMED, log entry 2). -/
def execReplayTimerTimeout (s : State) : Res :=
  let s := s.reportAer .replayTimerTimeout
  if s.link.replayNum + 1 ≥ 4 then .next ({ s with link := { s.link with replayNum := 0 } }.reportAer .replayNumRollover)
  else .next { s with link := { s.link with replayNum := s.link.replayNum + 1 } }

/-- UNSUPPORTED_REQUEST (R60, R71): a request that PF0 does not support; during an FLR it is not reported (R64). -/
def execUnsupportedRequest (s : State) : Res := .next s.barRefuse

/-! ## Link width and power (R44 to R47) -/

/-- `PWR_POLICY` as an island has adopted it, at a field; its default where none is (R550). -/
def State.powerPolicy (s : State) (island off w default : Nat) : Nat :=
  match (s.adopted island).block 0x0B01 0 with
  | [] => default
  | b => fld b off w

/-- L0P_NARROW (R45): to the next narrower width, never below L0P_MIN_WIDTH. -/
def execL0pNarrow (s : State) : Res :=
  if s.link.flit && s.link.l0pEnable && decide (s.powerPolicy 3 0x0B 1 4 ≤ s.link.lanes / 2) && decide (1 ≤ s.link.lanes / 2) then
    .next { s with link := { s.link with lanes := s.link.lanes / 2 } }
  else .next s

/-- L0P_WIDEN (R45): to the next wider width, up to the trained one. -/
def execL0pWiden (s : State) : Res :=
  if s.link.flit && s.link.l0pEnable && decide (s.link.lanes < s.link.trainedLanes) then
    .next { s with link := { s.link with lanes := min (2 * s.link.lanes) s.link.trainedLanes } }
  else .next s

/-- ASPM_L1_ENTRY (R46): after 10 µs with no traffic, when enabled. -/
def execAspmL1Entry (s : State) : Res :=
  if s.link.aspmL1Enable && s.link.dlUp && decide (s.link.lastTlp + 10000 ≤ s.clock) then .next { s with link := { s.link with inL1 := true } }
  else .next s

/-- The CLKREQ# pin is asserted (R46, R547): the device releases it only in Doze and Nap. -/
def State.clkreq (s : State) : Bool := decide (s.power.ladder ≠ 2 ∧ s.power.ladder ≠ 3)

/-- Rates and widths the link trains at (R44): codes of Current Link Speed, and numbers of lanes. -/
def linkTrains (rate lanes : Nat) : Bool := decide (1 ≤ rate ∧ rate ≤ 7) && [1, 2, 4, 8, 16].contains lanes

/-- DATA_LINK_UP (R44, R47): the link has trained at a rate and width. A device that asserted WAKE# sends PM_PME, sets PME_Status and
releases WAKE#. At 64.0 GT/s and above flit mode is always in use. -/
def execDataLinkUp (rate : Fin 8) (lanes : Fin 17) (flit : Bool) (s : State) : Res :=
  if !linkTrains rate.val lanes.val then .next s
  else
    let wake := s.link.wakeAsserted
    let s : State := { s with link := { s.link with
      dlUp := true, rate := rate.val, lanes := lanes.val, trainedLanes := lanes.val, flit := flit || decide (6 ≤ rate.val), inL1 := false
      lastTlp := s.clock, dstate := if s.link.dstate = .d3cold then .d0 else s.link.dstate } }
    if wake then
      .next ((State.emit { s with link := { s.link with wakeAsserted := false, pmeStatus := true } } (.wake false)).emit .pmPme)
    else .next s

/-! ## IDE and TDISP (R70, R71, R126, R127) -/

/-- An IDE stream: 0 the link stream, 1 to 16 the selective ones. -/
def State.ideStream (s : State) (n : Nat) : IdeStream := Tbl.get (fun _ => IdeStream.reset) s.link.ide n

/-- Change an IDE stream. -/
def State.setIde (s : State) (n : Nat) (x : IdeStream) : State :=
  { s with link := { s.link with ide := Tbl.set (fun _ => IdeStream.reset) s.link.ide n x } }

/-- Rooms locked to a selective stream. -/
def State.roomsOnStream (s : State) (n : Nat) : List Nat :=
  (s.rooms.filter fun r => decide (r.2.stream = n) && (decide (r.2.tdi = .locked) || decide (r.2.tdi = .run))).map fun r => r.1

/-- A stream leaves the Secure state (R70): every room locked to a selective stream enters error with cause 0x04. -/
def State.leaveSecure (s : State) (n : Nat) (x : IdeStream) : State :=
  let was := (s.ideStream n).state
  let s := s.setIde n x
  if was = .secure ∧ n ≠ 0 then (s.roomsOnStream n).foldl (fun s r => s.roomError r 4) s else s

/-- A secured SPDM session is open: IDE_KM and TDISP messages travel inside one (R68). -/
def State.secured (s : State) : Bool := decide (s.link.spdmSessions ≠ [])

/-- IDE_KM_MESSAGE (R68, R70): 0 delivers a key, 1 starts the stream, 2 stops it (KEY_PROG, K_SET_GO and K_SET_STOP; PRESUMED, log entry 41);
outside a secured session it is no message. -/
def execIdeKmMessage (stream : Fin 17) (op : Fin 3) (key : List Byte) (s : State) : Res :=
  let n := stream.val
  let x := s.ideStream n
  if !s.secured then .next s
  else match op.val with
  | 0 => .next (s.setIde n { x with key := key, state := if x.state = .secure then .secure else .keyed })
  | 1 => .next (if x.state = .keyed then s.setIde n { x with state := .secure } else s)
  | _ => .next (s.leaveSecure n { x with state := .insecure, key := [] })

/-- IDE_STREAM_INSECURE (R70). -/
def execIdeStreamInsecure (stream : Fin 17) (s : State) : Res := .next (s.leaveSecure stream.val { s.ideStream stream.val with state := .insecure, key := [] })

/-- An answer to a TDISP message: accepted or not (the standard's response formats are not the manual's). -/
def State.tdispAnswer (s : State) (ok : Bool) : State := s.emit (.message 3 [BitVec.ofNat 8 (b01 ok)])

/-- LOCK_INTERFACE_REQUEST (R68, R127): accepted for a furnished or open room whose TDI is unlocked; `stream` is the selective stream named. -/
def execLockInterfaceRequest (room : Fin 1024) (stream : Fin 17) (s : State) : Res :=
  let x := s.room room.val
  if !s.secured then .next s
  else if (x.state = .furnished ∨ x.state = .opened) ∧ x.tdi = .unlocked then
    .next ((s.setRoom room.val { x with tdi := .locked, stream := stream.val }).tdispAnswer true)
  else .next (s.tdispAnswer false)

/-- TDI_ERROR (R111): a TDISP message moves the TDI to ERROR. -/
def execTdiError (room : Fin 1024) (s : State) : Res := .next (s.roomError room.val 5)

/-- STOP_INTERFACE_REQUEST (R127, R385): a room reset that ends in CONFIG_UNLOCKED; at debug levels 1 and 2 it is refused. -/
def execStopInterfaceRequest (room : Fin 1024) (s : State) : Res :=
  if !s.secured then .next s
  else if resetAccepts (s.room room.val).state ∧ s.sr.debugLevel = 0 then .next ((s.beginReset room.val).tdispAnswer true)
  else .next (s.tdispAnswer false)

end Sys2Proof.Machine
end

