-- ==== Sys2Proof/Machine/RingStop.lean ====
section
/-!
DEFINITION. Stopping rings: which work finishes and which is discarded, RING_DISABLE, and a ring's end (R115, R129, R155).
-/

namespace Sys2Proof.Machine

/-- A storage operation is past its point of no return (R155): a write once its journal entry is marked complete, which both journal drives have then
confirmed; a deallocate once the journal block of its entry is out; any other once its first drive command is. -/
def State.opPast (s : State) (o : StoreOp) : Bool :=
  match o.kind, o.stage with
  | .write, _ => (s.live o.entry).any fun l => l.complete.isSome
  | _, .data | _, .key | _, .space => false
  | .dealloc, .opening => !s.store.queue.any fun i => match i with | .start e => decide (e.id = o.entry) | _ => false
  | _, _ => true

/-- A fetched entry is past its point of no return (R155), or its work has ended. -/
def State.pastReturn (s : State) (ref : Nat) (e : Entry) : Bool :=
  e.ponr || e.ended.isSome || (match s.opOfWork ref e.id with | some o => s.opPast o | none => false)

/-- Give a storage operation up without reporting it: its journal entry is abandoned and its places are released (R115). -/
def State.dropStoreOp (s : State) (o : StoreOp) : State :=
  let s := if o.entry ≠ 0 then s.abandonEntry o.entry else s
  (if o.placed then s.releasePlaces o.epoch o.place (max 1 o.records.length) else s).dropOp o.id

/-- Take a transmit entry's frame out of the device. -/
def State.dropTxFrame (s : State) (ref id : Nat) : State :=
  let other (p : Pkt) : Bool := decide (p.tx ≠ some (ref, id))
  { s with pipe := { s.pipe with
    input := s.pipe.input.filter other, pieces := s.pipe.pieces.filter fun (x : Piece) => other x.pkt, enq := s.pipe.enq.filter fun (x : Enq) => other x.pkt
    handed := s.pipe.handed.filter fun (x : Handed) => other x.pkt, stair := s.pipe.stair.filter fun (x : Stair) => other x.pkt } }

/-- Discard one fetched entry. -/
def State.discardEntry (s : State) (ref : Nat) (e : Entry) : State :=
  let s := match s.opOfWork ref e.id with
    | some o => s.dropStoreOp o
    | none => s
  (s.dropTxFrame ref e.id).dropWork ref e.id

/-- RING_DISABLE of one ring (R155): entries past their point of no return stay in flight and finish; every other fetched entry is
discarded and counted, and a frame that was sent behind one completes. A receive ring's fetched entries are its prefetched descriptors. -/
def State.disableRing (s : State) (ref : Nat) : State :=
  let r := s.ring ref
  if !r.enabled then s
  else
    let lost := r.work.filter fun e => !s.pastReturn ref e
    let waiting := s.cmd.fetched.filter fun f => decide (f.ref = ref)
    let gone := (if refKind ref = 4 then 0 else lost.length) + (if refKind ref = 1 then r.prefetched else 0) + waiting.length
    let s := s.setRing ref { r with enabled := false }
    let s := lost.foldl (fun s e => s.discardEntry ref e) s
    let s := { s with cmd := { s.cmd with fetched := s.cmd.fetched.filter fun f => decide (f.ref ≠ ref) } }
    (s.endInOrder ref (s.ring ref).work.length).count R.RINGENG_FETCH_DISCARD gone

/-- RING_DISABLE (0x0203, R155, R158): it replies once the entries past their point of no return have finished. -/
def cmdRingDisable : Command where
  opcode := 0x0203
  front := true
  room := true
  mctp := false
  recovery := false
  sched := false
  shape := recShape 8 4 0 2 1 256
  zero := zeroAt [(2, 6)]
  body := fun x s =>
    let refs := ringRefs x.pkt.params 4
    match s.refsRefused x.pkt refs with
    | some st => Out.of s st
    | none =>
      let s := refs.foldl State.disableRing s
      if refs.all (s.ringQuiet none) then Out.of s .ok
      else .held (s.hold x false 0 refs)

/-! ## What a commit does to rings -/

/-- A ring goes at the commit that applies RING_DESTROY; one enabled since then is disabled first. -/
def State.applyRingDestroy (s : State) (ref : Nat) : State :=
  (s.disableRing ref).setRing ref Ring.absent

end Sys2Proof.Machine
end

