-- ==== Sys2Proof/Machine/RoomSave.lean ====
section
/-!
DEFINITION. The end of a room reset, and saving and restoring a room (R114 to R116, R120 to R126). What a section holds within the size
that R120 gives is the model's (DESIGN CHOICE, log entry 42).
-/

namespace Sys2Proof.Machine

/-! ## The end of a room reset (R114 to R116) -/

/-- A completion of a room's ring can still be written: Bus Master Enable is set and the entry's translation valid (R114, step 4). -/
def State.mayComplete (s : State) (room ref index : Nat) : Bool :=
  s.dmaOpen && decide (s.lacking (some room) ((s.ring ref).base + 64 * index) 64 = [])

/-- A completion with SQUASHED is written when its write can still be made (R114, step 4); either way it counts. -/
def State.squash (s : State) (room ref index : Nat) (pass : Bool) (bs : List Byte) : State :=
  let s := if s.mayComplete room ref index then s.complete ref index pass bs 0 else s
  s.setRoom room { s.room room with squashed := min ((s.room room).squashed + 1) 0xFFFFFFFF }

/-- The SQUASHED completion of a fetched descriptor, in the layout of its ring's kind. -/
def squashBytes (ref : Nat) (d : List Byte) : List Byte :=
  if refKind ref = 2 then storeCompletion d .squashed false 0 0 0 0
  else leBytes Status.squashed.code 2 ++ pad 2 ++ slice d 4 8 ++ pad 24 ++ (d.drop 32).take 32

/-- Squash everything fetched from one ring: its work and, of a receive ring, the prefetched descriptors. -/
def State.squashRing (s : State) (room ref : Nat) : State :=
  let r := s.ring ref
  let s := r.work.foldl (fun s e =>
    if refKind ref = 4 then s.discardEntry ref e
    else match e.ended with
      | some (bs, cause) => if s.mayComplete room ref e.index then s.endEntry ref e bs cause else s.dropWork ref e.id
      | none => (s.discardEntry ref e).squash room ref e.index e.pass (squashBytes ref e.desc)) s
  if refKind ref = 1 ∧ r.enabled then
    (s.postedBuffers ref r.prefetched r).foldl (fun s b => s.squash room ref b.1 b.2.1 (rxStatus b.2.2 .squashed)) s
  else s

/-- Squash the commands of a room's command ring, fetched or running; a squashed reply is written like any other (R81). -/
def State.squashCommands (s : State) (room : Nat) : State :=
  let mine := s.cmd.fetched.filter fun f => decide (f.ref = commandRef room)
  let s : State := { s with cmd := { s.cmd with fetched := s.cmd.fetched.filter fun f => decide (f.ref ≠ commandRef room) } }
  let one (s : State) : State := s.setRoom room { s.room room with squashed := min ((s.room room).squashed + 1) 0xFFFFFFFF }
  let open' (s : State) (p : Packet) : Bool :=
    s.dmaOpen && (match p.entry with | some a => decide (s.lacking (some room) a 64 = []) | none => false)
  let s := mine.foldl (fun s f => one (if open' s f.pkt then s.reply f.pkt f.opcode .squashed [] false none false else s)) s
  (s.cmd.running.filter fun r => decide (r.ctx.pkt.path = Path.roomRing room)).foldl (fun s r =>
    let s := s.unrun r
    one (if open' s r.ctx.pkt then s.finish r.ctx .squashed [] else s)) s

/-- A ring after a room reset: disabled with its head at 0 (R116). -/
def Ring.afterReset (r : Ring) : Ring :=
  { Ring.absent with
    live := r.live, log2 := r.log2, base := r.base, relaxed := r.relaxed, vector := r.vector, mirror := r.mirror, eventRing := r.eventRing
    classMask := r.classMask, globalNo := r.globalNo, timerUs := r.timerUs, modCount := r.modCount, hold := r.hold, holdLimit := r.holdLimit }

/-- The session keys of a room go, and its TCP connections (R114, step 5). -/
def State.dropRoomSessions (s : State) (room : Nat) : State :=
  let gone := (s.sr.sessions.filter fun e => decide (e.2.room = room)).map fun e => e.1
  let s : State := { s with sr := { s.sr with sessions := s.sr.sessions.filter fun e => decide (e.2.room ≠ room) } }
  let s := s.purgeKeys fun ref => decide (refKeyKind ref = 1) && gone.contains (refKeySlot ref)
  (s.store.conns.filter fun e => decide (e.2.room = room)).foldl (fun s e => s.closeConn e.1) s

/-- The host link refuses further requests with the room's PASID and forgets its translations (R114, step 5). -/
def State.dropRoomDma (s : State) (room : Nat) : State :=
  { s with link := { s.link with
    ats := s.link.ats.filter fun e => decide (e.room ≠ room), atsAsked := s.link.atsAsked.filter fun a => decide (a.1 ≠ room)
    atsDenied := s.link.atsDenied.filter fun a => decide (a.1 ≠ room), heldWrites := s.link.heldWrites.filter fun w => decide (w.room ≠ some room) } }

/-- Clear a room's pending interrupt messages. -/
def State.clearPending (s : State) (room : Nat) : State :=
  (List.range 16).foldl (fun s i => s.setMsg (room * 16 + i) { s.msg (room * 16 + i) with pending := false }) s

/-- ROOM_RESET_DRAIN_END (R114): the drain budget has run, or nothing is in flight. A write whose journal entry was marked complete before has
finished (R115). -/
def execRoomResetDrainEnd (room : Fin 1024) (s : State) : Res :=
  let n := room.val
  match (s.room n).resetting with
  | none => .next s
  | some w =>
    if s.clock < w.since + 1000 * w.budget ∧ s.inflight n ≠ 0 then .next s
    else
      let s := (s.roomRings n).foldl (fun s ref => s.squashRing n ref) s
      let s := (s.squashCommands n).abandonTags fun t => decide (t.room = some n)
      let s := (((s.dropRoomSessions n).dropRoomDma n).clearPending n).moveRoom n .furnished
      let s := (s.roomRings n).foldl (fun s ref => s.setRing ref (s.ring ref).afterReset) s
      let s := s.setRoom n { s.room n with tdi := .unlocked, stream := 0, resetting := none, dirty := none }
      .next ((s.endRunning 0x0104 n .ok []).pump)

/-! ## Saved state (R120, R121) -/

/-- One section with its header. -/
def saveSection (type : Nat) (body : List Byte) : List Byte :=
  if body = [] then [] else leBytes type 2 ++ pad 2 ++ leBytes body.length 4 ++ pad 8 ++ body

/-- Section 0x0001: 64 bytes of a ring. -/
def Ring.saved (ref : Nat) (mirror : Nat) (r : Ring) : List Byte :=
  fit (leBytes ref 4 ++ leBytes r.log2 1 ++
    leBytes (b01 r.enabled + 2 * b01 r.hold + 4 * b01 r.relaxed + 8 * b01 r.pass + 16 * b01 r.consPass + 32 * b01 r.overflow + 64 * b01 (decide (r.done ≠ []))) 1 ++
    leBytes r.vector 2 ++ leBytes r.base 8 ++ leBytes mirror 8 ++ leBytes (r.eventRing.getD 0xFFFF) 2 ++ leBytes r.head 2 ++ leBytes r.tail 2 ++
    leBytes r.consHead 2 ++ leBytes r.completed 4 ++ leBytes r.dropped 4 ++ leBytes r.timerUs 2 ++ leBytes r.modCount 2 ++ leBytes r.holdLimit 4 ++
    leBytes (match r.recorded with | some v => v + 2 ^ 64 | none => 0) 9) 64

/-- Section 0x0002: the 16 entries, with the pending bit beside the mask. -/
def State.savedMsgs (s : State) (room : Nat) : List Byte :=
  (List.range 16).flatMap fun i =>
    let m := s.msg (room * 16 + i)
    leBytes m.addr 8 ++ leBytes m.data 4 ++ leBytes (b01 m.masked + 2 * b01 m.pasid + 4 * b01 m.pending) 4

/-- Limits in the layout of ROOM_FURNISH. -/
def Limits.bytes (l : Limits) : List Byte :=
  leBytes l.pasid 4 ++ leBytes l.queuePairs 2 ++ leBytes l.storeRings 2 ++ leBytes l.keyDomains 4 ++ leBytes l.policers 2 ++ leBytes l.namespaces 2 ++
    leBytes l.nvmtConns 2 ++ leBytes l.sramUnits 2 ++ leBytes l.reads 4

/-- Section 0x0003: limits and policy. -/
def Room.savedPolicy (x : Room) : List Byte :=
  fit (x.limits.bytes ++ leBytes x.drainBudget 4 ++ leBytes (b01 x.errTimeout + 2 * b01 x.errAbort + 4 * b01 x.errBadDesc) 1 ++
    leBytes (b01 x.doze + 2 * b01 x.wakeOn) 1 ++ pad 2 ++ leBytes x.readLimit 4) 64

/-- Section 0x0004: 256 bytes of a session key. -/
def SessKey.saved (k : SessKey) : List Byte :=
  fit k.body 0x80 ++ fit k.key 48 ++ leBytes k.key.length 2 ++ leBytes k.kind 2 ++ pad 4 ++ leBytes k.seq 8 ++ leBytes k.window 64

/-- Section 0x0005: 128 bytes of a key domain; its counters stand at the reserved marks, so that no invocation number repeats. -/
def VaultRec.saved (slot : Nat) (v : VaultRec) : List Byte :=
  fit (leBytes slot 4 ++ leBytes v.index 4 ++ leBytes v.policy 2 ++ leBytes v.cur 2 ++ leBytes v.prev 2 ++ leBytes v.log2Inv 1 ++ leBytes v.log2Blk 1 ++
    leBytes (max v.resInv v.nextInv) 8 ++ leBytes (max v.resBlk v.nextBlk) 8 ++ fit v.keyCur 32 ++ fit v.keyPrev 32) 128

/-- A connection's saved record: its ends, queue and path MTU, and the record protection of its TLS (R122, R252). -/
def Conn.saved (c : Conn) : List Byte :=
  let tls := match c.tls with
    | some t => leBytes (1 + 2 * b01 t.strong) 1 ++ pad 7 ++ leBytes t.outSeq 8 ++ leBytes t.inSeq 8 ++ fit t.outSecret 48 ++ fit t.inSecret 48
    | none => []
  fit (leBytes (b01 c.initiator + 2 * b01 c.secure) 1 ++ leBytes c.remote.length 1 ++ leBytes c.index 2 ++ leBytes c.addr 2 ++ leBytes c.lport 2 ++ leBytes c.rport 2 ++
    leBytes c.thread 2 ++ leBytes c.queue 2 ++ leBytes c.pmtu 2 ++ fit c.remote 16 ++ pad 32 ++ fit tls 128) 192

/-- The sections of a room: clear ones and, marked true, those always encrypted. -/
def State.saveSections (s : State) (room : Nat) : List (Bool × List Byte) :=
  let x := s.room room
  let all : List (Bool × Nat × List Byte) := [
    (false, 1, (s.roomRings room).flatMap fun ref => (s.ring ref).saved ref x.headMirror),
    (false, 2, s.savedMsgs room),
    (false, 3, x.savedPolicy),
    (true, 4, (s.sr.sessions.filter fun e => decide (e.2.room = room)).flatMap fun e => e.2.saved),
    (true, 5, (s.roomDomains room).flatMap fun e => e.2.saved e.1),
    (true, 6, (s.store.conns.filter fun e => decide (e.2.room = room)).flatMap fun e => e.2.saved),
    (false, 7, (s.store.spaces.filter fun e => decide (e.2.room = room) && !e.2.gone).flatMap fun e => leBytes e.2.index 2 ++ leBytes e.1 2)]
  (all.map fun a => (a.1, saveSection a.2.1 a.2.2)).filter fun a => decide (a.2 ≠ [])

/-- Encrypt the sections' bodies in place: the counter of a byte follows its place in the body, and section headers stay clear unless
the whole body is wrapped. -/
def sealSections (stream : List Byte) (wrap : Bool) : Nat → List (Bool × List Byte) → List Byte
  | _, [] => []
  | at', (secret, b) :: rest =>
    let key := slice stream at' (at' + b.length)
    (if wrap then xorBytes b key else if secret then b.take 16 ++ xorBytes (b.drop 16) (key.drop 16) else b) ++ sealSections stream wrap (at' + b.length) rest

/-- TAG over the body as it is written, with the header as additional data. -/
def saveTag (key nonce head body : List Byte) : List Byte :=
  let h := beNat (aesEncrypt key (pad 16))
  xorBytes (beBytes (ghash h head body) 16) (aesEncrypt key (nonce ++ beBytes 1 4))

/-- The header up to TAG, with MAGIC. -/
def State.saveHead (s : State) (room : Nat) (wrap locked : Bool) (bodyLen count seq : Nat) (key nonce : List Byte) : List Byte :=
  leBytes 0x5253584B 4 ++ leBytes 1 2 ++ leBytes (b01 wrap + 2 * b01 locked) 2 ++ leBytes room 2 ++ leBytes s.gen.profile 2 ++ leBytes (fld s.sr.header 8 4) 4 ++
    leBytes s.sr.fuses.serial 8 ++ (s.room room).freezeTime.bytes ++ leBytes bodyLen 4 ++ leBytes count 4 ++ leBytes seq 8 ++ key ++ nonce ++ pad 12

/-- A migration key by its identifier. -/
def State.migKey (s : State) (id : List Byte) : Option MigKey := s.sr.migration.find? fun m => decide (m.id = id)

/-- Change a migration key's entry. -/
def State.setMigKey (s : State) (k : MigKey) : State :=
  { s with sr := { s.sr with migration := s.sr.migration.map fun m => if m.id = k.id then k else m } }

/-- The room's TDI is locked or runs. -/
def Room.tdiLocked (x : Room) : Bool := decide (x.tdi = .locked) || decide (x.tdi = .run)

/-- ROOM_SAVE (0x0107, R120 to R126): it waits for the drain. -/
def cmdRoomSave : Command where
  opcode := 0x0107
  front := true
  room := false
  mctp := false
  recovery := false
  sched := false
  shape := fixedShape 32
  zero := zeroAt [(0x0D, 3)]
  body := fun x s =>
    let r := x.pkt.room
    let bs := x.pkt.params
    let m := s.room r
    if m.state ≠ .frozen then Out.of s (wrongState m.state)
    else if m.saving then Out.of s .busy
    else if fld bs 0 8 % 64 ≠ 0 ∨ fld bs 0x0C 1 > 1 then Out.of s .invalidParam
    else if m.tdiLocked ∧ !m.tenantKeys.contains (fld bs 0x10 16) then Out.of s .notPermitted
    else if (s.migKey ((bs.drop 0x10).take 16)).isNone ∨ s.sr.vaultLocked then Out.of s .keyAbsent
    else if s.sr.dipFrozen then Out.refuse s .supplyLow
    else if s.sr.entropyFail then Out.of s .busy
    else .held ((s.setRoom r { m with saving := true }).hold x true r [])

/-- ROOM_SAVE_DRAINED (R120, R123, R124): nothing of the room is in flight any more; its held packets go and the saved state is written,
MAGIC last. -/
def execRoomSaveDrained (room : Fin 1024) (s : State) : Res :=
  let n := room.val
  let m := s.room n
  match s.runningOn 0x0107 n with
  | none => .next s
  | some run =>
    if !m.saving ∨ s.inflight n ≠ 0 then .next s
    else
      let bs := run.ctx.pkt.params
      let s := (s.setRoom n { m with saving := false }).dropRoomPackets n
      let secs := s.saveSections n
      let len := (secs.map fun x => x.2.length).sum
      let need := leBytes (128 + len) 4
      match s.migKey ((bs.drop 0x10).take 16) with
      | none => .next (s.endRunning 0x0107 n .keyAbsent [])
      | some k =>
        if fld bs 8 4 < 128 + len then .next (s.endRunning 0x0107 n .invalidParam need)
        else
          let (nonce, s) := s.secretBytes 12
          let wrap := m.tdiLocked || bit (fld bs 0x0C 1) 0
          let s := s.setMigKey { k with saved := k.saved + 1 }
          let body := sealSections (gcmStream k.key nonce 2 len) wrap 0 secs
          let head := s.saveHead n wrap m.tdiLocked len secs.length (k.saved + 1) k.id nonce
          let out := head ++ saveTag k.key nonce head body ++ pad 16 ++ body
          let a := fld bs 0 8
          let s := (s.hostWrite ⟨none, a + 4, out.drop 4, 0, false⟩).hostWrite ⟨none, a, out.take 4, 0, false⟩
          .next (s.endRunning 0x0107 n .ok need)

/-! ## Restoring (R122) -/

/-- The sections of a body, decrypted; `fuel` bounds their number. -/
def openSections (stream : List Byte) (wrap : Bool) : Nat → Nat → List Byte → List (Nat × List Byte)
  | 0, _, _ => []
  | n + 1, at', body =>
    if body.length < 16 then []
    else
      let plain (b : List Byte) (o : Nat) : List Byte := xorBytes b (slice stream o (o + b.length))
      let hd := if wrap then plain (body.take 16) at' else body.take 16
      let len := fld hd 4 4
      let type := fld hd 0 2
      let b := slice body 16 (16 + len)
      let b := if wrap ∨ (4 ≤ type ∧ type ≤ 6) then plain b (at' + 16) else b
      (type, b) :: openSections stream wrap n (at' + 16 + len) (body.drop (16 + len))

/-- A section's content; empty when absent. -/
def sectionOf (secs : List (Nat × List Byte)) (type : Nat) : List Byte :=
  match secs.find? fun x => decide (x.1 = type) with
  | some x => x.2
  | none => []

/-- Pieces of `n` bytes. -/
def piecesOf (n : Nat) (bs : List Byte) : List (List Byte) := recordsOf bs 0 n (bs.length / n)

/-- A ring in its saved state, under a new room: fetching resumes at the saved head (R125). -/
def State.restoreRing (s : State) (room : Nat) (b : List Byte) : State :=
  let ref := refOf (refKind (fld b 0 4)) false room (refIndex (fld b 0 4))
  let f := fld b 5 1
  let head := fld b 0x1A 2
  let tail := fld b 0x1C 2
  let rec' := fld b 0x30 9
  s.setRing ref { Ring.absent with
    live := true, log2 := fld b 4 1, base := fld b 8 8, relaxed := bit f 2, vector := fld b 6 2
    eventRing := if fld b 0x18 2 = 0xFFFF then none else some (fld b 0x18 2), globalNo := s.newGlobal ref, enabled := bit f 0
    head := head, pass := bit f 3, tail := tail, next := head, nextPass := bit f 3
    enableTail := if bit f 6 ∧ head ≠ tail then some tail else none, recorded := if rec' < 2 ^ 64 then none else some (rec' - 2 ^ 64)
    completed := fld b 0x20 4, dropped := fld b 0x24 4, consHead := fld b 0x1E 2, consPass := bit f 4, overflow := bit f 5
    timerUs := fld b 0x28 2, modCount := fld b 0x2A 2, hold := bit f 1, holdLimit := fld b 0x2C 4 }

/-- A message entry in its saved state. -/
def State.restoreMsg (s : State) (room i : Nat) (b : List Byte) : State :=
  s.setMsg (room * 16 + i) ⟨fld b 0 8, fld b 8 4, bit (fld b 12 4) 1, bit (fld b 12 4) 0, bit (fld b 12 4) 2⟩

/-- A session key in its saved state. -/
def State.restoreSession (s : State) (room : Nat) (b : List Byte) : State :=
  let h := firstFree (s.sr.sessions.map fun e => e.1) 1 (s.sr.sessions.length + 2)
  let k : SessKey := ⟨room, fld b 0xB2 2, b.take 0x80, slice b 0x80 (0x80 + fld b 0xB0 2), fld b 0xB8 8, fld b 0xC0 64⟩
  { s with sr := { s.sr with sessions := Tbl.put h k s.sr.sessions } }

/-- A key domain: on the device that saved it, the detached record is attached again; elsewhere it takes a free slot (R117). -/
def State.restoreDomain (s : State) (room serial : Nat) (b : List Byte) : State :=
  let slot := fld b 0 4
  let v : VaultRec := ⟨1, room, fld b 4 4, fld b 8 2, fld b 0x0A 2, fld b 0x0C 2, fld b 0x0E 1, fld b 0x0F 1, fld b 0x10 8, fld b 0x18 8, fld b 0x10 8, fld b 0x18 8,
    slice b 0x20 0x40, if fld b 0x0C 2 = 0 then [] else slice b 0x40 0x60⟩
  if serial = s.sr.fuses.serial ∧ (s.domain slot).state = 2 then s.setDomain slot { s.domain slot with state := 1, room := room }
  else match s.freeSlot with
    | some n => s.setDomain n v
    | none => s

/-- A connection in its saved state. -/
def State.restoreConn (s : State) (room : Nat) (b : List Byte) : State :=
  let c := firstFree (s.store.conns.map fun e => e.1) 0 (s.store.conns.length + 1)
  let f := fld b 0 1
  let n := if bit (fld b 0x40 1) 1 then 48 else 32
  let tls : Option Tls := if bit (fld b 0x40 1) 0 then
      some ⟨bit (fld b 0x40 1) 1, slice b 0x58 (0x58 + n), slice b 0x88 (0x88 + n), fld b 0x48 8, fld b 0x50 8⟩
    else none
  let x : Conn := ⟨bit f 0, fld b 2 2, fld b 4 2, slice b 0x10 (0x10 + fld b 1 1), fld b 6 2, fld b 8 2, room, fld b 0x0A 2, bit f 1, tls, none, fld b 0x0C 2, fld b 0x0E 2, 0, s.clock⟩
  { s with store := { s.store with conns := Tbl.put c x s.store.conns } }

/-- A namespace binding: dropped when the number does not exist here or another room holds it. -/
def State.restoreBinding (s : State) (room : Nat) (b : List Byte) : State :=
  match s.space (fld b 2 2) with
  | some sp =>
    if sp.gone ∨ sp.room ≠ noRoom then s.setRoom room { s.room room with dropped := (s.room room).dropped ++ [fld b 0 2] }
    else s.setSpace (fld b 2 2) { sp with room := room, index := fld b 0 2 }
  | none => s.setRoom room { s.room room with dropped := (s.room room).dropped ++ [fld b 0 2] }

/-- Limits and policy of a section 0x0003, with the destination's PASID and SRAM reservation. -/
def restoreLimits (b : List Byte) (pasid sram : Nat) : Limits := { Limits.of b with pasid := pasid, sramUnits := sram }

/-- Load a saved state whose checks have passed: the room is frozen, and locked when the source was (R122). The stream that a restored locked
room is locked to is 0 until a request names one: R122 gives none (DESIGN CHOICE, log entry 85). -/
def State.restoreRoom (s : State) (room : Nat) (l : Limits) (head : List Byte) (secs : List (Nat × List Byte)) : State :=
  let p := sectionOf secs 3
  let rings := piecesOf 64 (sectionOf secs 1)
  let s := s.setRoom room { Room.vacant with
    limits := l, readLimit := fld p 0x20 4, drainBudget := fld p 0x18 4, errTimeout := bit (fld p 0x1C 1) 0, errAbort := bit (fld p 0x1C 1) 1
    errBadDesc := bit (fld p 0x1C 1) 2, doze := bit (fld p 0x1D 1) 0, wakeOn := bit (fld p 0x1D 1) 1, freezeTime := Time.ofBytes head 0x18
    headMirror := match rings with | b :: _ => fld b 0x10 8 | [] => 0, tdi := if bit (fld head 6 2) 1 then .locked else .unlocked }
  let s := rings.foldl (fun s b => s.restoreRing room b) s
  let ms := piecesOf 16 (sectionOf secs 2)
  let s := (List.zip (List.range 16) ms).foldl (fun s m => s.restoreMsg room m.1 m.2) s
  let s := (piecesOf 256 (sectionOf secs 4)).foldl (fun s b => s.restoreSession room b) s
  let ds := piecesOf 128 (sectionOf secs 5)
  let s := ds.foldl (fun s b => s.restoreDomain room (fld head 0x10 8) b) s
  let s := if ds = [] then s else s.persistVault
  let s := (piecesOf 192 (sectionOf secs 6)).foldl (fun s b => s.restoreConn room b) s
  let s := (piecesOf 4 (sectionOf secs 7)).foldl (fun s b => s.restoreBinding room b) s
  (s.moveRoom room .frozen).releaseMsgs room

/-- A ROOM_RESTORE that is refused before it reads: the room is not vacant, the debug level forbids it, or the buffer is out of range. -/
def State.restoreRefused (s : State) (r : Nat) (bs : List Byte) : Option Status :=
  if (s.room r).state ≠ .vacant ∨ (s.stagedAt 0x0101 r).isSome then some (wrongState (s.room r).state)
  else if s.sr.debugLevel ≥ 1 then some .notPermitted
  else if fld bs 0 8 % 64 ≠ 0 ∨ fld bs 8 4 < 128 then some .invalidParam
  else none

/-- Check a saved state that has been read, and load it (R122, R124). -/
def State.loadRoom (s : State) (r : Nat) (bs : List Byte) : Out :=
  let a := fld bs 0 8
  let head := s.hostRead none a 128
  let len := fld head 0x28 4
  if fld head 0 4 ≠ 0x5253584B ∨ fld head 4 2 ≠ 1 ∨ fld bs 8 4 < 128 + len then Out.of s .invalidParam
  else match s.migKey (slice head 0x38 0x48) with
    | none => Out.of s .keyAbsent
    | some k =>
      if s.sr.vaultLocked then Out.of s .keyAbsent
      else
        let body := s.hostRead none (a + 128) len
        let nonce := slice head 0x48 0x54
        if saveTag k.key nonce (head.take 0x60) body ≠ slice head 0x60 0x70 then Out.of s .tagMismatch
        else if fld head 0x30 8 ≤ k.restored then Out.of s .notPermitted
        else
          let secs := openSections (gcmStream k.key nonce 2 len) (bit (fld head 6 2) 0) 64 0 body
          let l := restoreLimits (sectionOf secs 3) (fld bs 0x0C 4) (fld bs 0x10 2)
          match furnishRefused l (s.otherLimits r) s.profileNow s.sramUnitsMax with
          | some st => Out.of s st
          | none =>
            if s.sr.dipFrozen then Out.refuse s .supplyLow
            else match (if sectionOf secs 5 = [] then none else s.vaultRefuses false) with
              | some st => Out.refuse s st
              | none =>
                if 196608 < s.sr.sessions.length + (sectionOf secs 4).length / 256 then Out.of s .busy
                else
                  let s := (s.setMigKey { k with restored := fld head 0x30 8 }).restoreRoom r l head secs
                  Out.of s (if (s.room r).dropped = [] then .ok else .okWarn)

/-- ROOM_RESTORE (0x0108, R82, R122, R124, R385): accepted, it reads the whole buffer and then loads the room. -/
def cmdRoomRestore : Command where
  opcode := 0x0108
  front := true
  room := false
  mctp := false
  recovery := false
  sched := false
  shape := fixedShape 24
  zero := fun bs => zeros bs 0x12 6 && decide (fld bs 0x0C 4 < 2 ^ 20)
  body := fun x s =>
    let bs := x.pkt.params
    if (s.runningOn 0x0108 x.pkt.room).isSome then Out.of s .busy
    else match s.restoreRefused x.pkt.room bs with
      | some st => Out.of s st
      | none => .held (s.holdWork x x.pkt.room [(fld bs 0 8, fld bs 8 4)])
  after := some fun x s =>
    match s.restoreRefused x.pkt.room x.pkt.params with
    | some st => Out.of s st
    | none => s.loadRoom x.pkt.room x.pkt.params

end Sys2Proof.Machine
end

