-- ==== Sys2Proof/Machine/MemCmds.lean ====
section
/-!
DEFINITION. The memory unit: regions, scrubbing, march tests, repair, the error log (R514 to R543).
-/

namespace Sys2Proof.Machine

/-! ## Regions and banks (R514, R519, R520) -/

/-- Region of a shared SRAM bank (R514). -/
def bankRegion (b : Nat) : Nat :=
  if b < 56 then 0 else if b < 248 then 1 else if b < 312 then 2 else if b < 344 then 3 else if b < 360 then 4 else if b < 376 then 5 else 6

/-- Bank, or for core scratch 384 + the core, of an SRAM address. -/
def sramUnit (a : Nat) : Nat := if a < 0x40000000 then 384 + (a - 0x20000000) / 0x20000 else (a - 0x40000000) / 0x40000

/-- First and last address of a region (R514, R519). -/
def State.regionSpan (s : State) (n : Nat) : Nat × Nat :=
  match n with
  | 0 => (0x40000000, 0x40DFFFFF) | 1 => (0x40E00000, 0x43DFFFFF) | 2 => (0x43E00000, 0x44DFFFFF) | 3 => (0x44E00000, 0x455FFFFF)
  | 4 => (0x45600000, 0x459FFFFF) | 5 => (0x45A00000, 0x45DFFFFF) | 6 => (0x45E00000, 0x45FFFFFF) | 7 => (0x100000000, 0x103FFFFFF)
  | 8 => (0x104000000, 0x123FFFFFF) | 9 => (0x124000000, 0x12BFFFFFF) | 10 => (0x12C000000, 0x12FFFFFFF) | 11 => (0x130000000, 0x141FFFFFF)
  | 12 => (0x142000000, 0x149FFFFFF) | 13 => (0x14A000000, 0x14DFFFFFF) | 14 => (0x14E000000, 0x155FFFFFF) | 15 => (0x156000000, 0x157FFFFFF)
  | 16 => (0x158000000, 0x1FFFFFFFF) | 17 => (0x200000000, 0x3FFFFFFFF) | 18 => (0x400000000, 0x5FFFFFFFF) | 19 => (0x600000000, 0x6FFFFFFFF)
  | 20 => (0x700000000, 0x7001FFFFF) | 21 => (0x700200000, s.annexBase - 1) | _ => (s.annexBase, 0x8BFFFFFFF)

/-- MEM_REGION_SET (0x0A01, R520): it takes effect at the next warm restart or cold reset. -/
def cmdMemRegionSet : Command where
  opcode := 0x0A01
  front := true
  room := false
  mctp := false
  recovery := false
  sched := false
  shape := fixedShape 8
  zero := zeroAt [(2, 6)]
  body := fun x s =>
    if 4096 < fld x.pkt.params 0 2 then Out.of s .invalidParam else Out.of (s.stage 0x0A01 0 x.pkt.params) .ok

/-! ## Repair and retirement (R539, R540) -/

/-- Spare rows a bank or core scratch has used. -/
def State.sparesUsed (s : State) (u : Nat) : Nat := Tbl.get (fun _ => 0) s.memory.spares u

/-- A bank needs a fifth spare row (R540): of the packet buffer or flow cache it is retired; of any other region the highest-numbered
packet buffer bank that is not retired replaces it, for at most 16 banks. -/
def State.retireBank (s : State) (u a : Nat) : State :=
  if 384 ≤ u ∨ s.memory.retired.contains u ∨ s.memory.substituted.any (fun x => decide (x.1 = u)) then s
  else if bankRegion u = 1 ∨ bankRegion u = 2 then
    State.logMem { s with memory := { s.memory with retired := s.memory.retired ++ [u] } } 5 a
  else
    let taken := s.memory.retired ++ s.memory.substituted.map fun x => x.2
    match ((List.range 192).map fun i => 247 - i).find? fun b => !taken.contains b with
    | some b =>
      if 16 ≤ s.memory.substituted.length then s
      else State.logMem { s with memory := { s.memory with substituted := s.memory.substituted ++ [(u, b)] } } 6 a
    | none => s

/-- Replace a row with a spare (R539); without one the bank is retired. -/
def State.repairRow (s : State) (a : Nat) : State :=
  let u := sramUnit a
  let row := a / 1024 * 1024
  if s.sparesUsed u < 4 then
    let m := s.memory
    let s : State := { s with memory := { m with spares := Tbl.set (fun _ => 0) m.spares u (s.sparesUsed u + 1), repaired := m.repaired ++ [row]
                                                 bad := m.bad.filter fun b => decide (b < row ∨ row + 1024 ≤ b) } }
    (s.logMem 4 row).bump R.MEM_ROWS_REPAIRED
  else s.retireBank u row

/-- Remap a GDDR6 unit of 2 KiB to region 20, up to 1,024 units (R540). -/
def State.remapUnit (s : State) (a : Nat) : State :=
  let u := a / 2048 * 2048
  if s.memory.remapped.contains u ∨ 1024 ≤ s.memory.remapped.length then s
  else (State.logMem { s with memory := { s.memory with remapped := s.memory.remapped ++ [u] } } 7 u).bump R.MEM_UNITS_REMAPPED

/-- A word of a row or unit was corrected: the third time within 24 h repairs or retires it (R529). -/
def State.correctedNow (s : State) (a : Nat) : State :=
  let s := s.noteCe a
  let w := if a < 0x100000000 then 1024 else 2048
  let recent := s.memory.corrected.filter fun c => decide (c.1 / w = a / w) && decide (s.clock < c.2 + 86400 * nsPerSec)
  if recent.length < 3 then s
  else
    let s : State := { s with memory := { s.memory with corrected := s.memory.corrected.filter fun c => decide (c.1 / w ≠ a / w) } }
    if a < 0x100000000 then s.repairRow a else s.remapUnit a

/-! ## Uncorrectable words (R534) -/

/-- Lines in order with the pool bytes in front of each (the place of a line's beats in the pool is the model's, log entry 43). -/
def poolPlaces (off : Nat) : List (Nat × Line) → List (Nat × Nat × Nat)
  | [] => []
  | (n, l) :: rest => (n, off, off + 64 * l.cap) :: poolPlaces (off + 64 * l.cap) rest

/-- An uncorrectable word of the line pool: every message queued on its line goes. -/
def State.poolError (s : State) (off : Nat) : State :=
  match (poolPlaces 0 s.cores.lines).find? fun p => decide (p.2.1 ≤ off ∧ off < p.2.2) with
  | some p => (s.setLine p.1 { s.line p.1 with queue := [] }).count R.MEM_LINE_DISCARD (s.line p.1).queue.length
  | none => s

/-- Every frame that a leaf queue holds, by leaf and place. -/
def State.queuedFrames (s : State) : List (Nat × Nat) :=
  (s.tm.leaves.map fun e => (List.range e.2.queue.length).map fun j => (e.1, j)).flatten

/-- An uncorrectable word under a frame of the packet buffer or its overflow (R534): the frames on the wires come first and end with an inverted FCS,
the queued ones follow and are dropped (their places are the model's, log entry 43). -/
def State.frameError (s : State) (i : Nat) : State :=
  match s.tm.wire[i]? with
  | some (n, w) =>
    if w.spoiled then s
    else State.bump { s with tm := { s.tm with wire := Tbl.put n { w with spoiled := true } s.tm.wire } } R.MEM_FRAME_DROP
  | none =>
    match s.queuedFrames[i - s.tm.wire.length]? with
    | none => s
    | some (k, j) =>
      let l := s.leaf k
      match l.queue[j]? with
      | none => s
      | some f => ((s.setLeaf k { l with queue := l.queue.eraseIdx j }).dropPkt f.pkt).bump R.MEM_FRAME_DROP

/-- An uncorrectable word under an entry of the back-stair queue, which drops its packet; the interrupt entries and doorbell records in front of the queue
are read again (R534). -/
def State.tableError (s : State) (off : Nat) : State :=
  if off < 0x100000 then s
  else match s.pipe.stair[(off - 0x100000) / 64]? with
    | none => s
    | some x => State.dropPkt { s with pipe := { s.pipe with stair := s.pipe.stair.eraseIdx ((off - 0x100000) / 64) } } x.pkt

/-- An uncorrectable word under the staged data of a write (R534): the data is fetched from the host again, once; a second error fails the operation
before its COMPLETE. -/
def State.stagingError (s : State) (i : Nat) : State :=
  match s.store.ops[i]? with
  | none => s
  | some o =>
    if o.kind ≠ .write ∨ o.stage = .data ∨ o.stage = .completing then s
    else if o.restaged then s.failOp o (match o.src with | .ring _ _ => .dmaAborted | _ => .driveError)
    else
      let s := if o.entry ≠ 0 then s.abandonEntry o.entry else s
      let s := if o.placed then s.releasePlaces o.epoch o.place (max 1 o.records.length) else s
      s.runAgain { o with restaged := true } false

/-- An uncorrectable word under a packet that a thread holds: the packet is dropped. -/
def State.cellError (s : State) (a : Nat) : State :=
  match s.pipe.handed.find? fun h =>
      decide (0x40E00000 + 64 * (h.handle % 2 ^ 20) ≤ a ∧ a < 0x40E00000 + 64 * (h.handle % 2 ^ 20) + cellBytes h.pkt.bytes.length) with
  | some h => State.bump (State.dropPkt { s with pipe := { s.pipe with handed := s.pipe.handed.filter fun (x : Handed) => decide (x.handle ≠ h.handle) } } h.pkt) R.MEM_FRAME_DROP
  | none => s.frameError ((a - 0x40E00000) / 0x4000)

/-- The dirty-page log of one of the rooms that log is marked full. -/
def State.dirtyError (s : State) (i : Nat) : State :=
  match (s.rooms.filter fun r => r.2.dirty.isSome)[i]? with
  | some (n, x) => s.setRoom n { x with dirty := x.dirty.map fun (d : DirtyLog) => { d with full := true } }
  | none => s

/-- A datagram in reassembly is discarded. -/
def State.reasmError (s : State) (i : Nat) : State :=
  match s.pipe.reasm[i]? with
  | some d =>
    if d.discarded then s
    else State.bump { s with pipe := { s.pipe with reasm := s.pipe.reasm.map fun (x : Datagram) => if x.key = d.key then { x with discarded := true, frags := [], first := none } else x } } R.SW_REASM_BAD
  | none => s

/-- A drive's controller is reset (R480). -/
def State.resetController (s : State) (drive : Nat) : State :=
  match s.drive drive with
  | none => s
  | some x =>
    let s := (s.setDrive drive { x with cmds := [], resetAt := some s.clock }).bump R.DRV_CTRL_RESET
    (s.cmdsFail x).storeRetry

/-- Ledger entries with the bytes in front of each. -/
def ledgerPlaces (off : Nat) : List LedgerEntry → List (Nat × Nat × Nat)
  | [] => []
  | e :: es => (e.index, off, off + e.len) :: ledgerPlaces (off + e.len) es

/-- The ledger entry at an offset of region 15 is lost. -/
def State.ledgerError (s : State) (off : Nat) : State :=
  match (ledgerPlaces 0 s.fault.ledger).find? fun p => decide (p.2.1 ≤ off ∧ off < p.2.2) with
  | some p => { s with fault := { s.fault with ledger := s.fault.ledger.filter fun e => decide (e.index ≠ p.1) } }
  | none => s

/-- A word that is whole again. -/
def State.goodWord (s : State) (a : Nat) : State := { s with memory := { s.memory with bad := s.memory.bad.filter fun b => decide (b ≠ a) } }

/-- The action of an uncorrectable word's region (R534). A word that its unit rebuilds is good again; elsewhere it stays bad until it is
written. -/
def State.ueAction (s : State) (a : Nat) : State :=
  match s.regionOf a with
  | some 1 => (s.cellError a).goodWord a
  | some 2 =>
    let set := (a - 0x43E00000) / 512
    State.goodWord { s with cls := { s.cls with cache := s.cls.cache.filter fun e => decide (e.1 % 32768 ≠ set) } } a
  | some 3 => (s.poolError (a - 0x44E00000)).goodWord a
  | some 4 => (s.tableError (a - 0x45600000)).goodWord a
  | some 7 => { s with memory := { s.memory with codeReload := true } }
  | some 12 => (s.dirtyError ((a - 0x142000000) / 0x200000)).goodWord a
  | some 13 => (s.reasmError ((a - 0x14A000000) / 65536)).goodWord a
  | some 14 => (s.resetController ((a - 0x14E000000) / 0x200000)).goodWord a
  | some 15 => (s.ledgerError (a - 0x156000000)).goodWord a
  | some 18 => (s.stagingError ((a - 0x400000000) / 0x400000)).goodWord a
  | some 19 => (s.frameError ((a - 0x600000000) / 0x4000)).goodWord a
  | some 9 | some 10 | some 11 | some 17 => s.goodWord a
  | _ => s

/-- SCRUB_PASS (R528, R529, R534): what the scrubber found at a word or line: 0 nothing, 1 an error it corrected, 2 an uncorrectable one. -/
def execScrubPass (addr : Nat) (kind : Fin 3) (s : State) : Res :=
  let a := addr / wordSize addr * wordSize addr
  match kind.val with
  | 0 => .next s
  | 1 => .next (s.correctedNow a)
  | _ =>
    let s := State.noteUe { s with memory := { s.memory with bad := a :: s.memory.bad.filter fun b => decide (b ≠ a) } } a
    .next ((if a < 0x100000000 then s else s.remapUnit a).ueAction a)

/-! ## Zero fill and calibration (R531, R543) -/

/-- ZERO_FILL_CHUNK (R531): a 2 MiB chunk has been filled. Its unwritten bytes read zero already. -/
def execZeroFillChunk (chunk : Nat) (s : State) : Res :=
  .next { s with memory := { s.memory with unfilled := s.memory.unfilled.filter fun c => decide (c ≠ chunk) } }

/-- GDDR6_RECALIBRATE (R543): the next one is due 100 ms later. -/
def execGddr6Recalibrate (s : State) : Res := .next { s with memory := { s.memory with recalAt := s.clock } }

/-! ## March tests (R535 to R537, R541) -/

/-- Banks of a run on shared SRAM or the line pool. -/
def marchBanks (bs : List Byte) : List Nat :=
  match fld bs 0 1 with
  | 0 => (List.range (fld bs 6 2 + 1 - fld bs 4 2)).map fun i => fld bs 4 2 + i
  | 1 => (List.range 32).map fun i => 312 + i
  | _ => []

/-- Regions that a run touches. -/
def State.marchRegions (s : State) (bs : List Byte) : List Nat :=
  if fld bs 0 1 = 2 then
    let a := fld bs 8 8
    let b := a + fld bs 0x10 8
    (List.range 16).filterMap fun i =>
      let r := s.regionSpan (7 + i)
      if r.1 < b ∧ a ≤ r.2 then some (7 + i) else none
  else ((marchBanks bs).map bankRegion).eraseDups

/-- The parameters are in range (R536). -/
def marchOk (bs : List Byte) : Bool :=
  let t := fld bs 0 1
  decide (t ≤ 2) && decide (1 ≤ fld bs 1 1 ∧ fld bs 1 1 ≤ 3) && decide (fld bs 2 1 ≤ 1) && decide (fld bs 3 1 < 16) && decide (fld bs 0x18 1 ≤ 1) &&
    (match t with
      | 0 => decide (fld bs 4 2 ≤ fld bs 6 2 ∧ fld bs 6 2 ≤ 383)
      | 1 => true
      | _ => decide (fld bs 8 8 % 2048 = 0 ∧ fld bs 0x10 8 % 2048 = 0 ∧ 0 < fld bs 0x10 8 ∧ 0x100000000 ≤ fld bs 8 8 ∧ fld bs 8 8 + fld bs 0x10 8 ≤ 0x8C0000000))

/-- Regions that no destructive run may touch (R537). -/
def marchBarred : List Nat := [0, 4, 6, 7, 9, 10, 14, 15, 16, 20, 21]

/-- MEM_MARCH (0x0A00, R536, R537): it replies at the end of the run (MARCH_RUN_END). One run goes on at a time (R82). -/
def cmdMemMarch : Command where
  opcode := 0x0A00
  front := true
  room := false
  mctp := false
  recovery := false
  sched := true
  shape := fixedShape 32
  zero := zeroAt [(0x19, 7)]
  body := fun x s =>
    let bs := x.pkt.params
    let destroys := decide (fld bs 2 1 = 1)
    let rs := s.marchRegions bs
    if !marchOk bs then Out.of s .invalidParam
    else if s.memory.march.isSome then Out.of s .busy
    else if destroys && (decide (s.gen.current ≠ 0) || decide (2 ≤ s.store.path) || rs.any fun r => marchBarred.contains r) then Out.of s .notPermitted
    else if !destroys && rs.contains 3 then Out.of s .notPermitted
    else
      let s : State := { s with memory := { s.memory with march := some ⟨bs, s.clock⟩ } }
      let s : State := if rs.contains 2 then { s with cls := { s.cls with cache := [] } } else s
      let s : State := if rs.contains 3 ∧ s.cores.lhReady then s.lhDown else s
      .held (s.hold x true 0 [])

/-- 64-byte words that a run covers, less the banks it skipped. -/
def marchWords (bs : List Byte) (skipped : Nat) : Nat :=
  if fld bs 0 1 = 2 then fld bs 0x10 8 / 64 else ((marchBanks bs).length - skipped) * 4096

/-- A destructive run ends with its memory zero (R536). -/
def State.marchZero (s : State) (bs : List Byte) : State :=
  if fld bs 2 1 ≠ 1 then s
  else
    let spans := if fld bs 0 1 = 2 then [(fld bs 8 8, fld bs 0x10 8)] else (marchBanks bs).map fun b => (0x40000000 + 0x40000 * b, 0x40000)
    let s : State := { s with mem := spans.foldl (fun m r => Memory.zero m r.1 r.2) s.mem }
    if (s.marchRegions bs).contains 3 then { s with cores := { s.cores with lines := s.cores.lines.map fun (e : Nat × Line) => (e.1, { e.2 with queue := [] }) } } else s

/-- Repair what a run found: rows of SRAM, units of GDDR6. -/
def State.marchRepair (s : State) (a : Nat) : State := if a < 0x100000000 then s.repairRow a else s.remapUnit a

/-- MARCH_RUN_END (R536, R541): the run has found faults at some addresses and skipped some banks. -/
def execMarchRunEnd (faults : List Nat) (skipped : Nat) (s : State) : Res :=
  match s.memory.march with
  | none => .next s
  | some m =>
    let bs := m.params
    let s := s.marchZero bs
    let s : State := { s with memory := { s.memory with march := none } }
    let s : State := if (s.marchRegions bs).contains 3 then { s with cores := { s.cores with lhReady := true } } else s
    let n := s.memory.errLog.length
    let before := s.memory.repaired.length + s.memory.remapped.length
    let s := faults.foldl (fun s a => s.logMem 3 a) s
    let recs := faults.map fun a => ErrRec.bytes ⟨3, (s.regionOf a).getD 0xFF, s.unitOf a, 1, a, s.now⟩
    let s := if fld bs 0x18 1 = 1 then faults.foldl State.marchRepair s else s
    let done := s.memory.repaired.length + s.memory.remapped.length - before
    let repairs := (s.memory.errLog.drop n).filter fun e => decide (4 ≤ e.kind)
    let head := leBytes (marchWords bs skipped) 8 ++ leBytes faults.length 4 ++ leBytes done 2 ++ leBytes skipped 2
    .next (s.endRunning 0x0A00 0 .ok (head ++ (recs ++ repairs.map ErrRec.bytes).flatten))

/-- MEM_ERR_QUERY (0x0A02, R541). -/
def cmdMemErrQuery : Command where
  opcode := 0x0A02
  front := true
  room := false
  mctp := true
  recovery := false
  sched := false
  shape := fixedShape 0
  zero := fun _ => true
  body := fun _ s =>
    let es := s.memory.errLog
    .done .ok (leBytes es.length 4 ++ leBytes s.memory.errLost 4 ++ pad 8 ++ (es.map ErrRec.bytes).flatten) s

/-! ## Inline encryption (R530) -/

/-- One of the two AES-256 keys of a pair drawn at a boot. -/
def memKey (pair i : Nat) : List Byte := leBytes (Config.secret (pair + i)).toNat 32

/-- A tweak times x in normal order (R335), as XTS advances it from block to block. -/
def nextTweak (t : List Byte) : List Byte := leBytes (laneX false (BitVec.ofNat 128 (leNat t)) 1).toNat 16

/-- XTS over whole blocks under the first key, from the tweak of the first block. -/
def xtsBlocks (key : List Byte) : List Byte → List (List Byte) → List Byte
  | _, [] => []
  | t, b :: bs => xorBytes (aesEncrypt key (xorBytes b t)) t ++ xtsBlocks key (nextTweak t) bs

/-- What a GDDR6 device holds of a 64-byte line: AES-256-XTS under a key pair, the data unit the line, and its tweak the line's number as a 128-bit
little-endian number (R530). -/
def xtsLine (pair a : Nat) (line : List Byte) : List Byte :=
  xtsBlocks (memKey pair 0) (aesEncrypt (memKey pair 1) (leBytes ((a - 0x100000000) / 64) 16)) (chunks 16 line)

/-- The bytes on the memory bus for the line at a thread address (R530, R532); none while the controllers hold no keys. Memory.mem holds what the
controllers' clients see, which is the line decrypted. -/
def State.busLine (s : State) (a : Nat) : Option (List Byte) :=
  s.memory.keys.map fun k => xtsLine k (a / 64 * 64) (Memory.readBytes s.mem (a / 64 * 64) 64)

/-- `MEM.STATUS` (R544). -/
def State.memStatus (s : State) : Nat :=
  let m := s.memory
  let pool := match m.march with | some r => (s.marchRegions r.params).contains 3 | none => false
  m.retired.length * 2 ^ 16 + m.substituted.length * 2 ^ 11 + b01 m.fullTrain * 64 + b01 m.gddrReady * 32 + b01 (decide (m.unfilled ≠ [])) * 16 +
    b01 m.march.isSome * 8 + b01 pool * 4 + b01 m.sramReady

end Sys2Proof.Machine
end

