-- ==== Sys2Proof/Machine/Boot.lean ====
section
/-!
DEFINITION. Boot flash and the start of the device: boot record, image and annex image verification, thread maps, measurements, the boot
march and thread release (R297 to R304, R354 to R361, R530, R538 to R540, R562).
-/

namespace Sys2Proof.Machine

/-! ## Images (R356) -/

/-- Bytes of an image: an offset and a length give the bytes there. -/
abbrev Reader := Nat → Nat → List Byte

/-- Flash offset of an image region: slot A, slot B, the annex region. -/
def regionBase (r : Nat) : Nat := 0x01000000 * (r + 1)

/-- Bytes of a flash region. -/
def State.flashImage (s : State) (r : Nat) : Reader := fun off n => Memory.readBytes s.sr.flash (regionBase r + off) n

/-- Bytes of a buffer. -/
def bufferImage (bs : List Byte) : Reader := fun off n => fit (slice bs off (off + n)) n

/-- A field of an image, little-endian. -/
def Reader.field (rd : Reader) (off n : Nat) : Nat := fld (rd off n) 0 n

/-- IMAGE_LEN. -/
def Reader.len (rd : Reader) : Nat := rd.field 0x1C 4

/-- The sections: type, offset, length. -/
def Reader.sections (rd : Reader) : List (Nat × Nat × Nat) :=
  (List.range (min 8 (rd.field 0x20 4))).map fun i => (rd.field (0x30 + 16 * i) 2, rd.field (0x34 + 16 * i) 4, rd.field (0x38 + 16 * i) 4)

/-- The first section of a type: offset and length. -/
def Reader.sectionAt (rd : Reader) (type : Nat) : Option (Nat × Nat) := (rd.sections.find? fun x => decide (x.1 = type)).map fun x => x.2

/-- Bytes of a section; empty when there is none. -/
def Reader.bytesOf (rd : Reader) (type : Nat) : List Byte :=
  match rd.sectionAt type with
  | some x => rd x.1 x.2
  | none => []

/-- The image digest. -/
def Reader.digest (rd : Reader) : List Byte := sha384 (rd 0 rd.len)

/-- No two ranges overlap. -/
def rangesApart : List (Nat × Nat × Nat) → Bool
  | [] => true
  | x :: xs => (xs.all fun y => decide (x.2.1 + x.2.2 ≤ y.2.1 ∨ y.2.1 + y.2.2 ≤ x.2.1)) && rangesApart xs

/-- A signature block's fields, in order, from `off`: the vendor key and signature (none in an annex image), OWNER_ALG, owner key and
countersignature; and where the block ends. -/
structure SigBlock where
  vendorKey : List Byte
  vendorSig : List Byte
  alg       : Nat
  ownerKey  : List Byte
  ownerSig  : List Byte
  finish    : Nat
  deriving DecidableEq, Repr

/-- The owner's part of a signature block. -/
def Reader.ownerBlock (rd : Reader) (off : Nat) (vk vs : List Byte) : SigBlock :=
  let klen := rd.field (off + 2) 2
  let slen := rd.field (off + 4 + klen) 2
  ⟨vk, vs, rd.field off 2, rd (off + 4) klen, rd (off + 6 + klen) slen, off + 6 + klen + slen⟩

/-- The signature block of a firmware image. -/
def Reader.sigs (rd : Reader) : SigBlock :=
  let n := rd.field (rd.len + 60) 4
  rd.ownerBlock (rd.len + 64 + n) (rd rd.len 60) (rd (rd.len + 64) n)

/-- Sections lie behind the header and within IMAGE_LEN, which lies within the slot, and do not overlap. -/
def Reader.sectionsOk (rd : Reader) (types : Nat) : Bool :=
  let n := rd.field 0x20 4
  decide (1 ≤ n ∧ n ≤ 8) && decide (0x200 ≤ rd.len ∧ rd.len ≤ 0x1000000) && rangesApart rd.sections &&
    rd.sections.all fun x => decide (1 ≤ x.1 ∧ x.1 ≤ types) && decide (0x200 ≤ x.2.1) && decide (x.2.1 + x.2.2 ≤ rd.len)

/-! ## Owner keys (R354, R355) -/

/-- The countersignature of a block over a message verifies under the block's own key: ECDSA P-384, or HSS with SHA-256 (R356, R357). -/
def SigBlock.verifies (b : SigBlock) (msg : List Byte) : Bool :=
  match b.alg with
  | 1 => ecdsaVerifies b.ownerKey msg b.ownerSig
  | 2 => hssSha 5 b.ownerKey msg b.ownerSig
  | _ => false

/-- The countersignature of a block over a message was made by a key of some fused slot. -/
def SigBlock.madeBy (b : SigBlock) (k : OwnerKey) (msg : List Byte) : Bool :=
  decide (sha384 b.ownerKey = k.hash) && decide (b.alg = k.alg + 1) && b.verifies msg

/-- The lowest owner key slot that is not valid. -/
def Fuses.freeOwner (f : Fuses) : Option Nat := (List.range 5).find? fun i => match f.owner[i]? with | some k => !k.valid | none => false

/-- Program an owner key slot. -/
def Fuses.setOwner (f : Fuses) (i : Nat) (k : OwnerKey) : Fuses := { f with owner := f.owner.set i k }

/-! ## Thread maps (R297 to R304) -/

/-- A thread map entry follows R297; of an IDLE thread nothing but its number counts. -/
def threadEntryOk (t : Nat) (e : List Byte) : Bool :=
  decide (fld e 0 2 = t) && decide (fld e 2 1 ≤ 8) &&
    (decide (fld e 2 1 = 0) ||
      (decide (fld e 3 1 ≤ 3) && decide (fld e 4 1 ≤ 63) && decide (fld e 5 1 ≤ 1) && zeros e 6 2 && zeros e 0x18 8 &&
        decide (fld e 8 4 % 4 = 0 ∧ fld e 8 4 < 0x4000000) &&
        decide (fld e 0x0C 4 % 64 = 0 ∧ 0x8000 ≤ fld e 0x0C 4 ∧ fld e 0x0C 4 + fld e 0x10 4 ≤ 0x20000) &&
        decide (fld e 0x10 4 % 1024 = 0 ∧ 1024 ≤ fld e 0x10 4 ∧ fld e 0x10 4 ≤ 98304)))

/-- The stacks of the threads of each core are apart (R298): entries with their thread numbers, in thread order. -/
def stacksApart : List (Nat × List Byte) → Bool
  | [] => true
  | x :: xs =>
    (xs.all fun y => decide (coreOf x.1 ≠ coreOf y.1) || decide (fld x.2 2 1 = 0) || decide (fld y.2 2 1 = 0) ||
      decide (fld x.2 0x0C 4 + fld x.2 0x10 4 ≤ fld y.2 0x0C 4) || decide (fld y.2 0x0C 4 + fld y.2 0x10 4 ≤ fld x.2 0x0C 4)) && stacksApart xs

/-- A party of a line entry is in range (R299). -/
def partyOk (kind who : Nat) (writer : Bool) : Bool :=
  match kind with
  | 0 => true
  | 1 => decide (who < 256)
  | 2 => decide (who < 2048)
  | 3 => writer
  | _ => false

/-- A line entry follows R299; of a device line only LOG2_CAP counts (R300). -/
def lineEntryOk (n : Nat) (e : List Byte) : Bool :=
  decide (fld e 0 1 = 0 ∨ (2 ≤ fld e 0 1 ∧ fld e 0 1 ≤ 13)) &&
    (decide (n < 4096) || decide (fld e 0 1 = 0) || (partyOk (fld e 1 1) (fld e 2 2) true && partyOk (fld e 4 1) (fld e 6 2) false && zeros e 5 1))

/-- Capacity of a line entry in beats. -/
def lineCap (e : List Byte) : Nat := if fld e 0 1 = 0 then 0 else 2 ^ fld e 0 1

/-- The line of an entry: a device line's parties are fixed by its number. -/
def lineOf (n : Nat) (e : List Byte) : Line :=
  { Line.unused with
    cap := lineCap e
    writerKind := if n < 4096 then 0 else fld e 1 1, writer := if n < 4096 then 0 else fld e 2 2
    readerKind := if n < 4096 then 0 else fld e 4 1, reader := if n < 4096 then 0 else fld e 6 2 }

/-- A thread map section cut into its three tables: thread entries, line entries and hitch entries with their numbers. -/
structure MapTables where
  threads : List (Nat × List Byte)
  lines   : List (Nat × List Byte)
  hitches : List (Nat × List Byte)
  deriving DecidableEq, Repr

/-- Cut a thread map section (R297, R361): the threads, and the first line and hitch with their counts. -/
def mapTables (bs : List Byte) (ts : List Nat) (line lines hitch hitches : Nat) : MapTables :=
  let a := 16 + 32 * ts.length
  let b := a + 8 * lines
  ⟨(List.zip (List.range ts.length) ts).map fun x => (x.2, slice bs (16 + 32 * x.1) (48 + 32 * x.1)),
    (List.range lines).map fun i => (line + i, slice bs (a + 8 * i) (a + 8 * i + 8)),
    (List.range hitches).map fun i => (hitch + i, slice bs (b + 4 * i) (b + 4 * i + 4))⟩

/-- The section has its header and the size its tables need. -/
def mapHeaderOk (bs : List Byte) (size : Nat) : Bool :=
  decide (fld bs 0 4 = 0x504D4854) && decide (fld bs 4 2 = 1) && zeros bs 6 10 && decide (size ≤ bs.length)

/-- Every entry of the tables follows its rule; `used` is the line pool that other lines take (R299). -/
def MapTables.ok (m : MapTables) (used : Nat) : Bool :=
  (m.threads.all fun x => threadEntryOk x.1 x.2) && stacksApart m.threads && (m.lines.all fun x => lineEntryOk x.1 x.2) &&
    (m.hitches.all fun x => zeros x.2 2 2) && decide ((m.lines.map fun x => lineCap x.2).sum + used ≤ 131072)

/-- Tables of a firmware image's thread map. -/
def firmwareTables (bs : List Byte) : MapTables := mapTables bs (List.range 2048) 0 65536 0 32768

/-- The map of a firmware image passes; entries of annex lines and hitches come from the annex image. -/
def firmwareMapOk (bs : List Byte) : Bool :=
  mapHeaderOk bs (16 + 32 * 2048 + 8 * 65536 + 4 * 32768) &&
    ({ firmwareTables bs with lines := (firmwareTables bs).lines.take 61440 }).ok 0

/-- The role of a code. -/
def roleOf (n : Nat) : Role :=
  match n with
  | 1 => .housekeeper | 2 => .service | 3 => .backStair | 4 => .storage | 5 => .seal | 6 => .maintenance | 7 => .annex | 8 => .annexPacket
  | _ => .idle

/-- The thread of a map entry, before its start. -/
def threadOf (e : List Byte) : Thread :=
  if fld e 2 1 = 0 then Thread.idle
  else { Thread.idle with
    role := roleOf (fld e 2 1), priority := fld e 3 1, group := fld e 4 1, reseatOnFault := bit (fld e 5 1) 0
    entry := fld e 8 4, stackBase := fld e 0x0C 4, stackSize := fld e 0x10 4, arg := fld e 0x14 4 }

/-- Start a thread at its entry (R298); an IDLE thread never runs. -/
def State.startThread (s : State) (t : Nat) (x : Thread) : State :=
  s.setThread t (if x.role = .idle then x else Thread.start x t (s.clusterGen (clusterOf t)))

/-- Threads, lines and hitches of the tables take their entries; the threads start. Threads that wait on a line go on waiting (R361). -/
def State.loadMap (s : State) (m : MapTables) : State :=
  let s := m.lines.foldl (fun s x => s.setLine x.1 { lineOf x.1 x.2 with readers := (s.line x.1).readers, writers := (s.line x.1).writers }) s
  let s := m.hitches.foldl (fun s x => s.setHitch x.1 { s.hitch x.1 with count := fld x.2 0 2 }) s
  m.threads.foldl (fun s x => s.startThread x.1 (threadOf x.2)) s

/-- Threads of annex cores, in ascending order. -/
def State.annexThreads (s : State) : List Nat := (List.range 2048).filter s.isAnnex

/-! ## Verification (R357, R361) -/

/-- The first check of R357 that a firmware image fails; 0 when it passes all. -/
def State.imageFails (s : State) (rd : Reader) : Nat :=
  let f := s.sr.fuses
  let b := rd.sigs
  let code := match rd.sectionAt 1 with | some x => x.2 | none => 0
  if !(decide (rd.field 0 4 = 0x4D49584B ∧ rd.field 4 2 = 1) && rd.sectionsOk 4 && decide (rd.field 0x24 4 ≤ code) && decide (b.finish ≤ 0x1000000)) then 1
  else if rd.field 0x10 8 ≠ 0 ∧ rd.field 0x10 8 ≠ f.serial then 2
  else if rd.field 0x0C 4 > 64 ∨ rd.field 0x0C 4 < f.secureVersion then 3
  else if sha256 b.vendorKey ≠ f.vendorLms ∨ !hssSha 10 b.vendorKey rd.digest b.vendorSig then 4
  else if (match f.ownerKey with
      | some k => !b.madeBy k (rd.digest ++ b.vendorSig)
      | none => bit (rd.field 6 2) 0 && !b.verifies (rd.digest ++ b.vendorSig)) then 5
  else if !firmwareMapOk (rd.bytesOf 3) then 6
  else 0

/-- Tables of an annex image's thread map (R361). -/
def State.annexTables (s : State) (rd : Reader) : MapTables := mapTables (rd.bytesOf 3) s.annexThreads 61440 4096 30720 2048

/-- Line pool that firmware lines take. -/
def State.firmwarePool (s : State) : Nat := ((s.cores.lines.filter fun e => decide (e.1 < 61440)).map fun e => e.2.cap).sum

/-- The annex thread map passes R297 and R304: roles ANNEX or ANNEX_PACKET (or IDLE), wait groups 56 to 63. -/
def State.annexMapOk (s : State) (rd : Reader) : Bool :=
  let m := s.annexTables rd
  mapHeaderOk (rd.bytesOf 3) (16 + 32 * m.threads.length + 8 * 4096 + 4 * 2048) && m.ok s.firmwarePool &&
    m.threads.all fun x => decide (fld x.2 2 1 = 0) || (decide (7 ≤ fld x.2 2 1) && decide (56 ≤ fld x.2 4 1))

/-- The first check of R361 that an annex image fails; 0 when it passes all. -/
def State.annexFails (s : State) (rd : Reader) : Nat :=
  let b := rd.ownerBlock rd.len [] []
  let zero := rd.field 6 2 = 0 ∧ rd.field 0x0C 4 = 0 ∧ rd.field 0x10 8 = 0 ∧ rd.field 0x18 4 = 0 ∧ rd.field 0x24 4 = 0 ∧ rd.field 0x28 1 = 0
  if !(decide (rd.field 0 4 = 0x4E41584B ∧ rd.field 4 2 = 1) && rd.sectionsOk 3 && decide zero && decide (b.finish ≤ 0x1000000)) then 1
  else if !s.annexMapOk rd then 2
  else match s.sr.fuses.ownerKey with
    | some k => if b.madeBy k rd.digest then 0 else 3
    | none => 3

/-! ## Measurements (R359) -/

/-- Blocks 1 to 5 of a boot from a slot; no annex image is loaded yet. -/
def State.measureBoot (s : State) (rd : Reader) (slot : Nat) (trial : Bool) : State :=
  let s := (s.measure 1 Config.romDigest).measure 2 (sha384 (rd 0 0x200 ++ leBytes slot 1 ++ leBytes (b01 trial) 1))
  (((s.measure 3 (sha384 (rd.bytesOf 1 ++ rd.bytesOf 2 ++ rd.bytesOf 4))).measure 4 (sha384 (rd.bytesOf 3))).measure 5 (pad 48)).measureConfig

/-! ## The boot record (R356, R358) -/

/-- The copy with the higher sequence number and a valid CRC; slot A without TRIAL when neither is valid. -/
def State.bootRec (s : State) : BootRec :=
  let a := s.sr.bootA
  let b := s.sr.bootB
  if a.ok ∧ (!b.ok ∨ b.seq ≤ a.seq) then a else if b.ok then b else ⟨0, false, 0, true⟩

/-- Write a boot record into the other copy. -/
def State.writeBootRec (s : State) (active : Nat) (trial : Bool) : State :=
  let r := s.bootRec
  let n : BootRec := ⟨active, trial, r.seq + 1, true⟩
  if s.sr.bootA = r then { s with sr := { s.sr with bootB := n } } else { s with sr := { s.sr with bootA := n } }

/-- STATE of a flash region (R360): 0 slot A, 1 slot B, 2 annex. -/
def State.slot (s : State) (r : Nat) : Slot := if r = 0 then s.sr.slotA else if r = 1 then s.sr.slotB else s.sr.annexSlot

/-- Change the state of a flash region. -/
def State.setSlot (s : State) (r : Nat) (x : Slot) : State :=
  if r = 0 then { s with sr := { s.sr with slotA := x } }
  else if r = 1 then { s with sr := { s.sr with slotB := x } }
  else { s with sr := { s.sr with annexSlot := x } }

/-- The slot to boot, and whether it boots on trial; each slot is verified in its turn and its state noted (R358). A rejected trial slot
gives way to the ACTIVE slot, and a rejected ACTIVE slot to the other (DEDUCED, log entry 46). -/
def State.chooseSlot (s : State) : Option (Nat × Bool) × State :=
  let r := s.bootRec
  let note (s : State) (n : Nat) (ok : Bool) : State := s.setSlot n { s.slot n with state := if ok then 1 else if s.slot n = ⟨0, 0⟩ then 0 else 2 }
  let s := if r.trial then s.writeBootRec r.active false else s
  let order := if r.trial then [1 - r.active, r.active] else [r.active, 1 - r.active]
  order.foldl (fun (acc : Option (Nat × Bool) × State) n =>
    match acc.1 with
    | some _ => acc
    | none =>
      let ok := decide (acc.2.imageFails (acc.2.flashImage n) = 0)
      (if ok then some (n, r.trial && decide (n ≠ r.active)) else none, note acc.2 n ok)) (none, s)

/-! ## The start (R530, R531, R538 to R540, R543, R562) -/

/-- Where the annex code lies in the code region: the upper half (DESIGN CHOICE, log entry 45). -/
def annexCodeOffset : Nat := 0x2000000

/-- Copy the image sections to the code region, the code section at its start and the data and patch sections behind it (DESIGN CHOICE,
log entry 45). -/
def State.copySections (s : State) (rd : Reader) : State :=
  { s with mem := Memory.writeBytes s.mem 0x100000000 (rd.bytesOf 1 ++ rd.bytesOf 2 ++ rd.bytesOf 4) }

/-- The boot march finds and repairs again what was repaired before (R539), and the new memory keys leave GDDR6 to be zero filled
(R531). -/
def State.bootMemory (s : State) (fullTrain : Bool) : State :=
  let s : State := { s with memory := { s.memory with
    sramReady := true, gddrReady := true, fullTrain := fullTrain, trainSaved := true, unfilled := List.range 15872, keys := some s.sr.memKeys } }
  s.count R.MEM_ROWS_REPAIRED s.memory.repaired.length

/-- The ROM starts: new memory and context keys, the march, verification, and thread release; without an image that verifies, or with
more than 16 banks to substitute (R540), or after repeated escalation (R566), it serves recovery only. -/
def State.boot (s : State) (fullTrain recovery : Bool) : State :=
  let s : State := { s with
    sr := { s.sr with contextBase := s.draws, contextInv := 0, memKeys := s.draws + 1024, romDone := true }, draws := s.draws + 1026 }
  let s := s.bootMemory fullTrain
  let (pick, s) := s.chooseSlot
  match pick with
  | none => (State.measureConfig { s with sr := { s.sr with recovery := true } }).deriveIds
  | some (n, trial) =>
    let rd := s.flashImage n
    let s : State := { s with sr := { s.sr with imageValid := true, bootSlot := n, trial := trial, header := rd 0 0x200, trialOver := false } }
    let s := ((s.measureBoot rd n trial).deriveIds).copySections rd
    if recovery ∨ s.memory.substituted.length > 16 then { s with sr := { s.sr with recovery := true } }
    else
      let m := firmwareTables (rd.bytesOf 3)
      let own := { m with threads := m.threads.filter fun x => !s.isAnnex x.1, lines := m.lines.take 61440, hitches := m.hitches.take 30720 }
      { s with sr := { s.sr with releasedAt := s.clock } }.loadMap own

/-! ## The annex image (R304, R361) -/

/-- Install an annex image that has passed its checks: its code, data and thread map, and measurement block 5; the annex threads start. -/
def State.installAnnex (s : State) (rd : Reader) : State :=
  let code := rd.bytesOf 1
  let s : State := { s with
    mem := Memory.writeBytes (Memory.writeBytes s.mem (0x100000000 + annexCodeOffset) code) s.annexBase (rd.bytesOf 2)
    memory := { s.memory with annexCode := (annexCodeOffset, code.length) }, sr := { s.sr with annexHeader := rd 0 0x200 } }
  (s.measure 5 rd.digest).loadMap (s.annexTables rd)

/-- Load the annex image of boot flash at a start, when a valid one is there. -/
def State.startAnnex (s : State) : State :=
  if s.sr.annexSlot.state = 1 ∧ s.annexFails (s.flashImage 2) = 0 then s.installAnnex (s.flashImage 2) else s

/-! ## READY (R353 to R358) -/

/-- Fuse writes that an image has pending: owner claim, revocation, secure version. -/
def State.burnFuses (s : State) : State :=
  let rd := s.flashImage s.sr.bootSlot
  let h := s.sr.header
  let b := rd.sigs
  let flags := fld h 6 2
  let f := s.sr.fuses
  let f := if bit flags 0 ∧ f.ownerSlot = none then f.setOwner 0 ⟨true, false, b.alg - 1, sha384 b.ownerKey⟩ else f
  let slot := fld h 0xB0 1
  let f := if bit flags 2 ∧ f.ownerSlot.isSome ∧ 1 ≤ slot ∧ f.freeOwner = some slot then
      let g := f.setOwner slot ⟨true, false, fld h 0xB1 1, slice h 0xC0 0xF0⟩
      { g with owner := (List.range 5).map fun i => match g.owner[i]? with
          | some k => if i < slot then { k with revoked := true } else k
          | none => ⟨false, false, 0, []⟩ }
    else f
  let f := if bit flags 1 then { f with secureVersion := max f.secureVersion (fld h 0x0C 4) } else f
  (State.measureConfig { s with sr := { s.sr with fuses := f } })

/-- Reply to a command whose ring a reset has taken away: in place over the packet (R571). -/
def State.replyInPlace (s : State) (x : Ctx) (st : Status) : State :=
  let p := x.pkt
  let r : Reply :=
    { path := p.path, opcode := x.opcode, tag := p.tag, status := st.code, rflags := 0, dataLen := 0, generation := s.gen.current, doneTime := s.now, data := [] }
  let s := s.emit (.reply r)
  match p.entry with
  | some a => s.writeEntry (Path.ringRoom p.path) a (splice (Reply.bytes r) 2 (leBytes (b01 p.pass * 2 ^ 15) 2)) 0
  | none => s

/-- The reply to DEV_RESET warm or FW_ACTIVATE follows READY once Bus Master Enable is set (R360, R571). -/
def State.replyWarm (s : State) : State :=
  if s.sr.ready && s.link.bme then
    let mine := s.cmd.running.filter fun r => decide (r.ctx.opcode = 0x0003 ∨ r.ctx.opcode = 0x0D02)
    mine.foldl (fun s r => (s.unrun r).replyInPlace r.ctx .ok) s
  else s

/-- IMAGE_READY (R353 to R358, R562 step 8): firmware start-up has ended. Fuses and the boot record are written, the annex image starts,
and the front door is served. -/
def execImageReady (s : State) : Res :=
  if !s.sr.imageValid || s.sr.ready || s.sr.recovery || !s.cores.lhReady then .next s
  else
    let s : State := { s with sr := { s.sr with ready := true } }
    let s := if s.sr.trial ∧ !s.sr.trialOver then s.writeBootRec s.sr.bootSlot false else s
    .next s.burnFuses.startAnnex.replyWarm

/-- TRIAL_TIMEOUT (R358): 1 s after thread release a trial slot is not READY, and the next reset boots the ACTIVE slot. -/
def execTrialTimeout (s : State) : Res :=
  if s.sr.trial && s.sr.imageValid && !s.sr.ready && decide (s.sr.releasedAt + 1000000000 ≤ s.clock) then .next { s with sr := { s.sr with trialOver := true } }
  else .next s

end Sys2Proof.Machine
end

