-- ==== Sys2Proof/Machine/Spdm.lean ====
section
/-!
DEFINITION. The SPDM responder with its identity certificates and measurements, the DOE mailbox and the TDISP queries (R68, R69, R71, R359,
R362). What the manual leaves to the DMTF and PCI standards (codes and layouts of messages) is PRESUMED, log entry 41.
-/

namespace Sys2Proof.Machine

/-! ## Certificates (R362) -/

/-- Bytes of the DER object at the head of a list. -/
def derSize (bs : List Byte) : Nat :=
  match bfld bs 1 1 with
  | 0x81 => 3 + bfld bs 2 1
  | 0x82 => 4 + bfld bs 2 2
  | 0x83 => 5 + bfld bs 2 3
  | n => 2 + n

/-- The certificates at the head of a list, at most `n`. -/
def derCerts (bs : List Byte) : Nat → List (List Byte)
  | 0 => []
  | n + 1 => if bs.headD 0 ≠ 0x30 ∨ bs.length < derSize bs then [] else bs.take (derSize bs) :: derCerts (bs.drop (derSize bs)) n

/-- The DeviceID certificate chain of boot flash (R356): root, intermediate, DeviceID. -/
def State.deviceChain (s : State) : List (List Byte) := derCerts (Memory.readBytes s.sr.flash 0x2000 0xE000) 3

/-- The chain's root is the one whose hash the fuses hold (R362). -/
def State.rootHolds (s : State) : Bool :=
  match s.deviceChain with
  | root :: _ => decide (sha384 (Config.certKey root) = s.sr.fuses.vendorEcdsa)
  | [] => false

/-- A chain as a slot serves it: its length and the hash of its root before it. -/
def chainBytes (certs : List (List Byte)) : List Byte :=
  let all := certs.flatten
  leBytes (52 + all.length) 2 ++ pad 2 ++ sha384 (certs.headD []) ++ all

/-- The chain of a certificate slot (R362): slot 0 is served only once its root has been checked; an unwritten slot is empty. -/
def State.slotChain (s : State) (n : Nat) : List Byte :=
  if n = 0 then (if s.rootHolds then chainBytes (s.deviceChain ++ [s.sr.ids.aliasCert]) else [])
  else match derCerts (Tbl.get (fun _ => []) s.sr.certs n) 8 with
    | [] => []
    | certs => chainBytes certs

/-- An owner chain ends in a certificate over the DeviceID key (R362). -/
def State.ownerChainOk (s : State) (bs : List Byte) : Bool :=
  match (derCerts bs 8).getLast? with
  | some c => decide (Config.certKey c = ecPublic s.sr.ids.deviceId)
  | none => false

/-! ## The SPDM responder (R69) -/

/-- An SPDM message the responder understands: versions 1.2 and 1.3, and GET_VERSION, which carries 1.0. -/
def spdmVersionOk (bytes : List Byte) : Bool :=
  let v := fld bytes 0 1
  decide (v = 0x12 ∨ v = 0x13) || decide (v = 0x10 ∧ fld bytes 1 1 = 0x84)

/-- The ALGORITHMS body: measurements in DMTF format with SHA-384, ECDSA P-384, SHA-384; then ECDH on P-384, AES-256-GCM, a requester's
ECDSA P-384 and the SPDM key schedule (R69). -/
def spdmAlgorithms : List Byte :=
  leBytes 52 2 ++ [1, 0] ++ leBytes 4 4 ++ leBytes 0x80 4 ++ leBytes 2 4 ++ pad 16 ++
    [2, 0x20] ++ leBytes 0x10 2 ++ [3, 0x20] ++ leBytes 2 2 ++ [4, 0x20] ++ leBytes 0x80 2 ++ [5, 0x20] ++ leBytes 1 2

/-- The slots that hold a chain, one bit each. -/
def State.slotMask (s : State) : Nat := ((List.range 8).map fun i => b01 (s.slotChain i ≠ []) * 2 ^ i).sum

/-- The measurement blocks a request asks for: 0xFF all, else one. -/
def State.blocksAsked (s : State) (op : Nat) : List (List Byte) :=
  if op = 0xFF then (List.range 6).map fun i => s.measureBlock (i + 1)
  else if 1 ≤ op ∧ op ≤ 6 then [s.measureBlock op]
  else []

/-- An ERROR response. -/
def spdmError (version code data : Nat) : List Byte := leBytes version 1 ++ [0x7F] ++ leBytes code 1 ++ leBytes data 1

/-- A response that the Alias key signs (R362): over the request and what the response holds before the signature (log entry 41). -/
def State.signed (s : State) (request body : List Byte) : List Byte × State :=
  let (sig, s) := s.sign s.sr.ids.aliasId (request ++ body)
  (body ++ sig, s)

/-- The interface report of a TDI (R71): its 64 KiB room page in BAR2, and its 16 interrupt message store entries, each by number. The order of
the fields is the model's (DESIGN CHOICE, log entry 41). -/
def interfaceReport (room : Nat) : List Byte :=
  leBytes room 4 ++ leBytes 2 2 ++ leBytes 16 2 ++ leBytes (room * 65536) 8 ++ leBytes 65536 8 ++ ((List.range 16).map fun i => leBytes (room * 16 + i) 4).flatten

/-- A TDISP message other than those with a row of their own: 0x84 the interface report, 0x85 the TDI state (R71); bytes 4 to 7 name the TDI,
that is the room. -/
def State.tdispQuery (s : State) (m : List Byte) : List Byte :=
  let room := fld m 4 4
  let answer (code : Nat) (data : List Byte) : List Byte := [0x10] ++ leBytes code 1 ++ pad 2 ++ fit (m.drop 4) 12 ++ data
  if 1024 ≤ room then answer 0x7F []
  else match fld m 1 1 with
    | 0x84 => answer 0x04 (interfaceReport room)
    | 0x85 => answer 0x05 (leBytes (s.room room).tdi.code 1)
    | _ => answer 0x7F []

/-- KEY_EXCHANGE: an ephemeral P-384 key and a session that FINISH will open (R69); the last 48 bytes prove the responder's session key. -/
def State.keyExchange (s : State) (bytes : List Byte) : List Byte × State :=
  let (v, s) := s.free
  let id := v.toNat % 2 ^ 16
  let (e, s) := s.secretBytes 56
  let (random, s) := s.secretBytes 32
  let (proof, s) := s.secretBytes 48
  let s : State := { s with link := { s.link with spdmOpening := id :: s.link.spdmOpening } }
  let (a, s) := s.signed bytes (bytes.take 1 ++ [0x64, 0, 0] ++ leBytes id 2 ++ pad 2 ++ random ++ ecPublic (ecKeyOf e) ++ pad 2)
  (a ++ proof, s)

/-- The responder's answer (R69) to a message outside a session, or inside the session that is named. -/
def State.spdmAnswer (s : State) (bytes : List Byte) (session : Option Nat) : List Byte × State :=
  let v := fld bytes 0 1
  let c := fld bytes 1 1
  let p1 := fld bytes 2 1
  let p2 := fld bytes 3 1
  let ver := leBytes v 1
  if !spdmVersionOk bytes then (spdmError 0x12 0x41 0, s)
  else match c, session with
    | 0x84, _ => ([0x10, 0x04, 0, 0, 0, 2, 0x00, 0x12, 0x00, 0x13], s)
    | 0xE1, _ => (ver ++ [0x61, 0, 0] ++ Config.spdmCapabilities, s)
    | 0xE3, _ => (ver ++ [0x63, 4, 0] ++ spdmAlgorithms, s)
    | 0x81, _ => (ver ++ [0x01, 0] ++ leBytes s.slotMask 1 ++ ((List.range 8).flatMap fun i => if s.slotChain i ≠ [] then sha384 (s.slotChain i) else []), s)
    | 0x82, _ =>
      let chain := s.slotChain (p1 % 16)
      let off := fld bytes 4 2
      let part := (chain.drop off).take (fld bytes 6 2)
      if p1 % 16 > 7 ∨ chain = [] ∨ chain.length ≤ off then (spdmError v 0x01 0, s)
      else (ver ++ [0x02] ++ leBytes (p1 % 16) 1 ++ [0] ++ leBytes part.length 2 ++ leBytes (chain.length - off - part.length) 2 ++ part, s)
    | 0xEE, _ =>
      let slot := p1 % 16
      if slot = 0 ∨ 7 < slot ∨ !s.ownerChainOk (bytes.drop 4) then (spdmError v 0x01 0, s)
      else (ver ++ [0x6E] ++ leBytes slot 1 ++ [0], { s with sr := { s.sr with certs := Tbl.set (fun _ => []) s.sr.certs slot (bytes.drop 4) } })
    | 0x83, _ =>
      let (random, s) := s.secretBytes 32
      let chain := s.slotChain (p1 % 16)
      s.signed bytes (ver ++ [0x03] ++ leBytes (p1 % 16) 1 ++ leBytes s.slotMask 1 ++ sha384 chain ++ random ++ pad 2)
    | 0xE0, _ =>
      let (random, s) := s.secretBytes 32
      let blocks := s.blocksAsked p2
      let body := ver ++ [0x60] ++ leBytes (if p2 = 0 then 6 else 0) 1 ++ [0] ++ leBytes blocks.length 1 ++ leBytes blocks.flatten.length 3 ++
        blocks.flatten ++ random ++ pad 2
      if bit p1 0 then s.signed bytes body else (body, s)
    | 0xE4, none => s.keyExchange bytes
    | 0xE5, some id => (ver ++ [0x65, 0, 0], { s with link := { s.link with
        spdmOpening := s.link.spdmOpening.filter fun x => decide (x ≠ id), spdmSessions := id :: s.link.spdmSessions } })
    | 0xEC, some id => (ver ++ [0x6C, 0, 0], { s with link := { s.link with spdmSessions := s.link.spdmSessions.filter fun x => decide (x ≠ id) } })
    | 0xFE, some _ =>
      let n := 9 + fld bytes 6 1
      (ver ++ [0x7E] ++ slice bytes 2 n ++ s.tdispQuery (bytes.drop (n + 1)), s)
    | _, _ => (spdmError v 0x07 c, s)

/-- SPDM_REQUEST (R69): over DOE the response stays in the mailbox, over MCTP it is sent. -/
def execSpdmRequest (bytes : List Byte) (mctp : Bool) (s : State) : Res :=
  let (a, s) := s.spdmAnswer bytes none
  if mctp then .next (s.emit (.message 4 a))
  else .next (State.emit { s with link := { s.link with doe := a } } (.message 1 a))

/-- The protocols of the mailbox: DOE Discovery, CMA/SPDM and Secured CMA/SPDM (R68; numbers PRESUMED, log entry 41). -/
def doeDiscovery (index : Nat) : List Byte :=
  if index < 3 then leBytes 1 2 ++ leBytes index 1 ++ leBytes (if index = 2 then 0 else index + 1) 1 else leBytes 0xFFFF 2 ++ leBytes 0 2

/-- A secured object: the session that carries it, and the message; its protection belongs to keys that neither side of the model shows
(DESIGN CHOICE, log entry 41). -/
def securedMessage (object : List Byte) : Nat × List Byte := (fld object 8 2, object.drop 12)

/-- The object that answers with `a` under the header of the one it answers (R68). -/
def doeObject (object a : List Byte) : List Byte :=
  object.take 4 ++ leBytes (2 + (a.length + 3) / 4) 4 ++ fit a ((a.length + 3) / 4 * 4)

/-- An object has arrived whole (R68): Discovery is answered by the mailbox itself, CMA/SPDM by the responder, and a secured object only inside
an open session; one that names no open session is discarded. -/
def State.doeAnswer (s : State) (object : List Byte) : State :=
  let put (s : State) (a : List Byte) : State := State.emit { s with link := { s.link with doe := doeObject object a } } (.message 0 (doeObject object a))
  match fld object 2 1 with
  | 0 => put s (doeDiscovery (fld object 8 1))
  | 1 => let (a, s) := s.spdmAnswer (object.drop 8) none; put s a
  | _ =>
    let (id, m) := securedMessage object
    if s.link.spdmSessions.contains id ∨ s.link.spdmOpening.contains id then
      let (a, s) := s.spdmAnswer m (some id)
      put s (leBytes id 2 ++ pad 2 ++ a)
    else s

/-- DOE_OBJECT_WRITE (R68): an object of at most 16,384 DW with its 8-byte header. -/
def execDoeObjectWrite (bytes : List Byte) (s : State) : Res :=
  .next (s.config fun s => if bytes.length < 8 ∨ 65536 < bytes.length ∨ fld bytes 0 2 ≠ 1 ∨ 2 < fld bytes 2 1 then s else s.doeAnswer bytes)

/-- DOE_ABORT (R68): the mailbox is clear. -/
def execDoeAbort (s : State) : Res := .next (s.config fun s => { s with link := { s.link with doe := [], doeIn := [] } })

end Sys2Proof.Machine
end

