-- ==== Sys2Proof/Machine/Adopt.lean ====
section
/-!
DEFINITION. How a commit ends, and how a cluster adopts a generation (R26, R27, R29, R32, R33, R35, R324).
-/

namespace Sys2Proof.Machine

/-! ## Wait groups (R321) -/

/-- A group's sentinel state. -/
def State.group (s : State) (g : Nat) : Group := Tbl.get Group.default s.cores.groups g

/-- Change a group's sentinel state. -/
def State.setGroup (s : State) (g : Nat) (x : Group) : State :=
  { s with cores := { s.cores with groups := Tbl.set Group.default s.cores.groups g x } }

/-! ## The end of a commit (R29 step 5, R32, R33 step 4) -/

/-- Every island has adopted or is deferred. -/
def Gen.allIn (g : Gen) : Bool := decide (g.applied ||| g.deferred = BitVec.ofNat 18 0x3FFFF)

/-- Status that a commit's reply carries: ROOM_ERROR when an error cause won over the room's transition (R101), OK_LATE for a pulse fired at
its arming (R189). -/
def State.commitStatus (s : State) (c : Commit) : Status :=
  let op := c.ctx.opcode
  if (op = 0x0102 ∨ op = 0x0103 ∨ op = 0x0105) ∧ (s.room c.ctx.pkt.room).state = .inError then .roomError
  else if c.warn then .okWarn
  else if c.late then .okLate
  else .ok

/-- Reply once every island is in one of the two masks; a stalled commit ends with a GEN_APPLIED event instead. -/
def State.endCommit (s : State) : State :=
  let g := s.gen
  if !g.allIn then s
  else match g.commit with
    | some c =>
      let s : State := { s with gen := { g with
        inProgress := false, commit := none, repliedAt := some s.clock, warn := if c.rollback then g.warn else c.warn, stalled := if c.rollback then false else g.stalled
        rolledBack := c.rollback, rolledOnce := c.rollback } }
      s.finish c.ctx (s.commitStatus c) []
    | none =>
      if g.stalled then
        let s : State := { s with gen := { g with stalled := false, repliedAt := some s.clock, rolledOnce := false } }
        s.postOwner 7 g.current g.applied.toNat
      else s

/-- Mark an island as having adopted; its deferred bit clears (R35). -/
def State.markAdopted (s : State) (island : Nat) : State :=
  let m : BitVec 18 := 1#18 <<< island
  { s with gen := { s.gen with applied := s.gen.applied ||| m, deferred := s.gen.deferred &&& ~~~m } }

/-! ## Clusters (R27, R324) -/

/-- The GEN_ADOPT line message: TYPE 2, the new number in GENERATION, for the owner (R308). -/
def adoptBeat (gen : Nat) : Vec := Vec.ofBytes (leBytes 2 2 ++ pad 6 ++ leBytes gen 2 ++ leBytes 0xFFFF 2 ++ pad 4 ++ leBytes 0xFFFFFFFF 4 ++ pad 44)

/-- Control line of a cluster (R300). -/
def controlLine (cluster : Nat) : Nat := 2048 + cluster

/-- The lowest housekeeper thread of the map: it writes what housekeepers write (DESIGN CHOICE, log entry 59). -/
def State.housekeeper (s : State) : Nat :=
  (((s.cores.threads.filter fun e => decide (e.2.role = .housekeeper)).map fun e => e.1).min?).getD 0

/-- The housekeeper posts GEN_ADOPT on the control line of each cluster (R26, R308). A line without room takes no message. -/
def State.postAdopt (s : State) : State :=
  (List.range 4).foldl (fun s c =>
    let l := s.line (controlLine c)
    if l.used < l.cap ∧ l.writers = [] ∧ !s.gen.applied.getLsbD (11 + c) ∧ !s.gen.deferred.getLsbD (11 + c) then
      let t := s.housekeeper
      let x := s.thread t
      (s.setLine (controlLine c) { l with queue := l.queue ++ [stampHeader t x.seq [adoptBeat s.gen.current]] }).setThread t
        { x with seq := (x.seq + 1) % 2 ^ 32 }
    else s) s

/-- A thread is at a message boundary: it has finished the message it held, that is, it holds no packet of one and stages no answer to it
(R27; what shows that it has finished is a DESIGN CHOICE, log entry 59). -/
def Thread.atBoundary (x : Thread) : Bool := decide (x.packets = []) && x.staged.isNone

/-- Every firmware thread of a cluster is at a message boundary; annex threads are not waited for (R27). -/
def State.clusterQuiet (s : State) (c : Nat) : Bool :=
  s.cores.threads.all fun e => decide (clusterOf e.1 ≠ c) || s.isAnnex e.1 || decide (e.2.role = .idle) || Thread.atBoundary e.2

/-- The GEN_ADOPT messages of a cluster's control line have been read. -/
def State.takeAdopt (s : State) (c : Nat) : State :=
  let l := s.line (controlLine c)
  let old := l.queue.filter fun m => match m with | b :: _ => decide (fld (Vec.bytes b) 0 2 ≠ 2) | [] => true
  if old = l.queue then s else s.setLine (controlLine c) { l with queue := old }

/-- A cluster's sentinel applies the stall policies of the generation in force (R324). A closed group keeps the instant it closed. -/
def State.adoptPolicies (s : State) (c : Nat) : State :=
  (List.range 64).foldl (fun s l =>
    let g := c * 64 + l
    let x := s.group g
    let n := match s.cfg 0x0C04 g with
      | [] => Group.default g
      | b => { Group.default g with recover := decide (fld b (8 + 2) 1 = 1), t1us := fld b (8 + 4) 4, t2us := fld b (8 + 8) 4 }
    s.setGroup g { x with t1us := n.t1us, t2us := n.t2us, recover := n.recover }) s

/-- A cluster adopts (R27, R324). -/
def State.adoptCluster (s : State) (c : Nat) : State :=
  if s.gen.applied.getLsbD (11 + c) then s
  else
    let s := (s.takeAdopt c).adoptPolicies c
    let s : State := { s with cores := { s.cores with clusterGen := Tbl.set (fun _ => 0) s.cores.clusterGen c s.gen.current } }
    (s.markAdopted (11 + c)).endCommit

end Sys2Proof.Machine
end

