-- ==== Sys2Proof/Machine/Resets.lean ====
section
/-!
DEFINITION. Faults, recoveries and resets: reseating, cluster restart, escalation, FLR and the resets that run the strongroom ROM
(R301, R302, R565 to R572, R578, R579).
-/

namespace Sys2Proof.Machine

/-! ## What a reset leaves (R34, R94, R568, R581) -/

/-- Resets that run the strongroom ROM (R567). `off` is a cold start from Off. -/
inductive ResetKind where
  | conventional | warm | cold | off | brownout
  deriving DecidableEq, Repr

/-- The timekeeper has lost its supply (R568). -/
def ResetKind.loses (k : ResetKind) : Bool :=
  match k with
  | .off | .brownout => true
  | _ => false

/-- Registers that keep their values: the porch's, those R581 names, and the timekeeper's while it runs (log entry 44). -/
def ResetKind.keepsReg (k : ResetKind) (o : Nat) : Bool :=
  decide (o = R.FAULT_RESET_CAUSE ∨ o = R.FAULT_WARM_RESTART ∨ o = R.FAULT_ESCALATED) || decide (0x800000 ≤ o ∧ o < 0x900000) ||
    (!k.loses && decide (0x200000 ≤ o ∧ o < 0x300000))

/-- The PERIOD_SET block of the P and PHASE in force; empty for the defaults. -/
def Timekeeper.periodBlock (t : Timekeeper) : List Byte :=
  if t.periodUs = 10000 ∧ t.phase = 0 then [] else leBytes t.periodUs 4 ++ pad 4 ++ leBytes t.phase 8

/-- The SYNC_CONFIG block in force; empty for the defaults. -/
def Timekeeper.syncBlock (t : Timekeeper) : List Byte :=
  if !t.syncOn ∧ !t.syncFall ∧ !t.syncAuto ∧ t.syncOffset = 0 then []
  else leBytes (b01 t.syncOn + 2 * b01 t.syncFall + 8 * b01 t.syncAuto) 1 ++ pad 3 ++ leBytes t.syncOffset 4

/-- Settings of generation 0x0000 after a reset: P, PHASE and SYNC_CONFIG in force (R34), and the persistent storage settings (R484). -/
def State.carried (s : State) (loses : Bool) : Settings :=
  let keep := s.gen.cur.filter fun e => decide (keyOp e.1 = 0x0900 ∨ keyOp e.1 = 0x0902 ∨ keyOp e.1 = 0x0904)
  let t := if loses then Timekeeper.reset else s.time
  (Settings.set keep (keyOf 0x0602 0) t.periodBlock).set (keyOf 0x0603 0) t.syncBlock

/-- Key domains of vacated rooms are detached (R117). -/
def detachDomains (v : Tbl VaultRec) : Tbl VaultRec :=
  v.map fun e => if e.2.state = 1 ∧ e.2.room < 1024 then (e.1, { e.2 with state := 2 }) else e

/-- Namespaces of vacated rooms are detached (R489). -/
def detachAll (v : Tbl Space) : Tbl Space := v.map fun e => if e.2.room < 1024 then (e.1, { e.2 with room := noRoom }) else e

/-- Rooms, their rings and messages, the owner's rings, the pending store and everything staged are gone; generation 0x0000 is in
force. -/
def State.vacateAll (s : State) (loses : Bool) : State :=
  { s with
    gen := { Gen.reset with cur := s.carried loses }, rooms := [], rings := [], msgs := []
    cmd := { Ehrenan.reset with eid := s.cmd.eid, sensors := s.cmd.sensors }
    store := { s.store with spaces := detachAll s.store.spaces }
    sr := { s.sr with vault := detachDomains s.sr.vault, vaultSaved := detachDomains s.sr.vaultSaved } }

/-- A port after a reset: its module and its count of link-ups are the board's and the counter's. -/
def Port.afterReset (p : Port) : Port := { Port.reset with moduleReady := p.moduleReady }

/-- A seal pair at boot: its next leaf is the mark (R382). -/
def SealPair.atBoot (p : SealPair) : SealPair := { p with leaf := p.mark }

/-- The strongroom before its ROM runs again: fuses, flash, boot records, eMRAM and the persisted vault stay (R568). -/
def Strongroom.atReset (x : Strongroom) (k : ResetKind) : Strongroom :=
  let stays := decide (x.debugLevel = 2) && match k with | .conventional | .warm => true | _ => false
  { x with
    romDone := false, ready := false, imageValid := false, recovery := false, trial := false, trialOver := false, header := [], annexHeader := []
    measures := [], entropyRun := 0, entropyFail := x.entropyFail && (match k with | .conventional | .warm => true | _ => false)
    vaultOpen := false, vaultLocked := x.vaultLocked && stays, vaultDirty := false, vault := [], cache := [], imports := [], nextImport := 1, sessions := []
    sealCur := x.sealCur.map SealPair.atBoot, sealNext := x.sealNext.map SealPair.atBoot, sealNewBusy := false, nonce := none
    debugLevel := if stays then 2 else 0, mboxBusy := false, mboxDone := false, mboxRead := 0
    hibernate := match k with | .cold | .off | .brownout => none | _ => x.hibernate }

/-- AER words keep their values over a reset that leaves power on (R568; which ones are sticky: PRESUMED, log entry 2). -/
def stickyWord (e : Nat × Nat) : Bool := decide (0x104 ≤ e.1 ∧ e.1 < 0x14C)

/-- The host link: a warm restart keeps the link and configuration space and abandons the tags; the other resets take the link down and
free the tags (R59, R568, R570). -/
def State.linkAtReset (s : State) (k : ResetKind) : HostLink :=
  match k with
  | .warm =>
    let l := (s.abandonTags fun _ => true).link
    { l with retrying := l.retrying && !(s.sr.ready || s.sr.recovery), doe := [], doeIn := [], spdmSessions := [], spdmOpening := [], ide := [], ats := [], atsAsked := [], atsDenied := [], heldWrites := [], msix := [], replayNum := 0 }
  | .conventional => { HostLink.reset with cfg := s.link.cfg.filter stickyWord, aer := s.link.aer, pmeEn := s.link.pmeEn, pmeStatus := s.link.pmeStatus, wakeAsserted := s.link.wakeAsserted }
  | _ => { HostLink.reset with wakeAsserted := s.link.wakeAsserted }

/-- ANNEX_MIB after a reset: the committed size takes effect (R520); a loss of power brings the default back. -/
def State.nextAnnexMib (s : State) (k : ResetKind) : Nat :=
  if k.loses then 1024
  else match s.cfg 0x0A01 0 with
    | [] => s.memory.annexMib
    | b => fld b 0 2

/-- Everything a reset that runs the ROM clears, and what it keeps (R568). -/
def State.wipe (s : State) (k : ResetKind) : State :=
  let next := if k.loses then [] else s.cores.annexNext
  State.vacateAll { State.reset with
    pending := s.pending, clock := s.clock, draws := s.draws, hostMem := s.hostMem, out := s.out
    regs := s.regs.filter fun e => k.keepsReg e.1
    time := if k.loses then { Timekeeper.reset with refPresent := s.time.refPresent } else { s.time with nextPeriod := none, pps := [] }
    link := s.linkAtReset k, gen := { Gen.reset with cur := s.gen.cur }, cmd := s.cmd
    ports := s.ports.map fun e => (e.1, e.2.afterReset)
    cores := { Cores.reset with annexCores := next, annexNext := next, resetAt := s.clock }
    memory := { MemUnit.reset with
      trainSaved := s.memory.trainSaved && decide (k ≠ .brownout), annexMib := s.nextAnnexMib k, spares := s.memory.spares, repaired := s.memory.repaired
      retired := s.memory.retired, substituted := s.memory.substituted, remapped := s.memory.remapped }
    fault := { FaultUnit.reset with escalatedWarm := if k = .conventional ∨ k = .warm then s.fault.escalatedWarm else [] }
    sr := s.sr.atReset k, store := (s.loseStore false).store, power := s.power, jtag := s.jtag } k.loses

/-! ## Resets that run the ROM (R567 to R571) -/

/-- Causes of a reset, in the order of the bits of `FAULT.RESET_CAUSE` (R581). -/
inductive Cause where
  | vsbOn | brownout | mainPower | thermtrip | devCold | dbgLock | perst | hotReset | linkDown | flr | devWarm | fwActivate | codeCheck | escalation
  deriving DecidableEq, Repr

/-- Bit number of a cause. -/
def Cause.bitNo : Cause → Nat
  | .vsbOn => 0 | .brownout => 1 | .mainPower => 2 | .thermtrip => 3 | .devCold => 4 | .dbgLock => 5 | .perst => 6 | .hotReset => 7 | .linkDown => 8
  | .flr => 9 | .devWarm => 10 | .fwActivate => 11 | .codeCheck => 12 | .escalation => 13

/-- Note a reset's cause (R581); a device fault without escalation has no bit. -/
def State.noteCause (s : State) (c : Option Cause) : State :=
  match c with
  | some c => s.setBits R.FAULT_RESET_CAUSE (2 ^ c.bitNo)
  | none => s

/-- The strongroom ROM runs after a wipe; the first ledger entry holds the cause (R579). -/
def State.restart (s : State) (fullTrain recovery : Bool) : State :=
  let s : State := { s with power := { s.power with ladder := 0, entering := none, starting := false, raising := none, coreMv := 800, sections := [], idleSince := s.clock } }
  let s := s.boot fullTrain recovery
  s.ledger 6 6 0 (leBytes (s.reg R.FAULT_RESET_CAUSE).toNat 4 ++ pad 12)

/-- The seal threads close the open epoch with RESET at the trigger and publish its knot (R570, step 2). -/
def State.sealReset (s : State) : State := (s.resetClose.flushRope 4).loseRope

/-- A conventional reset (R570). -/
def State.conventionalReset (s : State) (cause : Option Cause) : State := ((s.sealReset.noteCause cause).wipe .conventional).restart false false

/-- A warm restart (R570); commands in `keep` reply after it (R571). -/
def State.warmRestart (s : State) (cause : Option Cause) (keep : List Running) (recovery : Bool) : State :=
  let s := (((s.sealReset.noteCause cause).bump R.FAULT_WARM_RESTART).wipe .warm)
  State.restart { s with cmd := { s.cmd with running := keep } } false recovery

/-- A cold reset: the porch lowers the groups and starts the device cold (R562, R571). -/
def State.coldReset (s : State) (cause : Option Cause) : State :=
  let full := !s.memory.trainSaved
  let s := ((s.sealReset.noteCause cause).wipe .cold).restart full false
  { s with power := { s.power with enabled := 0x1F, good := 0x1F } }

/-! ## Escalation (R566) -/

/-- Count an escalation and record it. -/
def State.escalated (s : State) (fr to' : Nat) : State :=
  (s.bump R.FAULT_ESCALATED).ledger 9 6 0 (leBytes fr 1 ++ leBytes to' 1 ++ pad 14)

/-- A warm restart by escalation; the third within 1 h boots to recovery only. -/
def State.escalateWarm (s : State) : State :=
  let s := s.escalated 4 6
  let recent := (s.fault.escalatedWarm.filter fun c => decide (s.clock < c + 3600000000000)) ++ [s.clock]
  let s : State := { s with fault := { s.fault with escalatedWarm := recent } }
  let third := decide (recent.length ≥ 3)
  (if third then s.escalated 6 6 else s).warmRestart (some .escalation) [] third

/-! ## Reseating and cluster restart (R301, R569, R578) -/

/-- Packets that a thread holds are dropped (R578). -/
def State.dropHeld (s : State) (t : Nat) : State :=
  let x := s.thread t
  let mine := s.pipe.handed.filter fun h => x.packets.any fun p => decide (p.1 = h.handle)
  let s : State := { s with pipe := { s.pipe with handed := s.pipe.handed.filter fun h => !(x.packets.any fun p => decide (p.1 = h.handle)) } }
  let s : State := { s with cores := { s.cores with packetLens := s.cores.packetLens.filter fun e => !(x.packets.any fun p => decide (p.1 = e.1)) } }
  let s := s.count R.FAULT_PKT_DROPPED x.packets.length
  mine.foldl (fun s h => s.dropPkt h.pkt) (s.setThread t { s.thread t with packets := [] })

/-- Stop a thread and forget what units hold for it: its staged message, its places in queues, its hitches, its tile requests, its
packets (R301). -/
def State.stopThread (s : State) (t : Nat) : State :=
  let x := s.thread t
  let s := s.count R.THR_PARTIAL_DISCARD (b01 x.staged.isSome)
  let s := s.count R.THR_HITCH_FORCED x.held.length
  (((s.leaveLines t).leaveHitches t).dropRequests t).dropHeld t

/-- Start a thread afresh; the line unit keeps its sequence number. -/
def State.freshThread (s : State) (t : Nat) : State :=
  let x := s.thread t
  s.setThread t (if x.role = .idle then x else Thread.start x t (s.clusterGen (clusterOf t)))

/-- Reseat a thread (R301), without the escalation. -/
def State.reseatOne (s : State) (t : Nat) : State := (((s.stopThread t).freshThread t).bump R.THR_RESEAT).markReplay [t]

/-- Threads of a cluster that the image runs. -/
def State.clusterThreads (s : State) (c : Nat) : List Nat :=
  ((s.cores.threads.filter fun e => decide (clusterOf e.1 = c) && decide (e.2.role ≠ .idle)).map fun e => e.1)

/-- Scratch of a cluster's cores, receive buffers included, is cleared. -/
def State.clearScratch (s : State) (c : Nat) : State :=
  let base := 0x20000000 + 0x20000 * 64 * c
  { s with mem := Memory.zero s.mem base (0x20000 * 64)
           memory := { s.memory with bad := s.memory.bad.filter fun a => decide (a < base ∨ base + 0x20000 * 64 ≤ a) } }

/-- Seal state in a restarted cluster is rebuilt, and each epoch it touches carries RESET (R569). -/
def State.resetEpochs (s : State) : State :=
  let r := s.store.rope
  let touched := r.closed.filter fun e => decide (e.knot = []) && !bit e.flags 0
  let mark (e : Epoch) : Epoch := if e.knot = [] then { e with flags := e.flags ||| 1, body := [] } else e
  (s.setRope { r with opened := r.opened.map mark, closed := r.closed.map mark }).count R.SEAL_RESET_CLOSE touched.length

/-- A cluster restart (R569): cause 1 core error, 2 core without retirement, 3 escalation. A cluster that a generation still waits for is
deferred while it is off and adopts before its threads start (R28). -/
def State.restartCluster (s : State) (c cause core : Nat) : State :=
  let ts := s.clusterThreads c
  let entries := (s.store.ops.filter fun o => ts.contains o.thread && decide (o.entry ≠ 0)).length
  let s := ((ts.foldl State.stopThread s).clearScratch c).adoptCluster c
  let s := (ts.foldl State.freshThread s).markReplay ts
  let s := s.resetEpochs
  let s := (s.bump R.FAULT_CLUSTER_RESTART).ledger 5 4 c (leBytes c 1 ++ leBytes cause 1 ++ leBytes core 2 ++ leBytes entries 4 ++ pad 8)
  let s := s.reportAer .correctedInternal
  { s with fault := { s.fault with
    reseats := s.fault.reseats.filter fun e => decide (clusterOf e.1 ≠ c), clusterRestarts := s.fault.clusterRestarts ++ [s.clock] } }

/-- A cluster restart, and a warm restart after the third within 60 s (R566). -/
def State.clusterFault (s : State) (c cause core : Nat) : State :=
  let s := s.restartCluster c cause core
  let recent := s.fault.clusterRestarts.filter fun t => decide (s.clock < t + 60000000000)
  let s : State := { s with fault := { s.fault with clusterRestarts := recent } }
  if recent.length ≥ 3 then s.escalateWarm else s

/-- Note reseats; 64 in one cluster within 100 ms, or 16 of one thread within 1 s, restart the cluster (R566). -/
def State.noteReseats (s : State) (ts : List Nat) : State :=
  match ts with
  | [] => s
  | t :: _ =>
    let c := clusterOf t
    let all := (s.fault.reseats.filter fun e => decide (s.clock < e.2 + 1000000000)) ++ ts.map fun t => (t, s.clock)
    let s : State := { s with fault := { s.fault with reseats := all } }
    let near := (all.filter fun e => decide (clusterOf e.1 = c) && decide (s.clock < e.2 + 100000000)).length
    let same := ts.any fun t => decide ((all.filter fun e => decide (e.1 = t)).length ≥ 16)
    if near ≥ 64 ∨ same then (s.escalated 0 4).clusterFault c 3 0xFFFF else s

/-- Reseat a thread (R301, R566). -/
def State.reseat (s : State) (t : Nat) : State := (s.reseatOne t).noteReseats [t]

/-- A thread fault (R302, R350): the thread stops at the faulting instruction, the ledger records it, the unit that
refused counts it (R311, R314, R534), and the thread is reseated when its RESEAT_ON_FAULT is 1. -/
def State.threadFault (s : State) (t : Nat) (f : ThFault) (word target : Nat) : State :=
  let s := match f with
    | .lineRefused => s.bump R.THR_LINE_REFUSED
    | .hitchMisuse => s.bump R.THR_HITCH_MISUSE
    | .memoryError => s.noteUe target
    | _ => s
  let x := s.thread t
  let flags := b01 x.reseatOnFault + 2 * b01 (s.isAnnex t)
  let s := s.ledger 1 0 t (faultBody f.code flags t x.pc.toNat word target s.now)
  let s := s.setThread t { x with state := .faulted, object := f.code }
  if x.reseatOnFault then s.reseat t else s

/-! ## FLR (R64, R572) -/

/-- Storage work at an FLR (R572, step 3): unsubmitted writes, splices and deallocations are abandoned, repairs and tombstones wait for
replay, and entries whose COMPLETE is on its way await confirmation. -/
def State.flrStore (s : State) : State :=
  let s := s.store.ops.foldl (fun s o =>
    if o.stage = .completing then s.setOp { o with todo := [], waiters := [] }
    else match o.kind with
      | .repair | .tomb | .rebuild => ((if o.placed then s.releasePlaces o.epoch o.place (max 1 o.records.length) else s).dropOp o.id)
      | _ => s.dropStoreOp o) s
  let x := s.store
  { s with store := { x with
    path := 0, before := none, batches := [], leases := [], conns := [], ctrls := [], volumes := x.volumes.map fun (v : Nat × Volume) => (v.1, { v.2 with cycle := none })
    replay := ⟨0, false, false, 0, decide (x.journal ≠ []), [], x.replay.later⟩ } }

/-- Configuration space takes its defaults, but for sticky bits and link fields (R568). -/
def HostLink.afterFlr (l : HostLink) : HostLink :=
  { HostLink.reset with
    pmeEn := l.pmeEn, pmeStatus := l.pmeStatus, wakeAsserted := l.wakeAsserted, rate := l.rate, lanes := l.lanes, trainedLanes := l.trainedLanes
    flit := l.flit, dlUp := l.dlUp, inL1 := l.inL1, tags := l.tags, invalidations := l.invalidations, aer := l.aer, spdmSessions := l.spdmSessions
    cfg := l.cfg.filter fun e => stickyWord e || decide (e.1 = 0x70 ∨ e.1 = 0x90), retrying := false, lastTlp := l.lastTlp }

/-- An annex thread is reseated (R568). -/
def State.reseatAnnex (s : State) : State := (s.annexThreads.filter fun t => decide ((s.thread t).role ≠ .idle)).foldl State.reseatOne s

/-- The rest of an FLR: generation 0x0000, vacant rooms, ports down, sessions and packets gone, regions 10, 12, 13 and 19 zero. -/
def State.flrClear (s : State) : State :=
  let s := s.purgeKeys fun ref => decide (refKeyKind ref = 1)
  let s := s.count R.FAULT_PKT_DROPPED s.packets.length
  let s := s.vacateAll false
  let zero (m : Memory) (n : Nat) : Memory := Memory.zero m (s.regionSpan n).1 ((s.regionSpan n).2 + 1 - (s.regionSpan n).1)
  { s with
    link := s.link.afterFlr, ports := s.ports.map fun (e : Nat × Port) => (e.1, { e.2.afterReset with linkUps := e.2.linkUps })
    pipe := { Pipe.reset with nextHandle := s.pipe.nextHandle, actionCount := s.pipe.actionCount }, tm := Tm.reset
    cores := { s.cores with threads := s.cores.threads.map fun (e : Nat × Thread) => (e.1, { e.2 with packets := [] }), packetLens := [] }
    mem := [10, 12, 13, 19].foldl zero s.mem
    regs := s.regs.filter fun e => !decide (0x100000 ≤ e.1 ∧ e.1 < 0x200000)
    time := { s.time with nextPeriod := none, pps := [] }
    sr := { s.sr with sessions := [], imports := [], nonce := none, debugLevel := if s.sr.debugLevel = 1 then 0 else s.sr.debugLevel } }

/-- FLR_INITIATE (R64, R572): the effects of R568 are in place at once, and no access sees a state between, because none is answered until the
FLR completes; when within its 20 ms it does is left open (free value, log entry 80). -/
def execFlrInitiate (s : State) : Res :=
  .next (s.config fun s =>
    let s := (s.abandonTags fun _ => true).resetClose.flrStore
    let s := (s.flrClear.reseatAnnex.noteCause (some .flr)).measureConfig
    let (v, s) := s.free
    { s with link := { s.link with flrUntil := s.clock + 1 + v.toNat % 20000000 } })

/-! ## Faults and resets from outside (R565, R567) -/

/-- A device fault (R565): AER when the link is up, then a warm restart. -/
def State.deviceFault (s : State) : State :=
  (if s.link.dlUp then s.reportAer .uncorrectableInternal else s).warmRestart none [] false

end Sys2Proof.Machine
end

