-- ==== Sys2Proof/Machine/Operands.lean ====
section
/-!
DEFINITION. Operand forms of the Dreko instructions and the issue of one instruction by a thread (R327 to R339).
-/

namespace Sys2Proof.Machine

/-- A 12-bit signed immediate (R330). -/
def imm12 (i : BitVec 12) : Word := i.signExtend 64

/-- A 17-bit signed immediate. -/
def imm17 (i : BitVec 17) : Word := i.signExtend 64

/-- The byte distance 4 × OFF22 of a branch (R333). -/
def off22 (i : BitVec 22) : BitVec 32 := i.signExtend 32 <<< 2

/-- What an instruction does once it issues. -/
inductive Eff where
  /-- It completes; the next instruction follows. -/
  | done (s : State)
  /-- It branches. -/
  | jump (s : State) (pc : BitVec 32)
  /-- The thread stays at the instruction: it blocks, parks or is reseated. -/
  | wait (s : State)
  /-- It faults; the state holds only what a refusal still does. -/
  | fault (s : State) (f : ThFault) (target : Nat)

/-- The guard holds (R331): the predicate XOR NEG is 1. -/
def guardHolds (x : Thread) (g : BitVec 4) : Bool :=
  x.rp (Fin.ofNat 8 (g.toNat % 8)) != g.getLsbD 3

/-- A thread issues instructions (R295): it is ready and not halted. -/
def Thread.issues (x : Thread) : Bool := decide (x.state = .ready) && !x.halted

/-- Step past the instruction at PC and retire it. -/
def State.retire (s : State) (t : Nat) : State :=
  s.setThread t { s.thread t with pc := (s.thread t).pc + 4, retired := (s.thread t).retired + 1 }

/-- Retire a taken branch, which the trace unit records (R320). -/
def State.branch (s : State) (t : Nat) (pc : BitVec 32) : State :=
  (s.setThread t { s.thread t with pc := pc, retired := (s.thread t).retired + 1 }).trace t 1 (s.thread t).pc

/-- A thread issues one instruction (R331, R336, R350): nothing when it is not ready, an illegal instruction for GUARD
0b1000, a step past it when the guard fails, and otherwise its effect. `word` is bits [27:0] of its encoding. -/
def issue (x : Issue) (word : Nat) (s : State) (body : Thread → Eff) : Res :=
  let t := x.thread.val
  let full := x.guard.toNat * 2 ^ 28 + word
  if !(s.thread t).issues then .next s
  else if x.guard = 8 then .next (s.threadFault t .illegal full 0)
  else if !guardHolds (s.thread t) x.guard then .next (s.retire t)
  else match body (s.thread t) with
    | .done s' => .next (s'.retire t)
    | .jump s' pc => .next (s'.branch t pc)
    | .wait s' => .next s'
    | .fault s' f target => .next (s'.threadFault t f full target)

/-- Complete an instruction whose only effect is on the thread's own registers. -/
def own (s : State) (x : Issue) (th : Thread) : Eff := .done (s.setThread x.thread th)

/-- Complete an instruction that writes a g register. -/
def putG (s : State) (x : Issue) (d : Greg) (v : Word) : Eff := own s x ((s.thread x.thread).wg d v)

/-- Complete an instruction that writes a vector register. -/
def putV (s : State) (x : Issue) (d : Vreg) (v : Vec) : Eff := own s x ((s.thread x.thread).wv d v)

/-- Complete an instruction that writes a predicate. -/
def putP (s : State) (x : Issue) (d : Preg) (b : Bool) : Eff := own s x ((s.thread x.thread).wp d b)

/-- Load `n` bytes at ga + imm and write them with `put` (R347); an uncorrectable word faults (R534). -/
def loadEff (s : State) (x : Issue) (a : Word) (imm : BitVec 12) (n : Nat) (put : State → Nat → State) : Eff :=
  let t := x.thread.val
  let ad := (a + imm12 imm).toNat
  match s.accessFault t ad n false with
  | some f => .fault s f ad
  | none =>
    if s.poisoned t ad n then .fault s .memoryError (devAddr t ad)
    else .done (put s (s.load t ad n))

/-- Store bytes at ga + imm (R347). -/
def storeEff (s : State) (x : Issue) (a : Word) (imm : BitVec 12) (bs : List Byte) : Eff :=
  let t := x.thread.val
  let ad := (a + imm12 imm).toNat
  match s.accessFault t ad bs.length true with
  | some f => .fault s f ad
  | none => .done (s.storeBytes t ad bs)

/-- An atomic on an 8-byte word of scratch (R316, R347): `f` gives the new word from the old, none to leave it. -/
def atomicEff (s : State) (x : Issue) (d : Greg) (a : Word) (f : Word → Option Word) : Eff :=
  let t := x.thread.val
  let ad := a.toNat
  match s.accessFault t ad 8 true with
  | some e => .fault s (if decide (e = .permission) && decide (ad ≥ 0x40000000) then .atomicTarget else e) ad
  | none =>
    if ad ≥ 0x40000000 then .fault s .atomicTarget ad
    else if s.poisoned t ad 8 then .fault s .memoryError (devAddr t ad)
    else
      let old : Word := BitVec.ofNat 64 (s.load t ad 8)
      let s := match f old with
        | some v => s.storeBytes t ad (leBytes v.toNat 8)
        | none => s
      .done (s.setThread t ((s.thread t).wg d old))

/-- Write a line or hitch result and go on. -/
def result (s : State) (x : Issue) (d : Greg) (v : Word) : Eff := .done (s.setThread x.thread ((s.thread x.thread).wg d v))

/-- Discard a thread's staged message, counted in THR.PARTIAL_DISCARD where the manual counts it. -/
def State.dropStaged (s : State) (t : Nat) : State := s.setThread t { s.thread t with staged := none }

end Sys2Proof.Machine
end

