-- ==== Sys2Proof/Machine/Integer.lean ====
section
/-!
DEFINITION. Dreko integer, predicate, control and system instructions (R327 to R346).
-/

namespace Sys2Proof.Machine

/-- Role numbers (R297). -/
def Role.code : Role → Nat
  | .idle => 0 | .housekeeper => 1 | .service => 2 | .backStair => 3 | .storage => 4 | .seal => 5
  | .maintenance => 6 | .annex => 7 | .annexPacket => 8

/-- Read a system register (R328); none for a number without one. -/
def State.sysReg (s : State) (t n : Nat) : Option (Word × State) :=
  let x := s.thread t
  match n with
  | 0x000 => some (BitVec.ofNat 64 t, s)
  | 0x001 => some (BitVec.ofNat 64 (coreOf t), s)
  | 0x002 => some (BitVec.ofNat 64 (Role.code x.role), s)
  | 0x003 => some (BitVec.ofNat 64 (s.groupOf t), s)
  | 0x004 => some (BitVec.ofNat 64 x.priority, s)
  | 0x008 => some (x.gen.setWidth 64, s)
  | 0x010 => some (BitVec.ofNat 64 (s.milliCycles (clusterOf t) / 1000), s)
  | 0x011 => some (x.retired, s)
  | 0x012 => some (BitVec.ofNat 64 (Tbl.get (fun _ => 2000) s.cores.freqMhz (clusterOf t)), s)
  | 0x018 => some (BitVec.ofNat 64 s.sr.debugLevel, s)
  | 0x019 => some (BitVec.ofNat 64 (b01 (s.isAnnex t)), s)
  | _ => none

/-- ADD (R334): gd := ga + gb. -/
def execAdd (x : Issue) (d : Greg) (a : Greg) (b : Greg) (s : State) : Res :=
  issue x (encR 0x01 d a b 0x00) s fun th =>
    putG s x d (th.rg a + th.rg b)

/-- SUB (R334): gd := ga − gb. -/
def execSub (x : Issue) (d : Greg) (a : Greg) (b : Greg) (s : State) : Res :=
  issue x (encR 0x01 d a b 0x01) s fun th =>
    putG s x d (th.rg a - th.rg b)

/-- AND (R334): Bitwise AND. -/
def execAnd (x : Issue) (d : Greg) (a : Greg) (b : Greg) (s : State) : Res :=
  issue x (encR 0x01 d a b 0x02) s fun th =>
    putG s x d (th.rg a &&& th.rg b)

/-- OR (R334): Bitwise OR. -/
def execOr (x : Issue) (d : Greg) (a : Greg) (b : Greg) (s : State) : Res :=
  issue x (encR 0x01 d a b 0x03) s fun th =>
    putG s x d (th.rg a ||| th.rg b)

/-- XOR (R334): Bitwise XOR. -/
def execXor (x : Issue) (d : Greg) (a : Greg) (b : Greg) (s : State) : Res :=
  issue x (encR 0x01 d a b 0x04) s fun th =>
    putG s x d (th.rg a ^^^ th.rg b)

/-- SHL (R334): Shift left by register. -/
def execShl (x : Issue) (d : Greg) (a : Greg) (b : Greg) (s : State) : Res :=
  issue x (encR 0x01 d a b 0x05) s fun th =>
    putG s x d (th.rg a <<< ((th.rg b).toNat % 64))

/-- SHR (R334): Logical shift right by register. -/
def execShr (x : Issue) (d : Greg) (a : Greg) (b : Greg) (s : State) : Res :=
  issue x (encR 0x01 d a b 0x06) s fun th =>
    putG s x d (th.rg a >>> ((th.rg b).toNat % 64))

/-- SRA (R334): Arithmetic shift right by register. -/
def execSra (x : Issue) (d : Greg) (a : Greg) (b : Greg) (s : State) : Res :=
  issue x (encR 0x01 d a b 0x07) s fun th =>
    putG s x d ((th.rg a).sshiftRight ((th.rg b).toNat % 64))

/-- MUL (R334): Low 64 bits of the product. -/
def execMul (x : Issue) (d : Greg) (a : Greg) (b : Greg) (s : State) : Res :=
  issue x (encR 0x01 d a b 0x08) s fun th =>
    putG s x d (th.rg a * th.rg b)

/-- MULHU (R334): High 64 bits of the unsigned product. -/
def execMulhu (x : Issue) (d : Greg) (a : Greg) (b : Greg) (s : State) : Res :=
  issue x (encR 0x01 d a b 0x09) s fun th =>
    putG s x d (BitVec.ofNat 64 ((th.rg a).toNat * (th.rg b).toNat / 2 ^ 64))

/-- DIVU (R334): Unsigned quotient on the core's divider. A zero divisor gives all ones. -/
def execDivu (x : Issue) (d : Greg) (a : Greg) (b : Greg) (s : State) : Res :=
  issue x (encR 0x01 d a b 0x0A) s fun th =>
    putG s x d (if th.rg b = 0 then BitVec.allOnes 64 else th.rg a / th.rg b)

/-- REMU (R334): Unsigned remainder on the core's divider. A zero divisor gives ga. -/
def execRemu (x : Issue) (d : Greg) (a : Greg) (b : Greg) (s : State) : Res :=
  issue x (encR 0x01 d a b 0x0B) s fun th =>
    putG s x d (if th.rg b = 0 then th.rg a else th.rg a % th.rg b)

/-- CLZ (R334): Count leading zero bits. -/
def execClz (x : Issue) (d : Greg) (a : Greg) (s : State) : Res :=
  issue x (encR 0x01 d a 0 0x0C) s fun th =>
    putG s x d (BitVec.ofNat 64 (clz64 (th.rg a) 64))

/-- POPC (R334): Count bits set. -/
def execPopc (x : Issue) (d : Greg) (a : Greg) (s : State) : Res :=
  issue x (encR 0x01 d a 0 0x0D) s fun th =>
    putG s x d (BitVec.ofNat 64 (popc64 (th.rg a) 64))

/-- BSWAP (R334): Reverse the 8 bytes. -/
def execBswap (x : Issue) (d : Greg) (a : Greg) (s : State) : Res :=
  issue x (encR 0x01 d a 0 0x0E) s fun th =>
    putG s x d (BitVec.ofNat 64 (swapBytes (th.rg a).toNat 8))

/-- SEXTB (R334): Sign-extend bits [7:0]. -/
def execSextb (x : Issue) (d : Greg) (a : Greg) (s : State) : Res :=
  issue x (encR 0x01 d a 0 0x10) s fun th =>
    putG s x d (((th.rg a).setWidth 8).signExtend 64)

/-- SEXTH (R334): Sign-extend bits [15:0]. -/
def execSexth (x : Issue) (d : Greg) (a : Greg) (s : State) : Res :=
  issue x (encR 0x01 d a 0 0x11) s fun th =>
    putG s x d (((th.rg a).setWidth 16).signExtend 64)

/-- SEXTW (R334): Sign-extend bits [31:0]. -/
def execSextw (x : Issue) (d : Greg) (a : Greg) (s : State) : Res :=
  issue x (encR 0x01 d a 0 0x12) s fun th =>
    putG s x d (((th.rg a).setWidth 32).signExtend 64)

/-- ADDI (R334): gd := ga + immediate. -/
def execAddi (x : Issue) (d : Greg) (a : Greg) (imm : BitVec 12) (s : State) : Res :=
  issue x (encI 0x02 d a imm.toNat) s fun th =>
    putG s x d (th.rg a + imm12 imm)

/-- ANDI (R334): Bitwise AND with immediate. -/
def execAndi (x : Issue) (d : Greg) (a : Greg) (imm : BitVec 12) (s : State) : Res :=
  issue x (encI 0x03 d a imm.toNat) s fun th =>
    putG s x d (th.rg a &&& imm12 imm)

/-- ORI (R334): Bitwise OR with immediate. -/
def execOri (x : Issue) (d : Greg) (a : Greg) (imm : BitVec 12) (s : State) : Res :=
  issue x (encI 0x04 d a imm.toNat) s fun th =>
    putG s x d (th.rg a ||| imm12 imm)

/-- XORI (R334): Bitwise XOR with immediate. -/
def execXori (x : Issue) (d : Greg) (a : Greg) (imm : BitVec 12) (s : State) : Res :=
  issue x (encI 0x05 d a imm.toNat) s fun th =>
    putG s x d (th.rg a ^^^ imm12 imm)

/-- SHLI (R334): Shift left by immediate. -/
def execShli (x : Issue) (d : Greg) (a : Greg) (n : BitVec 6) (s : State) : Res :=
  issue x (encI 0x06 d a n.toNat) s fun th =>
    putG s x d (th.rg a <<< n.toNat)

/-- SHRI (R334): Logical shift right by immediate. -/
def execShri (x : Issue) (d : Greg) (a : Greg) (n : BitVec 6) (s : State) : Res :=
  issue x (encI 0x06 d a (0x400 + n.toNat)) s fun th =>
    putG s x d (th.rg a >>> n.toNat)

/-- SRAI (R334): Arithmetic shift right by immediate. -/
def execSrai (x : Issue) (d : Greg) (a : Greg) (n : BitVec 6) (s : State) : Res :=
  issue x (encI 0x06 d a (0x800 + n.toNat)) s fun th =>
    putG s x d ((th.rg a).sshiftRight n.toNat)

/-- LDI (R334): gd := signed immediate. -/
def execLdi (x : Issue) (d : Greg) (imm : BitVec 17) (s : State) : Res :=
  issue x (encK 0x07 d imm.toNat) s fun _ =>
    putG s x d (imm17 imm)

/-- LSH16 (R334): gd := (gd << 16) OR 16-bit immediate. -/
def execLsh16 (x : Issue) (d : Greg) (imm : BitVec 16) (s : State) : Res :=
  issue x (encK 0x08 d imm.toNat) s fun th =>
    putG s x d ((th.rg d <<< 16) ||| imm.setWidth 64)

/-- CMP_EQ (R334): Predicate := ga = gb. -/
def execCmpEq (x : Issue) (d : Preg) (a : Greg) (b : Greg) (s : State) : Res :=
  issue x (encR 0x09 d a b 0x00) s fun th =>
    putP s x d (Cond.eq.holds (th.rg a) (th.rg b))

/-- CMP_NE (R334): Predicate := ga ≠ gb. -/
def execCmpNe (x : Issue) (d : Preg) (a : Greg) (b : Greg) (s : State) : Res :=
  issue x (encR 0x09 d a b 0x01) s fun th =>
    putP s x d (Cond.ne.holds (th.rg a) (th.rg b))

/-- CMP_LTU (R334): Predicate := ga < gb unsigned. -/
def execCmpLtu (x : Issue) (d : Preg) (a : Greg) (b : Greg) (s : State) : Res :=
  issue x (encR 0x09 d a b 0x02) s fun th =>
    putP s x d (Cond.ltu.holds (th.rg a) (th.rg b))

/-- CMP_LTS (R334): Predicate := ga < gb signed. -/
def execCmpLts (x : Issue) (d : Preg) (a : Greg) (b : Greg) (s : State) : Res :=
  issue x (encR 0x09 d a b 0x03) s fun th =>
    putP s x d (Cond.lts.holds (th.rg a) (th.rg b))

/-- CMP_GEU (R334): Predicate := ga ≥ gb unsigned. -/
def execCmpGeu (x : Issue) (d : Preg) (a : Greg) (b : Greg) (s : State) : Res :=
  issue x (encR 0x09 d a b 0x04) s fun th =>
    putP s x d (Cond.geu.holds (th.rg a) (th.rg b))

/-- CMP_GES (R334): Predicate := ga ≥ gb signed. -/
def execCmpGes (x : Issue) (d : Preg) (a : Greg) (b : Greg) (s : State) : Res :=
  issue x (encR 0x09 d a b 0x05) s fun th =>
    putP s x d (Cond.ges.holds (th.rg a) (th.rg b))

/-- CMP_TEST (R334): Predicate := (ga AND gb) ≠ 0. -/
def execCmpTest (x : Issue) (d : Preg) (a : Greg) (b : Greg) (s : State) : Res :=
  issue x (encR 0x09 d a b 0x06) s fun th =>
    putP s x d (Cond.test.holds (th.rg a) (th.rg b))

/-- CMPI_EQ (R334): Predicate := ga = immediate. -/
def execCmpiEq (x : Issue) (d : Preg) (a : Greg) (imm : BitVec 12) (s : State) : Res :=
  issue x (encI 0x0A d a imm.toNat) s fun th =>
    putP s x d (Cond.eq.holds (th.rg a) (imm12 imm))

/-- CMPI_NE (R334): Predicate := ga ≠ immediate. -/
def execCmpiNe (x : Issue) (d : Preg) (a : Greg) (imm : BitVec 12) (s : State) : Res :=
  issue x (encI 0x0A (8 + d) a imm.toNat) s fun th =>
    putP s x d (Cond.ne.holds (th.rg a) (imm12 imm))

/-- CMPI_LTS (R334): Predicate := ga < immediate signed. -/
def execCmpiLts (x : Issue) (d : Preg) (a : Greg) (imm : BitVec 12) (s : State) : Res :=
  issue x (encI 0x0A (16 + d) a imm.toNat) s fun th =>
    putP s x d (Cond.lts.holds (th.rg a) (imm12 imm))

/-- CMPI_LTU (R334): Predicate := ga < immediate unsigned. -/
def execCmpiLtu (x : Issue) (d : Preg) (a : Greg) (imm : BitVec 12) (s : State) : Res :=
  issue x (encI 0x0A (24 + d) a imm.toNat) s fun th =>
    putP s x d (Cond.ltu.holds (th.rg a) (imm12 imm))

/-- PAND (R334): Predicate AND. -/
def execPand (x : Issue) (d : Preg) (a : Preg) (b : Preg) (s : State) : Res :=
  issue x (encR 0x0B d a b 0x00) s fun th =>
    putP s x d (th.rp a && th.rp b)

/-- POR (R334): Predicate OR. -/
def execPor (x : Issue) (d : Preg) (a : Preg) (b : Preg) (s : State) : Res :=
  issue x (encR 0x0B d a b 0x01) s fun th =>
    putP s x d (th.rp a || th.rp b)

/-- PXOR (R334): Predicate XOR. -/
def execPxor (x : Issue) (d : Preg) (a : Preg) (b : Preg) (s : State) : Res :=
  issue x (encR 0x0B d a b 0x02) s fun th =>
    putP s x d (th.rp a != th.rp b)

/-- PNOT (R334): Predicate NOT. -/
def execPnot (x : Issue) (d : Preg) (a : Preg) (s : State) : Res :=
  issue x (encR 0x0B d a 0 0x03) s fun th =>
    putP s x d (!th.rp a)

/-- PGET (R334): Copies the predicates into gd. p0 reads 1. -/
def execPget (x : Issue) (d : Greg) (s : State) : Res :=
  issue x (encR 0x0B d 0 0 0x04) s fun th =>
    putG s x d ((th.p ||| 1).setWidth 64)

/-- PSET (R334): Sets p1 to p7 from ga. -/
def execPset (x : Issue) (a : Greg) (s : State) : Res :=
  issue x (encR 0x0B 0 a 0 0x05) s fun th =>
    own s x { s.thread x.thread with p := (th.rg a).setWidth 8 &&& 0xFE }

/-- J (R333): Branch by a signed instruction offset. -/
def execJ (x : Issue) (off : BitVec 22) (s : State) : Res :=
  issue x (0x0C * 2 ^ 22 + off.toNat) s fun th =>
    .jump s (th.pc + off22 off)

/-- JAL (R333): Branch and write the return address to g30. -/
def execJal (x : Issue) (off : BitVec 22) (s : State) : Res :=
  issue x (0x0D * 2 ^ 22 + off.toNat) s fun th =>
    .jump (s.setThread x.thread ((s.thread x.thread).wg 30 ((th.pc + 4).setWidth 64))) (th.pc + off22 off)

/-- JR (R334): Jump to ga and write the return address. A target that is not 4-byte aligned faults. -/
def execJr (x : Issue) (d : Greg) (a : Greg) (s : State) : Res :=
  issue x (encR 0x0E d a 0 0x00) s fun th =>
    if (th.rg a).toNat % 4 ≠ 0 then .fault s .alignment (th.rg a).toNat
    else .jump (s.setThread x.thread ((s.thread x.thread).wg d ((th.pc + 4).setWidth 64))) ((th.rg a).setWidth 32)

/-- PARK (R341): Parks the thread until the time value reaches ga. A deadline already reached does not park. -/
def execPark (x : Issue) (a : Greg) (s : State) : Res :=
  issue x (encR 0x24 0 a 0 0x00) s fun th =>
    if s.now.value ≥ (th.rg a).toNat then .done s
    else .wait (s.setThread x.thread { s.thread x.thread with state := .parked, deadline := some (th.rg a).toNat })

/-- YIELD (R342): Yields issue to other ready threads of the same priority. Issue order is timing, which the commands give (log entry 11). -/
def execYield (x : Issue) (s : State) : Res :=
  issue x (encR 0x24 0 0 0 0x01) s fun _ =>
    .done s

/-- TIMENS (R341): Returns the time value. -/
def execTimens (x : Issue) (d : Greg) (s : State) : Res :=
  issue x (encR 0x24 d 0 0 0x02) s fun _ =>
    putG s x d (BitVec.ofNat 64 s.now.value)

/-- BRK (R343): Halts the thread at debug level 1 or 2, faults at level 0. -/
def execBrk (x : Issue) (s : State) : Res :=
  issue x (encR 0x24 0 0 0 0x03) s fun _ =>
    if s.sr.debugLevel = 0 then .fault s .breakpointLocked 0
    else .done (s.setThread x.thread { s.thread x.thread with halted := true })

/-- TRESEAT (R344): Reseats the thread that ga names. A thread that reseats itself issues no further instruction. -/
def execTreseat (x : Issue) (a : Greg) (s : State) : Res :=
  issue x (encR 0x24 0 a 0 0x04) s fun th =>
    if s.isAnnex x.thread then .fault s .privileged 0
    else
      let t := (th.rg a).toNat % 2048
      if (s.thread t).state = .reseating ∨ (s.thread t).role = .idle then .done s
      else if t = x.thread.val then .wait (s.reseat t)
      else .done (s.reseat t)

/-- IFLUSH (R344): Invalidates the core's instruction cache. The model fetches every instruction from the code region, so there is no cache to empty. -/
def execIflush (x : Issue) (s : State) : Res :=
  issue x (encR 0x24 0 0 0 0x05) s fun _ =>
    if s.isAnnex x.thread then .fault s .privileged 0 else .done s

/-- FENCE (R306): Waits until every earlier store and atomic is acknowledged. Stores of the model take effect at once, so every earlier one is acknowledged. -/
def execFence (x : Issue) (s : State) : Res :=
  issue x (encR 0x24 0 0 0 0x06) s fun _ =>
    .done s

/-- MFS (R329): Reads a system register. -/
def execMfs (x : Issue) (d : Greg) (n : BitVec 12) (s : State) : Res :=
  issue x (encI 0x25 d 0 n.toNat) s fun _ =>
    match s.sysReg x.thread n.toNat with
    | some v => .done (v.2.setThread x.thread ((v.2.thread x.thread).wg d v.1))
    | none => .fault s .illegal 0

/-- MTS (R329): Writes the GEN system register. -/
def execMts (x : Issue) (a : Greg) (n : BitVec 12) (s : State) : Res :=
  issue x (encI 0x26 0 a n.toNat) s fun th =>
    if n = 8 then own s x { s.thread x.thread with gen := (th.rg a).setWidth 16 } else .fault s .illegal 0

end Sys2Proof.Machine
end

