-- ==== Sys2Proof/Machine/Lines.lean ====
section
/-!
DEFINITION. Dreko memory, line, hitch and tile-request instructions (R305 to R316, R337 to R339, R347).
-/

namespace Sys2Proof.Machine

/-- Refuse a line operation (R311); a refused END beat discards the staged message. -/
def refuseLine (s : State) (x : Issue) (n : Nat) (drop : Bool) : Eff :=
  .fault (if drop then s.dropStaged x.thread else s) .lineRefused n

/-- The staged message belongs to another line (R311). -/
def Thread.stagedElsewhere (th : Thread) (n : Nat) : Bool :=
  match th.staged with
  | some (l, _) => decide (l ≠ n)
  | none => false

/-- Beats staged so far. -/
def Thread.stagedBeats (th : Thread) : List Vec :=
  match th.staged with
  | some (_, bs) => bs
  | none => []

/-- LPUT and TPUT (R307, R311, R338): stage a beat. `d` takes the result; TPUT has none. -/
def putBeat (s : State) (x : Issue) (d : Option Greg) (n : Nat) (beat : Vec) : Eff :=
  let th := s.thread x.thread
  let answer (s : State) (v : Word) : Eff :=
    match d with
    | some r => result s x r v
    | none => .done s
  if !s.cores.lhReady then answer s resUnavailable
  else if n ≥ 65536 ∨ (s.line n).cap = 0 then refuseLine s x n false
  else if !s.annexLineOk x.thread n then .fault s .permission n
  else if th.stagedElsewhere n ∨ th.stagedBeats.length ≥ 64 then refuseLine s x n false
  else answer (s.setThread x.thread { th with staged := some (n, th.stagedBeats ++ [beat]) }) 0

/-- LEND, LENDT, TEND and TENDT (R307, R309, R311): stage the last beat and have the line unit accept the message,
block at LEND while it does not fit, or return FULL and keep what was staged before. -/
def endBeat (s : State) (x : Issue) (d : Greg) (n : Nat) (beat : Vec) (blocks : Bool) : Eff :=
  let th := s.thread x.thread
  let beats := th.stagedBeats ++ [beat]
  if !s.cores.lhReady then result s x d resUnavailable
  else if n ≥ 65536 ∨ (s.line n).cap = 0 then refuseLine s x n true
  else if !s.annexLineOk x.thread n then .fault s .permission n
  else if th.stagedElsewhere n ∨ beats.length > 64 ∨ ¬ s.mayWrite x.thread n ∨ beats.length > (s.line n).cap then refuseLine s x n true
  else if (s.line n).writers = [] ∧ (s.line n).used + beats.length ≤ (s.line n).cap then
    result ((s.acceptMessage x.thread n beats).trace x.thread 2 th.pc) x d 0
  else if blocks then
    let s := s.setLine n { s.line n with writers := (s.line n).writers ++ [x.thread.val] }
    .wait (s.setThread x.thread { th with staged := some (n, beats), state := .blockedLend, object := n, resultReg := d, deadline := none })
  else result s x d resFull

/-- LGET, LGETD and LTRY (R310, R311, R339): the oldest message, when no reader waits for it before this thread. -/
def getMessage (s : State) (x : Issue) (d : Greg) (n : Nat) (deadline : Option Nat) (blocks : Bool) : Eff :=
  let th := s.thread x.thread
  if !s.cores.lhReady then result s x d resUnavailable
  else if n ≥ 65536 ∨ (s.line n).cap = 0 then refuseLine s x n false
  else if !s.annexLineOk x.thread n then .fault s .permission n
  else if !s.mayRead x.thread n then refuseLine s x n false
  else
    let ahead := (s.line n).readers.filter (fun t => !(s.thread t).halted)
    match (s.line n).queue, ahead with
    | m :: rest, [] =>
      let s := (s.setLine n { s.line n with queue := rest }).deliver x.thread m
      result (s.trace x.thread 3 th.pc) x d (BitVec.ofNat 64 m.length)
    | _, _ =>
      if !blocks then result s x d resEmpty
      else if (match deadline with | some t => decide (s.now.value ≥ t) | none => false) then result s x d resTimeout
      else
        let s := s.setLine n { s.line n with readers := (s.line n).readers ++ [x.thread.val] }
        .wait (s.setThread x.thread { th with state := .blockedLine, object := n, resultReg := d, deadline := deadline })

/-- Refuse a hitch operation (R314). -/
def refuseHitch (s : State) (n : Nat) : Eff := .fault s .hitchMisuse n

/-- HTIE, HTIED and HTRY (R312, R314): take one unit, wait for one, or return TAKEN. -/
def tie (s : State) (x : Issue) (d : Greg) (n : Nat) (deadline : Option Nat) (blocks : Bool) : Eff :=
  let th := s.thread x.thread
  let h := s.hitch n
  if !s.cores.lhReady then result s x d resUnavailable
  else if n ≥ 32768 ∨ h.count = 0 then refuseHitch s n
  else if s.isAnnex x.thread ∧ n < 30720 then .fault s .permission n
  else if th.held.contains n ∨ th.held.length ≥ 16 then refuseHitch s n
  else if h.queue = [] ∧ h.holders.length < h.count then
    let s := s.setHitch n { h with holders := h.holders ++ [x.thread.val] }
    let s := s.setThread x.thread { s.thread x.thread with held := th.held ++ [n] }
    result (s.trace x.thread 4 th.pc) x d 0
  else if !blocks then result s x d resTaken
  else if (match deadline with | some t => decide (s.now.value ≥ t) | none => false) then result s x d resTimeout
  else
    let s := s.setHitch n { h with queue := h.queue ++ [x.thread.val] }
    .wait (s.setThread x.thread { th with state := .blockedHitch, object := n, resultReg := d, deadline := deadline })

/-- HUNTIE (R312, R314): return the unit; the hitch unit grants it to the head of the queue (HITCH_GRANT). -/
def untie (s : State) (x : Issue) (d : Greg) (n : Nat) : Eff :=
  let th := s.thread x.thread
  let h := s.hitch n
  if !s.cores.lhReady then result s x d resUnavailable
  else if n ≥ 32768 ∨ h.count = 0 ∨ ¬ th.held.contains n then refuseHitch s n
  else
    let s := s.setHitch n { h with holders := h.holders.filter (fun t => decide (t ≠ x.thread.val)) }
    let s := s.setThread x.thread { th with held := th.held.filter (fun k => decide (k ≠ n)) }
    result (s.trace x.thread 5 th.pc) x d 0

/-- LDB (R347): Load 1 byte, zero-extended. -/
def execLdb (x : Issue) (d : Greg) (a : Greg) (imm : BitVec 12) (s : State) : Res :=
  issue x (encI 0x10 d a imm.toNat) s fun th =>
    loadEff s x (th.rg a) imm 1 fun s' v => s'.setThread x.thread ((s'.thread x.thread).wg d (BitVec.ofNat 64 v))

/-- LDH (R347): Load 2 bytes, zero-extended. -/
def execLdh (x : Issue) (d : Greg) (a : Greg) (imm : BitVec 12) (s : State) : Res :=
  issue x (encI 0x11 d a imm.toNat) s fun th =>
    loadEff s x (th.rg a) imm 2 fun s' v => s'.setThread x.thread ((s'.thread x.thread).wg d (BitVec.ofNat 64 v))

/-- LDW (R347): Load 4 bytes, zero-extended. -/
def execLdw (x : Issue) (d : Greg) (a : Greg) (imm : BitVec 12) (s : State) : Res :=
  issue x (encI 0x12 d a imm.toNat) s fun th =>
    loadEff s x (th.rg a) imm 4 fun s' v => s'.setThread x.thread ((s'.thread x.thread).wg d (BitVec.ofNat 64 v))

/-- LDD (R347): Load 8 bytes. -/
def execLdd (x : Issue) (d : Greg) (a : Greg) (imm : BitVec 12) (s : State) : Res :=
  issue x (encI 0x13 d a imm.toNat) s fun th =>
    loadEff s x (th.rg a) imm 8 fun s' v => s'.setThread x.thread ((s'.thread x.thread).wg d (BitVec.ofNat 64 v))

/-- STB (R347): Posted store of 1 byte. -/
def execStb (x : Issue) (b : Greg) (a : Greg) (imm : BitVec 12) (s : State) : Res :=
  issue x (encI 0x14 b a imm.toNat) s fun th =>
    storeEff s x (th.rg a) imm (leBytes (th.rg b).toNat 1)

/-- STH (R347): Posted store of 2 bytes. -/
def execSth (x : Issue) (b : Greg) (a : Greg) (imm : BitVec 12) (s : State) : Res :=
  issue x (encI 0x15 b a imm.toNat) s fun th =>
    storeEff s x (th.rg a) imm (leBytes (th.rg b).toNat 2)

/-- STW (R347): Posted store of 4 bytes. -/
def execStw (x : Issue) (b : Greg) (a : Greg) (imm : BitVec 12) (s : State) : Res :=
  issue x (encI 0x16 b a imm.toNat) s fun th =>
    storeEff s x (th.rg a) imm (leBytes (th.rg b).toNat 4)

/-- STD (R347): Posted store of 8 bytes. -/
def execStd (x : Issue) (b : Greg) (a : Greg) (imm : BitVec 12) (s : State) : Res :=
  issue x (encI 0x17 b a imm.toNat) s fun th =>
    storeEff s x (th.rg a) imm (leBytes (th.rg b).toNat 8)

/-- VLD (R347): Load 64 bytes into a vector register. -/
def execVld (x : Issue) (d : Vreg) (a : Greg) (imm : BitVec 12) (s : State) : Res :=
  issue x (encI 0x18 d a imm.toNat) s fun th =>
    loadEff s x (th.rg a) imm 64 fun s' v => s'.setThread x.thread ((s'.thread x.thread).wv d (BitVec.ofNat 512 v))

/-- VST (R347): Posted store of 64 bytes. -/
def execVst (x : Issue) (b : Vreg) (a : Greg) (imm : BitVec 12) (s : State) : Res :=
  issue x (encI 0x19 b a imm.toNat) s fun th =>
    storeEff s x (th.rg a) imm (leBytes (th.rv b).toNat 64)

/-- AADD (R316): Atomic fetch-and-add on scratch. -/
def execAadd (x : Issue) (d : Greg) (a : Greg) (b : Greg) (s : State) : Res :=
  issue x (encR 0x1A d a b 0x00) s fun th =>
    atomicEff s x d (th.rg a) fun old => some (old + th.rg b)

/-- ASWP (R316): Atomic swap on scratch. -/
def execAswp (x : Issue) (d : Greg) (a : Greg) (b : Greg) (s : State) : Res :=
  issue x (encR 0x1A d a b 0x01) s fun th =>
    atomicEff s x d (th.rg a) fun _ => some (th.rg b)

/-- ACAS (R316): Atomic compare-and-swap on scratch. -/
def execAcas (x : Issue) (d : Greg) (a : Greg) (b : Greg) (s : State) : Res :=
  issue x (encR 0x1A d a b 0x02) s fun th =>
    atomicEff s x d (th.rg a) fun old => if old = th.rg d then some (th.rg b) else none

/-- LPUT (R307): Stages a beat for a line. -/
def execLput (x : Issue) (d : Greg) (a : Greg) (b : Vreg) (s : State) : Res :=
  issue x (encR 0x20 d a b 0x00) s fun th =>
    putBeat s x (some d) (th.rg a).toNat (th.rv b)

/-- LEND (R309): Stages the last beat and waits for the line unit to accept the message. -/
def execLend (x : Issue) (d : Greg) (a : Greg) (b : Vreg) (s : State) : Res :=
  issue x (encR 0x20 d a b 0x01) s fun th =>
    endBeat s x d (th.rg a).toNat (th.rv b) true

/-- LENDT (R309): As LEND, returning FULL instead of blocking. -/
def execLendt (x : Issue) (d : Greg) (a : Greg) (b : Vreg) (s : State) : Res :=
  issue x (encR 0x20 d a b 0x02) s fun th =>
    endBeat s x d (th.rg a).toNat (th.rv b) false

/-- LDROP (R309): Discards the staged message. -/
def execLdrop (x : Issue) (d : Greg) (s : State) : Res :=
  issue x (encR 0x20 d 0 0 0x03) s fun _ =>
    if !s.cores.lhReady then result s x d resUnavailable else result (s.dropStaged x.thread) x d 0

/-- LGET (R310): Receives the oldest message of a line, blocking while empty. -/
def execLget (x : Issue) (d : Greg) (a : Greg) (s : State) : Res :=
  issue x (encR 0x20 d a 0 0x04) s fun th =>
    getMessage s x d (th.rg a).toNat none true

/-- LGETD (R310): As LGET, with a deadline. -/
def execLgetd (x : Issue) (d : Greg) (a : Greg) (b : Greg) (s : State) : Res :=
  issue x (encR 0x20 d a b 0x05) s fun th =>
    getMessage s x d (th.rg a).toNat (some (th.rg b).toNat) true

/-- LTRY (R310): As LGET, returning EMPTY at once. -/
def execLtry (x : Issue) (d : Greg) (a : Greg) (s : State) : Res :=
  issue x (encR 0x20 d a 0 0x06) s fun th =>
    getMessage s x d (th.rg a).toNat none false

/-- HTIE (R312): Ties one unit of a hitch, blocking until granted. -/
def execHtie (x : Issue) (d : Greg) (a : Greg) (s : State) : Res :=
  issue x (encR 0x21 d a 0 0x00) s fun th =>
    tie s x d (th.rg a).toNat none true

/-- HTIED (R312): As HTIE, with a deadline. -/
def execHtied (x : Issue) (d : Greg) (a : Greg) (b : Greg) (s : State) : Res :=
  issue x (encR 0x21 d a b 0x01) s fun th =>
    tie s x d (th.rg a).toNat (some (th.rg b).toNat) true

/-- HUNTIE (R312): Unties a held hitch unit. -/
def execHuntie (x : Issue) (d : Greg) (a : Greg) (s : State) : Res :=
  issue x (encR 0x21 d a 0 0x02) s fun th =>
    untie s x d (th.rg a).toNat

/-- HTRY (R312): Ties a hitch only when free and unqueued, otherwise TAKEN. -/
def execHtry (x : Issue) (d : Greg) (a : Greg) (s : State) : Res :=
  issue x (encR 0x21 d a 0 0x03) s fun th =>
    tie s x d (th.rg a).toNat none false

/-- TPUT (R334): LPUT to a tile request line. -/
def execTput (x : Issue) (v : Vreg) (tile : TileNo) (s : State) : Res :=
  issue x (encT 0 v tile 0x00) s fun th =>
    putBeat s x none (2056 + tile.val) (th.rv v)

/-- TEND (R334): LEND to a tile request line. -/
def execTend (x : Issue) (d : Greg) (v : Vreg) (tile : TileNo) (s : State) : Res :=
  issue x (encT d v tile 0x01) s fun th =>
    endBeat s x d (2056 + tile.val) (th.rv v) true

/-- TENDT (R334): LENDT to a tile request line. -/
def execTendt (x : Issue) (d : Greg) (v : Vreg) (tile : TileNo) (s : State) : Res :=
  issue x (encT d v tile 0x02) s fun th =>
    endBeat s x d (2056 + tile.val) (th.rv v) false

end Sys2Proof.Machine
end

