-- ==== Sys2Proof/Machine/Vector.lean ====
section
/-!
DEFINITION. Dreko vector instructions (R328, R334 to R336, R340, R346).
-/

namespace Sys2Proof.Machine

/-- Low register of a pair operand. -/
def pairLo (p : Vpair) : Vreg := ⟨2 * p.val, by omega⟩
/-- High register of a pair operand. -/
def pairHi (p : Vpair) : Vreg := ⟨2 * p.val + 1, by omega⟩

/-- A counter block: bytes 12 to 15, as a big-endian number, plus `n` modulo 2^32 (VCTR32). -/
def counter32 (v : BitVec 128) (n : Nat) : BitVec 128 :=
  let hi := swapBytes (v.toNat / 2 ^ 96) 4
  BitVec.ofNat 128 (v.toNat % 2 ^ 96 + 2 ^ 96 * swapBytes ((hi + n) % 2 ^ 32) 4)

/-- Bytes 0 to 31 of a line message header that LHDR forms (R340): TYPE, FLAGS and ROOM from ga, GENERATION from GEN. -/
def headerBytes (a gen : Nat) : List Byte :=
  leBytes a 4 ++ pad 4 ++ leBytes gen 2 ++ leBytes (a / 2 ^ 32) 2 ++ pad 4 ++ leBytes 0xFFFFFFFF 4 ++ pad 12

/-- VXOR (R334): Vector XOR. -/
def execVxor (x : Issue) (d : Vreg) (a : Vreg) (b : Vreg) (s : State) : Res :=
  issue x (encR 0x30 d a b 0x00) s fun th =>
    putV s x d (th.rv a ^^^ th.rv b)

/-- VAND (R334): Vector AND. -/
def execVand (x : Issue) (d : Vreg) (a : Vreg) (b : Vreg) (s : State) : Res :=
  issue x (encR 0x30 d a b 0x01) s fun th =>
    putV s x d (th.rv a &&& th.rv b)

/-- VOR (R334): Vector OR. -/
def execVor (x : Issue) (d : Vreg) (a : Vreg) (b : Vreg) (s : State) : Res :=
  issue x (encR 0x30 d a b 0x02) s fun th =>
    putV s x d (th.rv a ||| th.rv b)

/-- VANDN (R334): Vector AND NOT. -/
def execVandn (x : Issue) (d : Vreg) (a : Vreg) (b : Vreg) (s : State) : Res :=
  issue x (encR 0x30 d a b 0x03) s fun th =>
    putV s x d (th.rv a &&& ~~~ th.rv b)

/-- VXOR3 (R334): Three-way vector XOR into vd. -/
def execVxor3 (x : Issue) (d : Vreg) (a : Vreg) (b : Vreg) (s : State) : Res :=
  issue x (encR 0x30 d a b 0x04) s fun th =>
    putV s x d (th.rv d ^^^ th.rv a ^^^ th.rv b)

/-- VADD_8 (R334): Element-wise 8-bit sum. -/
def execVadd_8 (x : Issue) (d : Vreg) (a : Vreg) (b : Vreg) (s : State) : Res :=
  issue x (encR 0x30 d a b 0x08) s fun th =>
    putV s x d (Vec.zip 8 (fun p q => p + q) (th.rv a) (th.rv b))

/-- VADD_16 (R334): Element-wise 16-bit sum. -/
def execVadd_16 (x : Issue) (d : Vreg) (a : Vreg) (b : Vreg) (s : State) : Res :=
  issue x (encR 0x30 d a b 0x09) s fun th =>
    putV s x d (Vec.zip 16 (fun p q => p + q) (th.rv a) (th.rv b))

/-- VADD_32 (R334): Element-wise 32-bit sum. -/
def execVadd_32 (x : Issue) (d : Vreg) (a : Vreg) (b : Vreg) (s : State) : Res :=
  issue x (encR 0x30 d a b 0x0A) s fun th =>
    putV s x d (Vec.zip 32 (fun p q => p + q) (th.rv a) (th.rv b))

/-- VADD_64 (R334): Element-wise 64-bit sum. -/
def execVadd_64 (x : Issue) (d : Vreg) (a : Vreg) (b : Vreg) (s : State) : Res :=
  issue x (encR 0x30 d a b 0x0B) s fun th =>
    putV s x d (Vec.zip 64 (fun p q => p + q) (th.rv a) (th.rv b))

/-- VSUB_8 (R334): Element-wise 8-bit difference. -/
def execVsub_8 (x : Issue) (d : Vreg) (a : Vreg) (b : Vreg) (s : State) : Res :=
  issue x (encR 0x30 d a b 0x0C) s fun th =>
    putV s x d (Vec.zip 8 (fun p q => p - q) (th.rv a) (th.rv b))

/-- VSUB_16 (R334): Element-wise 16-bit difference. -/
def execVsub_16 (x : Issue) (d : Vreg) (a : Vreg) (b : Vreg) (s : State) : Res :=
  issue x (encR 0x30 d a b 0x0D) s fun th =>
    putV s x d (Vec.zip 16 (fun p q => p - q) (th.rv a) (th.rv b))

/-- VSUB_32 (R334): Element-wise 32-bit difference. -/
def execVsub_32 (x : Issue) (d : Vreg) (a : Vreg) (b : Vreg) (s : State) : Res :=
  issue x (encR 0x30 d a b 0x0E) s fun th =>
    putV s x d (Vec.zip 32 (fun p q => p - q) (th.rv a) (th.rv b))

/-- VSUB_64 (R334): Element-wise 64-bit difference. -/
def execVsub_64 (x : Issue) (d : Vreg) (a : Vreg) (b : Vreg) (s : State) : Res :=
  issue x (encR 0x30 d a b 0x0F) s fun th =>
    putV s x d (Vec.zip 64 (fun p q => p - q) (th.rv a) (th.rv b))

/-- VCLMUL (R335): Per-lane carry-less product in normal order into a pair. -/
def execVclmul (x : Issue) (d : Vpair) (a : Vreg) (b : Vreg) (s : State) : Res :=
  issue x (encR 0x31 (2 * d.val) a b 0x00) s fun th =>
    own s x (((s.thread x.thread).wv (pairLo d) (Vec.lanes fun k => (laneMul false (Vec.lane (th.rv a) k) (Vec.lane (th.rv b) k)).1)).wv
      (pairHi d) (Vec.lanes fun k => (laneMul false (Vec.lane (th.rv a) k) (Vec.lane (th.rv b) k)).2))

/-- VCLMUL_G (R335): Per-lane carry-less product in GCM order into a pair. -/
def execVclmulG (x : Issue) (d : Vpair) (a : Vreg) (b : Vreg) (s : State) : Res :=
  issue x (encR 0x31 (2 * d.val) a b 0x01) s fun th =>
    own s x (((s.thread x.thread).wv (pairLo d) (Vec.lanes fun k => (laneMul true (Vec.lane (th.rv a) k) (Vec.lane (th.rv b) k)).1)).wv
      (pairHi d) (Vec.lanes fun k => (laneMul true (Vec.lane (th.rv a) k) (Vec.lane (th.rv b) k)).2))

/-- VGFRED (R335): Per-lane reduction modulo g(x), normal order. -/
def execVgfred (x : Issue) (d : Vreg) (a : Vpair) (s : State) : Res :=
  issue x (encR 0x31 d (2 * a.val) 0 0x02) s fun th =>
    putV s x d (Vec.lanes fun k => laneRed false (Vec.lane (th.rv (pairLo a)) k) (Vec.lane (th.rv (pairHi a)) k))

/-- VGFRED_G (R335): Per-lane reduction modulo g(x), GCM order. -/
def execVgfredG (x : Issue) (d : Vreg) (a : Vpair) (s : State) : Res :=
  issue x (encR 0x31 d (2 * a.val) 0 0x03) s fun th =>
    putV s x d (Vec.lanes fun k => laneRed true (Vec.lane (th.rv (pairLo a)) k) (Vec.lane (th.rv (pairHi a)) k))

/-- VGFX (R335): Per-lane multiply by x^n, normal order. A B field outside 1 to 8 is no encoding of it (R332). -/
def execVgfx (x : Issue) (d : Vreg) (a : Vreg) (n : BitVec 5) (s : State) : Res :=
  issue x (encR 0x31 d a n.toNat 0x04) s fun th =>
    if 1 ≤ n.toNat ∧ n.toNat ≤ 8 then putV s x d (Vec.lanes fun k => laneX false (Vec.lane (th.rv a) k) n.toNat)
    else .fault s .illegal 0

/-- VGFX_G (R335): Per-lane multiply by x^n, GCM order. A B field outside 1 to 8 is no encoding of it (R332). -/
def execVgfxG (x : Issue) (d : Vreg) (a : Vreg) (n : BitVec 5) (s : State) : Res :=
  issue x (encR 0x31 d a n.toNat 0x05) s fun th =>
    if 1 ≤ n.toNat ∧ n.toNat ≤ 8 then putV s x d (Vec.lanes fun k => laneX true (Vec.lane (th.rv a) k) n.toNat)
    else .fault s .illegal 0

/-- VGF8MUL (R335): Byte-wise GF(2^8) product. -/
def execVgf8mul (x : Issue) (d : Vreg) (a : Vreg) (b : Vreg) (s : State) : Res :=
  issue x (encR 0x31 d a b 0x08) s fun th =>
    putV s x d (Vec.zip 8 gf8 (th.rv a) (th.rv b))

/-- VGF8MAC (R335): Byte-wise GF(2^8) multiply-accumulate. -/
def execVgf8mac (x : Issue) (d : Vreg) (a : Vreg) (b : Vreg) (s : State) : Res :=
  issue x (encR 0x31 d a b 0x09) s fun th =>
    putV s x d (th.rv d ^^^ Vec.zip 8 gf8 (th.rv a) (th.rv b))

/-- VGF8MULS (R335): Every byte times a scalar in GF(2^8). -/
def execVgf8muls (x : Issue) (d : Vreg) (a : Vreg) (b : Greg) (s : State) : Res :=
  issue x (encR 0x31 d a b 0x0A) s fun th =>
    putV s x d (Vec.build 8 (fun e => gf8 (Vec.elem 8 (th.rv a) e) ((th.rg b).setWidth 8)) 64)

/-- VGF8MACS (R335): Scalar GF(2^8) multiply-accumulate. -/
def execVgf8macs (x : Issue) (d : Vreg) (a : Vreg) (b : Greg) (s : State) : Res :=
  issue x (encR 0x31 d a b 0x0B) s fun th =>
    putV s x d (th.rv d ^^^ Vec.build 8 (fun e => gf8 (Vec.elem 8 (th.rv a) e) ((th.rg b).setWidth 8)) 64)

/-- VFOLD (R334): XOR of the four lanes into lane 0. -/
def execVfold (x : Issue) (d : Vreg) (a : Vreg) (s : State) : Res :=
  issue x (encR 0x31 d a 0 0x10) s fun th =>
    putV s x d ((Vec.lane (th.rv a) 0 ^^^ Vec.lane (th.rv a) 1 ^^^ Vec.lane (th.rv a) 2 ^^^ Vec.lane (th.rv a) 3).setWidth 512)

/-- VCTR32 (R334): Builds four 32-bit counter blocks. -/
def execVctr32 (x : Issue) (d : Vreg) (a : Vreg) (b : Greg) (s : State) : Res :=
  issue x (encR 0x31 d a b 0x11) s fun th =>
    putV s x d (Vec.lanes fun k => counter32 (Vec.lane (th.rv a) 0) ((th.rg b).toNat + k))

/-- VCTR128 (R334): Builds four 128-bit counter blocks. -/
def execVctr128 (x : Issue) (d : Vreg) (a : Vreg) (b : Greg) (s : State) : Res :=
  issue x (encR 0x31 d a b 0x12) s fun th =>
    putV s x d (Vec.lanes fun k => laneOfBe (laneBe (Vec.lane (th.rv a) 0) + (th.rg b).toNat + k))

/-- VTAGEQ (R346): Constant-time 16-byte tag comparison into a predicate. -/
def execVtageq (x : Issue) (d : Preg) (a : Vreg) (b : Vreg) (s : State) : Res :=
  issue x (encR 0x31 d a b 0x13) s fun th =>
    putP s x d (Vec.lane (th.rv a) 0 == Vec.lane (th.rv b) 0)

/-- VMVG (R334): Moves a 64-bit vector element to a g register. -/
def execVmvg (x : Issue) (d : Greg) (a : Vreg) (e : Fin 8) (s : State) : Res :=
  issue x (encR 0x32 d a e 0x00) s fun th =>
    putG s x d (Vec.elem 64 (th.rv a) e.val)

/-- VMVV (R334): Moves a g register into a vector element. -/
def execVmvv (x : Issue) (d : Vreg) (a : Greg) (e : Fin 8) (s : State) : Res :=
  issue x (encR 0x32 d a e 0x01) s fun th =>
    putV s x d (Vec.build 64 (fun i => if i = e.val then th.rg a else Vec.elem 64 (th.rv d) i) 8)

/-- VBCAST (R334): Broadcasts ga to every 64-bit element. -/
def execVbcast (x : Issue) (d : Vreg) (a : Greg) (s : State) : Res :=
  issue x (encR 0x32 d a 0 0x02) s fun th =>
    putV s x d (Vec.build 64 (fun _ => th.rg a) 8)

/-- VSHUF (R334): Byte shuffle under a control vector. -/
def execVshuf (x : Issue) (d : Vreg) (a : Vreg) (b : Vreg) (s : State) : Res :=
  issue x (encR 0x32 d a b 0x03) s fun th =>
    putV s x d (Vec.build 8 (fun i => if (Vec.elem 8 (th.rv b) i).getLsbD 7 then 0 else Vec.elem 8 (th.rv a) ((Vec.elem 8 (th.rv b) i).toNat % 64)) 64)

/-- VBSWAP128 (R334): Reverses byte order in each lane. -/
def execVbswap128 (x : Issue) (d : Vreg) (a : Vreg) (s : State) : Res :=
  issue x (encR 0x32 d a 0 0x04) s fun th =>
    putV s x d (Vec.lanes fun k => laneOfBe (Vec.lane (th.rv a) k).toNat)

/-- VZERO (R334): Clears a vector register. -/
def execVzero (x : Issue) (d : Vreg) (s : State) : Res :=
  issue x (encR 0x32 d 0 0 0x05) s fun _ =>
    putV s x d 0

/-- LHDR (R340): Forms a line message header in a vector register. -/
def execLhdr (x : Issue) (d : Vreg) (a : Greg) (s : State) : Res :=
  issue x (encR 0x32 d a 0 0x06) s fun th =>
    putV s x d (Vec.put (th.rv d) 0 (headerBytes (th.rg a).toNat th.gen.toNat))

end Sys2Proof.Machine
end

