-- ==== Sys2Proof/Machine/Runner.lean ====
section
/-!
DEFINITION. Running one fetched word on a thread: the fields of R330 choose the meaning directly, as
`decodeDreko` chooses the instruction (the statement RunDecodes says that the two agree).
-/

namespace Sys2Proof.Machine

/-- Integer register instructions, MAJOR 0x01. -/
def runInt (x : Issue) (f : DrekoWord) (s : State) : Option Res :=
  let d := gReg f.d
  let a := gReg f.a
  let b := gReg f.b
  match f.fn with
  | 0x00 => some (execAdd x d a b s)
  | 0x01 => some (execSub x d a b s)
  | 0x02 => some (execAnd x d a b s)
  | 0x03 => some (execOr x d a b s)
  | 0x04 => some (execXor x d a b s)
  | 0x05 => some (execShl x d a b s)
  | 0x06 => some (execShr x d a b s)
  | 0x07 => some (execSra x d a b s)
  | 0x08 => some (execMul x d a b s)
  | 0x09 => some (execMulhu x d a b s)
  | 0x0A => some (execDivu x d a b s)
  | 0x0B => some (execRemu x d a b s)
  | 0x0C => if f.b = 0 then some (execClz x d a s) else none
  | 0x0D => if f.b = 0 then some (execPopc x d a s) else none
  | 0x0E => if f.b = 0 then some (execBswap x d a s) else none
  | 0x10 => if f.b = 0 then some (execSextb x d a s) else none
  | 0x11 => if f.b = 0 then some (execSexth x d a s) else none
  | 0x12 => if f.b = 0 then some (execSextw x d a s) else none
  | _ => none

/-- Comparisons, MAJOR 0x09, and predicate logic, MAJOR 0x0B: predicate fields have two zero high bits (R332). -/
def runCmp (x : Issue) (f : DrekoWord) (s : State) : Option Res :=
  let d := vReg f.d
  let a := gReg f.a
  let b := gReg f.b
  if f.d ≥ 8 then none
  else match f.fn with
    | 0 => some (execCmpEq x d a b s)
    | 1 => some (execCmpNe x d a b s)
    | 2 => some (execCmpLtu x d a b s)
    | 3 => some (execCmpLts x d a b s)
    | 4 => some (execCmpGeu x d a b s)
    | 5 => some (execCmpGes x d a b s)
    | 6 => some (execCmpTest x d a b s)
    | _ => none

/-- Predicate logic, MAJOR 0x0B. -/
def runPred (x : Issue) (f : DrekoWord) (s : State) : Option Res :=
  let d := vReg f.d
  let a := vReg f.a
  let b := vReg f.b
  match f.fn with
  | 0 => if f.d < 8 ∧ f.a < 8 ∧ f.b < 8 then some (execPand x d a b s) else none
  | 1 => if f.d < 8 ∧ f.a < 8 ∧ f.b < 8 then some (execPor x d a b s) else none
  | 2 => if f.d < 8 ∧ f.a < 8 ∧ f.b < 8 then some (execPxor x d a b s) else none
  | 3 => if f.d < 8 ∧ f.a < 8 ∧ f.b = 0 then some (execPnot x d a s) else none
  | 4 => if f.a = 0 ∧ f.b = 0 then some (execPget x (gReg f.d) s) else none
  | 5 => if f.d = 0 ∧ f.b = 0 then some (execPset x (gReg f.a) s) else none
  | _ => none

/-- Line instructions, MAJOR 0x20. -/
def runLine (x : Issue) (f : DrekoWord) (s : State) : Option Res :=
  let d := gReg f.d
  let a := gReg f.a
  match f.fn with
  | 0 => if f.b < 8 then some (execLput x d a (vReg f.b) s) else none
  | 1 => if f.b < 8 then some (execLend x d a (vReg f.b) s) else none
  | 2 => if f.b < 8 then some (execLendt x d a (vReg f.b) s) else none
  | 3 => if f.a = 0 ∧ f.b = 0 then some (execLdrop x d s) else none
  | 4 => if f.b = 0 then some (execLget x d a s) else none
  | 5 => some (execLgetd x d a (gReg f.b) s)
  | 6 => if f.b = 0 then some (execLtry x d a s) else none
  | _ => none

/-- Hitch instructions, MAJOR 0x21. -/
def runHitch (x : Issue) (f : DrekoWord) (s : State) : Option Res :=
  let d := gReg f.d
  let a := gReg f.a
  match f.fn with
  | 0 => if f.b = 0 then some (execHtie x d a s) else none
  | 1 => some (execHtied x d a (gReg f.b) s)
  | 2 => if f.b = 0 then some (execHuntie x d a s) else none
  | 3 => if f.b = 0 then some (execHtry x d a s) else none
  | _ => none

/-- Tile instructions, MAJOR 0x22, format T: a TILE field of 40 or more is illegal (R338). -/
def runTile (x : Issue) (f : DrekoWord) (s : State) : Option Res :=
  let tile := f.imm12 / 64
  if h : tile < 40 then
    if f.a ≥ 8 then none
    else match f.imm12 % 64 with
      | 0 => if f.d = 0 then some (execTput x (vReg f.a) ⟨tile, h⟩ s) else none
      | 1 => some (execTend x (gReg f.d) (vReg f.a) ⟨tile, h⟩ s)
      | 2 => some (execTendt x (gReg f.d) (vReg f.a) ⟨tile, h⟩ s)
      | _ => none
  else none

/-- Thread control, MAJOR 0x24. -/
def runCtl (x : Issue) (f : DrekoWord) (s : State) : Option Res :=
  match f.fn with
  | 0 => if f.d = 0 ∧ f.b = 0 then some (execPark x (gReg f.a) s) else none
  | 1 => if f.d = 0 ∧ f.a = 0 ∧ f.b = 0 then some (execYield x s) else none
  | 2 => if f.a = 0 ∧ f.b = 0 then some (execTimens x (gReg f.d) s) else none
  | 3 => if f.d = 0 ∧ f.a = 0 ∧ f.b = 0 then some (execBrk x s) else none
  | 4 => if f.d = 0 ∧ f.b = 0 then some (execTreseat x (gReg f.a) s) else none
  | 5 => if f.d = 0 ∧ f.a = 0 ∧ f.b = 0 then some (execIflush x s) else none
  | 6 => if f.d = 0 ∧ f.a = 0 ∧ f.b = 0 then some (execFence x s) else none
  | _ => none

/-- Vector logic and sums, MAJOR 0x30. -/
def runVec (x : Issue) (f : DrekoWord) (s : State) : Option Res :=
  let d := vReg f.d
  let a := vReg f.a
  let b := vReg f.b
  if f.d ≥ 8 ∨ f.a ≥ 8 ∨ f.b ≥ 8 then none
  else match f.fn with
    | 0x00 => some (execVxor x d a b s)
    | 0x01 => some (execVand x d a b s)
    | 0x02 => some (execVor x d a b s)
    | 0x03 => some (execVandn x d a b s)
    | 0x04 => some (execVxor3 x d a b s)
    | 0x08 => some (execVadd_8 x d a b s)
    | 0x09 => some (execVadd_16 x d a b s)
    | 0x0A => some (execVadd_32 x d a b s)
    | 0x0B => some (execVadd_64 x d a b s)
    | 0x0C => some (execVsub_8 x d a b s)
    | 0x0D => some (execVsub_16 x d a b s)
    | 0x0E => some (execVsub_32 x d a b s)
    | 0x0F => some (execVsub_64 x d a b s)
    | _ => none

/-- Field arithmetic, MAJOR 0x31: pair operands name v0, v2, v4 or v6 (R332). -/
def runField (x : Issue) (f : DrekoWord) (s : State) : Option Res :=
  let d := vReg f.d
  let a := vReg f.a
  let b := vReg f.b
  let vvv := f.d < 8 ∧ f.a < 8 ∧ f.b < 8
  match f.fn with
  | 0x00 => if vvv ∧ f.d % 2 = 0 then some (execVclmul x (Fin.ofNat 4 (f.d / 2)) a b s) else none
  | 0x01 => if vvv ∧ f.d % 2 = 0 then some (execVclmulG x (Fin.ofNat 4 (f.d / 2)) a b s) else none
  | 0x02 => if f.d < 8 ∧ f.a < 8 ∧ f.a % 2 = 0 ∧ f.b = 0 then some (execVgfred x d (Fin.ofNat 4 (f.a / 2)) s) else none
  | 0x03 => if f.d < 8 ∧ f.a < 8 ∧ f.a % 2 = 0 ∧ f.b = 0 then some (execVgfredG x d (Fin.ofNat 4 (f.a / 2)) s) else none
  | 0x04 => if f.d < 8 ∧ f.a < 8 ∧ 1 ≤ f.b ∧ f.b ≤ 8 then some (execVgfx x d a (BitVec.ofNat 5 f.b) s) else none
  | 0x05 => if f.d < 8 ∧ f.a < 8 ∧ 1 ≤ f.b ∧ f.b ≤ 8 then some (execVgfxG x d a (BitVec.ofNat 5 f.b) s) else none
  | 0x08 => if vvv then some (execVgf8mul x d a b s) else none
  | 0x09 => if vvv then some (execVgf8mac x d a b s) else none
  | 0x0A => if f.d < 8 ∧ f.a < 8 then some (execVgf8muls x d a (gReg f.b) s) else none
  | 0x0B => if f.d < 8 ∧ f.a < 8 then some (execVgf8macs x d a (gReg f.b) s) else none
  | 0x10 => if f.d < 8 ∧ f.a < 8 ∧ f.b = 0 then some (execVfold x d a s) else none
  | 0x11 => if f.d < 8 ∧ f.a < 8 then some (execVctr32 x d a (gReg f.b) s) else none
  | 0x12 => if f.d < 8 ∧ f.a < 8 then some (execVctr128 x d a (gReg f.b) s) else none
  | 0x13 => if vvv then some (execVtageq x d a b s) else none
  | _ => none

/-- Vector moves, MAJOR 0x32. -/
def runMove (x : Issue) (f : DrekoWord) (s : State) : Option Res :=
  match f.fn with
  | 0x00 => if f.a < 8 ∧ f.b < 8 then some (execVmvg x (gReg f.d) (vReg f.a) (vReg f.b) s) else none
  | 0x01 => if f.d < 8 ∧ f.b < 8 then some (execVmvv x (vReg f.d) (gReg f.a) (vReg f.b) s) else none
  | 0x02 => if f.d < 8 ∧ f.b = 0 then some (execVbcast x (vReg f.d) (gReg f.a) s) else none
  | 0x03 => if f.d < 8 ∧ f.a < 8 ∧ f.b < 8 then some (execVshuf x (vReg f.d) (vReg f.a) (vReg f.b) s) else none
  | 0x04 => if f.d < 8 ∧ f.a < 8 ∧ f.b = 0 then some (execVbswap128 x (vReg f.d) (vReg f.a) s) else none
  | 0x05 => if f.d < 8 ∧ f.a = 0 ∧ f.b = 0 then some (execVzero x (vReg f.d) s) else none
  | 0x06 => if f.d < 8 ∧ f.b = 0 then some (execLhdr x (vReg f.d) (gReg f.a) s) else none
  | _ => none

/-- Run the instruction a word spells on thread `t`; none for every encoding that R332 makes illegal. -/
def runFields (t : Fin 2048) (w : BitVec 32) (s : State) : Option Res :=
  let f := DrekoWord.of w
  let x : Issue := ⟨t, BitVec.ofNat 4 f.guard⟩
  let d := gReg f.d
  let a := gReg f.a
  let imm := BitVec.ofNat 12 f.imm12
  match f.major with
  | 0x01 => runInt x f s
  | 0x02 => some (execAddi x d a imm s)
  | 0x03 => some (execAndi x d a imm s)
  | 0x04 => some (execOri x d a imm s)
  | 0x05 => some (execXori x d a imm s)
  | 0x06 =>
    if f.imm12 < 0x40 then some (execShli x d a (BitVec.ofNat 6 f.imm12) s)
    else if 0x400 ≤ f.imm12 ∧ f.imm12 < 0x440 then some (execShri x d a (BitVec.ofNat 6 f.imm12) s)
    else if 0x800 ≤ f.imm12 ∧ f.imm12 < 0x840 then some (execSrai x d a (BitVec.ofNat 6 f.imm12) s)
    else none
  | 0x07 => some (execLdi x d (BitVec.ofNat 17 f.imm17) s)
  | 0x08 => if f.imm17 < 2 ^ 16 then some (execLsh16 x d (BitVec.ofNat 16 f.imm17) s) else none
  | 0x09 => runCmp x f s
  | 0x0A =>
    match f.d / 8 with
    | 0 => some (execCmpiEq x (vReg f.d) a imm s)
    | 1 => some (execCmpiNe x (vReg f.d) a imm s)
    | 2 => some (execCmpiLts x (vReg f.d) a imm s)
    | _ => some (execCmpiLtu x (vReg f.d) a imm s)
  | 0x0B => runPred x f s
  | 0x0C => some (execJ x (BitVec.ofNat 22 f.off22) s)
  | 0x0D => some (execJal x (BitVec.ofNat 22 f.off22) s)
  | 0x0E => if f.fn = 0 ∧ f.b = 0 then some (execJr x d a s) else none
  | 0x10 => some (execLdb x d a imm s)
  | 0x11 => some (execLdh x d a imm s)
  | 0x12 => some (execLdw x d a imm s)
  | 0x13 => some (execLdd x d a imm s)
  | 0x14 => some (execStb x d a imm s)
  | 0x15 => some (execSth x d a imm s)
  | 0x16 => some (execStw x d a imm s)
  | 0x17 => some (execStd x d a imm s)
  | 0x18 => if f.d < 8 then some (execVld x (vReg f.d) a imm s) else none
  | 0x19 => if f.d < 8 then some (execVst x (vReg f.d) a imm s) else none
  | 0x1A =>
    match f.fn with
    | 0 => some (execAadd x d a (gReg f.b) s)
    | 1 => some (execAswp x d a (gReg f.b) s)
    | 2 => some (execAcas x d a (gReg f.b) s)
    | _ => none
  | 0x20 => runLine x f s
  | 0x21 => runHitch x f s
  | 0x22 => runTile x f s
  | 0x24 => runCtl x f s
  | 0x25 => if f.a = 0 then some (execMfs x d imm s) else none
  | 0x26 => if f.d = 0 then some (execMts x a imm s) else none
  | 0x30 => runVec x f s
  | 0x31 => runField x f s
  | 0x32 => runMove x f s
  | _ => none


/-- Fetch and issue the instruction at a thread's PC (R330, R350): FETCH outside the code region or on an uncorrectable
word, ILLEGAL_INSTRUCTION for a word without a meaning. A fetch during a reload of the code waits (R534). -/
def State.fetchIssue (s : State) (t : Fin 2048) : State :=
  let pc := (s.thread t).pc.toNat
  let outside := decide (pc + 4 > 0x4000000) ||
    (s.isAnnex t && !(decide (s.memory.annexCode.1 ≤ pc) && decide (pc + 4 ≤ s.memory.annexCode.1 + s.memory.annexCode.2)))
  if s.memory.codeReload then s
  else if outside || s.poisoned t (0x100000000 + pc) 4 then s.threadFault t .fetch 0 0
  else
    let w := BitVec.ofNat 32 (s.load t (0x100000000 + pc) 4)
    match runFields t w s with
    | some (.next s') => s'
    | some _ => s
    | none => if (s.thread t).issues then s.threadFault t .illegal w.toNat 0 else s

end Sys2Proof.Machine
end

