-- ==== Sys2Proof/Machine/Threads.lean ====
section
/-!
DEFINITION. Events of the line unit, the hitch unit, the deadlines, the stall sentinel and the debug window
(R301, R309 to R325).
-/

namespace Sys2Proof.Machine

/-- LINE_MESSAGE_DELIVER (R310): the oldest message goes to the first reader in line that is not halted (R318). -/
def execLineMessageDeliver (line : Nat) (s : State) : Res :=
  match (s.line line).queue, (s.line line).readers.find? (fun t => !(s.thread t).halted) with
  | m :: rest, some t =>
    if s.cores.lhReady then
      let s := s.setLine line { (s.line line).leave t with queue := rest }
      .next (((s.deliver t m).trace t 3 (s.thread t).pc).answer t (BitVec.ofNat 64 m.length)).stir
    else .next s
  | _, _ => .next s

/-- LEND_ACCEPT (R309): the message that has waited longest at LEND is accepted once it fits. -/
def execLendAccept (line : Nat) (s : State) : Res :=
  match (s.line line).writers with
  | t :: _ =>
    let beats := (s.thread t).stagedBeats
    if s.cores.lhReady ∧ (s.line line).used + beats.length ≤ (s.line line).cap then
      .next (((s.acceptMessage t line beats).trace t 2 (s.thread t).pc).answer t 0).stir
    else .next s
  | [] => .next s

/-- HITCH_GRANT (R312, R313): a free unit goes to the head of the queue, passing over halted threads (R318). -/
def execHitchGrant (hitch : Nat) (s : State) : Res :=
  let h := s.hitch hitch
  match h.queue.find? (fun t => !(s.thread t).halted) with
  | some t =>
    if s.cores.lhReady ∧ h.holders.length < h.count then
      let s := s.setHitch hitch { h with holders := h.holders ++ [t], queue := h.queue.filter (fun k => decide (k ≠ t)) }
      let s := s.setThread t { s.thread t with held := (s.thread t).held ++ [hitch] }
      .next ((s.trace t 4 (s.thread t).pc).answer t 0).stir
    else .next s
  | none => .next s

/-- The thread's deadline on the time base has come (R310, R341). -/
def State.deadlinePassed (s : State) (t : Nat) : Bool :=
  match (s.thread t).deadline with
  | some d => decide (d ≤ s.now.value)
  | none => false

/-- LH_READY_CHANGE (R315). -/
def execLhReadyChange (up : Bool) (s : State) : Res :=
  if up then .next { s with cores := { s.cores with lhReady := true } }
  else if s.cores.lhReady then .next s.lhDown
  else .next s

/-! ## The stall sentinel (R321 to R325) -/

/-- Members of a global wait group: threads of its cluster that are not IDLE (R321). -/
def State.members (s : State) (g : Nat) : List Nat :=
  (List.range 512).filterMap fun i =>
    let t := g / 64 * 512 + i
    if (s.thread t).role ≠ .idle ∧ (s.thread t).group = g % 64 then some t else none

/-- A party of a line names the group, or one of its threads (R321). -/
def State.namesGroup (s : State) (kind who g : Nat) : Bool :=
  (decide (kind = 1) && decide (who = g)) ||
    (decide (kind = 2) && decide (s.groupOf who = g) && decide ((s.thread who).role ≠ .idle))

/-- A line is full to its writers: the message that has waited longest at LEND does not fit (R309). -/
def State.lineFull (s : State) (n : Nat) : Bool :=
  match (s.line n).writers with
  | t :: _ => decide ((s.line n).used + (s.thread t).stagedBeats.length > (s.line n).cap)
  | [] => false

/-- A member is blocked without a deadline on an object internal to the group (R321). -/
def State.internallyBlocked (s : State) (g t : Nat) : Bool :=
  let x := s.thread t
  !x.halted && decide (x.deadline = none) &&
    match x.state with
    | .blockedLine => decide ((s.line x.object).queue = []) && s.namesGroup (s.line x.object).writerKind (s.line x.object).writer g
    | .blockedLend => s.lineFull x.object && s.namesGroup (s.line x.object).readerKind (s.line x.object).reader g
    | .blockedHitch => (s.hitch x.object).holders.all fun h => decide (s.groupOf h = g)
    | _ => false

/-- The group is closed (R321). -/
def State.closed (s : State) (g : Nat) : Bool :=
  decide (s.members g ≠ []) && (s.members g).all (s.internallyBlocked g)

/-- `THR.STATE.STATE` of a thread (R326). -/
def Thread.stateCode (x : Thread) : Nat :=
  if x.halted then 6
  else match x.state with
    | .idle => 0 | .ready => 1 | .blockedLine => 2 | .blockedLend => 3 | .blockedHitch => 4
    | .parked => 5 | .reseating => 7 | .faulted => 8

/-- A member's record in a stall entry (R325). -/
def State.stallRecord (s : State) (t : Nat) : List Byte :=
  let x := s.thread t
  let holder := if x.state = .blockedHitch then ((s.hitch x.object).holders.head?).getD 0xFFFF else 0xFFFF
  leBytes t 2 ++ leBytes x.stateCode 1 ++ leBytes x.held.length 1 ++ leBytes x.object 2 ++ leBytes holder 2 ++
    leBytes x.pc.toNat 4 ++ pad 4

/-- The body of a stall entry (R325), built from the members before any recovery acts. -/
def State.stallBody (s : State) (g stage : Nat) : List Byte :=
  let x := s.group g
  let ms := (s.members g).take 64
  leBytes g 2 ++ leBytes stage 1 ++ leBytes ms.length 1 ++ leBytes ((s.clock - x.since.getD s.clock) / 1000) 4 ++
    Time.bytes x.sinceTime ++ pad 8 ++ (ms.map s.stallRecord).flatten

/-- `ledger_stall` followed by `post_stall` (R322). -/
def State.noteStall (s : State) (g : Nat) (body : List Byte) : State :=
  let i := s.fault.ledgerNext
  (s.ledger 2 1 g body).postOwner 0x000A g i

/-- A hitch loses the members that hold it (R323 step 1). -/
def Hitch.untieAll (ms : List Nat) (h : Hitch) : Hitch := { h with holders := h.holders.filter (fun t => !ms.contains t) }

/-- A line whose writer kind names the group or one of its members is emptied (R323 step 2). -/
def State.flushGroupLines (s : State) (g : Nat) : State :=
  let hit := fun (e : Nat × Line) => s.namesGroup e.2.writerKind e.2.writer g
  let n := ((s.cores.lines.filter hit).map fun e => e.2.queue.length).sum
  let s := { s with cores := { s.cores with lines := s.cores.lines.map fun e => if hit e then (e.1, { e.2 with queue := [] }) else e } }
  s.count R.THR_LINE_FLUSHED n

/-- Recovery of a group (R323, steps 1 to 3). Step 4, the replay of its storage work, is the event REPLAY_IN_PLACE. -/
def State.recoverGroup (s : State) (g : Nat) : State :=
  let ms := s.members g
  let held := (ms.map fun t => (s.thread t).held.length).sum
  let s := { s with cores := { s.cores with hitches := s.cores.hitches.map fun (e : Nat × Hitch) => (e.1, e.2.untieAll ms) } }
  let s := s.count R.THR_HITCH_FORCED held
  let s := ms.foldl (fun s t => s.setThread t { s.thread t with held := [] }) s
  ms.foldl State.reseatOne (s.flushGroupLines g)

/-- Stage 2 of the procedure of R322. -/
def State.stallStage2 (s : State) (g : Nat) : State :=
  let x := s.group g
  if x.stage = 1 ∧ s.clock - x.since.getD s.clock ≥ x.t2us * 1000 then
    let ms := s.members g
    if x.recover then
      let s := ((s.recoverGroup g).noteStall g (s.stallBody g 2)).bump R.THR_STALL_RECOVERED
      (s.setGroup g { x with stage := 2 }).noteReseats ms
    else (s.noteStall g (s.stallBody g 3)).setGroup g { x with stage := 2 }
  else s

/-- One watched group's turn (R322). -/
def State.evalGroup (s : State) (g : Nat) : State :=
  let x := s.group g
  if !s.closed g then s.setGroup g { x with since := none, sinceTime := Time.zero, stage := 0 }
  else
    let x := if x.since = none then { x with since := some s.clock, sinceTime := s.now } else x
    let s := s.setGroup g x
    let s :=
      if x.stage = 0 ∧ s.clock - x.since.getD s.clock ≥ x.t1us * 1000 then
        ((s.noteStall g (s.stallBody g 1)).bump R.THR_STALL_RAISED).setGroup g { x with stage := 1 }
      else s
    s.stallStage2 g

/-- STALL_SENTINEL_EVAL (R321, R322): the sentinel of a cluster tests its watched groups, local 1 to 63. -/
def execStallSentinelEval (cluster : Fin 4) (s : State) : Res :=
  .next ((List.range 63).foldl (fun s i => s.evalGroup (cluster.val * 64 + i + 1)) s)

/-! ## Debug halts (R317 to R319) -/

/-- The thread that `DBG.THREAD_SEL` selects. -/
def State.selected (s : State) : Fin 2048 := Fin.ofNat 2048 (s.reg R.DBG_THREAD_SEL).toNat

/-- A debug write: counted and ignored at level 0 (R317). -/
def debugWrite (s : State) (f : State → State) : Res :=
  if s.sr.debugLevel = 0 then .next (s.bump R.DBG_REFUSED) else .next (f s)

/-- HALT (R317): the thread halts at its next instruction boundary. -/
def execHalt (s : State) : Res :=
  debugWrite s fun s => s.setThread s.selected { s.thread s.selected with halted := true }

/-- RESUME (R317). -/
def execResume (s : State) : Res :=
  debugWrite s fun s => s.setThread s.selected { s.thread s.selected with halted := false }

/-- STEP (R317): issue one instruction of a halted thread, then halt it again. -/
def execStep (s : State) : Res :=
  debugWrite s fun s =>
    let t := s.selected
    if (s.thread t).halted then
      let s := (s.setThread t { s.thread t with halted := false }).fetchIssue t
      s.setThread t { s.thread t with halted := true }
    else s

/-- RESEAT (R301, R317, R319): the debugger restarts the selected thread at its entry point. -/
def execReseat (s : State) : Res :=
  debugWrite s fun s => if (s.thread s.selected).role = .idle then s else s.reseat s.selected

end Sys2Proof.Machine
end

