-- ==== Sys2Proof/Machine/Commit.lean ====
section
/-!
DEFINITION. Configuration generations: commits, adoption by the islands, rollback, retirement, CFG_QUERY, and the commands that commit
themselves (R20 to R36, R84, R87, R98, R102, R117, R179, R185, R187, R279, R283, R601).
-/

namespace Sys2Proof.Machine

/-! ## The generation a commit builds (R21) -/

/-- A setting that goes with a room when ROOM_VACATE is applied (R117). -/
def settingOfRoom (room k : Nat) : Bool :=
  let sel := keySel k
  match keyOp k with
  | 0x0101 | 0x010B | 0x010C => decide (sel = room)
  | 0x0200 => !refOwner sel && decide (refRoom sel = room)
  | 0x0205 => decide (sel = 0xF0000000 + room) || (decide (sel < 0xF0000000) && !refOwner sel && decide (refRoom sel = room))
  | _ => false

/-- Bring one change into settings; a removal takes its object's settings out. A replaced member and a new binding change the block that
made the volume or the namespace. -/
def mergeChange (t : Settings) (k : Nat) (b : List Byte) : Settings :=
  let sel := keySel k
  match keyOp k with
  | 0x0102 | 0x0103 | 0x0501 => t
  | 0x0105 => t.filter fun e => !settingOfRoom sel e.1
  | 0x0201 => (t.set (keyOf 0x0200 sel) []).set (keyOf 0x0205 sel) []
  | 0x0900 =>
    if sel < 256 then t.set k b
    else match t.block 0x0900 (sel % 256) with
      | [] => t
      | old => t.set (keyOf 0x0900 (sel % 256)) (splice old (0x10 + sel / 256 - 1) (slice b 0x12 0x13))
  | 0x0901 => (t.set (keyOf 0x0900 sel) []).set (keyOf 0x0906 sel) []
  | 0x0902 =>
    if sel < 4096 then t.set k b
    else match t.block 0x0902 (sel - 4096) with
      | [] => t
      | old => t.set (keyOf 0x0902 (sel - 4096)) (splice old 6 (if fld b 2 1 = 1 then slice b 6 10 else leBytes noRoom 2 ++ pad 2))
  | 0x0903 => t.set (keyOf 0x0902 sel) []
  | _ => t.set k b

/-- The settings that changes make of settings. -/
def mergeAll (t : Settings) (cs : List (Nat × List Byte)) : Settings := cs.foldl (fun t c => mergeChange t c.1 c.2) t

/-! ## Acceptance (R29, R31, R32, R36, R104, R185) -/

/-- Islands that the porch has power-gated: in Doze the clusters, the pipelines, the tiles and the ports; from Nap on all but the host link
and the islands on VSB (R545, R553). -/
def State.gated (s : State) : BitVec 18 :=
  if s.power.ladder < 2 then 0
  else BitVec.ofNat 18 (if s.power.ladder = 2 then 0x0FFE0 else if s.power.ladder = 3 then 0x3FFF0 else 0x3FFF8)

/-- The number after a generation number (R20). -/
def nextGen (n : Nat) : Nat := if n ≥ 0xFFFF then 1 else n + 1

/-- R31 and R32: the refusal of every commit but a rollback. -/
def State.commitBarred (s : State) : Option Status :=
  if s.gen.stalled then some .commitStalled
  else if s.gen.inProgress || s.gen.prevLive then some .busyGeneration
  else none

/-- ROOM_FURNISH is checked again at its commit, under the profile then in force (R104); a room that is no longer vacant refuses it. -/
def State.furnishBarred (s : State) (cs : List (Nat × List Byte)) (profile : Nat) : Option Status :=
  let new := cs.filter fun c => decide (keyOp c.1 = 0x0101)
  let held := s.rooms.filterMap fun e => if e.2.state ≠ .vacant then some e.2.limits else none
  new.findSome? fun c =>
    if (s.room (keySel c.1)).state ≠ .vacant then some .notPermitted
    else furnishRefused (Limits.of c.2) (held ++ (new.filter fun d => decide (d.1 ≠ c.1)).map fun d => Limits.of d.2) profile s.sramUnitsMax

/-- An action record with a DISPOSITION above 6 (R235). -/
def badAction (c : Nat × List Byte) : Bool := decide (keyOp c.1 = 0xFFFF) && decide (0x1000000 ≤ keySel c.1) && decide (6 < fld c.2 0 1)

/-- What makes a device-owned address one of a network: its port, its VLAN and the address. -/
def addrPlace (r : List Byte) : Nat × List Byte × List Byte := (addrPort r, slice r 4 6, addrBytes r)

/-- Addresses to announce after a commit (R261): every one on a port on which the new generation has an address that the old one had not. -/
def addedAddrs (old new : Settings) : List Nat :=
  let before := ((List.range 4).flatMap fun port => addrsOf old port).map fun i => addrPlace (addrRec old i)
  (List.range 4).flatMap fun port =>
    let is := addrsOf new port
    if is.any fun i => !before.contains (addrPlace (addrRec new i)) then is else []

/-- The extra cores that an ANNEX_CORES block releases (R303). -/
def annexList (b : List Byte) : List Nat := (List.range (fld b 0 1)).map fun i => fld b (8 + 2 * i) 2

/-! ## What each island does at adoption (R26) -/

/-- The ring engine applies one change to rooms and rings (R98, R102, R117, R129). -/
def State.adoptRoom (s : State) (c : Nat × List Byte) : State :=
  let sel := keySel c.1
  match keyOp c.1 with
  | 0x0101 => s.applyFurnish sel c.2
  | 0x010B => if (s.room sel).state = .vacant then s else s.applyMsgSet sel c.2
  | 0x010C => if (s.room sel).state = .vacant then s else s.applyPolicy sel c.2
  | 0x0200 => if !refOwner sel ∧ (s.room (refRoom sel)).state = .vacant then s else s.applyRingCreate sel c.2
  | 0x0201 =>
    let s := if refKind sel = 1 ∧ (s.ring sel).live then s.discardLeaf 4 (s.ring sel).globalNo else s
    s.applyRingDestroy sel
  | 0x0102 => if (s.room sel).state = .furnished then s.moveRoom sel .opened else s
  | 0x0103 => if (s.room sel).state = .opened then (s.moveRoom sel .furnished).dropRoomPackets sel else s
  | _ => s

/-- Release a vacated room: its rings, messages, sessions and allocations; its key domains and namespaces are detached (R94, R117, R489). -/
def State.releaseRoom (s : State) (room : Nat) : State :=
  let s := ((s.squashStored room).dropRoomPackets room).dropRoomSessions room
  let rings := s.roomRings room
  let s := rings.foldl (fun s ref => s.setRing ref Ring.absent) s
  let s := (List.range 16).foldl (fun s i => s.setMsg (room * 16 + i) MsgEntry.reset) s
  let s := (s.dropRoomDma room).detachSpaces room
  let owns := s.sr.vault.any fun e => decide (e.2.state = 1) && decide (e.2.room = room)
  let s : State := { s with sr := { s.sr with
    vault := s.sr.vault.map fun (e : Nat × VaultRec) => if e.2.state = 1 ∧ e.2.room = room then (e.1, { e.2 with state := 2 }) else e } }
  let s := if owns && s.vaultServes && s.journalUp then s.persistVault else s
  (s.setRoom room Room.vacant).moveRoom room .vacant

/-- Work of a room that still runs: entries in flight or commands begun on its ring. -/
def State.roomBusy (s : State) (room : Nat) : Bool :=
  ((s.roomRings room).any fun ref => decide ((s.ring ref).work ≠ [])) || s.cmd.running.any fun r => decide (r.ctx.pkt.path = .roomRing room)

/-- ROOM_VACATE at the ring engine (R117): the rings are disabled first, and the room is released once their work has ended; none while it
has not. -/
def State.adoptVacate (s : State) (room : Nat) : Option State × State :=
  if (s.room room).state ≠ .furnished then (some s, s)
  else
    let s := (s.roomRings room).foldl State.disableRing s
    if s.roomBusy room then (none, s) else (some (s.releaseRoom room), s)

/-- The ring engine's adoption: the answer is none while a vacated room still has work. -/
def State.adoptRings (s : State) : Option State × State :=
  match s.gen.changes.find? fun c => decide (keyOp c.1 = 0x0105) with
  | some c => s.adoptVacate (keySel c.1)
  | none => (some (s.gen.changes.foldl State.adoptRoom s), s)

/-- The rings of settings that belong to a room. -/
def Settings.ringsOf (t : Settings) (room : Nat) : List (Nat × List Byte) :=
  t.filter fun e => decide (keyOp e.1 = 0x0200) && !refOwner (keySel e.1) && decide (refRoom (keySel e.1) = room)

/-- A room that the abandoned generation vacated is furnished again from the settings in force: its rings are new ones. -/
def State.refurnish (s : State) (room : Nat) : State :=
  match s.cfg 0x0101 room with
  | [] => s
  | b =>
    let s := s.applyFurnish room b
    let s := match s.cfg 0x010B room with | [] => s | m => s.applyMsgSet room m
    let s := match s.cfg 0x010C room with | [] => s | p => s.applyPolicy room p
    (s.gen.cur.ringsOf room).foldl (fun s e => s.applyRingCreate (keySel e.1) e.2) s

/-- A ring that the abandoned generation made, or replaced, as the settings in force have it. -/
def State.restoreRing1 (s : State) (ref : Nat) : State :=
  let s := if refKind ref = 1 ∧ (s.ring ref).live then s.discardLeaf 4 (s.ring ref).globalNo else s
  let s := s.applyRingDestroy ref
  match s.cfg 0x0200 ref with
  | [] => s
  | b => if !refOwner ref ∧ (s.room (refRoom ref)).state = .vacant then s else s.applyRingCreate ref b

/-- The ring engine makes its previous copy current (R33 step 2): one change of the abandoned generation is taken back. Rings and rooms that
come back are as their commands made them, and a room that opened or closed goes back where no other transition came between
(DESIGN CHOICE, log entry 49). -/
def State.restoreRoom1 (s : State) (c : Nat × List Byte) : State :=
  let sel := keySel c.1
  match keyOp c.1 with
  | 0x0101 => if (s.room sel).state = .furnished then s.releaseRoom sel else s
  | 0x0102 => if (s.room sel).state = .opened then (s.moveRoom sel .furnished).dropRoomPackets sel else s
  | 0x0103 => if (s.room sel).state = .furnished then s.moveRoom sel .opened else s
  | 0x0105 => if (s.room sel).state = .vacant then s.refurnish sel else s
  | 0x0200 => if (s.ring sel).live then s.restoreRing1 sel else s
  | 0x0201 => if (s.ring sel).live then s else s.restoreRing1 sel
  | 0x010B =>
    if (s.room sel).state = .vacant then s
    else match s.cfg 0x010B sel with
      | [] => (List.range 16).foldl (fun s i => s.setMsg (sel * 16 + i) MsgEntry.reset) s
      | b => s.applyMsgSet sel b
  | 0x010C =>
    if (s.room sel).state = .vacant then s
    else s.applyPolicy sel (match s.cfg 0x010C sel with | [] => leBytes 1000 4 ++ pad 8 | b => b)
  | _ => s

/-- The ring engine's adoption of a rollback, the latest change first: none while a room that goes vacant still has work. -/
def State.returnRings (s : State) : Option State × State :=
  let gone := s.gen.changes.filter fun c => decide (keyOp c.1 = 0x0101) && decide ((s.room (keySel c.1)).state = .furnished)
  let s := gone.foldl (fun s c => (s.roomRings (keySel c.1)).foldl State.disableRing s) s
  if gone.any fun c => s.roomBusy (keySel c.1) then (none, s) else (some (s.gen.changes.foldr (fun c s => s.restoreRoom1 c) s), s)

/-- A port adopts its settings (R164, R166, R176). -/
def State.adoptPort (s : State) (n : Nat) : State :=
  let b := s.cfg 0x0300 n
  let s := s.setPort n { s.port n with ptp := s.cfg 0x0303 n }
  let s := if b ≠ (s.port n).conf then s.applyPortConfig n b else s
  let up := decide (fld (s.cfg 0x0301 n) 1 1 = 1)
  if up ≠ (s.port n).admin then s.applyPortAdmin n up else s

/-- The timekeeper adopts (R26, R186, R188): P, PHASE and pulse modes wait for the next boundary. A one-shot pulse that fires at once makes
the reply OK_LATE (R189). -/
def State.adoptTime (s : State) (rollback : Bool) : State :=
  let t := periodOf s.gen.cur
  let s : State := { s with time := { s.time with nextPeriod := if t = (s.time.periodUs, s.time.phase) then none else some t } }
  let sync := changeOf s.gen.changes (keyOf 0x0603 0)
  let s := match sync with
    | some b => if rollback then s.applySync (match s.cfg 0x0603 0 with | [] => pad 8 | b => b) else s.applySync b
    | none => s
  (List.range 4).foldl (fun s n =>
    match changeOf s.gen.changes (keyOf 0x0604 n) with
    | none => s
    | some b =>
      if rollback then s.setPps n { s.ppsOut n with next := some (match s.cfg 0x0604 n with | [] => leBytes n 1 ++ pad 39 | b => b) }
      else
        let due := decide (fld b 1 1 = 1) && decide ((Time.ofBytes b 8).units ≤ s.now.units)
        let s := s.applyPps b
        let s := if due && s.gen.commit.any fun c => c.ctx.sched.counted then s.bump R.SCHED_LATE else s
        { s with gen := { s.gen with commit := s.gen.commit.map fun (c : Commit) => { c with late := c.late || due } } }) s

/-- Nodes whose debt TM_SHAPER_RATE forgives. -/
def forgiven (cs : List (Nat × List Byte)) : List Nat :=
  cs.filterMap fun c => if keyOp c.1 = 0x0501 ∧ fld c.2 0 1 = 1 then some (keySel c.1) else none

/-- The storage path adopts one change (R484 to R489, R492, R507). -/
def State.adoptStore (s : State) (c : Nat × List Byte) : State :=
  match keyOp c.1 with
  | 0x0900 => s.applyVolCreate c.2
  | 0x0901 => s.applyVolDestroy c.2
  | 0x0902 => s.applyNsCreate c.2
  | 0x0903 => s.applyNsDelete c.2
  | 0x0904 => s.applyJournalSet c.2
  | 0x0909 => if keySel c.1 / 2 ^ 24 = 3 then s.applyExport (keySel c.1) else s
  | _ => s

/-- Keep the storage path's configuration as the previous copy (R20). -/
def State.keepStore (s : State) : State :=
  let x := s.store
  { s with store := { x with before := some ⟨x.volumes, x.spaces, x.journal, x.jLost, x.jnsid, x.ringGib, x.timeoutMs⟩ } }

/-- A volume as the previous copy has it: one that it lacks goes, one that has gone comes back, and a replaced member is a member again,
whose data is rebuilt. -/
def State.restoreVolume (s : State) (old : StoreCopy) (vol : Nat) : State :=
  match (old.volumes.find? fun e => decide (e.1 = vol)).map fun e => e.2, s.volume vol with
  | none, _ => { s with store := { s.store with volumes := Tbl.erase vol s.store.volumes } }
  | some v, none => s.setVolume vol v
  | some v, some w => s.setVolume vol { w with members := v.members, lost := v.lost }

/-- A namespace as the previous copy has it. -/
def State.restoreSpace (s : State) (old : StoreCopy) (ns : Nat) : State :=
  match (old.spaces.find? fun e => decide (e.1 = ns)).map fun e => e.2, s.space ns with
  | none, none => s
  | none, some x => (s.setSpace ns { x with gone := true, room := noRoom }).settleDoomed
  | some x, none => s.setSpace ns x
  | some x, some y => s.setSpace ns { y with room := x.room, index := x.index, gone := x.gone }

/-- The journal pair as the previous copy has it; drives that missed blocks are brought up to date. -/
def State.restorePair (s : State) (old : StoreCopy) : State :=
  let x := s.store
  { s with store := { x with
    journal := old.journal, jLost := old.jLost, jnsid := old.jnsid, ringGib := old.ringGib, timeoutMs := old.timeoutMs
    resync := x.resync || (decide (old.journal ≠ x.journal) && decide (old.journal ≠ [])) } }

/-- The storage path makes its previous copy current (R33 step 2): one change of the abandoned generation is taken back. Extents, and what
drives were told to sanitize, are data and stay (DESIGN CHOICE, log entry 49). -/
def State.restoreStore (s : State) (c : Nat × List Byte) : State :=
  match keyOp c.1, s.store.before with
  | 0x0900, some old => s.restoreVolume old (keySel c.1 % 256)
  | 0x0901, some old => s.restoreVolume old (keySel c.1)
  | 0x0902, some old => s.restoreSpace old (keySel c.1 % 4096)
  | 0x0903, some old => s.restoreSpace old (keySel c.1)
  | 0x0904, some old => s.restorePair old
  | 0x0909, _ => if keySel c.1 / 2 ^ 24 = 3 then s.applyExport (keySel c.1) else s
  | _, _ => s

/-- The storage path's adoption of a rollback, the latest change first. -/
def State.returnStore (s : State) : State :=
  let s := s.gen.changes.foldr (fun c s => s.restoreStore c) s
  { s with store := { s.store with before := none } }

/-- The storage configuration is written once a generation that changes it is adopted, before the commit replies (R484). -/
def State.keepConfig (s : State) : State :=
  if s.gen.changes.any fun c => decide (0x0900 ≤ keyOp c.1) && decide (keyOp c.1 ≤ 0x0904) then s.writeConfig else s

/-- What an island other than a cluster does at adoption; none while its boundary has not come. -/
def State.adoptIsland (s : State) (island : Nat) (rollback : Bool) : Option State × State :=
  match island with
  | 2 => (some (s.adoptTime rollback), s)
  | 4 => if rollback then s.returnRings else s.adoptRings
  | 5 | 6 | 7 | 8 => (some (s.adoptPort (island - 5)), s)
  | 10 => (some (s.tmAdopt s.gen.cur (if rollback then [] else forgiven s.gen.changes)), s)
  | 17 => (some (if rollback then s.returnStore.keepConfig else (s.gen.changes.foldl State.adoptStore s.keepStore).keepConfig), s)
  | _ => (some s, s)

/-- A rollback is under way, or was the last to complete. -/
def Gen.returning (g : Gen) : Bool := match g.commit with | some c => c.rollback | none => g.rolledBack

/-- An island reaches its boundary and adopts the generation in force. -/
def State.adopt (s : State) (island : Nat) : State :=
  if s.gen.applied.getLsbD island then s
  else match s.adoptIsland island s.gen.returning with
    | (some t, _) => (t.markAdopted island).endCommit
    | (none, t) => t

/-- An island other than a cluster has no work in progress (R26): no descent, no mailbox request, no host request or held write, no work item,
no frame on the wire, no packet in the pipeline, no queued frame, no tile request, no storage operation. -/
def State.islandIdle (s : State) (island : Nat) : Bool :=
  let packets := decide (s.pipe.input = [] ∧ s.pipe.pieces = [] ∧ s.pipe.enq = [])
  match island with
  | 0 => s.power.entering.isNone
  | 1 => !s.sr.mboxBusy
  | 3 => decide (s.busyTags = []) && decide (s.link.heldWrites = [])
  | 4 => s.rings.all fun e => decide (e.2.work = [])
  | 5 | 6 | 7 | 8 => decide (Tbl.get (fun _ => 0) s.tm.wireEnd (island - 5) ≤ s.time.timer)
  | 9 => packets
  | 10 => packets && s.tm.leaves.all fun e => decide (e.2.queue = [])
  | 15 => s.tiles.all fun e => decide (e.2.held = [])
  | 16 => packets && decide (s.busyTags = []) && decide (s.store.ops = [])
  | 17 => decide (s.store.ops = [])
  | _ => true

/-- An island other than a cluster is at its boundary of R26. Each command of the model ends its TLP, its transaction, its descriptor fetch and
its pass through a slice, so those islands always are; the porch decides no ladder step within a descent, the strongroom ends its mailbox
request, a port its frame, and the tiles their requests first. -/
def State.atBoundary (s : State) (island : Nat) : Bool :=
  match island with
  | 0 | 1 | 5 | 6 | 7 | 8 | 15 => s.islandIdle island
  | _ => true

/-- Every island that has no work in progress adopts at once (R26); clusters answer by GEN_ACK, and gated islands at their wake. -/
def State.adoptIdle (s : State) : State :=
  (List.range 18).foldl (fun s n =>
    if (11 ≤ n ∧ n ≤ 14) ∨ s.gated.getLsbD n ∨ !s.islandIdle n then s else s.adopt n) s

/-- ISLAND_ADOPT (R26, R29 step 4): an island that had work in progress reaches its boundary. A cluster adopts by GEN_ACK, and a gated
island at its wake. -/
def execIslandAdopt (island : Fin 18) (s : State) : Res :=
  if (11 ≤ island.val ∧ island.val ≤ 14) ∨ s.gated.getLsbD island.val ∨ !s.atBoundary island.val then .next s else .next (s.adopt island.val)

/-- TM_SCHEDULE_DECISION (R264, R274): the traffic manager adopts at its next scheduling decision (R26). -/
def execTmScheduleDecision (dest : Fin 6) (s : State) : Res :=
  .next ((if s.gated.getLsbD 10 then s else s.adopt 10).decide1 dest.val).flow

/-- GEN_ACK (R26, R27): firmware acknowledges GEN_ADOPT once every firmware thread of the cluster has reached a message boundary; while one
holds a message there is no acknowledgement. -/
def execGenAck (cluster : Fin 4) (s : State) : Res :=
  if s.gated.getLsbD (11 + cluster.val) ∨ !s.clusterQuiet cluster.val then .next s else .next (s.adoptCluster cluster.val)

/-! ## Acceptance, continued -/

/-- Tree settings that end with a generation's changes (R266): those of a subscriber whose room is vacated, and of the leaf of a receive ring that
is destroyed or goes with its room. -/
def State.endedNode (s : State) (cs : List (Nat × List Byte)) (k : Nat) : Bool :=
  let sel := keySel k
  let vacated (room : Nat) := (changeOf cs (keyOf 0x0105 room)).isSome
  decide (keyOp k = 0x0500) && decide (sel / 2 ^ 24 = 4) && match sel / 2 ^ 16 % 256 with
    | 0 => (match s.ringOfGlobal (sel % 2 ^ 16) with
      | some ref => (changeOf cs (keyOf 0x0201 ref)).isSome || (!refOwner ref && vacated (refRoom ref))
      | none => false)
    | 1 => vacated (sel % 2 ^ 16)
    | _ => false

/-- The changes that a commit merges: all but the choice of profile, which the first commit locks apart (R37). -/
def mergedChanges (cs : List (Nat × List Byte)) : List (Nat × List Byte) := cs.filter fun c => decide (keyOp c.1 ≠ 0x0006)

/-- The profile in force after the commit that is accepted now (R37): the choice in the staging store, else 1, until one is locked. -/
def State.nextProfile (s : State) : Nat :=
  if s.gen.locked then s.gen.profile else (match s.stagedAt 0x0006 0 with | some b => fld b 0 1 | none => 1)

/-- The settings that a commit of these changes builds (R20, R37, R266): those in force with the changes, without the nodes of what ends, and
with the profile that the first commit locks. -/
def State.nextSettings (s : State) (cs : List (Nat × List Byte)) : Settings :=
  let new : Settings := (mergeAll s.gen.cur cs).filter fun e => !s.endedNode cs e.1
  if s.gen.locked then new else new.set (keyOf 0x0006 0) (leBytes s.nextProfile 1 ++ pad 7)

/-- The commit's reply carries OK_WARN (R36, R288): a gate list leaves frames waiting, or the first commit found no choice of profile. OK_WARN
for a profile that nobody chose sets GEN_STATE.WARN as a unit's warning does: R36 gives the status and leaves the bit open (DESIGN CHOICE,
log entry 78). -/
def State.nextWarn (s : State) (new : Settings) : Bool :=
  decide (s.gateWarn new ≠ 0) || (!s.gen.locked && (s.stagedAt 0x0006 0).isNone)

/-- The state in which a commit of these changes is accepted (R20, R29): the next generation is in force, no island has adopted it, and the
changes it takes from the staging store are gone. -/
def State.accepted (s : State) (x : Ctx) (cs : List (Nat × List Byte)) : State :=
  let new := s.nextSettings cs
  let g := s.gen
  let staged := g.staged.filter fun c =>
    !(cs.contains c && decide (x.opcode = 0x0004)) && !(!g.locked && decide (c.1 = keyOf 0x0006 0))
  let u : State := { s with
    gen := { g with
      current := nextGen g.last, last := nextGen g.last, previous := g.current, cur := new, prev := g.cur, staged := staged, changes := cs
      warn := false, rolledBack := false, prevLive := true, inProgress := true, applied := 0, deferred := s.gated
      profile := s.nextProfile, locked := true, repliedAt := none, commit := some ⟨x, s.clock, s.nextWarn new, false, false⟩ }
    cores := match changeOf cs (keyOf 0x0D04 0) with
      | some b => { s.cores with annexNext := annexList b }
      | none => s.cores }
  let u := u.setReg R.TM_GATE_WARN (BitVec.ofNat 64 (s.gateWarn new))
  let u := if g.locked then u else u.measureConfig
  u.announceAll (addedAddrs g.cur new)

/-- Accept a commit of these changes, or say why not (R29, steps 1 to 3, R31, R32, R36, R104, R185, R235). The housekeepers are told, and islands
that hold no work adopt at once (R26). The distribution of step 2 is part of the acceptance (DESIGN CHOICE, log entry 48). -/
def State.startCommit (s : State) (x : Ctx) (cs : List (Nat × List Byte)) : Out :=
  match s.commitBarred with
  | some st => Out.of (s.bump R.DEVICE_GEN_BUSY_REFUSED) st
  | none =>
    let cs := mergedChanges cs
    let new := s.nextSettings cs
    if !cyclesDivide new then Out.of s .invalidParam
    else if cs.any badAction then Out.of s .invalidParam
    else match s.furnishBarred cs s.nextProfile with
      | some st => Out.of s st
      | none =>
        if x.pkt.dry then Out.of s (if s.nextWarn new then .okWarn else .ok)
        else .held (s.accepted x cs).postAdopt.adoptIdle

/-! ## Stall and retirement (R29 to R32) -/

/-- COMMIT_STALL_TIMEOUT (R29 step 6, R32). A warning that a unit flagged shows although the reply is COMMIT_STALLED (R35). -/
def execCommitStallTimeout (s : State) : Res :=
  match s.gen.commit with
  | some c =>
    if !c.rollback ∧ c.start + 1000000 ≤ s.clock ∧ !s.gen.allIn then
      let s : State := { s with gen := { s.gen with stalled := true, inProgress := false, commit := none, warn := c.warn } }
      .next (s.finish c.ctx .commitStalled [])
    else .next s
  | none => .next s

/-- Some packet still carries the stamp of the older generation. -/
def State.oldPackets (s : State) : Bool :=
  (s.pipe.input ++ s.pipe.pieces.map Piece.pkt ++ s.pipe.enq.map Enq.pkt ++ s.pipe.handed.map Handed.pkt ++ s.pipe.stair.map Stair.pkt ++
    (s.tm.leaves.flatMap fun e => if e.1 / 65536 = 5 then e.2.queue.map Frame.pkt else [])).any fun p => decide (p.stamp = some s.gen.previous)

/-- GENERATION_RETIRE (R29 step 7, R30): from the reply, or the late adoption, on: when no packet of the older generation remains, or 50 µs
later. Packets that still carry its stamp are dropped at the next unit they reach. -/
def execGenerationRetire (s : State) : Res :=
  match s.gen.prevLive, s.gen.repliedAt with
  | true, some t =>
    if !s.gen.inProgress ∧ !s.gen.stalled ∧ (!s.oldPackets ∨ t + 50000 ≤ s.clock) then
      .next { s with
        gen := { s.gen with prevLive := false, prev := [], repliedAt := none }, store := { s.store with before := none } }
    else .next s
  | _, _ => .next s

/-! ## Commands on generations (R33, R36, R85, R87) -/

/-- CFG_COMMIT (0x0004). -/
def cmdCfgCommit : Command where
  opcode := 0x0004
  front := true
  room := false
  mctp := false
  recovery := false
  sched := true
  shape := fixedShape 0
  zero := fun _ => true
  body := fun x s => s.startCommit x s.gen.staged

/-- CFG_ROLLBACK (0x0005, R33): the previous generation is in force again under its number. An island that never adopted the abandoned one
counts at once. A second rollback is refused until a new commit completes, and a commit that stalled has completed only with its late adoption
(DESIGN CHOICE, log entry 78). -/
def cmdCfgRollback : Command where
  opcode := 0x0005
  front := true
  room := false
  mctp := false
  recovery := false
  sched := false
  shape := fixedShape 0
  zero := fun _ => true
  body := fun x s =>
    let g := s.gen
    if g.inProgress then Out.of s .busy
    else if !g.prevLive ∨ g.rolledOnce then Out.of s .notPermitted
    else if x.pkt.dry then Out.of s .ok
    else
      let s : State := { s with
        gen := { g with
          current := g.previous, previous := g.current, cur := g.prev, prev := g.cur, inProgress := true, repliedAt := none
          applied := ~~~g.applied, deferred := g.applied &&& s.gated, commit := some ⟨x, s.clock, false, true, false⟩ }
        cores := { s.cores with annexNext := annexList (g.prev.block 0x0D04 0) } }
      .held s.endCommit.postAdopt.adoptIdle

/-- DEVICE_PROFILE (0x0006, R36). -/
def cmdDeviceProfile : Command where
  opcode := 0x0006
  front := true
  room := false
  mctp := false
  recovery := false
  sched := false
  shape := fixedShape 8
  zero := zeroAt [(1, 7)]
  body := fun x s =>
    if s.gen.locked then Out.of s .notPermitted
    else if fld x.pkt.params 0 1 ≠ 1 ∧ fld x.pkt.params 0 1 ≠ 2 then Out.of s .invalidParam
    else Out.of (s.stage 0x0006 0 x.pkt.params) .ok

/-- CFG_DISCARD (0x0007, R85). -/
def cmdCfgDiscard : Command where
  opcode := 0x0007
  front := true
  room := false
  mctp := false
  recovery := false
  sched := false
  shape := fixedShape 0
  zero := fun _ => true
  body := fun _ s => Out.of { s with gen := { s.gen with staged := [] } } .ok

/-- Defaults that the manual gives an object that no command has set (R87). -/
def State.defaultBlock (s : State) (t : Settings) (op sel : Nat) : Option (List Byte) :=
  let room := decide (t.block 0x0101 sel ≠ []) || decide ((s.room sel).state ≠ .vacant)
  match op with
  | 0x0101 => if sel < 1024 ∧ (s.room sel).state ≠ .vacant then
      let l := (s.room sel).limits
      some (leBytes l.pasid 4 ++ leBytes l.queuePairs 2 ++ leBytes l.storeRings 2 ++ leBytes l.keyDomains 4 ++ leBytes l.policers 2 ++
        leBytes l.namespaces 2 ++ leBytes l.nvmtConns 2 ++ leBytes l.sramUnits 2 ++ leBytes l.reads 4 ++ pad 8)
    else none
  | 0x010B => if sel < 1024 ∧ room then some ((List.replicate 16 (pad 12 ++ [1, 0, 0, 0])).flatten) else none
  | 0x010C => if sel < 1024 ∧ room then some (leBytes 1000 4 ++ pad 8) else none
  | 0x0205 =>
    let whole := decide (sel = 0xFFFFFFFF) || (decide (0xF0000000 ≤ sel) && decide (sel < 0xF0000400))
    if whole then some (countOne 2 8 ++ leBytes sel 4 ++ [1, 0, 0, 0])
    else if t.block 0x0200 sel ≠ [] then some (countOne 2 8 ++ leBytes sel 4 ++ [1, 8, 0, 0])
    else none
  | 0x0301 => if sel < 4 then some (leBytes sel 1 ++ [0]) else none
  | 0x0303 => if sel < 4 then some (leBytes sel 1 ++ pad 31) else none
  | 0x0401 => if sel = 0 then some (pad 8) else none
  | 0x0402 => if sel = 256 then some (leBytes 1 1 ++ pad 3 ++ (List.replicate 48 [0xFF, 0xFF, 0xFF, 0]).flatten) else none
  | 0x0404 => if sel = 0 then some (excOf t) else none
  | 0x0500 =>
    let d := sel / 2 ^ 24
    let l := sel / 2 ^ 16 % 256
    if d ≤ 5 ∧ l ≤ 2 ∧ sel % 2 ^ 16 < levelSize l then some (countOne 4 8 ++ s.nodeIn t d l (sel % 2 ^ 16)) else none
  | 0x0503 => if sel < 4 then some (leBytes sel 1 ++ [0, 1, 0, 20] ++ pad 3 ++ [0xFF, 0, 0, 0] ++ leBytes 10000000 4) else none
  | 0x0504 => if sel = 0 then some ([0, 0, 1, 0] ++ pad 12) else none
  | 0x0602 => if sel = 0 then some (leBytes 10000 4 ++ pad 12) else none
  | 0x0603 => if sel = 0 then some (pad 8) else none
  | 0x0604 => if sel < 4 then some (leBytes sel 1 ++ pad 3 ++ leBytes 100 4 ++ pad 32) else none
  | 0x0906 => if sel < 256 ∧ t.block 0x0900 sel ≠ [] then some (countOne 2 8 ++ leBytes sel 2 ++ [0x40, 0] ++ leBytes 20 2 ++ pad 2 ++ leBytes 8766 4 ++ pad 4)
    else none
  | 0x0A01 => if sel = 0 then some (leBytes 1024 2 ++ pad 6) else none
  | 0x0B01 => if sel = 0 then some (leBytes 100 4 ++ leBytes 10000 4 ++ leBytes 20 2 ++ [0, 4] ++ leBytes 240 2 ++ [95, 0] ++ pad 16) else none
  | 0x0C04 => if sel < 256 ∧ sel % 64 ≠ 0 then
      let g := Group.default sel
      some (countOne 2 8 ++ leBytes sel 2 ++ leBytes (b01 g.recover) 1 ++ pad 1 ++ leBytes g.t1us 4 ++ leBytes g.t2us 4 ++ pad 4)
    else none
  | 0x0D04 => if sel = 0 then some (pad 8) else none
  | _ => none

/-- TM_SHAPER_RATE's block for a shaped node of settings. -/
def State.shaperBlock (s : State) (t : Settings) (sel : Nat) : Option (List Byte) :=
  match s.defaultBlock t 0x0500 sel with
  | none => none
  | some _ =>
    let r := s.nodeIn t (sel / 2 ^ 24) (sel / 2 ^ 16 % 256) (sel % 2 ^ 16)
    if nodeShaped r then some (countOne 2 8 ++ r.take 4 ++ slice r 0x10 0x18 ++ pad 4) else none

/-- The parameter block as its command carries it: without what the device keeps with it. -/
def blockShown (op : Nat) (b : List Byte) : List Byte := if op = 0x0200 then b.take 48 else b

/-- An object's settings in a generation. -/
def State.settingOf (s : State) (t : Settings) (op sel : Nat) : Option (List Byte) :=
  if op = 0x0501 then s.shaperBlock t sel
  else match t.block op sel with
    | [] => s.defaultBlock t op sel
    | b => some (blockShown op b)

/-- The staged block for an object; a staged change of a node is one of its shaper too. -/
def State.stagedOf (s : State) (op sel : Nat) : Option (List Byte) :=
  if op = 0x0501 then
    if s.gen.staged.any fun c => decide (c.1 = keyOf 0x0500 sel) then s.shaperBlock (mergeAll s.gen.cur s.gen.staged) sel else none
  else
    let mine := s.gen.staged.filter fun c => decide (keyOp c.1 = op) &&
      decide ((if op = 0x0900 then keySel c.1 % 256 else if op = 0x0902 then keySel c.1 % 4096 else keySel c.1) = sel)
    mine.getLast?.map fun c => blockShown op c.2

/-- Opcodes in the table of selectors (R87). -/
def queryOps : List Nat :=
  [0x0006, 0x0401, 0x0404, 0x0504, 0x0602, 0x0603, 0x0904, 0x0A01, 0x0B01, 0x0D04, 0x0101, 0x010B, 0x010C, 0x0200, 0x0205, 0x0300, 0x0301, 0x0303,
    0x0503, 0x0402, 0x0403, 0x0405, 0x0406, 0x0500, 0x0501, 0x0502, 0x0604, 0x0900, 0x0906, 0x0902, 0x0909, 0x0C04]

/-- CFG_QUERY (0x0008, R87). An object that no command has set and that the manual gives no default does not exist (log entry 50). -/
def cmdCfgQuery : Command where
  opcode := 0x0008
  front := true
  room := false
  mctp := false
  recovery := false
  sched := false
  shape := fixedShape 16
  zero := zeroAt [(3, 1), (8, 8)]
  body := fun x s =>
    let bs := x.pkt.params
    let op := fld bs 0 2
    let sel := fld bs 4 4
    if !queryOps.contains op then Out.of s .invalidParam
    else
      let live (st : Status) (t : Settings) : Out := match s.settingOf t op sel with
        | some b => .done st b s
        | none => Out.of s .invalidParam
      match fld bs 2 1 with
      | 0 => match s.stagedOf op sel with
        | some b => .done .ok b s
        | none => live .okWarn s.gen.cur
      | 1 => live .ok s.gen.cur
      | 2 => if s.gen.prevLive then live .ok s.gen.prev else Out.of s .invalidParam
      | _ => Out.of s .invalidParam

/-! ## Self-committing commands -/

/-- ROOM_OPEN (0x0102, R98). At debug levels 1 and 2 the device refuses it (R385). -/
def cmdRoomOpen : Command where
  opcode := 0x0102
  front := true
  room := false
  mctp := false
  recovery := false
  sched := true
  shape := fixedShape 0
  zero := fun _ => true
  body := fun x s =>
    let r := x.pkt.room
    if (s.room r).state ≠ .furnished then Out.of s (wrongState (s.room r).state)
    else if s.sr.debugLevel ≥ 1 then Out.of s .notPermitted
    else s.startCommit x [(keyOf 0x0102 r, [1])]

/-- ROOM_CLOSE (0x0103, R98, R102). RUN does not allow the furnished state (R126). -/
def cmdRoomClose : Command where
  opcode := 0x0103
  front := true
  room := false
  mctp := false
  recovery := false
  sched := true
  shape := fixedShape 0
  zero := fun _ => true
  body := fun x s =>
    let r := x.pkt.room
    if (s.room r).state ≠ .opened then Out.of s (wrongState (s.room r).state)
    else if (s.room r).tdi = .run then Out.of s .notPermitted
    else s.startCommit x [(keyOf 0x0103 r, [1])]

/-- ROOM_VACATE (0x0105, R98, R117). A locked TDI does not allow the vacant state (R126). -/
def cmdRoomVacate : Command where
  opcode := 0x0105
  front := true
  room := false
  mctp := false
  recovery := false
  sched := false
  shape := fixedShape 0
  zero := fun _ => true
  body := fun x s =>
    let r := x.pkt.room
    if (s.room r).state ≠ .furnished then Out.of s (wrongState (s.room r).state)
    else if (s.room r).tdiLocked then Out.of s .notPermitted
    else s.startCommit x [(keyOf 0x0105 r, [1])]

/-- PORT_ADMIN (0x0301, R601). -/
def cmdPortAdmin : Command where
  opcode := 0x0301
  front := true
  room := false
  mctp := false
  recovery := false
  sched := true
  shape := fixedShape 2
  zero := fun _ => true
  body := fun x s =>
    let bs := x.pkt.params
    let n := fld bs 0 1
    if 3 < n ∨ 1 < fld bs 1 1 then Out.of s .invalidParam
    else if fld bs 1 1 = 1 ∧ s.cfg 0x0300 n = [] then Out.of s .notPermitted
    else s.startCommit x [(keyOf 0x0301 n, bs)]

/-- A TM_SHAPER_RATE record is one that a shaped, valid node takes (R279). -/
def State.shaperRecOk (s : State) (r : List Byte) : Bool :=
  let d := fld r 0 1
  let l := fld r 1 1
  let i := fld r 2 2
  decide (d ≤ 5) && decide (l ≤ 2) && decide (i < levelSize l) && decide (fld r 4 4 ≤ 800000000) &&
    (decide (fld r 8 4 = 0) || decide (1024 ≤ fld r 8 4 ∧ fld r 8 4 ≤ 16777216)) && s.nodeValidIn s.gen.cur d l i && nodeShaped (s.nodeIn s.gen.cur d l i)

/-- The changes that a TM_SHAPER_RATE record makes: the node's record, and whether its debt is forgiven. -/
def State.shaperChanges (s : State) (forgive : Bool) (cs : List (Nat × List Byte)) (r : List Byte) : List (Nat × List Byte) :=
  let sel := nodeSel (fld r 0 1) (fld r 1 1) (fld r 2 2)
  let old := (changeOf cs (keyOf 0x0500 sel)).getD (countOne 4 8 ++ s.nodeIn s.gen.cur (fld r 0 1) (fld r 1 1) (fld r 2 2))
  let b := splice old 0x18 (slice r 4 8 ++ (if fld r 8 4 = 0 then slice old 0x1C 0x20 else slice r 8 12))
  putChange (putChange cs (keyOf 0x0500 sel) b) (keyOf 0x0501 sel) (leBytes (b01 forgive) 1)

/-- TM_SHAPER_RATE (0x0501, R279). -/
def cmdTmShaperRate : Command where
  opcode := 0x0501
  front := true
  room := false
  mctp := false
  recovery := false
  sched := true
  shape := recShape 8 16 0 2 1 256
  zero := fun bs => zeroAt [(2, 6)] bs && zeroRecs 8 16 (fun b => fld b 0 2) [(12, 4)] bs
  body := fun x s =>
    let rs := recordsOf x.pkt.params 8 16 (fld x.pkt.params 0 2)
    if !rs.all s.shaperRecOk then Out.of s .invalidParam
    else s.startCommit x (rs.foldl (s.shaperChanges x.pkt.forgive) [])

/-- A staged command that may carry AT_TIME: with one it commits its own change at its release (R179, R284). -/
def State.stageOrCommit (s : State) (x : Ctx) (op sel : Nat) (b : List Byte) : Out :=
  match x.sched with
  | .now => Out.of (s.stage op sel b) .ok
  | _ => s.startCommit x [(keyOf op sel, b)]

/-- TM_GATE_LIST (0x0503, R283, R284). -/
def cmdTmGateList : Command where
  opcode := 0x0503
  front := true
  room := false
  mctp := false
  recovery := false
  sched := true
  shape := recShape 8 8 2 2 1 1024
  zero := zeroAt [(5, 3)]
  body := fun x s =>
    if gateListOk x.pkt.params then s.stageOrCommit x 0x0503 (fld x.pkt.params 0 1) x.pkt.params else Out.of s .invalidParam

/-- PERIOD_SET (0x0602, R179). -/
def cmdPeriodSet : Command where
  opcode := 0x0602
  front := true
  room := false
  mctp := false
  recovery := false
  sched := true
  shape := fixedShape 16
  zero := zeroAt [(4, 4)]
  body := fun x s => if periodOk x.pkt.params then s.stageOrCommit x 0x0602 0 x.pkt.params else Out.of s .invalidParam

/-- PPS_SET (0x0604, R187 to R189). A one-shot START that has passed ends it as R90 says for AT_TIME; a periodic command is never late (R91).
P is that in force (DESIGN CHOICE, log entry 84). -/
def cmdPpsSet : Command where
  opcode := 0x0604
  front := true
  room := false
  mctp := false
  recovery := false
  sched := true
  shape := fixedShape 40
  zero := zeroAt [(3, 1), (0x24, 4)]
  body := fun x s =>
    let bs := x.pkt.params
    let n := fld bs 0 1
    let once := decide (fld bs 1 1 = 1) && !x.pkt.periodic
    let due := once && decide ((Time.ofBytes bs 8).units ≤ s.now.units)
    if !ppsOk bs (s.time.periodUs * 1000) then Out.of s .invalidParam
    else if x.pkt.strict && due then Out.of (if x.pkt.dry then s else s.bump R.SCHED_PASSED) .timePassed
    else
      let old := s.ppsOut n
      match (s.setPps n { old with asked := s.clock, strict := x.pkt.strict && once }).startCommit x [(keyOf 0x0604 n, bs)] with
      | .held t => .held t
      | .part st d t => .part st d t
      | .done st d t => .done (if st = .ok ∧ due then .okLate else st) d (t.setPps n old)

end Sys2Proof.Machine
end

