-- ==== Sys2Proof/Machine/Telemetry.lean ====
section
/-!
DEFINITION. Telemetry sweeps of the traffic manager (R289 to R291).
-/

namespace Sys2Proof.Machine

/-- The TM_TELEMETRY block in force at the traffic manager. -/
def State.teleBlock (s : State) : List Byte := s.tm.nodes.block 0x0504 0

/-- Leaves that a block selects, ascending: destination × 65,536 + leaf (R289). -/
def State.teleLeaves (s : State) (b : List Byte) : List Nat :=
  let n := fld b 1 1
  if n = 0 then (List.range (6 * 65536)).filter fun k => s.nodeValid (k / 65536) 0 (k % 65536)
  else
    let ranges := (List.range n).map fun i => (fld b (0x10 + 8 * i) 1 * 65536 + fld b (0x12 + 8 * i) 2, fld b (0x10 + 8 * i) 1 * 65536 + fld b (0x14 + 8 * i) 2)
    let lo := ranges.foldl (fun m r => min m r.1) (6 * 65536)
    let hi := ranges.foldl (fun m r => max m r.2) 0
    ((List.range (hi + 1 - lo)).map fun i => lo + i).filter fun k => ranges.any fun r => decide (r.1 ≤ k ∧ k ≤ r.2)

/-- A period boundary counts toward the next sweep, and begins it or skips it (R289). -/
def State.sweepTick (s : State) : State :=
  let b := s.teleBlock
  if b = [] ∨ !bit (fld b 0 1) 7 then s
  else if s.tm.sweepWait + 1 < fld b 2 2 then { s with tm := { s.tm with sweepWait := s.tm.sweepWait + 1 } }
  else
    let s := { s with tm := { s.tm with sweepWait := 0 } }
    match s.tm.sweep with
    | some _ => s.bump R.TM_TELEM_SKIP
    | none =>
      let w : Sweep := ⟨s.tm.sweeps, s.time.last, s.clock, s.teleLeaves b, 0, []⟩
      { s with tm := { s.tm with sweep := some w, sweeps := (s.tm.sweeps + 1) % 2 ^ 32 } }

/-- A shaper on a leaf's path is in debt. -/
def State.inDebt (s : State) (dest leaf : Nat) : Bool :=
  let r0 := s.node dest 0 leaf
  let r1 := s.node dest 1 (nodeParent r0)
  let debt (r : List Byte) (level idx : Nat) : Bool := nodeShaped r && decide (s.creditOf r dest level idx < 0)
  debt r0 0 leaf || debt r1 1 (nodeParent r0) || debt (s.node dest 2 (nodeParent r1)) 2 (nodeParent r1)

/-- The telemetry record of a leaf (R290). -/
def State.teleRecord (s : State) (dest leaf began : Nat) : List Byte :=
  let l := s.leaf (leafKey dest leaf)
  let cls := nodeClass (s.node dest 0 leaf)
  let port := decide (dest < 4)
  let head := l.queue.head?
  let wait := match head with | some f => port && !s.gateOk dest cls f.pkt.bytes.length | none => false
  let delay := match head with | some f => min (s.clock - f.enq) 0xFFFFFFFF | none => 0
  let st := b01 (s.leafHeld dest leaf) * 128 + b01 (port && (s.port dest).isPaused s.clock cls) * 64 + b01 wait * 32 +
    b01 (s.inDebt dest leaf) * 16 + b01 (port && !(s.port dest).link) * 8 + cls % 8
  leBytes dest 1 ++ leBytes st 1 ++ leBytes leaf 2 ++ leBytes l.depth 4 ++ leBytes l.queue.length 4 ++ leBytes delay 4 ++
    leBytes l.peak 4 ++ leBytes (min l.since 0xFFFFFFFF) 4 ++ leBytes (s.clock - began) 4 ++ pad 4

/-- The telemetry ring: an owner receive ring (R291). -/
def State.teleRing (s : State) : Option Nat := (s.ringOfGlobal (fld s.teleBlock 4 2)).filter refOwner

/-- Records that fit behind the header in the next posted buffer of the telemetry ring; 7, those of the smallest buffer, when
none is posted (DESIGN CHOICE, log entry 31). -/
def State.teleRoom (s : State) : Nat :=
  match s.teleRing with
  | none => 7
  | some ref =>
    match (s.postedBuffers ref 64 (s.ring ref)).find? fun b => rxDescOk b.2.2 with
    | some b => (fld b.2.2 0x10 4 - 32) / 32
    | none => 7

/-- Write the batch that a sweep has gathered (R291). -/
def State.teleFlush (s : State) (w : Sweep) (last : Bool) : State :=
  let bytes := leBytes 1 2 ++ leBytes w.recs.length 2 ++ leBytes w.number 4 ++ w.start.bytes ++ leBytes w.batch 2 ++ leBytes (b01 last) 1 ++ pad 5 ++ w.recs.flatten
  let p : Pkt := { Pkt.fresh bytes 0 0 s.now with mark := 0x00DE0000 + w.number % 65536, ingress := s.gen.current }
  let lost := s.bump R.TM_TELEM_DROP
  match s.teleRing with
  | none => lost
  | some ref =>
    match s.takeBuffers ref bytes.length with
    | some (bs, s) => (s.fillBuffers ref p none bs bytes).1
    | none => (lost.setRing ref { s.ring ref with dropped := ((s.ring ref).dropped + 1) % 2 ^ 32 }).writeMirror ref 0

/-- TELEMETRY_VISIT (R289 to R291): the sweep visits its next leaf. -/
def execTelemetryVisit (s : State) : Res :=
  match s.tm.sweep with
  | none => .next s
  | some w =>
    match w.left with
    | [] => .next { s.teleFlush w true with tm := { (s.teleFlush w true).tm with sweep := none } }
    | k :: rest =>
      let dest := k / 65536
      let leaf := k % 65536
      let l := s.leaf k
      let least := fld s.teleBlock 8 4
      let report := decide (least ≤ l.depth) || decide (least ≤ l.peak) || decide (l.since ≠ 0)
      let r := s.teleRecord dest leaf w.began
      let s := s.setLeaf k { l with peak := l.depth, since := 0 }
      let full := report && decide (s.teleRoom ≤ w.recs.length)
      let s := if full then s.teleFlush w false else s
      let w := if full then { w with recs := [], batch := w.batch + 1 } else w
      let w := { w with left := rest, recs := if report then w.recs ++ [r] else w.recs }
      if rest = [] then .next { s.teleFlush w true with tm := { (s.teleFlush w true).tm with sweep := none } }
      else .next { s with tm := { s.tm with sweep := some w } }

end Sys2Proof.Machine
end

