-- ==== Sys2Proof/Machine/Power.lean ====
section
/-!
DEFINITION. The power ladder, supplies, thermal protection, starts, and the resets that come from outside (R16, R17, R47, R48, R175,
R384, R432, R545 to R571).
-/

namespace Sys2Proof.Machine

/-! ## What holds the ladder (R548, R564) -/

/-- No slice, firmware thread, tile or DMA engine has work (R547). -/
def State.idleNow (s : State) : Bool :=
  decide (s.pipe.input = [] ∧ s.pipe.pieces = [] ∧ s.pipe.enq = [] ∧ s.pipe.handed = [] ∧ s.pipe.stair = [] ∧ s.cmd.fetched = []) &&
    s.tiles.all (fun e => decide (e.2.held = [] ∧ e.2.responses = [])) && decide (s.busyTags = []) &&
    s.rings.all (fun e => decide (e.2.work = [])) && decide (s.store.ops = []) &&
    s.cores.threads.all (fun e => !decide (e.2.state = .ready) || e.2.halted)

/-- A storage operation, batch, sweep, rebuild or reassembly is in progress, or a packet is held (R548). -/
def State.workInHand (s : State) : Bool :=
  decide (s.store.ops ≠ []) || decide (s.store.batches ≠ []) || decide (s.pipe.reasm ≠ []) || decide (s.packets ≠ []) ||
    s.store.volumes.any fun v => v.2.cycle.isSome || decide (v.2.rebuilding ≠ [])

/-- Every port is administratively down, or cold-node mode is declared. -/
def State.portsQuiet (s : State) : Bool := bit (s.powerPolicy 0 0x0A 1 0) 0 || s.ports.all fun e => !e.2.admin

/-- L1.2 can be entered: it is enabled, or PF0 is in D3hot. -/
def State.l12Ok (s : State) : Bool := s.link.l12Enable || decide (s.link.dstate = .d3hot)

/-- Exit time of a ladder state in microseconds (R545). -/
def exitUs (n : Nat) : Nat := 10 ^ (n - 1)

/-- The deepest state of an automatic descent (R548). -/
def State.autoDepth (s : State) : Nat :=
  let budget := s.powerPolicy 0 0 4 100
  let deep := decide (s.power.ladder ≥ 1) && decide (s.power.hushSince + s.powerPolicy 0 4 4 10000 * 1000 ≤ s.clock)
  if !s.idleNow || decide (s.clock < s.power.idleSince + s.powerPolicy 0 8 2 20 * 1000) then 0
  else if !s.portsQuiet || !s.l12Ok || s.workInHand || !deep || decide (budget < exitUs 2) then 1
  else if budget < exitUs 3 ∨ s.power.dipSince.isSome then 2
  else 3

/-- The state to descend to: a pending request of Nap or above once the port condition holds, else the automatic one; HOLD is a floor. -/
def State.depthNow (s : State) : Nat :=
  let p := s.power
  if p.asked ∧ p.target ≤ 3 then
    (if s.idleNow ∧ (p.target < 2 ∨ (s.portsQuiet ∧ !s.workInHand)) ∧ (p.target < 3 ∨ p.dipSince.isNone) then p.target else 0)
  else if p.hold then min s.autoDepth p.target
  else s.autoDepth

/-- `PWR.STATE.HELD_BY`: the conditions that stop further descent. -/
def State.heldBy (s : State) : Nat :=
  b01 (!s.portsQuiet) + 2 * b01 (decide (s.powerPolicy 0 0 4 100 < exitUs (s.power.ladder + 1))) + 4 * b01 (!s.l12Ok) +
    8 * b01 (!s.idleNow || s.workInHand) + 16 * b01 s.power.dipSince.isSome + 32 * b01 (s.power.hold && decide (s.power.target ≤ s.power.ladder))

/-! ## Transitions (R545, R553) -/

/-- The ports lose their SerDes: links that are up go down, and none trains (R545, R548). -/
def State.portsOff (s : State) : State :=
  (List.range 4).foldl (fun s n =>
    let s := if (s.port n).link then s.portDown n else s
    s.setPort n { s.port n with training := none }) s

/-- The SerDes are powered again: ports that are administratively up train (R164, R166). -/
def State.portsOn (s : State) : State :=
  (List.range 4).foldl (fun s n => if (s.port n).admin then s.setPort n { s.port n with training := some s.clock } else s) s

/-- Entry to Doze. -/
def State.enterDoze (s : State) : State :=
  let s := s.portsOff
  State.setLadder { s with link := { s.link with inL1 := s.link.dlUp } } 2

/-- Nap entry steps 1 and 2: the epoch closes with PAUSE (R432, R553). -/
def State.prepareNap (s : State) (n : Nat) : State :=
  let s := s.closeEpoch s.now 16 s.time.periodUs .boundary
  { s with power := { s.power with entering := some n } }

/-- The keeper bank (R517). -/
def keeperBase : Nat := 0x45E00000
def keeperEnd : Nat := 0x46000000

/-- Shared SRAM and scratch lose their contents; the keeper bank keeps its own in Nap (R542). -/
def State.loseSram (s : State) (keeper : Bool) : State :=
  let gone (a : Nat) : Bool := decide (0x20000000 ≤ a) && decide (a < 0x48000000) && !(keeper && decide (keeperBase ≤ a) && decide (a < keeperEnd))
  { s with mem := s.mem.filter fun e => !gone e.1, memory := { s.memory with bad := s.memory.bad.filter fun a => !gone a } }

/-- Nap entry steps 3 to 5 (R553): the maps are checkpointed, and islands 4 and 9 to 17 and the ports are gated. Firmware keeps the line
messages, and no thread holds a hitch (log entry 47). -/
def State.gateForNap (s : State) : State :=
  let s := match execMapCheckpoint s with | .next t => t | _ => s
  let s := (s.loseSram true).portsOff
  let off (x : Thread) : Thread := { x with state := .idle, staged := none, held := [], deadline := none, packets := [] }
  { s with
    cores := { s.cores with
      lhReady := false, threads := s.cores.threads.map fun (e : Nat × Thread) => (e.1, off e.2)
      lines := s.cores.lines.map fun (e : Nat × Line) => (e.1, { e.2 with readers := [], writers := [] })
      hitches := s.cores.hitches.map fun (e : Nat × Hitch) => (e.1, { e.2 with holders := [], queue := [] }) }
    tiles := [], cls := { s.cls with cache := [] }, link := { s.link with inL1 := s.link.dlUp }, memory := { s.memory with keys := none } }

/-! ## Exits (R546, R551 to R554, R562) -/

/-- Deferred islands adopt during the wake (R28). -/
def State.adoptDeferred (s : State) : State :=
  (List.range 18).foldl (fun s n =>
    if !s.gen.deferred.getLsbD n then s
    else if 11 ≤ n ∧ n ≤ 14 then s.adoptCluster (n - 11)
    else s.adopt n) s

/-- Back to Run from Doze (R545). -/
def State.leaveDoze (s : State) : State := ((s.setLadder 0).portsOn).adoptDeferred

/-- Back to Run from Nap (R553): the strongroom reloads the memory keys, every thread starts at its entry, and firmware resumes. An uncorrectable word in
the keeper bank restarts the device instead (R534). -/
def State.leaveNap (s : State) : State :=
  if s.memory.bad.any fun a => decide (keeperBase ≤ a) && decide (a < keeperEnd) then s.warmRestart none [] false
  else
    let s : State := { s with memory := { s.memory with keys := some s.sr.memKeys }, power := { s.power with enabled := 0x1F, good := 0x1F } }
    let s := ((s.setLadder 0).portsOn).adoptDeferred
    let s := (s.cores.threads.map fun e => e.1).foldl State.freshThread s
    { s with cores := { s.cores with lhReady := true }, link := { s.link with inL1 := false } }

/-- Where firmware keeps its resume state in Slumber: the start of firmware heap A (R553; the place and its 8 bytes, which stand for whatever the
firmware needs: DESIGN CHOICE, log entry 90). -/
def resumeBase : Nat := 0x158000000

/-- The resume state goes to heap A, wrapped as in R410 for the owner (under context key 0, since the owner has none: DESIGN CHOICE, log entry 90). -/
def State.saveResume (s : State) : State :=
  let (v, s) := s.free
  match s.wrapState 0 (chainAad 0xFFFF 0) (leBytes v.toNat 8) with
  | some (bs, s) => { s with mem := Memory.writeBytes s.mem resumeBase bs }
  | none => { s with mem := Memory.zero s.mem resumeBase 36 }

/-- The resume state unwraps (R553). -/
def State.resumes (s : State) : Bool := !s.badRange 0 resumeBase 36 && (s.unwrapState 0 (chainAad 0xFFFF 0) (Memory.readBytes s.mem resumeBase 36)).isSome

/-- Back to Run from Slumber: as from Nap, or by a warm restart when the resume state does not unwrap (R553). -/
def State.leaveSlumber (s : State) : State := if s.resumes then s.leaveNap else s.warmRestart none [] false

/-- Configuration space after the link has been in L2: defaults but for what is sticky (R568). -/
def State.freshLink (s : State) : State := { s with link := s.linkAtReset .conventional }

/-- Image sections of the firmware image (R356). -/
def imageSections : List Nat := [1, 2, 3, 4]

/-- Hibernate exit (R554): with the record and the image unchanged, the state of a warm restart, and the time restored from holdover (R175);
otherwise a cold start. -/
def State.leaveHibernate (s : State) : State :=
  let slept := s.clock - s.power.slumberSince
  let rd := s.flashImage s.sr.bootSlot
  let same : Bool := match s.sr.hibernate with
    | some (slot, digest, version, owner) =>
      decide (slot = s.sr.bootSlot) && decide (digest = rd.digest) && decide (version = s.sr.fuses.secureVersion) &&
        decide (owner = s.sr.fuses.ownerSlot.getD 7)
    | none => false
  let s := s.loseRope
  if !same then State.restart (s.wipe .cold) (!s.memory.trainSaved) false
  else
    let s : State := { s with time := { s.time with
      now := Time.ofUnits (s.time.now.units + slept * perNs), holdover := true, acquiring := s.time.syncOn, target := none } }
    let s := (s.wipe .warm).freshLink
    let s := s.setReg R.TIME_HOLDOVER_UNC (BitVec.ofNat 64 (min (slept / 20000) 0xFFFFFFFF))
    let s := (State.restart { s with sr := { s.sr with hibernate := none } } false false).bump R.PWR_TRANSITIONS
    { s with power := { s.power with sections := imageSections, enabled := 0x1F, good := 0x1F } }

/-- A wake event in a ladder state: it stops a descent in progress (R552) and returns the device to Run, or starts it cold from Off. -/
def State.wakeUp (s : State) (cause : Nat) : State :=
  let s := if s.power.entering.isSome then s.bump R.PWR_ENTRY_ABORTED else s
  let s : State := { s with power := { s.power with entering := none, wakeCause := cause, asked := false } }
  match s.power.ladder with
  | 0 => s
  | 1 => s.setLadder 0
  | 2 => State.leaveDoze { s with link := { s.link with inL1 := false } }
  | 3 => s.leaveNap
  | 4 => s.freshLink.leaveSlumber
  | 5 => s.leaveHibernate
  | _ => { s with power := { s.power with starting := true, raising := some (0, s.clock) } }

/-- The states that a cause wakes the device from (R551). -/
def wakesFrom (cause ladder : Nat) : Bool :=
  match cause with
  | 1 | 7 => decide (1 ≤ ladder ∧ ladder ≤ 3)
  | 2 => decide (1 ≤ ladder ∧ ladder ≤ 2)
  | 3 => decide (1 ≤ ladder ∧ ladder ≤ 4)
  | 4 => decide (1 ≤ ladder)
  | 5 => decide (4 ≤ ladder)
  | 6 => decide (2 ≤ ladder ∧ ladder ≤ 5)
  | _ => false

/-- A wake event, where it acts: while a descent is under way it stops it; THERMTRIP and a brownout hold the device (R552, R559, R561). -/
def State.wake (s : State) (cause : Nat) : State :=
  if s.power.tripped ∨ s.power.brownout then s
  else if wakesFrom cause s.power.ladder ∨ (s.power.entering.isSome ∧ 1 ≤ cause ∧ cause ≤ 7) then s.wakeUp cause
  else s

/-- Work from the host wakes the device (R17, R551): any TLP. -/
def State.rouse (s : State) : State := if s.power.ladder = 0 ∧ s.power.entering.isNone then s.traffic else s.traffic.wake 1

/-- LADDER_WAKE (R551, R552). -/
def execLadderWake (cause : Fin 8) (s : State) : Res := .next (s.wake cause.val)

/-- PME for a wake by WAKE_AT: PM_PME from D3hot, WAKE# from D3cold (R47, R551). -/
def State.wakePme (s : State) : State :=
  if s.link.pmeEn ∧ s.link.dstate = .d3cold ∧ !s.link.wakeAsserted then
    State.emit { s with link := { s.link with wakeAsserted := true } } (.wake true)
  else s.wantPme

/-- Time that WAKE_AT is compared with: the time base, or in Hibernate the holdover counter (R551). -/
def State.wakeClock (s : State) : Nat := if s.power.ladder = 5 then s.now.units + (s.clock - s.power.slumberSince) * perNs else s.now.units

/-- WAKE_AT_TIMER (R550, R551). -/
def execWakeAtTimer (s : State) : Res :=
  match s.power.wakeAt with
  | some t =>
    if t.units ≤ s.wakeClock then
      let acts := wakesFrom 6 s.power.ladder
      let s : State := { s with power := { s.power with wakeAt := none } }
      .next (if acts then s.wakePme.wake 6 else s)
    else .next s
  | none => .next s

/-! ## Descents (R548 to R550) -/

/-- The Hibernate record that the strongroom writes at entry (R367, R554). -/
def State.hibernateRecord (s : State) : Nat × List Byte × Nat × Nat :=
  (s.sr.bootSlot, (s.flashImage s.sr.bootSlot).digest, s.sr.fuses.secureVersion, s.sr.fuses.ownerSlot.getD 7)

/-- Enter Hibernate: the pending store empties without events (R549). -/
def State.enterHibernate (s : State) : State :=
  State.setLadder { s with
    sr := { s.sr with hibernate := some s.hibernateRecord }, cmd := { s.cmd with stored := [] }, memory := { s.memory with keys := none }
    power := { s.power with slumberSince := s.clock, enabled := 0, good := 0 } } 5

/-- Enter Off, or fall into it: what is not persistent is lost (R545, R556). -/
def State.goOff (s : State) : State :=
  let s := s.loseRope.wipe .off
  { s with power := { s.power with ladder := 6, entering := none, asked := false, enabled := 0, good := 0, starting := false, raising := none } }

/-- Below Nap: Slumber, with the resume state in heap A and group 4 alone up, or the deeper target (R553, R555). -/
def State.goDown (s : State) (n : Nat) : State :=
  match n with
  | 6 => s.goOff.bump R.PWR_TRANSITIONS
  | 5 => (s.loseSram false).enterHibernate
  | _ => State.setLadder { (s.loseSram false).saveResume with power := { s.power with slumberSince := s.clock, enabled := 0x10, good := 0x10 } } 4

/-- The rest of a descent whose epoch has been published, or cannot be while the journal is away. -/
def State.finishDescent (s : State) (n : Nat) : State :=
  if n = 3 then s.gateForNap.setLadder 3 else s.gateForNap.goDown n

/-- The device has been idle since the last tick at which it was not (R547). -/
def State.noteIdle (s : State) : State := if s.idleNow then s else { s with power := { s.power with idleSince := s.clock } }

/-! ## Threads that time releases (R296, R310, R341) -/

/-- DEADLINE_TIMEOUT (R310): LGETD or HTIED returns TIMEOUT and the thread leaves its queue. A thread that becomes ready is work, which wakes the device
from Hush and Doze (R551). -/
def execDeadlineTimeout (t : Fin 2048) (s : State) : Res :=
  if s.deadlinePassed t then
    match (s.thread t).state with
    | .blockedLine =>
      let n := (s.thread t).object
      .next (((s.setLine n ((s.line n).leave t)).answer t resTimeout).wake 2)
    | .blockedHitch =>
      let n := (s.thread t).object
      .next (((s.setHitch n { s.hitch n with queue := (s.hitch n).queue.filter (fun k => decide (k ≠ t.val)) }).answer t resTimeout).wake 2)
    | _ => .next s
  else .next s
/-- PARK_WAKE (R296, R341): a parked thread becomes ready after its deadline. -/
def execParkWake (t : Fin 2048) (s : State) : Res :=
  if s.deadlinePassed t ∧ (s.thread t).state = .parked then .next ((s.release t).wake 2) else .next s

/-- LADDER_DESCEND (R548, R553): the porch's decision. Nap entry begins with one decision and ends with a later one, once the knot of the
paused epoch is published; a dip holds it (R559). -/
def execLadderDescend (s : State) : Res :=
  match s.power.entering with
  | some n =>
    if s.power.dipSince.isSome ∨ (s.store.rope.closed ≠ [] ∧ s.journalUp) then .next s else .next (s.finishDescent n)
  | none =>
    if s.power.ladder ≥ 4 then .next s
    else
      let d := s.depthNow
      if d ≤ s.power.ladder then .next s
      else match d with
        | 1 => .next (State.setLadder { s with power := { s.power with hushSince := s.clock } } 1)
        | 2 => .next s.enterDoze
        | _ => .next (s.prepareNap 3)

/-- HIBERNATE_TIMER (R548): HIBERNATE_AFTER_S in Slumber. -/
def execHibernateTimer (s : State) : Res :=
  let after := s.powerPolicy 0 0x10 4 0
  if s.power.ladder = 4 ∧ after ≠ 0 ∧ s.power.slumberSince + after * nsPerSec ≤ s.clock then .next s.enterHibernate else .next s

/-- PME_TURN_OFF (R549): the Nap entry steps, PME_TO_Ack, L2, and Slumber or the deeper target asked for. During a dip the descent stops at
Doze. -/
def execPmeTurnOff (s : State) : Res :=
  if s.power.ladder ≥ 4 ∨ !s.link.dlUp then .next s
  else
    let n := if s.power.asked ∧ 4 ≤ s.power.target then s.power.target else 4
    let s := if s.power.ladder = 3 then s else (s.prepareNap n).flushRope 4
    let s := ((s.abandonTags fun _ => true).freeTags).emit .pmeToAck
    let s : State := { s with link := { s.link with dlUp := false, inL1 := false, lanes := 0, dstate := .d3cold }, power := { s.power with asked := false } }
    if s.power.dipSince.isSome ∧ s.power.ladder < 3 then
      let s := s.enterDoze
      .next { s with power := { s.power with entering := some n } }
    else .next (s.finishDescent n)

/-- PWR_STATE (0x0B00, R550). -/
def cmdPwrState : Command where
  opcode := 0x0B00
  front := true
  room := false
  mctp := true
  recovery := false
  sched := true
  shape := fixedShape 24
  zero := fun bs => zeros bs 2 6 && decide (fld bs 1 1 < 2)
  body := fun x s =>
    let bs := x.pkt.params
    let n := fld bs 0 1
    let at' := Time.ofBytes bs 8
    let timed := decide (at'.units ≠ 0) || !at'.valid
    if 6 < n then Out.of s .invalidParam
    else if timed ∧ (n = 6 ∨ !at'.valid ∨ at'.units ≤ s.now.units) then Out.of s .invalidParam
    else if 2 ≤ n ∧ !s.portsQuiet then Out.of s .notPermitted
    else if 3 ≤ n ∧ s.power.dipSince.isSome then Out.of s .supplyLow
    else
      let hold := bit (fld bs 1 1) 0
      let s := if n < s.power.ladder ∨ s.power.entering.any (fun e => decide (n < e)) then s.wake 7 else s
      Out.of { s with power := { s.power with target := n, hold := hold, asked := !hold, wakeAt := if timed then some at' else none } } .ok

/-- PWR_POLICY (0x0B01, R550). -/
def cmdPwrPolicy : Command where
  opcode := 0x0B01
  front := true
  room := false
  mctp := false
  recovery := false
  sched := false
  shape := fixedShape 32
  zero := fun bs => decide (fld bs 0x0A 1 < 2) && zeroAt [(0x0F, 1), (0x14, 12)] bs
  body := fun x s =>
    let bs := x.pkt.params
    let within (off w lo hi : Nat) : Bool := decide (lo ≤ fld bs off w) && decide (fld bs off w ≤ hi)
    if within 0 4 1 100000 && within 4 4 100 10000000 && within 8 2 1 1000 && [1, 2, 4, 8, 16].contains (fld bs 0x0B 1) &&
        within 0x0C 2 100 240 && within 0x0E 1 85 100 && within 0x10 4 0 86400 then Out.of (s.stage 0x0B01 0 bs) .ok
    else Out.of s .invalidParam

/-! ## Supplies (R555 to R559) -/

/-- A group fails (R556): every group is lowered, PWR_FAULT holds the group's bit, and the device is Off. -/
def State.groupFails (s : State) (g : Nat) : State :=
  let s := s.goOff
  State.setBits { s with power := { s.power with failed := s.power.failed ||| (1#5 <<< g) } } R.PWR_STATUS (0x10000 + 2 ^ (8 + g))

/-- POWER_GROUP_TIMEOUT (R556): a PWR_GOOD is late while a start raises the groups; the porch retries once after 100 ms. -/
def execPowerGroupTimeout (group : Fin 5) (s : State) : Res :=
  if s.power.good.getLsbD group.val ∨ s.power.raising.isNone then .next s
  else
    let again := !s.power.retried
    let s := s.groupFails group.val
    .next { s with power := { s.power with retried := true, retryAt := if again then some (s.clock + 100000000) else none } }

/-- PWR_GOOD_FALL (R556): main power is lost while the group should be up. -/
def execPwrGoodFall (group : Fin 5) (s : State) : Res :=
  if s.power.good.getLsbD group.val then .next ((s.noteCause (some .mainPower)).groupFails group.val) else .next s

/-- The ROM runs at a cold start: DRIVE_BIF is sampled, every group is up (R472, R555, R562). The state has been lost at the entry to Off. -/
def State.coldStart (s : State) (bif' : Nat) : State :=
  let full := !s.memory.trainSaved
  let s : State := { s with
    store := { s.store with fabric := bif' }, sr := { s.sr with hibernate := none }
    power := { s.power with enabled := 0x1F, good := 0x1F, retried := false, retryAt := none, asked := false } }
  s.restart full false

/-- POWER_RETRY (R556, R567): 100 ms after the failure the start begins again. -/
def execPowerRetry (s : State) : Res :=
  match s.power.retryAt with
  | some c => if c ≤ s.clock ∧ !s.power.tripped then .next { s with power := { s.power with retryAt := none, starting := true, raising := some (0, s.clock) } } else .next s
  | none => .next s

/-- VSB_FIRST_APPLY (R562, R568): nothing has kept its state but what is not volatile, and RESET_CAUSE holds VSB_ON alone. -/
def execVsbFirstApply (s : State) : Res :=
  let s := s.loseRope.wipe .brownout
  .next { s with
    regs := [], fault := FaultUnit.reset, power := { Power.reset with ladder := 6, starting := true, raising := some (0, s.clock) }, link := HostLink.reset
    memory := { s.memory with trainSaved := false } }

/-- COLD_START (R562): once a start has begun; the device ends in Run, with generation 0x0000. -/
def execColdStart (bif' : Fin 4) (s : State) : Res := if s.power.starting then .next (s.coldStart bif'.val) else .next s

/-- `PWR.VSB_MV` (R564). -/
def State.vsbMv (s : State) (mv : Nat) : State := s.setReg R.PWR_VSB_MV (BitVec.ofNat 64 (mv % 8192))

/-- A SUPPLY event (R144): sensor and reading. -/
def State.supply (s : State) (sensor v : Nat) : State := s.postOwner 12 sensor v

/-- VSB_DIP_START (R384, R433, R559). A descent to Nap or deeper stops at Doze. -/
def execVsbDipStart (mv : Nat) (s : State) : Res :=
  if s.power.dipSince.isSome then .next s
  else
    let s := State.vsbMv { s with power := { s.power with dipSince := some s.clock }, sr := { s.sr with dipFrozen := true } } mv
    let s := s.ropeDip.supply 5 (mv / 10)
    .next (if s.power.entering = some 3 ∧ s.power.ladder < 2 then { s.enterDoze with power := { s.enterDoze.power with entering := some 3 } } else s)

/-- Sign the knots whose bodies are complete, in epoch order (R433). -/
def State.signPending (s : State) : Nat → State
  | 0 => s
  | n + 1 =>
    match s.store.rope.closed.find? fun e => decide (e.knot = []) with
    | some e => if e.body = [] then s else (match execKnotSign s with | .next t => t | _ => s).signPending n
    | none => s

/-- VSB_DIP_END (R384, R433, R559): the dip is latched, eMRAM writes go on, and deferred knots are signed. -/
def execVsbDipEnd (mv : Nat) (s : State) : Res :=
  match s.power.dipSince with
  | none => .next s
  | some c =>
    let us := min ((s.clock - c) / 1000) 0xFFFFFFF
    let s := State.vsbMv { s with power := { s.power with dipSince := none }, sr := { s.sr with dipFrozen := false } } mv
    let s := ((s.setReg R.PWR_VSB_DIP (BitVec.ofNat 64 (2 ^ 31 + us))).bump R.PWR_DIP_COUNT).supply 5 (mv / 10)
    .next (s.signPending s.store.rope.closed.length).ropeRecover

/-- VSB_BROWNOUT (R434, R559; at a reading of 0 VSB is absent: DEDUCED, log entry 94): every group is lowered and the device is held in reset; the training store is cleared. -/
def execVsbBrownout (mv : Nat) (s : State) : Res :=
  let s := (s.ropeDip.loseRope.noteCause (some .brownout)).wipe .brownout
  .next (State.vsbMv { s with
    sr := { s.sr with dipFrozen := false }
    power := { s.power with ladder := 6, entering := none, asked := false, dipSince := none, brownout := true, vsb := decide (0 < mv), enabled := 0, good := 0, starting := false, raising := none } } mv)

/-- BROWNOUT_RELEASE (R559): VSB has stayed above 2.50 V for 10 ms, and a cold start begins. -/
def execBrownoutRelease (s : State) : Res :=
  if s.power.brownout then .next { s with power := { s.power with brownout := false, vsb := true, starting := true, raising := some (0, s.clock) } } else .next s

/-- IMAGE_SECTION_LOADED (R554): the rest of the image follows in the background; one that does not match its digest makes the device start
cold. -/
def execImageSectionLoaded (s : State) : Res :=
  match s.power.sections with
  | [] => .next s
  | _ :: rest =>
    let rd := s.flashImage s.sr.bootSlot
    if s.imageFails rd = 0 ∧ rd 0 0x200 = s.sr.header then .next { s with power := { s.power with sections := rest } }
    else .next (s.coldReset none)

/-! ## AVSBus and temperature (R557, R560, R561) -/

/-- Every cluster changes frequency. -/
def State.clusterMhz (s : State) (f : Nat → Nat) : State :=
  let s := s.settleCycles
  { s with cores := { s.cores with freqMhz := (List.range 4).foldl (fun t c => Tbl.set (fun _ => 2000) t c (f (Tbl.get (fun _ => 2000) t c))) s.cores.freqMhz } }

/-- The firmware sets VDD_CORE for the highest cluster frequency in force (R557), unless AVSBus has failed three times in a row: then the last
voltage stays. The voltage and the frequency change in one step, whichever goes first. -/
def State.avs (s : State) : State :=
  if 3 ≤ s.power.avsFails then s
  else { s with power := { s.power with coreMv := Config.coreMv ((List.range 4).foldl (fun m c => max m (Tbl.get (fun _ => 2000) s.cores.freqMhz c)) 0) } }

/-- AVS_CURRENT_READ (R557): the third failure in a row limits every cluster to 2.0 GHz and sets AVS_FAIL. -/
def execAvsCurrentRead (ok : Bool) (amps : Nat) (s : State) : Res :=
  if ok then .next (State.avs { s with power := { s.power with avsFails := 0 }, cmd := { s.cmd with sensors := Tbl.set (fun _ => 0) s.cmd.sensors 3 amps } })
  else
    let n := s.power.avsFails + 1
    let s : State := { s with power := { s.power with avsFails := n } }
    .next (if n ≥ 3 then (s.clusterMhz (min 2000)).setBits R.PWR_STATUS 0x20000 else s)

/-- A threshold with its 3 °C of hysteresis, in units of 0.5 °C. -/
def overTemp (was : Bool) (temp limit : Nat) : Bool := decide (limit ≤ temp) || (was && decide (limit - 6 < temp))

/-- THERMTRIP (R561): the porch's hardware lowers every group and stays in Off. -/
def State.thermTrip (s : State) : State :=
  let s := (s.noteCause (some .thermtrip)).goOff
  { s with power := { s.power with tripped := true, retryAt := none } }

/-- THERMAL_SAMPLE (R560, R561): the hottest reading, its island, and the measured power. -/
def execThermalSample (island : Fin 18) (temp : BitVec 10) (watts : Nat) (s : State) : Res :=
  let t := temp.toNat
  let p := s.power
  if p.ladder ≥ 5 then .next s
  else if 230 ≤ t then .next ((s.putBits R.THERMAL_STATUS 0x1F3FF0 (t * 16 + island.val * 2 ^ 16)).thermTrip)
  else
    let hot := overTemp p.throttled t (2 * s.powerPolicy 0 0x0E 1 95)
    let excess := decide (s.powerPolicy 0 0x0C 2 240 < watts)
    let warn := overTemp p.warn t 200
    let crit := overTemp p.crit t 210
    let slow := hot || excess
    let down := decide (2 * s.powerPolicy 0 0x0E 1 95 ≤ t) || excess
    let s := s.putBits R.THERMAL_STATUS 0x1F3FF7 (t * 16 + island.val * 2 ^ 16 + 4 * b01 crit + 2 * b01 warn + b01 slow)
    let up := !slow && !crit && decide (p.stepAt + 10000000 ≤ s.clock)
    let s := if crit then s.clusterMhz fun _ => 800
      else if down then s.clusterMhz fun f => if f ≤ 1200 then f else max 1200 (f - 100)
      else if up then s.clusterMhz fun f => min 2000 (f + 100)
      else s
    let s := if crit ∨ down ∨ up then s.avs else s
    let s := if slow then s.bump R.THERMAL_THROTTLE_MS else s
    let s : State := { s with
      power := { s.power with throttled := slow, warn := warn, crit := crit, stepAt := if down ∨ crit ∨ up then s.clock else p.stepAt } }
    let s := if warn ∧ !p.warn then s.supply 1 t else s
    .next (if crit ∧ !p.crit then s.supply 1 t else s)

/-- THERMTRIP_RELEASE (R561): VSB was removed, or PERST# stayed asserted for 100 ms. The next start sets TRIPPED. -/
def execThermtripRelease (s : State) : Res :=
  if s.power.tripped then .next (State.setBits { s with power := { s.power with tripped := false } } R.THERMAL_STATUS 8) else .next s

/-! ## Resets and faults from outside (R533, R534, R546, R565, R567, R570) -/

/-- PERST_ASSERT (R549, R567): a reset, unless PME_Turn_Off preceded it. -/
def execPerstAssert (s : State) : Res := if s.power.ladder ≥ 4 then .next s else .next (s.conventionalReset (some .perst))

/-- PERST_DEASSERT (R546, R551): a wake from Slumber, Hibernate and Off; link training follows. -/
def execPerstDeassert (s : State) : Res := .next (s.wake 5)

/-- HOT_RESET (R567). -/
def execHotReset (s : State) : Res := if s.link.dlUp then .next (s.conventionalReset (some .hotReset)) else .next s

/-- PCIE_LINK_DOWN (R59, R567): other than the entry to L2. -/
def execPcieLinkDown (s : State) : Res := if s.link.dlUp then .next (s.conventionalReset (some .linkDown)) else .next s

/-- CODE_REGION_CHECK (R533): a mismatch is recorded and restarts the device. -/
def execCodeRegionCheck (ok : Bool) (s : State) : Res :=
  if ok then .next s else .next ((s.ledger 11 6 0 (leBytes 3 1 ++ pad 15)).warmRestart (some .codeCheck) [] false)

/-- CODE_RELOAD_END (R534): the sections are good again, and threads that faulted with FETCH are reseated. -/
def execCodeReloadEnd (s : State) : Res :=
  if !s.memory.codeReload then .next s
  else
    let s : State := { s with memory := { s.memory with
      codeReload := false, bad := s.memory.bad.filter fun a => decide (s.regionOf a ≠ some 7) } }
    let s := s.copySections (s.flashImage s.sr.bootSlot)
    let ts := (s.cores.threads.filter fun e => decide (e.2.state = .faulted) && decide (e.2.object = ThFault.fetch.code)).map fun e => e.1
    .next ((ts.foldl State.reseatOne s).noteReseats ts)

/-- CORE_RETIRE_TIMEOUT (R565): a core with ready threads has retired nothing for 1 ms. -/
def execCoreRetireTimeout (core : Fin 256) (s : State) : Res :=
  if (List.range 8).any fun i => decide ((s.thread (8 * core.val + i)).state = .ready) && !(s.thread (8 * core.val + i)).halted then
    .next (s.clusterFault (core.val / 64) 2 core.val)
  else .next s

/-- CLUSTER_FAULT (R565, R569): a core error. -/
def execClusterFault (cluster : Fin 4) (s : State) : Res := .next (s.clusterFault cluster.val 1 0xFFFF)

/-- CORRIDOR_ACK_TIMEOUT (R565). -/
def execCorridorAckTimeout (s : State) : Res := .next s.deviceFault

/-- DEVICE_FAULT (R565). -/
def execDeviceFault (s : State) : Res := .next s.deviceFault

/-- DEV_RESET (0x0003, R96, R571). A warm restart replies after READY; a cold reset replies first. -/
def cmdDevReset : Command where
  opcode := 0x0003
  front := true
  room := false
  mctp := true
  recovery := true
  sched := true
  shape := fixedShape 8
  zero := zeroAt [(1, 7)]
  body := fun x s =>
    match fld x.pkt.params 0 1 with
    | 1 =>
      if s.sr.recovery then Out.of s .notPermitted
      else
        let mine : Running := Running.plain x true 0 [] s.clock
        let keep := match x.sched with | .now | .late => [mine] | _ => []
        .held (s.warmRestart (some .devWarm) keep false)
    | 2 => .held ((s.finish x .ok []).coldReset (some .devCold))
    | _ => Out.of s .invalidParam

end Sys2Proof.Machine
end

