-- ==== Sys2Proof/Machine/Debug.lean ====
section
/-!
DEFINITION. Debug levels, the ledger commands and the firmware commands (R303, R324, R358, R360, R361, R385, R386, R580).
-/

namespace Sys2Proof.Machine

/-! ## Debug levels (R385, R386) -/

/-- Every room is vacant or frozen: the precondition of levels 1 and 2. -/
def State.roomsStill (s : State) : Bool := s.rooms.all fun e => match e.2.state with | .vacant | .frozen => true | _ => false

/-- An unlock token's fields hold (R386), but for its nonce. -/
def State.tokenHolds (s : State) (t : List Byte) : Bool :=
  let f := s.sr.fuses
  let head := t.take 0x20
  let sig := slice t 0x20 (0x20 + fld t 6 2)
  decide (fld t 0 4 = 0x4B4F5444) && decide (1 ≤ fld t 4 1 ∧ fld t 4 1 ≤ 2) && decide (fld t 8 8 = f.serial) && s.roomsStill &&
    match f.ownerKey with
    | some k => decide (fld t 5 1 = k.alg + 1) && Config.verifies k.hash head sig
    | none => decide (fld t 5 1 = 1) && Config.verifies f.vendorEcdsa head sig

/-- The level changes without a reset: recorded and measured (R359, R579). -/
def State.debugTo (s : State) (level : Nat) : State :=
  let old := s.sr.debugLevel
  let s : State := { s with sr := { s.sr with debugLevel := level } }
  s.measureConfig.ledger 10 6 0 (leBytes old 1 ++ leBytes level 1 ++ pad 14)

/-- The path to level 2 begins: storage closes, unfinished work is abandoned, the epoch closes with DEBUG (R385). -/
def State.beginLevelTwo (s : State) : State :=
  let s := s.stopWrites
  let s : State := { s with store := { s.store with path := 0 } }
  s.closeEpoch s.now 4 s.time.periodUs .storageOpen

/-- Limit of a token: the largest signature of its ALG (R599; HSS: DEDUCED, log entry 52). -/
def tokenShape (t : List Byte) : Option (Nat × Nat) :=
  some (0x20 + fld t 6 2, if fld t 5 1 = 1 then 0x20 + 96 else 74988)

/-- DBG_UNLOCK (0x0C01, R385, R386). A token for a level not above the one in force leaves the level (DEDUCED, log entry 53). -/
def cmdDbgUnlock : Command where
  opcode := 0x0C01
  front := true
  room := false
  mctp := true
  recovery := true
  sched := false
  shape := tokenShape
  zero := fun _ => true
  body := fun x s =>
    let t := x.pkt.params
    let fresh := match s.sr.nonce with | some n => decide (n.1 = slice t 0x10 0x20) && decide (s.clock < n.2) | none => false
    let used : State := if fresh then { s with sr := { s.sr with nonce := none, lastNonce := slice t 0x10 0x20 } } else s
    if (s.runningOn 0x0C01 0).isSome then Out.of used .busy
    else if s.sr.dipFrozen then Out.refuse used .supplyLow
    else if !fresh || !s.tokenHolds t then Out.of (used.bump R.SR_UNLOCK_FAILED) .notPermitted
    else
      let used : State := { used with sr := { used.sr with unlocks := used.sr.unlocks + 1 } }
      if fld t 4 1 ≤ s.sr.debugLevel then Out.of used .ok
      else if fld t 4 1 = 1 then Out.of (used.debugTo 1) .ok
      else .held ((used.hold x true 0 []).beginLevelTwo).enterLevelTwo

/-- DBG_LOCK (0x0C02, R385): at once from level 1, with a cold reset from level 2. -/
def cmdDbgLock : Command where
  opcode := 0x0C02
  front := true
  room := false
  mctp := true
  recovery := false
  sched := false
  shape := fixedShape 0
  zero := fun _ => true
  body := fun x s =>
    if (s.runningOn 0x0C01 0).isSome then Out.of s .busy
    else match s.sr.debugLevel with
      | 0 => Out.of s .ok
      | 1 => Out.of (s.debugTo 0) .ok
      | _ => .held ((s.finish x .ok []).coldReset (some .dbgLock))

/-! ## The ledger and the trace buffers (R320, R580) -/

/-- The longest list of whole records that fits, after a 16-byte header. -/
def wholeRecords : Nat → List (List Byte) → List (List Byte)
  | _, [] => []
  | space, r :: rs => if r.length ≤ space then r :: wholeRecords (space - r.length) rs else []

/-- Answer with the header and the records that fit; `seen` says what reading them changes. -/
def ledgerAnswer (x : Ctx) (s : State) (oldest next lost : Nat) (rs : List (List Byte)) (seen : Nat → State) : Out :=
  let fit' := wholeRecords (Packet.replySpace x.pkt - 16) rs
  let data := leBytes oldest 4 ++ leBytes next 4 ++ leBytes fit'.length 4 ++ leBytes lost 4 ++ fit'.flatten
  if fit'.length < rs.length ∨ Packet.replySpace x.pkt < 16 then .part .ok data (seen fit'.length) else .done .ok data (if rs = [] then s else seen fit'.length)

/-- DBG_LEDGER (0x0C03, R580). LOST is `FAULT.LEDGER_LOST` (DEDUCED, log entry 51). -/
def cmdDbgLedger : Command where
  opcode := 0x0C03
  front := true
  room := false
  mctp := false
  recovery := false
  sched := false
  shape := fixedShape 16
  zero := zeroAt [(9, 7)]
  body := fun x s =>
    let bs := x.pkt.params
    let first := fld bs 0 4
    let n := fld bs 4 4
    let src := fld bs 8 1
    if n < 1 ∨ 65536 < n ∨ 4 < src then Out.of s .invalidParam
    else if src ≠ 0 ∧ s.sr.debugLevel = 0 then Out.of s .notPermitted
    else if src = 0 then
      let es := s.fault.ledger
      let pick := (es.filter fun e => decide (first = 0xFFFFFFFF ∨ first ≤ e.index)).take n
      let oldest := match es with | e :: _ => e.index | [] => s.fault.ledgerNext
      let start := match pick with | e :: _ => e.index | [] => s.fault.ledgerNext
      ledgerAnswer x s oldest s.fault.ledgerNext (s.reg R.FAULT_LEDGER_LOST).toNat (pick.map LedgerEntry.bytes) fun k =>
        { s with fault := { s.fault with ledgerRead := max s.fault.ledgerRead (start + k) } }
    else
      let rs : List TraceRec := Tbl.get (fun _ => []) s.cores.traces (src - 1)
      let pick := (rs.filter fun r => decide (first = 0xFFFFFFFF ∨ first ≤ r.index)).take n
      let next := match rs.getLast? with | some r => r.index + 1 | none => 0
      let oldest := match rs with | r :: _ => r.index | [] => next
      ledgerAnswer x s oldest next (s.reg R.FAULT_LEDGER_LOST).toNat
        (pick.map fun r => leBytes (Config.traceRecord r.thread r.kind r.pc r.time).toNat 16) fun _ => s

/-- A stall policy record in range (R322, R324). -/
def stallRecOk (r : List Byte) : Bool :=
  decide (fld r 0 2 < 256) && decide (fld r 0 2 % 64 ≠ 0) && decide (fld r 2 1 ≤ 1) && zeros r 3 1 && zeros r 12 4 &&
    decide (10 ≤ fld r 4 4 ∧ fld r 4 4 ≤ 100000) && decide (1000 ≤ fld r 8 4 ∧ fld r 8 4 ≤ 10000000) && decide (fld r 4 4 < fld r 8 4)

/-- DBG_STALL_POLICY (0x0C04, R324). -/
def cmdDbgStallPolicy : Command where
  opcode := 0x0C04
  front := true
  room := false
  mctp := false
  recovery := false
  sched := false
  shape := recShape 8 16 0 2 1 256
  zero := zeroAt [(2, 6)]
  body := fun x s =>
    let rs := recordsOf x.pkt.params 8 16 (fld x.pkt.params 0 2)
    if !rs.all stallRecOk then Out.of s .invalidParam
    else Out.of (s.stageRecs 0x0C04 (countOne 2 8) (fun r => fld r 0 2) rs) .ok

/-! ## Firmware images (R356 to R360) -/

/-- A slot runs: the image it holds was booted and serves. -/
def State.slotRuns (s : State) (i : Nat) : Bool := s.sr.imageValid && !s.sr.recovery && decide (s.sr.bootSlot = i)

/-- The slot that FW_LOAD writes (R360): the one that is not running; when none runs, the one the boot record does not name ACTIVE. -/
def State.loadSlot (s : State) : Nat :=
  if s.sr.imageValid && !s.sr.recovery then 1 - s.sr.bootSlot else 1 - s.bootRec.active

/-- FW_QUERY's record of a slot; an empty slot has no header (log entry 54). -/
def State.slotRecord (s : State) (i : Nat) : List Byte :=
  let x := s.slot i
  let r := s.bootRec
  let rd := s.flashImage i
  let flags := 4 * b01 (s.slotRuns i) + 2 * b01 (r.trial && decide (r.active ≠ i)) + b01 (decide (r.active = i))
  leBytes x.state 1 ++ leBytes flags 1 ++ pad 2 ++
    if x.state = 0 then pad 20 else rd 8 4 ++ rd 0x0C 4 ++ rd 0x1C 4 ++ (if rd.len ≤ 0x1000000 then rd.digest.take 8 else pad 8)

/-- FW_QUERY's record of the annex region. -/
def State.annexRecord (s : State) : List Byte :=
  let x := s.sr.annexSlot
  let rd := s.flashImage 2
  leBytes x.state 1 ++ leBytes (b01 (decide (s.sr.annexHeader ≠ []) && decide (s.sr.annexHeader = rd 0 0x200))) 1 ++ pad 2 ++
    if x.state = 0 then pad 12 else rd 8 4 ++ rd 0x1C 4 ++ pad 4

/-- FW_QUERY (0x0D00, R360). -/
def cmdFwQuery : Command where
  opcode := 0x0D00
  front := true
  room := false
  mctp := true
  recovery := false
  sched := false
  shape := fixedShape 0
  zero := fun _ => true
  body := fun _ s => .done .ok (s.slotRecord 0 ++ s.slotRecord 1 ++ s.annexRecord) s

/-- Write bytes into a flash region. -/
def State.writeFlash (s : State) (r off : Nat) (bs : List Byte) : State :=
  { s with sr := { s.sr with flash := Memory.writeBytes s.sr.flash (regionBase r + off) bs } }

/-- Erase a flash region. -/
def State.eraseFlash (s : State) (r : Nat) : State :=
  { s with sr := { s.sr with flash := Memory.zero s.sr.flash (regionBase r) 0x1000000 } }

/-- A FW_LOAD header in range (R360). -/
def loadHeaderOk (path : Path) (bs : List Byte) : Bool :=
  let off := fld bs 4 4
  let n := fld bs 8 4
  decide (fld bs 0 1 ≤ 1) && decide (off % 16 = 0) && decide (n % 16 = 0) && decide (16 ≤ n ∧ n ≤ 1048576) && decide (off + n ≤ 0x1000000) &&
    (decide (path ≠ Path.mctp) || decide (n ≤ 944))

/-- The chunk goes into its region. -/
def State.takeChunk (s : State) (r off : Nat) (first : Bool) (chunk : List Byte) : State :=
  let s := if first then s.eraseFlash r else s
  (s.writeFlash r off chunk).setSlot r ⟨3, off + chunk.length⟩

/-- The last chunk's verification (R357, R361): the first check failed, 0 for none. -/
def State.regionFails (s : State) (r : Nat) : Nat := if r = 2 then s.annexFails (s.flashImage 2) else s.imageFails (s.flashImage r)

/-- A chunk is written, and with LAST the whole image is verified (R360). -/
def State.loadChunk (s : State) (r : Nat) (bs : List Byte) : Out :=
  let s := s.takeChunk r (fld bs 4 4) (bit (fld bs 1 1) 0) (slice bs 16 (16 + fld bs 8 4))
  if !bit (fld bs 1 1) 1 then Out.of s .ok
  else
    let n := s.regionFails r
    if n ≠ 0 then .done .invalidParam (leBytes n 1) (s.setSlot r { s.slot r with state := 2 })
    else
      let s := s.setSlot r { s.slot r with state := 1 }
      Out.of (if s.sr.recovery ∧ r ≠ 2 then s.writeBootRec r false else s) .ok

/-- FW_LOAD (0x0D01, R360): long-running, it holds the region it writes (R82, R96). -/
def cmdFwLoad : Command where
  opcode := 0x0D01
  front := true
  room := false
  mctp := true
  recovery := true
  sched := false
  shape := fun bs => some (16 + fld bs 8 4, 16 + 1048576)
  zero := fun bs => zeros bs 2 2 && zeros bs 0x0C 4 && decide (fld bs 1 1 < 4)
  body := fun x s =>
    let bs := x.pkt.params
    let r := if fld bs 0 1 = 1 then 2 else s.loadSlot
    let off := fld bs 4 4
    let first := bit (fld bs 1 1) 0
    let inOrder := if first then decide (off = 0) else decide ((s.slot r).state = 3) && decide ((s.slot r).written = off)
    if !loadHeaderOk x.pkt.path bs || !inOrder then Out.of s .invalidParam
    else if (s.runningOn 0x0D01 r).isSome ∨ (r = 2 ∧ (s.runningOn 0x0D03 0).isSome) then Out.of s .busy
    else .held (s.holdWork x r [])
  after := some fun x s => s.loadChunk (if fld x.pkt.params 0 1 = 1 then 2 else s.loadSlot) x.pkt.params

/-- FW_ACTIVATE (0x0D02, R358, R360). -/
def cmdFwActivate : Command where
  opcode := 0x0D02
  front := true
  room := false
  mctp := true
  recovery := false
  sched := true
  shape := fixedShape 0
  zero := fun _ => true
  body := fun x s =>
    if (s.slot (1 - s.sr.bootSlot)).state ≠ 1 then Out.of s .notPermitted
    else
      let keep := match x.sched with | .now | .late => [(Running.plain x true 0 [] s.clock)] | _ => []
      .held ((s.writeBootRec s.bootRec.active true).warmRestart (some .fwActivate) keep false)

/-! ## Annex code (R303, R361) -/

/-- Check and install an annex image that has been read (R361). -/
def State.loadAnnex (s : State) (bs : List Byte) : Out :=
  let n := fld bs 4 4
  let host := fld bs 0 1 = 1
  let image := if host then s.hostRead none (fld bs 8 8) n else []
  let rd : Reader := if host then bufferImage image else s.flashImage 2
  let k := s.annexFails rd
  if k ≠ 0 then .done .invalidParam (leBytes k 1) s
  else
    let s := s.reseatAnnex.installAnnex rd
    Out.of (if host then (s.takeChunk 2 0 true image).setSlot 2 ⟨1, n⟩ else s) .ok

/-- ANNEX_LOAD (0x0D03, R82, R361). -/
def cmdAnnexLoad : Command where
  opcode := 0x0D03
  front := true
  room := false
  mctp := false
  recovery := false
  sched := false
  shape := fixedShape 16
  zero := zeroAt [(1, 3)]
  body := fun x s =>
    let bs := x.pkt.params
    let n := fld bs 4 4
    if 1 < fld bs 0 1 ∨ 0x1000000 < n then Out.of s .invalidParam
    else if (s.runningOn 0x0D03 0).isSome ∨ (s.runningOn 0x0D01 2).isSome then Out.of s .busy
    else .held (s.holdWork x 0 (if fld bs 0 1 = 1 ∧ n ≠ 0 then [(fld bs 8 8, n)] else []))
  after := some fun x s => s.loadAnnex x.pkt.params

/-- Threads of a core run the back stair (R255). -/
def State.coreOnStair (s : State) (c : Nat) : Bool := (List.range 8).any fun k => decide ((s.thread (8 * c + k)).role = Role.backStair)

/-- ANNEX_CORES (0x0D04, R303). -/
def cmdAnnexCores : Command where
  opcode := 0x0D04
  front := true
  room := false
  mctp := false
  recovery := false
  sched := false
  shape := recShape 8 2 0 1 0 48
  zero := zeroAt [(1, 7)]
  body := fun x s =>
    let cs := annexList x.pkt.params
    let free (c : Nat) : Bool := decide (c < 256) && decide (32 ≤ c % 64 ∧ c % 64 ≤ 47) && !s.coreOnStair c
    if !cs.all free ∨ cs.eraseDups.length ≠ cs.length then Out.of s .invalidParam
    else Out.of (s.stage 0x0D04 0 x.pkt.params) .ok

end Sys2Proof.Machine
end

