-- ==== Sys2Proof/Machine/ConfigSpace.lean ====
section
/-!
DEFINITION. Configuration space of PF0 as the host reads and writes it (R39, R41, R43, R46, R64, R68, R70, R72). Capability IDs, versions and the
places of standard fields are those of the PCI Express standard (PRESUMED, log entry 2); the offsets and contents are the manual's.
-/

namespace Sys2Proof.Machine

/-! ## The vendor-specific capability's registers (R72) -/

/-- `KX_STATUS` (R72). -/
def State.kxStatus (s : State) : Nat :=
  s.sr.debugLevel * 2 ^ 10 + s.power.ladder % 8 * 2 ^ 7 + b01 s.store.replay.active * 64 + b01 (decide (2 ≤ s.store.path)) * 32 + b01 s.sr.imageValid * 16 +
    b01 s.sr.recovery * 8 + b01 s.gen.locked * 4 + b01 (decide (s.haltedCount ≠ 0)) * 2 + b01 s.sr.ready

/-- `KX_ROOM_LIMIT` (R72). -/
def State.roomLimit (s : State) : Nat := if !s.gen.locked then 0 else if s.gen.profile = 2 then 1024 else 256

/-- The capability at 0x600 (R72): the word at an offset from it. -/
def State.vsecWord (s : State) (o : Nat) : Nat :=
  match o with
  | 0x00 => 0x0001000B
  | 0x04 => 0x04010001
  | 0x08 => s.kxStatus
  | 0x0C => fld s.sr.header 8 4
  | 0x10 => s.sr.fuses.secureVersion
  | 0x14 => s.roomLimit
  | _ => 0

/-! ## Header, standard capabilities, extended capabilities (R39, R41, R43) -/

/-- Width of the link as its fields hold it. -/
def lanesField (s : State) : Nat := s.link.lanes % 64

/-- Maximum Payload Size and Maximum Read Request Size as their fields code them. -/
def sizeField (n : Nat) : Nat := Nat.log2 (n / 128)

/-- The Command and Status registers. -/
def State.commandWord (s : State) : Nat :=
  let c := s.link.cmdOther
  2 * b01 s.link.memEnable + 4 * b01 s.link.bme + 2 ^ 6 * b01 (c.getLsbD 0) + 2 ^ 8 * b01 (c.getLsbD 1) + 2 ^ 10 * b01 (c.getLsbD 2) + 0x00100000

/-- The type bits of a base address register: 64-bit memory, not prefetchable (R41). -/
def barType : Nat := 4

/-- The header (R39, R41): the word at an offset below 0x40. -/
def State.headerWord (s : State) (o : Nat) : Nat :=
  match o with
  | 0x00 => 0x32001FA7
  | 0x04 => s.commandWord
  | 0x08 => 0x02000010
  | 0x10 | 0x18 | 0x20 => s.cfgWord o + barType
  | 0x14 | 0x1C | 0x24 => s.cfgWord o
  | 0x2C => fld s.sr.header 0x18 4
  | 0x34 => 0x40
  | 0x3C => s.cfgWord o
  | _ => 0

/-- Power Management, MSI-X and PCI Express capabilities (R43): the word at an offset from 0x40 to 0x93. -/
def State.standardWord (s : State) (o : Nat) : Nat :=
  let l := s.link
  match o with
  | 0x40 => 0xC0035001
  | 0x44 => (if l.dstate = .d3hot then 3 else 0) + 8 + 2 ^ 8 * b01 l.pmeEn + 2 ^ 15 * b01 l.pmeStatus
  | 0x50 => 2 ^ 31 * b01 l.msixEnable + 2 ^ 30 * b01 l.functionMask + 0x07FF6011
  | 0x54 => 0x00000004
  | 0x58 => 0x00080004
  | 0x60 => 0x80020010
  | 0x64 => 0x10008025
  | 0x68 => s.cfgWord 0x68 + 16 * b01 l.relaxedEnable + 2 ^ 5 * sizeField l.maxPayload + 2 ^ 12 * sizeField l.maxReadReq
  | 0x6C => 7 + 16 * 2 ^ 4 + 2 * 2 ^ 10 + 3 * 2 ^ 15 + 2 ^ 18 + 2 ^ 22
  | 0x70 => s.cfgWord 0x70 + 2 * b01 l.aspmL1Enable + 2 ^ 16 * l.rate + 2 ^ 20 * lanesField s + 2 ^ 28
  | 0x84 => 7 + 2 ^ 11 + 2 ^ 16 + 2 ^ 17
  | 0x88 => s.cfgWord 0x88 + l.ctoValue + 2 ^ 10 * b01 l.ltrEnable + 2 ^ 12 * b01 l.tag10
  | 0x8C => 0xFE
  | 0x90 => s.cfgWord 0x90 + 2 ^ 26 * b01 l.flit
  | _ => 0

/-- Offsets and standard IDs of the extended capabilities, in list order (R43). The 128.0 GT/s capability's ID is not known (free, log
entry 2). -/
def extendedList : List (Nat × Nat) :=
  [(0x100, 0x0001), (0x148, 0x0003), (0x158, 0x0019), (0x188, 0x0025), (0x198, 0x0026), (0x1D8, 0x002A), (0x218, 0x0031), (0x258, Config.physical128Id.toNat),
    (0x298, 0x0027), (0x2E0, 0x0032), (0x300, 0x002F), (0x310, 0x0018), (0x318, 0x001E), (0x328, 0x001B), (0x330, 0x000F), (0x338, 0x002E), (0x350, 0x0030)]

/-- The header of an extended capability: ID, version 1, and the offset of the next. -/
def extendedHeader (o : Nat) : Option Nat :=
  (extendedList.find? fun (e : Nat × Nat) => decide (e.1 = o)).map fun (e : Nat × Nat) =>
    e.2 + 2 ^ 16 + 2 ^ 20 * ((((extendedList.map fun (e : Nat × Nat) => e.1) ++ [0x600]).filter fun n => decide (o < n)).headD 0)

/-- The DOE mailbox's registers (R68): control, status, and the word that the read mailbox shows. -/
def State.doeWord (s : State) (o : Nat) : Nat :=
  match o with
  | 0x340 => s.cfgWord 0x340
  | 0x344 => 2 ^ 31 * b01 (decide (s.link.doe ≠ []))
  | 0x34C => fld s.link.doe 0 4
  | _ => 0

/-- The extended capabilities (R43): the word at an offset from 0x100 to 0x5FF. -/
def State.extendedWord (s : State) (o : Nat) : Nat :=
  let l := s.link
  match extendedHeader o with
  | some h => h
  | none =>
    match o with
    | 0x14C => s.sr.fuses.serial % 2 ^ 32
    | 0x150 => s.sr.fuses.serial / 2 ^ 32
    | 0x18C => 0x80000001
    | 0x304 => 0x0E
    | 0x308 => s.cfgWord 0x308 + 4 * b01 l.tag14 + 8 * b01 l.l0pEnable
    | 0x31C => 0x1F + 30 * 2 ^ 8 + 2 ^ 16 + 4 * 2 ^ 19
    | 0x320 => s.cfgWord 0x320 + 4 * b01 l.l12Enable
    | 0x32C => 0x1400 + 2 ^ 16 * b01 l.pasidEnable
    | 0x334 => 0x60 + s.cfgWord 0x334 + 2 ^ 31 * b01 l.atsEnable
    | 0x340 | 0x344 | 0x34C => s.doeWord o
    | 0x354 => 0x1F + 16 * 2 ^ 16
    | _ => s.cfgWord o

/-! ## IDE streams (R70) -/

/-- Where the model's view of the streams' registers begins: 128 bytes for each of 17 streams. The standard's blocks of 16 streams with four address
association blocks each do not fit between 0x350 and 0x600, so the manual leaves their places open (DESIGN CHOICE, log entry 2). -/
def ideBase : Nat := 0x1000

/-- A word of a stream: 0x00 its state, 0x04 and 0x08 the RID association block with V at bit 0, 0x0C PCRC enable, then four address association
blocks of 16 bytes. -/
def IdeStream.word (x : IdeStream) (o : Nat) : Nat :=
  match o with
  | 0x00 => match x.state with | .insecure => 0 | .keyed => 1 | .secure => 2
  | 0x04 => x.rid.2.1 * 2 ^ 8
  | 0x08 => x.rid.1 * 2 ^ 8 + b01 x.rid.2.2
  | 0x0C => b01 x.pcrc
  | _ =>
    let a := x.addrs.getD ((o - 0x10) / 16) (0, 0)
    if 0x50 ≤ o then 0 else match (o - 0x10) % 16 / 4 with
    | 0 => a.1 % 2 ^ 32
    | 1 => a.1 / 2 ^ 32
    | 2 => a.2 % 2 ^ 32
    | _ => a.2 / 2 ^ 32

/-- A half word of a number replaced: the half that `hi` names. -/
def withHalf (n : Nat) (hi : Bool) (v : Nat) : Nat := if hi then v * 2 ^ 16 + n % 2 ^ 16 else n / 2 ^ 16 * 2 ^ 16 + v

/-- A write of 16 bits to a word of a stream; its state is read-only, and a stream has four address association blocks. -/
def IdeStream.write (x : IdeStream) (o : Nat) (v : Nat) : IdeStream :=
  let n := withHalf (x.word (o / 4 * 4)) (decide (o % 4 = 2)) v
  match o / 4 * 4 with
  | 0x00 => x
  | 0x04 => { x with rid := (x.rid.1, n / 2 ^ 8 % 2 ^ 16, x.rid.2.2) }
  | 0x08 => { x with rid := (n / 2 ^ 8 % 2 ^ 16, x.rid.2.1, bit n 0) }
  | 0x0C => { x with pcrc := bit n 0 }
  | p =>
    if 0x50 ≤ p then x
    else
      let k := (p - 0x10) / 16
      let all := x.addrs ++ List.replicate (4 - x.addrs.length) (0, 0)
      let a := all.getD k (0, 0)
      let a := match (p - 0x10) % 16 / 4 with
        | 0 => (a.1 / 2 ^ 32 * 2 ^ 32 + n, a.2)
        | 1 => (a.1 % 2 ^ 32 + n * 2 ^ 32, a.2)
        | 2 => (a.1, a.2 / 2 ^ 32 * 2 ^ 32 + n)
        | _ => (a.1, a.2 % 2 ^ 32 + n * 2 ^ 32)
      { x with addrs := all.set k a }

/-! ## Reads and writes -/

/-- The word of configuration space at an offset that is a multiple of 4. -/
def State.configWord (s : State) (o : Nat) : Nat :=
  if o < 0x40 then s.headerWord o
  else if o < 0x100 then s.standardWord o
  else if o < 0x600 then s.extendedWord o
  else if o < 0x640 then s.vsecWord (o - 0x600)
  else if ideBase ≤ o ∧ o < ideBase + 128 * 17 then (s.ideStream ((o - ideBase) / 128)).word ((o - ideBase) % 128)
  else 0

/-- Bits of a word that hold what is written to them and have no effect of their own (the capability's RW fields). -/
def configRw (o : Nat) : Nat :=
  match o with
  | 0x10 | 0x18 => 0xFC000000
  | 0x20 => 0xFFF00000
  | 0x14 | 0x1C | 0x24 | 0x108 | 0x10C | 0x114 | 0x314 => 0xFFFFFFFF
  | 0x3C => 0xFF
  | 0x68 => 0x090F
  | 0x70 => 0x01C0
  | 0x88 => 0
  | 0x90 => 0x000F
  | 0x118 => 0x140
  | 0x15C => 0x3
  | 0x308 => 0
  | 0x320 => 0xFFFFFFFB
  | 0x324 => 0xFF
  | 0x334 => 0x001F0000
  | 0x340 => 0x2
  | _ => if 0x2A0 ≤ o ∧ o < 0x2E0 then 0xFFFF else if 0x2E4 ≤ o ∧ o < 0x2F0 then 0xFFFFFFFF else 0

/-- Bits of a word that a 1 clears. -/
def configW1c (o : Nat) : Nat :=
  match o with
  | 0x68 => 0x000F0000
  | 0x104 | 0x110 => 0xFFFFFFFF
  | 0x160 => 0xFFFF
  | _ => 0

/-- A write of 16 bits to a word by its RW and W1C fields. -/
def State.configBits (s : State) (o v : Nat) : State :=
  let a := o / 4 * 4
  let sh := if o % 4 = 2 then 16 else 0
  let m := 0xFFFF * 2 ^ sh
  let v := v % 2 ^ 16 * 2 ^ sh
  let rw := configRw a &&& m
  let w1c := configW1c a &&& m
  if rw = 0 ∧ w1c = 0 then s
  else s.setCfg a (((s.cfgWord a &&& (2 ^ 32 - 1 - rw)) ||| (v &&& rw)) &&& (2 ^ 32 - 1 - (v &&& w1c)))

/-- A write of 16 bits to the DOE mailbox (R68): Abort is bit 0 of the control, Go bit 31; the second half of a word written to the write mailbox
adds the word to the object; any write to the read mailbox goes on to the next word. -/
def State.doeWrite (s : State) (o v : Nat) : State :=
  let l := s.link
  match o with
  | 0x340 => if bit v 0 then { s with link := { l with doe := [], doeIn := [] } } else s.configBits o v
  | 0x342 =>
    if !bit v 15 then s
    else
      let bs := l.doeIn
      let s : State := { s with link := { l with doeIn := [] } }
      if bs.length < 8 ∨ 65536 < bs.length ∨ fld bs 0 2 ≠ 1 ∨ 2 < fld bs 2 1 then s else s.doeAnswer bs
  | 0x348 => s.setCfg 0x348 (v % 2 ^ 16)
  | 0x34A => { s with link := { l with doeIn := l.doeIn ++ leBytes (s.cfgWord 0x348 + v % 2 ^ 16 * 2 ^ 16) 4 } }
  | 0x34C => { s with link := { l with doe := l.doe.drop 4 } }
  | _ => s

end Sys2Proof.Machine
end

