-- ==== Sys2Proof/Machine/Pins.lean ====
section
/-!
DEFINITION. The output pins that ladder states and resets govern (R591): what each output shows in a state.
-/

namespace Sys2Proof.Machine

/-- What an output pin shows (R591): an open-drain output is asserted or released. -/
inductive Pin where
  | undriven | low | high | asserted | released
  /-- The self-refresh levels of Slumber, and the levels the GDDR6 controllers drive. -/
  | selfRefresh | controller
  deriving DecidableEq, Repr

/-- Without VSB no pin of the porch is driven. -/
def State.whenVsb (s : State) (p : Pin) : Pin := if s.power.vsb then p else .undriven

/-- A push-pull output at a level. -/
def Pin.level (up : Bool) : Pin := if up then .high else .low

/-- The device shows the Off column: Off, Hibernate, or THERMTRIP# asserted whatever the ladder state (R591). -/
def State.pinsOff (s : State) : Bool := s.power.tripped || decide (5 ≤ s.power.ladder)

/-- `PWR_EN[n]` (R555, R556, R591): Slumber keeps group 4 alone, Hibernate and Off keep none. -/
def State.pwrEn (n : Fin 5) (s : State) : Pin := s.whenVsb (Pin.level (!s.pinsOff && s.power.enabled.getLsbD n.val))

/-- OSC_EN (R554, R591): low in Off, high in Hibernate. -/
def State.oscEn (s : State) : Pin := s.whenVsb (Pin.level (!s.power.tripped && decide (s.power.ladder ≤ 5)))

/-- The level of a PPS output: its active level until the pulse ends, and the other level of the command's POLARITY outside a pulse (R187). -/
def Pps.level (p : Pps) (clock : Nat) : Bool :=
  match p.fall with
  | some c => if clock < c then !p.low else p.low
  | none => !p.block.isEmpty && decide (fld p.block 2 1 = 1)

/-- `PPS_OUT[n]` (R187, R591). -/
def State.ppsPin (n : Fin 4) (s : State) : Pin := s.whenVsb (Pin.level (!s.pinsOff && (s.ppsOut n.val).level s.clock))

/-- WAKE# (R47, R591): asserted only to signal PME, and released above Slumber. -/
def State.wakePin (s : State) : Pin := if s.power.vsb ∧ 4 ≤ s.power.ladder ∧ s.link.wakeAsserted then .asserted else .released

/-- CLKREQ# (R547, R591). -/
def State.clkreqPin (s : State) : Pin := if s.power.vsb ∧ !s.power.tripped ∧ s.power.ladder < 4 ∧ s.clkreq then .asserted else .released

/-- THERMTRIP# (R561, R591): asserted from a trip until it is released. -/
def State.thermtripPin (s : State) : Pin := if s.power.vsb ∧ s.power.tripped then .asserted else .released

/-- `G6_CKE#[n]` and `G6_RESET#[n]` (R591), one answer for all of them. -/
def State.g6Hold (s : State) : Pin := s.whenVsb (if s.pinsOff then .low else if s.power.ladder = 4 then .selfRefresh else .controller)

end Sys2Proof.Machine
end

