-- ==== Sys2Proof/Machine/Views.lean ====
section
/-!
DEFINITION. What a read of a register of BAR0 or of a room page shows (R7, R11, R35, R72, R73, R75, R107, R153, R171, R190, R233, R236,
R263, R282, R292, R317, R326, R388, R416, R447, R471, R513, R544, R564, R581).
-/

namespace Sys2Proof.Machine

/-! ## Status words -/

/-- `DEVICE.GEN_STATUS` (R35). -/
def State.genStatus (s : State) : Nat := s.gen.previous * 2 ^ 16 + s.gen.current

/-- `DEVICE.GEN_STATE` (R35). -/
def State.genState (s : State) : Nat :=
  b01 s.gen.warn * 16 + b01 s.gen.rolledBack * 8 + b01 s.gen.stalled * 4 + b01 s.gen.prevLive * 2 + b01 s.gen.inProgress

/-- `DEVICE.PROFILE` (R37). A choice that is staged and not yet committed does not show: the register's reset value stands until LOCKED is 1
(DESIGN CHOICE, log entry 78). -/
def State.profileWord (s : State) : Nat := if s.gen.locked then 256 + s.gen.profile else 0

/-- `HOSTLINK.LINK_STATUS` (R73). -/
def State.linkStatus (s : State) : Nat :=
  let l := s.link
  b01 (l.ide.any fun e => decide (e.1 ≠ 0) && decide (e.2.state = IdeState.secure)) * 2 ^ 20 + b01 (decide ((s.ideStream 0).state = IdeState.secure)) * 2 ^ 19 +
    b01 l.flit * 2 ^ 18 + b01 l.bme * 2 ^ 17 + b01 l.dlUp * 2 ^ 16 + l.lanes * 2 ^ 8 + l.rate

/-- `TIME.STATUS` (R190). -/
def State.timeStatus (s : State) : Nat :=
  let t := s.time
  (if !t.syncOn then 0 else if t.acquiring then 1 else 2) * 64 + b01 (if t.fired then t.nextSlew else t.slewing) * 32 + b01 t.holdover * 16 +
    b01 (t.refSel && t.refPresent) * 4 + b01 t.isSet + ((s.reg R.TIME_STATUS).toNat &&& 0x0A)

/-- `PWR.STATE` (R564). -/
def State.pwrState (s : State) : Nat := s.heldBy * 2 ^ 16 + s.power.wakeCause * 2 ^ 8 + s.power.target * 16 + s.power.ladder

/-- `PWR.STATUS` (R564). -/
def State.pwrStatus (s : State) : Nat := ((s.reg R.PWR_STATUS).toNat &&& 0x31F00) + s.power.good.toNat

/-- `SR.STATUS` (R388). -/
def State.srStatus (s : State) : Nat :=
  let x := s.sr
  x.fuses.ownerSlot.getD 7 * 2 ^ 13 + b01 x.sealStopped * 512 + b01 x.sealNewBusy * 256 + b01 x.sealNext.isSome * 128 + b01 x.entropyFail * 64 +
    b01 x.vaultLocked * 32 + b01 x.vaultOpen * 16 + b01 x.dipFrozen * 8 + x.bootSlot * 4 + b01 x.trial * 2 + b01 x.romDone

/-- `TM.GATE_STATUS` of a port (R292). -/
def State.gateStatus (s : State) (port : Nat) : Nat :=
  let g := s.gate port
  if gateOn g.list then g.entry * 2 ^ 16 + 256 + gateStates g.list g.entry else 0xFF

/-- `RINGENG.INTR_HELD` (R159). -/
def State.intrHeld (s : State) : Nat :=
  (s.link.msix.filter fun e => e.2.pending).length + (s.msgs.filter fun e => e.2.pending).length

/-- `THR.STATE` of a thread (R326). -/
def State.thrState (s : State) (t : Nat) : Nat :=
  let x := s.thread t
  let c := x.stateCode
  (if 2 ≤ c ∧ c ≤ 4 then x.object * 2 ^ 16 else 0) + b01 (s.isAnnex t) * 2 ^ 15 + x.group * 2 ^ 8 + c

/-- `THR.STATUS` (R326). -/
def State.thrStatus (s : State) : Nat := (s.cores.threads.filter fun e => e.2.halted).length * 2 ^ 12 + b01 s.cores.lhReady

/-- `THR.ANNEX_CORES` (R326). -/
def State.annexWord (s : State) : Nat := (s.cores.annexCores.map fun c => 2 ^ (c / 64 * 16 + c % 64 - 32)).sum

/-- `DBG.THREAD_STAGED` (R317). -/
def State.stagedWord (s : State) : Nat :=
  match (s.thread s.selected).staged with
  | some (line, beats) => beats.length * 2 ^ 16 + line
  | none => 0

/-- `RINGS.OWNER_EVENT_OVERFLOW` (R153). -/
def State.ownerOverflow (s : State) : Nat := ((List.range 16).map fun n => b01 (s.ring (ownerEventRef n)).overflow * 2 ^ n).sum

/-! ## Registers whose value other state holds -/

/-- Identity and host link, front door and ring engine. -/
def State.viewLink (s : State) (o : Nat) : Option Nat :=
  if o = R.DEVICE_GEN_STATUS then some s.genStatus
  else if o = R.DEVICE_GEN_STATE then some s.genState
  else if o = R.DEVICE_GEN_APPLIED then some s.gen.applied.toNat
  else if o = R.DEVICE_GEN_DEFERRED then some s.gen.deferred.toNat
  else if o = R.DEVICE_PROFILE then some s.profileWord
  else if o = R.HOSTLINK_LINK_STATUS then some s.linkStatus
  else if o = R.HOSTLINK_NP_LIMIT then some (s.npEffective * 2 ^ 16 + (s.reg o).toNat % 2 ^ 16)
  else if o = R.HOSTLINK_TAG_QUARANTINE then some s.quarantine
  else if o = R.HOSTLINK_BME_HALTED then some s.haltedCount
  else if o = R.FRONTDOOR_HEAD then some (s.ring frontDoorRef).next
  else if o = R.RINGS_OWNER_EVENT_OVERFLOW then some s.ownerOverflow
  else if o = R.RINGENG_INTR_HELD then some s.intrHeld
  else none

/-- Time and scheduling, ports, traffic manager, switch. -/
def State.viewTime (s : State) (o : Nat) : Option Nat :=
  if o = R.TIME_NOW_FRAC then some s.now.frac
  else if o = R.TIME_NOW_NS then some s.time.latch.ns
  else if o = R.TIME_NOW_SEC then some s.time.latch.sec
  else if o = R.TIME_STATUS then some s.timeStatus
  else if o = R.PERIOD_LENGTH then some s.time.periodUs
  else if o = R.SCHED_PENDING then some s.cmd.stored.length
  else if R.PORT_STATUS ≤ o ∧ o < 0x340000 ∧ (o - R.PORT_STATUS) % 0x10000 = 0 then some (s.portStatus ((o - R.PORT_STATUS) / 0x10000))
  else if R.TM_GATE_STATUS ≤ o ∧ o < R.TM_GATE_STATUS + 16 then some (s.gateStatus ((o - R.TM_GATE_STATUS) / 4))
  else if R.TM_GATE_CYCLE ≤ o ∧ o < R.TM_GATE_CYCLE + 16 then
    let g := s.gate ((o - R.TM_GATE_CYCLE) / 4)
    some (if gateOn g.list then gateCycle g.list else 0)
  else if o = R.SW_BSTAIR_STATUS then some s.stairStatus
  else none

/-- Memory, power, faults, threads, tiles. REGION_LIMIT is a region's last address (DEDUCED, log entry 55). -/
def State.viewCores (s : State) (o : Nat) : Option Nat :=
  if o = R.MEM_STATUS then some s.memStatus
  else if R.MEM_REGION_BASE ≤ o ∧ o < R.MEM_REGION_BASE + 16 * 23 then
    let r := s.regionSpan ((o - R.MEM_REGION_BASE) / 16)
    some (if !s.memory.sramReady then 0 else if (o - R.MEM_REGION_BASE) % 16 = 0 then r.1 else r.2)
  else if o = R.PWR_STATE then some s.pwrState
  else if o = R.PWR_STATUS then some s.pwrStatus
  else if o = R.REPLAY_STATUS then some s.replayStatus
  else if o = R.FAULT_LEDGER_NEXT then some s.fault.ledgerNext
  else if o = R.THR_STATUS then some s.thrStatus
  else if o = R.THR_ANNEX_CORES then some s.annexWord
  else if R.THR_STATE ≤ o ∧ o < R.THR_STATE + 4 * 2048 then some (s.thrState ((o - R.THR_STATE) / 4))
  else if R.TILE_STATUS ≤ o ∧ o < R.TILE_STATUS + 4 * 40 then some (s.tileStatus ((o - R.TILE_STATUS) / 4))
  else none

/-- Seal, sweep, strongroom, drive fabric, debug window. -/
def State.viewStore (s : State) (o : Nat) : Option Nat :=
  if o = R.SEAL_STATUS then some s.sealStatusNow
  else if o = R.SEAL_EPOCH then some s.openNumber
  else if o = R.SEAL_LAST_PUBLISHED then some s.lastPublished
  else if o = R.SEAL_PLACES then some s.placesTaken
  else if o = R.SEAL_UNPUBLISHED then some (s.store.rope.closed.length % 4)
  else if o = R.SWEEP_STATUS then some s.sweepStatus
  else if o = R.SR_MBOX_STATUS then some (b01 s.sr.mboxDone * 2 + b01 s.sr.mboxBusy)
  else if o = R.SR_STATUS then some s.srStatus
  else if o = R.STORE_STATUS then some s.storeStatus
  else if o = R.DRV_FABRIC then some s.drvFabric
  else if R.DRV_PORT_STATUS ≤ o ∧ o < R.DRV_PORT_STATUS + 32 then some (s.drvPort ((o - R.DRV_PORT_STATUS) / 4))
  else if o = R.DBG_THREAD_CTRL then some (b01 (s.thread s.selected).halted)
  else if o = R.DBG_THREAD_PC then some (if (s.thread s.selected).halted then (s.thread s.selected).pc.toNat else 0)
  else if o = R.DBG_THREAD_STAGED then some s.stagedWord
  else none

/-- The value of the register at base offset `o`: computed, or held in the register file; bits that are write-only read zero. -/
def State.readReg (s : State) (o : Nat) : Nat :=
  match s.viewLink o, s.viewTime o, s.viewCores o, s.viewStore o with
  | some v, _, _, _ | none, some v, _, _ | none, none, some v, _ | none, none, none, some v => v
  | none, none, none, none => (s.reg o).toNat

/-- Registers longer than 8 bytes, as bytes. -/
def State.longReg (s : State) (o : Nat) : Option (List Byte) :=
  if o = R.PERIOD_LAST then some s.time.last.bytes
  else if o = R.PERIOD_NEXT then some s.nextBoundary.bytes
  else if o = R.SYNC_LAST_EDGE then some s.time.lastEdge.bytes
  else if o = R.CLS_WIN_DATA then some (fit s.cls.winData 160)
  else none

/-! ## Tables in the indirect windows, and arrays without a register of their own -/

/-- The 8 bytes at an offset that is a multiple of 8: batch slots (R471), tile work (R416), action records and counters (R234, R236),
policer counters (R282), leaf drop counters (R292). An action record reads as most recently written, committed or not (R7). -/
def State.tableQuad (s : State) (o : Nat) : Nat :=
  if 0x907100 ≤ o ∧ o < 0x907300 then fld (s.batchSlot ((o - 0x907100) / 32)) ((o - 0x907100) % 32) 8
  else if 0x904200 ≤ o ∧ o < 0x904340 then (s.reg o).toNat
  else if 0x1000000 ≤ o ∧ o < 0x1400000 then
    fld (s.writtenAction ((o - 0x1000000) / 64)) ((o - 0x1000000) % 64) 8
  else if 0x1400000 ≤ o ∧ o < 0x1440000 then (Tbl.get (fun _ => 0) s.pipe.actionCount ((o - 0x1400000) / 8)).toNat
  else if 0x1500000 ≤ o ∧ o < 0x1600000 then
    let p := s.policer ((o - 0x1500000) / 16)
    (if (o - 0x1500000) % 16 = 0 then p.conform else p.dropped).toNat
  else if 0x1800000 ≤ o ∧ o < 0x1A80000 then
    let k := (o - 0x1800000) / 8
    (s.leaf (leafKey (k / 65536) (k % 65536))).drops
  else 0

/-! ## Words -/

/-- The 4 bytes at a word-aligned offset of BAR0. An offset that no chapter assigns reads zero (R11). -/
def State.word0 (s : State) (o : Nat) : Nat :=
  match regAt o with
  | some (_, base) =>
    match s.longReg base with
    | some bs => fld bs (o - base) 4
    | none => s.readReg base / 2 ^ (8 * (o - base)) % 2 ^ 32
  | none => s.tableQuad (o / 8 * 8) / 2 ^ (8 * (o % 8)) % 2 ^ 32

/-- The 4 bytes at a word-aligned offset of a room page (R106, R107). -/
def State.roomWord (s : State) (room o : Nat) : Nat :=
  let x := s.room room
  match o with
  | 0x8000 => s.roomStatus room
  | 0x8004 => s.roomIdent room
  | 0x8008 => x.generation
  | 0x800C => s.inflight room % 65536
  | 0x8010 => x.notOpenDrop
  | 0x8014 => x.squashed
  | 0x8018 => x.dmaTimeout
  | 0x801C => x.dmaAbort
  | _ => 0

/-- Offsets of the model's flat view of the BARs: BAR0 below 64 MiB, BAR2 from there, BAR4 above it (DESIGN CHOICE, log entry 56). -/
def bar2Base : Nat := 0x4000000
/-- Where BAR4 begins in that view. -/
def bar4Base : Nat := 0x8000000

/-- Where configuration space begins in that view. -/
def configBase : Nat := 0x100000000

/-- A request to the page of a room in RUN that carries no T bit (R71). -/
def State.lacksT (s : State) (off : Nat) (tbit : Bool) : Bool :=
  decide (bar2Base ≤ off ∧ off < bar4Base) && !tbit && decide ((s.room ((off - bar2Base) / 65536)).tdi = .run)

/-- The 4 bytes of the MSI-X table or the Pending Bit Array (R41). -/
def State.msixWord (s : State) (o : Nat) : Nat :=
  if o < 0x8000 then
    let x := s.vec (o / 16)
    match o % 16 / 4 with
    | 0 => x.addr % 2 ^ 32
    | 1 => x.addr / 2 ^ 32
    | 2 => x.data
    | _ => b01 x.masked
  else if 0x80000 ≤ o ∧ o < 0x80100 then ((List.range 32).map fun i => b01 (s.vec ((o - 0x80000) * 8 + i)).pending * 2 ^ i).sum
  else 0

/-- The 4 bytes that a read returns. -/
def State.barWord (s : State) (o : Nat) : Nat :=
  if o < bar2Base then (if s.windowOpen o then s.word0 o else 0)
  else if o < bar4Base then s.roomWord ((o - bar2Base) / 65536) ((o - bar2Base) % 65536)
  else s.msixWord (o - bar4Base)

/-- The bits of a read-to-clear register that a read of 4 bytes clears (R7, R8), and the time latch of `TIME.NOW_FRAC` (R173). -/
def State.afterRead (s : State) (o : Nat) : State :=
  if o < bar2Base && s.windowOpen o then
    if o = R.TIME_NOW_FRAC then { s with time := { s.time with latch := s.now } }
    else match regAt o with
      | some (i, base) => s.clearBits base (i.rc / 2 ^ (8 * (o - base)) % 2 ^ 32 * 2 ^ (8 * (o - base)))
      | none => s
  else s

/-- RC_COUNTER_READ (R7, R8): a read of 4 or 8 bytes returns the value and clears what is read-to-clear. Every other register is read by
the same command, also those of configuration space (R39 to R43, R72): the table has no row of its own for a plain read. -/
def execRcCounterRead (off : Nat) (access : Access) (s : State) : Res :=
  let wide := access.wide
  let size := if wide then 8 else 4
  if configBase ≤ off then .next (s.config fun s => s.emit (.value off (BitVec.ofNat 64 (s.configWord (off - configBase)))))
  else if !s.barOpen then .next s.barRefuse
  else if off % size ≠ 0 then .next (s.bump R.HOSTLINK_BAD_ACCESS).barRefuse
  else if s.lacksT off access.tbit then .next s.barRefuse
  else
    let s := if 0x800000 ≤ off ∧ off < 0x900000 then s else s.rouse
    let v := s.barWord off + (if wide then s.barWord (off + 4) * 2 ^ 32 else 0)
    let s := s.afterRead off
    let s := if wide then s.afterRead (off + 4) else s
    .next (s.emit (.value off (BitVec.ofNat 64 v)))

/-- BAR_BAD_ACCESS (R42): an access of another size or alignment is refused and counted. -/
def execBarBadAccess (read : Bool) (s : State) : Res :=
  if !s.barOpen then .next (if read then s.barRefuse else s)
  else .next (if read then (s.bump R.HOSTLINK_BAD_ACCESS).barRefuse else s.bump R.HOSTLINK_BAD_ACCESS)

end Sys2Proof.Machine
end

