-- ==== Sys2Proof/Machine/Packets.lean ====
section
/-!
DEFINITION. Command packets on their paths: the front door, the room command rings and the mailbox, scheduled commands, progress, period
boundaries, and register writes (R7, R42, R62, R75 to R77, R82, R83, R86, R89 to R95, R136, R138, R150, R153, R174, R183, R387).
-/

namespace Sys2Proof.Machine

/-! ## DEV_IDENTIFY and DEV_STATUS (R86) -/

/-- The reply data of DEV_IDENTIFY. -/
def State.identity (s : State) : List Byte :=
  let other := if (s.slot (1 - s.sr.bootSlot)).state = 1 then (s.flashImage (1 - s.sr.bootSlot)) 8 4 else pad 4
  leBytes s.sr.fuses.serial 8 ++ leBytes 0x1FA7 2 ++ leBytes 0x3200 2 ++ leBytes 0x10 1 ++ leBytes (s.profileWord % 4) 1 ++ leBytes s.roomLimit 2 ++
    leBytes (fld s.sr.header 8 4) 4 ++ other ++ leBytes s.sr.fuses.secureVersion 4 ++ leBytes (fld s.sr.annexHeader 8 4) 4 ++
    leBytes (fld s.sr.header 0x18 2) 2 ++ leBytes (fld s.sr.header 0x1A 2) 2 ++
    leBytes (b01 s.sr.recovery * 4 + b01 s.sr.trial * 2 + s.sr.bootSlot) 1 ++ leBytes s.sr.debugLevel 1 ++ pad 2 ++
    [0x4B, 0x58, 0x2D, 0x56, 0x58, 0x33, 0x32, 0x30, 0x30, 0x2D, 0x46, 0x42, 0x37, 0x32, 0, 0] ++ pad 8

/-- DEV_IDENTIFY (0x0001, R86). -/
def cmdDevIdentify : Command where
  opcode := 0x0001
  front := true
  room := true
  mctp := true
  recovery := true
  sched := false
  shape := fixedShape 0
  zero := fun _ => true
  body := fun _ s => .done .ok s.identity s

/-- The reply data of DEV_STATUS; in recovery the fields of units that do not run read zero. -/
def State.deviceStatus (s : State) : List Byte :=
  let live (n : Nat) : Nat := if s.sr.recovery then 0 else n
  leBytes s.kxStatus 4 ++ leBytes (live s.genStatus) 4 ++ leBytes (live s.genState) 4 ++ leBytes s.pwrState 4 ++ leBytes (live s.storeStatus) 4 ++
    leBytes s.srStatus 4 ++ leBytes (live s.replayStatus) 4 ++ leBytes (bits (s.reg R.THERMAL_STATUS).toNat 13 4) 2 ++ pad 2

/-- DEV_STATUS (0x0002, R86). -/
def cmdDevStatus : Command where
  opcode := 0x0002
  front := true
  room := false
  mctp := true
  recovery := true
  sched := false
  shape := fixedShape 0
  zero := fun _ => true
  body := fun _ s => .done .ok s.deviceStatus s

/-! ## The opcode table (R85) -/

/-- Commands of groups 0x00 to 0x03. -/
def commands1 : List Command :=
  [cmdDevIdentify, cmdDevStatus, cmdDevReset, cmdCfgCommit, cmdCfgRollback, cmdDeviceProfile, cmdCfgDiscard, cmdCfgQuery, cmdRoomQuery, cmdRoomFurnish,
    cmdRoomOpen, cmdRoomClose, cmdRoomReset, cmdRoomVacate, cmdRoomFreeze, cmdRoomSave, cmdRoomRestore, cmdRoomThaw, cmdRoomDoze, cmdRoomMsgSet,
    cmdRoomPolicy, cmdRoomDirtyLog, cmdRingCreate, cmdRingDestroy, cmdRingEnable, cmdRingDisable, cmdRingModerate, cmdRingWeight, cmdRingRxMode,
    cmdPortConfig, cmdPortAdmin, cmdPortQuery, cmdPortPtp]

/-- Commands of groups 0x04 to 0x08. -/
def commands2 : List Command :=
  [cmdClsBankLoad, cmdClsBankSelect, cmdClsKeyProfile, cmdClsHashSet, cmdClsException, cmdClsTunnel, cmdClsMirror, cmdTmNodeSet, cmdTmShaperRate,
    cmdTmPolicerSet, cmdTmGateList, cmdTmTelemetry, cmdTimeSet, cmdTimeAdjust, cmdPeriodSet, cmdSyncConfig, cmdPpsSet, cmdSchedCancel, cmdSchedQuery,
    cmdKeyDomainCreate, cmdKeyDomainRotate, cmdKeyDomainDestroy, cmdKeyDomainQuery, cmdKeyImportWrapped, cmdKeySaAdd, cmdKeySaDelete, cmdKeySealNew,
    cmdSealStatus, cmdSealPubkeys, cmdSealExport, cmdSealHandover, cmdSealAccept]

/-- Commands of groups 0x09 to 0x0D. -/
def commands3 : List Command :=
  [cmdVolCreate, cmdVolDestroy, cmdNsCreate, cmdNsDelete, cmdJournalSet, cmdStorageOpen, cmdSweepSet, cmdTranscryptStart, cmdTranscryptCancel, cmdNvmtSet,
    cmdDriveQuery, cmdMemMarch, cmdMemRegionSet, cmdMemErrQuery, cmdPwrState, cmdPwrPolicy, cmdDbgNonce, cmdDbgUnlock, cmdDbgLock, cmdDbgLedger,
    cmdDbgStallPolicy, cmdFwQuery, cmdFwLoad, cmdFwActivate, cmdAnnexLoad, cmdAnnexCores]

/-- The command of an opcode. -/
def commandOf (opcode : Nat) : Option Command := (commands1 ++ commands2 ++ commands3).find? fun c => decide (c.opcode = opcode)

/-! ## Begin a command (R74, R82, R88) -/

/-- Submit a packet by its opcode. In recovery the ring engine itself completes a front-door packet outside the subset, known or not (R74,
R96). -/
def State.submitPacket (s : State) (opcode : Nat) (p : Packet) : State :=
  match commandOf opcode with
  | some c => c.submit p s
  | none => s.reply p.scoped opcode (if s.sr.recovery && decide (p.path = Path.frontDoor) then .notPermitted else .invalidOpcode) [] false none p.dry

/-- The path of a command ring, or of the mailbox. -/
def refPath (ref : Nat) : Path := if ref = frontDoorRef then .frontDoor else if ref = mailboxRef then .mailbox else .roomRing (refRoom ref)

/-- The path takes packets now (R75, R96, R551): housekeepers or the recovery machines are there, and the room's state lets its command ring
be served. -/
def State.pathUp (s : State) (path : Path) : Bool :=
  match path with
  | .frontDoor => s.sr.ready || s.sr.recovery
  | .roomRing r => s.sr.ready && (match (s.room r).state with | .furnished | .opened | .frozen => true | _ => false)
  | .mctp => (s.sr.ready || s.sr.recovery) && decide (s.power.ladder ≤ 2)
  | .mailbox => s.sr.romDone

/-- A command packet fetched from a ring entry. -/
def State.fetchedPacket (s : State) (ref i : Nat) (bs : List Byte) (pass : Bool) : Fetched :=
  fetchedOf ref i (refPath ref) bs ((s.ring ref).base + 64 * i) pass

/-- Fetch entries of a command ring up to its TAIL, at most as many as given. -/
def State.fetchAll (s : State) (ref : Nat) : Nat → State
  | 0 => s
  | n + 1 =>
    match s.fetch ref with
    | none => s
    | some (i, pass, bs, s') =>
      State.fetchAll { s' with cmd := { s'.cmd with fetched := s'.cmd.fetched ++ [s'.fetchedPacket ref i bs pass] } } ref n

/-- Command rings of rooms with entries to fetch, from the one after the ring served last, around (R147). -/
def State.commandRings (s : State) : List Nat :=
  let refs := (s.rings.filter fun e => decide (refKind e.1 = 4 ∧ e.1 ≠ frontDoorRef) && decide (e.2.posted ≠ 0) && s.pathUp (refPath e.1)).map fun e => e.1
  (refs.filter fun r => decide (s.arb.cmdLast < r)) ++ refs.filter fun r => decide (r ≤ s.arb.cmdLast)

/-- One round of the command arbiter (R147): the front door first, as long as it has entries, then one packet of each room's command ring. -/
def State.commandRound (s : State) : State :=
  let s := if s.pathUp .frontDoor then (s.askEntry frontDoorRef).fetchAll frontDoorRef 65536 else s
  s.commandRings.foldl (fun s ref => (State.askEntry { s with arb := { s.arb with cmdLast := ref } } ref).fetchAll ref 1) s

/-- Rounds of the command arbiter, until nothing is left to fetch. -/
def State.commandRounds (s : State) : Nat → State
  | 0 => s
  | n + 1 =>
    let t := s.commandRound
    if t.cmd.fetched.length = s.cmd.fetched.length then t else t.commandRounds n

/-- A command of the ring has begun, is not long-running, and has not replied (R82). -/
def State.ringBusy (s : State) (ref : Nat) : Bool :=
  s.cmd.running.any fun r => !r.long && decide (Path.ringRef r.ctx.pkt.path = some ref) && (match r.ctx.sched with | .now | .late => true | _ => false)

/-- A work item that reads a command's parameter block. -/
def Fetched.reader (f : Fetched) (id : Nat) : Entry where
  id := id
  index := f.index
  pass := f.pkt.pass
  tag := f.pkt.tag
  desc := []
  reads := 0
  redo := []
  pages := []
  ponr := false
  waited := 0
  halted := false
  failed := none
  journal := none
  complete := false
  ended := none

/-- The read of a fetched command's parameter block starts (R80). -/
def State.readParams (s : State) (f : Fetched) : State :=
  let (id, s) := s.workId
  let s := { s with cmd := { s.cmd with fetched := s.cmd.fetched.map fun (g : Fetched) => if g = f then { g with work := id } else g } }
  s.beginReads f.ref (f.reader id) [(f.ptr, f.len)]

/-- The first fetched command of its ring waits for nothing but its turn. -/
def State.mayBegin (s : State) (f : Fetched) : Bool :=
  decide ((s.cmd.fetched.find? fun g => decide (g.ref = f.ref)) = some f) && decide (f.work = 0) && !s.ringBusy f.ref && s.pathUp (refPath f.ref)

/-- Begin the first fetched command that may begin: its parameter block is read whole before it executes (R80). -/
def State.beginOne (s : State) : Option State :=
  (s.cmd.fetched.find? fun f => s.mayBegin f).map fun f =>
    if f.len ≠ 0 then s.readParams f
    else State.submitPacket { s with cmd := { s.cmd with fetched := s.cmd.fetched.filter fun g => decide (g ≠ f) } } f.opcode f.pkt

/-- Begin fetched commands while one may begin. -/
def State.beginAll (s : State) : Nat → State
  | 0 => s
  | n + 1 => match s.beginOne with
    | some s => s.beginAll n
    | none => s

/-! ## Time steps (R93) -/

/-- The stored one-shot command that is due first: by AT_TIME, then by acceptance (R92). -/
def firstDue (now : Nat) : List Stored → Option Stored
  | [] => none
  | e :: es =>
    let rest := firstDue now es
    if e.pkt.periodic ∨ now < e.pkt.atTime.units then rest
    else match rest with
      | some f => if f.pkt.atTime.units < e.pkt.atTime.units then some f else some e
      | none => some e

/-- Release a stored command: it meets the same checks as an immediate one (R92). `late` says that a step passed its time (R93). -/
def State.releaseStored (s : State) (e : Stored) (late : Bool) : State :=
  let s : State := { s with cmd := { s.cmd with stored := s.cmd.stored.filter fun g => decide (g.handle ≠ e.handle) } }
  let x : Ctx := ⟨e.opcode, e.pkt, .oneShot e.handle late⟩
  if late && e.pkt.strict then (s.bump R.SCHED_PASSED).schedDone x e.handle .timePassed
  else
    let s := if late then s.bump R.SCHED_LATE else s
    match commandOf e.opcode with
    | none => s
    | some c => match c.refuses s e.pkt with
      | some st => s.schedDone x e.handle st
      | none => c.run x s

/-- Run the one-shot commands that a time step has passed. -/
def State.runPassed (s : State) : Nat → State
  | 0 => s
  | n + 1 => match firstDue s.now.units s.cmd.stored with
    | some e => (s.releaseStored e true).runPassed n
    | none => s

/-- Re-evaluate the pending store after a step of the time base (R93). -/
def State.settleStep (s : State) : State :=
  if s.time.stepped then
    let s := s.runPassed s.cmd.stored.length
    { s with time := { s.time with stepped := false } }
  else s

/-- Start the host reads of long-running commands that wait for them (R56, R82). -/
def State.startReads (s : State) : State :=
  (s.cmd.running.filter fun r => decide (r.reads ≠ [])).foldl (fun s r =>
    let (id, s) := s.workId
    let s : State := { s with cmd := { s.cmd with running := s.cmd.running.map fun q => if q = r then { q with reads := [], work := id } else q } }
    s.beginReads longRef (Entry.fresh id 0 false []) r.reads) s

/-- Fetch from every command ring and begin what may begin. -/
def State.serveAll (s : State) : State :=
  s.together fun s =>
    let s := s.commandRounds 65536
    (s.beginAll (2 * s.cmd.fetched.length)).settleStep.startReads.settleDisable

/-- A batch whose manifest could not be read never begins (R56, R457). -/
def State.dropLoading (s : State) (x : Ctx) : State :=
  if x.opcode ≠ 0x0907 then s
  else { s with store := { s.store with batches := s.store.batches.filter fun b => !(b.2.loading && decide (b.2.id = fld x.pkt.params 0 4)) } }

/-- The work of a long-running command whose data is there (R82), or its end when the read failed (R56). -/
def State.goOn (s : State) (r : Running) : State :=
  match r.ready, (commandOf r.ctx.opcode).bind Command.after with
  | some .done, some f =>
    match f r.ctx (s.unrun r) with
    | .done st data t => t.finish r.ctx st data
    | .part st data t => t.finish r.ctx st data true
    | .held t => t
  | some .timedOut, _ => ((s.unrun r).dropLoading r.ctx).finish r.ctx .dmaTimeout []
  | some .aborted, _ => ((s.unrun r).dropLoading r.ctx).finish r.ctx .dmaAborted []
  | _, _ => s

/-- Long-running commands that may go on do so (DESIGN CHOICE, log entry 1: at the next tick). -/
def State.workOn (s : State) : State := s.together fun s => (s.cmd.running.filter fun r => r.ready.isSome).foldl State.goOn s

/-- The path's command ring has a command that is to end, or to begin, before a new one may begin (R82). -/
def State.pathBusy (s : State) (path : Path) : Bool :=
  match Path.ringRef path with
  | some ref => s.ringBusy ref || s.cmd.fetched.any fun f => decide (f.ref = ref)
  | none => false

/-- A packet in hand that waits for its turn on its ring. -/
def State.queuePacket (s : State) (opcode : Nat) (p : Packet) : State :=
  match Path.ringRef p.path with
  | some ref => { s with cmd := { s.cmd with fetched := s.cmd.fetched ++ [⟨ref, (p.entry.getD 0 - (s.ring ref).base) / 64, opcode, p, 0, 0, 0⟩] } }
  | none => s

/-- A command by a row of its own: its packet begins on its path, in its ring's order. -/
def Command.accept (c : Command) (p : Packet) (s : State) : State :=
  if !s.pathUp p.path then s
  else if s.pathBusy p.path then (s.queuePacket c.opcode p).serveAll
  else (c.submit p s).settleStep.serveAll

/-- What the block does when no command waits: one tick, long-running commands go on, and housekeepers begin fetched commands that have become
free to begin (DESIGN CHOICE, log entry 1). -/
def State.idle (s : State) : State := s.tick.landFrames.winFinish.workOn.endReplay.serveAll.noteIdle

/-! ## Scheduled commands and progress (R83, R91, R92) -/

/-- SCHED_RELEASE (R92): the due one-shot command that comes first; a handle that is not first, or not due, is not released. -/
def execSchedRelease (handle : Nat) (s : State) : Res :=
  match firstDue s.now.units s.cmd.stored with
  | some e => if e.handle = handle then .next ((s.releaseStored e false).settleStep.serveAll) else .next s
  | none => .next s

/-- One execution of a periodic command (R91). -/
def State.runPeriodic (s : State) (e : Stored) : State :=
  let last := decide (e.remaining = 1)
  let next : Stored := { e with started := true, wait := e.pkt.rep.toNat / 2 ^ 16, remaining := e.remaining - 1 }
  let s : State := { s with cmd := { s.cmd with
    stored := if last then s.cmd.stored.filter (fun g => decide (g.handle ≠ e.handle)) else s.cmd.stored.map fun g => if g.handle = e.handle then next else g } }
  let x : Ctx := ⟨e.opcode, e.pkt, .periodic e.handle last⟩
  match commandOf e.opcode with
  | none => s
  | some c => match c.refuses s e.pkt with
    | some st => s.schedDone x e.handle st
    | none => c.run x s

/-- Periodic commands at a boundary (R91): the first execution at the first boundary not before AT_TIME and at least 10 µs after
acceptance, a later one when its interval of boundaries has passed. -/
def State.periodicAt (s : State) : State :=
  (s.cmd.stored.filter fun e => e.pkt.periodic).foldl (fun s e0 =>
    match s.cmd.stored.find? fun e => decide (e.handle = e0.handle) with
    | none => s
    | some e =>
      if !e.started then
        if e.pkt.atTime.units ≤ s.now.units ∧ e.accepted + 10000 ≤ s.clock then s.runPeriodic e else s
      else if e.wait ≤ 1 then s.runPeriodic e
      else { s with cmd := { s.cmd with stored := s.cmd.stored.map fun g => if g.handle = e.handle then { g with wait := g.wait - 1 } else g } }) s

/-- Completion of a running command in parts per thousand: a batch's is its share settled; another command's the manual leaves open. -/
def State.progressOf (s : State) (r : Running) : Nat × State :=
  if r.ctx.opcode = 0x0907 then (s.batchProgress r.object, s)
  else (s.free.1.toNat % 1001, s.free.2)

/-- PROGRESS_EVENT (R83): the `n`-th running command posts its progress, if it is long-running. -/
def execProgressEvent (n : Nat) (s : State) : Res :=
  match s.cmd.running[n]? with
  | none => .next s
  | some r =>
    if !r.long then .next s
    else
      let (v, s) := s.progressOf r
      let s : State := { s with cmd := { s.cmd with running := s.cmd.running.set n { r with lastPost := s.clock, progress := v } } }
      .next (s.postSubmitter r.ctx.pkt.path 3 r.ctx.pkt.tag.toNat v)

/-! ## Period boundaries (R183) and offsets (R174) -/

/-- PERIOD_BOUNDARY (R182, R183): the boundary of the open window fires, once its instant has come. -/
def execPeriodBoundary (s : State) : Res :=
  let s := s.rollWindow
  if s.boundaryDue ∧ s.power.ladder ≤ 4 then
    let p := s.time.periodUs
    .next ((((s.boundary.restartGates).ropeBoundary s.now p).periodicAt.sweepTick).storeRetry.settleStep.serveAll)
  else .next s

/-- APPLY_OFFSET (R93, R174). -/
def execApplyOffset (s : State) : Res := if s.barOpen && s.sr.ready then .next (s.rouse.applyOffset.settleStep.serveAll) else .next s

/-! ## Completions of the device's reads (R54 to R61) -/

/-- COMPLETION_RECEIVED: what waited for the data goes on. -/
def execCompletionReceived (tag : Nat) (status : Fin 4) (final : Bool) (s : State) : Res := .next (s.completionReceived tag status final).serveAll

/-- COMPLETION_TIMEOUT. -/
def execCompletionTimeout (tag : Nat) (s : State) : Res := .next (s.completionTimeout tag).serveAll

/-! ## The front door (R75 to R77) -/

/-- The front door's ring; before its first use it is empty and disabled. -/
def State.frontRing (s : State) : Ring :=
  let r := s.ring frontDoorRef
  if r.live then r else { Ring.absent with live := true, log2 := (s.reg R.FRONTDOOR_CTRL).toNat % 32 }

/-- Commands fetched and not begun are discarded and counted; their entries are passed (R77). -/
def State.discardFront (s : State) : State :=
  let mine := s.cmd.fetched.filter fun f => decide (f.ref = frontDoorRef)
  let r := s.ring frontDoorRef
  let s := s.setRing frontDoorRef (Ring.settle { r with enabled := false, work := [], done := r.done ++ mine.map fun f => f.index } r.size)
  (State.count { s with cmd := { s.cmd with fetched := s.cmd.fetched.filter fun f => decide (f.ref ≠ frontDoorRef) } } R.FRONTDOOR_DISCARDED mine.length)

/-- A write of `FRONTDOOR.CTRL` (R76, R77). -/
def State.frontCtrl (s : State) (v : Nat) : State :=
  let r := s.frontRing
  let vec := bits v 26 16
  if r.enabled then
    let s := s.setRing frontDoorRef { r with vector := vec }
    let s := s.putBits R.FRONTDOOR_CTRL 0x87FF0000 v
    if bit v 31 then s else s.discardFront
  else
    let n := v % 32
    let on := bit v 31 && decide (6 ≤ n ∧ n ≤ 16)
    let s := s.putBits R.FRONTDOOR_CTRL 0x87FF001F (if on then v else v % 2 ^ 31)
    let base := (s.reg R.FRONTDOOR_BASE_HI).toNat * 2 ^ 32 + (s.reg R.FRONTDOOR_BASE_LO).toNat
    let size := 2 ^ n
    let moved := decide (base ≠ r.base ∨ n ≠ r.log2)
    let r := { r with vector := vec, log2 := n, base := base, enabled := on, recorded := none
                      head := (if moved then r.next else r.head) % size, tail := r.tail % size, next := r.next % size, done := if moved then [] else r.done }
    let recorded := s.frontRing.recorded
    let s := s.setRing frontDoorRef (if on then r else { r with recorded := recorded })
    match on, recorded with
    | true, some d => s.doorbell frontDoorRef d
    | _, _ => s

/-- FRONTDOOR_CTRL_WRITE (R76, R77). -/
def execFrontdoorCtrlWrite (v : BitVec 32) (s : State) : Res :=
  if s.barOpen && s.windowOpen R.FRONTDOOR_CTRL then .next ((s.rouse.frontCtrl v.toNat).serveAll) else .next s

/-- A tail write to the front door. -/
def State.frontBell (s : State) (v : Nat) : State := ((s.setRing frontDoorRef s.frontRing).doorbell frontDoorRef v).serveAll

/-- FRONTDOOR_DOORBELL (R75, R135, R136). -/
def execFrontdoorDoorbell (v : BitVec 64) (s : State) : Res :=
  if s.barOpen && s.windowOpen R.FRONTDOOR_DOORBELL then .next (s.rouse.frontBell v.toNat) else .next s

/-! ## Doorbells of rooms and owner rings (R75, R106, R136 to R138, R153) -/

/-- The room page has a doorbell for the ring (R137). -/
def pageHas (ref : Nat) : Bool :=
  !refOwner ref && decide (refRoom ref < 1024) && match refKind ref with
    | 0 | 1 => decide (refIndex ref < 64)
    | 2 => decide (refIndex ref < 32)
    | 3 | 4 => decide (refIndex ref = 0)
    | _ => false

/-- A write to a doorbell of a room page: reserved while the room is vacant; the command ring's is ignored in error and during a reset
(R75, R106). -/
def State.roomBell (s : State) (ref v : Nat) : State :=
  match (s.room (refRoom ref)).state with
  | .vacant => s
  | .inError | .resetting => if refKind ref = 4 then s else s.doorbell ref v
  | _ => if refKind ref = 4 then (s.doorbell ref v).serveAll else (s.doorbell ref v).weedRx ref 65536

/-- RING_DOORBELL (R136, R137): a tail write to a room's work or command ring; the page of a room in RUN takes only writes with the T bit
(R71), and a poisoned write is dropped and reported (R60). -/
def execRingDoorbell (ref : Nat) (v : Payload) (s : State) : Res :=
  if s.barOpen && v.poisoned then .next (s.reportAer .poisonedTlp)
  else if s.barOpen && s.sr.ready && pageHas ref && decide (refKind ref ≠ 3) then
    .next (if s.lacksT (bar2Base + 65536 * refRoom ref) v.tbit then s.reportAer .unsupportedRequest else s.rouse.roomBell ref v.data.toNat)
  else .next s

/-- EVENT_RING_DOORBELL (R136, R153): a consumer head of a room's event ring, under the same rule. -/
def execEventRingDoorbell (room : Fin 1024) (v : Payload) (s : State) : Res :=
  if s.barOpen && v.poisoned then .next (s.reportAer .poisonedTlp)
  else if s.barOpen && s.sr.ready then
    .next (if s.lacksT (bar2Base + 65536 * room.val) v.tbit then s.reportAer .unsupportedRequest else s.rouse.roomBell (roomEventRef room.val) v.data.toNat)
  else .next s

/-- `RINGS.OWNER_DOORBELL` (R138): reserved bits set, or a ring that does not exist, make the write a bad doorbell. -/
def State.ownerBell (s : State) (v : Nat) : State :=
  let kind := bits v 62 60
  if bits v 59 48 ≠ 0 ∨ bits v 31 17 ≠ 0 ∨ 3 < kind then s.bump R.RINGENG_DOORBELL_BAD
  else
    let ref := refOf kind true 0 (bits v 47 32)
    (s.doorbell ref (b01 (bit v 63) * 2 ^ 63 + v % 2 ^ 17)).weedRx ref 65536

/-- OWNER_DOORBELL (R138). -/
def execOwnerDoorbell (v : BitVec 64) (s : State) : Res :=
  if s.barOpen && s.sr.ready then .next (s.rouse.ownerBell v.toNat) else .next s

/-- Acknowledge the overflow of owner event rings (R153). -/
def State.ackOverflow (s : State) (v : Nat) : State :=
  (List.range 16).foldl (fun s n =>
    let ref := ownerEventRef n
    if bit v n && (s.ring ref).overflow then (s.setRing ref { s.ring ref with overflow := false, dropped := 0 }).writeMirror ref 0 else s) s

/-- OWNER_EVENT_OVERFLOW_ACK (R153). -/
def execOwnerEventOverflowAck (v : BitVec 32) (s : State) : Res :=
  if s.barOpen && s.sr.ready then .next (s.rouse.ackOverflow v.toNat) else .next s

/-! ## The strongroom mailbox (R387) -/

/-- A write of `SR.MBOX_DOORBELL`: the strongroom reads the packet (R387). -/
def State.mboxGo (s : State) (v : Nat) : State :=
  if !bit v 0 then s
  else if s.sr.mboxBusy then s.bump R.SR_MBOX_IGNORED
  else
    let (id, s) := s.workId
    let s : State := { s with sr := { s.sr with mboxBusy := true, mboxDone := false, mboxRead := id } }
    s.beginReads mailboxRef (Entry.fresh id 0 false []) [((s.reg R.SR_MBOX_ADDR).toNat, 64)]

/-- MBOX_DOORBELL (R387). -/
def execMboxDoorbell (v : BitVec 32) (s : State) : Res :=
  if s.barOpen && s.windowOpen R.SR_MBOX_DOORBELL && s.sr.romDone then .next (s.rouse.mboxGo v.toNat) else .next s

/-! ## Register writes (R7, R42) -/

/-- The state after a meaning that always goes on. -/
def nextOf (s : State) (r : Res) : State := match r with | .next t => t | _ => s

/-- A write of `CLS.WIN_CMD` (R230). -/
def State.winCmd (s : State) (op : Nat) : State :=
  if op = 0 then s else s.winStart op

/-- A write of `DBG.THREAD_CTRL` at debug level 1 or 2 (R317). -/
def State.threadCtrl (s : State) (v : Nat) : State :=
  let s := if bit v 0 then nextOf s (execHalt s) else s
  let s := if bit v 1 then nextOf s (execResume s) else s
  let s := if bit v 2 then nextOf s (execStep s) else s
  if bit v 3 then nextOf s (execReseat s) else s

/-- A write takes effect by the access codes of a register's bits (R7): `m` are the bits written. -/
def State.writeBits (s : State) (i : RegInfo) (base m v : Nat) : State :=
  let old := (s.reg base).toNat
  let v := v &&& m
  let rw := (i.rw ||| i.rwc) &&& m
  let new := ((old &&& (2 ^ 64 - 1 - rw)) ||| (v &&& rw) ||| (v &&& i.w1s)) &&& (2 ^ 64 - 1 - (v &&& i.w1c))
  let s := s.setReg base (BitVec.ofNat 64 new)
  if i.rwc ≠ 0 then s.stage 0xFFFF base (leBytes new 4) else s

/-- A word of an action record goes to the staging store (R234); record 0 is fixed (R235). -/
def State.writeAction (s : State) (o v : Nat) : State :=
  let i := (o - 0x1000000) / 64
  if i = 0 then s
  else
    let b := splice (s.writtenAction i) ((o - 0x1000000) % 64) (leBytes v 4)
    State.stage { s with pipe := { s.pipe with written := Tbl.set (fun _ => []) s.pipe.written i b } } 0xFFFF (0x1000000 + 64 * i) b

/-- The entry window registers, whose writes the device ignores and counts while an operation is in progress (R231). -/
def isWindowReg (base : Nat) : Bool :=
  [R.CLS_WIN_SELECT, R.CLS_WIN_INDEX, R.CLS_WIN_CMD, R.CLS_WIN_STATUS, R.CLS_WIN_DATA].contains base

/-- A write of 4 bytes to BAR0 at a word-aligned offset (R7, R11, R42). Writes to a register with a row of its own have that row's
effect. -/
def State.writeWord (s : State) (o v : Nat) : State :=
  if 0xC00000 ≤ o ∧ o < 0xD00000 ∧ s.sr.debugLevel = 0 then s.bump R.DBG_REFUSED
  else match regAt o with
    | none => if 0x1000000 ≤ o ∧ o < 0x1400000 then s.writeAction o v else s
    | some (i, base) =>
      if base = R.FRONTDOOR_DOORBELL ∨ base = R.RINGS_OWNER_DOORBELL then s.bump R.HOSTLINK_BAD_ACCESS
      else if base = R.FRONTDOOR_CTRL then (s.frontCtrl v).serveAll
      else if (base = R.FRONTDOOR_BASE_LO ∨ base = R.FRONTDOOR_BASE_HI) ∧ s.frontRing.enabled then s
      else if base = R.RINGS_OWNER_EVENT_OVERFLOW then s.ackOverflow v
      else if base = R.TIME_CTRL then (if bit v 0 then s.applyOffset.settleStep.serveAll else s)
      else if isWindowReg base ∧ s.cls.winOp.isSome then s.bump R.CLS_WIN_REFUSED
      else if base = R.CLS_WIN_CMD then s.winCmd (v % 4)
      else if base = R.CLS_WIN_DATA then { s with cls := { s.cls with winData := splice (fit s.cls.winData 160) (o - base) (leBytes v 4) } }
      else if base = R.SR_MBOX_DOORBELL then s.mboxGo v
      else if base = R.DBG_THREAD_CTRL then s.threadCtrl v
      else if base = R.PWR_STATUS then (if bit v 16 then s.clearBits base 0x11F00 else s)
      else s.writeBits i base (0xFFFFFFFF * 2 ^ (8 * (o - base))) (v * 2 ^ (8 * (o - base)))

/-- The ring whose doorbell lies at an offset of a room page (R137). -/
def doorbellAt (room o : Nat) : Option Nat :=
  if o % 8 ≠ 0 then none
  else if o < 0x200 then some (refOf 0 false room (o / 8))
  else if o < 0x400 then some (refOf 1 false room ((o - 0x200) / 8))
  else if o < 0x500 then some (refOf 2 false room ((o - 0x400) / 8))
  else if o = 0x500 then some (roomEventRef room)
  else if o = 0xA000 then some (commandRef room)
  else none

/-- A write of 4 bytes through any BAR. A 4-byte write to a doorbell is discarded and counted (R42). -/
def State.barWrite (s : State) (o v : Nat) : State :=
  if o < bar2Base then (if s.windowOpen o then s.writeWord o v else s)
  else if o < bar4Base then
    let p := o - bar2Base
    if (doorbellAt (p / 65536) (p % 65536 / 8 * 8)).isSome then s.bump R.HOSTLINK_BAD_ACCESS else s
  else if o - bar4Base < 0x8000 then
    nextOf s (execMsixTableWrite (Fin.ofNat 2048 ((o - bar4Base) / 16)) (Fin.ofNat 4 ((o - bar4Base) % 16 / 4)) (BitVec.ofNat 32 v) s)
  else s

/-- A write of 8 bytes. -/
def State.barWrite8 (s : State) (o v : Nat) : State :=
  if o = R.FRONTDOOR_DOORBELL then (if s.windowOpen o then s.frontBell v else s)
  else if o = R.RINGS_OWNER_DOORBELL then (if s.windowOpen o then s.ownerBell v else s)
  else
    let bell : Option Nat := if bar2Base ≤ o ∧ o < bar4Base then doorbellAt ((o - bar2Base) / 65536) ((o - bar2Base) % 65536) else none
    match bell with
    | some ref => if s.sr.ready then s.roomBell ref v else s
    | none => (s.barWrite o (v % 2 ^ 32)).barWrite (o + 4) (v / 2 ^ 32)

/-! ## Bus Master Enable and power states of PF0 (R47, R62, R150) -/

/-- BME_SET (R62): a write of the Command register with Bus Master Enable 1; a warm restart's reply follows (R571). -/
def execBmeSet (v : BitVec 16) (s : State) : Res :=
  .next (s.config fun s => (State.resumeDma { s.commandBits v with link := { (s.commandBits v).link with bme := true } }).replyWarm.serveAll)

/-- D0_RETURN (R47, R150): a write of the power state D0; held writes and interrupts go out. -/
def execD0Return (v : BitVec 16) (s : State) : Res :=
  .next (s.config fun s =>
    let s := s.pmBits v
    if s.link.dstate = .d3hot then (State.resumeDma { s with link := { s.link with dstate := .d0 } }).serveAll else s)

/-- START_INTERFACE_REQUEST (R68, R127): accepted for an open or frozen room whose TDI is CONFIG_LOCKED; its DMA then runs. -/
def execStartInterfaceRequest (room : Fin 1024) (s : State) : Res :=
  let x := s.room room.val
  if !s.secured then .next s
  else if x.tdi = .locked ∧ (x.state = .opened ∨ x.state = .frozen) then
    .next (((s.setRoom room.val { x with tdi := .run }).tdispAnswer true).serveAll)
  else .next (s.tdispAnswer false)

/-! ## Configuration writes without a row of their own -/

/-- A write of 2 bytes to configuration space; the bit places are the standard's (PRESUMED, log entry 2). A write of a power state that PF0 does
not support, D1 or D2, leaves the power state (R47; PRESUMED, log entry 2). -/
def State.configWrite (s : State) (o v : Nat) : State :=
  let w : BitVec 16 := BitVec.ofNat 16 v
  let l := s.link
  match o with
  | 0x04 => nextOf s (if bit v 2 then execBmeSet w s else execBmeClear w s)
  | 0x44 => if v % 4 = 3 then nextOf s (execD3hotEntry w s) else if v % 4 = 0 then nextOf s (execD0Return w s) else s.pmBits w
  | 0x52 => nextOf s (execMsixControlWrite w s)
  | 0x68 =>
    let s : State := { s.configBits o v with link := { (s.configBits o v).link with
      relaxedEnable := bit v 4, maxPayload := 128 * 2 ^ min (bits v 7 5) 5, maxReadReq := 128 * 2 ^ min (bits v 14 12) 5 } }
    if bit v 15 then nextOf s (execFlrInitiate s) else s
  | 0x70 => { s.configBits o v with link := { (s.configBits o v).link with aspmL1Enable := bit v 1 } }
  | 0x88 => nextOf s (execCtoValueWrite w s)
  | 0x308 => { s with link := { l with tag14 := bit v 2, l0pEnable := bit v 3 } }
  | 0x320 => { s.configBits o v with link := { (s.configBits o v).link with l12Enable := bit v 2 } }
  | 0x32E => { s with link := { l with pasidEnable := bit v 0 } }
  | 0x336 =>
    let s := s.configBits o v
    { s with link := { s.link with atsEnable := bit v 15, ats := if bit v 15 then l.ats else [] } }
  | 0x340 | 0x342 | 0x348 | 0x34A | 0x34C => s.doeWrite o v
  | _ =>
    if ideBase ≤ o ∧ o < ideBase + 128 * 17 then
      let n := (o - ideBase) / 128
      s.setIde n ((s.ideStream n).write ((o - ideBase) % 128) (v % 2 ^ 16))
    else s.configBits o v

/-- REGISTER_WRITE (R7, R42): a write of 4 or 8 bytes through the BARs, or of 2 bytes to configuration space. A poisoned write to a BAR is
discarded and reported (R60), and so is one without the T bit to the page of a room in RUN (R71). -/
def execRegisterWrite (off : Nat) (wide : Bool) (v : Payload) (s : State) : Res :=
  if configBase ≤ off then .next (s.config fun s => s.configWrite (off - configBase) v.data.toNat)
  else if !s.barOpen then .next s
  else if v.poisoned then .next (s.reportAer .poisonedTlp)
  else if off % (if wide then 8 else 4) ≠ 0 then .next (s.bump R.HOSTLINK_BAD_ACCESS)
  else if s.lacksT off v.tbit then .next (s.reportAer .unsupportedRequest)
  else if wide then .next (s.rouse.barWrite8 off v.data.toNat)
  else .next (s.rouse.barWrite off (v.data.toNat % 2 ^ 32))

/-! ## The command rows (R85): a packet of that opcode begins on its path -/

/-- DEV_IDENTIFY (0x0001): Identity, serial number, firmware versions. -/
def execDevIdentify (p : Packet) (s : State) : Res := .next (cmdDevIdentify.accept p s)

/-- DEV_STATUS (0x0002): Global status, ladder state, replay state. -/
def execDevStatus (p : Packet) (s : State) : Res := .next (cmdDevStatus.accept p s)

/-- DEV_RESET (0x0003): Warm restart or cold reset. -/
def execDevReset (p : Packet) (s : State) : Res := .next (cmdDevReset.accept p s)

/-- CFG_COMMIT (0x0004): Commit the staging store. -/
def execCfgCommit (p : Packet) (s : State) : Res := .next (cmdCfgCommit.accept p s)

/-- CFG_ROLLBACK (0x0005): Reinstate the previous generation (R33). -/
def execCfgRollback (p : Packet) (s : State) : Res := .next (cmdCfgRollback.accept p s)

/-- DEVICE_PROFILE (0x0006): Choose Compact or Full (R36). -/
def execDeviceProfile (p : Packet) (s : State) : Res := .next (cmdDeviceProfile.accept p s)

/-- CFG_DISCARD (0x0007): Empty the staging store. -/
def execCfgDiscard (p : Packet) (s : State) : Res := .next (cmdCfgDiscard.accept p s)

/-- CFG_QUERY (0x0008): Read staged or live settings of a unit. -/
def execCfgQuery (p : Packet) (s : State) : Res := .next (cmdCfgQuery.accept p s)

/-- ROOM_QUERY (0x0100): Room state and limits. -/
def execRoomQuery (p : Packet) (s : State) : Res := .next (cmdRoomQuery.accept p s)

/-- ROOM_FURNISH (0x0101): Vacant to furnished: PASID, limits, SRAM regions. -/
def execRoomFurnish (p : Packet) (s : State) : Res := .next (cmdRoomFurnish.accept p s)

/-- ROOM_OPEN (0x0102): Furnished to open. -/
def execRoomOpen (p : Packet) (s : State) : Res := .next (cmdRoomOpen.accept p s)

/-- ROOM_CLOSE (0x0103): Open to furnished. -/
def execRoomClose (p : Packet) (s : State) : Res := .next (cmdRoomClose.accept p s)

/-- ROOM_RESET (0x0104): Drain, squash and reset. -/
def execRoomReset (p : Packet) (s : State) : Res := .next (cmdRoomReset.accept p s)

/-- ROOM_VACATE (0x0105): Furnished to vacant. -/
def execRoomVacate (p : Packet) (s : State) : Res := .next (cmdRoomVacate.accept p s)

/-- ROOM_FREEZE (0x0106): Open to frozen. -/
def execRoomFreeze (p : Packet) (s : State) : Res := .next (cmdRoomFreeze.accept p s)

/-- ROOM_SAVE (0x0107): Write saved state of a frozen room. -/
def execRoomSave (p : Packet) (s : State) : Res := .next (cmdRoomSave.accept p s)

/-- ROOM_RESTORE (0x0108): Load saved state into a vacant room. -/
def execRoomRestore (p : Packet) (s : State) : Res := .next (cmdRoomRestore.accept p s)

/-- ROOM_THAW (0x0109): Frozen to open. -/
def execRoomThaw (p : Packet) (s : State) : Res := .next (cmdRoomThaw.accept p s)

/-- ROOM_DOZE (0x010A): Mark the room dozing or awake; WAKE_ON_COMPLETION. -/
def execRoomDoze (p : Packet) (s : State) : Res := .next (cmdRoomDoze.accept p s)

/-- ROOM_MSG_SET (0x010B): Program the room's 16 interrupt message store entries. -/
def execRoomMsgSet (p : Packet) (s : State) : Res := .next (cmdRoomMsgSet.accept p s)

/-- ROOM_POLICY (0x010C): Drain budget, DMA-timeout policy. -/
def execRoomPolicy (p : Packet) (s : State) : Res := .next (cmdRoomPolicy.accept p s)

/-- ROOM_DIRTY_LOG (0x010D): Start, stop or fetch the DMA dirty-page log. -/
def execRoomDirtyLog (p : Packet) (s : State) : Res := .next (cmdRoomDirtyLog.accept p s)

/-- RING_CREATE (0x0200): Create rings of a room or of the owner. -/
def execRingCreate (p : Packet) (s : State) : Res := .next (cmdRingCreate.accept p s)

/-- RING_DESTROY (0x0201): Remove rings. -/
def execRingDestroy (p : Packet) (s : State) : Res := .next (cmdRingDestroy.accept p s)

/-- RING_ENABLE (0x0202): Enable a ring. -/
def execRingEnable (p : Packet) (s : State) : Res := .next (cmdRingEnable.accept p s)

/-- RING_DISABLE (0x0203): Disable a ring. -/
def execRingDisable (p : Packet) (s : State) : Res := .next (cmdRingDisable.accept p s)

/-- RING_MODERATE (0x0204): Interrupt moderation timer and count. -/
def execRingModerate (p : Packet) (s : State) : Res := .next (cmdRingModerate.accept p s)

/-- RING_WEIGHT (0x0205): Weight and burst of rings and rooms. -/
def execRingWeight (p : Packet) (s : State) : Res := .next (cmdRingWeight.accept p s)

/-- RING_RX_MODE (0x0206): Drop or hold with no posted buffers. -/
def execRingRxMode (p : Packet) (s : State) : Res := .next (cmdRingRxMode.accept p s)

/-- PORT_CONFIG (0x0300): Speed, FEC, MTU, VLAN, pause, PFC. -/
def execPortConfig (p : Packet) (s : State) : Res := .next (cmdPortConfig.accept p s)

/-- PORT_ADMIN (0x0301): Administrative up or down. -/
def execPortAdmin (p : Packet) (s : State) : Res := .next (cmdPortAdmin.accept p s)

/-- PORT_QUERY (0x0302): Link state and training result. -/
def execPortQuery (p : Packet) (s : State) : Res := .next (cmdPortQuery.accept p s)

/-- PORT_PTP (0x0303): Timestamp mode and asymmetry. -/
def execPortPtp (p : Packet) (s : State) : Res := .next (cmdPortPtp.accept p s)

/-- CLS_BANK_LOAD (0x0400): Load a table bank that no live generation references. -/
def execClsBankLoad (p : Packet) (s : State) : Res := .next (cmdClsBankLoad.accept p s)

/-- CLS_BANK_SELECT (0x0401): Choose table banks for the next generation. -/
def execClsBankSelect (p : Packet) (s : State) : Res := .next (cmdClsBankSelect.accept p s)

/-- CLS_KEY_PROFILE (0x0402): Key builder field selection. -/
def execClsKeyProfile (p : Packet) (s : State) : Res := .next (cmdClsKeyProfile.accept p s)

/-- CLS_HASH_SET (0x0403): Hash key, fields, indirection table binding. -/
def execClsHashSet (p : Packet) (s : State) : Res := .next (cmdClsHashSet.accept p s)

/-- CLS_EXCEPTION (0x0404): Actions for PARSE_DEEP, LEN_CONFLICT, fragments. -/
def execClsException (p : Packet) (s : State) : Res := .next (cmdClsException.accept p s)

/-- CLS_TUNNEL (0x0405): Encapsulation and decapsulation entries. -/
def execClsTunnel (p : Packet) (s : State) : Res := .next (cmdClsTunnel.accept p s)

/-- CLS_MIRROR (0x0406): Mirror sessions. -/
def execClsMirror (p : Packet) (s : State) : Res := .next (cmdClsMirror.accept p s)

/-- TM_NODE_SET (0x0500): Hierarchy, weights, bursts, overheads. -/
def execTmNodeSet (p : Packet) (s : State) : Res := .next (cmdTmNodeSet.accept p s)

/-- TM_SHAPER_RATE (0x0501): Shaper rate; honours FORGIVE. -/
def execTmShaperRate (p : Packet) (s : State) : Res := .next (cmdTmShaperRate.accept p s)

/-- TM_POLICER_SET (0x0502): Ingress policers. -/
def execTmPolicerSet (p : Packet) (s : State) : Res := .next (cmdTmPolicerSet.accept p s)

/-- TM_GATE_LIST (0x0503): Gate control list of a port. -/
def execTmGateList (p : Packet) (s : State) : Res := .next (cmdTmGateList.accept p s)

/-- TM_TELEMETRY (0x0504): Depth and delay sampling. -/
def execTmTelemetry (p : Packet) (s : State) : Res := .next (cmdTmTelemetry.accept p s)

/-- TIME_SET (0x0600): Set the time base. -/
def execTimeSet (p : Packet) (s : State) : Res := .next (cmdTimeSet.accept p s)

/-- TIME_ADJUST (0x0601): Tick increment and signed offset. -/
def execTimeAdjust (p : Packet) (s : State) : Res := .next (cmdTimeAdjust.accept p s)

/-- PERIOD_SET (0x0602): Device period P. -/
def execPeriodSet (p : Packet) (s : State) : Res := .next (cmdPeriodSet.accept p s)

/-- SYNC_CONFIG (0x0603): SYNC_IN enable and polarity. -/
def execSyncConfig (p : Packet) (s : State) : Res := .next (cmdSyncConfig.accept p s)

/-- PPS_SET (0x0604): PPS_OUT one-shot or periodic pulses. -/
def execPpsSet (p : Packet) (s : State) : Res := .next (cmdPpsSet.accept p s)

/-- SCHED_CANCEL (0x0605): Remove a pending scheduled command. -/
def execSchedCancel (p : Packet) (s : State) : Res := .next (cmdSchedCancel.accept p s)

/-- SCHED_QUERY (0x0606): List pending scheduled commands. -/
def execSchedQuery (p : Packet) (s : State) : Res := .next (cmdSchedQuery.accept p s)

/-- KEY_DOMAIN_CREATE (0x0700): New key domain and its policy. -/
def execKeyDomainCreate (p : Packet) (s : State) : Res := .next (cmdKeyDomainCreate.accept p s)

/-- KEY_DOMAIN_ROTATE (0x0701): Next key generation. -/
def execKeyDomainRotate (p : Packet) (s : State) : Res := .next (cmdKeyDomainRotate.accept p s)

/-- KEY_DOMAIN_DESTROY (0x0702): Crypto-erase; tombstone record. -/
def execKeyDomainDestroy (p : Packet) (s : State) : Res := .next (cmdKeyDomainDestroy.accept p s)

/-- KEY_DOMAIN_QUERY (0x0703): Policy, usage and generation. -/
def execKeyDomainQuery (p : Packet) (s : State) : Res := .next (cmdKeyDomainQuery.accept p s)

/-- KEY_IMPORT_WRAPPED (0x0704): Import a key wrapped to the attested public key. -/
def execKeyImportWrapped (p : Packet) (s : State) : Res := .next (cmdKeyImportWrapped.accept p s)

/-- KEY_SA_ADD (0x0705): ESP SA, MACsec SC or TLS PSK. -/
def execKeySaAdd (p : Packet) (s : State) : Res := .next (cmdKeySaAdd.accept p s)

/-- KEY_SA_DELETE (0x0706): Remove an SA, SC or PSK. -/
def execKeySaDelete (p : Packet) (s : State) : Res := .next (cmdKeySaDelete.accept p s)

/-- KEY_SEAL_NEW (0x0707): Generate the next pair of seal keys. -/
def execKeySealNew (p : Packet) (s : State) : Res := .next (cmdKeySealNew.accept p s)

/-- SEAL_STATUS (0x0800): Current epoch, key usage, deferral. -/
def execSealStatus (p : Packet) (s : State) : Res := .next (cmdSealStatus.accept p s)

/-- SEAL_PUBKEYS (0x0801): Public seal keys. -/
def execSealPubkeys (p : Packet) (s : State) : Res := .next (cmdSealPubkeys.accept p s)

/-- SEAL_EXPORT (0x0802): Copy a range of knots to host memory. -/
def execSealExport (p : Packet) (s : State) : Res := .next (cmdSealExport.accept p s)

/-- SEAL_HANDOVER (0x0803): Issue a handover knot to a successor. -/
def execSealHandover (p : Packet) (s : State) : Res := .next (cmdSealHandover.accept p s)

/-- SEAL_ACCEPT (0x0804): Accept a predecessor's handover knot. -/
def execSealAccept (p : Packet) (s : State) : Res := .next (cmdSealAccept.accept p s)

/-- VOL_CREATE (0x0900): Volume and layout. -/
def execVolCreate (p : Packet) (s : State) : Res := .next (cmdVolCreate.accept p s)

/-- VOL_DESTROY (0x0901): Remove a volume. -/
def execVolDestroy (p : Packet) (s : State) : Res := .next (cmdVolDestroy.accept p s)

/-- NS_CREATE (0x0902): Virtual namespace on a volume. -/
def execNsCreate (p : Packet) (s : State) : Res := .next (cmdNsCreate.accept p s)

/-- NS_DELETE (0x0903): Remove a virtual namespace. -/
def execNsDelete (p : Packet) (s : State) : Res := .next (cmdNsDelete.accept p s)

/-- JOURNAL_SET (0x0904): Choose the journal drive pair. -/
def execJournalSet (p : Packet) (s : State) : Res := .next (cmdJournalSet.accept p s)

/-- STORAGE_OPEN (0x0905): Open the storage path once replay ends. -/
def execStorageOpen (p : Packet) (s : State) : Res := .next (cmdStorageOpen.accept p s)

/-- SWEEP_SET (0x0906): Fixity sweep schedule and share. -/
def execSweepSet (p : Packet) (s : State) : Res := .next (cmdSweepSet.accept p s)

/-- TRANSCRYPT_START (0x0907): Run a transcryption batch. -/
def execTranscryptStart (p : Packet) (s : State) : Res := .next (cmdTranscryptStart.accept p s)

/-- TRANSCRYPT_CANCEL (0x0908): Stop a batch at an extent boundary. -/
def execTranscryptCancel (p : Packet) (s : State) : Res := .next (cmdTranscryptCancel.accept p s)

/-- NVMT_SET (0x0909): NVMe/TCP target and initiator settings. -/
def execNvmtSet (p : Packet) (s : State) : Res := .next (cmdNvmtSet.accept p s)

/-- DRIVE_QUERY (0x090A): Drive and root port state. -/
def execDriveQuery (p : Packet) (s : State) : Res := .next (cmdDriveQuery.accept p s)

/-- MEM_MARCH (0x0A00): March test. -/
def execMemMarch (p : Packet) (s : State) : Res := .next (cmdMemMarch.accept p s)

/-- MEM_REGION_SET (0x0A01): SRAM regions of masters. -/
def execMemRegionSet (p : Packet) (s : State) : Res := .next (cmdMemRegionSet.accept p s)

/-- MEM_ERR_QUERY (0x0A02): ECC and repair log. -/
def execMemErrQuery (p : Packet) (s : State) : Res := .next (cmdMemErrQuery.accept p s)

/-- PWR_STATE (0x0B00): Request a ladder state. -/
def execPwrState (p : Packet) (s : State) : Res := .next (cmdPwrState.accept p s)

/-- PWR_POLICY (0x0B01): Wake budget, cold-node mode, L0p minimum width. -/
def execPwrPolicy (p : Packet) (s : State) : Res := .next (cmdPwrPolicy.accept p s)

/-- DBG_NONCE (0x0C00): Fresh unlock nonce. -/
def execDbgNonce (p : Packet) (s : State) : Res := .next (cmdDbgNonce.accept p s)

/-- DBG_UNLOCK (0x0C01): Enter debug level 1 or 2. -/
def execDbgUnlock (p : Packet) (s : State) : Res := .next (cmdDbgUnlock.accept p s)

/-- DBG_LOCK (0x0C02): Return to level 0. -/
def execDbgLock (p : Packet) (s : State) : Res := .next (cmdDbgLock.accept p s)

/-- DBG_LEDGER (0x0C03): Read the debug ledger. -/
def execDbgLedger (p : Packet) (s : State) : Res := .next (cmdDbgLedger.accept p s)

/-- DBG_STALL_POLICY (0x0C04): Stall sentinel thresholds and actions. -/
def execDbgStallPolicy (p : Packet) (s : State) : Res := .next (cmdDbgStallPolicy.accept p s)

/-- FW_QUERY (0x0D00): Image slots and versions. -/
def execFwQuery (p : Packet) (s : State) : Res := .next (cmdFwQuery.accept p s)

/-- FW_LOAD (0x0D01): Write an image to the inactive flash slot. -/
def execFwLoad (p : Packet) (s : State) : Res := .next (cmdFwLoad.accept p s)

/-- FW_ACTIVATE (0x0D02): Warm restart into the other slot. -/
def execFwActivate (p : Packet) (s : State) : Res := .next (cmdFwActivate.accept p s)

/-- ANNEX_LOAD (0x0D03): Load signed annex code. -/
def execAnnexLoad (p : Packet) (s : State) : Res := .next (cmdAnnexLoad.accept p s)

/-- ANNEX_CORES (0x0D04): Release whole cores to annex code. -/
def execAnnexCores (p : Packet) (s : State) : Res := .next (cmdAnnexCores.accept p s)

end Sys2Proof.Machine
end

