-- ==== Sys2Proof/Machine/Service.lean ====
section
/-!
DEFINITION. Service threads' work on packets: ESP, MACsec and the segments of NVMe/TCP connections (R250 to R253).
-/

namespace Sys2Proof.Machine

/-- Take the first PACKET message of a thread's home line, with its packet. -/
def State.takeHanded (s : State) (t : Nat) : Option (Handed × State) :=
  let l := s.line t
  let handle (m : List Vec) : Nat := fld ((m.map Vec.bytes).flatten) 0x18 4
  let isPacket (m : List Vec) : Bool :=
    decide (fld ((m.map Vec.bytes).flatten) 0 2 = 1) && s.pipe.handed.any fun h => decide (h.handle = handle m)
  match l.queue.find? isPacket with
  | none => none
  | some m =>
    match s.pipe.handed.find? fun h => decide (h.handle = handle m) with
    | none => none
    | some h =>
      let s := s.setLine t { l with queue := l.queue.erase m }
      some (h, { s with pipe := { s.pipe with handed := s.pipe.handed.filter fun g => decide (g.handle ≠ h.handle) }
                        cores := { s.cores with packetLens := Tbl.erase h.handle s.cores.packetLens } })

/-- Session keys of a kind that a room holds, with their handles. -/
def State.roomSessions (s : State) (kind room : Nat) : List (Nat × SessKey) :=
  s.sr.sessions.filter fun e => decide (e.2.kind = kind) && decide (e.2.room = room)

/-- Change a session key's sequence and window. -/
def State.setSession (s : State) (h : Nat) (k : SessKey) : State :=
  { s with sr := { s.sr with sessions := Tbl.put h k s.sr.sessions } }

/-- No SA, SC or connection: the packet goes to the back stair (R251). -/
def State.noSa (s : State) (p : Pkt) : State := (s.bump R.SW_SERVICE_NO_SA).toStair p 5

/-- Return a packet for another pass (R248, R251). It enters by the recirculation input at once (DESIGN CHOICE, log entry 29). -/
def State.again (s : State) (p : Pkt) (bytes : List Byte) : State :=
  if p.pass ≥ 3 then s.dropAt R.SW_RECIRC_LIMIT p
  else
    let m := fld (actionRec (s.pktCfg p) p.action) 0x14 4 % 2 ^ 29
    { s with pipe := { s.pipe with input := s.pipe.input ++ [{ p with bytes := bytes, pass := p.pass + 1, recirc := true, recircMd := m }] } }

/-- Queue a protected packet on the path that its SA names (R251, R253). -/
def State.onPath (s : State) (p : Pkt) (path : Nat) : State :=
  let c := s.pktCfg p
  match pathTarget c path with
  | .leaf d l tunnel _ =>
    match s.encap c p tunnel with
    | .error k => s.dropAt k p
    | .ok (p, s) => if d < 4 ∧ mtuOf c d < p.bytes.length + 4 then s.dropAt R.SW_EGRESS_OVERSIZE p else s.toLeaf d l p
  | .drop (some k) => s.dropAt k p
  | _ => s.dropPkt p

/-- Choose among the SAs a room holds; which of several the thread uses the manual does not say (log entry 30). -/
def State.chooseSa (s : State) (es : List (Nat × SessKey)) : Option ((Nat × SessKey) × State) :=
  match es with
  | [] => none
  | [e] => some (e, s)
  | e :: _ =>
    let f := s.free
    some (es.getD (f.1.toNat % es.length) e, f.2)

/-- OPTIONS of a session record. -/
def SessKey.opt (k : SessKey) (i : Nat) : Bool := bit (fld k.body 3 1) i
/-- IDENT. -/
def SessKey.ident (k : SessKey) : Nat := fld k.body 4 4
/-- Replay window of an ESP SA; 0 selects 1,024 (R252). -/
def SessKey.espWindow (k : SessKey) : Nat := if fld k.body 0x10 4 = 0 then 1024 else fld k.body 0x10 4

/-! ## ESP (RFC 4303, RFC 4106) -/

/-- The full sequence number of a received packet: with ESN its high half is inferred (RFC 4303, appendix A). -/
def espSeq (k : SessKey) (lo : Nat) : Nat :=
  if !k.opt 1 then lo
  else
    let t := k.seq - 1
    let w := k.espWindow
    let tl := t % 2 ^ 32
    let th := t / 2 ^ 32
    if w - 1 ≤ tl then (if tl - (w - 1) ≤ lo then th * 2 ^ 32 + lo else (th + 1) * 2 ^ 32 + lo)
    else if (tl + 2 ^ 32 - (w - 1)) % 2 ^ 32 ≤ lo then (if th = 0 then lo else (th - 1) * 2 ^ 32 + lo)
    else th * 2 ^ 32 + lo

/-- The anti-replay check and update: none for a replayed or too old number. `seq` is one above the highest received. -/
def SessKey.receive (k : SessKey) (f : Nat) : Option SessKey :=
  let w := k.espWindow
  if k.seq ≤ f then some { k with seq := f + 1, window := (k.window * 2 ^ min w (f + 1 - k.seq) + 1) % 2 ^ w }
  else
    let d := k.seq - 1 - f
    if w ≤ d ∨ bit k.window d then none else some { k with window := k.window + 2 ^ d }

/-- An IP packet whose protocol field, lengths and checksum are set for a new payload behind its header chain, which ends at `o`. -/
def reIp (bs : List Byte) (l3 o proto : Nat) (payload : List Byte) : List Byte :=
  if bfld bs l3 1 / 16 = 6 then
    let b := splice bs (nextHeaderAt bs o 8 (l3 + 40) (l3 + 6)) (beBytes proto 1)
    splice (b.take o) (l3 + 4) (beBytes (o - l3 - 40 + payload.length) 2) ++ payload
  else
    let b := splice (splice (bs.take o) (l3 + 2) (beBytes (o - l3 + payload.length) 2)) (l3 + 9) (beBytes proto 1)
    fixIp4 b l3 ++ payload

/-- Put an IP packet behind the Ethernet header that ends at `l3`, with the EtherType of its version. -/
def underEth (bs : List Byte) (l3 : Nat) (ip : List Byte) : List Byte :=
  splice (bs.take l3) (l3 - 2) (beBytes (if bfld ip 0 1 / 16 = 6 then 0x86DD else 0x0800) 2) ++ ip

/-- Additional data of ESP: SPI and the sequence number, 64-bit with ESN. -/
def espAad (spi f : Nat) (esn : Bool) : List Byte :=
  beBytes spi 4 ++ (if esn then beBytes (f / 2 ^ 32) 4 else []) ++ beBytes f 4

/-- ESP inbound (SERVICE 1). A packet that fails its checks is dropped. -/
def State.espIn (s : State) (p : Pkt) (room : Nat) : State :=
  let q := s.parsePkt p
  let l := q.cur
  let bs := p.bytes
  match l.l4off, l.spi with
  | some o, some spi =>
    if l.l4 ≠ 5 then s.noSa p
    else match (s.roomSessions 1 room).find? fun e => decide (e.2.ident = spi) with
      | none => s.noSa p
      | some (h, k) =>
        let f := espSeq k (bfld bs (o + 4) 4)
        if l.l3end < o + 16 + 16 + 2 then s.dropPkt p
        else match k.receive f, gcmOpen k.key (slice k.body 0x20 0x24 ++ slice bs (o + 8) (o + 16)) (espAad spi f (k.opt 1))
            (slice bs (o + 16) (l.l3end - 16)) (slice bs (l.l3end - 16) l.l3end) with
          | some k', some pt =>
            let s := s.setSession h k'
            let n := pt.length
            let padLen := bfld pt (n - 2) 1
            let body := pt.take (n - 2 - padLen)
            if n < 2 + padLen then s.dropPkt p
            else s.again p (if k.opt 0 then underEth bs l.l3off body else reIp bs l.l3off o (bfld pt (n - 1) 1) body)
          | _, _ => s.dropPkt p
  | _, _ => s.noSa p

/-- The ESP packet over a payload: header, IV, ciphertext and ICV. -/
def espSeal (k : SessKey) (iv payload : List Byte) (nh : Nat) : List Byte :=
  let padLen := (4 - (payload.length + 2) % 4) % 4
  let pt := payload ++ ((List.range padLen).map fun i => BitVec.ofNat 8 (i + 1)) ++ beBytes padLen 1 ++ beBytes nh 1
  let e := gcmSeal k.key (slice k.body 0x20 0x24 ++ iv) (espAad k.ident k.seq (k.opt 1)) pt
  beBytes k.ident 4 ++ beBytes k.seq 4 ++ iv ++ e.1 ++ e.2

/-- Where ESP goes in an IPv6 packet in transport mode: behind the hop-by-hop and routing headers, which every hop on the way reads (RFC 4303), and
the Next Header it takes over. The walk stands at `o` in front of header `nh`; `best` is the place so far. -/
def espPlace (bs : List Byte) : Nat → Nat → Nat → Nat → Nat → Nat × Nat
  | 0, _, _, best, bestNh => (best, bestNh)
  | n + 1, o, nh, best, bestNh =>
    let next := bfld bs o 1
    let o' := o + (bfld bs (o + 1) 1 + 1) * 8
    if nh = 0 ∨ nh = 43 then espPlace bs n o' next o' next
    else if nh = 60 then espPlace bs n o' next best bestNh
    else (best, bestNh)

/-- ESP outbound (SERVICE 2). The IV, and in tunnel mode the outer addresses, hop limit and identification, are values the
manual leaves open. A sequence number past its range drops the packet (RFC 4303). -/
def State.espOut (s : State) (p : Pkt) (room : Nat) : State :=
  let q := s.parsePkt p
  let l := q.levels.headD (Level.start 0 0)
  let bs := p.insertSums
  if l.l3 ≠ 1 ∧ l.l3 ≠ 2 then s.noSa p
  else match s.chooseSa (s.roomSessions 2 room) with
    | none => s.noSa p
    | some ((h, k), s) =>
      if (if k.opt 1 then 2 ^ 64 else 2 ^ 32) ≤ k.seq then s.dropPkt p
      else
        let s := s.setSession h { k with seq := k.seq + 1 }
        let iv := s.freeBytes 8
        let s := iv.2
        let v6 := decide (l.l3 = 2)
        let p' : Pkt := { p with l3csum := false, l4csum := false }
        if k.opt 0 then
          let o := s.freeBytes 48
          let e := espSeal k iv.1 (slice bs l.l3off l.l3end) (if v6 then 41 else 4)
          let outer := if v6 then ip6Packet (o.1.take 16) (slice o.1 16 32) 50 (fld o.1 32 1) e
            else ip4Packet (o.1.take 4) (slice o.1 4 8) 50 (fld o.1 32 1) (fld o.1 33 2) e
          o.2.onPath { p' with bytes := underEth bs l.l3off outer } (fld k.body 0x14 2)
        else
          let (at', nh) := if v6 then espPlace bs 8 (l.l3off + 40) (bfld bs (l.l3off + 6) 1) (l.l3off + 40) (bfld bs (l.l3off + 6) 1)
            else (l.l3off + bfld bs l.l3off 1 % 16 * 4, bfld bs (l.l3off + 9) 1)
          let e := espSeal k iv.1 (slice bs at' l.l3end) nh
          s.onPath { p' with bytes := reIp bs l.l3off at' 50 e } (fld k.body 0x14 2)

/-! ## MACsec (IEEE 802.1AE) -/

/-- The nonce of a frame: SCI and PN, or under XPN the SSCI and 64-bit PN over the salt. -/
def macsecNonce (k : SessKey) (pn : Nat) : List Byte :=
  if k.opt 2 then xorBytes (beBytes (fld k.body 0x2C 4) 4 ++ beBytes pn 8) (slice k.body 0x20 0x2C)
  else beBytes (fld k.body 8 8) 8 ++ beBytes pn 4

/-- The packet number of a received frame: under XPN its high half follows the next expected number. -/
def macsecPn (k : SessKey) (lo : Nat) : Nat :=
  if !k.opt 2 then lo
  else k.seq / 2 ^ 32 * 2 ^ 32 + lo + (if 2 ^ 31 ≤ k.seq % 2 ^ 32 ∧ lo < 2 ^ 31 then 2 ^ 32 else 0)

/-- MACsec receive (SERVICE 3). -/
def State.macsecIn (s : State) (p : Pkt) (room : Nat) : State :=
  let q := s.parsePkt p
  let l := q.levels.headD (Level.start 0 0)
  let bs := p.bytes
  let o := l.l3off
  let tci := bfld bs o 1
  let sc := bit tci 5
  let sci : Option Nat := if sc then some (bfld bs (o + 6) 8) else if bit tci 6 then some (bfld bs 6 6 * 65536 + 1) else none
  if l.l3 ≠ 4 then s.noSa p
  else match (s.roomSessions 3 room).find? fun e => decide (e.2.ident % 4 = tci % 4) && (match sci with | some v => decide (fld e.2.body 8 8 = v) | none => true) with
    | none => s.noSa p
    | some (h, k) =>
      let d := o + (if sc then 14 else 6)
      let sl := bfld bs (o + 1) 1 % 64
      let stop := if sl = 0 then bs.length - 16 else d + sl
      let pn := macsecPn k (bfld bs (o + 2) 4)
      let data := slice bs d stop
      let tag := slice bs stop (stop + 16)
      if bs.length < stop + 16 ∨ stop < d ∨ pn + fld k.body 0x10 4 < k.seq then s.dropPkt p
      else
        let open' := if bit tci 3 then gcmOpen k.key (macsecNonce k pn) (bs.take d) data tag
          else (gcmOpen k.key (macsecNonce k pn) (bs.take stop) [] tag).map fun _ => data
        match open' with
        | none => s.dropPkt p
        | some pt => (s.setSession h { k with seq := max k.seq (pn + 1) }).again p (bs.take (o - 2) ++ pt)

/-- MACsec transmit (SERVICE 4): an explicit SCI, confidentiality offset 0 (R252). -/
def State.macsecOut (s : State) (p : Pkt) (room : Nat) : State :=
  match s.chooseSa (s.roomSessions 4 room) with
  | none => s.noSa p
  | some ((h, k), s) =>
    if (if k.opt 2 then 2 ^ 64 else 2 ^ 32) ≤ k.seq then s.dropPkt p
    else
      let bs := p.insertSums
      let data := bs.drop 12
      let hd := bs.take 12 ++ beBytes 0x88E5 2 ++ beBytes (0x2C + k.ident % 4) 1 ++ beBytes (if data.length < 48 then data.length else 0) 1 ++
        beBytes k.seq 4 ++ beBytes (fld k.body 8 8) 8
      let e := gcmSeal k.key (macsecNonce k k.seq) hd data
      (s.setSession h { k with seq := k.seq + 1 }).onPath { p with bytes := hd ++ e.1 ++ e.2, l3csum := false, l4csum := false } (fld k.body 0x14 2)

/-! ## NVMe/TCP segments and TLS records (R252, R507, R511) -/

/-- A segment of a TLS connection that is one whole record in order (R252): it is opened under the connection's key, and a KeyUpdate in it
(RFC 8446, 4.6.3) turns the key of what is received, and, when it asks for it, is answered and turns the key of what is sent. -/
def State.tlsIn (s : State) (n : Nat) (seg : List Byte) : State :=
  match Tbl.find s.store.conns n with
  | none => s
  | some x => match x.tls with
    | none => s
    | some t =>
      if seg.length ≠ 5 + bfld seg 3 2 then s
      else match t.openRecord seg with
        | none => s
        | some (kind, data, t') =>
          let keep (s : State) (t : Tls) : State := { s with store := { s.store with conns := Tbl.put n { x with tls := some t } s.store.conns } }
          if kind = 22 ∧ bfld data 0 4 = 0x18000001 then
            let t' := t'.turnIn
            if bfld data 4 1 = 1 then
              let r := t'.sealRecord 22 [0x18, 0, 0, 1, 0]
              (keep s r.2.turnOut).emit (.conn n 0x17 r.1)
            else keep s t'
          else keep s t'

/-- A listener serves a room at an address and port: some subsystem is the room's, or it offers discovery, which is the owner's (R251, R507). -/
def listensFor (c : Settings) (room addr port : Nat) : Bool :=
  (List.range 256).any fun i =>
    let r := nvmtRec c 1 i
    decide (r ≠ []) && decide (fld r 4 1 = addr) && decide (fld r 8 2 = port) &&
      ((decide (room = 0xFFFF) && decide (fld r 6 1 = 1)) ||
        (List.range 1024).any fun n => let u := nvmtRec c 2 n; decide (u ≠ []) && decide (fld u 4 2 = room))

/-- A TCP segment for a connection of the room, or for a listener that serves it, is consumed: what it carries are the NVMT commands. An
acknowledgement is progress on its connection, and a KeyUpdate of a TLS connection changes its keys. -/
def State.tcpIn (s : State) (p : Pkt) (room : Nat) : State :=
  let c := s.pktCfg p
  let q := s.parsePkt p
  let l := q.cur
  let bs := p.bytes
  match l.l4off with
  | none => s.noSa p
  | some o =>
    let v6 := decide (l.l3 = 2)
    let src := if v6 then slice bs (l.l3off + 8) (l.l3off + 24) else slice bs (l.l3off + 12) (l.l3off + 16)
    let dst := if v6 then slice bs (l.l3off + 24) (l.l3off + 40) else slice bs (l.l3off + 16) (l.l3off + 20)
    let mine (i : Nat) : Bool := addrValid (addrRec c i) && decide (addrBytes (addrRec c i) = dst)
    let isConn (x : Conn) : Bool :=
      decide (x.room = room) && mine x.addr && decide (x.remote.take src.length = src) && decide (x.lport = bfld bs (o + 2) 2) && decide (x.rport = bfld bs o 2)
    if l.l4 ≠ 1 then s.noSa p
    else match s.store.conns.find? fun e => isConn e.2 with
      | some (n, x) =>
        let x := if bit (bfld bs (o + 13) 1) 4 then { x with progress := s.clock, retries := 0 } else x
        (State.tlsIn { s with store := { s.store with conns := Tbl.put n x s.store.conns } } n (slice bs (o + l.l4len) l.l3end)).dropPkt p
      | none =>
        if (List.range 256).any (fun i => mine i && listensFor c room i (bfld bs (o + 2) 2)) then s.dropPkt p else s.noSa p

/-- SERVICE_PACKET (R250 to R253): a service thread takes its next packet. -/
def execServicePacket (t : Fin 2048) (s : State) : Res :=
  match s.takeHanded t.val with
  | none => .next s
  | some (h, s) =>
    if s.pktRetired h.pkt then .next (s.retireDrop h.pkt).flow
    else .next (match h.service with
      | 1 => s.espIn h.pkt h.room
      | 2 => s.espOut h.pkt h.room
      | 3 => s.macsecIn h.pkt h.room
      | 4 => s.macsecOut h.pkt h.room
      | 5 => s.tcpIn h.pkt h.room
      | _ => s.noSa h.pkt).flow

end Sys2Proof.Machine
end

