-- ==== Sys2Proof/Machine/Manage.lean ====
section
/-!
DEFINITION. SMBus and JTAG: MCTP messages, PLDM monitoring and the test access port (R78, R97, R385, R551, R595, R597).
-/

namespace Sys2Proof.Machine

/-! ## SMBus (R551, R595) -/

/-- A transaction to the device's address wakes it. -/
def State.smbusWake (s : State) : State := if s.power.ladder = 0 ∧ s.power.entering.isNone then s else s.wake 4

/-- A transaction on SMBus: in Nap and deeper the address is not acknowledged, so the transaction only wakes the device; in Hush and Doze the
device wakes and serves it. -/
def State.smbus (s : State) (f : State → State) : State := if 3 ≤ s.power.ladder then s.smbusWake else f s.smbusWake

/-- SMBUS_TIMEOUT_RESET (R595): the target's bus interface starts afresh. A message reaches the model whole, so nothing of it is held
here (log entry 57). -/
def execSmbusTimeoutReset (s : State) : Res := .next s

/-! ## PLDM (R97) -/

/-- A sensor's latest reading. -/
def State.sensor (s : State) (n : Nat) : Nat := Tbl.get (fun _ => 0) s.cmd.sensors n

/-- The threshold state of a reading, in DSP0248's numbers: 1 normal, 5 lower warning, 6 lower critical, 8 upper warning, 9 upper
critical (PRESUMED, log entry 57). -/
def sensorState (n v : Nat) : Nat :=
  match n with
  | 1 => if 210 ≤ v then 9 else if 200 ≤ v then 8 else 1
  | 3 => if 2850 ≤ v then 8 else 1
  | 4 => if 2400 ≤ v then 8 else 1
  | 5 => if v ≤ 235 then 6 else if v ≤ 265 then 5 else 1
  | _ => 1

/-- What a state sensor shows now, numbered in the order in which its states are named (DESIGN CHOICE, log entry 57). -/
def State.stateOf (s : State) (n : Nat) : Nat :=
  if n ≤ 9 then (if (s.port (n - 6)).link then 2 else b01 (s.port (n - 6)).training.isSome)
  else if n = 10 then s.power.ladder
  else if n = 11 then min s.store.path 2
  else if s.signStopped then 2 else b01 (bit s.sealStatusNow 3)

/-- PLDM_SENSOR_UPDATE: a numeric sensor takes its reading, a state sensor the state it shows; a crossing of a threshold queues an event. -/
def execPldmSensorUpdate (sensor : Fin 13) (v : Nat) (s : State) : Res :=
  let n := sensor.val
  if n = 0 then .next s
  else
    let new := if n ≤ 5 then v % 65536 else s.stateOf n
    let crossed := decide (sensorState n new ≠ sensorState n (s.sensor n))
    .next { s with cmd := { s.cmd with
      sensors := Tbl.set (fun _ => 0) s.cmd.sensors n new
      pldmEvents := if crossed then s.cmd.pldmEvents ++ [(n, new)] else s.cmd.pldmEvents } }

/-- The commands served, as a bit number of GetPLDMCommands' answer, by PLDM type (codes PRESUMED from DSP0240 and DSP0248, log entry 57). -/
def pldmServed (type : Nat) : List Nat := match type with | 0 => [2, 3, 4, 5] | 2 => [0x0B, 0x11, 0x21, 0x50, 0x51] | _ => []

/-- A bit field of `n` bytes with the listed bits set. -/
def bitField (l : List Nat) (n : Nat) : List Byte := leBytes ((l.map fun k => 2 ^ k).sum) n

/-! ### Platform descriptor records (layouts and codes PRESUMED from DSP0248, log entry 57) -/

/-- Record handles, one for each sensor. -/
def pdrNumbers : List Nat := (List.range 12).map (· + 1)

/-- A record's common header: handle, version 1, type, change number 0 and the length of what follows. -/
def pdrOf (handle type : Nat) (body : List Byte) : List Byte :=
  leBytes handle 4 ++ leBytes 1 1 ++ leBytes type 1 ++ leBytes 0 2 ++ leBytes body.length 2 ++ body

/-- Unit, unit modifier (two's complement), resolution and update interval as real32, supported thresholds, then the high and low limits of
the warning and critical thresholds in readings. -/
def numericSensor (n : Nat) : Nat × Nat × Nat × Nat × Nat × List Nat :=
  match n with
  | 1 => (2, 0, 0x3F000000, 0x3C23D70A, 0x03, [200, 0, 210, 0])
  | 2 => (5, 0xFD, 0x3F800000, 0x3A83126F, 0, [0, 0, 0, 0])
  | 3 => (6, 0xFF, 0x3F800000, 0x3A83126F, 0x01, [2850, 0, 0, 0])
  | 4 => (7, 0xFF, 0x3F800000, 0x3C23D70A, 0x01, [2400, 0, 0, 0])
  | _ => (5, 0xFE, 0x3F800000, 0x3A83126F, 0x18, [0, 265, 0, 235])

/-- Bytes of a record that the manual leaves open. -/
def openField (n off k : Nat) : List Byte := (List.range k).map fun i => Config.pdrField n (off + i)

/-- A numeric sensor's record: the terminus handle, the sensor's number, and what the table of R97 gives; the entity, accuracy and
ranges are `Config`'s. -/
def numericPdr (n : Nat) : List Byte :=
  let (unit', mod', res, upd, thr, lim) := numericSensor n
  let c := openField n
  let two (l : List Nat) : List Byte := (l.map fun v => leBytes v 2).flatten
  pdrOf n 2 (c 0 2 ++ leBytes n 2 ++ c 4 6 ++ [0, 0] ++ leBytes unit' 1 ++ leBytes mod' 1 ++ [0, 0] ++ c 16 7 ++ [1, 3] ++ leBytes res 4 ++
    leBytes 0 4 ++ c 33 4 ++ c 37 2 ++ leBytes thr 1 ++ [0] ++ c 41 4 ++ leBytes upd 4 ++ c 49 4 ++ [3] ++ c 54 1 ++ c 55 6 ++
    two lim ++ c 69 4)

/-- A state sensor's record: one set of states, in the order in which R97 names them. -/
def statePdr (n : Nat) : List Byte :=
  let states := if n = 10 then 6 else 3
  pdrOf n 4 (openField n 0 2 ++ leBytes n 2 ++ openField n 4 6 ++ [0, 0, 1] ++ openField n 13 2 ++ [1] ++ bitField (List.range states) 1)

/-- The descriptor record of a sensor. -/
def pdr (n : Nat) : List Byte := if n ≤ 5 then numericPdr n else statePdr n

/-- The sensor events' data as a poll returns them: the oldest event and its removal. -/
def State.takeSensorEvent (s : State) : List Byte × State :=
  match s.cmd.pldmEvents with
  | [] => ([Config.pldmTid, 0, 0], s)
  | (n, v) :: rest =>
    let (w, s) := s.free
    let data := leBytes n 2 ++ leBytes 1 1 ++ leBytes (sensorState n v) 1 ++ leBytes w.toNat 1 ++ leBytes 2 1 ++ leBytes v 2
    ([Config.pldmTid] ++ leBytes 1 2 ++ leBytes 0 4 ++ leBytes 5 1 ++ leBytes 0 1 ++ leBytes data.length 4 ++ data,
      { s with cmd := { s.cmd with pldmEvents := rest } })

/-- The answer to a PLDM request: completion code and data. The request's data follow its 3-byte header. -/
def State.pldmData (s : State) (type code : Nat) (d : List Byte) : List Byte × State :=
  match type, code with
  | 0, 2 => ([0, Config.pldmTid], s)
  | 0, 3 =>
    if d.length < 6 then ([3], s) else if pldmServed (fld d 5 1) = [] then ([0x83], s) else (0 :: Config.pldmVersion (fld d 5 1), s)
  | 0, 4 => (0 :: bitField [0, 2] 8, s)
  | 0, 5 => if d.length < 5 then ([3], s) else if pldmServed (fld d 0 1) = [] then ([0x83], s) else (0 :: bitField (pldmServed (fld d 0 1)) 32, s)
  | 2, 0x50 =>
    let (a, s) := s.freeBytes 26
    let sizes := pdrNumbers.map fun n => (pdr n).length
    ([0, 0] ++ a ++ leBytes sizes.length 4 ++ leBytes sizes.sum 4 ++ leBytes (sizes.foldl max 0) 4 ++ [Config.pldmTimeout], s)
  | 2, 0x51 =>
    let h := if fld d 0 4 = 0 then 1 else fld d 0 4
    if d.length < 13 then ([3], s)
    else if 12 < h then ([0x82], s)
    else
      let record := (pdr h).take (fld d 9 2)
      (leBytes 0 1 ++ leBytes (if h = 12 then 0 else h + 1) 4 ++ leBytes 0 4 ++ leBytes 5 1 ++ leBytes record.length 2 ++ record, s)
  | 2, 0x11 =>
    let n := fld d 0 2
    if d.length < 3 then ([3], s)
    else if n = 0 ∨ 5 < n then ([0x80], s)
    else
      let (w, s) := s.free
      let now := leBytes (sensorState n (s.sensor n)) 1
      ([0, 3, 0] ++ leBytes 0 1 ++ now ++ leBytes w.toNat 1 ++ now ++ leBytes (s.sensor n) 2, s)
  | 2, 0x21 =>
    let n := fld d 0 2
    if d.length < 4 then ([3], s)
    else if n < 6 ∨ 12 < n then ([0x80], s)
    else
      let (w, s) := s.free
      let now := leBytes (s.sensor n) 1
      ([0, 1, 0] ++ now ++ leBytes w.toNat 1 ++ now, s)
  | 2, 0x0B => let (a, s) := s.takeSensorEvent; (0 :: a, s)
  | _, _ => ([5], s)

/-- A PLDM request is answered over MCTP by the firmware, which runs once threads are released. -/
def State.pldm (s : State) (type code : Nat) (bytes : List Byte) : State :=
  if !s.sr.ready then s
  else
    let (a, s) := s.pldmData type code (bytes.drop 3)
    s.emit (.message 5 (leBytes (fld bytes 0 1 % 32) 1 ++ leBytes type 1 ++ leBytes code 1 ++ a))

/-- GET_TID. -/
def execGetTid (bytes : List Byte) (s : State) : Res := .next (s.smbus fun s => s.pldm 0 2 bytes)

/-- GET_PLDM_VERSION. -/
def execGetPldmVersion (bytes : List Byte) (s : State) : Res := .next (s.smbus fun s => s.pldm 0 3 bytes)

/-- GET_PLDM_TYPES. -/
def execGetPldmTypes (bytes : List Byte) (s : State) : Res := .next (s.smbus fun s => s.pldm 0 4 bytes)

/-- GET_PLDM_COMMANDS. -/
def execGetPldmCommands (bytes : List Byte) (s : State) : Res := .next (s.smbus fun s => s.pldm 0 5 bytes)

/-- GET_PDR_REPOSITORY_INFO. -/
def execGetPdrRepositoryInfo (bytes : List Byte) (s : State) : Res := .next (s.smbus fun s => s.pldm 2 0x50 bytes)

/-- GET_PDR. -/
def execGetPdr (bytes : List Byte) (s : State) : Res := .next (s.smbus fun s => s.pldm 2 0x51 bytes)

/-- GET_SENSOR_READING. -/
def execGetSensorReading (bytes : List Byte) (s : State) : Res := .next (s.smbus fun s => s.pldm 2 0x11 bytes)

/-- GET_STATE_SENSOR_READINGS. -/
def execGetStateSensorReadings (bytes : List Byte) (s : State) : Res := .next (s.smbus fun s => s.pldm 2 0x21 bytes)

/-- POLL_FOR_PLATFORM_EVENT_MESSAGE. -/
def execPollForPlatformEventMessage (bytes : List Byte) (s : State) : Res := .next (s.smbus fun s => s.pldm 2 0x0B bytes)

/-! ## MCTP (R78) -/

/-- The housekeepers, or in recovery the state machines of R96, answer MCTP control. -/
def State.mctpUp (s : State) : Bool := s.sr.ready || s.sr.recovery

/-- Set Endpoint ID's effect and answer (codes PRESUMED from DSP0236, log entry 57): 0 and 0xFF are no endpoint IDs. -/
def State.setEid (s : State) (eid : Nat) : List Byte × State :=
  if eid % 256 = 0 ∨ eid % 256 = 255 then ([2], s)
  else ([0, 0] ++ leBytes eid 1 ++ [0], { s with cmd := { s.cmd with eid := eid % 256 } })

/-- SET_ENDPOINT_ID. -/
def execSetEndpointId (eid : BitVec 8) (s : State) : Res :=
  .next (s.smbus fun s => if s.mctpUp then (let (a, s) := s.setEid eid.toNat; s.emit (.message 2 a)) else s)

/-- An MCTP control request: Rq, D and the message's number, the command code, its data. -/
def State.mctpControl (s : State) (bytes : List Byte) : State :=
  if !s.mctpUp then s
  else
    let (a, s) := match fld bytes 1 1 with
      | 1 => if bytes.length < 4 then ([3], s) else s.setEid (fld bytes 3 1)
      | 2 => ([0] ++ leBytes s.cmd.eid 1 ++ [0, 0], s)
      | 5 => ([0, 4, 0, 1, 5, 0x7E], s)
      | _ => ([5], s)
    s.emit (.message 2 (leBytes (fld bytes 0 1 % 128) 1 ++ leBytes (fld bytes 1 1) 1 ++ a))

/-- An Ehrenan packet in a vendor-defined message: the 64-byte header and up to 960 bytes of inline parameters; pointers are ignored. A
message with fewer inline bytes than PARAM_LEN completes with INVALID_PARAM, since no missing field is taken as zero (R599); inline bytes
above PARAM_LEN are not read (DESIGN CHOICE, log entry 82). -/
def State.mctpPacket (s : State) (bs : List Byte) : State :=
  let inline' := (bs.drop 64).take 960
  let len := fld bs 0x20 4
  let p : Packet :=
    { path := .mctp, flags := BitVec.ofNat 16 (fld bs 2 2), tag := BitVec.ofNat 32 (fld bs 4 4), atTime := Time.ofBytes bs 8
      rep := BitVec.ofNat 32 (fld bs 0x18 4), room := fld bs 0x1C 2
      params := inline'.take len, paramDma := if len ≤ inline'.length then .done else .short
      replyPtr := 0, replyLen := 0, entry := none, pass := false }
  if s.pathUp .mctp then (s.submitPacket (fld bs 0 2) p).settleStep.serveAll else s

/-- An assembled MCTP message by its type. The vendor ID stands in network byte order (R4). -/
def State.mctp (s : State) (type : Nat) (bytes : List Byte) : State :=
  if 1028 < bytes.length + 1 then (if s.mctpUp then s.emit (.message 2 [3]) else s)
  else match type with
    | 0x00 => s.mctpControl bytes
    | 0x01 => if bytes.length < 3 then s else s.pldm (fld bytes 1 1 % 64) (fld bytes 2 1) bytes
    | 0x05 => if s.sr.romDone then nextOf s (execSpdmRequest bytes true s) else s
    | 0x7E => if fld bytes 0 2 = 0xA71F ∧ fld bytes 2 1 = 1 ∧ 67 ≤ bytes.length then s.mctpPacket (bytes.drop 3) else s
    | _ => s

/-- MCTP_MESSAGE (R78). -/
def execMctpMessage (type : BitVec 8) (bytes : List Byte) (s : State) : Res := .next (s.smbus fun s => s.mctp type.toNat bytes)

/-! ## JTAG (R385, R597) -/

/-- The TAP's instruction register takes an instruction; EXTEST ends with the next one. -/
def State.jtagIr (s : State) (ir : Nat) : State := { s with jtag := { s.jtag with ir := ir, extest := false } }

/-- JTAG_IDCODE. -/
def execJtagIdcode (s : State) : Res := .next ((s.jtagIr 0).emit (.jtag (Config.jtagIdcode.setWidth 64)))

/-- JTAG_BYPASS: the bypass register captures 0. -/
def execJtagBypass (s : State) : Res := .next ((s.jtagIr 1).emit (.jtag 0))

/-- JTAG_SAMPLE_PRELOAD: the boundary cells capture the pins, whose levels are open, and take the cells shifted in. -/
def execJtagSamplePreload (bytes : List Byte) (s : State) : Res :=
  let (v, s) := (s.jtagIr 2).free
  .next (State.emit { s with jtag := { s.jtag with preload := bytes } } (.jtag v))

/-- JTAG_EXTEST: served only after the cold reset that it forces. -/
def execJtagExtest (s : State) : Res :=
  let s := if s.jtag.extest then s else s.coldReset none
  .next { s with jtag := { s.jtag with ir := 3, extest := true } }

/-- JTAG_TRST: Test-Logic-Reset. -/
def execJtagTrst (s : State) : Res := .next (s.jtagIr 0)

/-- What a debug access sees of a thread: its g registers 0 to 31, at 32 its pc, at 33 its predicates, from 64 its vector registers by 8 bytes. -/
def Thread.debugGet (x : Thread) (i : Nat) : BitVec 64 :=
  if i < 32 then x.rg (Fin.ofNat 32 i)
  else if i = 32 then x.pc.setWidth 64
  else if i = 33 then x.p.setWidth 64
  else if 64 ≤ i then ((x.v.get (Fin.ofNat 8 ((i - 64) / 8))) >>> (64 * (i % 8))).setWidth 64
  else 0

/-- What a debug access changes in a thread. -/
def Thread.debugPut (x : Thread) (i : Nat) (w : BitVec 64) : Thread :=
  if i < 32 then x.wg (Fin.ofNat 32 i) w
  else if i = 32 then { x with pc := w.setWidth 32 }
  else if i = 33 then { x with p := w.setWidth 8 }
  else if 64 ≤ i then
    let k : Vreg := Fin.ofNat 8 ((i - 64) / 8)
    x.wv k (Vec.put (x.v.get k) (8 * (i % 8)) (leBytes w.toNat 8))
  else x

/-- 8 bytes of the messages that wait on a line, oldest first. -/
def State.debugLine (s : State) (n i : Nat) : BitVec 64 :=
  BitVec.ofNat 64 (fld ((((s.line n).queue.flatten).map Vec.bytes).flatten) (8 * i) 8)

/-- Core scratch. -/
def scratchAddr (a : Nat) : Bool := decide (0x20000000 ≤ a ∧ a < 0x22000000)

/-- Regions whose bytes the model holds as memory; in the others the device keeps tables of its own in a layout that the manual does not
give (log entry 57). -/
def plainRegion (r : Nat) : Bool := [0, 1, 5, 6, 7, 16, 21, 22].any fun k => decide (k = r)

/-- A debug access to memory. -/
def State.debugMem (s : State) (write : Bool) (a : Nat) (w : BitVec 64) : State :=
  if write then s.storeBytes 0 a (leBytes w.toNat 8)
  else if scratchAddr a || (s.regionOf a).any plainRegion then s.emit (.jtag (BitVec.ofNat 64 (s.load 0 a 8)))
  else let (v, s) := s.free; s.emit (.jtag v)

/-- JTAG_DEBUG_ACCESS (R385): kind 0 a thread's register (address thread × 128 + index), 1 memory at a thread address, 2 a line's waiting
messages (address line + 65,536 × index), 3 a register at a BAR0 offset. Level 1 opens threads, scratch and lines; level 2 everything outside the
strongroom (addressing: DESIGN CHOICE, log entry 57). -/
def execJtagDebugAccess (kind : Fin 4) (write : Bool) (addr : Nat) (v : BitVec 64) (s : State) : Res :=
  let s := s.jtagIr 4
  let level := s.sr.debugLevel
  if level = 0 then .next s
  else match kind.val with
    | 0 =>
      let t := addr / 128
      if 2047 < t then .next s
      else if write then .next (s.setThread t ((s.thread t).debugPut (addr % 128) v))
      else .next (s.emit (.jtag ((s.thread t).debugGet (addr % 128))))
    | 1 =>
      if addr % 8 = 0 ∧ (scratchAddr addr ∨ (level = 2 ∧ (s.regionOf addr).isSome)) then .next (s.debugMem write addr v) else .next s
    | 2 => .next (if write then s else s.emit (.jtag (s.debugLine (addr % 65536) (addr / 65536))))
    | _ =>
      if level ≠ 2 ∨ (0xA00000 ≤ addr ∧ addr < 0xB00000) ∨ addr % 8 ≠ 0 then .next s
      else if write then .next (s.barWrite8 addr v.toNat)
      else .next (s.emit (.jtag (BitVec.ofNat 64 (s.readReg addr))))

end Sys2Proof.Machine
end

