-- ==== Sys2Proof/Machine/Dispatch.lean ====
section
/-!
DEFINITION. The meaning of every command: one arm per constructor of Instr.
-/

namespace Sys2Proof.Machine

/-- A command's effect on everything but the queue. -/
def exec (i : Instr) (s : State) : Host.Outcome State Fault Refusal :=
  match i with
  | .devIdentify p => Sys2Proof.Machine.execDevIdentify p s
  | .devStatus p => Sys2Proof.Machine.execDevStatus p s
  | .devReset p => Sys2Proof.Machine.execDevReset p s
  | .cfgCommit p => Sys2Proof.Machine.execCfgCommit p s
  | .cfgRollback p => Sys2Proof.Machine.execCfgRollback p s
  | .deviceProfile p => Sys2Proof.Machine.execDeviceProfile p s
  | .cfgDiscard p => Sys2Proof.Machine.execCfgDiscard p s
  | .cfgQuery p => Sys2Proof.Machine.execCfgQuery p s
  | .roomQuery p => Sys2Proof.Machine.execRoomQuery p s
  | .roomFurnish p => Sys2Proof.Machine.execRoomFurnish p s
  | .roomOpen p => Sys2Proof.Machine.execRoomOpen p s
  | .roomClose p => Sys2Proof.Machine.execRoomClose p s
  | .roomReset p => Sys2Proof.Machine.execRoomReset p s
  | .roomVacate p => Sys2Proof.Machine.execRoomVacate p s
  | .roomFreeze p => Sys2Proof.Machine.execRoomFreeze p s
  | .roomSave p => Sys2Proof.Machine.execRoomSave p s
  | .roomSaveDrained room => Sys2Proof.Machine.execRoomSaveDrained room s
  | .roomRestore p => Sys2Proof.Machine.execRoomRestore p s
  | .roomThaw p => Sys2Proof.Machine.execRoomThaw p s
  | .roomDoze p => Sys2Proof.Machine.execRoomDoze p s
  | .roomMsgSet p => Sys2Proof.Machine.execRoomMsgSet p s
  | .roomPolicy p => Sys2Proof.Machine.execRoomPolicy p s
  | .roomDirtyLog p => Sys2Proof.Machine.execRoomDirtyLog p s
  | .ringCreate p => Sys2Proof.Machine.execRingCreate p s
  | .ringDestroy p => Sys2Proof.Machine.execRingDestroy p s
  | .ringEnable p => Sys2Proof.Machine.execRingEnable p s
  | .ringDisable p => Sys2Proof.Machine.execRingDisable p s
  | .ringModerate p => Sys2Proof.Machine.execRingModerate p s
  | .ringWeight p => Sys2Proof.Machine.execRingWeight p s
  | .ringRxMode p => Sys2Proof.Machine.execRingRxMode p s
  | .portConfig p => Sys2Proof.Machine.execPortConfig p s
  | .portAdmin p => Sys2Proof.Machine.execPortAdmin p s
  | .portQuery p => Sys2Proof.Machine.execPortQuery p s
  | .portPtp p => Sys2Proof.Machine.execPortPtp p s
  | .clsBankLoad p => Sys2Proof.Machine.execClsBankLoad p s
  | .clsBankSelect p => Sys2Proof.Machine.execClsBankSelect p s
  | .clsKeyProfile p => Sys2Proof.Machine.execClsKeyProfile p s
  | .clsHashSet p => Sys2Proof.Machine.execClsHashSet p s
  | .clsException p => Sys2Proof.Machine.execClsException p s
  | .clsTunnel p => Sys2Proof.Machine.execClsTunnel p s
  | .clsMirror p => Sys2Proof.Machine.execClsMirror p s
  | .tmNodeSet p => Sys2Proof.Machine.execTmNodeSet p s
  | .tmShaperRate p => Sys2Proof.Machine.execTmShaperRate p s
  | .tmPolicerSet p => Sys2Proof.Machine.execTmPolicerSet p s
  | .tmGateList p => Sys2Proof.Machine.execTmGateList p s
  | .tmTelemetry p => Sys2Proof.Machine.execTmTelemetry p s
  | .timeSet p => Sys2Proof.Machine.execTimeSet p s
  | .timeAdjust p => Sys2Proof.Machine.execTimeAdjust p s
  | .periodSet p => Sys2Proof.Machine.execPeriodSet p s
  | .syncConfig p => Sys2Proof.Machine.execSyncConfig p s
  | .ppsSet p => Sys2Proof.Machine.execPpsSet p s
  | .schedCancel p => Sys2Proof.Machine.execSchedCancel p s
  | .schedQuery p => Sys2Proof.Machine.execSchedQuery p s
  | .keyDomainCreate p => Sys2Proof.Machine.execKeyDomainCreate p s
  | .keyDomainRotate p => Sys2Proof.Machine.execKeyDomainRotate p s
  | .keyDomainDestroy p => Sys2Proof.Machine.execKeyDomainDestroy p s
  | .keyDomainQuery p => Sys2Proof.Machine.execKeyDomainQuery p s
  | .keyImportWrapped p => Sys2Proof.Machine.execKeyImportWrapped p s
  | .keySaAdd p => Sys2Proof.Machine.execKeySaAdd p s
  | .keySaDelete p => Sys2Proof.Machine.execKeySaDelete p s
  | .keySealNew p => Sys2Proof.Machine.execKeySealNew p s
  | .sealStatus p => Sys2Proof.Machine.execSealStatus p s
  | .sealPubkeys p => Sys2Proof.Machine.execSealPubkeys p s
  | .sealExport p => Sys2Proof.Machine.execSealExport p s
  | .sealHandover p => Sys2Proof.Machine.execSealHandover p s
  | .sealAccept p => Sys2Proof.Machine.execSealAccept p s
  | .volCreate p => Sys2Proof.Machine.execVolCreate p s
  | .volDestroy p => Sys2Proof.Machine.execVolDestroy p s
  | .nsCreate p => Sys2Proof.Machine.execNsCreate p s
  | .nsDelete p => Sys2Proof.Machine.execNsDelete p s
  | .journalSet p => Sys2Proof.Machine.execJournalSet p s
  | .storageOpen p => Sys2Proof.Machine.execStorageOpen p s
  | .sweepSet p => Sys2Proof.Machine.execSweepSet p s
  | .transcryptStart p => Sys2Proof.Machine.execTranscryptStart p s
  | .transcryptCancel p => Sys2Proof.Machine.execTranscryptCancel p s
  | .nvmtSet p => Sys2Proof.Machine.execNvmtSet p s
  | .driveQuery p => Sys2Proof.Machine.execDriveQuery p s
  | .memMarch p => Sys2Proof.Machine.execMemMarch p s
  | .memRegionSet p => Sys2Proof.Machine.execMemRegionSet p s
  | .memErrQuery p => Sys2Proof.Machine.execMemErrQuery p s
  | .pwrState p => Sys2Proof.Machine.execPwrState p s
  | .pwrPolicy p => Sys2Proof.Machine.execPwrPolicy p s
  | .dbgNonce p => Sys2Proof.Machine.execDbgNonce p s
  | .dbgUnlock p => Sys2Proof.Machine.execDbgUnlock p s
  | .dbgLock p => Sys2Proof.Machine.execDbgLock p s
  | .dbgLedger p => Sys2Proof.Machine.execDbgLedger p s
  | .dbgStallPolicy p => Sys2Proof.Machine.execDbgStallPolicy p s
  | .fwQuery p => Sys2Proof.Machine.execFwQuery p s
  | .fwLoad p => Sys2Proof.Machine.execFwLoad p s
  | .fwActivate p => Sys2Proof.Machine.execFwActivate p s
  | .annexLoad p => Sys2Proof.Machine.execAnnexLoad p s
  | .annexCores p => Sys2Proof.Machine.execAnnexCores p s
  | .schedRelease handle => Sys2Proof.Machine.execSchedRelease handle s
  | .progressEvent n => Sys2Proof.Machine.execProgressEvent n s
  | .frontdoorDoorbell v => Sys2Proof.Machine.execFrontdoorDoorbell v s
  | .frontdoorCtrlWrite v => Sys2Proof.Machine.execFrontdoorCtrlWrite v s
  | .ringDoorbell ref v => Sys2Proof.Machine.execRingDoorbell ref v s
  | .eventRingDoorbell room v => Sys2Proof.Machine.execEventRingDoorbell room v s
  | .ownerDoorbell v => Sys2Proof.Machine.execOwnerDoorbell v s
  | .ownerEventOverflowAck v => Sys2Proof.Machine.execOwnerEventOverflowAck v s
  | .mboxDoorbell v => Sys2Proof.Machine.execMboxDoorbell v s
  | .registerWrite off wide v => Sys2Proof.Machine.execRegisterWrite off wide v s
  | .rcCounterRead off access => Sys2Proof.Machine.execRcCounterRead off access s
  | .barBadAccess read => Sys2Proof.Machine.execBarBadAccess read s
  | .timeNowLatch => Sys2Proof.Machine.execTimeNowLatch s
  | .timeIncrWrite v => Sys2Proof.Machine.execTimeIncrWrite v s
  | .applyOffset => Sys2Proof.Machine.execApplyOffset s
  | .winWrite => Sys2Proof.Machine.execWinWrite s
  | .winInvalidate => Sys2Proof.Machine.execWinInvalidate s
  | .winRead => Sys2Proof.Machine.execWinRead s
  | .halt => Sys2Proof.Machine.execHalt s
  | .resume => Sys2Proof.Machine.execResume s
  | .step => Sys2Proof.Machine.execStep s
  | .reseat => Sys2Proof.Machine.execReseat s
  | .msixTableWrite vec field v => Sys2Proof.Machine.execMsixTableWrite vec field v s
  | .bmeClear v => Sys2Proof.Machine.execBmeClear v s
  | .bmeSet v => Sys2Proof.Machine.execBmeSet v s
  | .ctoValueWrite v => Sys2Proof.Machine.execCtoValueWrite v s
  | .flrInitiate => Sys2Proof.Machine.execFlrInitiate s
  | .d3hotEntry v => Sys2Proof.Machine.execD3hotEntry v s
  | .d0Return v => Sys2Proof.Machine.execD0Return v s
  | .completionReceived tag status final => Sys2Proof.Machine.execCompletionReceived tag status final s
  | .completionTimeout tag => Sys2Proof.Machine.execCompletionTimeout tag s
  | .quarantineEnd tag => Sys2Proof.Machine.execQuarantineEnd tag s
  | .atsTranslationCompletion room page phys => Sys2Proof.Machine.execAtsTranslationCompletion room page phys s
  | .atsInvalidationRequest room page pages itag global => Sys2Proof.Machine.execAtsInvalidationRequest room page pages itag global s
  | .invalidationCompletion itag => Sys2Proof.Machine.execInvalidationCompletion itag s
  | .doeObjectWrite bytes => Sys2Proof.Machine.execDoeObjectWrite bytes s
  | .doeAbort => Sys2Proof.Machine.execDoeAbort s
  | .spdmRequest bytes mctp => Sys2Proof.Machine.execSpdmRequest bytes mctp s
  | .ideKmMessage stream op key => Sys2Proof.Machine.execIdeKmMessage stream op key s
  | .ideStreamInsecure stream => Sys2Proof.Machine.execIdeStreamInsecure stream s
  | .lockInterfaceRequest room stream => Sys2Proof.Machine.execLockInterfaceRequest room stream s
  | .startInterfaceRequest room => Sys2Proof.Machine.execStartInterfaceRequest room s
  | .stopInterfaceRequest room => Sys2Proof.Machine.execStopInterfaceRequest room s
  | .tdiError room => Sys2Proof.Machine.execTdiError room s
  | .l0pNarrow => Sys2Proof.Machine.execL0pNarrow s
  | .l0pWiden => Sys2Proof.Machine.execL0pWiden s
  | .aspmL1Entry => Sys2Proof.Machine.execAspmL1Entry s
  | .pmeTurnOff => Sys2Proof.Machine.execPmeTurnOff s
  | .perstAssert => Sys2Proof.Machine.execPerstAssert s
  | .perstDeassert => Sys2Proof.Machine.execPerstDeassert s
  | .hotReset => Sys2Proof.Machine.execHotReset s
  | .pcieLinkDown => Sys2Proof.Machine.execPcieLinkDown s
  | .mctpMessage type bytes => Sys2Proof.Machine.execMctpMessage type bytes s
  | .setEndpointId eid => Sys2Proof.Machine.execSetEndpointId eid s
  | .getTid bytes => Sys2Proof.Machine.execGetTid bytes s
  | .getPldmVersion bytes => Sys2Proof.Machine.execGetPldmVersion bytes s
  | .getPldmTypes bytes => Sys2Proof.Machine.execGetPldmTypes bytes s
  | .getPldmCommands bytes => Sys2Proof.Machine.execGetPldmCommands bytes s
  | .getPdrRepositoryInfo bytes => Sys2Proof.Machine.execGetPdrRepositoryInfo bytes s
  | .getPdr bytes => Sys2Proof.Machine.execGetPdr bytes s
  | .getSensorReading bytes => Sys2Proof.Machine.execGetSensorReading bytes s
  | .getStateSensorReadings bytes => Sys2Proof.Machine.execGetStateSensorReadings bytes s
  | .pollForPlatformEventMessage bytes => Sys2Proof.Machine.execPollForPlatformEventMessage bytes s
  | .pldmSensorUpdate sensor v => Sys2Proof.Machine.execPldmSensorUpdate sensor v s
  | .smbusTimeoutReset => Sys2Proof.Machine.execSmbusTimeoutReset s
  | .jtagIdcode => Sys2Proof.Machine.execJtagIdcode s
  | .jtagBypass => Sys2Proof.Machine.execJtagBypass s
  | .jtagSamplePreload bytes => Sys2Proof.Machine.execJtagSamplePreload bytes s
  | .jtagExtest => Sys2Proof.Machine.execJtagExtest s
  | .jtagTrst => Sys2Proof.Machine.execJtagTrst s
  | .islandAdopt island => Sys2Proof.Machine.execIslandAdopt island s
  | .genAck cluster => Sys2Proof.Machine.execGenAck cluster s
  | .commitStallTimeout => Sys2Proof.Machine.execCommitStallTimeout s
  | .generationRetire => Sys2Proof.Machine.execGenerationRetire s
  | .rxFrame port bytes fcsOk corrected uncorrectable => Sys2Proof.Machine.execRxFrame port bytes fcsOk corrected uncorrectable s
  | .pauseFrameReceive port bytes => Sys2Proof.Machine.execPauseFrameReceive port bytes s
  | .pauseQuantaExpiry port cls => Sys2Proof.Machine.execPauseQuantaExpiry port cls s
  | .pfcXoffRepeat port cls => Sys2Proof.Machine.execPfcXoffRepeat port cls s
  | .linkUp port => Sys2Proof.Machine.execLinkUp port s
  | .linkDown port fault => Sys2Proof.Machine.execLinkDown port fault s
  | .moduleReady port => Sys2Proof.Machine.execModuleReady port s
  | .timeRefLost => Sys2Proof.Machine.execTimeRefLost s
  | .timeRefRestored => Sys2Proof.Machine.execTimeRefRestored s
  | .syncEdge rising => Sys2Proof.Machine.execSyncEdge rising s
  | .syncWindowClose => Sys2Proof.Machine.execSyncWindowClose s
  | .periodBoundary => Sys2Proof.Machine.execPeriodBoundary s
  | .gateEntryChange port => Sys2Proof.Machine.execGateEntryChange port s
  | .ppsPulse out => Sys2Proof.Machine.execPpsPulse out s
  | .ageClockAdvance => Sys2Proof.Machine.execAgeClockAdvance s
  | .agingSweep => Sys2Proof.Machine.execAgingSweep s
  | .packetParse n => Sys2Proof.Machine.execPacketParse n s
  | .flowTableLookupDone n => Sys2Proof.Machine.execFlowTableLookupDone n s
  | .switchPass => Sys2Proof.Machine.execSwitchPass s
  | .servicePacket t => Sys2Proof.Machine.execServicePacket t s
  | .backStairPacket => Sys2Proof.Machine.execBackStairPacket s
  | .reasmTimeout => Sys2Proof.Machine.execReasmTimeout s
  | .tmEnqueue => Sys2Proof.Machine.execTmEnqueue s
  | .tmScheduleDecision dest => Sys2Proof.Machine.execTmScheduleDecision dest s
  | .rxHoldLimitExpiry ref => Sys2Proof.Machine.execRxHoldLimitExpiry ref s
  | .telemetryVisit => Sys2Proof.Machine.execTelemetryVisit s
  | .txDescriptor ref => Sys2Proof.Machine.execTxDescriptor ref s
  | .rxFrameDelivery => Sys2Proof.Machine.execRxFrameDelivery s
  | .storeWrite ref => Sys2Proof.Machine.execStoreWrite ref s
  | .storeRead ref => Sys2Proof.Machine.execStoreRead ref s
  | .storeFlush ref => Sys2Proof.Machine.execStoreFlush ref s
  | .storeDeallocate ref => Sys2Proof.Machine.execStoreDeallocate ref s
  | .storeVerify ref => Sys2Proof.Machine.execStoreVerify ref s
  | .moderationFire ref => Sys2Proof.Machine.execModerationFire ref s
  | .heldInterruptRelease => Sys2Proof.Machine.execHeldInterruptRelease s
  | .roomResetDrainEnd room => Sys2Proof.Machine.execRoomResetDrainEnd room s
  | .stallSentinelEval cluster => Sys2Proof.Machine.execStallSentinelEval cluster s
  | .lineMessageDeliver line => Sys2Proof.Machine.execLineMessageDeliver line s
  | .lendAccept line => Sys2Proof.Machine.execLendAccept line s
  | .hitchGrant hitch => Sys2Proof.Machine.execHitchGrant hitch s
  | .deadlineTimeout t => Sys2Proof.Machine.execDeadlineTimeout t s
  | .parkWake t => Sys2Proof.Machine.execParkWake t s
  | .lhReadyChange up => Sys2Proof.Machine.execLhReadyChange up s
  | .add x d a b => Sys2Proof.Machine.execAdd x d a b s
  | .sub x d a b => Sys2Proof.Machine.execSub x d a b s
  | .and x d a b => Sys2Proof.Machine.execAnd x d a b s
  | .or x d a b => Sys2Proof.Machine.execOr x d a b s
  | .xor x d a b => Sys2Proof.Machine.execXor x d a b s
  | .shl x d a b => Sys2Proof.Machine.execShl x d a b s
  | .shr x d a b => Sys2Proof.Machine.execShr x d a b s
  | .sra x d a b => Sys2Proof.Machine.execSra x d a b s
  | .mul x d a b => Sys2Proof.Machine.execMul x d a b s
  | .mulhu x d a b => Sys2Proof.Machine.execMulhu x d a b s
  | .divu x d a b => Sys2Proof.Machine.execDivu x d a b s
  | .remu x d a b => Sys2Proof.Machine.execRemu x d a b s
  | .clz x d a => Sys2Proof.Machine.execClz x d a s
  | .popc x d a => Sys2Proof.Machine.execPopc x d a s
  | .bswap x d a => Sys2Proof.Machine.execBswap x d a s
  | .sextb x d a => Sys2Proof.Machine.execSextb x d a s
  | .sexth x d a => Sys2Proof.Machine.execSexth x d a s
  | .sextw x d a => Sys2Proof.Machine.execSextw x d a s
  | .addi x d a imm => Sys2Proof.Machine.execAddi x d a imm s
  | .andi x d a imm => Sys2Proof.Machine.execAndi x d a imm s
  | .ori x d a imm => Sys2Proof.Machine.execOri x d a imm s
  | .xori x d a imm => Sys2Proof.Machine.execXori x d a imm s
  | .shli x d a n => Sys2Proof.Machine.execShli x d a n s
  | .shri x d a n => Sys2Proof.Machine.execShri x d a n s
  | .srai x d a n => Sys2Proof.Machine.execSrai x d a n s
  | .ldi x d imm => Sys2Proof.Machine.execLdi x d imm s
  | .lsh16 x d imm => Sys2Proof.Machine.execLsh16 x d imm s
  | .cmpEq x d a b => Sys2Proof.Machine.execCmpEq x d a b s
  | .cmpNe x d a b => Sys2Proof.Machine.execCmpNe x d a b s
  | .cmpLtu x d a b => Sys2Proof.Machine.execCmpLtu x d a b s
  | .cmpLts x d a b => Sys2Proof.Machine.execCmpLts x d a b s
  | .cmpGeu x d a b => Sys2Proof.Machine.execCmpGeu x d a b s
  | .cmpGes x d a b => Sys2Proof.Machine.execCmpGes x d a b s
  | .cmpTest x d a b => Sys2Proof.Machine.execCmpTest x d a b s
  | .cmpiEq x d a imm => Sys2Proof.Machine.execCmpiEq x d a imm s
  | .cmpiNe x d a imm => Sys2Proof.Machine.execCmpiNe x d a imm s
  | .cmpiLts x d a imm => Sys2Proof.Machine.execCmpiLts x d a imm s
  | .cmpiLtu x d a imm => Sys2Proof.Machine.execCmpiLtu x d a imm s
  | .pand x d a b => Sys2Proof.Machine.execPand x d a b s
  | .por x d a b => Sys2Proof.Machine.execPor x d a b s
  | .pxor x d a b => Sys2Proof.Machine.execPxor x d a b s
  | .pnot x d a => Sys2Proof.Machine.execPnot x d a s
  | .pget x d => Sys2Proof.Machine.execPget x d s
  | .pset x a => Sys2Proof.Machine.execPset x a s
  | .j x off => Sys2Proof.Machine.execJ x off s
  | .jal x off => Sys2Proof.Machine.execJal x off s
  | .jr x d a => Sys2Proof.Machine.execJr x d a s
  | .ldb x d a imm => Sys2Proof.Machine.execLdb x d a imm s
  | .ldh x d a imm => Sys2Proof.Machine.execLdh x d a imm s
  | .ldw x d a imm => Sys2Proof.Machine.execLdw x d a imm s
  | .ldd x d a imm => Sys2Proof.Machine.execLdd x d a imm s
  | .stb x b a imm => Sys2Proof.Machine.execStb x b a imm s
  | .sth x b a imm => Sys2Proof.Machine.execSth x b a imm s
  | .stw x b a imm => Sys2Proof.Machine.execStw x b a imm s
  | .std x b a imm => Sys2Proof.Machine.execStd x b a imm s
  | .vld x d a imm => Sys2Proof.Machine.execVld x d a imm s
  | .vst x b a imm => Sys2Proof.Machine.execVst x b a imm s
  | .aadd x d a b => Sys2Proof.Machine.execAadd x d a b s
  | .aswp x d a b => Sys2Proof.Machine.execAswp x d a b s
  | .acas x d a b => Sys2Proof.Machine.execAcas x d a b s
  | .lput x d a b => Sys2Proof.Machine.execLput x d a b s
  | .lend x d a b => Sys2Proof.Machine.execLend x d a b s
  | .lendt x d a b => Sys2Proof.Machine.execLendt x d a b s
  | .ldrop x d => Sys2Proof.Machine.execLdrop x d s
  | .lget x d a => Sys2Proof.Machine.execLget x d a s
  | .lgetd x d a b => Sys2Proof.Machine.execLgetd x d a b s
  | .ltry x d a => Sys2Proof.Machine.execLtry x d a s
  | .htie x d a => Sys2Proof.Machine.execHtie x d a s
  | .htied x d a b => Sys2Proof.Machine.execHtied x d a b s
  | .huntie x d a => Sys2Proof.Machine.execHuntie x d a s
  | .htry x d a => Sys2Proof.Machine.execHtry x d a s
  | .tput x v tile => Sys2Proof.Machine.execTput x v tile s
  | .tend x d v tile => Sys2Proof.Machine.execTend x d v tile s
  | .tendt x d v tile => Sys2Proof.Machine.execTendt x d v tile s
  | .park x a => Sys2Proof.Machine.execPark x a s
  | .yield x => Sys2Proof.Machine.execYield x s
  | .timens x d => Sys2Proof.Machine.execTimens x d s
  | .brk x => Sys2Proof.Machine.execBrk x s
  | .treseat x a => Sys2Proof.Machine.execTreseat x a s
  | .iflush x => Sys2Proof.Machine.execIflush x s
  | .fence x => Sys2Proof.Machine.execFence x s
  | .mfs x d n => Sys2Proof.Machine.execMfs x d n s
  | .mts x a n => Sys2Proof.Machine.execMts x a n s
  | .vxor x d a b => Sys2Proof.Machine.execVxor x d a b s
  | .vand x d a b => Sys2Proof.Machine.execVand x d a b s
  | .vor x d a b => Sys2Proof.Machine.execVor x d a b s
  | .vandn x d a b => Sys2Proof.Machine.execVandn x d a b s
  | .vxor3 x d a b => Sys2Proof.Machine.execVxor3 x d a b s
  | .vadd_8 x d a b => Sys2Proof.Machine.execVadd_8 x d a b s
  | .vadd_16 x d a b => Sys2Proof.Machine.execVadd_16 x d a b s
  | .vadd_32 x d a b => Sys2Proof.Machine.execVadd_32 x d a b s
  | .vadd_64 x d a b => Sys2Proof.Machine.execVadd_64 x d a b s
  | .vsub_8 x d a b => Sys2Proof.Machine.execVsub_8 x d a b s
  | .vsub_16 x d a b => Sys2Proof.Machine.execVsub_16 x d a b s
  | .vsub_32 x d a b => Sys2Proof.Machine.execVsub_32 x d a b s
  | .vsub_64 x d a b => Sys2Proof.Machine.execVsub_64 x d a b s
  | .vclmul x d a b => Sys2Proof.Machine.execVclmul x d a b s
  | .vclmulG x d a b => Sys2Proof.Machine.execVclmulG x d a b s
  | .vgfred x d a => Sys2Proof.Machine.execVgfred x d a s
  | .vgfredG x d a => Sys2Proof.Machine.execVgfredG x d a s
  | .vgfx x d a n => Sys2Proof.Machine.execVgfx x d a n s
  | .vgfxG x d a n => Sys2Proof.Machine.execVgfxG x d a n s
  | .vgf8mul x d a b => Sys2Proof.Machine.execVgf8mul x d a b s
  | .vgf8mac x d a b => Sys2Proof.Machine.execVgf8mac x d a b s
  | .vgf8muls x d a b => Sys2Proof.Machine.execVgf8muls x d a b s
  | .vgf8macs x d a b => Sys2Proof.Machine.execVgf8macs x d a b s
  | .vfold x d a => Sys2Proof.Machine.execVfold x d a s
  | .vctr32 x d a b => Sys2Proof.Machine.execVctr32 x d a b s
  | .vctr128 x d a b => Sys2Proof.Machine.execVctr128 x d a b s
  | .vtageq x d a b => Sys2Proof.Machine.execVtageq x d a b s
  | .vmvg x d a e => Sys2Proof.Machine.execVmvg x d a e s
  | .vmvv x d a e => Sys2Proof.Machine.execVmvv x d a e s
  | .vbcast x d a => Sys2Proof.Machine.execVbcast x d a s
  | .vshuf x d a b => Sys2Proof.Machine.execVshuf x d a b s
  | .vbswap128 x d a => Sys2Proof.Machine.execVbswap128 x d a s
  | .vzero x d => Sys2Proof.Machine.execVzero x d s
  | .lhdr x d a => Sys2Proof.Machine.execLhdr x d a s
  | .aesFwd tile => Sys2Proof.Machine.execAesFwd tile s
  | .aesInv tile => Sys2Proof.Machine.execAesInv tile s
  | .keyPrefetch tile => Sys2Proof.Machine.execKeyPrefetch tile s
  | .digestSha256 tile => Sys2Proof.Machine.execDigestSha256 tile s
  | .digestSha512 tile => Sys2Proof.Machine.execDigestSha512 tile s
  | .keccakAbsorb tile => Sys2Proof.Machine.execKeccakAbsorb tile s
  | .keccakSqueeze tile => Sys2Proof.Machine.execKeccakSqueeze tile s
  | .digestDual tile => Sys2Proof.Machine.execDigestDual tile s
  | .tileBurst tile => Sys2Proof.Machine.execTileBurst tile s
  | .tileResponseDeliver tile => Sys2Proof.Machine.execTileResponseDeliver tile s
  | .tileInternalError tile => Sys2Proof.Machine.execTileInternalError tile s
  | .tileRestart tile => Sys2Proof.Machine.execTileRestart tile s
  | .strongroomLease tile => Sys2Proof.Machine.execStrongroomLease tile s
  | .keyScheduleLoad tile => Sys2Proof.Machine.execKeyScheduleLoad tile s
  | .vaultPersist => Sys2Proof.Machine.execVaultPersist s
  | .knotSign => Sys2Proof.Machine.execKnotSign s
  | .bottomTreeBuild => Sys2Proof.Machine.execBottomTreeBuild s
  | .sealAutoNew => Sys2Proof.Machine.execSealAutoNew s
  | .drbgReseed => Sys2Proof.Machine.execDrbgReseed s
  | .entropyHealthFail => Sys2Proof.Machine.execEntropyHealthFail s
  | .importHandleExpiry => Sys2Proof.Machine.execImportHandleExpiry s
  | .nonceExpiry => Sys2Proof.Machine.execNonceExpiry s
  | .trialTimeout => Sys2Proof.Machine.execTrialTimeout s
  | .imageReady => Sys2Proof.Machine.execImageReady s
  | .codeRegionCheck ok => Sys2Proof.Machine.execCodeRegionCheck ok s
  | .placeConfirm => Sys2Proof.Machine.execPlaceConfirm s
  | .epochClose => Sys2Proof.Machine.execEpochClose s
  | .knotPublish => Sys2Proof.Machine.execKnotPublish s
  | .epochLogPersist => Sys2Proof.Machine.execEpochLogPersist s
  | .driveCompletion drive id status data => Sys2Proof.Machine.execDriveCompletion drive id status data s
  | .journalBlockSubmit => Sys2Proof.Machine.execJournalBlockSubmit s
  | .mapCheckpoint => Sys2Proof.Machine.execMapCheckpoint s
  | .driveCmdTimeout drive id => Sys2Proof.Machine.execDriveCmdTimeout drive id s
  | .controllerReset drive => Sys2Proof.Machine.execControllerReset drive s
  | .controllerReadyTimeout drive => Sys2Proof.Machine.execControllerReadyTimeout drive s
  | .driveEnumeration found => Sys2Proof.Machine.execDriveEnumeration found s
  | .driveHotAdd info => Sys2Proof.Machine.execDriveHotAdd info s
  | .driveRemoval drive => Sys2Proof.Machine.execDriveRemoval drive s
  | .driveAsyncEvent drive warning => Sys2Proof.Machine.execDriveAsyncEvent drive warning s
  | .driveInboundRequest drive addr len posted => Sys2Proof.Machine.execDriveInboundRequest drive addr len posted s
  | .journalResync => Sys2Proof.Machine.execJournalResync s
  | .rebuildExtent vol => Sys2Proof.Machine.execRebuildExtent vol s
  | .sweepCycleStart vol => Sys2Proof.Machine.execSweepCycleStart vol s
  | .sweepExtent vol => Sys2Proof.Machine.execSweepExtent vol s
  | .transcryptExtent n data => Sys2Proof.Machine.execTranscryptExtent n data s
  | .batchCursorPersist => Sys2Proof.Machine.execBatchCursorPersist s
  | .backgroundDeallocate => Sys2Proof.Machine.execBackgroundDeallocate s
  | .storageStartup => Sys2Proof.Machine.execStorageStartup s
  | .replayInPlace => Sys2Proof.Machine.execReplayInPlace s
  | .nvmtConnectionOpen init index remote port t subsys host queue ctrl => Sys2Proof.Machine.execNvmtConnectionOpen init index remote port t subsys host queue ctrl s
  | .nvmtTlsHandshake c ident ok => Sys2Proof.Machine.execNvmtTlsHandshake c ident ok s
  | .nvmtPduError c digest => Sys2Proof.Machine.execNvmtPduError c digest s
  | .tcpRetransmitTimeout c => Sys2Proof.Machine.execTcpRetransmitTimeout c s
  | .tcpProgressTimeout c => Sys2Proof.Machine.execTcpProgressTimeout c s
  | .nvmtIdentify c sqe => Sys2Proof.Machine.execNvmtIdentify c sqe s
  | .nvmtGetLogPage c sqe => Sys2Proof.Machine.execNvmtGetLogPage c sqe s
  | .nvmtGetFeatures c sqe => Sys2Proof.Machine.execNvmtGetFeatures c sqe s
  | .nvmtSetFeatures c sqe => Sys2Proof.Machine.execNvmtSetFeatures c sqe s
  | .nvmtKeepAlive c sqe => Sys2Proof.Machine.execNvmtKeepAlive c sqe s
  | .nvmtAsyncEventRequest c sqe => Sys2Proof.Machine.execNvmtAsyncEventRequest c sqe s
  | .nvmtRead c sqe => Sys2Proof.Machine.execNvmtRead c sqe s
  | .nvmtWrite c sqe data => Sys2Proof.Machine.execNvmtWrite c sqe data s
  | .nvmtFlush c sqe => Sys2Proof.Machine.execNvmtFlush c sqe s
  | .nvmtDeallocate c sqe data => Sys2Proof.Machine.execNvmtDeallocate c sqe data s
  | .scrubPass addr kind => Sys2Proof.Machine.execScrubPass addr kind s
  | .zeroFillChunk chunk => Sys2Proof.Machine.execZeroFillChunk chunk s
  | .gddr6Recalibrate => Sys2Proof.Machine.execGddr6Recalibrate s
  | .ladderDescend => Sys2Proof.Machine.execLadderDescend s
  | .ladderWake cause => Sys2Proof.Machine.execLadderWake cause s
  | .wakeAtTimer => Sys2Proof.Machine.execWakeAtTimer s
  | .hibernateTimer => Sys2Proof.Machine.execHibernateTimer s
  | .powerGroupTimeout group => Sys2Proof.Machine.execPowerGroupTimeout group s
  | .pwrGoodFall group => Sys2Proof.Machine.execPwrGoodFall group s
  | .powerRetry => Sys2Proof.Machine.execPowerRetry s
  | .vsbDipStart mv => Sys2Proof.Machine.execVsbDipStart mv s
  | .vsbDipEnd mv => Sys2Proof.Machine.execVsbDipEnd mv s
  | .vsbBrownout mv => Sys2Proof.Machine.execVsbBrownout mv s
  | .brownoutRelease => Sys2Proof.Machine.execBrownoutRelease s
  | .vsbFirstApply => Sys2Proof.Machine.execVsbFirstApply s
  | .coldStart bif' => Sys2Proof.Machine.execColdStart bif' s
  | .thermalSample island temp watts => Sys2Proof.Machine.execThermalSample island temp watts s
  | .thermtripRelease => Sys2Proof.Machine.execThermtripRelease s
  | .avsCurrentRead ok amps => Sys2Proof.Machine.execAvsCurrentRead ok amps s
  | .coreRetireTimeout core => Sys2Proof.Machine.execCoreRetireTimeout core s
  | .corridorAckTimeout => Sys2Proof.Machine.execCorridorAckTimeout s
  | .clusterFault cluster => Sys2Proof.Machine.execClusterFault cluster s
  | .deviceFault => Sys2Proof.Machine.execDeviceFault s
  | .dataLinkUp rate lanes flit => Sys2Proof.Machine.execDataLinkUp rate lanes flit s
  | .msixControlWrite v => Sys2Proof.Machine.execMsixControlWrite v s
  | .malformedTlp kind => Sys2Proof.Machine.execMalformedTlp kind s
  | .receiverError kind => Sys2Proof.Machine.execReceiverError kind s
  | .replayTimerTimeout => Sys2Proof.Machine.execReplayTimerTimeout s
  | .unsupportedRequest => Sys2Proof.Machine.execUnsupportedRequest s
  | .noCommonAbility port => Sys2Proof.Machine.execNoCommonAbility port s
  | .keepAliveTimerExpiry ctrl => Sys2Proof.Machine.execKeepAliveTimerExpiry ctrl s
  | .marchRunEnd faults skipped => Sys2Proof.Machine.execMarchRunEnd faults skipped s
  | .sealKeyPairBuilt => Sys2Proof.Machine.execSealKeyPairBuilt s
  | .imageSectionLoaded => Sys2Proof.Machine.execImageSectionLoaded s
  | .codeReloadEnd => Sys2Proof.Machine.execCodeReloadEnd s
  | .jtagDebugAccess kind write addr v => Sys2Proof.Machine.execJtagDebugAccess kind write addr v s

end Sys2Proof.Machine
end

