-- ==== Sys2Proof/WellFormed.lean ====
section
/-!
DEFINITION. Which commands are well formed: operands within the ranges the manual gives them. `exec` has a meaning on every
command, well formed or not.
-/

namespace Sys2Proof

/-- A path names a room of the 1,024 (R10). -/
def Path.wf : Path → Bool
  | .roomRing r => decide (r < 1024)
  | _ => true

/-- The fields of a time structure fit their widths (R5). -/
def Time.wf (t : Time) : Bool := decide (t.sec < 2 ^ 64) && decide (t.ns < 2 ^ 32) && decide (t.frac < 2 ^ 32)

/-- The fields of a packet fit their widths, and a packet from a ring lies at a 64-byte entry (R79, R130). -/
def Packet.wf (p : Packet) : Bool :=
  p.path.wf && p.atTime.wf && decide (p.room < 2 ^ 16) && decide (p.params.length < 2 ^ 32) && decide (p.replyPtr < 2 ^ 64) &&
    decide (p.replyLen < 2 ^ 32) && (match p.entry with | some a => decide (a < 2 ^ 64) && decide (a % 64 = 0) | none => true)

/-- A register offset of the BARs or of configuration space (log entry 56), aligned to the access. -/
def offsetOk (off : Nat) (wide : Bool) : Bool := decide (off < 2 ^ 32 + 0x1880) && decide (off % (if wide then 8 else 4) = 0)

/-- A room, or 0xFFFF for the owner. -/
def spaceOk (room : Nat) : Bool := decide (room < 1024) || decide (room = 0xFFFF)

/-- The address of a 4 KiB page. -/
def pageOk (a : Nat) : Bool := decide (a < 2 ^ 64) && decide (a % 4096 = 0)

/-- A drive below one of the eight root ports, with a serial number of 20 bytes (R474, R513). -/
def DriveInfo.wf (i : DriveInfo) : Bool := decide (i.port < 8) && decide (i.serial.length ≤ 20) && decide (i.blocks < 2 ^ 64)

/-- A command is well formed. -/
def Instr.wf (i : Instr) : Bool :=
  match i with
  | .devIdentify p => p.wf
  | .devStatus p => p.wf
  | .devReset p => p.wf
  | .cfgCommit p => p.wf
  | .cfgRollback p => p.wf
  | .deviceProfile p => p.wf
  | .cfgDiscard p => p.wf
  | .cfgQuery p => p.wf
  | .roomQuery p => p.wf
  | .roomFurnish p => p.wf
  | .roomOpen p => p.wf
  | .roomClose p => p.wf
  | .roomReset p => p.wf
  | .roomVacate p => p.wf
  | .roomFreeze p => p.wf
  | .roomSave p => p.wf
  | .roomSaveDrained _ => true
  | .roomRestore p => p.wf
  | .roomThaw p => p.wf
  | .roomDoze p => p.wf
  | .roomMsgSet p => p.wf
  | .roomPolicy p => p.wf
  | .roomDirtyLog p => p.wf
  | .ringCreate p => p.wf
  | .ringDestroy p => p.wf
  | .ringEnable p => p.wf
  | .ringDisable p => p.wf
  | .ringModerate p => p.wf
  | .ringWeight p => p.wf
  | .ringRxMode p => p.wf
  | .portConfig p => p.wf
  | .portAdmin p => p.wf
  | .portQuery p => p.wf
  | .portPtp p => p.wf
  | .clsBankLoad p => p.wf
  | .clsBankSelect p => p.wf
  | .clsKeyProfile p => p.wf
  | .clsHashSet p => p.wf
  | .clsException p => p.wf
  | .clsTunnel p => p.wf
  | .clsMirror p => p.wf
  | .tmNodeSet p => p.wf
  | .tmShaperRate p => p.wf
  | .tmPolicerSet p => p.wf
  | .tmGateList p => p.wf
  | .tmTelemetry p => p.wf
  | .timeSet p => p.wf
  | .timeAdjust p => p.wf
  | .periodSet p => p.wf
  | .syncConfig p => p.wf
  | .ppsSet p => p.wf
  | .schedCancel p => p.wf
  | .schedQuery p => p.wf
  | .keyDomainCreate p => p.wf
  | .keyDomainRotate p => p.wf
  | .keyDomainDestroy p => p.wf
  | .keyDomainQuery p => p.wf
  | .keyImportWrapped p => p.wf
  | .keySaAdd p => p.wf
  | .keySaDelete p => p.wf
  | .keySealNew p => p.wf
  | .sealStatus p => p.wf
  | .sealPubkeys p => p.wf
  | .sealExport p => p.wf
  | .sealHandover p => p.wf
  | .sealAccept p => p.wf
  | .volCreate p => p.wf
  | .volDestroy p => p.wf
  | .nsCreate p => p.wf
  | .nsDelete p => p.wf
  | .journalSet p => p.wf
  | .storageOpen p => p.wf
  | .sweepSet p => p.wf
  | .transcryptStart p => p.wf
  | .transcryptCancel p => p.wf
  | .nvmtSet p => p.wf
  | .driveQuery p => p.wf
  | .memMarch p => p.wf
  | .memRegionSet p => p.wf
  | .memErrQuery p => p.wf
  | .pwrState p => p.wf
  | .pwrPolicy p => p.wf
  | .dbgNonce p => p.wf
  | .dbgUnlock p => p.wf
  | .dbgLock p => p.wf
  | .dbgLedger p => p.wf
  | .dbgStallPolicy p => p.wf
  | .fwQuery p => p.wf
  | .fwLoad p => p.wf
  | .fwActivate p => p.wf
  | .annexLoad p => p.wf
  | .annexCores p => p.wf
  | .schedRelease handle => decide (handle < 2 ^ 32)
  | .progressEvent _ => true
  | .frontdoorDoorbell _ => true
  | .frontdoorCtrlWrite _ => true
  | .ringDoorbell ref _ => decide (ref < 2 ^ 32)
  | .eventRingDoorbell _ _ => true
  | .ownerDoorbell _ => true
  | .ownerEventOverflowAck _ => true
  | .mboxDoorbell _ => true
  | .registerWrite off wide _ => offsetOk off wide
  | .rcCounterRead off access => offsetOk off access.wide
  | .barBadAccess _ => true
  | .timeNowLatch => true
  | .timeIncrWrite _ => true
  | .applyOffset => true
  | .winWrite => true
  | .winInvalidate => true
  | .winRead => true
  | .halt => true
  | .resume => true
  | .step => true
  | .reseat => true
  | .msixTableWrite _ _ _ => true
  | .bmeClear _ => true
  | .bmeSet _ => true
  | .ctoValueWrite _ => true
  | .flrInitiate => true
  | .d3hotEntry _ => true
  | .d0Return _ => true
  | .completionReceived tag _ _ => decide (tag < 2 ^ 14)
  | .completionTimeout tag => decide (tag < 2 ^ 14)
  | .quarantineEnd tag => decide (tag < 2 ^ 14)
  | .atsTranslationCompletion room page phys => spaceOk room && pageOk page && (match phys with | some a => pageOk a | none => true)
  | .atsInvalidationRequest room page _ itag _ => spaceOk room && pageOk page && decide (itag < 32)
  | .invalidationCompletion itag => decide (itag < 32)
  | .doeObjectWrite _ => true
  | .doeAbort => true
  | .spdmRequest _ _ => true
  | .ideKmMessage _ _ _ => true
  | .ideStreamInsecure _ => true
  | .lockInterfaceRequest _ _ => true
  | .startInterfaceRequest _ => true
  | .stopInterfaceRequest _ => true
  | .tdiError _ => true
  | .l0pNarrow => true
  | .l0pWiden => true
  | .aspmL1Entry => true
  | .pmeTurnOff => true
  | .perstAssert => true
  | .perstDeassert => true
  | .hotReset => true
  | .pcieLinkDown => true
  | .mctpMessage _ bytes => decide (bytes.length < 2 ^ 16)
  | .setEndpointId _ => true
  | .getTid _ => true
  | .getPldmVersion _ => true
  | .getPldmTypes _ => true
  | .getPldmCommands _ => true
  | .getPdrRepositoryInfo _ => true
  | .getPdr _ => true
  | .getSensorReading _ => true
  | .getStateSensorReadings _ => true
  | .pollForPlatformEventMessage _ => true
  | .pldmSensorUpdate _ _ => true
  | .smbusTimeoutReset => true
  | .jtagIdcode => true
  | .jtagBypass => true
  | .jtagSamplePreload _ => true
  | .jtagExtest => true
  | .jtagTrst => true
  | .islandAdopt _ => true
  | .genAck _ => true
  | .commitStallTimeout => true
  | .generationRetire => true
  | .rxFrame _ bytes _ _ _ => decide (bytes.length < 2 ^ 14)
  | .pauseFrameReceive _ _ => true
  | .pauseQuantaExpiry _ _ => true
  | .pfcXoffRepeat _ _ => true
  | .linkUp _ => true
  | .linkDown _ _ => true
  | .moduleReady _ => true
  | .timeRefLost => true
  | .timeRefRestored => true
  | .syncEdge _ => true
  | .syncWindowClose => true
  | .periodBoundary => true
  | .gateEntryChange _ => true
  | .ppsPulse _ => true
  | .ageClockAdvance => true
  | .agingSweep => true
  | .packetParse _ => true
  | .flowTableLookupDone _ => true
  | .switchPass => true
  | .servicePacket _ => true
  | .backStairPacket => true
  | .reasmTimeout => true
  | .tmEnqueue => true
  | .tmScheduleDecision _ => true
  | .rxHoldLimitExpiry ref => decide (ref < 2 ^ 32)
  | .telemetryVisit => true
  | .txDescriptor ref => decide (ref < 2 ^ 32)
  | .rxFrameDelivery => true
  | .storeWrite ref => decide (ref < 2 ^ 32)
  | .storeRead ref => decide (ref < 2 ^ 32)
  | .storeFlush ref => decide (ref < 2 ^ 32)
  | .storeDeallocate ref => decide (ref < 2 ^ 32)
  | .storeVerify ref => decide (ref < 2 ^ 32)
  | .moderationFire ref => decide (ref < 2 ^ 32)
  | .heldInterruptRelease => true
  | .roomResetDrainEnd _ => true
  | .stallSentinelEval _ => true
  | .lineMessageDeliver line => decide (line < 2 ^ 16)
  | .lendAccept line => decide (line < 2 ^ 16)
  | .hitchGrant hitch => decide (hitch < 2 ^ 15)
  | .deadlineTimeout _ => true
  | .parkWake _ => true
  | .lhReadyChange _ => true
  | .add _ _ _ _ => true
  | .sub _ _ _ _ => true
  | .and _ _ _ _ => true
  | .or _ _ _ _ => true
  | .xor _ _ _ _ => true
  | .shl _ _ _ _ => true
  | .shr _ _ _ _ => true
  | .sra _ _ _ _ => true
  | .mul _ _ _ _ => true
  | .mulhu _ _ _ _ => true
  | .divu _ _ _ _ => true
  | .remu _ _ _ _ => true
  | .clz _ _ _ => true
  | .popc _ _ _ => true
  | .bswap _ _ _ => true
  | .sextb _ _ _ => true
  | .sexth _ _ _ => true
  | .sextw _ _ _ => true
  | .addi _ _ _ _ => true
  | .andi _ _ _ _ => true
  | .ori _ _ _ _ => true
  | .xori _ _ _ _ => true
  | .shli _ _ _ _ => true
  | .shri _ _ _ _ => true
  | .srai _ _ _ _ => true
  | .ldi _ _ _ => true
  | .lsh16 _ _ _ => true
  | .cmpEq _ _ _ _ => true
  | .cmpNe _ _ _ _ => true
  | .cmpLtu _ _ _ _ => true
  | .cmpLts _ _ _ _ => true
  | .cmpGeu _ _ _ _ => true
  | .cmpGes _ _ _ _ => true
  | .cmpTest _ _ _ _ => true
  | .cmpiEq _ _ _ _ => true
  | .cmpiNe _ _ _ _ => true
  | .cmpiLts _ _ _ _ => true
  | .cmpiLtu _ _ _ _ => true
  | .pand _ _ _ _ => true
  | .por _ _ _ _ => true
  | .pxor _ _ _ _ => true
  | .pnot _ _ _ => true
  | .pget _ _ => true
  | .pset _ _ => true
  | .j _ _ => true
  | .jal _ _ => true
  | .jr _ _ _ => true
  | .ldb _ _ _ _ => true
  | .ldh _ _ _ _ => true
  | .ldw _ _ _ _ => true
  | .ldd _ _ _ _ => true
  | .stb _ _ _ _ => true
  | .sth _ _ _ _ => true
  | .stw _ _ _ _ => true
  | .std _ _ _ _ => true
  | .vld _ _ _ _ => true
  | .vst _ _ _ _ => true
  | .aadd _ _ _ _ => true
  | .aswp _ _ _ _ => true
  | .acas _ _ _ _ => true
  | .lput _ _ _ _ => true
  | .lend _ _ _ _ => true
  | .lendt _ _ _ _ => true
  | .ldrop _ _ => true
  | .lget _ _ _ => true
  | .lgetd _ _ _ _ => true
  | .ltry _ _ _ => true
  | .htie _ _ _ => true
  | .htied _ _ _ _ => true
  | .huntie _ _ _ => true
  | .htry _ _ _ => true
  | .tput _ _ _ => true
  | .tend _ _ _ _ => true
  | .tendt _ _ _ _ => true
  | .park _ _ => true
  | .yield _ => true
  | .timens _ _ => true
  | .brk _ => true
  | .treseat _ _ => true
  | .iflush _ => true
  | .fence _ => true
  | .mfs _ _ _ => true
  | .mts _ _ _ => true
  | .vxor _ _ _ _ => true
  | .vand _ _ _ _ => true
  | .vor _ _ _ _ => true
  | .vandn _ _ _ _ => true
  | .vxor3 _ _ _ _ => true
  | .vadd_8 _ _ _ _ => true
  | .vadd_16 _ _ _ _ => true
  | .vadd_32 _ _ _ _ => true
  | .vadd_64 _ _ _ _ => true
  | .vsub_8 _ _ _ _ => true
  | .vsub_16 _ _ _ _ => true
  | .vsub_32 _ _ _ _ => true
  | .vsub_64 _ _ _ _ => true
  | .vclmul _ _ _ _ => true
  | .vclmulG _ _ _ _ => true
  | .vgfred _ _ _ => true
  | .vgfredG _ _ _ => true
  | .vgfx _ _ _ _ => true
  | .vgfxG _ _ _ _ => true
  | .vgf8mul _ _ _ _ => true
  | .vgf8mac _ _ _ _ => true
  | .vgf8muls _ _ _ _ => true
  | .vgf8macs _ _ _ _ => true
  | .vfold _ _ _ => true
  | .vctr32 _ _ _ _ => true
  | .vctr128 _ _ _ _ => true
  | .vtageq _ _ _ _ => true
  | .vmvg _ _ _ _ => true
  | .vmvv _ _ _ _ => true
  | .vbcast _ _ _ => true
  | .vshuf _ _ _ _ => true
  | .vbswap128 _ _ _ => true
  | .vzero _ _ => true
  | .lhdr _ _ _ => true
  | .aesFwd _ => true
  | .aesInv _ => true
  | .keyPrefetch _ => true
  | .digestSha256 _ => true
  | .digestSha512 _ => true
  | .keccakAbsorb _ => true
  | .keccakSqueeze _ => true
  | .digestDual _ => true
  | .tileBurst _ => true
  | .tileResponseDeliver _ => true
  | .tileInternalError _ => true
  | .tileRestart _ => true
  | .strongroomLease _ => true
  | .keyScheduleLoad _ => true
  | .vaultPersist => true
  | .knotSign => true
  | .bottomTreeBuild => true
  | .sealAutoNew => true
  | .drbgReseed => true
  | .entropyHealthFail => true
  | .importHandleExpiry => true
  | .nonceExpiry => true
  | .trialTimeout => true
  | .imageReady => true
  | .codeRegionCheck _ => true
  | .placeConfirm => true
  | .epochClose => true
  | .knotPublish => true
  | .epochLogPersist => true
  | .driveCompletion _ id status _ => decide (id < 2 ^ 16) && decide (status < 2 ^ 15)
  | .journalBlockSubmit => true
  | .mapCheckpoint => true
  | .driveCmdTimeout _ id => decide (id < 2 ^ 16)
  | .controllerReset _ => true
  | .controllerReadyTimeout _ => true
  | .driveEnumeration found => found.all DriveInfo.wf
  | .driveHotAdd info => info.wf
  | .driveRemoval _ => true
  | .driveAsyncEvent _ _ => true
  | .driveInboundRequest _ addr len _ => decide (addr + len ≤ 2 ^ 64)
  | .journalResync => true
  | .rebuildExtent _ => true
  | .sweepCycleStart _ => true
  | .sweepExtent _ => true
  | .transcryptExtent _ _ => true
  | .batchCursorPersist => true
  | .backgroundDeallocate => true
  | .storageStartup => true
  | .replayInPlace => true
  | .nvmtConnectionOpen _ _ remote _ _ _ _ _ ctrl => (decide (remote.length = 4) || decide (remote.length = 16)) && decide (ctrl < 2 ^ 16)
  | .nvmtTlsHandshake _ _ _ => true
  | .nvmtPduError _ _ => true
  | .tcpRetransmitTimeout _ => true
  | .tcpProgressTimeout _ => true
  | .nvmtIdentify _ sqe => decide (sqe.length = 64)
  | .nvmtGetLogPage _ sqe => decide (sqe.length = 64)
  | .nvmtGetFeatures _ sqe => decide (sqe.length = 64)
  | .nvmtSetFeatures _ sqe => decide (sqe.length = 64)
  | .nvmtKeepAlive _ sqe => decide (sqe.length = 64)
  | .nvmtAsyncEventRequest _ sqe => decide (sqe.length = 64)
  | .nvmtRead _ sqe => decide (sqe.length = 64)
  | .nvmtWrite _ sqe _ => decide (sqe.length = 64)
  | .nvmtFlush _ sqe => decide (sqe.length = 64)
  | .nvmtDeallocate _ sqe _ => decide (sqe.length = 64)
  | .scrubPass addr _ => decide (addr < 2 ^ 38)
  | .zeroFillChunk _ => true
  | .gddr6Recalibrate => true
  | .ladderDescend => true
  | .ladderWake _ => true
  | .wakeAtTimer => true
  | .hibernateTimer => true
  | .powerGroupTimeout _ => true
  | .pwrGoodFall _ => true
  | .powerRetry => true
  | .vsbDipStart mv => decide (mv < 2 ^ 16)
  | .vsbDipEnd mv => decide (mv < 2 ^ 16)
  | .vsbBrownout mv => decide (mv < 2 ^ 16)
  | .brownoutRelease => true
  | .vsbFirstApply => true
  | .coldStart _ => true
  | .thermalSample _ _ _ => true
  | .thermtripRelease => true
  | .avsCurrentRead _ _ => true
  | .coreRetireTimeout _ => true
  | .corridorAckTimeout => true
  | .clusterFault _ => true
  | .deviceFault => true
  | .dataLinkUp rate lanes _ => decide (1 ≤ rate.val) && [1, 2, 4, 8, 16].contains lanes.val
  | .msixControlWrite _ => true
  | .malformedTlp _ => true
  | .receiverError _ => true
  | .replayTimerTimeout => true
  | .unsupportedRequest => true
  | .noCommonAbility _ => true
  | .keepAliveTimerExpiry ctrl => decide (ctrl < 2 ^ 16)
  | .marchRunEnd _ _ => true
  | .sealKeyPairBuilt => true
  | .imageSectionLoaded => true
  | .codeReloadEnd => true
  | .jtagDebugAccess _ _ _ _ => true

end Sys2Proof
end

