-- ==== Sys2Proof/Safety.lean ====
section
/-!
DEFINITION. The terms claims are stated in: what a thread's instruction leaves, what a command that runs now is, what
the state's invariants are.
-/

namespace Sys2Proof.Machine

/-! ## Dreko instructions -/

/-- The thread issues, and the guard holds (R331). -/
def State.runs (s : State) (x : Issue) : Prop :=
  (s.thread x.thread).issues = true ∧ x.guard ≠ 8 ∧ guardHolds (s.thread x.thread) x.guard = true

/-- The thread that executes. -/
def State.self (s : State) (x : Issue) : Thread := s.thread x.thread

/-- The state after an instruction that leaves its thread as `th`: the next instruction follows. -/
def State.leaves (s : State) (x : Issue) (th : Thread) : State := (s.setThread x.thread th).retire x.thread

/-- After a write of a g register. -/
def State.putsG (s : State) (x : Issue) (d : Greg) (v : Word) : State := s.leaves x ((s.self x).wg d v)

/-- After a write of a vector register. -/
def State.putsV (s : State) (x : Issue) (d : Vreg) (v : Vec) : State := s.leaves x ((s.self x).wv d v)

/-- After a write of a predicate. -/
def State.putsP (s : State) (x : Issue) (d : Preg) (b : Bool) : State := s.leaves x ((s.self x).wp d b)

/-- The address of a load or store (R347). -/
def State.effAddr (s : State) (x : Issue) (a : Greg) (imm : BitVec 12) : Nat := ((s.self x).rg a + imm12 imm).toNat

/-- Where an instruction that only writes its thread's own registers writes. -/
inductive Dest where
  | g (d : Greg)
  | v (d : Vreg)
  | pair (d : Vpair)
  | p (d : Preg)
  | preds
  | none
  deriving DecidableEq, Repr

/-- The instructions that reach nothing but their thread's registers and never fault, with their destination. -/
def registerOnly : Instr → Option (Issue × Dest)
  | .add x d _ _ | .sub x d _ _ | .and x d _ _ | .or x d _ _ | .xor x d _ _ | .shl x d _ _ | .shr x d _ _ | .sra x d _ _
  | .mul x d _ _ | .mulhu x d _ _ | .divu x d _ _ | .remu x d _ _ | .clz x d _ | .popc x d _ | .bswap x d _
  | .sextb x d _ | .sexth x d _ | .sextw x d _ | .addi x d _ _ | .andi x d _ _ | .ori x d _ _ | .xori x d _ _
  | .shli x d _ _ | .shri x d _ _ | .srai x d _ _ | .ldi x d _ | .lsh16 x d _ | .pget x d | .timens x d | .vmvg x d _ _ => some (x, .g d)
  | .cmpEq x d _ _ | .cmpNe x d _ _ | .cmpLtu x d _ _ | .cmpLts x d _ _ | .cmpGeu x d _ _ | .cmpGes x d _ _ | .cmpTest x d _ _
  | .cmpiEq x d _ _ | .cmpiNe x d _ _ | .cmpiLts x d _ _ | .cmpiLtu x d _ _ | .pand x d _ _ | .por x d _ _ | .pxor x d _ _
  | .pnot x d _ | .vtageq x d _ _ => some (x, .p d)
  | .pset x _ => some (x, .preds)
  | .vxor x d _ _ | .vand x d _ _ | .vor x d _ _ | .vandn x d _ _ | .vxor3 x d _ _ | .vadd_8 x d _ _ | .vadd_16 x d _ _
  | .vadd_32 x d _ _ | .vadd_64 x d _ _ | .vsub_8 x d _ _ | .vsub_16 x d _ _ | .vsub_32 x d _ _ | .vsub_64 x d _ _
  | .vgfred x d _ | .vgfredG x d _ | .vgf8mul x d _ _ | .vgf8mac x d _ _ | .vgf8muls x d _ _ | .vgf8macs x d _ _
  | .vfold x d _ | .vctr32 x d _ _ | .vctr128 x d _ _ | .vmvv x d _ _ | .vbcast x d _ | .vshuf x d _ _ | .vbswap128 x d _
  | .vzero x d | .lhdr x d _ => some (x, .v d)
  | .vclmul x d _ _ | .vclmulG x d _ _ => some (x, .pair d)
  | .yield x | .fence x => some (x, .none)
  | _ => none

/-- Registers other than the destination are as before (R327, R336). -/
def Thread.keeps (w : Dest) (a b : Thread) : Prop :=
  (∀ r, w ≠ .g r → b.rg r = a.rg r) ∧
  (∀ r, w ≠ .v r → (∀ q, w = .pair q → r ≠ pairLo q ∧ r ≠ pairHi q) → b.rv r = a.rv r) ∧
  (∀ r, w ≠ .p r → w ≠ .preds → b.rp r = a.rp r) ∧
  { b with g := a.g, v := a.v, p := a.p, pc := a.pc, retired := a.retired } = a

/-- Everything but thread `t` is as before. -/
def State.sameBut (s u : State) (t : Nat) : Prop :=
  (∀ k, k ≠ t → u.thread k = s.thread k) ∧ u = { s with cores := { s.cores with threads := u.cores.threads } }

/-- The instruction's operands have an encoding: a VGFX count outside 1 to 8 has none (R332, R335). -/
def encodable : Instr → Bool
  | .vgfx _ _ _ n | .vgfxG _ _ _ n => decide (1 ≤ n.toNat ∧ n.toNat ≤ 8)
  | _ => true

/-- A thread may stage or send on a line (R300, R304, R311): the line is used, an annex thread may reach it, and what is staged is
for it. -/
def State.lineOpen (s : State) (x : Issue) (n : Nat) : Prop :=
  s.cores.lhReady = true ∧ n < 65536 ∧ (s.line n).cap ≠ 0 ∧ s.annexLineOk x.thread n = true ∧ (s.self x).stagedElsewhere n = false

/-- A thread may tie a hitch it does not hold (R304, R312, R314). -/
def State.hitchOpen (s : State) (x : Issue) (n : Nat) : Prop :=
  s.cores.lhReady = true ∧ n < 32768 ∧ (s.hitch n).count ≠ 0 ∧ ¬ (s.isAnnex x.thread = true ∧ n < 30720) ∧
    n ∉ (s.self x).held ∧ (s.self x).held.length < 16

/-- The thread of a state blocks where it stands: PC and the retired count stay. -/
def State.blocksAs (s u : State) (x : Issue) (st : ThState) (n : Nat) (d : Greg) (deadline : Option Nat) : Prop :=
  (u.self x).state = st ∧ (u.self x).object = n ∧ (u.self x).resultReg = d ∧ (u.self x).deadline = deadline ∧
    (u.self x).pc = (s.self x).pc ∧ (u.self x).retired = (s.self x).retired

/-- The instruction of `x` completes with result `v` in `d` (R337). -/
def State.answers (s u : State) (x : Issue) (d : Greg) (v : Word) : Prop :=
  (u.self x).rg d = (if d = 0 then 0 else v) ∧ (u.self x).pc = (s.self x).pc + 4 ∧
    (u.self x).retired = (s.self x).retired + 1 ∧ (u.self x).state = (s.self x).state

/-! ## Ehrenan commands -/

/-- The packet and the command of a row that submits an Ehrenan command (R85). -/
def commandRow : Instr → Option (Packet × Command)
  | .devIdentify p => some (p, cmdDevIdentify)
  | .devStatus p => some (p, cmdDevStatus)
  | .devReset p => some (p, cmdDevReset)
  | .cfgCommit p => some (p, cmdCfgCommit)
  | .cfgRollback p => some (p, cmdCfgRollback)
  | .deviceProfile p => some (p, cmdDeviceProfile)
  | .cfgDiscard p => some (p, cmdCfgDiscard)
  | .cfgQuery p => some (p, cmdCfgQuery)
  | .roomQuery p => some (p, cmdRoomQuery)
  | .roomFurnish p => some (p, cmdRoomFurnish)
  | .roomOpen p => some (p, cmdRoomOpen)
  | .roomClose p => some (p, cmdRoomClose)
  | .roomReset p => some (p, cmdRoomReset)
  | .roomVacate p => some (p, cmdRoomVacate)
  | .roomFreeze p => some (p, cmdRoomFreeze)
  | .roomSave p => some (p, cmdRoomSave)
  | .roomRestore p => some (p, cmdRoomRestore)
  | .roomThaw p => some (p, cmdRoomThaw)
  | .roomDoze p => some (p, cmdRoomDoze)
  | .roomMsgSet p => some (p, cmdRoomMsgSet)
  | .roomPolicy p => some (p, cmdRoomPolicy)
  | .roomDirtyLog p => some (p, cmdRoomDirtyLog)
  | .ringCreate p => some (p, cmdRingCreate)
  | .ringDestroy p => some (p, cmdRingDestroy)
  | .ringEnable p => some (p, cmdRingEnable)
  | .ringDisable p => some (p, cmdRingDisable)
  | .ringModerate p => some (p, cmdRingModerate)
  | .ringWeight p => some (p, cmdRingWeight)
  | .ringRxMode p => some (p, cmdRingRxMode)
  | .portConfig p => some (p, cmdPortConfig)
  | .portAdmin p => some (p, cmdPortAdmin)
  | .portQuery p => some (p, cmdPortQuery)
  | .portPtp p => some (p, cmdPortPtp)
  | .clsBankLoad p => some (p, cmdClsBankLoad)
  | .clsBankSelect p => some (p, cmdClsBankSelect)
  | .clsKeyProfile p => some (p, cmdClsKeyProfile)
  | .clsHashSet p => some (p, cmdClsHashSet)
  | .clsException p => some (p, cmdClsException)
  | .clsTunnel p => some (p, cmdClsTunnel)
  | .clsMirror p => some (p, cmdClsMirror)
  | .tmNodeSet p => some (p, cmdTmNodeSet)
  | .tmShaperRate p => some (p, cmdTmShaperRate)
  | .tmPolicerSet p => some (p, cmdTmPolicerSet)
  | .tmGateList p => some (p, cmdTmGateList)
  | .tmTelemetry p => some (p, cmdTmTelemetry)
  | .timeSet p => some (p, cmdTimeSet)
  | .timeAdjust p => some (p, cmdTimeAdjust)
  | .periodSet p => some (p, cmdPeriodSet)
  | .syncConfig p => some (p, cmdSyncConfig)
  | .ppsSet p => some (p, cmdPpsSet)
  | .schedCancel p => some (p, cmdSchedCancel)
  | .schedQuery p => some (p, cmdSchedQuery)
  | .keyDomainCreate p => some (p, cmdKeyDomainCreate)
  | .keyDomainRotate p => some (p, cmdKeyDomainRotate)
  | .keyDomainDestroy p => some (p, cmdKeyDomainDestroy)
  | .keyDomainQuery p => some (p, cmdKeyDomainQuery)
  | .keyImportWrapped p => some (p, cmdKeyImportWrapped)
  | .keySaAdd p => some (p, cmdKeySaAdd)
  | .keySaDelete p => some (p, cmdKeySaDelete)
  | .keySealNew p => some (p, cmdKeySealNew)
  | .sealStatus p => some (p, cmdSealStatus)
  | .sealPubkeys p => some (p, cmdSealPubkeys)
  | .sealExport p => some (p, cmdSealExport)
  | .sealHandover p => some (p, cmdSealHandover)
  | .sealAccept p => some (p, cmdSealAccept)
  | .volCreate p => some (p, cmdVolCreate)
  | .volDestroy p => some (p, cmdVolDestroy)
  | .nsCreate p => some (p, cmdNsCreate)
  | .nsDelete p => some (p, cmdNsDelete)
  | .journalSet p => some (p, cmdJournalSet)
  | .storageOpen p => some (p, cmdStorageOpen)
  | .sweepSet p => some (p, cmdSweepSet)
  | .transcryptStart p => some (p, cmdTranscryptStart)
  | .transcryptCancel p => some (p, cmdTranscryptCancel)
  | .nvmtSet p => some (p, cmdNvmtSet)
  | .driveQuery p => some (p, cmdDriveQuery)
  | .memMarch p => some (p, cmdMemMarch)
  | .memRegionSet p => some (p, cmdMemRegionSet)
  | .memErrQuery p => some (p, cmdMemErrQuery)
  | .pwrState p => some (p, cmdPwrState)
  | .pwrPolicy p => some (p, cmdPwrPolicy)
  | .dbgNonce p => some (p, cmdDbgNonce)
  | .dbgUnlock p => some (p, cmdDbgUnlock)
  | .dbgLock p => some (p, cmdDbgLock)
  | .dbgLedger p => some (p, cmdDbgLedger)
  | .dbgStallPolicy p => some (p, cmdDbgStallPolicy)
  | .fwQuery p => some (p, cmdFwQuery)
  | .fwLoad p => some (p, cmdFwLoad)
  | .fwActivate p => some (p, cmdFwActivate)
  | .annexLoad p => some (p, cmdAnnexLoad)
  | .annexCores p => some (p, cmdAnnexCores)
  | _ => none

/-- A packet begins at once: its path takes packets and its ring's previous command has ended (R82), no check made before the command's own
refuses it (R74, R79, R599), and it is neither scheduled nor a dry run. -/
def Command.starts (c : Command) (p : Packet) (s : State) : Prop :=
  s.pathUp p.path = true ∧ s.pathBusy p.path = false ∧ c.refuses s p.scoped = none ∧ p.scoped.atTimeFlag = false ∧ p.scoped.dry = false

/-- The context of a packet that begins at once. -/
def Command.context (c : Command) (p : Packet) : Ctx := ⟨c.opcode, p.scoped, .now⟩

/-- The block goes on from `u`: a step of the time base runs the stored commands it passed (R93), and housekeepers begin what waits. -/
def State.goesOn (u : State) : State := u.settleStep.serveAll

/-- The command ends from `u` with a status and reply data (R81). -/
def Command.ends (c : Command) (p : Packet) (u : State) (st : Status) (data : List Byte) (more : Bool := false) : State :=
  (u.reply p.scoped c.opcode st data more none false).goesOn

/-- A long command that waits for its reads ends so from `s` once they are in (R82): with a status, reply data, and the state `u`. -/
def Command.completes (c : Command) (x : Ctx) (s u : State) (st : Status) (data : List Byte) (more : Bool := false) : Prop :=
  ∃ f, c.after = some f ∧ f x s = if more then .part st data u else .done st data u

/-- What a commit of these changes meets (R29, R31, R36, R104): no other generation is live or under way, every cycle of the new settings
divides by the period, no action record is out of range, and every ROOM_FURNISH among them still fits. -/
def State.commitFits (s : State) (cs : List (Nat × List Byte)) : Prop :=
  s.gen.stalled = false ∧ s.gen.inProgress = false ∧ s.gen.prevLive = false ∧
    cyclesDivide (s.nextSettings (mergedChanges cs)) = true ∧ (mergedChanges cs).any badAction = false ∧
    s.furnishBarred (mergedChanges cs) s.nextProfile = none

/-- `u` is `s` after the acceptance of a commit of these changes (R20, R29, R30, R37): the next number is in force with the settings built from
those before it, the generation before it is live beside it, a profile is locked, and no island has adopted. -/
def State.commits (s u : State) (cs : List (Nat × List Byte)) : Prop :=
  u.gen.current = nextGen s.gen.last ∧ u.gen.last = nextGen s.gen.last ∧ u.gen.previous = s.gen.current ∧
    u.gen.cur = s.nextSettings (mergedChanges cs) ∧ u.gen.prev = s.gen.cur ∧ u.gen.prevLive = true ∧ u.gen.inProgress = true ∧
    u.gen.changes = mergedChanges cs ∧ u.gen.applied = 0 ∧ u.gen.deferred = s.gated ∧ u.gen.locked = true ∧
    (s.gen.locked = true → u.gen.profile = s.gen.profile) ∧ u.rooms = s.rooms ∧ u.rings = s.rings ∧ u.mem = s.mem

end Sys2Proof.Machine
end

