-- ==== Sys2Proof/Certificates/Slice0/Obligations.lean ====
section
/-!
DEFINITION. The statements for the provers.
-/

open Sys2Proof Sys2Proof.Machine

/-! ## The block as a machine -/

/-- A step runs the front command: step of s with c at the front of its queue is exec of c on s with the queue's rest. -/
def Obligations.StepIsExec : Prop :=
  ∀ (c : Instr) (cs : List Instr) (s : State), step { s with pending := c :: cs } = exec c { s with pending := cs }

/-- No command stops the machine: every command answers a next state on every state, and a step therefore always does. -/
def Obligations.NoCommandStops : Prop :=
  (∀ (c : Instr) (s : State), ∃ t, exec c s = .next t) ∧ ∀ s : State, ∃ t, step s = .next t

/-! ## Dreko instructions: issue, encodings, registers -/

/-- R331: GUARD 0b0000 always executes, 0b1000 is an illegal instruction, and an instruction whose predicate XOR NEG is 0 is only stepped
past: it writes nothing, does not block and raises no fault. A thread that is not ready or is halted issues nothing. A predicate that one
instruction wrote guards the thread's next one. -/
def Obligations.GuardRule : Prop :=
  (∀ (i : Instr) (x : Issue) (w : Nat) (s : State), drekoFields i = some (x, w) →
    ((s.self x).issues = false → exec i s = .next s) ∧
    ((s.self x).issues = true → x.guard = 8 → exec i s = .next (s.threadFault x.thread .illegal (8 * 2 ^ 28 + w) 0)) ∧
    ((s.self x).issues = true → x.guard ≠ 8 → ((s.self x).rp (Fin.ofNat 8 (x.guard.toNat % 8)) != x.guard.getLsbD 3) = false →
      exec i s = .next (s.leaves x (s.self x)))) ∧
  (∀ th : Thread, guardHolds th 0 = true) ∧
  (∀ (s : State) (x : Issue) (d : Preg) (b : Bool), d ≠ 0 → ((s.putsP x d b).self x).rp d = b)

/-- Decoding an encoded Dreko instruction gives it back, with every operand at every value its encoding admits (R330 to R334). The
excepted instructions are those of `encodable`: a VGFX count outside 1 to 8 is no encoding of it. -/
def Obligations.DrekoRoundTrip : Prop :=
  ∀ (i : Instr) (x : Issue) (w : Nat), drekoFields i = some (x, w) → encodable i = true →
    ∃ word, encodeDreko i = some word ∧ decodeDreko x.thread word = some i

/-- The register-only instructions complete, and write nothing but their destination, PC and the retired count (R327, R334, R336): every
other register of the thread, every other thread and everything else in the device is as before. -/
def Obligations.RegisterOnlyFrame : Prop :=
  ∀ (i : Instr) (x : Issue) (w : Dest) (s : State), registerOnly i = some (x, w) → s.runs x →
    ∃ t, exec i s = .next t ∧ s.sameBut t x.thread ∧ Thread.keeps w (s.self x) (t.self x) ∧
      (t.self x).pc = (s.self x).pc + 4 ∧ (t.self x).retired = (s.self x).retired + 1

/-- Reading after writing a thread's registers (R327): g0 reads 0 and p0 reads 1, writes of either are discarded, and any other register
reads what was written. -/
def Obligations.RegisterReadback : Prop :=
  ∀ (s : State) (x : Issue),
    (∀ (d : Greg) (v : Word), ((s.putsG x d v).self x).rg d = if d = 0 then 0 else v) ∧
    (∀ (d : Vreg) (v : Vec), ((s.putsV x d v).self x).rv d = v) ∧
    (∀ (d : Preg) (b : Bool), ((s.putsP x d b).self x).rp d = (decide (d = 0) || b)) ∧
    (∀ (d : Greg) (v : Word), (s.putsG x d v).self x = { (s.self x).wg d v with
      pc := (s.self x).pc + 4, retired := (s.self x).retired + 1 })

/-- Integer instructions of format R (R334). CLZ, POPC and BSWAP, by the bits of their results (R334): the number of leading zero bits,
the number of bits set, and byte k of the result byte 7 - k of the source. Integer instructions with an immediate (R330, R334): the signed
immediates are sign-extended to 64 bits. -/
def Obligations.IntegerResults : Prop :=
  (
  ∀ (x : Issue) (d a b : Greg) (s : State), s.runs x →
    let A := (s.self x).rg a
    let B := (s.self x).rg b
    exec (.add x d a b) s = .next (s.putsG x d (A + B)) ∧
    exec (.sub x d a b) s = .next (s.putsG x d (A - B)) ∧
    exec (.and x d a b) s = .next (s.putsG x d (A &&& B)) ∧
    exec (.or x d a b) s = .next (s.putsG x d (A ||| B)) ∧
    exec (.xor x d a b) s = .next (s.putsG x d (A ^^^ B)) ∧
    exec (.shl x d a b) s = .next (s.putsG x d (A <<< (B.toNat % 64))) ∧
    exec (.shr x d a b) s = .next (s.putsG x d (A >>> (B.toNat % 64))) ∧
    exec (.sra x d a b) s = .next (s.putsG x d (A.sshiftRight (B.toNat % 64))) ∧
    exec (.mul x d a b) s = .next (s.putsG x d (BitVec.ofNat 64 (A.toNat * B.toNat))) ∧
    exec (.mulhu x d a b) s = .next (s.putsG x d (BitVec.ofNat 64 (A.toNat * B.toNat / 2 ^ 64))) ∧
    exec (.divu x d a b) s = .next (s.putsG x d (if B = 0 then BitVec.allOnes 64 else BitVec.ofNat 64 (A.toNat / B.toNat))) ∧
    exec (.remu x d a b) s = .next (s.putsG x d (if B = 0 then A else BitVec.ofNat 64 (A.toNat % B.toNat))) ∧
    exec (.sextb x d a) s = .next (s.putsG x d ((A.setWidth 8).signExtend 64)) ∧
    exec (.sexth x d a) s = .next (s.putsG x d ((A.setWidth 16).signExtend 64)) ∧
    exec (.sextw x d a) s = .next (s.putsG x d ((A.setWidth 32).signExtend 64))) ∧
  (
  ∀ (x : Issue) (d a : Greg) (s : State), s.runs x →
    let A := (s.self x).rg a
    exec (.clz x d a) s = .next (s.putsG x d (BitVec.ofNat 64 (if A = 0 then 64 else 63 - A.toNat.log2))) ∧
    exec (.popc x d a) s = .next (s.putsG x d (BitVec.ofNat 64 ((List.range 64).filter fun k => A.getLsbD k).length)) ∧
    ∃ v, exec (.bswap x d a) s = .next (s.putsG x d v) ∧ ∀ k, k < 8 → v.extractLsb' (8 * k) 8 = A.extractLsb' (8 * (7 - k)) 8) ∧
  (
  ∀ (x : Issue) (d a : Greg) (imm : BitVec 12) (n : BitVec 6) (k : BitVec 17) (h : BitVec 16) (s : State), s.runs x →
    let A := (s.self x).rg a
    exec (.addi x d a imm) s = .next (s.putsG x d (A + imm.signExtend 64)) ∧
    exec (.andi x d a imm) s = .next (s.putsG x d (A &&& imm.signExtend 64)) ∧
    exec (.ori x d a imm) s = .next (s.putsG x d (A ||| imm.signExtend 64)) ∧
    exec (.xori x d a imm) s = .next (s.putsG x d (A ^^^ imm.signExtend 64)) ∧
    exec (.shli x d a n) s = .next (s.putsG x d (A <<< n.toNat)) ∧
    exec (.shri x d a n) s = .next (s.putsG x d (A >>> n.toNat)) ∧
    exec (.srai x d a n) s = .next (s.putsG x d (A.sshiftRight n.toNat)) ∧
    exec (.ldi x d k) s = .next (s.putsG x d (k.signExtend 64)) ∧
    exec (.lsh16 x d h) s = .next (s.putsG x d (((s.self x).rg d <<< 16) ||| h.setWidth 64)))

/-- Comparisons and predicate instructions (R334); PGET reads p0 as 1 and PSET writes p1 to p7 (R327). -/
def Obligations.PredicateResults : Prop :=
  ∀ (x : Issue) (d p q : Preg) (r a b : Greg) (imm : BitVec 12) (s : State), s.runs x →
    let A := (s.self x).rg a
    let B := (s.self x).rg b
    let I := imm.signExtend 64
    exec (.cmpEq x d a b) s = .next (s.putsP x d (decide (A = B))) ∧
    exec (.cmpNe x d a b) s = .next (s.putsP x d (decide (A ≠ B))) ∧
    exec (.cmpLtu x d a b) s = .next (s.putsP x d (decide (A.toNat < B.toNat))) ∧
    exec (.cmpLts x d a b) s = .next (s.putsP x d (decide (A.toInt < B.toInt))) ∧
    exec (.cmpGeu x d a b) s = .next (s.putsP x d (decide (A.toNat ≥ B.toNat))) ∧
    exec (.cmpGes x d a b) s = .next (s.putsP x d (decide (A.toInt ≥ B.toInt))) ∧
    exec (.cmpTest x d a b) s = .next (s.putsP x d (decide (A &&& B ≠ 0))) ∧
    exec (.cmpiEq x d a imm) s = .next (s.putsP x d (decide (A = I))) ∧
    exec (.cmpiNe x d a imm) s = .next (s.putsP x d (decide (A ≠ I))) ∧
    exec (.cmpiLts x d a imm) s = .next (s.putsP x d (decide (A.toInt < I.toInt))) ∧
    exec (.cmpiLtu x d a imm) s = .next (s.putsP x d (decide (A.toNat < I.toNat))) ∧
    exec (.pand x d p q) s = .next (s.putsP x d ((s.self x).rp p && (s.self x).rp q)) ∧
    exec (.por x d p q) s = .next (s.putsP x d ((s.self x).rp p || (s.self x).rp q)) ∧
    exec (.pxor x d p q) s = .next (s.putsP x d ((s.self x).rp p ^^ (s.self x).rp q)) ∧
    exec (.pnot x d p) s = .next (s.putsP x d (!(s.self x).rp p)) ∧
    (∃ v, exec (.pget x r) s = .next (s.putsG x r v) ∧ ∀ k, v.getLsbD k = if h : k < 8 then (s.self x).rp ⟨k, h⟩ else false) ∧
    ∃ t, exec (.pset x a) s = .next t ∧ ∀ k : Preg, (t.self x).rp k = (decide (k = 0) || A.getLsbD k.val)

/-- R333: J and JAL set PC to the address of the branch plus 4 × OFF22, a signed number of instructions; JAL writes the return address to
g30, and JR jumps to ga, writes the return address and faults on a target that is not 4-byte aligned. A J whose guard fails goes on with
the next instruction. -/
def Obligations.Branches : Prop :=
  ∀ (x : Issue) (d a : Greg) (off : BitVec 22) (s : State),
    let T := s.self x
    let back : Word := (T.pc + 4).setWidth 64
    (s.runs x →
      (exec (.j x off) s = .next (s.branch x.thread (T.pc + BitVec.ofInt 32 (4 * off.toInt)))) ∧
      (exec (.jal x off) s = .next ((s.setThread x.thread (T.wg 30 back)).branch x.thread (T.pc + BitVec.ofInt 32 (4 * off.toInt)))) ∧
      ((T.rg a).toNat % 4 = 0 → exec (.jr x d a) s =
        .next ((s.setThread x.thread (T.wg d back)).branch x.thread ((T.rg a).setWidth 32))) ∧
      ((T.rg a).toNat % 4 ≠ 0 → ∃ w, exec (.jr x d a) s = .next (s.threadFault x.thread .alignment w (T.rg a).toNat))) ∧
    (∀ pc, ((s.branch x.thread pc).self x).pc = pc ∧ ((s.branch x.thread pc).self x).retired = T.retired + 1) ∧
    (T.issues = true → x.guard ≠ 8 → guardHolds T x.guard = false → exec (.j x off) s = .next (s.leaves x T)) ∧
    -(2 ^ 21 : Int) ≤ off.toInt ∧ off.toInt < 2 ^ 21

/-! ## Dreko instructions: memory -/

/-- Loads (R347, R534): with an address that no rule of access refuses and no uncorrectable word under it, LDB, LDH, LDW and LDD write the
zero-extended little-endian value, VLD the 64 bytes, and nothing but the register changes. Stores (R347): the bytes at the address are the
low bytes of the register in little-endian order, every byte outside them is as before, and no register changes but PC and the retired
count. -/
def Obligations.LoadStoreResults : Prop :=
  (
  ∀ (x : Issue) (d a : Greg) (v : Vreg) (imm : BitVec 12) (s : State), s.runs x →
    let A := s.effAddr x a imm
    let ok (n : Nat) : Prop := s.accessFault x.thread A n false = none ∧ s.poisoned x.thread A n = false
    let byte (k : Nat) : Nat := (s.mem.read (devAddr x.thread A + k)).toNat
    (ok 1 → exec (.ldb x d a imm) s = .next (s.putsG x d (BitVec.ofNat 64 (byte 0)))) ∧
    (ok 2 → exec (.ldh x d a imm) s = .next (s.putsG x d (BitVec.ofNat 64 (byte 0 + 256 * byte 1)))) ∧
    (ok 4 → exec (.ldw x d a imm) s = .next (s.putsG x d
      (BitVec.ofNat 64 (byte 0 + 256 * byte 1 + 256 ^ 2 * byte 2 + 256 ^ 3 * byte 3)))) ∧
    (ok 8 → ∃ w, exec (.ldd x d a imm) s = .next (s.putsG x d w) ∧
      ∀ k, k < 8 → (w.extractLsb' (8 * k) 8) = s.mem.read (devAddr x.thread A + k)) ∧
    (ok 64 → ∃ w, exec (.vld x v a imm) s = .next (s.putsV x v w) ∧
      ∀ k, k < 64 → Vec.byte w k = s.mem.read (devAddr x.thread A + k))) ∧
  (
  ∀ (x : Issue) (b a : Greg) (v : Vreg) (imm : BitVec 12) (s : State), s.runs x →
    let A := s.effAddr x a imm
    let at' := devAddr x.thread A
    let stored (i : Instr) (n : Nat) (byte : Nat → Byte) : Prop := s.accessFault x.thread A n true = none →
      ∃ t, exec i s = .next t ∧ (∀ k, k < n → t.mem.read (at' + k) = byte k) ∧
        (∀ c, c < at' ∨ at' + n ≤ c → t.mem.read c = s.mem.read c) ∧
        t.self x = { s.self x with pc := (s.self x).pc + 4, retired := (s.self x).retired + 1 } ∧
        (∀ k, k ≠ x.thread.val → t.thread k = s.thread k) ∧ t.hostMem = s.hostMem ∧ t.regs = s.regs
    let lo (k : Nat) : Byte := ((s.self x).rg b).extractLsb' (8 * k) 8
    stored (.stb x b a imm) 1 lo ∧ stored (.sth x b a imm) 2 lo ∧ stored (.stw x b a imm) 4 lo ∧ stored (.std x b a imm) 8 lo ∧
    stored (.vst x v a imm) 64 (Vec.byte ((s.self x).rv v)))

/-- Atomics (R316, R347): AADD, ASWP and ACAS read an aligned 8-byte word of scratch into gd and replace it by the sum, by gb, or, when it
equals gd as it was, by gb. -/
def Obligations.AtomicResults : Prop :=
  ∀ (x : Issue) (d a b : Greg) (s : State), s.runs x →
    let A := ((s.self x).rg a).toNat
    let old : Word := BitVec.ofNat 64 (s.load x.thread A 8)
    let B := (s.self x).rg b
    s.accessFault x.thread A 8 true = none → A < 0x40000000 → s.poisoned x.thread A 8 = false →
      exec (.aadd x d a b) s = .next ((s.storeBytes x.thread A (leBytes (old + B).toNat 8)).putsG x d old) ∧
      exec (.aswp x d a b) s = .next ((s.storeBytes x.thread A (leBytes B.toNat 8)).putsG x d old) ∧
      (old = (s.self x).rg d → exec (.acas x d a b) s = .next ((s.storeBytes x.thread A (leBytes B.toNat 8)).putsG x d old)) ∧
      (old ≠ (s.self x).rg d → exec (.acas x d a b) s = .next (s.putsG x d old))

/-- Where loads, stores and atomics fault (R347): an address with a bit of [63:36] set raises ADDRESS, one that is not aligned to the
access raises ALIGNMENT, and an atomic on shared SRAM or GDDR6 raises ATOMIC_TARGET. Memory keeps its contents. -/
def Obligations.AccessFaults : Prop :=
  (∀ (x : Issue) (d a : Greg) (imm : BitVec 12) (s : State), s.runs x →
    let A := s.effAddr x a imm
    (2 ^ 36 ≤ A → (∃ w, exec (.ldb x d a imm) s = .next (s.threadFault x.thread .address w A)) ∧
      (∃ w, exec (.ldd x d a imm) s = .next (s.threadFault x.thread .address w A)) ∧
      (∃ w, exec (.std x d a imm) s = .next (s.threadFault x.thread .address w A))) ∧
    (A < 2 ^ 36 → A % 8 ≠ 0 → (∃ w, exec (.ldd x d a imm) s = .next (s.threadFault x.thread .alignment w A)) ∧
      (∃ w, exec (.std x d a imm) s = .next (s.threadFault x.thread .alignment w A))) ∧
    (A < 2 ^ 36 → A % 2 ≠ 0 → (∃ w, exec (.ldh x d a imm) s = .next (s.threadFault x.thread .alignment w A)) ∧
      ∃ w, exec (.sth x d a imm) s = .next (s.threadFault x.thread .alignment w A))) ∧
  ∀ (x : Issue) (d a b : Greg) (s : State), s.runs x →
    let A := ((s.self x).rg a).toNat
    0x40000000 ≤ A → A < 0x46000000 → A % 8 = 0 →
      ∃ w, exec (.aadd x d a b) s = .next (s.threadFault x.thread .atomicTarget w A)
/-! ## Dreko instructions: lines, hitches, tile requests -/

/-! ## Dreko instructions: lines, hitches, tile requests -/

/-- Staging and sending a message (R307, R309, R337, R338, R334): LPUT and TPUT add a beat; LEND and TEND with the last beat have the line
unit accept the message whole when it fits behind no other writer, with the header it stamps, and block while it does not; LENDT and TENDT
return FULL instead and keep what was staged before; LDROP discards it. A T form is its L form on the tile's request line. -/
def Obligations.SendResults : Prop :=
  ∀ (x : Issue) (d a : Greg) (b : Vreg) (tile : TileNo) (n : Nat) (s : State), s.runs x → s.lineOpen x n →
    let beat := (s.self x).rv b
    let beats := (s.self x).stagedBeats ++ [beat]
    let fits : Prop := (s.line n).writers = [] ∧ (s.line n).used + beats.length ≤ (s.line n).cap
    let sends (i : Instr) (d : Greg) : Prop := ∃ t, exec i s = .next t ∧ s.answers t x d 0 ∧ (t.self x).staged = none ∧
      (t.line n).queue = (s.line n).queue ++ [stampHeader x.thread (s.self x).seq beats]
    let waits (i : Instr) : Prop := ∃ t, exec i s = .next t ∧ s.blocksAs t x .blockedLend n d none ∧
      (t.self x).staged = some (n, beats) ∧ (t.line n).writers = (s.line n).writers ++ [x.thread.val] ∧ (t.line n).queue = (s.line n).queue
    let full (i : Instr) : Prop := ∃ t, exec i s = .next t ∧ s.answers t x d (-1) ∧ (t.self x).staged = (s.self x).staged ∧
      t.line n = s.line n
    let stages (i : Instr) : Prop := ∃ t, exec i s = .next t ∧ (t.self x).staged = some (n, beats) ∧ t.line n = s.line n ∧
      (t.self x).pc = (s.self x).pc + 4
    (((s.self x).rg a).toNat = n → (s.self x).stagedBeats.length < 64 →
      stages (.lput x d a b) ∧ ∃ t, exec (.lput x d a b) s = .next t ∧ s.answers t x d 0) ∧
    (n = 2056 + tile.val → (s.self x).stagedBeats.length < 64 → stages (.tput x b tile)) ∧
    (((s.self x).rg a).toNat = n → beats.length ≤ 64 → s.mayWrite x.thread n = true → beats.length ≤ (s.line n).cap →
      (fits → sends (.lend x d a b) d ∧ sends (.lendt x d a b) d) ∧ (¬ fits → waits (.lend x d a b) ∧ full (.lendt x d a b))) ∧
    (n = 2056 + tile.val → beats.length ≤ 64 → s.mayWrite x.thread n = true → beats.length ≤ (s.line n).cap →
      (fits → sends (.tend x d b tile) d ∧ sends (.tendt x d b tile) d) ∧ (¬ fits → waits (.tend x d b tile) ∧ full (.tendt x d b tile))) ∧
    ∃ t, exec (.ldrop x d) s = .next t ∧ s.answers t x d 0 ∧ (t.self x).staged = none

/-- Receiving a message (R310, R337, R339): LGET, LGETD and LTRY take the oldest message of a line that no reader in line before the
thread waits for, write it from offset 0 of the thread's receive buffer and return its beats; with none, LGET blocks, LGETD blocks until
its deadline or returns TIMEOUT when the deadline is reached, and LTRY returns EMPTY. -/
def Obligations.ReceiveResults : Prop :=
  ∀ (x : Issue) (d a b : Greg) (s : State), s.runs x →
    let n := ((s.self x).rg a).toNat
    let due := ((s.self x).rg b).toNat
    s.cores.lhReady = true → n < 65536 → (s.line n).cap ≠ 0 → s.annexLineOk x.thread n = true → s.mayRead x.thread n = true →
      (s.line n).readers.filter (fun t => !(s.thread t).halted) = [] →
      (∀ m rest, (s.line n).queue = m :: rest → ∀ i, i = .lget x d a ∨ i = .lgetd x d a b ∨ i = .ltry x d a →
        ∃ t, exec i s = .next t ∧ s.answers t x d (BitVec.ofNat 64 m.length) ∧ (t.line n).queue = rest ∧
          let bytes := (m.map Vec.bytes).flatten
          t.mem.readBytes (recvBuffer x.thread) bytes.length = bytes) ∧
      ((s.line n).queue = [] →
        (∃ t, exec (.lget x d a) s = .next t ∧ s.blocksAs t x .blockedLine n d none ∧
          (t.line n).readers = (s.line n).readers ++ [x.thread.val]) ∧
        (s.now.value < due → ∃ t, exec (.lgetd x d a b) s = .next t ∧ s.blocksAs t x .blockedLine n d (some due)) ∧
        (due ≤ s.now.value → exec (.lgetd x d a b) s = .next (s.putsG x d (-3))) ∧
        exec (.ltry x d a) s = .next (s.putsG x d (-2)))

/-- Hitches (R312, R337): HTIE, HTIED and HTRY take a free unit when no thread waits for one; otherwise HTIE blocks, HTIED blocks or
returns TIMEOUT, and HTRY returns TAKEN. HUNTIE returns a unit that the thread holds. While the line and hitch units do not serve, every
line and hitch instruction returns UNAVAILABLE (R315, R337), and it leaves lines, hitches and staged messages alone. -/
def Obligations.HitchResults : Prop :=
  (
  ∀ (x : Issue) (d a b : Greg) (s : State), s.runs x →
    let n := ((s.self x).rg a).toNat
    let due := ((s.self x).rg b).toNat
    let h := s.hitch n
    (s.hitchOpen x n → h.queue = [] → h.holders.length < h.count →
      ∀ i, i = .htie x d a ∨ i = .htied x d a b ∨ i = .htry x d a →
        ∃ t, exec i s = .next t ∧ s.answers t x d 0 ∧ (t.hitch n).holders = h.holders ++ [x.thread.val] ∧
          (t.self x).held = (s.self x).held ++ [n]) ∧
    (s.hitchOpen x n → (h.queue ≠ [] ∨ h.count ≤ h.holders.length) →
      (∃ t, exec (.htie x d a) s = .next t ∧ s.blocksAs t x .blockedHitch n d none ∧ (t.hitch n).queue = h.queue ++ [x.thread.val]) ∧
      (s.now.value < due → ∃ t, exec (.htied x d a b) s = .next t ∧ s.blocksAs t x .blockedHitch n d (some due)) ∧
      (due ≤ s.now.value → exec (.htied x d a b) s = .next (s.putsG x d (-3))) ∧
      exec (.htry x d a) s = .next (s.putsG x d (-4))) ∧
    (s.cores.lhReady = true → n < 32768 → h.count ≠ 0 → n ∈ (s.self x).held →
      ∃ t, exec (.huntie x d a) s = .next t ∧ s.answers t x d 0 ∧ x.thread.val ∉ (t.hitch n).holders ∧ n ∉ (t.self x).held)) ∧
  (
  ∀ (x : Issue) (d a b : Greg) (v : Vreg) (tile : TileNo) (i : Instr) (s : State), s.runs x → s.cores.lhReady = false →
    i ∈ [Instr.lput x d a v, .lend x d a v, .lendt x d a v, .ldrop x d, .lget x d a, .lgetd x d a b, .ltry x d a,
      .htie x d a, .htied x d a b, .huntie x d a, .htry x d a, .tend x d v tile, .tendt x d v tile] →
    exec i s = .next (s.putsG x d (-5)))

/-! ## Dreko instructions: system -/

/-- R343: BRK halts the thread as a debugger's HALT does when the debug level is 1 or 2; at level 0 it is a thread fault. -/
def Obligations.BreakRule : Prop :=
  ∀ (x : Issue) (s : State), s.runs x →
    (s.sr.debugLevel ≠ 0 → ∃ t, exec (.brk x) s = .next t ∧ (t.self x).halted = true ∧ (t.self x).issues = false ∧
      (t.self x).pc = (s.self x).pc + 4) ∧
    (s.sr.debugLevel = 0 → ∃ w, exec (.brk x) s = .next (s.threadFault x.thread .breakpointLocked w 0))

/-- PARK, YIELD, FENCE, IFLUSH, TRESEAT, TIMENS, MFS and MTS (R298, R306, R328, R329, R341, R342, R344, R352). PARK of a deadline that the
time value has reached returns at once, else the thread parks. Stores of the model take effect at once, so FENCE waits for nothing, and
YIELD's issue order is the commands' (log entry 11). -/
def Obligations.SystemResults : Prop :=
  ∀ (x : Issue) (d a : Greg) (s : State), s.runs x →
    let T := s.self x
    ((T.rg a).toNat ≤ s.now.value → exec (.park x a) s = .next (s.leaves x T)) ∧
    (s.now.value < (T.rg a).toNat → ∃ t, exec (.park x a) s = .next t ∧ (t.self x).state = .parked ∧
      (t.self x).deadline = some (T.rg a).toNat ∧ (t.self x).pc = T.pc) ∧
    exec (.yield x) s = .next (s.retire x.thread) ∧
    exec (.fence x) s = .next (s.retire x.thread) ∧
    exec (.timens x d) s = .next (s.putsG x d (BitVec.ofNat 64 (s.now.sec * 1000000000 + s.now.ns))) ∧
    (s.isAnnex x.thread = false → exec (.iflush x) s = .next (s.retire x.thread)) ∧
    (s.isAnnex x.thread = true → (∃ w, exec (.iflush x) s = .next (s.threadFault x.thread .privileged w 0)) ∧
      ∃ w, exec (.treseat x a) s = .next (s.threadFault x.thread .privileged w 0)) ∧
    (s.isAnnex x.thread = false → let k := (T.rg a).toNat % 2048
      ((s.thread k).state = .reseating → exec (.treseat x a) s = .next (s.retire x.thread)) ∧
      ((s.thread k).state ≠ .reseating → (s.thread k).role ≠ .idle → k = x.thread.val → exec (.treseat x a) s = .next (s.reseat k)) ∧
      ((s.thread k).state ≠ .reseating → (s.thread k).role ≠ .idle → k ≠ x.thread.val →
        exec (.treseat x a) s = .next ((s.reseat k).retire x.thread))) ∧
    exec (.mfs x d 0x000) s = .next (s.putsG x d (BitVec.ofNat 64 x.thread)) ∧
    exec (.mfs x d 0x001) s = .next (s.putsG x d (BitVec.ofNat 64 (x.thread / 8))) ∧
    exec (.mfs x d 0x008) s = .next (s.putsG x d (T.gen.setWidth 64)) ∧
    exec (.mfs x d 0x011) s = .next (s.putsG x d T.retired) ∧
    (∃ v t, exec (.mfs x d 0x010) s = .next t ∧ s.answers t x d v) ∧
    (∃ w, exec (.mfs x d 0x005) s = .next (s.threadFault x.thread .illegal w 0)) ∧
    exec (.mts x a 0x008) s = .next (s.leaves x { T with gen := (T.rg a).setWidth 16 }) ∧
    (∃ w, exec (.mts x a 0x000) s = .next (s.threadFault x.thread .illegal w 0))

/-! ## Dreko instructions: vectors -/

/-- Vector logic, sums and differences (R328, R334): whole registers bit by bit, and element by element for elements of 8, 16, 32 and 64
bits, modulo 2^w. Carry-less products of lanes (R335): coefficient k of a lane's product is the sum over i + j = k of the products of
coefficients i and j, in normal order in bit i, in GCM order in bit 7 - (i mod 8) of byte i div 8; the low register holds x^0 to x^127. -/
def Obligations.VectorResults : Prop :=
  (
  ∀ (x : Issue) (d a b : Vreg) (s : State), s.runs x →
    let A := (s.self x).rv a
    let B := (s.self x).rv b
    let each (i : Instr) (w : Nat) (f : BitVec w → BitVec w → BitVec w) : Prop :=
      ∃ v, exec i s = .next (s.putsV x d v) ∧ ∀ e, e < 512 / w → v.extractLsb' (w * e) w = f (A.extractLsb' (w * e) w) (B.extractLsb' (w * e) w)
    exec (.vxor x d a b) s = .next (s.putsV x d (A ^^^ B)) ∧
    exec (.vand x d a b) s = .next (s.putsV x d (A &&& B)) ∧
    exec (.vor x d a b) s = .next (s.putsV x d (A ||| B)) ∧
    exec (.vandn x d a b) s = .next (s.putsV x d (A &&& ~~~ B)) ∧
    exec (.vxor3 x d a b) s = .next (s.putsV x d ((s.self x).rv d ^^^ A ^^^ B)) ∧
    each (.vadd_8 x d a b) 8 (· + ·) ∧ each (.vadd_16 x d a b) 16 (· + ·) ∧ each (.vadd_32 x d a b) 32 (· + ·) ∧
    each (.vadd_64 x d a b) 64 (· + ·) ∧
    each (.vsub_8 x d a b) 8 (· - ·) ∧ each (.vsub_16 x d a b) 16 (· - ·) ∧ each (.vsub_32 x d a b) 32 (· - ·) ∧
    each (.vsub_64 x d a b) 64 (· - ·)) ∧
  (
  ∀ (x : Issue) (d : Vpair) (a b : Vreg) (s : State), s.runs x →
    let place (gcm : Bool) (i : Nat) : Nat := if gcm then i / 8 * 8 + (7 - i % 8) else i
    let coef (gcm : Bool) (v : Vec) (k i : Nat) : Bool := (Vec.lane v k).getLsbD (place gcm i)
    let term (gcm : Bool) (k c : Nat) : Bool := decide (((List.range (c + 1)).filter fun i =>
      decide (i < 128) && decide (c - i < 128) && coef gcm ((s.self x).rv a) k i && coef gcm ((s.self x).rv b) k (c - i)).length % 2 = 1)
    let product (i : Instr) (gcm : Bool) : Prop := ∃ t, exec i s = .next t ∧ ∀ k c, k < 4 → c < 128 →
      coef gcm ((t.self x).rv (pairLo d)) k c = term gcm k c ∧ coef gcm ((t.self x).rv (pairHi d)) k c = term gcm k (128 + c)
    product (.vclmul x d a b) false ∧ product (.vclmulG x d a b) true)

/-- Field arithmetic (R335): reduction modulo g(x), multiplication by x^n for n from 1 to 8 (other counts are no encodings, R332, and
refused as illegal instructions), and GF(2^8) products byte by byte, by a scalar, and added to the destination. Vector moves, counters and
the tag comparison (R328, R334, R340, R346), element by element. -/
def Obligations.FieldResults : Prop :=
  (
  ∀ (x : Issue) (d a b : Vreg) (p : Vpair) (g : Greg) (n : BitVec 5) (s : State), s.runs x →
    let A := (s.self x).rv a
    let B := (s.self x).rv b
    let D := (s.self x).rv d
    let c : Byte := ((s.self x).rg g).setWidth 8
    let lanes (i : Instr) (f : Nat → BitVec 128) : Prop := ∃ v, exec i s = .next (s.putsV x d v) ∧ ∀ k, k < 4 → Vec.lane v k = f k
    let bytes (i : Instr) (f : Nat → Byte) : Prop := ∃ v, exec i s = .next (s.putsV x d v) ∧ ∀ k, k < 64 → Vec.byte v k = f k
    let lo (k : Nat) := Vec.lane ((s.self x).rv (pairLo p)) k
    let hi (k : Nat) := Vec.lane ((s.self x).rv (pairHi p)) k
    lanes (.vgfred x d p) (fun k => laneRed false (lo k) (hi k)) ∧ lanes (.vgfredG x d p) (fun k => laneRed true (lo k) (hi k)) ∧
    (1 ≤ n.toNat → n.toNat ≤ 8 → lanes (.vgfx x d a n) (fun k => laneX false (Vec.lane A k) n.toNat) ∧
      lanes (.vgfxG x d a n) (fun k => laneX true (Vec.lane A k) n.toNat)) ∧
    (¬ (1 ≤ n.toNat ∧ n.toNat ≤ 8) → (∃ w, exec (.vgfx x d a n) s = .next (s.threadFault x.thread .illegal w 0)) ∧
      ∃ w, exec (.vgfxG x d a n) s = .next (s.threadFault x.thread .illegal w 0)) ∧
    bytes (.vgf8mul x d a b) (fun k => gf8 (Vec.byte A k) (Vec.byte B k)) ∧
    bytes (.vgf8mac x d a b) (fun k => Vec.byte D k ^^^ gf8 (Vec.byte A k) (Vec.byte B k)) ∧
    bytes (.vgf8muls x d a g) (fun k => gf8 (Vec.byte A k) c) ∧
    bytes (.vgf8macs x d a g) (fun k => Vec.byte D k ^^^ gf8 (Vec.byte A k) c)) ∧
  (
  ∀ (x : Issue) (d a b : Vreg) (p : Preg) (r g : Greg) (e : Fin 8) (s : State), s.runs x →
    let A := (s.self x).rv a
    let B := (s.self x).rv b
    let D := (s.self x).rv d
    let G := (s.self x).rg g
    let writes (i : Instr) (holds : Vec → Prop) : Prop := ∃ v, exec i s = .next (s.putsV x d v) ∧ holds v
    exec (.vmvg x r a e) s = .next (s.putsG x r (A.extractLsb' (64 * e.val) 64)) ∧
    writes (.vmvv x d g e) (fun v => ∀ k, k < 8 → v.extractLsb' (64 * k) 64 = if k = e.val then G else D.extractLsb' (64 * k) 64) ∧
    writes (.vbcast x d g) (fun v => ∀ k, k < 8 → v.extractLsb' (64 * k) 64 = G) ∧
    writes (.vshuf x d a b) (fun v => ∀ k, k < 64 → Vec.byte v k =
      if (Vec.byte B k).getLsbD 7 then 0 else Vec.byte A ((Vec.byte B k).toNat % 64)) ∧
    writes (.vbswap128 x d a) (fun v => ∀ k j, k < 4 → j < 16 → Vec.byte v (16 * k + j) = Vec.byte A (16 * k + (15 - j))) ∧
    exec (.vzero x d) s = .next (s.putsV x d 0) ∧
    writes (.vfold x d a) (fun v => Vec.lane v 0 = Vec.lane A 0 ^^^ Vec.lane A 1 ^^^ Vec.lane A 2 ^^^ Vec.lane A 3 ∧
      ∀ k, 1 ≤ k → k < 4 → Vec.lane v k = 0) ∧
    writes (.vctr32 x d a g) (fun v => ∀ k, k < 4 →
      (∀ j, j < 12 → Vec.byte v (16 * k + j) = Vec.byte A j) ∧
      beNat ((List.range 4).map fun j => Vec.byte v (16 * k + 12 + j)) =
        (beNat ((List.range 4).map fun j => Vec.byte A (12 + j)) + G.toNat + k) % 2 ^ 32) ∧
    writes (.vctr128 x d a g) (fun v => ∀ k, k < 4 →
      beNat ((List.range 16).map fun j => Vec.byte v (16 * k + j)) = (beNat ((List.range 16).map (Vec.byte A)) + G.toNat + k) % 2 ^ 128) ∧
    exec (.vtageq x p a b) s = .next (s.putsP x p (decide (Vec.lane A 0 = Vec.lane B 0))) ∧
    writes (.lhdr x d g) (fun v => (∀ k, 32 ≤ k → k < 64 → Vec.byte v k = Vec.byte D k) ∧
      (∀ k, k < 4 → Vec.byte v k = G.extractLsb' (8 * k) 8) ∧ Vec.byte v 8 = (s.self x).gen.extractLsb' 0 8 ∧
      Vec.byte v 9 = (s.self x).gen.extractLsb' 8 8 ∧ Vec.byte v 10 = G.extractLsb' 32 8 ∧ Vec.byte v 11 = G.extractLsb' 40 8))

/-! ## Ehrenan commands -/

/-- How a command is taken, for every command of the opcode table (R74, R75, R79, R80, R82, R84, R88, R599): a path that takes no packets
leaves everything alone; a packet waits while its ring's previous command has not ended; a path outside the command's subset is
NOT_PERMITTED; a reserved flag, a ROOM out of range, or a parameter block that fails its length or its zero bits is INVALID_PARAM; every
refusal writes its status and has no other effect; a packet that nothing refuses runs the command's own body, and a dry one keeps nothing
but its reply. That an unserved path leaves a packet alone, the order of the checks, and that a step goes on with what housekeepers may
begin are the model's (log entries 1, 11 and 13). -/
def Obligations.CommandFrame : Prop :=
  ∀ (i : Instr) (c : Command) (p : Packet) (s : State), commandRow i = some (p, c) →
    let q := p.scoped
    let refuses (st : Status) : Prop := exec i s = .next ((s.reply q c.opcode st [] false none q.dry).goesOn)
    (s.pathUp p.path = false → exec i s = .next s) ∧
    (s.pathUp p.path = true → s.pathBusy p.path = true → exec i s = .next ((s.queuePacket c.opcode p).serveAll)) ∧
    (s.pathUp p.path = true → s.pathBusy p.path = false →
      (p.path = .frontDoor → c.front = false → refuses .notPermitted) ∧
      (p.path = .mctp → c.mctp = false → refuses .notPermitted) ∧
      (∀ r, p.path = .roomRing r → c.room = false → refuses .notPermitted) ∧
      (s.sr.recovery = true → c.recovery = false → refuses .notPermitted) ∧
      (c.permits s p.path = true → p.path = .frontDoor →
        ((bits p.flags.toNat 14 6 ≠ 0 ∨ (1024 ≤ p.room ∧ p.room ≠ 0xFFFF) ∨
          (c.opcode / 256 = 1 ∧ c.opcode ≠ 0x0100 ∧ p.room = 0xFFFF)) → refuses .invalidParam) ∧
        (bits p.flags.toNat 14 6 = 0 → roomFieldOk c.opcode p.room = true →
          (p.paramDma = .timedOut → refuses .dmaTimeout) ∧ (p.paramDma = .aborted → refuses .dmaAborted) ∧
          (p.paramDma = .done → c.paramsOk p.params = false → refuses .invalidParam))) ∧
      (c.refuses s q = none → q.atTimeFlag = false → q.dry = true →
        exec i s = .next ((s.reply q c.opcode (c.dryStatus (c.context p) s) [] false none true).goesOn))) ∧
    (c.starts p s →
      (∀ st data u, c.body (c.context p) s = .done st data u → exec i s = .next (c.ends p u st data)) ∧
      (∀ st data u, c.body (c.context p) s = .part st data u → exec i s = .next (c.ends p u st data true)) ∧
      (∀ u, c.body (c.context p) s = .held u → exec i s = .next u.goesOn))

/-- What a reply holds (R81, R88): with no completion ring to write to and no event asked for, a reply shows the opcode's status, the tag,
the generation in force and the time, its data cut to the space for it, and writes the data to the reply address once the write may be
sent. AT_TIME (R84, R89, R90, R95): a command scheduled for a time to come is stored under the next handle, which its reply carries; a
full store refuses it with BUSY; one whose time has passed runs at once, or is refused with TIME_PASSED when STRICT asks for it. Staging
(R21): a staged change replaces an earlier one of its object and no other, and nothing in force changes. -/
def Obligations.CommandRules : Prop :=
  (
  ∀ (s : State) (p : Packet) (opcode : Nat) (st : Status) (data : List Byte), p.entry = none → bit p.flags.toNat 4 = false →
    let space := Packet.replySpace p
    let t := s.reply p opcode st data false none false
    (∃ (r : Reply) (sent : List OutMsg), t.out = s.out ++ sent ++ [.reply r] ∧ (∀ m, m ∈ sent → ∀ x, m ≠ .reply x) ∧ r.opcode = opcode ∧ r.tag = p.tag ∧ r.status = st.code ∧
      r.generation = s.gen.current ∧ r.doneTime = s.now ∧ r.data = data.take space ∧ r.dataLen = (data.take space).length ∧
      r.rflags = (if space < data.length then 1 else 0)) ∧
    (p.path = .frontDoor → s.link.heldWrites = [] → s.canSend ⟨none, p.replyPtr, data, 0, false⟩ = true → data ≠ [] →
      data.length ≤ p.replyLen → p.replyPtr ≠ 0 → t.hostMem.readBytes p.replyPtr data.length = data) ∧
    (Path.ringRoom p.path = none → t.rooms = s.rooms) ∧ t.gen = s.gen ∧ t.cmd = s.cmd ∧ t.store = s.store ∧ t.mem = s.mem ∧ t.regs = s.regs) ∧
  (
  ∀ (i : Instr) (c : Command) (p : Packet) (s : State), commandRow i = some (p, c) →
    let q := p.scoped
    let x : Ctx := c.context p
    let h := nextHandle (s.cmd.stored.map Stored.handle) s.cmd.nextHandle 4097
    s.pathUp p.path = true → s.pathBusy p.path = false → c.refuses s q = none → q.atTimeFlag = true → q.periodic = false → q.dry = false →
      (s.now.units < q.atTime.units → s.cmd.stored.length < 4096 →
        exec i s = .next ((State.reply { s with cmd := { s.cmd with
          stored := s.cmd.stored ++ [⟨h, c.opcode, q, 1, false, 0, s.clock⟩], nextHandle := (h + 1) % 2 ^ 32 } }
            q c.opcode .ok [] false (some h) false).goesOn)) ∧
      (s.now.units < q.atTime.units → 4096 ≤ s.cmd.stored.length →
        exec i s = .next (((s.bump R.SCHED_FULL).reply q c.opcode .busy [] false none false).goesOn)) ∧
      (q.atTime.units ≤ s.now.units → q.strict = true →
        exec i s = .next (((s.bump R.SCHED_PASSED).reply q c.opcode .timePassed [] false none false).goesOn)) ∧
      (q.atTime.units ≤ s.now.units → q.strict = false →
        exec i s = .next ((c.run { x with sched := .late } (s.bump R.SCHED_LATE)).goesOn)) ∧
      (s.cmd.nextHandle ≠ 0 → s.cmd.nextHandle ∉ s.cmd.stored.map Stored.handle → h = s.cmd.nextHandle)) ∧
  (
  ∀ (s : State) (op sel : Nat) (b : List Byte), sel < 2 ^ 32 →
    let t := s.stage op sel b
    t.stagedAt op sel = some b ∧
    (∀ op' sel', sel' < 2 ^ 32 → (op' ≠ op ∨ sel' ≠ sel) → t.stagedAt op' sel' = s.stagedAt op' sel') ∧
    (∀ op' sel', t.cfg op' sel' = s.cfg op' sel') ∧
    { t with gen := s.gen } = s ∧ { t.gen with staged := s.gen.staged } = s.gen)

/-- Staged commands of the device, of rooms, rings, ports, classification, the traffic manager and time (R84): with parameters in range
the device stages them and replies OK (R36, R104, R109, R111, R128, R129, R147, R176, R202, R207, R223, R229, R241, R247, R268, R280,
R289, R600, R601). -/
def Obligations.StagedCommands : Prop :=
  ∀ (p : Packet) (s : State),
    let bs := p.params
    let r := p.scoped.room
    let policed := s.stageRecs 0x0502 (countOne 2 8) (fun e => fld e 0 2) (recordsOf bs 8 16 (fld bs 0 2))
    let stagesAs (c : Command) (i : Instr) (ok : Prop) (u : State) (data : List Byte) : Prop :=
      c.starts p s → ok → exec i s = .next (c.ends p u .ok data)
    let stages (c : Command) (i : Instr) (ok : Prop) (sel : Nat) : Prop := stagesAs c i ok (s.stage c.opcode sel bs) []
    stages cmdDeviceProfile (.deviceProfile p) (s.gen.locked = false ∧ (fld bs 0 1 = 1 ∨ fld bs 0 1 = 2)) 0 ∧
    stages cmdRoomFurnish (.roomFurnish p) ((s.room r).state = .vacant ∧ s.runningOn 0x0108 r = none ∧ s.sr.debugLevel = 0 ∧
      furnishRefused (Limits.of bs) (s.otherLimits r) s.profileNow s.sramUnitsMax = none) r ∧
    stages cmdRoomMsgSet (.roomMsgSet p) (s.roomBarred r = none ∧ s.unfurnished r = false ∧
      ∀ e, e ∈ recordsOf bs 0 16 16 → fld e 0 8 % 4 = 0) r ∧
    stages cmdRoomPolicy (.roomPolicy p) (s.roomBarred r = none ∧ s.unfurnished r = false ∧
      100 ≤ fld bs 0 4 ∧ fld bs 0 4 ≤ 10000 ∧ fld bs 0 4 % 100 = 0 ∧ fld bs 4 1 ≤ 1 ∧ fld bs 5 1 ≤ 1 ∧ fld bs 6 1 ≤ 1 ∧
      (fld bs 8 4 = 0 ∨ (16 ≤ fld bs 8 4 ∧ fld bs 8 4 ≤ 4096))) r ∧
    (∀ data u, stagesAs cmdRingCreate (.ringCreate p) (s.roomBarred r = none ∧ fld bs 0 8 % 4096 = 0 ∧ (r = 0xFFFF → fld bs 0 8 = 0) ∧
      stageRings r (bs.take 8) (recordsOf bs 16 32 (fld bs 8 4)) s = some (data, u)) u data) ∧
    stagesAs cmdRingDestroy (.ringDestroy p) (s.refsRefused p.scoped (ringRefs bs 4) = none ∧
      (∀ ref, ref ∈ ringRefs bs 4 → (s.ring ref).enabled = false ∧ (refOwner ref = true ∨ s.roomBarred (refRoom ref) = none)))
      ((ringRefs bs 4).foldl (fun s ref => s.stage 0x0201 ref (countOne 2 8 ++ leBytes ref 4)) s) [] ∧
    stagesAs cmdRingWeight (.ringWeight p) (∀ e, e ∈ recordsOf bs 8 8 (fld bs 0 2) →
      1 ≤ fld e 4 1 ∧ (if fld e 0 4 = 0xFFFFFFFF ∨ (0xF0000000 ≤ fld e 0 4 ∧ fld e 0 4 < 0xF0000400) then fld e 5 1 = 0
        else s.ringNamed (fld e 0 4) = true ∧ 1 ≤ fld e 5 1 ∧ fld e 5 1 ≤ 64) ∧
      (fld e 0 4 ≠ 0xFFFFFFFF → (0xF0000000 ≤ fld e 0 4 → s.roomBarred (fld e 0 4 - 0xF0000000) = none) ∧
        (fld e 0 4 < 0xF0000000 → refOwner (fld e 0 4) = true ∨ s.roomBarred (refRoom (fld e 0 4)) = none)))
      (s.stageRecs 0x0205 (countOne 2 8) (fun e => fld e 0 4) (recordsOf bs 8 8 (fld bs 0 2))) [] ∧
    stages cmdPortConfig (.portConfig p) (portConfigOk bs (((List.range 4).filter fun i => decide (i ≠ fld bs 0 1)).map fun i =>
      s.built 0x0300 i) = true) (fld bs 0 1) ∧
    stages cmdPortPtp (.portPtp p) (fld bs 0 1 ≤ 3 ∧ fld bs 1 1 ≤ 2 ∧ fld bs 2 1 ≤ 2 ∧ fld bs 3 1 ≤ 1 ∧ fld bs 4 4 ≤ 1000000 ∧
      fld bs 8 4 ≤ 1000000) (fld bs 0 1) ∧
    stages cmdClsBankSelect (.clsBankSelect p) (∀ b, b ∈ bs → b.toNat ≤ 1) 0 ∧
    stagesAs cmdClsKeyProfile (.clsKeyProfile p) (keyProfileOk bs = true)
      (s.stage 0x0402 (fld bs 0 1 * 256 + fld bs 1 1) (bs.take (if fld bs 0 1 = 1 then 196 else 28))) [] ∧
    stages cmdClsHashSet (.clsHashSet p) (fld bs 0 1 < 64 ∧ fld bs 1 1 ≤ 3 ∧ fld bs 2 1 ≤ 3 ∧ fld bs 4 2 < 1024 ∧
      (fld bs 6 2 < 1024 ∨ fld bs 6 2 = 0xFFFF) ∧ (fld bs 1 1 = 3 → s.profileNow ≠ 2)) (fld bs 0 1) ∧
    stages cmdClsException (.clsException p) (fld bs 0 1 ≤ 2 ∧ fld bs 1 1 ≤ 2 ∧ 1 ≤ fld bs 2 1 ∧ fld bs 2 1 ≤ 2 ∧
      ∀ i, i < 6 → fld bs (8 + 4 * i) 4 < 65536) 0 ∧
    stagesAs cmdClsTunnel (.clsTunnel p) (fld bs 0 1 ≤ 2 ∧ ∀ e, e ∈ recordsOf bs 8 (tunnelSize (fld bs 0 1)) (fld bs 2 2) →
      tunnelRecOk s.builtSettings (fld bs 0 1) e = true)
      (s.stageRecs 0x0405 (leBytes (fld bs 0 1) 1 ++ pad 1 ++ leBytes 1 2 ++ pad 4) (fun e => fld bs 0 1 * 2 ^ 24 + fld e 0 2)
        (recordsOf bs 8 (tunnelSize (fld bs 0 1)) (fld bs 2 2))) [] ∧
    stagesAs cmdClsMirror (.clsMirror p) (∀ e, e ∈ recordsOf bs 8 32 (fld bs 0 1) → mirrorOk e = true)
      (s.stageRecs 0x0406 (countOne 1 8) (fun e => fld e 0 1) (recordsOf bs 8 32 (fld bs 0 1))) [] ∧
    (∀ u, stagesAs cmdTmNodeSet (.tmNodeSet p) (s.stageNodes (recordsOf bs 8 32 (fld bs 0 4)) = (.ok, u)) u []) ∧
    stagesAs cmdTmPolicerSet (.tmPolicerSet p) (∀ e, e ∈ recordsOf bs 8 16 (fld bs 0 2) → policerOk e = true ∧
      (fld e 4 2 ≠ 0xFFFF → roomPolicers policed.builtSettings (fld e 4 2) ≤ s.policerLimit (fld e 4 2))) policed [] ∧
    stages cmdTmTelemetry (.tmTelemetry p) (telemetryOk bs = true) 0 ∧
    stages cmdSyncConfig (.syncConfig p) (fld bs 4 4 ≤ 100000) 0 ∧
    stages cmdTmGateList (.tmGateList p) (gateListOk bs = true) (fld bs 0 1) ∧
    stages cmdPeriodSet (.periodSet p) (1000 ≤ fld bs 0 4 ∧ fld bs 0 4 ≤ 1000000 ∧ fld bs 8 8 < fld bs 0 4 * 1000) 0

/-- Staged commands of storage, memory, power and the threads (R84): with parameters in range the device stages them and replies OK (R303,
R324, R449, R484, R487, R489, R492, R506, R507, R520, R550). -/
def Obligations.StagedStoreCommands : Prop :=
  ∀ (p : Packet) (s : State),
    let bs := p.params
    let stagesAs (c : Command) (i : Instr) (ok : Prop) (u : State) (data : List Byte) : Prop :=
      c.starts p s → ok → exec i s = .next (c.ends p u .ok data)
    let stages (c : Command) (i : Instr) (ok : Prop) (sel : Nat) : Prop := stagesAs c i ok (s.stage c.opcode sel bs) []
    let gib := if fld bs 8 2 = 0 then s.store.ringGib else fld bs 8 2
    let within (off w lo hi : Nat) : Prop := lo ≤ fld bs off w ∧ fld bs off w ≤ hi
    let still : Prop := s.roomResets (fld bs 6 2) = false
    stages cmdVolCreate (.volCreate p) (fld bs 2 1 = 0 ∧ s.volCreateOk bs = true) (fld bs 0 2) ∧
    (∀ v, stages cmdVolCreate (.volCreate p) (fld bs 2 1 = 1 ∧ s.volReplaceOk bs = true ∧ s.volume (fld bs 0 2) = some v)
      (fld bs 0 2 + 256 * (v.replaced bs + 1))) ∧
    (∀ v, stages cmdVolDestroy (.volDestroy p) (s.volume (fld bs 0 2) = some v ∧
      (∀ e, e ∈ s.store.spaces → e.2.vol = fld bs 0 2 → e.2.gone = true ∨ (s.stagedAt 0x0903 e.1).isSome = true) ∧
      (∀ c, c ∈ s.gen.staged → keyOp c.1 = 0x0902 → fld c.2 2 1 = 0 → fld c.2 4 2 ≠ fld bs 0 2) ∧
      (bit v.flags 7 = true → s.store.rope.held = false) ∧ ∀ b, b ∈ s.store.batches → b.2.uses (fld bs 0 2) = false) (fld bs 0 2)) ∧
    stages cmdNsCreate (.nsCreate p) (still ∧ fld bs 2 1 = 0 ∧ s.space (fld bs 0 2) = none ∧ fld bs 0 2 < 4096 ∧ 1 ≤ fld bs 0x10 8 ∧
      fld bs 0x10 8 ≤ 2 ^ 48 ∧ s.nsPlaceOk (fld bs 0 2) (fld bs 6 2) (fld bs 8 2) = true ∧ 
      (((s.volume (fld bs 4 2)).isSome = true ∧ s.stagedAt 0x0901 (fld bs 4 2) = none) ∨ (s.stagedAt 0x0900 (fld bs 4 2)).isSome = true)) (fld bs 0 2) ∧
    (∀ sp, stages cmdNsCreate (.nsCreate p) (still ∧ fld bs 2 1 = 1 ∧ s.space (fld bs 0 2) = some sp ∧ sp.gone = false ∧ sp.room = noRoom ∧
      fld bs 6 2 ≠ 0xFFFF ∧ s.nsPlaceOk (fld bs 0 2) (fld bs 6 2) (fld bs 8 2) = true) (fld bs 0 2 + 4096)) ∧
    (∀ sp, stages cmdNsCreate (.nsCreate p) (still ∧ fld bs 2 1 = 2 ∧ s.space (fld bs 0 2) = some sp ∧ sp.gone = false ∧ sp.room ≠ noRoom)
      (fld bs 0 2 + 4096)) ∧
    (∀ sp, stages cmdNsDelete (.nsDelete p) (s.space (fld bs 0 2) = some sp ∧ sp.gone = false ∧ (bit (fld bs 2 1) 0 = true ∨
      ∀ v, s.volume sp.vol = some v → ∀ x, x ∈ v.extents → x.ns ≠ fld bs 0 2)) (fld bs 0 2)) ∧
    stages cmdJournalSet (.journalSet p) (fld bs 0 1 ≠ fld bs 1 1 ∧ 4 ≤ gib ∧ gib ≤ 256 ∧ within 0x0C 4 100 30000 ∧
      s.journalDriveOk (fld bs 0 1) gib (bit (fld bs 2 1) 7) = true ∧ s.journalDriveOk (fld bs 1 1) gib (bit (fld bs 2 1) 7) = true ∧
      (s.store.path < 2 ∨ s.serialOf (fld bs 0 1) ∈ s.store.journal ∨ s.serialOf (fld bs 1 1) ∈ s.store.journal)) 0 ∧
    stagesAs cmdSweepSet (.sweepSet p) (∀ e, e ∈ recordsOf bs 8 16 (fld bs 0 2) → s.sweepRecOk e = true ∧
        (bit (fld e 2 1) 7 = true → fld e 4 2 + s.batchShare (fld e 0 2) ≤ 500))
      (s.stageRecs 0x0906 (countOne 2 8) (fun e => fld e 0 2) (recordsOf bs 8 16 (fld bs 0 2))) [] ∧
    (∀ u, stagesAs cmdNvmtSet (.nvmtSet p) ((recordsOf bs 8 640 (fld bs 0 2)).foldl (fun (o : Option State) e => o.bind fun s => s.stageNvmt e) (some s) =
      some u) u []) ∧
    stages cmdMemRegionSet (.memRegionSet p) (fld bs 0 2 ≤ 4096) 0 ∧
    stages cmdPwrPolicy (.pwrPolicy p) (within 0 4 1 100000 ∧ within 4 4 100 10000000 ∧ within 8 2 1 1000 ∧
      fld bs 0x0B 1 ∈ [1, 2, 4, 8, 16] ∧ within 0x0C 2 100 240 ∧ within 0x0E 1 85 100 ∧ within 0x10 4 0 86400) 0 ∧
    stagesAs cmdDbgStallPolicy (.dbgStallPolicy p) (∀ e, e ∈ recordsOf bs 8 16 (fld bs 0 2) → stallRecOk e = true)
      (s.stageRecs 0x0C04 (countOne 2 8) (fun e => fld e 0 2) (recordsOf bs 8 16 (fld bs 0 2))) [] ∧
    stages cmdAnnexCores (.annexCores p) ((annexList bs).eraseDups.length = (annexList bs).length ∧
      ∀ c, c ∈ annexList bs → c < 256 ∧ 32 ≤ c % 64 ∧ c % 64 ≤ 47 ∧ s.coreOnStair c = false) 0

/-- Commands that commit (R20, R21, R26, R29, R84): accepted, the device builds the next generation from the one in force and the changes
the command carries, keeps the other one live, has its islands told and lets those without work adopt, and replies once all have.
CFG_ROLLBACK swaps the two live generations and has the islands return; CFG_DISCARD empties the staging store. -/
def Obligations.CommitCommands : Prop :=
  ∀ (p : Packet) (s : State),
    let bs := p.params
    let r := p.scoped.room
    let goes (x : Ctx) (v : State) (cs : List (Nat × List Byte)) : State := (v.accepted x (mergedChanges cs)).postAdopt.adoptIdle
    let committed (c : Command) (i : Instr) (ok : Prop) (v : State) (cs : List (Nat × List Byte)) : Prop :=
      c.starts p s → ok → v.commitFits cs → v.commits (v.accepted (c.context p) (mergedChanges cs)) cs ∧
        exec i s = .next (goes (c.context p) v cs).goesOn
    let late (c : Command) (ok : Prop) (cs : List (Nat × List Byte)) : Prop := ok → s.commitFits cs → p.scoped.dry = false →
      c.body ⟨c.opcode, p.scoped, .late⟩ s = .held (goes ⟨c.opcode, p.scoped, .late⟩ s cs)
    committed cmdCfgCommit (.cfgCommit p) True s s.gen.staged ∧
    committed cmdRoomOpen (.roomOpen p) ((s.room r).state = .furnished ∧ s.sr.debugLevel = 0) s [(keyOf 0x0102 r, [1])] ∧
    committed cmdRoomClose (.roomClose p) ((s.room r).state = .opened ∧ (s.room r).tdi ≠ .run) s [(keyOf 0x0103 r, [1])] ∧
    committed cmdRoomVacate (.roomVacate p) ((s.room r).state = .furnished ∧ (s.room r).tdiLocked = false) s [(keyOf 0x0105 r, [1])] ∧
    committed cmdPortAdmin (.portAdmin p) (fld bs 0 1 ≤ 3 ∧ fld bs 1 1 ≤ 1 ∧ (fld bs 1 1 = 1 → s.cfg 0x0300 (fld bs 0 1) ≠ [])) s
      [(keyOf 0x0301 (fld bs 0 1), bs)] ∧
    committed cmdTmShaperRate (.tmShaperRate p) (∀ e, e ∈ recordsOf bs 8 16 (fld bs 0 2) → s.shaperRecOk e = true) s
      ((recordsOf bs 8 16 (fld bs 0 2)).foldl (s.shaperChanges p.scoped.forgive) []) ∧
    committed cmdPpsSet (.ppsSet p) (ppsOk bs (s.time.periodUs * 1000) = true ∧ p.scoped.strict = false)
      (s.setPps (fld bs 0 1) { s.ppsOut (fld bs 0 1) with asked := s.clock, strict := false }) [(keyOf 0x0604 (fld bs 0 1), bs)] ∧
    late cmdTmGateList (gateListOk bs = true) [(keyOf 0x0503 (fld bs 0 1), bs)] ∧
    late cmdPeriodSet (periodOk bs = true) [(keyOf 0x0602 0, bs)] ∧
    (cmdCfgCommit.starts p s → s.gen.stalled = false → (s.gen.inProgress = true ∨ s.gen.prevLive = true) →
      exec (.cfgCommit p) s = .next (cmdCfgCommit.ends p (s.bump R.DEVICE_GEN_BUSY_REFUSED) .busyGeneration [])) ∧
    (cmdCfgCommit.starts p s → s.gen.stalled = true →
      exec (.cfgCommit p) s = .next (cmdCfgCommit.ends p (s.bump R.DEVICE_GEN_BUSY_REFUSED) .commitStalled [])) ∧
    (cmdCfgDiscard.starts p s →
      exec (.cfgDiscard p) s = .next (cmdCfgDiscard.ends p { s with gen := { s.gen with staged := [] } } .ok [])) ∧
    (cmdCfgRollback.starts p s → s.gen.inProgress = false → s.gen.prevLive = true → s.gen.rolledOnce = false →
      ∃ u : State, u.gen.current = s.gen.previous ∧ u.gen.previous = s.gen.current ∧ u.gen.cur = s.gen.prev ∧ u.gen.prev = s.gen.cur ∧
        u.gen.last = s.gen.last ∧ u.gen.staged = s.gen.staged ∧ u.gen.inProgress = true ∧ u.gen.applied = ~~~s.gen.applied ∧
        u.rooms = s.rooms ∧ u.rings = s.rings ∧ exec (.cfgRollback p) s = .next (u.endCommit.postAdopt.adoptIdle).goesOn)

/-- Queries (R84, R86, R87, R108, R178, R360, R439, R441, R513, R541): each replies OK with its data and changes nothing. DEV_IDENTIFY
answers alike on every path; the data of the others are the functions named. What a query of measured or signed values draws is free (log
entries 3 and 18). -/
def Obligations.QueryCommands : Prop :=
  ∀ (p : Packet) (s : State),
    let bs := p.params
    let answers (c : Command) (i : Instr) (data : List Byte) : Prop := c.starts p s → exec i s = .next (c.ends p s .ok data)
    let copyIs (n : Nat) : Prop := fld bs 2 1 = n ∧ fld bs 0 2 ∈ queryOps
    (answers cmdDevIdentify (.devIdentify p) s.identity ∧ fld s.identity 0 8 = s.sr.fuses.serial % 2 ^ 64 ∧
      fld s.identity 8 2 = 0x1FA7 ∧ fld s.identity 0x0A 2 = 0x3200 ∧ fld s.identity 0x0C 1 = 0x10 ∧
      fld s.identity 0x0D 1 = s.profileWord % 4 ∧ fld s.identity 0x0E 2 = s.roomLimit % 65536) ∧
    (answers cmdDevStatus (.devStatus p) s.deviceStatus ∧ fld s.deviceStatus 0 4 = s.kxStatus % 2 ^ 32 ∧ s.deviceStatus.length = 32 ∧
      (s.sr.recovery = true → fld s.deviceStatus 4 4 = 0 ∧ fld s.deviceStatus 8 4 = 0 ∧ fld s.deviceStatus 0x10 4 = 0)) ∧
    (∀ b, cmdCfgQuery.starts p s → copyIs 1 → s.settingOf s.gen.cur (fld bs 0 2) (fld bs 4 4) = some b →
      exec (.cfgQuery p) s = .next (cmdCfgQuery.ends p s .ok b)) ∧
    (∀ b, cmdCfgQuery.starts p s → copyIs 0 → s.stagedOf (fld bs 0 2) (fld bs 4 4) = some b →
      exec (.cfgQuery p) s = .next (cmdCfgQuery.ends p s .ok b)) ∧
    (∀ b, cmdCfgQuery.starts p s → copyIs 0 → s.stagedOf (fld bs 0 2) (fld bs 4 4) = none →
      s.settingOf s.gen.cur (fld bs 0 2) (fld bs 4 4) = some b → exec (.cfgQuery p) s = .next (cmdCfgQuery.ends p s .okWarn b)) ∧
    (∀ b, cmdCfgQuery.starts p s → copyIs 2 → s.gen.prevLive = true → s.settingOf s.gen.prev (fld bs 0 2) (fld bs 4 4) = some b →
      exec (.cfgQuery p) s = .next (cmdCfgQuery.ends p s .ok b)) ∧
    (cmdCfgQuery.starts p s → copyIs 2 → s.gen.prevLive = false → exec (.cfgQuery p) s = .next (cmdCfgQuery.ends p s .invalidParam [])) ∧
    (cmdCfgQuery.starts p s → fld bs 0 2 ∉ queryOps → exec (.cfgQuery p) s = .next (cmdCfgQuery.ends p s .invalidParam [])) ∧
    (cmdRoomQuery.starts p s → ∃ data, exec (.roomQuery p) s = .next (cmdRoomQuery.ends p s .ok data) ∧
      64 ≤ data.length ∧ (p.scoped.room < 1024 → fld data 0 4 = s.roomStatus p.scoped.room % 2 ^ 32 ∧
        fld data 8 4 = (s.room p.scoped.room).generation % 2 ^ 32)) ∧
    (cmdPortQuery.starts p s → fld bs 0 1 ≤ 3 → ∃ data, exec (.portQuery p) s = .next (cmdPortQuery.ends p { s with draws := s.draws + 1 } .ok data) ∧
      fld data 0 4 = s.portStatus (fld bs 0 1) % 2 ^ 32 ∧ data.length = 64) ∧
    answers cmdFwQuery (.fwQuery p) (s.slotRecord 0 ++ s.slotRecord 1 ++ s.annexRecord) ∧
    (cmdSealStatus.starts p s → ∃ data, exec (.sealStatus p) s = .next (cmdSealStatus.ends p s .ok data) ∧
      fld data 0 8 = s.openNumber % 2 ^ 64 ∧ fld data 8 8 = s.lastPublished % 2 ^ 64 ∧ data.length = 64) ∧
    (cmdSealPubkeys.starts p s → ∃ data u, exec (.sealPubkeys p) s = .next (cmdSealPubkeys.ends p u .ok data) ∧
      { u with draws := s.draws } = s ∧ fld data 0 8 = s.sr.fuses.serial % 2 ^ 64) ∧
    answers cmdDriveQuery (.driveQuery p) ((List.range 64).filterMap fun n => (s.drive n).map fun x => s.driveRecord n x).flatten ∧
    (cmdMemErrQuery.starts p s → ∃ data, exec (.memErrQuery p) s = .next (cmdMemErrQuery.ends p s .ok data) ∧
      fld data 0 4 = s.memory.errLog.length % 2 ^ 32 ∧ fld data 4 4 = s.memory.errLost % 2 ^ 32)

/-- Room commands that act at once (R98, R99, R100, R114, R118, R119, R125, R151, R385): in the state its transition starts from a room
moves as the table of R98 says; in any other the command is NOT_PERMITTED, BUSY while the room resets, and ROOM_ERROR when an error cause
met the freeze or the thaw (R101). ROOM_SAVE and ROOM_RESTORE (R120, R122, R124, R385): a save of a frozen room waits for its drain; a
restore of a vacant room whose saved state is whole, authentic and newer than any restored before brings the room back. A restore is long:
it begins with the reads of the saved state and ends once they are in. -/
def Obligations.RoomCommands : Prop :=
  (
  ∀ (p : Packet) (s : State),
    let bs := p.params
    let r := p.scoped.room
    let m := s.room r
    let refused (c : Command) (i : Instr) (ok : RoomState → Bool) : Prop := c.starts p s → ok m.state = false →
      exec i s = .next (c.ends p s (if m.state = .resetting then .busy else .notPermitted) [])
    let missed (c : Command) (i : Instr) (from' : RoomState) : Prop := c.starts p s → m.state ≠ from' →
      exec i s = .next (c.ends p s (if m.state = .resetting then .busy else if m.state = .inError ∧ m.errorAt = s.clock then .roomError
        else .notPermitted) [])
    (cmdRoomFreeze.starts p s → m.state = .opened → ∃ u, exec (.roomFreeze p) s = .next (cmdRoomFreeze.ends p u .ok []) ∧
      u = s.setRoom r { m with state := .frozen, generation := s.gen.current, freezeTime := s.now }) ∧
    missed cmdRoomFreeze (.roomFreeze p) .opened ∧
    (cmdRoomThaw.starts p s → m.state = .frozen → m.tdi ≠ .locked → s.sr.debugLevel = 0 → m.saving = false → s.runningOn 0x0108 r = none →
      exec (.roomThaw p) s = .next (cmdRoomThaw.ends p (s.setRoom r { m with state := .opened, generation := s.gen.current }) .ok [])) ∧
    missed cmdRoomThaw (.roomThaw p) .frozen ∧
    (cmdRoomReset.starts p s → s.sr.debugLevel = 0 → resetAccepts m.state = true →
      exec (.roomReset p) s = .next ((s.beginReset r).hold (cmdRoomReset.context p) true r []).goesOn) ∧
    (s.sr.debugLevel = 0 → refused cmdRoomReset (.roomReset p) resetAccepts) ∧
    (cmdRoomDoze.starts p s → (m.state = .furnished ∨ m.state = .opened ∨ m.state = .frozen) → fld bs 0 1 ≤ 1 → fld bs 1 1 ≤ 1 →
      let u := s.setRoom r { m with doze := decide (fld bs 0 1 = 1), wakeOn := decide (fld bs 1 1 = 1), wakePosted := false }
      exec (.roomDoze p) s = .next (cmdRoomDoze.ends p (if fld bs 0 1 = 1 then u else u.releaseMsgs r) .ok [])) ∧
    (cmdRoomDirtyLog.starts p s → s.roomResets r = false → fld bs 0 1 = 0 → (m.dirty.isSome = true ∨ (s.rooms.filter fun e => e.2.dirty.isSome).length < 64) →
      exec (.roomDirtyLog p) s = .next (cmdRoomDirtyLog.ends p (s.setRoom r { m with dirty := some ⟨[], false⟩ }) .ok [])) ∧
    (∀ d, cmdRoomDirtyLog.starts p s → s.roomResets r = false → fld bs 0 1 = 1 → m.dirty = some d →
      exec (.roomDirtyLog p) s = .next (cmdRoomDirtyLog.ends p (s.setRoom r { m with dirty := none }) .ok [])) ∧
    (∀ d, cmdRoomDirtyLog.starts p s → s.roomResets r = false → fld bs 0 1 = 2 → m.dirty = some d →
      let n := min d.pages.length ((Packet.replySpace p.scoped - 16) / 8)
      let left := d.pages.drop n
      exec (.roomDirtyLog p) s = .next (cmdRoomDirtyLog.ends p (s.setRoom r { m with dirty := some { d with pages := left } }) .ok
        (leBytes (b01 d.full) 4 ++ leBytes n 4 ++ leBytes left.length 4 ++ pad 4 ++ ((d.pages.take n).map fun a => leBytes a 8).flatten)
        (decide (left ≠ [])))) ∧
    (cmdRoomDirtyLog.starts p s → s.roomResets r = true → exec (.roomDirtyLog p) s = .next (cmdRoomDirtyLog.ends p s .busy []))) ∧
  (
  ∀ (p : Packet) (s : State),
    let bs := p.params
    let r := p.scoped.room
    let m := s.room r
    (cmdRoomSave.starts p s → m.state = .frozen → m.saving = false → fld bs 0 8 % 64 = 0 → fld bs 0x0C 1 ≤ 1 →
      (m.tdiLocked = true → fld bs 0x10 16 ∈ m.tenantKeys) →
      (s.migKey ((bs.drop 0x10).take 16)).isSome = true → s.sr.vaultLocked = false → s.sr.dipFrozen = false → s.sr.entropyFail = false →
      exec (.roomSave p) s = .next ((s.setRoom r { m with saving := true }).hold (cmdRoomSave.context p) true r []).goesOn) ∧
    (cmdRoomSave.starts p s → m.state ≠ .frozen →
      exec (.roomSave p) s = .next (cmdRoomSave.ends p s (if m.state = .resetting then .busy else .notPermitted) [])) ∧
    (cmdRoomRestore.starts p s → s.runningOn 0x0108 r = none →
      (s.restoreRefused r bs = none →
        exec (.roomRestore p) s = .next (s.holdWork (cmdRoomRestore.context p) r [(fld bs 0 8, fld bs 8 4)]).goesOn) ∧
      ∀ st, s.restoreRefused r bs = some st → exec (.roomRestore p) s = .next (cmdRoomRestore.ends p s st [])) ∧
    (∀ k, let a := fld bs 0 8
      let x : Ctx := cmdRoomRestore.context p
      let head := s.hostRead none a 128
      let len := fld head 0x28 4
      let body := s.hostRead none (a + 128) len
      let nonce := slice head 0x48 0x54
      s.restoreRefused r bs = none → 128 + len ≤ fld bs 8 4 → fld head 0 4 = 0x5253584B → fld head 4 2 = 1 → s.migKey (slice head 0x38 0x48) = some k → s.sr.vaultLocked = false →
      (saveTag k.key nonce (head.take 0x60) body ≠ slice head 0x60 0x70 →
        cmdRoomRestore.completes x s s .tagMismatch []) ∧
      (saveTag k.key nonce (head.take 0x60) body = slice head 0x60 0x70 →
        (fld head 0x30 8 ≤ k.restored → cmdRoomRestore.completes x s s .notPermitted []) ∧
        (k.restored < fld head 0x30 8 → s.sr.dipFrozen = false →
          let secs := openSections (gcmStream k.key nonce 2 len) (bit (fld head 6 2) 0) 64 0 body
          let l := restoreLimits (sectionOf secs 3) (fld bs 0x0C 4) (fld bs 0x10 2)
          furnishRefused l (s.otherLimits r) s.profileNow s.sramUnitsMax = none → sectionOf secs 5 = [] →
          s.sr.sessions.length + (sectionOf secs 4).length / 256 ≤ 196608 →
          let u := (s.setMigKey { k with restored := fld head 0x30 8 }).restoreRoom r l head secs
          cmdRoomRestore.completes x s u (if (u.room r).dropped = [] then .ok else .okWarn) []))))

/-- Ring commands that act at once (R148, R155 to R158): a reference that a path may not name or that names no ring refuses the whole
command, and so does a resetting room; otherwise each named ring is enabled, disabled, moderated or set to hold. -/
def Obligations.RingCommands : Prop :=
  ∀ (p : Packet) (s : State),
    let bs := p.params
    let refused (c : Command) (i : Instr) (size : Nat) : Prop := ∀ st, c.starts p s → s.refsRefused p.scoped (ringRefs bs size) = some st →
      exec i s = .next (c.ends p s st [])
    let named (size : Nat) : Prop := s.refsRefused p.scoped (ringRefs bs size) = none
    refused cmdRingEnable (.ringEnable p) 4 ∧ refused cmdRingDisable (.ringDisable p) 4 ∧ refused cmdRingModerate (.ringModerate p) 8 ∧
    refused cmdRingRxMode (.ringRxMode p) 16 ∧
    (cmdRingEnable.starts p s → named 4 →
      exec (.ringEnable p) s = .next (cmdRingEnable.ends p ((ringRefs bs 4).foldl State.enableRing s) .ok [])) ∧
    (cmdRingDisable.starts p s → named 4 →
      let u := (ringRefs bs 4).foldl State.disableRing s
      ((∀ ref, ref ∈ ringRefs bs 4 → u.ringQuiet none ref = true) → exec (.ringDisable p) s = .next (cmdRingDisable.ends p u .ok [])) ∧
      ((∃ ref, ref ∈ ringRefs bs 4 ∧ u.ringQuiet none ref = false) →
        exec (.ringDisable p) s = .next (u.hold (cmdRingDisable.context p) false 0 (ringRefs bs 4)).goesOn)) ∧
    (cmdRingModerate.starts p s → named 8 →
      (∀ e, e ∈ recordsOf bs 8 8 (fld bs 0 2) → fld e 4 2 ≤ 1023 ∧ 1 ≤ fld e 6 2 ∧ fld e 6 2 ≤ 1024) →
      exec (.ringModerate p) s = .next (cmdRingModerate.ends p ((recordsOf bs 8 8 (fld bs 0 2)).foldl (fun s e =>
        s.setRing (fld e 0 4) { s.ring (fld e 0 4) with timerUs := fld e 4 2, modCount := fld e 6 2 }) s) .ok [])) ∧
    (cmdRingRxMode.starts p s → named 16 →
      (∀ e, e ∈ recordsOf bs 8 16 (fld bs 0 2) → refKind (fld e 0 4) = 1 ∧ fld e 4 1 ≤ 1 ∧
        (fld e 8 4 = 0 ∨ (10 ≤ fld e 8 4 ∧ fld e 8 4 ≤ 100000))) →
      exec (.ringRxMode p) s = .next (cmdRingRxMode.ends p ((recordsOf bs 8 16 (fld bs 0 2)).foldl (fun s e =>
        s.setRing (fld e 0 4) { s.ring (fld e 0 4) with
          hold := decide (fld e 4 1 = 1), holdLimit := if fld e 8 4 = 0 then (s.ring (fld e 0 4)).holdLimit else fld e 8 4 }) s) .ok [])) ∧
    (∀ ref, (s.ring ref).enabled = true → (s.ring ref).work = [] → (s.disableRing ref).ring ref = { s.ring ref with enabled := false })

/-- TIME_SET, TIME_ADJUST, SCHED_CANCEL, SCHED_QUERY (R93, R95, R174): a set replaces the time, an adjustment adds a signed offset and
sets the increment, an offset below the epoch changes neither; a cancelled handle leaves the store without running. -/
def Obligations.TimeCommands : Prop :=
  ∀ (p : Packet) (s : State),
    let bs := p.params
    let t := Time.ofBytes bs 0
    (let a := fld bs 16 1
     let u : State := if bit a 1 then { s with time := { s.time with refSel := bit a 2 } } else s
     cmdTimeSet.starts p s →
      (bit a 0 = true → t.valid = true →
        exec (.timeSet p) s = .next (cmdTimeSet.ends p { u.stepTime t with time := { (u.stepTime t).time with isSet := true } } .ok []) ∧
        (u.stepTime t).now = t) ∧
      (bit a 0 = false → t.valid = true → exec (.timeSet p) s = .next (cmdTimeSet.ends p u .ok []))) ∧
    (cmdTimeSet.starts p s → t.valid = false → exec (.timeSet p) s = .next (cmdTimeSet.ends p s .invalidParam [])) ∧
    (∀ u, cmdTimeAdjust.starts p s → offsetTime s.now (signed64 (fld bs 8 8)) (fld bs 16 4) = some u →
      let v := if fld bs 0 8 = 0 then s else s.setReg R.TIME_INCR (BitVec.ofNat 64 (fld bs 0 8))
      exec (.timeAdjust p) s = .next (cmdTimeAdjust.ends p (if zeros bs 8 12 then v else v.stepTime u) .ok []) ∧
      (u.units : Int) = (s.now.units : Int) + signed64 (fld bs 8 8) * 2 ^ 32 + fld bs 16 4) ∧
    (cmdTimeAdjust.starts p s → (s.now.units : Int) + signed64 (fld bs 8 8) * 2 ^ 32 + fld bs 16 4 < 0 →
      exec (.timeAdjust p) s = .next (cmdTimeAdjust.ends p s .invalidParam [])) ∧
    (let h := fld bs 0 4
     cmdSchedCancel.starts p s →
        ((∀ e, e ∈ s.cmd.stored → e.handle ≠ h) → exec (.schedCancel p) s = .next (cmdSchedCancel.ends p s .invalidParam [])) ∧
        (∀ e, s.cmd.stored.find? (fun e => decide (e.handle = h)) = some e →
          (e.seenBy p.scoped.path = false → exec (.schedCancel p) s = .next (cmdSchedCancel.ends p s .notPermitted [])) ∧
          (e.seenBy p.scoped.path = true → exec (.schedCancel p) s = .next (cmdSchedCancel.ends p
            { s with cmd := { s.cmd with stored := s.cmd.stored.filter fun e => decide (e.handle ≠ h) } } .ok [])))) ∧
    (cmdSchedQuery.starts p s → 1 ≤ fld bs 4 4 → fld bs 4 4 ≤ 4096 →
      ∃ data, exec (.schedQuery p) s = .next (cmdSchedQuery.ends p s .ok data) ∧ fld data 0 4 ≤ fld bs 4 4)

/-- Key commands (R369, R374 to R379, R384): a domain's keys are drawn in the device or come from an import and never leave it; a rotation
makes the current generation the previous one and counts anew; what must persist the vault is refused in a supply dip, while the vault
does not serve, and while the journal pair takes no writes. -/
def Obligations.KeyCommands : Prop :=
  ∀ (p : Packet) (s : State),
    let bs := p.params
    let q := p.scoped
    let room := keyRoom q
    let k32 := s.secretBytes 32
    let fits : Prop := room ≠ 0xFFFF → (s.room room).state ≠ .vacant ∧ (s.room room).state ≠ .resetting ∧
      s.slotOf room (fld bs 0 4) = none ∧ (s.roomDomains room).length < (s.room room).limits.keyDomains
    (∀ slot, cmdKeyDomainCreate.starts p s → domainParamsOk bs = true → fits → s.freeSlot = some slot →
      (fld bs 7 1 = 0 → s.vaultRefuses true = none →
        exec (.keyDomainCreate p) s = .next (cmdKeyDomainCreate.ends p ((k32.2.setDomain slot (VaultRec.new room bs k32.1)).persistVault)
          .ok (leBytes slot 4))) ∧
      (∀ h, fld bs 7 1 = 1 → s.vaultRefuses false = none → s.importFor (fld bs 0x0C 4) room 1 = some h →
        exec (.keyDomainCreate p) s = .next (cmdKeyDomainCreate.ends p
          (((s.useImport h.handle).setDomain slot (VaultRec.new room bs h.key)).persistVault) .ok (leBytes slot 4)))) ∧
    (∀ slot, let v := s.domain slot
      cmdKeyDomainRotate.starts p s → s.vaultRefuses true = none → s.namedSlot q = some slot → v.state = 1 → s.roomResets v.room = false →
      (v.prev ≠ 0 → exec (.keyDomainRotate p) s = .next (cmdKeyDomainRotate.ends p s .busy [])) ∧
      (v.prev = 0 → v.cur < 65535 →
        exec (.keyDomainRotate p) s = .next (cmdKeyDomainRotate.ends p (s.rotate slot) .ok []) ∧
        (let w := (s.rotate slot).domain slot
         w.cur = v.cur + 1 ∧ w.prev = v.cur ∧ w.keyPrev = v.keyCur ∧ w.nextInv = 0 ∧ w.nextBlk = 0))) ∧
    (∀ st, cmdKeyDomainRotate.starts p s → s.vaultRefuses true = some st → st ≠ .supplyLow →
      exec (.keyDomainRotate p) s = .next (cmdKeyDomainRotate.ends p s st [])) ∧
    (cmdKeyDomainRotate.starts p s → s.sr.dipFrozen = true →
      exec (.keyDomainRotate p) s = .next (cmdKeyDomainRotate.ends p (s.bump R.SR_SUPPLY_LOW) .supplyLow [])) ∧
    (∀ slot, let d := s.domain slot
      let u : State := if bit (fld bs 4 1) 0 then { s.eraseDomain slot with store := { (s.eraseDomain slot).store with
        sinking := (s.eraseDomain slot).store.sinking ++ [slot] } } else s.eraseDomain slot
      cmdKeyDomainDestroy.starts p s → s.vaultRefuses false = none → s.namedSlot q = some slot → s.isMetadata slot = false →
      (d.state = 1 → s.roomResets d.room = false) →
      (Path.ringRoom q.path ≠ none → bit d.policy 1 = false → exec (.keyDomainDestroy p) s = .next (cmdKeyDomainDestroy.ends p s .notPermitted [])) ∧
      ((Path.ringRoom q.path = none ∨ bit d.policy 1 = true) →
        (u.store.rope.held = false ∨ u.store.rope.handed = true →
          exec (.keyDomainDestroy p) s = .next (cmdKeyDomainDestroy.ends p u .okWarn [])) ∧
        (u.store.rope.held = true → u.store.rope.handed = false →
          let v := u.hold (cmdKeyDomainDestroy.context p) false slot []
          let x := v.addOp { StoreOp.fresh .tomb (.tomb slot) d.room 0 0 0 0 slot with
            records := [v.tombRecord slot false], ext := some { JEntry.blank.ext with domain := slot } }
          exec (.keyDomainDestroy p) s = .next (x.2.openEntry x.1 4).goesOn))) ∧
    (∀ slot, cmdKeyDomainQuery.starts p s → s.namedSlot q = some slot →
      exec (.keyDomainQuery p) s = .next (cmdKeyDomainQuery.ends p s .ok
        ((s.domain slot).bytes slot s.sr.vaultEpoch s.sr.savedGen ++ leBytes (s.domain slot).nextInv 8 ++ leBytes (s.domain slot).nextBlk 8))) ∧
    (cmdKeyDomainQuery.starts p s → s.namedSlot q = none → exec (.keyDomainQuery p) s = .next (cmdKeyDomainQuery.ends p s .keyAbsent [])) ∧
    (∀ key, cmdKeyImportWrapped.starts p s → s.sr.dipFrozen = false →
      s.unwrapImport (fld bs 0 1) ((bs.drop 0x18).take 97) (bs.drop 0x80) = some key →
      ((fld bs 0 1 = 1 ∨ fld bs 0 1 = 2) → zeros bs 8 16 = true →
        let h := s.sr.nextImport
        exec (.keyImportWrapped p) s = .next (cmdKeyImportWrapped.ends p { s with sr := { s.sr with
          imports := s.sr.imports ++ [⟨h, room, fld bs 0 1, s.clock + 60000000000, key⟩], nextImport := (h + 1) % 2 ^ 32 } } .ok (leBytes h 4))) ∧
      (fld bs 0 1 = 3 → (∀ m, m ∈ s.sr.migration → m.id ≠ (bs.drop 8).take 16) → s.sr.migration.length < 1024 → s.journalUp = true →
        Path.ringRoom q.path = none →
        exec (.keyImportWrapped p) s = .next (cmdKeyImportWrapped.ends p (State.persistVault { s with sr := { s.sr with
          migration := s.sr.migration ++ [⟨(bs.drop 8).take 16, room, fit key 32, 0, 0⟩] } }) .ok [])) ∧
      (∀ r, q.path = .roomRing r → fld bs 0 1 = 3 → (∀ m, m ∈ s.sr.migration → m.id ≠ (bs.drop 8).take 16) → s.sr.migration.length < 1024 →
        s.journalUp = true → ∃ u : State, exec (.keyImportWrapped p) s = .next (cmdKeyImportWrapped.ends p u.persistVault .ok []) ∧
          (u.room r).tenantKeys = (s.room r).tenantKeys ++ [leNat ((bs.drop 8).take 16)])) ∧
    (cmdKeyImportWrapped.starts p s → (fld bs 0 1 = 1 ∨ fld bs 0 1 = 2) → zeros bs 8 16 = true → s.sr.dipFrozen = false →
      s.unwrapImport (fld bs 0 1) ((bs.drop 0x18).take 97) (bs.drop 0x80) = none →
      exec (.keyImportWrapped p) s = .next (cmdKeyImportWrapped.ends p s .tagMismatch [])) ∧
    (cmdKeySaAdd.starts p s → saRecordOk bs = true → s.sr.vaultLocked = false → (room ≠ 0xFFFF → (s.room room).state ≠ .vacant) →
      s.roomResets room = false → s.saRefuses room bs = none →
      (fld bs 1 1 = 0 → let a := s.addSession room bs ((bs.drop 0x50).take (fld bs 2 1))
        exec (.keySaAdd p) s = .next (cmdKeySaAdd.ends p a.2 .ok (leBytes a.1 4))) ∧
      (∀ h, fld bs 1 1 ≠ 0 → s.importFor (fld bs 0x50 4) room 2 = some h → h.key.length = fld bs 2 1 →
        let a := (s.useImport h.handle).addSession room bs h.key
        exec (.keySaAdd p) s = .next (cmdKeySaAdd.ends p a.2 .ok (leBytes a.1 4)))) ∧
    (∀ k, cmdKeySaDelete.starts p s → s.session (fld bs 0 4) = some k →
      let u : State := { s with sr := { s.sr with sessions := Tbl.erase (fld bs 0 4) s.sr.sessions } }
      ((∀ r, q.path = .roomRing r → k.room = r) → s.roomResets k.room = false → exec (.keySaDelete p) s = .next (cmdKeySaDelete.ends p u .ok [])) ∧
      (∀ r, q.path = .roomRing r → k.room ≠ r → exec (.keySaDelete p) s = .next (cmdKeySaDelete.ends p s .notPermitted []))) ∧
    (cmdKeySaDelete.starts p s → s.session (fld bs 0 4) = none → exec (.keySaDelete p) s = .next (cmdKeySaDelete.ends p s .keyAbsent []))

/-- What the strongroom does on its own: VAULT_PERSIST, SEAL_AUTO_NEW, BOTTOM_TREE_BUILD, SEAL_KEY_PAIR_BUILT, DRBG_RESEED,
ENTROPY_HEALTH_FAIL, IMPORT_HANDLE_EXPIRY and NONCE_EXPIRY (R358, R363, R364, R367, R371, R376, R380 to R383, R386): the vault persists
when it has changed and the journal is up; a bottom tree is built ahead; the next pair is generated when the current one runs out, and its
command ends when it is built; handles and the unlock nonce expire at their time; three failures in a row fail the entropy source. Seal
commands (R380, R437, R442, R443): a new pair is built while nothing else is; a handover closes the open epoch and stops writes; a device
accepts a rope only by a knot that names its own unused keys. An export and an acceptance are long: they begin, and end as shown. -/
def Obligations.StrongroomEvents : Prop :=
  (
  ∀ (s : State),
    (s.sr.vaultDirty = true → s.journalUp = true → s.sr.vaultOpen = true → s.sr.dipFrozen = false →
      exec .vaultPersist s = .next s.persistVault) ∧
    ((s.sr.vaultDirty = false ∨ s.journalUp = false ∨ s.sr.vaultOpen = false ∨ s.sr.dipFrozen = true) → exec .vaultPersist s = .next s) ∧
    (s.sr.sealCur = none → exec .sealAutoNew s = .next s ∧ exec .bottomTreeBuild s = .next s) ∧
    (∀ p, s.sr.sealCur = some p →
      (let due : Prop := sealLeaves - p.leaf < 2 ^ 30 ∧ s.sr.sealNext = none ∧ s.sr.sealNewBusy = false ∧ s.sr.dipFrozen = false ∧
         s.sr.entropyFail = false
       (due → exec .sealAutoNew s = .next { s with sr := { s.sr with sealNewBusy := true } }) ∧
       (¬ due → exec .sealAutoNew s = .next s)) ∧
      (let due : Prop := p.built * 2 ^ 20 ≤ p.leaf + 2 ^ 19 ∧ p.built < 2 ^ 20
       (due → exec .bottomTreeBuild s = .next { s with sr := { s.sr with sealCur := some { p with built := p.built + 1 } } }) ∧
       (¬ due → exec .bottomTreeBuild s = .next s))) ∧
    (s.sr.sealNewBusy = false → exec .sealKeyPairBuilt s = .next s) ∧
    (s.sr.sealNewBusy = true → let k := s.secretBytes 96
      exec .sealKeyPairBuilt s = .next (State.endRunning { k.2 with sr := { k.2.sr with
        sealNext := some ⟨k.1, 0, 0, 1⟩, sealNewBusy := false } } 0x0707 0 .ok [])) ∧
    (∃ t, exec .drbgReseed s = .next t ∧ t = s.secret.2 ∧ t.sr = s.sr ∧ t.regs = s.regs ∧ t.mem = s.mem) ∧
    (∃ t, exec .entropyHealthFail s = .next t ∧ t.sr.entropyRun = s.sr.entropyRun + 1 ∧
      t.sr.entropyFail = (s.sr.entropyFail || decide (3 ≤ s.sr.entropyRun + 1)) ∧
      t.reg R.SR_ENTROPY_FAIL = (s.bump R.SR_ENTROPY_FAIL).reg R.SR_ENTROPY_FAIL) ∧
    (∃ t, exec .importHandleExpiry s = .next t ∧ (∀ h, h ∈ t.sr.imports ↔ h ∈ s.sr.imports ∧ s.clock < h.ends) ∧ t.mem = s.mem) ∧
    (s.sr.nonce = none → exec .nonceExpiry s = .next s) ∧
    (∀ v, s.sr.nonce = some v →
      (v.2 ≤ s.clock → exec .nonceExpiry s = .next { s with sr := { s.sr with nonce := none } }) ∧
      (s.clock < v.2 → exec .nonceExpiry s = .next s))) ∧
  (
  ∀ (p : Packet) (s : State),
    let bs := p.params
    (cmdKeySealNew.starts p s → s.sr.dipFrozen = false → s.sr.entropyFail = false → s.sr.sealNext = none → s.sr.sealNewBusy = false →
      s.runningOn 0x0804 0 = none →
      exec (.keySealNew p) s = .next (State.hold { s with sr := { s.sr with sealNewBusy := true } } (cmdKeySealNew.context p) true 0 []).goesOn) ∧
    (∀ items, s.exportItems (fld bs 0 1) (fld bs 8 8) (fld bs 0x10 4) (fld bs 0x18 6) = some items →
      (cmdSealExport.starts p s → 1 ≤ fld bs 0 1 → fld bs 0 1 ≤ 4 → s.store.rope.held = true →
        exec (.sealExport p) s = .next (s.holdWork (cmdSealExport.context p) 0 []).goesOn) ∧
      let x := exportStream items (Packet.replySpace p.scoped)
      cmdSealExport.completes (cmdSealExport.context p) s s .ok x.1 x.2) ∧
    (cmdSealExport.starts p s → s.store.rope.held = false → exec (.sealExport p) s = .next (cmdSealExport.ends p s .invalidParam [])) ∧
    (cmdSealHandover.starts p s → s.store.rope.held = true → s.store.rope.handed = false → s.sr.dipFrozen = false → s.sr.sealStopped = false →
      exec (.sealHandover p) s =
        .next ((s.hold (cmdSealHandover.context p) true 0 []).handOver (fld bs 0 8) (slice bs 8 68) (slice bs 68 128)).goesOn) ∧
    (cmdSealHandover.starts p s → s.store.rope.handed = true → exec (.sealHandover p) s = .next (cmdSealHandover.ends p s .notPermitted [])) ∧
    (∀ pair, cmdSealAccept.starts p s → s.runningOn 0x0804 0 = none → s.acceptPair = some pair →
      exec (.sealAccept p) s = .next (s.holdWork (cmdSealAccept.context p) 0 []).goesOn) ∧
    (∀ pair, let knot := bs.drop 120
      let body := knot.take 256
      let u : State := if s.sr.sealCur.isNone then { s with sr := { s.sr with sealCur := some pair, sealNext := none } } else s
      (s.sr.sealCur = some pair ∨ (s.sr.sealCur = none ∧ s.sr.sealNext = some pair)) → s.store.rope.held = false → pair.leaf = 0 →
      handoverKnotOk (bs.take 60) (slice bs 60 120) knot = true → nextKeysOf body = pair.digest →
      Config.holdsRecord knot (handoverRecord s.sr.fuses.serial (pair.pk .sha256 ++ pair.pk .shake256)) = true →
      cmdSealAccept.completes (cmdSealAccept.context p) s (u.setRope { Rope.none' with
        held := true, id := slice body 0x18 0x28, first := bfld body 8 8 + 1, number := bfld body 8 8 + 1, kind := 4
        lastClose := ⟨bfld body 0x38 8, bfld body 0x40 4, bfld body 0x44 4⟩, prev := knot, base := knot }) .ok []) ∧
    (cmdSealAccept.starts p s → s.runningOn 0x0804 0 = none → s.sr.sealCur = none → s.sr.sealNext = none →
      exec (.sealAccept p) s = .next (cmdSealAccept.ends p s .sealInvalid [])))

/-- Storage, classification and memory commands that act (R22, R229, R442, R456, R457, R463, R512, R536, R537). -/
def Obligations.StorageCommands : Prop :=
  ∀ (p : Packet) (s : State),
    let bs := p.params
    (cmdStorageOpen.starts p s → s.runningOn 0x0905 0 = none → s.runningOn 0x0804 0 = none → s.store.replay.active = false →
      (∀ st, s.openRefuses = some st → exec (.storageOpen p) s = .next (cmdStorageOpen.ends p s st [])) ∧
      (s.openRefuses = none → exec (.storageOpen p) s = .next (s.hold (cmdStorageOpen.context p) true 0 []).endStorageOpen.goesOn)) ∧
    (cmdStorageOpen.starts p s → s.runningOn 0x0905 0 = none → s.runningOn 0x0804 0 = none → s.store.replay.active = true →
      exec (.storageOpen p) s = .next (s.hold (cmdStorageOpen.context p) true 0 []).goesOn) ∧
    (let n := firstFree (s.store.batches.map fun b => b.1) 0 17
     let x := cmdTranscryptStart.context p
     let b : Batch := ⟨x, [], 0, 0, 0, 0, false, none, false, false, s.clock, true⟩
     let kind := fld bs 4 1
     cmdTranscryptStart.starts p s → s.batchParamsOk bs = true → s.batchDomainGone bs = false →
      (kind = 1 → (s.domain (fld bs 0x0C 4)).prev = fld bs 0x10 2 ∧ fld bs 0x10 2 ≠ 0) → (kind = 3 → s.store.rope.held = true) →
      s.store.path = 2 → s.store.rope.handed = false → s.shareWith (if kind = 1 then fld bs 8 2 else fld bs 0x0A 2) (fld bs 6 2) ≤ 500 →
      (kind ≠ 3 → s.shareWith (fld bs 8 2) (fld bs 6 2) ≤ 500) → s.store.batches.length < 16 →
      (kind ≠ 3 → exec (.transcryptStart p) s = .next (((s.setBatch n b).hold x true (fld bs 0 4) []).beginBatch n).goesOn) ∧
      (kind = 3 → exec (.transcryptStart p) s =
        .next ((s.setBatch n b).holdWork x (fld bs 0 4) [(fld bs 0x30 8, 96 * fld bs 0x38 4)]).goesOn)) ∧
    (cmdTranscryptCancel.starts p s → (∀ b, b ∈ s.store.batches → b.2.id ≠ fld bs 0 4) →
      exec (.transcryptCancel p) s = .next (cmdTranscryptCancel.ends p s .invalidParam [])) ∧
    (∀ n b, cmdTranscryptCancel.starts p s → s.store.batches.find? (fun b => decide (b.2.id = fld bs 0 4)) = some (n, b) → b.cancelled = false →
      ∃ u : State, exec (.transcryptCancel p) s = .next ((u.hold (cmdTranscryptCancel.context p) false (fld bs 0 4) []).batchEnd n).goesOn ∧
        (∀ o, o ∈ u.store.ops → ¬ (o.src = .batch n ∧ o.entry = 0)) ∧ (∀ o, o ∈ u.store.ops → o ∈ s.store.ops)) ∧
    (let rs := s.marchRegions bs
     let u : State := { s with memory := { s.memory with march := some ⟨bs, s.clock⟩ } }
     let v : State := if 2 ∈ rs then { u with cls := { u.cls with cache := [] } } else u
     cmdMemMarch.starts p s → marchOk bs = true → s.memory.march = none →
      (fld bs 2 1 = 1 → s.gen.current = 0 ∧ s.store.path < 2 ∧ ∀ r, r ∈ rs → r ∉ marchBarred) → (fld bs 2 1 ≠ 1 → 3 ∉ rs) →
      exec (.memMarch p) s = .next (State.hold (if 3 ∈ rs ∧ v.cores.lhReady = true then v.lhDown else v) (cmdMemMarch.context p) true 0 []).goesOn) ∧
    (cmdMemMarch.starts p s → marchOk bs = true → s.memory.march = none → fld bs 2 1 = 1 → s.gen.current ≠ 0 →
      exec (.memMarch p) s = .next (cmdMemMarch.ends p s .notPermitted [])) ∧
    (cmdClsBankLoad.starts p s →
      (∀ st, s.bankLoadRefused bs = some st → exec (.clsBankLoad p) s = .next (cmdClsBankLoad.ends p s st [])) ∧
      (s.bankLoadRefused bs = none → s.runningOn 0x0400 (bankObject bs) = none → bankImageBytes bs ≠ 0 →
        exec (.clsBankLoad p) s = .next (s.holdWork (cmdClsBankLoad.context p) (bankObject bs) [(fld bs 8 8, bankImageBytes bs)]).goesOn)) ∧
    (let t := fld bs 0 1
     let bank := fld bs 1 1
     let n := fld bs 4 4
     let es := bankImage t bank n (s.hostRead none (fld bs 8 8) (entrySize t * n + if t = 2 then 65536 else 0))
     let twin := if t = 0 then 1 else if t = 2 then 3 else t
     let shapeOk : Prop := t ∈ [0, 2, 4, 5] ∧ bank ≤ 1 ∧ n ≤ (if t = 0 then 4194368 else tableSize t) ∧ (t ≠ 0 → zeros bs 16 8 = true)
     let x := cmdClsBankLoad.context p
     (shapeOk → s.bankLive t bank = true → s.bankLoadRefused bs = some .notPermitted) ∧
     (shapeOk → s.bankLive t bank = false → s.bankLoadRefused bs = none) ∧
     (s.bankLoadRefused bs = none → imageOk es = false → cmdClsBankLoad.completes x s s .invalidParam []) ∧
     (s.bankLoadRefused bs = none → imageOk es = true →
        cmdClsBankLoad.completes x s { s with cls := { s.cls with
          entries := es.foldl (fun m e => Tbl.set entryZero m e.1 e.2)
            (s.cls.entries.filter fun e => decide (e.1 / 2 ^ 23 ≠ t * 2 + bank) && decide (e.1 / 2 ^ 23 ≠ twin * 2 + bank))
          seeds := if t = 0 then Tbl.put bank (fld bs 16 4, fld bs 20 4) s.cls.seeds else s.cls.seeds
          cache := if t = 0 then
              (s.cls.cache.map fun e => (e.1, e.2.filter fun w => decide (w.1 / 2 ^ 23 % 2 ≠ bank))).filter fun e => decide (e.2 ≠ [])
            else s.cls.cache } } .ok []))

/-- Power, reset, debug and firmware commands (R96, R317, R358, R360, R361, R364, R385, R386, R550, R571, R580). A warm restart replies
after the device is ready again, a cold reset before; a load is long, begins, and ends as shown; a nonce serves one token; level 1 takes
effect at once and level 2 through a wipe. -/
def Obligations.DeviceCommands : Prop :=
  ∀ (p : Packet) (s : State),
    let bs := p.params
    (let n := fld bs 0 1
     let w := Time.ofBytes bs 8
     let u := if n < s.power.ladder ∨ s.power.entering.any (fun e => decide (n < e)) = true then s.wake 7 else s
     cmdPwrState.starts p s → n ≤ 6 → w.valid = true → (w.units = 0 ∨ (n ≠ 6 ∧ s.now.units < w.units)) → (2 ≤ n → s.portsQuiet = true) →
      (3 ≤ n → s.power.dipSince = none) →
      exec (.pwrState p) s = .next (cmdPwrState.ends p { u with power := { u.power with
        target := n, hold := bit (fld bs 1 1) 0, asked := !bit (fld bs 1 1) 0, wakeAt := if w.units = 0 then none else some w } } .ok [])) ∧
    (cmdPwrState.starts p s → 6 < fld bs 0 1 → exec (.pwrState p) s = .next (cmdPwrState.ends p s .invalidParam [])) ∧
    (cmdPwrState.starts p s → 2 ≤ fld bs 0 1 → fld bs 0 1 ≤ 6 → (Time.ofBytes bs 8).units = 0 → (Time.ofBytes bs 8).valid = true →
      s.portsQuiet = false → exec (.pwrState p) s = .next (cmdPwrState.ends p s .notPermitted [])) ∧
    (cmdDevReset.starts p s → fld bs 0 1 = 1 → s.sr.recovery = false →
      exec (.devReset p) s = .next (s.warmRestart (some .devWarm) [Running.plain (cmdDevReset.context p) true 0 [] s.clock] false).goesOn) ∧
    (cmdDevReset.starts p s → fld bs 0 1 = 2 →
      exec (.devReset p) s = .next ((s.finish (cmdDevReset.context p) .ok []).coldReset (some .devCold)).goesOn) ∧
    (cmdDevReset.starts p s → fld bs 0 1 ≠ 1 → fld bs 0 1 ≠ 2 → exec (.devReset p) s = .next (cmdDevReset.ends p s .invalidParam [])) ∧
    (let k := s.secretBytes 16
     cmdDbgNonce.starts p s → s.sr.entropyFail = false →
      exec (.dbgNonce p) s = .next (cmdDbgNonce.ends p { k.2 with sr := { k.2.sr with nonce := some (k.1, s.clock + 600000000000) } } .ok k.1)) ∧
    (∀ ends, let used : State := { s with sr := { s.sr with nonce := none, lastNonce := slice bs 0x10 0x20 } }
      let taken : State := { used with sr := { used.sr with unlocks := s.sr.unlocks + 1 } }
      cmdDbgUnlock.starts p s → s.sr.nonce = some (slice bs 0x10 0x20, ends) → s.clock < ends → s.runningOn 0x0C01 0 = none → s.sr.dipFrozen = false →
      (s.tokenHolds bs = false → exec (.dbgUnlock p) s = .next (cmdDbgUnlock.ends p (used.bump R.SR_UNLOCK_FAILED) .notPermitted [])) ∧
      (s.tokenHolds bs = true → s.sr.debugLevel < fld bs 4 1 →
        (fld bs 4 1 = 1 → exec (.dbgUnlock p) s = .next (cmdDbgUnlock.ends p (taken.debugTo 1) .ok [])) ∧
        (fld bs 4 1 = 2 → exec (.dbgUnlock p) s = .next ((taken.hold (cmdDbgUnlock.context p) true 0 []).beginLevelTwo.enterLevelTwo).goesOn))) ∧
    (cmdDbgUnlock.starts p s → s.sr.nonce = none → s.runningOn 0x0C01 0 = none → s.sr.dipFrozen = false →
      exec (.dbgUnlock p) s = .next (cmdDbgUnlock.ends p (s.bump R.SR_UNLOCK_FAILED) .notPermitted [])) ∧
    (cmdDbgLock.starts p s → s.runningOn 0x0C01 0 = none →
      (s.sr.debugLevel = 0 → exec (.dbgLock p) s = .next (cmdDbgLock.ends p s .ok [])) ∧
      (s.sr.debugLevel = 1 → exec (.dbgLock p) s = .next (cmdDbgLock.ends p (s.debugTo 0) .ok []) ∧ (s.debugTo 0).sr.debugLevel = 0) ∧
      (s.sr.debugLevel = 2 → exec (.dbgLock p) s = .next ((s.finish (cmdDbgLock.context p) .ok []).coldReset (some .dbgLock)).goesOn)) ∧
    (cmdDbgLedger.starts p s → 1 ≤ fld bs 4 4 → fld bs 4 4 ≤ 65536 → 1 ≤ fld bs 8 1 → fld bs 8 1 ≤ 4 → s.sr.debugLevel = 0 →
      exec (.dbgLedger p) s = .next (cmdDbgLedger.ends p s .notPermitted [])) ∧
    (let pick := (s.fault.ledger.filter fun e => decide (fld bs 0 4 = 0xFFFFFFFF ∨ fld bs 0 4 ≤ e.index)).take (fld bs 4 4)
     let old := match s.fault.ledger with | e :: _ => e.index | [] => s.fault.ledgerNext
     let data := leBytes old 4 ++ leBytes s.fault.ledgerNext 4 ++ leBytes pick.length 4 ++ leBytes (s.reg R.FAULT_LEDGER_LOST).toNat 4 ++
      (pick.map LedgerEntry.bytes).flatten
     cmdDbgLedger.starts p s → 1 ≤ fld bs 4 4 → fld bs 4 4 ≤ 65536 → fld bs 8 1 = 0 → 16 ≤ Packet.replySpace p.scoped →
      wholeRecords (Packet.replySpace p.scoped - 16) (pick.map LedgerEntry.bytes) = pick.map LedgerEntry.bytes →
      (pick = [] → exec (.dbgLedger p) s = .next (cmdDbgLedger.ends p s .ok data)) ∧
      (∀ e l, pick = e :: l → exec (.dbgLedger p) s = .next (cmdDbgLedger.ends p
        { s with fault := { s.fault with ledgerRead := max s.fault.ledgerRead (e.index + pick.length) } } .ok data))) ∧
    (let r := if fld bs 0 1 = 1 then 2 else s.loadSlot
     let first := bit (fld bs 1 1) 0
     let off := fld bs 4 4
     let u := s.takeChunk r off first (slice bs 16 (16 + fld bs 8 4))
     let x := cmdFwLoad.context p
     (cmdFwLoad.starts p s → loadHeaderOk p.scoped.path bs = true → (first = true → off = 0) →
      (first = false → (s.slot r).state = 3 ∧ (s.slot r).written = off) → s.runningOn 0x0D01 r = none → (r = 2 → s.runningOn 0x0D03 0 = none) →
      exec (.fwLoad p) s = .next (s.holdWork x r []).goesOn) ∧
      (bit (fld bs 1 1) 1 = false → cmdFwLoad.completes x s u .ok []) ∧
      (bit (fld bs 1 1) 1 = true → u.regionFails r ≠ 0 →
        cmdFwLoad.completes x s (u.setSlot r { u.slot r with state := 2 }) .invalidParam (leBytes (u.regionFails r) 1)) ∧
      (bit (fld bs 1 1) 1 = true → u.regionFails r = 0 →
        let v := u.setSlot r { u.slot r with state := 1 }
        cmdFwLoad.completes x s (if v.sr.recovery = true ∧ r ≠ 2 then v.writeBootRec r false else v) .ok [])) ∧
    (cmdFwActivate.starts p s → (s.slot (1 - s.sr.bootSlot)).state = 1 →
      exec (.fwActivate p) s = .next ((s.writeBootRec s.bootRec.active true).warmRestart (some .fwActivate)
        [Running.plain (cmdFwActivate.context p) true 0 [] s.clock] false).goesOn) ∧
    (cmdFwActivate.starts p s → (s.slot (1 - s.sr.bootSlot)).state ≠ 1 →
      exec (.fwActivate p) s = .next (cmdFwActivate.ends p s .notPermitted [])) ∧
    (let n := fld bs 4 4
     let host := fld bs 0 1 = 1
     let image := if host then s.hostRead none (fld bs 8 8) n else []
     let rd := if host then bufferImage image else s.flashImage 2
     let u := s.reseatAnnex.installAnnex rd
     let x := cmdAnnexLoad.context p
     (cmdAnnexLoad.starts p s → fld bs 0 1 ≤ 1 → n ≤ 0x1000000 → s.runningOn 0x0D03 0 = none → s.runningOn 0x0D01 2 = none →
      exec (.annexLoad p) s = .next (s.holdWork x 0 (if fld bs 0 1 = 1 ∧ n ≠ 0 then [(fld bs 8 8, n)] else [])).goesOn) ∧
      (s.annexFails rd ≠ 0 → cmdAnnexLoad.completes x s s .invalidParam (leBytes (s.annexFails rd) 1)) ∧
      (s.annexFails rd = 0 → cmdAnnexLoad.completes x s (if host then (u.takeChunk 2 0 true image).setSlot 2 ⟨1, n⟩ else u) .ok []))

/-! ## The host link -/

/-- Completions and timeouts of the device's reads (R54 to R57, R60, R61): an error status frees the tag, counts, and fails the work; one
for a tag not in use counts as unexpected; one for a tag whose request timed out counts as late and frees nothing; a final one frees an
abandoned tag; with Bus Master Enable clear its data is discarded and the read halts. A timeout puts the tag in quarantine, and the end of
the quarantine frees it. Translations (R66, R67, R111): the answer to a request that the device asked for enters the cache, sends held
writes and lets the waiting work go on, or fails it and drops the writes; an invalidation removes matching entries at once, and its
completion is sent once no request uses them. ATS_TRANSLATION_COMPLETION, ATS_INVALIDATION_REQUEST and INVALIDATION_COMPLETION complete
so. -/
def Obligations.ReadCompletions : Prop :=
  (
  ∀ (s₀ : State) (n : Nat) (status : Fin 4) (final : Bool),
    let s := s₀.traffic
    let x := s.tag n
    let run (t : State) : Prop := exec (.completionReceived n status final) s₀ = .next t.serveAll
    (x.state = .free → run ((s.bump R.HOSTLINK_UNEXP_CPL).reportAer .unexpectedCompletion)) ∧
    (∀ t, x.state = .quarantinedTimeout t → run ((s.bump R.HOSTLINK_LATE_CPL).reportAer .unexpectedCompletion)) ∧
    (∀ t, x.state = .quarantinedAbandoned t → run (if final then ((s.bump R.HOSTLINK_ABANDONED_CPL).freeTagNow n).pump
      else s.bump R.HOSTLINK_ABANDONED_CPL)) ∧
    (x.state = .busy → status.val ≠ 0 → run (s.readError n (decide (status.val = 3))).pump) ∧
    (x.state = .busy → status.val = 0 → s.link.bme = false →
      run (let u := (s.bump R.HOSTLINK_BME_DISCARD).haltRead n
           if final then u.freeTagNow n else u)) ∧
    (x.state = .busy → status.val = 0 → s.link.bme = true →
      run (if final then ((s.freeTagNow n).readArrived x).pump else s)) ∧
    (x.state = .busy → 10 * x.issued + 9 * x.cto ≤ 10 * s₀.clock →
      let u := ((s₀.quarantineTag n (.quarantinedTimeout (s₀.clock + 2 * x.cto))).bump R.HOSTLINK_CPL_TIMEOUT).reportAer
        (if x.room.isSome then .completionTimeoutAdvisory else .completionTimeoutNonFatal)
      (s₀.link.bme = false → exec (.completionTimeout n) s₀ = .next (u.haltRead n).serveAll) ∧
      (s₀.link.bme = true → u.workOf x.ref x.work = none → exec (.completionTimeout n) s₀ = .next u.serveAll) ∧
      (∀ e, s₀.link.bme = true → u.workOf x.ref x.work = some e →
        exec (.completionTimeout n) s₀ = .next (u.failRead x.ref e .dmaTimeout).pump.serveAll)) ∧
    (10 * s₀.clock < 10 * x.issued + 9 * x.cto → exec (.completionTimeout n) s₀ = .next s₀.serveAll) ∧
    (∀ t, (x.state = .quarantinedTimeout t ∨ x.state = .quarantinedAbandoned t) →
      (t ≤ s₀.clock → exec (.quarantineEnd n) s₀ = .next (s₀.freeTagNow n).pump ∧ (s₀.freeTagNow n).tag n = Tag.free) ∧
      (s₀.clock < t → exec (.quarantineEnd n) s₀ = .next s₀))) ∧
  (
  ∀ (s : State) (room page pages itag : Nat) (global : Bool),
    ((room, page) ∉ s.link.atsAsked → ∀ a, exec (.atsTranslationCompletion room page a) s = .next s) ∧
    ((room, page) ∈ s.link.atsAsked →
      let u : State := { s with link := { s.link with atsAsked := s.link.atsAsked.filter fun a => decide (a ≠ (room, page)) } }
      (∀ a, let w : State := { u with link := { u.link with ats := ((⟨room, page, a⟩ : AtsEntry) :: u.link.ats).take 8192 } }
        exec (.atsTranslationCompletion room page (some a)) s =
          .next ((w.waitPage room page).foldl (fun s x => s.pageCame x.1 x.2 page) (w.sendHeld w.link.heldWrites.length)).pump) ∧
      (let w : State := if u.frameWaits room then { u with link := { u.link with atsDenied := u.link.atsDenied ++ [(room, page)] } } else u
       exec (.atsTranslationCompletion room page none) s =
        .next ((w.waitPage room page).foldl (fun s x => s.failRead x.1 x.2 .dmaAborted) (w.denyWrites room page)).pump)) ∧
    (∃ t, exec (.atsInvalidationRequest room page pages itag global) s = .next t ∧
      (∀ e, e ∈ t.link.ats ↔ e ∈ s.link.ats ∧ ¬ ((global = true ∨ e.room = room) ∧ page ≤ e.page ∧ e.page < page + 4096 * pages)) ∧
      t.rings = s.rings ∧ t.rooms = s.rooms ∧ t.hostMem = s.hostMem) ∧
    (∀ i, s.link.invalidations.find? (fun i => decide (i.itag = itag)) = some i →
      ((i.tags = [] ∨ i.since + 10000 + s.cto ≤ s.clock) → exec (.invalidationCompletion itag) s =
        .next (State.emit { s with link := { s.link with invalidations := s.link.invalidations.erase i } } (.invalidationDone itag))) ∧
      (i.tags ≠ [] → s.clock < i.since + 10000 + s.cto → exec (.invalidationCompletion itag) s = .next s)))

/-- Bus Master Enable, the completion timeout, power states and MSI-X (R47, R54, R61, R62, R64, R149, R150): while Bus Master Enable is
clear work with reads to send is halted, and setting it sends held writes, goes on with halted work, then sends held interrupts; a refused
timeout encoding keeps the one in force. While configuration requests are answered with Request Retry Status nothing of this happens.
BME_CLEAR, BME_SET, CTO_VALUE_WRITE, D3HOT_ENTRY, D0_RETURN, MSIX_CONTROL_WRITE, MSIX_TABLE_WRITE and HELD_INTERRUPT_RELEASE complete so.
Bit places of the standard registers are the family's (PRESUMED, log entry 2). An interrupt message is sent when nothing holds it and
stays pending while something does (R149, R150, R151): a vector by Bus Master Enable, the power state, its mask, the function mask and the
enable; a room's message by Bus Master Enable, the power state, its mask and a dozing room. Nothing else of the device's work changes. -/
def Obligations.LinkControl : Prop :=
  (
  ∀ (s : State) (v : BitVec 16) (w : BitVec 32) (e : Fin 2048),
    let l := (s.commandBits v).link
    (s.configOpen = true →
      (exec (.bmeClear v) s = .next (State.haltWaiting { s.commandBits v with link := { l with bme := false } })) ∧
      (exec (.bmeSet v) s = .next ((State.resumeDma { s.commandBits v with link := { l with bme := true } }).replyWarm.serveAll)) ∧
      (let c := v.toNat % 16
       exec (.ctoValueWrite v) s = .next { s with link := { s.link with
         ctoValue := (if c ∈ [0, 1, 2, 5, 6, 9, 10] then c else s.link.ctoValue), ltrEnable := v.getLsbD 10, tag10 := v.getLsbD 12 } }) ∧
      (let u := s.pmBits v
       (s.link.dstate = .d0 → let d : State := { u with link := { u.link with dstate := .d3hot } }
         exec (.d3hotEntry v) s = .next (if d.anyPending then d.wantPme else d)) ∧
       (s.link.dstate ≠ .d0 → exec (.d3hotEntry v) s = .next u) ∧
       (s.link.dstate = .d3hot → exec (.d0Return v) s = .next (State.resumeDma { u with link := { u.link with dstate := .d0 } }).serveAll) ∧
       (s.link.dstate ≠ .d3hot → exec (.d0Return v) s = .next u)) ∧
      (exec (.msixControlWrite v) s = .next (State.releaseVecs { s with link := { s.link with
        msixEnable := v.getLsbD 15, functionMask := v.getLsbD 14 } }))) ∧
    (s.configOpen = false → ∀ i, i ∈ [Instr.bmeClear v, .bmeSet v, .ctoValueWrite v, .d3hotEntry v, .d0Return v, .msixControlWrite v] →
      exec i s = .next (s.emit .retry)) ∧
    (s.barOpen = false → ∀ f, exec (.msixTableWrite e f w) s = .next s) ∧
    (s.barOpen = true → let x := s.vec e.val
      exec (.msixTableWrite e 0 w) s = .next (s.setVec e.val { x with addr := x.addr / 2 ^ 32 * 2 ^ 32 + w.toNat / 4 * 4 }).releaseVecs ∧
      exec (.msixTableWrite e 1 w) s = .next (s.setVec e.val { x with addr := w.toNat * 2 ^ 32 + x.addr % 2 ^ 32 }).releaseVecs ∧
      exec (.msixTableWrite e 2 w) s = .next (s.setVec e.val { x with data := w.toNat }).releaseVecs ∧
      exec (.msixTableWrite e 3 w) s = .next (s.setVec e.val { x with masked := w.getLsbD 0 }).releaseVecs) ∧
    exec .heldInterruptRelease s = .next s.releaseAll) ∧
  (
  ∀ (s : State) (n room i ref : Nat),
    ((s.link.bme = true ∧ s.link.dstate = .d0 ∧ (s.vec n).masked = false ∧ s.link.msixEnable = true ∧ s.link.functionMask = false) →
      (s.dueVec n).out = s.out ++ [.msix n (s.vec n).addr (s.vec n).data] ∧ ((s.dueVec n).vec n).pending = false) ∧
    (¬ (s.link.bme = true ∧ s.link.dstate = .d0 ∧ (s.vec n).masked = false ∧ s.link.msixEnable = true ∧ s.link.functionMask = false) →
      ((s.dueVec n).vec n).pending = true) ∧
    ((s.dueVec n).rooms = s.rooms ∧ (s.dueVec n).rings = s.rings ∧ (s.dueVec n).hostMem = s.hostMem ∧ (s.dueVec n).mem = s.mem) ∧
    (s.msgHeld room (room * 16 + i) = false →
      ((s.dueMsg room i ref).msg (room * 16 + i)).pending = false ∧
      ∃ a d p t, (s.dueMsg room i ref).out = s.out ++ [.roomMsg room i a d p t] ∧ a = (s.msg (room * 16 + i)).addr ∧
        d = (s.msg (room * 16 + i)).data ∧ t = decide ((s.room room).tdi = .run)))

/-- Errors, width and power of the link (R44 to R47, R60, R64, R71): each error is reported under AER, with its message unless it is
masked, and changes nothing but the registers that show it; L0p halves the width down to L0P_MIN_WIDTH and doubles it up to the trained
width; the link trains at the rates and widths of R44 only. RECEIVER_ERROR, MALFORMED_TLP, REPLAY_TIMER_TIMEOUT, UNSUPPORTED_REQUEST,
L0P_NARROW, L0P_WIDEN, ASPM_L1_ENTRY and DATA_LINK_UP complete so. That the fourth replay timeout in a row rolls the number over is the
standard's (PRESUMED, log entry 2). -/
def Obligations.LinkEvents : Prop :=
  ∀ (s : State) (k : Fin 3) (rate : Fin 8) (lanes : Fin 17) (flit : Bool),
    let aer (i : Instr) (e : AerError) : Prop := exec i s = .next (s.reportAer e)
    (∀ e, (s.reportAer e).out = (if s.aerMasked e then s.out else s.out ++ [.aer e]) ∧ (s.reportAer e).rings = s.rings ∧
      (s.reportAer e).rooms = s.rooms ∧ (s.reportAer e).regs = s.regs ∧ (s.reportAer e).link.tags = s.link.tags) ∧
    (k.val = 0 → aer (.receiverError k) .receiverError ∧ aer (.malformedTlp k) .malformedTlp) ∧
    (k.val = 1 → aer (.receiverError k) .badTlp ∧ aer (.malformedTlp k) .flowControlProtocol) ∧
    (k.val = 2 → aer (.receiverError k) .badDllp ∧ aer (.malformedTlp k) .dataLinkProtocol) ∧
    (∃ t, exec .replayTimerTimeout s = .next t ∧ t.link.replayNum = (if 3 ≤ s.link.replayNum then 0 else s.link.replayNum + 1)) ∧
    (s.flrDone = true → exec .unsupportedRequest s = .next ((s.reportAer .unsupportedRequest).emit .unsupported)) ∧
    (s.flrDone = false → exec .unsupportedRequest s = .next (s.emit .unsupported)) ∧
    (s.link.flit = true → s.link.l0pEnable = true → 2 ≤ s.link.lanes → s.powerPolicy 3 0x0B 1 4 ≤ s.link.lanes / 2 →
      exec .l0pNarrow s = .next { s with link := { s.link with lanes := s.link.lanes / 2 } }) ∧
    (s.link.lanes / 2 < s.powerPolicy 3 0x0B 1 4 → exec .l0pNarrow s = .next s) ∧
    (s.link.flit = true → s.link.l0pEnable = true → s.link.lanes < s.link.trainedLanes →
      exec .l0pWiden s = .next { s with link := { s.link with lanes := min (2 * s.link.lanes) s.link.trainedLanes } }) ∧
    (s.link.trainedLanes ≤ s.link.lanes → exec .l0pWiden s = .next s) ∧
    (s.link.aspmL1Enable = true → s.link.dlUp = true → s.link.lastTlp + 10000 ≤ s.clock →
      exec .aspmL1Entry s = .next { s with link := { s.link with inL1 := true } }) ∧
    (s.clock < s.link.lastTlp + 10000 → exec .aspmL1Entry s = .next s) ∧
    (linkTrains rate.val lanes.val = true →
      ∃ t, exec (.dataLinkUp rate lanes flit) s = .next t ∧ t.link.dlUp = true ∧ t.link.rate = rate.val ∧ t.link.lanes = lanes.val ∧
      t.link.trainedLanes = lanes.val ∧ (6 ≤ rate.val → t.link.flit = true) ∧ t.link.inL1 = false ∧ t.link.wakeAsserted = false ∧
      t.link.lastTlp = s.clock ∧ t.link.dstate = (if s.link.dstate = .d3cold then .d0 else s.link.dstate) ∧
      (s.link.wakeAsserted = true → t.link.pmeStatus = true ∧ t.out = s.out ++ [.wake false, .pmPme]) ∧
      (s.link.wakeAsserted = false → t.out = s.out ∧ t.link.pmeStatus = s.link.pmeStatus)) ∧
    ((rate.val = 0 ∨ lanes.val ∉ [1, 2, 4, 8, 16]) → exec (.dataLinkUp rate lanes flit) s = .next s)

/-- DOE, SPDM, IDE and TDISP (R64, R68 to R71, R111, R126, R127, R385): IDE key management and TDISP act only inside a secured session; an
interface locks only from the furnished or open state, starts only when locked, and stops with a room reset; a selective stream that
leaves the Secure state puts the rooms locked to it in error with cause 0x04. LOCK_INTERFACE_REQUEST, START_INTERFACE_REQUEST,
STOP_INTERFACE_REQUEST, TDI_ERROR, IDE_KM_MESSAGE, IDE_STREAM_INSECURE, SPDM_REQUEST, DOE_OBJECT_WRITE and DOE_ABORT complete so. Message
codes are the standards' (PRESUMED, log entry 41). -/
def Obligations.SecurityEvents : Prop :=
  ∀ (s : State) (room : Fin 1024) (n : Fin 17) (op : Fin 3) (key bytes : List Byte),
    let r := room.val
    let x := s.room r
    let stream := s.ideStream n.val
    let answered (t : State) (ok : Bool) : State := t.emit (.message 3 [BitVec.ofNat 8 (if ok then 1 else 0)])
    let gone : State := s.setIde n.val { stream with state := .insecure, key := [] }
    let held (t : State) (object : List Byte) : State := State.emit { t with link := { t.link with doe := object } } (.message 0 object)
    (s.link.spdmSessions = [] → ∀ i, i ∈ [Instr.lockInterfaceRequest room n, .startInterfaceRequest room, .stopInterfaceRequest room,
      .ideKmMessage n op key] → exec i s = .next s) ∧
    (s.link.spdmSessions ≠ [] →
      ((x.state = .furnished ∨ x.state = .opened) → x.tdi = .unlocked →
        exec (.lockInterfaceRequest room n) s = .next (answered (s.setRoom r { x with tdi := .locked, stream := n.val }) true)) ∧
      ((x.state ≠ .furnished ∧ x.state ≠ .opened) ∨ x.tdi ≠ .unlocked → exec (.lockInterfaceRequest room n) s = .next (answered s false)) ∧
      (x.tdi = .locked → (x.state = .opened ∨ x.state = .frozen) →
        exec (.startInterfaceRequest room) s = .next (answered (s.setRoom r { x with tdi := .run }) true).serveAll) ∧
      (x.tdi ≠ .locked ∨ (x.state ≠ .opened ∧ x.state ≠ .frozen) → exec (.startInterfaceRequest room) s = .next (answered s false)) ∧
      (resetAccepts x.state = true → s.sr.debugLevel = 0 → exec (.stopInterfaceRequest room) s = .next (answered (s.beginReset r) true)) ∧
      (s.sr.debugLevel ≠ 0 ∨ resetAccepts x.state = false → exec (.stopInterfaceRequest room) s = .next (answered s false)) ∧
      (stream.state ≠ .secure → exec (.ideKmMessage n 0 key) s = .next (s.setIde n.val { stream with state := .keyed, key := key })) ∧
      (stream.state = .secure → exec (.ideKmMessage n 0 key) s = .next (s.setIde n.val { stream with key := key })) ∧
      (stream.state = .keyed → exec (.ideKmMessage n 1 key) s = .next (s.setIde n.val { stream with state := .secure })) ∧
      (stream.state ≠ .keyed → exec (.ideKmMessage n 1 key) s = .next s) ∧
      exec (.ideKmMessage n 2 key) s = exec (.ideStreamInsecure n) s) ∧
    exec (.tdiError room) s = .next (s.roomError r 5) ∧
    (stream.state = .secure → n.val ≠ 0 →
      exec (.ideStreamInsecure n) s = .next ((gone.roomsOnStream n.val).foldl (fun s r => s.roomError r 4) gone)) ∧
    ((stream.state ≠ .secure ∨ n.val = 0) → exec (.ideStreamInsecure n) s = .next gone) ∧
    (let a := s.spdmAnswer bytes none
     exec (.spdmRequest bytes true) s = .next (a.2.emit (.message 4 a.1)) ∧
     exec (.spdmRequest bytes false) s = .next (State.emit { a.2 with link := { a.2.link with doe := a.1 } } (.message 1 a.1))) ∧
    (s.configOpen = false → exec .doeAbort s = .next (s.emit .retry) ∧ exec (.doeObjectWrite bytes) s = .next (s.emit .retry)) ∧
    (s.configOpen = true →
      exec .doeAbort s = .next { s with link := { s.link with doe := [], doeIn := [] } } ∧
      ((bytes.length < 8 ∨ 65536 < bytes.length ∨ fld bytes 0 2 ≠ 1 ∨ 2 < fld bytes 2 1) → exec (.doeObjectWrite bytes) s = .next s) ∧
      (8 ≤ bytes.length → bytes.length ≤ 65536 → fld bytes 0 2 = 1 →
        (fld bytes 2 1 = 0 → exec (.doeObjectWrite bytes) s = .next (held s (doeObject bytes (doeDiscovery (fld bytes 8 1))))) ∧
        (fld bytes 2 1 = 1 → let a := s.spdmAnswer (bytes.drop 8) none
          exec (.doeObjectWrite bytes) s = .next (held a.2 (doeObject bytes a.1))) ∧
        (fld bytes 2 1 = 2 → (fld bytes 8 2 ∈ s.link.spdmSessions ∨ fld bytes 8 2 ∈ s.link.spdmOpening) →
          let a := s.spdmAnswer (bytes.drop 12) (some (fld bytes 8 2))
          exec (.doeObjectWrite bytes) s = .next (held a.2 (doeObject bytes (leBytes (fld bytes 8 2) 2 ++ pad 2 ++ a.1)))) ∧
        (fld bytes 2 1 = 2 → fld bytes 8 2 ∉ s.link.spdmSessions → fld bytes 8 2 ∉ s.link.spdmOpening →
          exec (.doeObjectWrite bytes) s = .next s))) ∧
    (4 ≤ bytes.length → ∀ a, (doeObject bytes a).take 4 = bytes.take 4 ∧ (doeObject bytes a).length = 8 + (a.length + 3) / 4 * 4 ∧
      fld (doeObject bytes a) 4 4 = (2 + (a.length + 3) / 4) % 2 ^ 32)

/-- Reads and writes of registers (R7, R8, R11, R39, R42, R60, R63, R64, R71): REGISTER_WRITE, RC_COUNTER_READ and BAR_BAD_ACCESS
complete. A read returns the value and clears what is read-to-clear; an access that is not aligned to its size is refused and counted, and
a read then completes with Unsupported Request; a poisoned write, and an access without the T bit to a room in RUN, is dropped and
reported; nothing answers while Memory Space Enable is clear or during a function level reset. Nothing answers outside D0 either
(PRESUMED, log entry 56). A write takes effect by the access codes of a register's bits (R7): read-write bits take the value, bits that a
1 sets are set and bits that a 1 clears are cleared, and no other bit and no other register changes. -/
def Obligations.RegisterAccess : Prop :=
  (
  ∀ (s : State) (off : Nat) (v : BitVec 64) (tb : Bool),
    let refused (t : State) : State := (if s.flrDone then t.reportAer .unsupportedRequest else t).emit .unsupported
    let counted : State := s.bump R.HOSTLINK_BAD_ACCESS
    (off < configBase → s.barOpen = false → ∀ w po, exec (.rcCounterRead off ⟨w, tb⟩) s = .next (refused s) ∧
      exec (.registerWrite off w ⟨v, tb, po⟩) s = .next s) ∧
    (s.barOpen = false → exec (.barBadAccess true) s = .next (refused s) ∧ exec (.barBadAccess false) s = .next s) ∧
    (s.barOpen = true → exec (.barBadAccess true) s = .next (refused counted) ∧ exec (.barBadAccess false) s = .next counted) ∧
    (off < configBase → s.barOpen = true →
      (off % 4 ≠ 0 → exec (.rcCounterRead off ⟨false, tb⟩) s = .next (refused counted) ∧
        exec (.registerWrite off false ⟨v, tb, false⟩) s = .next counted) ∧
      (off % 8 ≠ 0 → exec (.rcCounterRead off ⟨true, tb⟩) s = .next (refused counted) ∧
        exec (.registerWrite off true ⟨v, tb, false⟩) s = .next counted) ∧
      (∀ w, exec (.registerWrite off w ⟨v, tb, true⟩) s = .next (s.reportAer .poisonedTlp)) ∧
      (s.lacksT off tb = true → off % 8 = 0 → ∀ w, exec (.rcCounterRead off ⟨w, tb⟩) s = .next (refused s) ∧
        exec (.registerWrite off w ⟨v, tb, false⟩) s = .next (s.reportAer .unsupportedRequest)) ∧
      (s.lacksT off tb = false →
        (off % 4 = 0 → exec (.registerWrite off false ⟨v, tb, false⟩) s = .next (s.rouse.barWrite off (v.toNat % 2 ^ 32))) ∧
        (off % 8 = 0 → exec (.registerWrite off true ⟨v, tb, false⟩) s = .next (s.rouse.barWrite8 off v.toNat)) ∧
        (let u := if 0x800000 ≤ off ∧ off < 0x900000 then s else s.rouse
         (off % 4 = 0 → exec (.rcCounterRead off ⟨false, tb⟩) s =
          .next ((u.afterRead off).emit (.value off (BitVec.ofNat 64 (u.barWord off))))) ∧
         (off % 8 = 0 → exec (.rcCounterRead off ⟨true, tb⟩) s =
          .next (((u.afterRead off).afterRead (off + 4)).emit
            (.value off (BitVec.ofNat 64 (u.barWord off + u.barWord (off + 4) * 2 ^ 32)))))))) ∧
    (s.power.ladder = 0 → s.power.entering = none → s.rouse = s.traffic) ∧
    (configBase ≤ off → ∀ w po,
      (s.configOpen = true → exec (.registerWrite off w ⟨v, tb, po⟩) s = .next (s.configWrite (off - configBase) v.toNat) ∧
        exec (.rcCounterRead off ⟨w, tb⟩) s = .next (s.emit (.value off (BitVec.ofNat 64 (s.configWord (off - configBase)))))) ∧
      (s.configOpen = false → exec (.registerWrite off w ⟨v, tb, po⟩) s = .next (s.emit .retry) ∧
        exec (.rcCounterRead off ⟨w, tb⟩) s = .next (s.emit .retry)))) ∧
  (
  ∀ (s : State) (i : RegInfo) (base m v : Nat), m < 2 ^ 64 → i.rwc = 0 →
    let t := s.writeBits i base m v
    let old := s.reg base
    (∀ o, o ≠ base → t.reg o = s.reg o) ∧
    (∀ k, k < 64 → (t.reg base).getLsbD k =
      (if (v.testBit k && m.testBit k && i.w1c.testBit k) then false
       else if (m.testBit k && i.rw.testBit k) then v.testBit k
       else old.getLsbD k || (v.testBit k && m.testBit k && i.w1s.testBit k))) ∧
    t = s.setReg base (t.reg base))

/-- Doorbells (R60, R63, R71, R75 to R77, R106, R135 to R138, R153): a value the ring engine does not accept, and one for a ring that does
not exist, is ignored and counted; one for a disabled ring is recorded; one that is accepted moves the tail, or an event ring's consumer
head. A room page has none while the room is vacant, and its command ring's is ignored in error and during a reset; one without the T bit
for a room in RUN, and one in a poisoned request (R60), is refused. RING_DOORBELL, EVENT_RING_DOORBELL, OWNER_DOORBELL,
OWNER_EVENT_OVERFLOW_ACK, FRONTDOOR_DOORBELL, FRONTDOOR_CTRL_WRITE and MBOX_DOORBELL complete so. -/
def Obligations.Doorbells : Prop :=
  ∀ (s₀ : State) (ref : Nat) (v : BitVec 64) (w : BitVec 32) (room : Fin 1024) (tb : Bool),
    let s := s₀.traffic
    let r := s.ring ref
    let st := (s.room (refRoom ref)).state
    (r.live = false → s.doorbell ref v.toNat = s.bump R.RINGENG_DOORBELL_BAD) ∧
    (r.live = true → r.enabled = false → v.toNat % 2 ^ 16 < r.size → bits v.toNat 62 17 = 0 →
      s.doorbell ref v.toNat = s.setRing ref { r with recorded := some v.toNat }) ∧
    (r.live = true → r.enabled = false → ¬ (v.toNat % 2 ^ 16 < r.size ∧ bits v.toNat 62 17 = 0) →
      s.doorbell ref v.toNat = s.bump R.RINGENG_DOORBELL_BAD) ∧
    (r.live = true → r.enabled = true → r.accepts (refKind ref) v.toNat = false → s.doorbell ref v.toNat = s.bump R.RINGENG_DOORBELL_BAD) ∧
    (r.live = true → r.enabled = true → r.accepts (refKind ref) v.toNat = true → refKind ref ≠ 3 →
      s.doorbell ref v.toNat = s.setRing ref { r with tail := v.toNat % 2 ^ 16 }) ∧
    (r.live = true → r.enabled = true → r.accepts 3 v.toNat = true → refKind ref = 3 → (v.getLsbD 63 = false ∨ r.overflow = false) →
      s.doorbell ref v.toNat = s.setRing ref { r with consHead := v.toNat % 2 ^ 16, consPass := v.getLsbD 16 }) ∧
    (r.live = true → r.enabled = true → r.accepts 3 v.toNat = true → refKind ref = 3 → v.getLsbD 63 = true → r.overflow = true →
      s.doorbell ref v.toNat = (s.setRing ref { r with
        consHead := v.toNat % 2 ^ 16, consPass := v.getLsbD 16, overflow := false, dropped := 0 }).writeMirror ref 0) ∧
    (s.barOpen = true → exec (.ringDoorbell ref ⟨v, tb, true⟩) s₀ = .next (s₀.reportAer .poisonedTlp) ∧
      exec (.eventRingDoorbell room ⟨v, tb, true⟩) s₀ = .next (s₀.reportAer .poisonedTlp)) ∧
    (s.barOpen = true → s.sr.ready = true → s.power.ladder = 0 → s.power.entering = none →
      (pageHas ref = true → refKind ref ≠ 3 → (tb = true ∨ (s.room (refRoom ref)).tdi ≠ .run) →
        (st = .vacant → exec (.ringDoorbell ref ⟨v, tb, false⟩) s₀ = .next s) ∧
        ((st = .inError ∨ st = .resetting) → refKind ref = 4 → exec (.ringDoorbell ref ⟨v, tb, false⟩) s₀ = .next s) ∧
        (st ≠ .vacant → refKind ref ≠ 4 → exec (.ringDoorbell ref ⟨v, tb, false⟩) s₀ = .next ((s.doorbell ref v.toNat).weedRx ref 65536)) ∧
        ((st = .furnished ∨ st = .opened ∨ st = .frozen) → refKind ref = 4 →
          exec (.ringDoorbell ref ⟨v, tb, false⟩) s₀ = .next (s.doorbell ref v.toNat).serveAll)) ∧
      (pageHas ref = true → refKind ref ≠ 3 → s₀.lacksT (bar2Base + 65536 * refRoom ref) tb = true →
        exec (.ringDoorbell ref ⟨v, tb, false⟩) s₀ = .next (s₀.reportAer .unsupportedRequest)) ∧
      (pageHas ref = false → exec (.ringDoorbell ref ⟨v, tb, false⟩) s₀ = .next s₀) ∧
      ((s.room (refRoom (roomEventRef room.val))).state ≠ .vacant → (tb = true ∨ (s.room room.val).tdi ≠ .run) →
        exec (.eventRingDoorbell room ⟨v, tb, false⟩) s₀ = .next ((s.doorbell (roomEventRef room.val) v.toNat).weedRx (roomEventRef room.val) 65536)) ∧
      (tb = false → (s.room room.val).tdi = .run → exec (.eventRingDoorbell room ⟨v, tb, false⟩) s₀ = .next (s₀.reportAer .unsupportedRequest)) ∧
      ((bits v.toNat 59 48 ≠ 0 ∨ bits v.toNat 31 17 ≠ 0 ∨ 3 < bits v.toNat 62 60) →
        exec (.ownerDoorbell v) s₀ = .next (s.bump R.RINGENG_DOORBELL_BAD)) ∧
      (bits v.toNat 59 48 = 0 → bits v.toNat 31 17 = 0 → bits v.toNat 62 60 ≤ 3 →
        let o := refOf (bits v.toNat 62 60) true 0 (bits v.toNat 47 32)
        exec (.ownerDoorbell v) s₀ = .next ((s.doorbell o (b01 (bit v.toNat 63) * 2 ^ 63 + v.toNat % 2 ^ 17)).weedRx o 65536)) ∧
      exec (.ownerEventOverflowAck w) s₀ = .next (s.ackOverflow w.toNat) ∧
      exec (.frontdoorDoorbell v) s₀ = .next ((s.setRing frontDoorRef s.frontRing).doorbell frontDoorRef v.toNat).serveAll ∧
      exec (.frontdoorCtrlWrite w) s₀ = .next (s.frontCtrl w.toNat).serveAll ∧
      (s.sr.romDone = true → s.sr.recovery = false →
        (w.getLsbD 0 = false → exec (.mboxDoorbell w) s₀ = .next s) ∧
        (w.getLsbD 0 = true → s.sr.mboxBusy = true → exec (.mboxDoorbell w) s₀ = .next (s.bump R.SR_MBOX_IGNORED)) ∧
        (w.getLsbD 0 = true → s.sr.mboxBusy = false →
          let u : State := s.workId.2
          let u : State := { u with sr := { u.sr with mboxBusy := true, mboxDone := false, mboxRead := s.workId.1 } }
          exec (.mboxDoorbell w) s₀ =
            .next (u.beginReads mailboxRef (Entry.fresh s.workId.1 0 false []) [((s.reg R.SR_MBOX_ADDR).toNat, 64)])))) ∧
    (s.barOpen = false → (∀ p : Payload, exec (.ringDoorbell ref p) s₀ = .next s₀ ∧ exec (.eventRingDoorbell room p) s₀ = .next s₀) ∧
      exec (.ownerDoorbell v) s₀ = .next s₀ ∧ exec (.ownerEventOverflowAck w) s₀ = .next s₀ ∧ exec (.frontdoorDoorbell v) s₀ = .next s₀ ∧
      exec (.frontdoorCtrlWrite w) s₀ = .next s₀ ∧ exec (.mboxDoorbell w) s₀ = .next s₀)

/-! ## Time, the period, and configuration generations -/

/-- The timekeeper's registers and inputs (R11, R93, R172 to R174, R189): TIME_NOW_LATCH, TIME_INCR_WRITE, APPLY_OFFSET, TIME_REF_LOST and
TIME_REF_RESTORED complete. Reading the time latches it; the increment register keeps 36 bits; a window that does not answer reads 0 and
ignores writes; an offset steps the time and the pending store follows, or sets the status bit when the time would fall before the epoch;
a step past an armed one-shot pulse gives it at once and counts it late, or with STRICT drops it; losing the reference in use sets its
status bit, and the time itself takes no step. Pulse outputs (PPS_PULSE; R187 to R189): an output under way ends its pulse when its width
has passed; an armed one-shot fires when its time has come; a train fires at its aligned instant or its boundary, and looks for the next
one after it. -/
def Obligations.Timekeeping : Prop :=
  (
  ∀ (s : State) (v : BitVec 64),
    (s.barOpen = true →
      (s.windowOpen R.TIME_NOW_FRAC = true → ∃ t, exec .timeNowLatch s = .next t ∧ t.time = { s.time with latch := s.now } ∧
        t.out = s.out ++ [.value R.TIME_NOW_FRAC (BitVec.ofNat 64 s.now.frac)] ∧ t.regs = s.regs) ∧
      (s.windowOpen R.TIME_NOW_FRAC = false → exec .timeNowLatch s = .next (s.emit (.value R.TIME_NOW_FRAC 0))) ∧
      (s.windowOpen R.TIME_INCR = true → ∃ t, exec (.timeIncrWrite v) s = .next t ∧ (t.reg R.TIME_INCR).toNat = v.toNat % 2 ^ 36 ∧
        (∀ o, o ≠ R.TIME_INCR → t.reg o = s.reg o) ∧ t.time = s.time) ∧
      (s.windowOpen R.TIME_INCR = false → exec (.timeIncrWrite v) s = .next s)) ∧
    (s.barOpen = false → exec .timeNowLatch s = .next s.barRefuse ∧ exec (.timeIncrWrite v) s = .next s) ∧
    (s.barOpen = true → s.sr.ready = true → exec .applyOffset s = .next s.rouse.applyOffset.settleStep.serveAll) ∧
    ((s.barOpen = false ∨ s.sr.ready = false) → exec .applyOffset s = .next s) ∧
    (∀ t, offsetTime s.now (signed64 (s.reg R.TIME_OFFSET_NS).toNat) (s.reg R.TIME_OFFSET_FRAC).toNat = some t →
      s.applyOffset = s.stepTime t ∧ (s.stepTime t).now = t ∧ (s.stepTime t).time.timer = s.time.timer ∧
      (s.stepTime t).time.periodUs = s.time.periodUs) ∧
    (∀ n b, (s.ppsOut n).shot = some b →
      (s.now.units < (Time.ofBytes b 8).units → ((s.stepPps n).ppsOut n).shot = some b ∧ (s.stepPps n).out = s.out) ∧
      ((Time.ofBytes b 8).units ≤ s.now.units → ((s.stepPps n).ppsOut n).shot = none ∧
        ((s.ppsOut n).strict = true → (s.stepPps n).out = s.out ∧ (s.stepPps n).reg R.SCHED_PASSED = (s.bump R.SCHED_PASSED).reg R.SCHED_PASSED) ∧
        ((s.ppsOut n).strict = false → (s.stepPps n).out = s.out ++ [.pps n (!bit (fld b 2 1) 0)] ∧
          (s.stepPps n).reg R.SCHED_LATE = (s.bump R.SCHED_LATE).reg R.SCHED_LATE))) ∧
    (offsetTime s.now (signed64 (s.reg R.TIME_OFFSET_NS).toNat) (s.reg R.TIME_OFFSET_FRAC).toNat = none →
      s.applyOffset.now = s.now ∧ (s.applyOffset.reg R.TIME_STATUS).getLsbD 1 = true) ∧
    (∃ t, exec .timeRefLost s = .next t ∧ t.time.refPresent = false ∧ t.now = s.now ∧
      (s.time.refSel = true → s.time.refPresent = true → (t.reg R.TIME_STATUS).getLsbD 3 = true) ∧
      ((s.time.refSel = false ∨ s.time.refPresent = false) → t.regs = s.regs)) ∧
    (∃ t, exec .timeRefRestored s = .next t ∧ t.time.refPresent = true ∧ t.now = s.now ∧ t.regs = s.regs)) ∧
  (
  ∀ (s : State) (out : Fin 4),
    let n := out.val
    let p := s.ppsOut n
    (∀ c, p.fall = some c →
      (c ≤ s.clock → exec (.ppsPulse out) s = .next ((s.setPps n { p with fall := none }).emit (.pps n p.low))) ∧
      (s.clock < c → exec (.ppsPulse out) s = .next s)) ∧
    (∀ b, p.fall = none → p.shot = some b →
      ((Time.ofBytes b 8).units ≤ s.now.units →
        exec (.ppsPulse out) s = .next ((s.setPps n { p with shot := none }).pulse n b)) ∧
      (s.now.units < (Time.ofBytes b 8).units → exec (.ppsPulse out) s = .next s)) ∧
    (p.fall = none → p.shot = none →
      (∀ i adv, p.due = some (i, adv) →
        ((i : Int) + adv * perNs ≤ s.now.units →
          exec (.ppsPulse out) s = .next ((s.setPps n { p with start := i + 1 }).pulse n p.block)) ∧
        ((s.now.units : Int) < (i : Int) + adv * perNs → exec (.ppsPulse out) s = .next s)) ∧
      (p.due = none → let k := (s.boundaryPulse p).1
        let i := (s.boundaryPulse p).2
        (fld p.block 1 1 = 3 → p.mark < k → (p.start : Int) ≤ i → i ≤ s.now.units →
          exec (.ppsPulse out) s = .next ((s.setPps n { p with mark := k }).pulse n p.block)) ∧
        (k ≤ p.mark → exec (.ppsPulse out) s = .next s))) ∧
    (∀ b, n = fld b 0 1 → fld b 1 1 ≠ 1 → ((s.applyPps b).ppsOut n).next = some b ∧ (s.applyPps b).out = s.out ∧
      ((s.applyPps b).ppsOut n).block = p.block ∧ ((s.applyPps b).ppsOut n).start = p.start) ∧
    (∀ b, (s.pulse n b).out = s.out ++ [.pps n (!bit (fld b 2 1) 0)] ∧
      ((s.pulse n b).ppsOut n).fall = some (s.clock + fld b 4 4)))

/-- Boundaries and SYNC_IN: PERIOD_BOUNDARY, SYNC_EDGE and SYNC_WINDOW_CLOSE (R180 to R183, R186, R600): the boundary whose instant has
come fires once, in order: the gates restart, the rope and the periodic commands run, sweeps take their tick and waiting writes go on; an
edge in its window moves the boundary, one outside counts as an outlier, one with the unwanted polarity does nothing; the window closes
P/8 after its instant. -/
def Obligations.Boundaries : Prop :=
  ∀ (s : State) (rising : Bool),
    (let r := s.rollWindow
     (r.boundaryDue = true → r.power.ladder ≤ 4 → exec .periodBoundary s =
       .next ((((r.boundary.restartGates).ropeBoundary r.now r.time.periodUs).periodicAt.sweepTick).storeRetry.settleStep.serveAll)) ∧
     ((r.boundaryDue = false ∨ 4 < r.power.ladder) → exec .periodBoundary s = .next r)) ∧
    (s.boundary.reg R.PERIOD_COUNT = s.reg R.PERIOD_COUNT + 1 ∧ s.boundary.time.fired = true ∧ s.boundary.time.last = s.now ∧
      s.boundary.time.lastFire = s.time.fire ∧ s.boundary.time.nextPeriod = none ∧
      (∀ p ph, s.time.nextPeriod = some (p, ph) → s.boundary.time.periodUs = p ∧ s.boundary.time.phase = ph) ∧
      (s.time.syncOn = true → s.time.acquiring = false → s.boundary.time.following = s.time.fire + s.boundary.periodUnits)) ∧
    (rising = s.time.syncFall → exec (.syncEdge rising) s = .next s) ∧
    (rising ≠ s.time.syncFall → s.time.syncOn = false →
      exec (.syncEdge rising) s = .next { s with time := { s.time with lastEdge := s.now } }) ∧
    (rising ≠ s.time.syncFall → s.time.syncOn = true →
      let b := s.time.timer + s.time.syncOffset * perNs
      let w := s.periodUnits / 8
      let inWindow : Prop := s.time.taken = false ∧ s.time.sched ≤ b + w ∧ b ≤ s.time.sched + w
      ∃ t, exec (.syncEdge rising) s = .next t ∧ t.time.lastEdge = s.now ∧
        (inWindow → t.time.taken = true ∧ t.time.acquiring = false ∧ t.time.missedRun = 0 ∧ t.time.target = none ∧
          (s.time.fired = false → t.time.fire = b ∧ t.time.following = s.time.following) ∧
          (s.time.fired = true → t.time.fire = s.time.fire ∧ t.time.following = b + s.periodUnits) ∧
          t.reg R.SYNC_MOVED = (s.bump R.SYNC_MOVED).reg R.SYNC_MOVED ∧ t.reg R.SYNC_OUTLIER = s.reg R.SYNC_OUTLIER) ∧
        (¬ inWindow → t.time.fire = s.time.fire ∧ t.time.following = s.time.following ∧
          t.time.target = (if s.time.acquiring then some (b : Int) else s.time.target) ∧
          t.reg R.SYNC_OUTLIER = (s.bump R.SYNC_OUTLIER).reg R.SYNC_OUTLIER ∧ t.reg R.SYNC_MOVED = s.reg R.SYNC_MOVED)) ∧
    (s.time.fired = true → s.time.sched + s.periodUnits / 8 ≤ s.time.timer → exec .syncWindowClose s = .next s.closeWindow ∧
      s.closeWindow.time.sched = s.time.following ∧ s.closeWindow.time.fire = s.time.following ∧ s.closeWindow.time.fired = false ∧
      s.closeWindow.time.taken = false ∧ (s.time.taken = false → s.time.syncOn = true →
        s.closeWindow.reg R.SYNC_MISSED = (s.bump R.SYNC_MISSED).reg R.SYNC_MISSED)) ∧
    ((s.time.fired = false ∨ s.time.timer < s.time.sched + s.periodUnits / 8) → exec .syncWindowClose s = .next s)

/-- Generations on their way (R26, R27, R29, R30, R32, R35, R324): ISLAND_ADOPT, GEN_ACK, COMMIT_STALL_TIMEOUT and GENERATION_RETIRE
complete. An island outside the clusters adopts at its own boundary and a cluster by the acknowledgement of its threads, each at a message
boundary, and a gated one by neither; what has adopted is marked and no longer deferred; a commit that does not end in a millisecond
stalls and shows its warnings; the older generation goes when no packet carries it or 50 µs after the reply. Scheduled and long-running
commands (SCHED_RELEASE and PROGRESS_EVENT; R83, R91, R92): a due one-shot command that comes first leaves the store and runs, another
handle's release does nothing; a long-running command posts its progress to its submitter and nothing else of its work changes. -/
def Obligations.GenerationSteps : Prop :=
  (
  ∀ (s : State) (island : Fin 18) (cluster : Fin 4),
    (s.gated.getLsbD island.val = false → (island.val < 11 ∨ 14 < island.val) → s.atBoundary island.val = true →
      exec (.islandAdopt island) s = .next (s.adopt island.val)) ∧
    ((s.gated.getLsbD island.val = true ∨ (11 ≤ island.val ∧ island.val ≤ 14) ∨ s.atBoundary island.val = false) →
      exec (.islandAdopt island) s = .next s) ∧
    (s.gen.applied.getLsbD island.val = true → s.adopt island.val = s) ∧
    (∀ k, k < 18 → ((s.markAdopted island.val).gen.applied.getLsbD k = (s.gen.applied.getLsbD k || decide (k = island.val))) ∧
      ((s.markAdopted island.val).gen.deferred.getLsbD k = (s.gen.deferred.getLsbD k && decide (k ≠ island.val)))) ∧
    ((s.gated.getLsbD (11 + cluster.val) = true ∨ s.clusterQuiet cluster.val = false) → exec (.genAck cluster) s = .next s) ∧
    (s.gated.getLsbD (11 + cluster.val) = false → s.gen.applied.getLsbD (11 + cluster.val) = true → exec (.genAck cluster) s = .next s) ∧
    (s.gated.getLsbD (11 + cluster.val) = false → s.clusterQuiet cluster.val = true → s.gen.applied.getLsbD (11 + cluster.val) = false →
      let p := (s.takeAdopt cluster.val).adoptPolicies cluster.val
      exec (.genAck cluster) s = .next (State.markAdopted { p with cores := { p.cores with
        clusterGen := Tbl.set (fun _ => 0) p.cores.clusterGen cluster.val p.gen.current } } (11 + cluster.val)).endCommit) ∧
    (s.gen.commit = none → exec .commitStallTimeout s = .next s) ∧
    (∀ c, s.gen.commit = some c →
      (c.rollback = false → c.start + 1000000 ≤ s.clock → s.gen.allIn = false →
        exec .commitStallTimeout s = .next (State.finish { s with gen := { s.gen with
          stalled := true, inProgress := false, commit := none, warn := c.warn } } c.ctx .commitStalled [])) ∧
      ((c.rollback = true ∨ s.clock < c.start + 1000000 ∨ s.gen.allIn = true) → exec .commitStallTimeout s = .next s) ∧
      (s.gen.allIn = true → ∃ u : State, s.endCommit = u.finish c.ctx (u.commitStatus c) [] ∧ u.gen.inProgress = false ∧ u.gen.commit = none ∧
        u.gen.repliedAt = some s.clock ∧ u.gen.rolledBack = c.rollback ∧ u.gen.warn = (if c.rollback then s.gen.warn else c.warn))) ∧
    (∀ t, s.gen.prevLive = true → s.gen.repliedAt = some t → s.gen.inProgress = false → s.gen.stalled = false →
      ((s.oldPackets = false ∨ t + 50000 ≤ s.clock) →
        exec .generationRetire s = .next { s with
          gen := { s.gen with prevLive := false, prev := [], repliedAt := none }, store := { s.store with before := none } }) ∧
      (s.oldPackets = true → s.clock < t + 50000 → exec .generationRetire s = .next s)) ∧
    ((s.gen.prevLive = false ∨ s.gen.repliedAt = none ∨ s.gen.inProgress = true ∨ s.gen.stalled = true) →
      exec .generationRetire s = .next s)) ∧
  (
  ∀ (s : State) (h n : Nat),
    (∀ e, firstDue s.now.units s.cmd.stored = some e →
      (e.handle = h → exec (.schedRelease h) s = .next (s.releaseStored e false).settleStep.serveAll) ∧
      (e.handle ≠ h → exec (.schedRelease h) s = .next s)) ∧
    (firstDue s.now.units s.cmd.stored = none → exec (.schedRelease h) s = .next s) ∧
    (s.cmd.running[n]? = none → exec (.progressEvent n) s = .next s) ∧
    (∀ r, s.cmd.running[n]? = some r →
      (r.long = false → exec (.progressEvent n) s = .next s) ∧
      (r.long = true → let v := (s.progressOf r).1
        let u := (s.progressOf r).2
        exec (.progressEvent n) s = .next (State.postSubmitter { u with cmd := { u.cmd with
          running := u.cmd.running.set n { r with lastPost := u.clock, progress := v } } } r.ctx.pkt.path 3 r.ctx.pkt.tag.toNat v) ∧
        (r.ctx.opcode ≠ 0x0907 → v ≤ 1000))))

/-! ## Ports and packets -/

/-- The MAC and the link: RX_FRAME, PAUSE_FRAME_RECEIVE, LINK_UP, LINK_DOWN, PAUSE_QUANTA_EXPIRY, PFC_XOFF_REPEAT, MODULE_READY and
NO_COMMON_ABILITY (R162 to R169, R177): a frame that the link brings up is dropped and counted by the first check it fails, acted on when
it is a pause frame, and otherwise goes to the parse slices with the port's counters; pauses end with their quanta; a port that may rise
comes up, and a fault takes it down, loses the frame on the wire and sends Remote Fault. -/
def Obligations.PortEvents : Prop :=
  ∀ (s : State) (port : Fin 4) (cls : Fin 8) (fault : Fin 3) (bytes : List Byte) (ok : Bool) (fixed bad : Nat),
    let n := port.val
    let p := s.port n
    (p.link = false → exec (.rxFrame port bytes ok fixed bad) s = .next s ∧ exec (.pauseFrameReceive port bytes) s = .next s ∧
      exec (.linkDown port fault) s = .next s) ∧
    (p.link = true →
      let u := (s.count (portReg R.PORT_FEC_CORRECTED n) fixed).count (portReg R.PORT_FEC_UNCORRECTABLE n) bad
      let run (t : State) : Prop := exec (.rxFrame port bytes ok fixed bad) s = .next t
      let full : Prop := (enabledClasses p.conf).contains (p.classOf bytes) = true ∧
        (classLimits p.conf (p.classOf bytes)).2.2 ≤ u.occupancy n (p.classOf bytes)
      (bytes.length + 4 < 64 → run (u.bump (portReg R.PORT_RX_RUNT n))) ∧
      (64 ≤ bytes.length + 4 → p.mtu < bytes.length + 4 → run (u.bump (portReg R.PORT_RX_OVERSIZE n))) ∧
      (64 ≤ bytes.length + 4 → bytes.length + 4 ≤ p.mtu → (ok = false ∨ bad ≠ 0) → run (u.bump (portReg R.PORT_RX_FCS_ERR n))) ∧
      (64 ≤ bytes.length + 4 → bytes.length + 4 ≤ p.mtu → ok = true → bad = 0 →
        (∀ pfc, pauseKind bytes = some pfc → run (u.pauseIn n bytes pfc)) ∧
        (pauseKind bytes = none → full → run (u.bump (portReg R.PORT_RX_BUF_DROP n))) ∧
        (pauseKind bytes = none → ¬ full → run (u.acceptFrame n bytes))) ∧
      (∀ pfc, pauseKind bytes = some pfc → exec (.pauseFrameReceive port bytes) s = .next (s.pauseIn n bytes pfc)) ∧
      (let d := s.portDown n
       exec (.linkDown port fault) s = .next ((d.setPort n { d.port n with
         localFault := decide (fault.val = 1), remoteFault := decide (fault.val = 2) }).emit (.remoteFault n)))) ∧
    (∀ pfc, (fld p.conf 6 1 ≠ (if pfc = true then 2 else 1)) →
      s.pauseIn n bytes pfc = s.bump (portReg (if pfc then R.PORT_RX_PFC else R.PORT_RX_PAUSE) n)) ∧
    ((p.paused.any fun e => decide (e.1 = cls.val) && decide (e.2 ≤ s.clock)) = true →
      exec (.pauseQuantaExpiry port cls) s = .next (s.setPort n { p with paused := Tbl.erase cls.val p.paused })) ∧
    ((p.paused.any fun e => decide (e.1 = cls.val) && decide (e.2 ≤ s.clock)) = false →
      exec (.pauseQuantaExpiry port cls) s = .next s) ∧
    (let due : Prop := (p.xoff.any fun e => decide (e.1 = cls.val) && decide (e.2 + p.quantaNs p.quanta / 2 ≤ s.clock)) = true ∧
       (classLimits p.conf cls.val).2.1 < s.occupancy n cls.val ∧ cls.val ∈ enabledClasses p.conf
     (due → exec (.pfcXoffRepeat port cls) s =
       .next ((s.sendPause n cls.val p.quanta).setPort n { p with xoff := Tbl.put cls.val s.clock p.xoff })) ∧
     (¬ due → exec (.pfcXoffRepeat port cls) s = .next s)) ∧
    (exec (.moduleReady port) s = .next (s.setPort n { p with
      moduleReady := true, training := if p.admin && !p.link then some s.clock else p.training })) ∧
    (let an : Prop := p.admin = true ∧ p.link = false ∧ p.conf ≠ [] ∧ p.c2m = false ∧ bit (fld p.conf 3 1) 0 = true
     (an → exec (.noCommonAbility port) s = .next (s.setPort n { p with noCommon := true, anDone := false, ltDone := false })) ∧
     (¬ an → exec (.noCommonAbility port) s = .next s)) ∧
    (p.mayRise = true → exec (.linkUp port) s = .next ((s.portUp n).announceAll (addrsOf s.gen.cur n))) ∧
    (p.mayRise = false → exec (.linkUp port) s = .next s) ∧
    (∀ w, Tbl.find s.tm.wire n = some w → s.time.timer < w.stop → ∃ u : State, s.loseFrame n = u.txDone w.pkt .ok none 0 ∧
      Tbl.find u.tm.wire n = none ∧ u.regs = s.regs ∧ u.out = s.out)

/-- Parsing, lookup, aging and the entry window (R11, R38, R192, R201 to R204, R208 to R215, R230, R231): PACKET_PARSE,
FLOW_TABLE_LOOKUP_DONE, AGE_CLOCK_ADVANCE, AGING_SWEEP, WIN_WRITE, WIN_INVALIDATE and WIN_READ complete. The source that has its turn
gives its first packet, unless 4096 of it are on their way; a lookup that finds no entry counts as a miss; an aged entry loses its VALID
bit; the window refuses an index outside the table, a bank being loaded, an entry that is valid and fields out of range, and writes
nothing then; a second operation before the first is done is ignored and counted. -/
def Obligations.ClassifySteps : Prop :=
  ∀ (s : State) (n : Nat),
    (let blocked := s.pipe.input.any fun p => decide (4096 ≤ (s.pipe.pieces.filter fun e => e.pkt.sameSource p).length)
     let t := if blocked then s.bump R.CLS_SOURCE_WAIT else s
     (s.grantedPacket n = none → exec (.packetParse n) s = .next t) ∧
     (∀ x p rest, s.grantedPacket n = some x → takeFirst (fun p => p.sameSource x) s.pipe.input = some (p, rest) →
       exec (.packetParse n) s = .next (State.parseIn { t with pipe := { t.pipe with
         input := rest, granted := if p.recirc then s.pipe.granted else p.contender } } p).flow) ∧
     (∀ x, s.grantedPacket n = some x → x ∈ s.pipe.input ∧ (s.pipe.pieces.filter fun e => e.pkt.sameSource x).length < 4096)) ∧
    (∀ x i l, (s.pipe.pieces.zipIdx.filter fun e => e.1.look.isSome)[n]? = some (x, i) → x.look = some l →
      let c := s.pktCfg x.pkt
      let q := s.parsePkt x.pkt
      let done (u : State) (e : Option (List Byte)) : State :=
        let r := u.resolve c q x.pkt e
        { r.2 with pipe := { r.2.pipe with pieces := r.2.pipe.pieces.set i ⟨r.1, none⟩ } }
      let found := s.flowFind l (lookupKey c (mapProfiles c q x.pkt).1 q x.pkt)
      (found = none → exec (.flowTableLookupDone n) s = .next (done (s.bump R.CLS_FLOW_MISS) none)) ∧
      (∀ k, found = some k → let u := if l.fill then s.cacheFill (l.b1 % 32768) k else s
        exec (.flowTableLookupDone n) s = .next (done u (some (Tbl.get entryZero u.cls.entries k))))) ∧
    ((s.pipe.pieces.zipIdx.filter fun e => e.1.look.isSome)[n]? = none → exec (.flowTableLookupDone n) s = .next s) ∧
    (∃ t, exec .ageClockAdvance s = .next t ∧ t.cls.ageClock = s.time.timer / 2 ^ 58 % 65536) ∧
    (let old := s.cls.entries.filter fun e =>
       decide (e.1 / 2 ^ 24 ≤ 1) && s.bankLive 0 (e.1 / 2 ^ 23 % 2) && flowExpired s.cls.ageClock e.2
     exec .agingSweep s = .next (old.foldl (fun s e => ((s.setEntryAt e.1 (clearValid 0 e.2)).uncache e.1).bump R.CLS_FLOW_AGED) s)) ∧
    (exec .winWrite s = .next (s.winStart 1) ∧ exec .winInvalidate s = .next (s.winStart 2) ∧ exec .winRead s = .next (s.winStart 3)) ∧
    (let w := s.window
     let key := entryKey w.1 w.2.1 w.2.2
     let old := s.entry w.1 w.2.1 w.2.2
     let new := s.cls.winData.take (entrySize w.1)
     let refused (op r : Nat) : Prop := s.winStart op = (s.setReg R.CLS_WIN_STATUS (BitVec.ofNat 64 (3 + 16 * r))).bump R.CLS_WIN_REFUSED
     let begun (u : State) (op : Nat) : State := { u.setReg R.CLS_WIN_STATUS 0 with cls := { u.cls with winOp := some ⟨op, w.1, w.2.1, w.2.2, new⟩ } }
     ((s.barOpen = false ∨ s.windowOpen R.CLS_WIN_CMD = false) → ∀ op, s.winStart op = s) ∧
     (s.barOpen = true → s.windowOpen R.CLS_WIN_CMD = true →
       (s.cls.winOp ≠ none → ∀ op, s.winStart op = s.bump R.CLS_WIN_REFUSED) ∧
       (s.cls.winOp = none →
         (∀ op, tableSize w.1 ≤ w.2.2 → refused op 4) ∧
         (controlAt w.1 = none → refused 2 4) ∧
         (w.2.2 < tableSize w.1 → controlAt w.1 ≠ none → s.bankLoading w.1 w.2.1 = true → ∀ op, refused op 5) ∧
         (w.2.2 < tableSize w.1 → s.bankLoading w.1 w.2.1 = false →
           s.winStart 3 = begun s 3 ∧
           (controlAt w.1 ≠ none → s.winStart 2 = begun ((s.setEntryAt key (clearValid w.1 old)).winDrop w.1 w.2.1 w.2.2) 2) ∧
           (entryValid w.1 old = true → refused 1 1) ∧
           (entryValid w.1 old = false → ∀ r, fieldsRefused w.1 new = some r → refused 1 r) ∧
           (entryValid w.1 old = false → fieldsRefused w.1 new = none → w.1 ≠ 4 → w.1 ≠ 5 → s.winStart 1 = begun s 1))))) ∧
    (s.cls.winOp = none → s.winFinish = s) ∧
    (∀ w, s.cls.winOp = some w → s.winFinish.cls.winOp = none ∧ (s.winFinish.reg R.CLS_WIN_STATUS).toNat = 1 ∧
      (w.op = 3 → s.winFinish.cls.winData = splice s.cls.winData 0 (s.entry w.table w.bank w.index)) ∧
      (w.op = 1 → 2 ≤ w.table → w.table ≠ 5 →
        s.winFinish.cls.entries = (s.setEntryAt (entryKey w.table w.bank w.index) w.data).cls.entries) ∧
      (w.op = 1 → w.table = 1 → s.winFinish.cls.entries = (s.setEntryAt (entryKey w.table w.bank w.index) (splice w.data 0x36
        (leBytes s.cls.ageClock 2 ++ leBytes (fld (s.entry w.table w.bank w.index) 0x38 1 + 1) 1))).cls.entries))

/-- Switching, queues and the stair: SWITCH_PASS, SERVICE_PACKET, BACK_STAIR_PACKET, REASM_TIMEOUT, TM_ENQUEUE, TM_SCHEDULE_DECISION,
RX_HOLD_LIMIT_EXPIRY, GATE_ENTRY_CHANGE and TELEMETRY_VISIT (R238, R255, R240, R256, R261, R262, R269, R271, R273, R274, R283, R290,
R291): a packet of a retired generation is dropped at the unit it reaches; another goes on through it; what waits in reassembly for two
seconds is discarded; a held frame is discarded at its limit; a port's gates open and close by the list. -/
def Obligations.PacketSteps : Prop :=
  ∀ (s : State) (t : Fin 2048) (port : Fin 4) (dest : Fin 6) (ref : Nat),
    (nextPiece [] s.pipe.pieces = none → exec .switchPass s = .next s) ∧
    (∀ p rest, nextPiece [] s.pipe.pieces = some (p, rest) →
      let u : State := { s with pipe := { s.pipe with pieces := rest } }
      (u.pktRetired p = true → exec .switchPass s = .next (u.retireDrop p).flow) ∧
      (u.pktRetired p = false →
        (p.stair = some 0 → exec .switchPass s = .next (u.dropPkt p).flow) ∧
        (∀ r, p.stair = some (r + 1) → exec .switchPass s = .next (u.toStair p (r + 1)).flow) ∧
        (p.stair = none → exec .switchPass s = .next (u.switchPass p).flow))) ∧
    (s.takeHanded t.val = none → exec (.servicePacket t) s = .next s) ∧
    (∀ h u, s.takeHanded t.val = some (h, u) →
      (u.pktRetired h.pkt = true → exec (.servicePacket t) s = .next (u.retireDrop h.pkt).flow) ∧
      (u.pktRetired h.pkt = false →
        (h.service = 1 → exec (.servicePacket t) s = .next (u.espIn h.pkt h.room).flow) ∧
        (h.service = 2 → exec (.servicePacket t) s = .next (u.espOut h.pkt h.room).flow) ∧
        (h.service = 3 → exec (.servicePacket t) s = .next (u.macsecIn h.pkt h.room).flow) ∧
        (h.service = 4 → exec (.servicePacket t) s = .next (u.macsecOut h.pkt h.room).flow) ∧
        (h.service = 5 → exec (.servicePacket t) s = .next (u.tcpIn h.pkt h.room).flow) ∧
        ((h.service = 0 ∨ 5 < h.service) → exec (.servicePacket t) s = .next (u.noSa h.pkt).flow))) ∧
    ((nextStair s.pipe.stair = none ∨ s.stairRuns = false) → exec .backStairPacket s = .next s) ∧
    (∀ e, nextStair s.pipe.stair = some e → s.stairRuns = true →
      let u : State := { s with pipe := { s.pipe with stair := s.pipe.stair.erase e } }
      (u.pktRetired e.pkt = true → exec .backStairPacket s = .next (u.retireDrop e.pkt).flow) ∧
      (u.pktRetired e.pkt = false → e.reason = 6 → exec .backStairPacket s = .next (u.reassemble e.pkt).flow) ∧
      (u.pktRetired e.pkt = false → e.reason ≠ 6 →
        (∀ w, u.answerTo e.pkt = (.none, w) → exec .backStairPacket s = .next (w.toOwner e.pkt e.reason).flow) ∧
        (∀ w, u.answerTo e.pkt = (.consume, w) → exec .backStairPacket s = .next (w.dropPkt e.pkt).flow) ∧
        (∀ a peer lp rp m w, u.answerTo e.pkt = (.pathMtu a peer lp rp m, w) →
          exec .backStairPacket s = .next ((w.setPathMtu a peer lp rp m).dropPkt e.pkt).flow) ∧
        (∀ bs w, u.answerTo e.pkt = (.send bs, w) →
          (∀ y, w.mayAnswer e.pkt.source = some y →
            exec .backStairPacket s = .next ((y.sendOwn e.pkt.source bs).dropPkt e.pkt).flow) ∧
          (w.mayAnswer e.pkt.source = none →
            exec .backStairPacket s = .next (w.dropAt R.SW_BSTAIR_ANSWER_LIMIT e.pkt).flow)))) ∧
    (exec .reasmTimeout s = .next ((s.setReasm (s.pipe.reasm.filter fun d => decide (s.clock < d.began + 2 * nsPerSec))).count
      R.SW_REASM_TIMEOUT (s.pipe.reasm.filter fun d => decide (d.began + 2 * nsPerSec ≤ s.clock) && !d.discarded).length)) ∧
    (s.pipe.enq = [] → exec .tmEnqueue s = .next s) ∧
    (∀ e rest, s.pipe.enq = e :: rest →
      exec .tmEnqueue s = .next (State.enqueue { s with pipe := { s.pipe with enq := rest } } e).flow) ∧
    (s.gated.getLsbD 10 = true → exec (.tmScheduleDecision dest) s = .next (s.decide1 dest.val).flow) ∧
    (s.gated.getLsbD 10 = false → exec (.tmScheduleDecision dest) s = .next ((s.adopt 10).decide1 dest.val).flow) ∧
    (let leaf := (s.ring ref).globalNo
     ∀ f rest, (s.leaf (leafKey 4 leaf)).queue = f :: rest →
      let due : Prop := (s.ring ref).live = true ∧ refKind ref = 1 ∧ (s.ring ref).hold = true ∧ s.leafHeld 4 leaf = true ∧
        (refOwner ref = true ∨ (s.room (refRoom ref)).state ≠ .frozen) ∧ f.enq + (s.ring ref).holdLimit * 1000 ≤ s.clock
      (due → exec (.rxHoldLimitExpiry ref) s = .next ((s.discardHead 4 leaf).noBuffer ref).flow) ∧
      (¬ due → exec (.rxHoldLimitExpiry ref) s = .next s)) ∧
    (let g := s.gate port.val
     let stop := g.start + gateDuration g.list g.entry * perNs
     ((gateOn g.list = false ∨ s.time.timer < stop) → exec (.gateEntryChange port) s = .next s) ∧
     (gateOn g.list = true → stop ≤ s.time.timer →
       (g.entry + 1 < gateCount g.list →
         exec (.gateEntryChange port) s = .next (s.enterGate port.val g.list g.next (g.entry + 1) stop g.cycle)) ∧
       (gateCount g.list ≤ g.entry + 1 → s.lastCycle g = true → exec (.gateEntryChange port) s = .next s) ∧
       (gateCount g.list ≤ g.entry + 1 → s.lastCycle g = false → let cycle := g.cycle + gateCycle g.list * perNs
         exec (.gateEntryChange port) s = .next (s.enterGate port.val g.list g.next 0 cycle cycle)))) ∧
    (∀ list next i start cycle, let e := (s.enterGate port.val list next i start cycle).gate port.val
      e.list = list ∧ e.next = next ∧ e.entry = i ∧ e.start = start ∧ e.cycle = cycle ∧
      (∀ c, c ∈ openingClasses list i → (c ∈ e.shut ↔ (s.port port.val).isPaused s.clock c = true)) ∧
      (∀ c, c ∉ openingClasses list i → (c ∈ e.shut ↔ c ∈ (s.gate port.val).shut))) ∧
    (s.tm.sweep = none → exec .telemetryVisit s = .next s) ∧
    (∀ w, s.tm.sweep = some w → w.left = [] →
      exec .telemetryVisit s = .next { s.teleFlush w true with tm := { (s.teleFlush w true).tm with sweep := none } }) ∧
    (∀ w k rest, s.tm.sweep = some w → w.left = k :: rest → ∃ t, exec .telemetryVisit s = .next t ∧
      (rest = [] → t.tm.sweep = none) ∧ (rest ≠ [] → ∃ v, t.tm.sweep = some v ∧ v.left = rest ∧ v.began = w.began))

/-- Transmit descriptors, receive delivery and moderation: TX_DESCRIPTOR, RX_FRAME_DELIVERY and MODERATION_FIRE (R53, R139 to R141, R147,
R148, R157): a ring gives its descriptor when its turn has come; a good one begins its reads and a bad one fails; a frame goes to the
buffers of its ring, or is dropped where the ring is gone or refuses it, and in hold mode stays queued; a moderated event fires when its
time has come. -/
def Obligations.RingTraffic : Prop :=
  ∀ (s : State) (ref : Nat),
    (refKind ref ≠ 0 → exec (.txDescriptor ref) s = .next s) ∧
    (refKind ref = 0 → (s.fetchGranted ref = none → exec (.txDescriptor ref) s = .next (s.askEntry ref)) ∧
      (∀ index pass d u, s.fetchGranted ref = some (index, pass, d, u) →
        let e := Entry.fresh u.workId.1 index pass d
        (txDescOk d = true → exec (.txDescriptor ref) s = .next (u.workId.2.beginReads ref e (txSegments d))) ∧
        (txDescOk d = false → exec (.txDescriptor ref) s = .next (u.workId.2.badDesc ref e (e.failBytes .invalidParam))))) ∧
    (s.serves ref = false → s.fetchGranted ref = none ∧ s.askEntry ref = s) ∧
    (s.pipe.delivery = [] → exec .rxFrameDelivery s = .next s) ∧
    (∀ leaf f rest, s.pipe.delivery = (leaf, f) :: rest →
      let p := f.pkt
      let gone (u : State) : State := { u with pipe := { u.pipe with delivery := rest } }
      (s.ringOfGlobal leaf = none → exec .rxFrameDelivery s = .next ((gone s).dropPkt p).flow) ∧
      (∀ r, s.ringOfGlobal leaf = some r →
        ((s.dmaOpen = false ∨ s.entryReady r = false) → exec .rxFrameDelivery s = .next (s.askEntry r)) ∧
        (s.dmaOpen = true → s.entryReady r = true → let b := s.stripTag p
          (s.takeBuffers r b.1.length = none → exec .rxFrameDelivery s = .next ((gone s).rxRefused r leaf f).flow) ∧
          (∀ bs u, s.takeBuffers r b.1.length = some (bs, u) →
            let m := u.translate (refSpace r) (bufferRanges bs b.1.length)
            (m.1 = [] → let w := (gone m.2).fillBuffers r p b.2 bs b.1
              exec .rxFrameDelivery s = .next (if w.2 = true then (w.1.txDone p .ok none (p.bytes.length + 4)).weedRx r 65536
                else w.1.dropPkt p).flow) ∧
            (m.1 ≠ [] → (∀ g, g ∈ m.1 → (m.2.party (refSpace r), g) ∉ m.2.link.atsDenied) → exec .rxFrameDelivery s = .next m.2)))) ∧
      (∀ r, refSpace r = none → (s.ring r).hold = true →
        ((gone s).rxRefused r leaf f).regs = s.regs ∧ (((gone s).rxRefused r leaf f).leaf (leafKey 4 leaf)).queue = f :: (s.leaf (leafKey 4 leaf)).queue) ∧
      (∀ r, refSpace r = none → (s.ring r).hold = false → (gone s).rxRefused r leaf f = ((gone s).noBuffer r).dropPkt p)) ∧
    (let r := s.ring ref
     (r.firstSince = none → exec (.moderationFire ref) s = .next s) ∧
     (∀ t, r.firstSince = some t →
       (r.live = true → t + 1000 * r.timerNow ≤ s.clock → exec (.moderationFire ref) s = .next (s.fire ref)) ∧
       ((r.live = false ∨ s.clock < t + 1000 * r.timerNow) → exec (.moderationFire ref) s = .next s)))

/-! ## Threads, tiles, the strongroom and the rope -/

/-- What wakes and halts threads: LINE_MESSAGE_DELIVER, LEND_ACCEPT, HITCH_GRANT, DEADLINE_TIMEOUT, PARK_WAKE, LH_READY_CHANGE,
STALL_SENTINEL_EVAL, HALT, RESUME, STEP and RESEAT (R17, R299, R300, R303, R305 to R310, R317 to R319, R321 to R325): a message goes to
the first waiting reader that is not halted, a lend completes when the line has room, a hitch is granted to the first waiting thread while
its count allows, a deadline answers TIMEOUT and wakes a parked thread; each wakes the ladder's islands where R17 says so; messages, lends
and grants wait while the linehouse is down. Debug writes are refused and counted at level 0. -/
def Obligations.ThreadEvents : Prop :=
  ∀ (s : State) (n : Nat) (t : Fin 2048) (cluster : Fin 4),
    (∀ m rest k, (s.line n).queue = m :: rest → (s.line n).readers.find? (fun k => !(s.thread k).halted) = some k →
      (s.cores.lhReady = true → exec (.lineMessageDeliver n) s =
        .next ((((s.setLine n { (s.line n).leave k with queue := rest }).deliver k m).trace k 3
          (((s.setLine n { (s.line n).leave k with queue := rest }).thread k).pc)).answer k (BitVec.ofNat 64 m.length)).stir) ∧
      (s.cores.lhReady = false → exec (.lineMessageDeliver n) s = .next s)) ∧
    (((s.line n).queue = [] ∨ (s.line n).readers.find? (fun k => !(s.thread k).halted) = none) → exec (.lineMessageDeliver n) s = .next s) ∧
    ((s.line n).writers = [] → exec (.lendAccept n) s = .next s) ∧
    (∀ k rest, (s.line n).writers = k :: rest → let beats := (s.thread k).stagedBeats
      (s.cores.lhReady = true → (s.line n).used + beats.length ≤ (s.line n).cap →
        exec (.lendAccept n) s = .next (((s.acceptMessage k n beats).trace k 2 (s.thread k).pc).answer k 0).stir) ∧
      ((s.cores.lhReady = false ∨ (s.line n).cap < (s.line n).used + beats.length) → exec (.lendAccept n) s = .next s)) ∧
    (let h := s.hitch n
     let first := h.queue.find? (fun k => !(s.thread k).halted)
     (first = none → exec (.hitchGrant n) s = .next s) ∧
     (∀ k, first = some k →
       (s.cores.lhReady = true → h.holders.length < h.count →
         let u := s.setHitch n { h with holders := h.holders ++ [k], queue := h.queue.filter (fun j => decide (j ≠ k)) }
         let w := u.setThread k { u.thread k with held := (u.thread k).held ++ [n] }
         exec (.hitchGrant n) s = .next ((w.trace k 4 (w.thread k).pc).answer k 0).stir) ∧
       ((s.cores.lhReady = false ∨ h.count ≤ h.holders.length) → exec (.hitchGrant n) s = .next s))) ∧
    (let x := s.thread t
     (s.deadlinePassed t = false → exec (.deadlineTimeout t) s = .next s ∧ exec (.parkWake t) s = .next s) ∧
     (s.deadlinePassed t = true →
       (x.state = .blockedLine → exec (.deadlineTimeout t) s =
         .next (((s.setLine x.object ((s.line x.object).leave t)).answer t resTimeout).wake 2)) ∧
       (x.state = .blockedHitch → exec (.deadlineTimeout t) s = .next (((s.setHitch x.object { s.hitch x.object with
         queue := (s.hitch x.object).queue.filter (fun k => decide (k ≠ t.val)) }).answer t resTimeout).wake 2)) ∧
       (x.state = .parked → exec (.parkWake t) s = .next ((s.release t).wake 2) ∧ ((s.release t).thread t).state = .ready ∧
         ((s.release t).thread t).pc = x.pc + 4))) ∧
    (1 < s.power.ladder → s.stir = s) ∧ (s.power.ladder = 0 → s.power.entering = none → s.stir = s) ∧
    (exec (.lhReadyChange true) s = .next { s with cores := { s.cores with lhReady := true } }) ∧
    (s.cores.lhReady = true → exec (.lhReadyChange false) s = .next s.lhDown) ∧
    (s.cores.lhReady = false → exec (.lhReadyChange false) s = .next s) ∧
    (exec (.stallSentinelEval cluster) s = .next ((List.range 63).foldl (fun s i => s.evalGroup (cluster.val * 64 + i + 1)) s)) ∧
    (let k := s.selected
     let x := s.thread k
     (s.sr.debugLevel = 0 → exec .halt s = .next (s.bump R.DBG_REFUSED) ∧ exec .resume s = .next (s.bump R.DBG_REFUSED) ∧
       exec .step s = .next (s.bump R.DBG_REFUSED) ∧ exec .reseat s = .next (s.bump R.DBG_REFUSED)) ∧
     (s.sr.debugLevel ≠ 0 →
       exec .halt s = .next (s.setThread k { x with halted := true }) ∧
       exec .resume s = .next (s.setThread k { x with halted := false }) ∧
       (x.halted = false → exec .step s = .next s) ∧
       (x.halted = true → let u := (s.setThread k { x with halted := false }).fetchIssue k
         exec .step s = .next (u.setThread k { u.thread k with halted := true })) ∧
       (x.role = .idle → exec .reseat s = .next s) ∧ (x.role ≠ .idle → exec .reseat s = .next (s.reseat k))))

/-- Bursts, schedules, leases and faults of tiles: TILE_BURST, TILE_RESPONSE_DELIVER, KEY_SCHEDULE_LOAD, STRONGROOM_LEASE,
TILE_INTERNAL_ERROR and TILE_RESTART (R368, R371, R400 to R409): a schedule loads for a request that waits for it, or the request ends
with KEY_ABSENT; a lease lets it go on, ends it, or leaves it waiting; an internal error ends every held request, clears the key cache and
keeps the tile out until its restart. Requests of tiles: AES_FWD, AES_INV, KEY_PREFETCH, DIGEST_SHA256, DIGEST_SHA512, KECCAK_ABSORB,
KECCAK_SQUEEZE and DIGEST_DUAL (R392 to R396, R399, R403): a tile takes the oldest message of its line when that is a request of the
operation; one that breaks the rules of its form, or names memory or a key that is not its writer's, is refused with its result code; a
tile that is full or not ready takes nothing. What a block of a cipher request computes is the AES of its input and masks. -/
def Obligations.TileEvents : Prop :=
  (
  ∀ (s : State) (tile : Fin 40),
    let n := tile.val
    let x := s.tile n
    (s.tileReady n = true → exec (.tileBurst tile) s = .next (s.grantBurst n 4)) ∧
    (s.tileReady n = false → exec (.tileBurst tile) s = .next s) ∧
    (exec (.tileResponseDeliver tile) s = .next (x.responses.foldl (fun s r => s.respond n r.1 r.2) (s.setTile n { x with responses := [] }))) ∧
    (x.waiter .schedule = none → exec (.keyScheduleLoad tile) s = .next s) ∧
    (∀ r, x.waiter .schedule = some r →
      (s.keyBytes r.keyRef = none → exec (.keyScheduleLoad tile) s = .next (s.endRequest n r 3)) ∧
      (∀ key, s.keyBytes r.keyRef = some key → let u := if refKeyKind r.keyRef = 0 then s.cacheKey r.keyRef else s
        exec (.keyScheduleLoad tile) s = .next (((u.setTile n (x.useKey ⟨r.keyRef, key, none⟩)).setRequest n r
          { r with wait := .ready }).bump R.TILE_KEY_MISS))) ∧
    (x.waiter .lease = none → exec (.strongroomLease tile) s = .next s) ∧
    (∀ r, x.waiter .lease = some r → let l := s.lease (refKeySlot r.keyRef) (refKeyGen r.keyRef) (!r.decrypt)
      (∀ u, l = (.absent, u) → exec (.strongroomLease tile) s = .next (u.endRequest n r 3)) ∧
      (∀ u, l = (.exhausted, u) → exec (.strongroomLease tile) s = .next (u.endRequest n r 4)) ∧
      (∀ u, l = (.waits, u) → exec (.strongroomLease tile) s = .next u) ∧
      (∀ first inv blocks u, l = (.granted first inv blocks, u) →
        (x.key r.keyRef = none → exec (.strongroomLease tile) s = .next (u.setRequest n r { r with wait := .ready })) ∧
        (∀ k, x.key r.keyRef = some k → exec (.strongroomLease tile) s =
          .next ((u.setTile n (x.useKey { k with lease := some ⟨!r.decrypt, blocks, inv, first⟩ })).setRequest n r { r with wait := .ready })))) ∧
    (x.restarting = true → exec (.tileInternalError tile) s = .next s) ∧
    (x.restarting = false → ∃ t, exec (.tileInternalError tile) s = .next t ∧ (t.tile n).restarting = true ∧ (t.tile n).keys = [] ∧
      (t.tile n).held = [] ∧ t.tileReady n = false) ∧
    (∃ t, exec (.tileRestart tile) s = .next t ∧ t = s.setTile n { x with restarting := false } ∧ (t.tile n).restarting = false)) ∧
  (
  ∀ (s : State) (tile : Fin 40),
    (∀ op i, (op, i) ∈ [(0x01, Instr.aesFwd tile), (0x02, .aesInv tile), (0x03, .keyPrefetch tile), (0x11, .digestSha256 tile),
        (0x12, .digestSha512 tile), (0x13, .keccakAbsorb tile), (0x14, .keccakSqueeze tile), (0x15, .digestDual tile)] →
      let n := 2056 + tile.val
      ((s.line n).queue = [] → exec i s = .next s) ∧
      (∀ beats rest, (s.line n).queue = beats :: rest →
        let r := TileReq.ofBeats beats
        let x := s.tile tile.val
        let u := s.setLine n { s.line n with queue := rest }
        let refused (k : Nat) : State := (u.countResult k).respond tile.val r.thread (r.response tile.val k)
        let full : Prop := 64 ≤ x.held.length ∨
          32 ≤ (x.held.filter fun q => decide (clusterOf q.thread = clusterOf r.thread)).length
        ((s.tileReady tile.val = false ∨ (r.op ≠ op ∧ (r.cipher = true ∨ r.digest = true)) ∨ full) → exec i s = .next s) ∧
        (s.tileReady tile.val = true → (r.op = op ∨ (r.cipher = false ∧ r.digest = false)) → ¬ full →
          (r.ok tile.val beats.length = false → exec i s = .next (refused 1)) ∧
          (r.ok tile.val beats.length = true → (s.rangesOk r = false ∨ (r.cipher = true ∧ s.keyPermitted r = false)) →
            exec i s = .next (refused 2)) ∧
          (r.ok tile.val beats.length = true → s.rangesOk r = true → (r.cipher = true → s.keyPermitted r = true) →
            exec i s = .next (u.setTile tile.val { x with held := x.held ++ [r] }))))) ∧
    (∀ (r : TileReq) (key x pre post : List Byte) (k : Nat), r.inMode = 1 → bit r.ctrl 3 = true → bit r.ctrl 2 = true → bit r.ctrl 1 = true →
      (∀ off ∈ [0x40, 0x48, 0x50], s.badRange r.thread (fld r.msg off 8 + 16 * k) 16 = false) →
      x = Memory.readBytes s.mem (fld r.msg 0x40 8 + 16 * k) 16 → pre = Memory.readBytes s.mem (fld r.msg 0x48 8 + 16 * k) 16 →
      post = Memory.readBytes s.mem (fld r.msg 0x50 8 + 16 * k) 16 →
      (r.op = 1 → s.cipherBlock r key k = .ok ({ r with
        done := r.done + 1, outs := r.outs ++ xorBytes (aesEncrypt key (xorBytes x pre)) post }, s)) ∧
      (r.op = 2 → s.cipherBlock r key k = .ok ({ r with
        done := r.done + 1, outs := r.outs ++ xorBytes (aesDecrypt key (xorBytes x pre)) post }, s))))

/-! ## Storage -/

/-- Epochs, knots and the journal: EPOCH_CLOSE, PLACE_CONFIRM, KNOT_SIGN, KNOT_PUBLISH, EPOCH_LOG_PERSIST, JOURNAL_BLOCK_SUBMIT,
MAP_CHECKPOINT and JOURNAL_RESYNC (R424, R427, R430 to R435, R442, R492, R496, R497, R499): a closed epoch's body is built, its knot is
signed when nothing stops signing, each signature uses one leaf of the pair, and it is published and persisted; entries go to the drives
when a block is full or after its time; a resynchronisation makes the blocks valid on both drives. -/
def Obligations.KnotEvents : Prop :=
  ∀ (s : State),
    (s.store.rope.toBuild = none → exec .epochClose s = .next s) ∧
    (∀ e, s.store.rope.toBuild = some e → exec .epochClose s = .next (s.buildBody e)) ∧
    (exec .placeConfirm s = .next (s.setRope { s.store.rope with
      opened := s.store.rope.opened.map Epoch.fold, closed := s.store.rope.closed.map Epoch.fold })) ∧
    (let first := s.store.rope.closed.find? fun e => decide (e.knot = [])
     ((first = none ∨ s.sr.sealCur = none) → exec .knotSign s = .next s) ∧
     (∀ e p, first = some e → s.sr.sealCur = some p →
       ((e.body = [] ∨ s.sr.dipFrozen = true ∨ (s.sr.debugLevel = 2 ∧ bit e.flags 2 = false)) → exec .knotSign s = .next s) ∧
       (e.body ≠ [] → s.sr.dipFrozen = false → (s.sr.debugLevel ≠ 2 ∨ bit e.flags 2 = true) →
         let q := (s.reserveLeaf p).1
         let a := (s.reserveLeaf p).2.secretBytes 5680
         let b := a.2.secretBytes 5680
         let knot := knotRecord e.body (hssSignature .sha256 q.leaf a.1) (hssSignature .shake256 q.leaf b.1)
         let u : State := { b.2 with sr := { b.2.sr with sealCur := some { q with leaf := q.leaf + 1 } } }
         exec .knotSign s = .next (u.setRope { u.store.rope.modify e.number (fun x => { x with knot := knot }) with
           prev := knot, pairs := notePair u.store.rope.pairs e.number (q.pk .sha256, q.pk .shake256) }).submitKnots))) ∧
    (s.store.rope.toPublish = none → exec .knotPublish s = .next s) ∧
    (∀ e, s.store.rope.toPublish = some e → let u := s.publishKnot e
      (e.kind ≠ 3 → exec .knotPublish s = .next u.enterLevelTwo.endReplay.storeRetry) ∧
      (e.kind = 3 → exec .knotPublish s = .next (u.endRunning 0x0803 0 .ok e.knot).enterLevelTwo.endReplay.storeRetry)) ∧
    (s.store.rope.knots.find? (fun k => !k.persisted) = none → exec .epochLogPersist s = .next s) ∧
    (∀ k, s.store.rope.knots.find? (fun k => !k.persisted) = some k →
      let log := if logMatches k.rec' k.log then k.log else s.recordsOfEpoch k.epoch
      let u := s.keepKnot k log
      exec .epochLogPersist s = .next (u.setRope { u.store.rope with knots := u.store.rope.knots.map fun x =>
        if x.epoch = k.epoch then { x with log := log, persisted := true } else x }).releaseEntries) ∧
    (s.store.queueSince = none → exec .journalBlockSubmit s = .next s) ∧
    (∀ t, s.store.queueSince = some t →
      (s.store.queue ≠ [] → s.store.journal ≠ [] → (s.blockFull = true ∨ t + 2000 ≤ s.clock) →
        exec .journalBlockSubmit s = .next s.submitBlock) ∧
      ((s.store.queue = [] ∨ s.store.journal = [] ∨ (s.blockFull = false ∧ s.clock < t + 2000)) →
        exec .journalBlockSubmit s = .next s)) ∧
    (let u := s.checkpoint.1
     let late := s.checkpoint.2
     let w := (u.journalDrives.map fun e => e.1).foldl State.flushDrive u
     let w : State := { w with store := { w.store with entries := w.store.entries.map (Live.saveUnless late) } }
     exec .mapCheckpoint s = .next ((w.store.volumes.filter fun v => !late.contains v.1).foldl (fun s v => s.freeBlocks v.1 v.2) w).releaseEntries) ∧
    (s.store.resync = false → exec .journalResync s = .next s) ∧
    (s.store.resync = true → exec .journalResync s = .next (State.submitKnots { s with store := { s.store with
      resync := false, blocks := s.store.blocks.map (fun (b : JBlock) => if b.failed then b else { b with valid := s.store.journal }) } }).storeRetry)

/-- Drives: DRIVE_COMPLETION, DRIVE_CMD_TIMEOUT, CONTROLLER_RESET, CONTROLLER_READY_TIMEOUT, DRIVE_REMOVAL, DRIVE_ASYNC_EVENT,
DRIVE_INBOUND_REQUEST, DRIVE_ENUMERATION and DRIVE_HOT_ADD (R472 to R480, R497, R503, R518): a completion ends its command; one that is
late is aborted and counted, and three in a minute lose the drive; an abort that does not end resets the controller, and one not ready in
ten seconds is lost; a drive reaches only the buffers of its commands. An event for a drive or command that is not there does nothing.
Descriptors of storage rings: STORE_WRITE, STORE_READ, STORE_FLUSH, STORE_DEALLOCATE and STORE_VERIFY (R498 to R502): a ring takes the
descriptor of the command's type while fewer than 65,536 operations are on their way; one whose form breaks R498 fails INVALID_PARAM; one
of another storage type waits for its own command. -/
def Obligations.DriveEvents : Prop :=
  (
  ∀ (s : State) (drive : Fin 64) (id status : Nat) (data : List Byte) (warning : BitVec 8) (addr len : Nat) (posted : Bool)
    (found : List DriveInfo) (info : DriveInfo),
    let n := drive.val
    (s.drive n = none → exec (.driveCompletion drive id status data) s = .next s ∧ exec (.driveCmdTimeout drive id) s = .next s ∧
      exec (.controllerReset drive) s = .next s ∧ exec (.controllerReadyTimeout drive) s = .next s ∧ exec (.driveRemoval drive) s = .next s ∧
      exec (.driveAsyncEvent drive warning) s = .next s ∧ exec (.driveInboundRequest drive addr len posted) s = .next s) ∧
    (∀ x, s.drive n = some x →
      (x.cmds.find? (fun c => decide (c.id = id)) = none →
        exec (.driveCompletion drive id status data) s = .next s ∧ exec (.driveCmdTimeout drive id) s = .next s) ∧
      (∀ c, x.cmds.find? (fun c => decide (c.id = id)) = some c →
        (let y : Drive := { x with
           cmds := x.cmds.filter fun d => decide (d.id ≠ id), resetAt := none }
         exec (.driveCompletion drive id status data) s =
           .next ((((s.setDrive n (y.account s.clock (4096 * c.blocks) (s.foreground c.use))).driveMessage id).cmdEnd x.serial c.use (decide (status = 0)) status
             (fit data (if c.write then 0 else 4096 * c.blocks))).storeRetry)) ∧
        ((c.aborted.isSome = true ∨ s.clock < c.issued + s.store.timeoutMs * 1000000) →
          exec (.driveCmdTimeout drive id) s = .next s) ∧
        (c.aborted = none → c.issued + s.store.timeoutMs * 1000000 ≤ s.clock →
          let ts := (x.timeouts.filter fun t => decide (s.clock < t + 60000000000)) ++ [s.clock]
          let y : Drive := { x with
            timeouts := ts, cmds := x.cmds.map fun d => if d.id = id then { d with aborted := some s.clock } else d }
          let u := ((s.setDrive n y).bump R.DRV_CMD_TIMEOUT).emit (.drive n id 0x108 0 0 [])
          (3 ≤ ts.length → exec (.driveCmdTimeout drive id) s = .next (u.loseDrive n)) ∧
          (ts.length < 3 → exec (.driveCmdTimeout drive id) s = .next u))) ∧
      (let stuck := x.cmds.any fun c => match c.aborted with | some t => decide (t + 1000000000 ≤ s.clock) | none => false
       (stuck = true → exec (.controllerReset drive) s = .next (x.cmds.foldl (fun s c => s.free.2.cmdEnd x.serial c.use false (s.free.1.toNat % 2 ^ 32) [])
         ((s.setDrive n { x with cmds := [], resetAt := some s.clock, sanitizing := false }).bump R.DRV_CTRL_RESET)).storeRetry) ∧
       (stuck = false → exec (.controllerReset drive) s = .next s)) ∧
      (∀ t, x.resetAt = some t → (t + 10000000000 ≤ s.clock → exec (.controllerReadyTimeout drive) s = .next (s.loseDrive n)) ∧
        (s.clock < t + 10000000000 → exec (.controllerReadyTimeout drive) s = .next s)) ∧
      (x.resetAt = none → exec (.controllerReadyTimeout drive) s = .next s) ∧
      (∃ u, exec (.driveRemoval drive) s = .next u ∧ u.store.drives = Tbl.erase n (s.loseDrive n).store.drives) ∧
      (let u := (s.setDrive n { x with critical := warning.toNat }).emit (.drive n 0 0x102 0 0 [])
       let gone : Prop := warning.getLsbD 3 = true ∨ (s.store.journal.contains x.serial = true ∧ warning.getLsbD 4 = true)
       (gone → exec (.driveAsyncEvent drive warning) s = .next (u.loseDrive n)) ∧
       (¬ gone → exec (.driveAsyncEvent drive warning) s = .next u)) ∧
      (let inside := x.cmds.any fun c => decide (c.buf ≤ addr) && decide (addr + len ≤ c.buf + 4096 * c.blocks)
       (inside = true → exec (.driveInboundRequest drive addr len posted) s = .next s) ∧
       (inside = false → exec (.driveInboundRequest drive addr len true) s = .next (s.bump R.DRV_INBOUND_REFUSED) ∧
         exec (.driveInboundRequest drive addr len false) s =
           .next ((s.bump R.DRV_INBOUND_REFUSED).emit (.drive n 0 0x200 0 0 []))))) ∧
    (exec (.driveEnumeration found) s =
      .next (found.foldl (fun s i => s.addDrive i false) { s with store := { s.store with drives := [], ports := [] } })) ∧
    ((∃ e ∈ s.store.drives, e.2.serial = fit info.serial 20) → exec (.driveHotAdd info) s = .next s) ∧
    ((∀ e ∈ s.store.drives, e.2.serial ≠ fit info.serial 20) → exec (.driveHotAdd info) s = .next (s.addDrive info true))) ∧
  (
  ∀ (s : State) (ref : Nat),
    (∀ type i, (type, i) ∈ [(0x0301, Instr.storeWrite ref), (0x0302, .storeRead ref), (0x0303, .storeFlush ref),
        (0x0304, .storeDeallocate ref), (0x0305, .storeVerify ref)] →
      (refKind ref ≠ 2 → exec i s = .next s) ∧
      (65536 ≤ s.store.ops.length → exec i s = .next s) ∧
      (refKind ref = 2 → s.store.ops.length < 65536 → s.fetchGranted ref = none → exec i s = .next (s.askEntry ref)) ∧
      (∀ index pass d u, refKind ref = 2 → s.store.ops.length < 65536 → s.fetchGranted ref = some (index, pass, d, u) →
        let t := fld d 0 2
        let e := Entry.fresh u.workId.1 index pass d
        (t = type → exec i s = .next (u.workId.2.takeStore ref e)) ∧
        (t ≠ type → 0x0301 ≤ t → t ≤ 0x0305 → exec i s = .next s) ∧
        ((t < 0x0301 ∨ 0x0305 < t) → exec i s = .next (u.workId.2.takeStore ref e)))) ∧
    (∀ e, storeDescOk e.desc = false → s.takeStore ref e = s.badDesc ref e (storeCompletion e.desc .invalidParam false 0 0 0 0)) ∧
    (∀ e, storeDescOk e.desc = true → fld e.desc 0 2 = 0x0303 → s.takeStore ref e = (s.addWork ref e).endFlushes ref 64))

/-- Sweeps, rebuilds, batches and replay: SWEEP_CYCLE_START, SWEEP_EXTENT, REBUILD_EXTENT, TRANSCRYPT_EXTENT, BATCH_CURSOR_PERSIST,
BACKGROUND_DEALLOCATE, STORAGE_STARTUP and REPLAY_IN_PLACE (R38, R456 to R464, R485, R490, R506, R512, R574): a cycle lists a volume's
extents in order when its interval has passed and visits them one by one; a rebuild takes the next extent with a piece on the drive that
came; a batch takes its next source; each only while its share of the bandwidth of the drives it uses allows; the start waits for the
strongroom and for work of before, and without a journal drive it ends in phase 5. -/
def Obligations.StorageWork : Prop :=
  ∀ (s : State) (vol : Fin 256) (n : Fin 16) (data : Option (List Byte)),
    let b := (s.adopted 17).block 0x0906 vol.val
    let e := s.endCycle vol.val
    (e.volume vol.val = none → exec (.sweepCycleStart vol) s = .next e) ∧
    (∀ v, e.volume vol.val = some v → let be := (e.adopted 17).block 0x0906 vol.val
      let due : Prop := sweepOn be = true ∧ v.cycle = none ∧ 2 ≤ e.store.path ∧
        (∀ t, v.lastCycle = some t → t + fld be 16 4 * 3600000000000 ≤ e.clock)
      (¬ due → exec (.sweepCycleStart vol) s = .next e) ∧
      (due → ∃ u c, exec (.sweepCycleStart vol) s = .next u ∧ u.volume vol.val = some { v with cycle := some c } ∧ c.start = e.clock ∧
        c.lagging = false ∧ ∀ id, id ∈ c.left ↔ ∃ x ∈ v.extents, id = (x.ns, x.lba, x.seq))) ∧
    (s.volume vol.val = none → exec (.sweepExtent vol) s = .next s ∧ exec (.rebuildExtent vol) s = .next s) ∧
    (∀ v, s.volume vol.val = some v →
      (v.cycle = none → exec (.sweepExtent vol) s = .next s) ∧
      (∀ c, v.cycle = some c →
        (sweepOn b = false → exec (.sweepExtent vol) s = .next e) ∧
        (sweepOn b = true → (v.lost ≠ [] ∨ v.rebuilding ≠ [] ∨ s.store.path < 2) → exec (.sweepExtent vol) s = .next s) ∧
        (sweepOn b = true → v.lost = [] → v.rebuilding = [] → 2 ≤ s.store.path →
          (c.left = [] → exec (.sweepExtent vol) s = .next e) ∧
          (∀ id rest, c.left = id :: rest →
            let lag := c.lagging || s.lags vol.val v c
            (s.extentAt vol.val id.1 id.2.1 id.2.2 = none → exec (.sweepExtent vol) s =
              .next (s.setVolume vol.val { v with cycle := some { c with left := rest, lagging := lag } })) ∧
            (∀ x, s.extentAt vol.val id.1 id.2.1 id.2.2 = some x →
              (s.sweepAllows vol.val v c x = false → exec (.sweepExtent vol) s =
                .next (s.setVolume vol.val { v with cycle := some { c with lagging := lag } })) ∧
              (s.sweepAllows vol.val v c x = true → exec (.sweepExtent vol) s =
                .next (((s.spend v x.group (4096 * v.pieceBlocks x.blocks) 0).setVolume vol.val
                  { v with cycle := some { c with left := rest, lagging := lag } }).sweepVisit vol.val id)))))) ∧
      (let w : Volume := { v with rebuilding := v.rebuilding.filter fun p => v.unfinished p }
       let u := s.setVolume vol.val w
       let next := w.extents.find? fun x => decide (x.damaged = 0) &&
         w.rebuilding.any (fun p => decide (x.group = p / max 1 w.width) && bit x.missing (p % max 1 w.width)) &&
         !(u.store.ops.any fun o => decide (o.old = some x))
       (next = none → exec (.rebuildExtent vol) s = .next u) ∧
       (∀ x, next = some x → let o := { StoreOp.fresh .rebuild .internal 0xFFFF vol.val x.ns x.lba x.blocks x.domain with
           old := some x, todo := [x], all := true }
         let bytes := 4096 * w.pieceBlocks x.blocks
         (u.groupAllows w x.group bytes ⟨18, w.share, false, none⟩ = false → exec (.rebuildExtent vol) s = .next u) ∧
         (u.groupAllows w x.group bytes ⟨18, w.share, false, none⟩ = true → let y := (u.spend w x.group bytes 18).addOp o
           exec (.rebuildExtent vol) s = .next (y.2.readNext y.1))))) ∧
    (s.batch n.val = none → exec (.transcryptExtent n data) s = .next s) ∧
    (∀ x, s.batch n.val = some x →
      (x.left = [] → exec (.transcryptExtent n data) s = .next (s.batchEnd n.val)) ∧
      (∀ r rest, x.left = r :: rest →
        let ps := s.batchPieces x r
        let allowed := ps.all fun p => s.groupAllows p.1 p.2.1 p.2.2 (x.share n.val)
        ((s.batchMayTake n.val x = false ∨ allowed = false) → exec (.transcryptExtent n data) s = .next s) ∧
        (s.batchMayTake n.val x = true → allowed = true → let y : Batch := { x with left := rest }
          let u := (ps.foldl (fun s p => s.spend p.1 p.2.1 p.2.2 (n.val + 1)) s).setBatch n.val y
          (∀ v ns lba seq, r = .local' v ns lba seq →
            (u.extentAt v ns lba seq = none → exec (.transcryptExtent n data) s =
              .next (((u.setBatch n.val { y with superseded := y.superseded + 1 }).bump R.TRANSCRYPT_SUPERSEDED).batchEnd n.val)) ∧
            (∀ z, u.extentAt v ns lba seq = some z → exec (.transcryptExtent n data) s = .next ((u.moveLocal n.val y z).batchEnd n.val))) ∧
          (∀ q, r = .remote q → exec (.transcryptExtent n data) s = .next ((u.pullRemote n.val y q data).batchEnd n.val))))) ∧
    (s.journalUp = false → exec .batchCursorPersist s = .next s) ∧
    (s.journalUp = true → let bs := s.store.batches.filter fun b => !b.2.loading
      let u := bs.foldl (fun s b => s.journalOpaque (768 + b.1) 1) s
      exec .batchCursorPersist s = .next { u with store := { u.store with cursors := bs.map fun b => (b.1, u.cursorOf b.1 b.2) } }) ∧
    (let u := s.settleDoomed
     let busy (x : Extent) : Bool := u.store.ops.any fun o => decide (o.kind = .dealloc) && decide (o.ext = some x)
     let next := (u.store.volumes.flatMap fun v => v.2.extents).find? fun x => u.doomed x && !busy x
     ((u.store.path < 2 ∨ u.journalUp = false ∨ next = none) → exec .backgroundDeallocate s = .next u) ∧
     (∀ x v, 2 ≤ u.store.path → u.journalUp = true → next = some x → u.volume x.vol = some v →
       let bytes := 4096 * v.pieceBlocks x.blocks
       let o := { StoreOp.fresh .dealloc .internal 0xFFFF x.vol x.ns x.lba x.blocks x.domain with ext := some x, old := some x }
       (u.groupAllows v x.group bytes (u.sinkShare x.vol) = false → exec .backgroundDeallocate s = .next u) ∧
       (u.groupAllows v x.group bytes (u.sinkShare x.vol) = true → let y := (u.spend v x.group bytes 17).addOp o
         exec .backgroundDeallocate s = .next (y.2.openEntry y.1 5)))) ∧
    (let waits : Prop := s.sr.ready = false ∨ s.store.replay.active = false ∨ s.store.replay.phase ≠ 0 ∨ s.store.rope.closed ≠ [] ∨
       s.store.ops ≠ [] ∨ s.store.queue ≠ []
     let u := s.missingDrives
     (waits → exec .storageStartup s = .next s) ∧
     (¬ waits → u.store.journal.length ≤ u.store.jLost.length → exec .storageStartup s =
       .next (State.endStorageOpen { u with store := { u.store with replay := { u.store.replay with phase := 5, active := false } } })) ∧
     (¬ waits → u.store.jLost.length < u.store.journal.length → u.openVault.store.entries = [] → u.openVault.store.rope.held = false →
       let h := healBlocks u.openVault.store.journal u.openVault.store.blocks
       let w : State := { u.openVault with store := { u.openVault.store with blocks := h.1, entries := [] } }
       let y := (w.count R.REPLAY_JOURNAL_HEALED h.2).countReplay ⟨0, 0, 0, 0, 0, []⟩ w.store.rope.closed.length
       exec .storageStartup s =
         .next (State.endReplay { y with store := { y.store with replay := { y.store.replay with phase := 3, progress := 1000 } } }))) ∧
    (s.store.replay.work = [] → exec .replayInPlace s = .next s) ∧
    (s.store.replay.work ≠ [] → ∃ u, exec .replayInPlace s = .next u ∧ u.store.replay.progress = 1000)

/-- NVMe over TCP: NVMT_CONNECTION_OPEN, NVMT_TLS_HANDSHAKE, NVMT_PDU_ERROR, TCP_RETRANSMIT_TIMEOUT, TCP_PROGRESS_TIMEOUT,
KEEP_ALIVE_TIMER_EXPIRY, NVMT_IDENTIFY, NVMT_GET_LOG_PAGE, NVMT_GET_FEATURES, NVMT_SET_FEATURES, NVMT_KEEP_ALIVE,
NVMT_ASYNC_EVENT_REQUEST, NVMT_READ, NVMT_WRITE, NVMT_FLUSH and NVMT_DEALLOCATE (R252, R507 to R511): a connection within the limits is
accepted and makes or joins a controller, one beyond them is refused; keep-alive and progress timers end what is silent; on an admin queue
each command is answered as R508 states, on an I/O queue a command for a namespace that the subsystem does not export is refused. What a
connection names at its opening is the command's (the model's choice), and so are the Identify fields. -/
def Obligations.NvmtCommands : Prop :=
  ∀ (s : State) (index host : Fin 4096) (remote : List Byte) (port subsys : BitVec 16) (t : Fin 2048) (queue : Fin 65)
    (ctrl c : Nat) (ident sqe data : List Byte) (ok digest : Bool),
    let opening (init : Bool) := Instr.nvmtConnectionOpen init index remote port t subsys host queue ctrl
    (let r := nvmtRec (s.adopted 17) 5 index.val
     (r = [] → exec (opening true) s = .next s) ∧
     (r ≠ [] → s.connRoom (fld r 30 2) = false → exec (opening true) s = .next s.refuseConn) ∧
     (r ≠ [] → s.connRoom (fld r 30 2) = true → exec (opening true) s = .next (s.setConn s.freeConn ⟨true, index.val, fld r 4 1,
       slice r 10 26, port.toNat, fld r 8 2, fld r 30 2, t.val, decide (fld r 26 4 = 0), none, none, queue.val, 1500, 0, s.clock⟩))) ∧
    (let l := nvmtRec (s.adopted 17) 1 index.val
     ((l = [] ∨ 256 ≤ index.val) → exec (opening false) s = .next s) ∧
     (l ≠ [] → index.val < 256 → exec (opening false) s =
       .next (s.acceptConn l index.val remote port.toNat t.val subsys.toNat host.val queue.val ctrl))) ∧
    (s.conn c = none → exec (.nvmtTlsHandshake c ident ok) s = .next s ∧ exec (.nvmtPduError c digest) s = .next s ∧
      exec (.tcpRetransmitTimeout c) s = .next s ∧ exec (.tcpProgressTimeout c) s = .next s) ∧
    (∀ x, s.conn c = some x →
      let psk := ((s.connPsks x).filterMap s.session).find? fun k => decide (k.kind = 5) && decide (slice k.body 0x30 0x50 = fit ident 32)
      (x.secure = true → exec (.nvmtTlsHandshake c ident ok) s = .next s) ∧
      (∀ k, x.secure = false → psk = some k → exec (.nvmtTlsHandshake c ident true) s =
        .next ((s.tlsKeys k).2.setConn c { x with secure := true, tls := some (s.tlsKeys k).1 })) ∧
      (x.secure = false → (psk = none ∨ ok = false) →
        exec (.nvmtTlsHandshake c ident ok) s = .next ((s.endConn c).bump R.NVMT_TLS_FAIL)) ∧
      (exec (.nvmtPduError c true) s = .next (((s.sendPdu c 3 []).endConn c).bump R.NVMT_DIGEST_ERR)) ∧
      (exec (.nvmtPduError c false) s = .next (((s.sendPdu c 3 []).endConn c).bump R.NVMT_PDU_ERR)) ∧
      (exec (.tcpRetransmitTimeout c) s = .next ((s.setConn c { x with retries := x.retries + 1 }).emit (.conn c 0x101 []))) ∧
      (x.progress + 30000000000 ≤ s.clock → exec (.tcpProgressTimeout c) s = .next ((s.emit (.conn c 0x100 [])).endConn c)) ∧
      (s.clock < x.progress + 30000000000 → exec (.tcpProgressTimeout c) s = .next s)) ∧
    (s.ctrl ctrl = none → exec (.keepAliveTimerExpiry ctrl) s = .next s) ∧
    (∀ y, s.ctrl ctrl = some y →
      (y.kato ≠ 0 → y.lastKeep + y.kato * 1000000 ≤ s.clock → exec (.keepAliveTimerExpiry ctrl) s = .next (s.closeCtrl ctrl)) ∧
      ((y.kato = 0 ∨ s.clock < y.lastKeep + y.kato * 1000000) → exec (.keepAliveTimerExpiry ctrl) s = .next s)) ∧
    (∀ x k y, s.conn c = some x → x.initiator = false → x.secure = true → x.ctrl = some k → s.ctrl k = some y →
      let answered (u : State) (status : Nat) : State := u.nvmeRespond c (sqeCid sqe) status
      let sel := sqeDw sqe 10 % 256
      let v := sqeDw sqe 11
      (x.queue ≠ 0 → ∀ i ∈ [Instr.nvmtIdentify c sqe, .nvmtGetLogPage c sqe, .nvmtGetFeatures c sqe, .nvmtSetFeatures c sqe,
        .nvmtKeepAlive c sqe, .nvmtAsyncEventRequest c sqe], exec i s = .next (answered s nvmeBadOpcode)) ∧
      (x.queue = 0 →
        (∀ i ∈ [Instr.nvmtRead c sqe, .nvmtWrite c sqe data, .nvmtFlush c sqe, .nvmtDeallocate c sqe data],
          exec i s = .next (answered s nvmeBadOpcode)) ∧
        (sel = 0 → let e := s.exportOf y (fld sqe 4 4)
          (e = [] → exec (.nvmtIdentify c sqe) s = .next (answered s nvmeBadField)) ∧
          (∀ sp, e ≠ [] → s.space (fld e 6 2) = some sp → exec (.nvmtIdentify c sqe) s = .next (s.adminData c sqe
            (leBytes sp.size 8 ++ leBytes 4096 4 ++ leBytes (b01 (sp.readOnly || bit (fld e 12 1) 0)) 1)))) ∧
        (2 < sel → exec (.nvmtIdentify c sqe) s = .next (answered s nvmeBadField)) ∧
        (sel = 1 → exec (.nvmtGetLogPage c sqe) s = .next (s.adminData c sqe (leBytes y.errors 8))) ∧
        (sel = 4 → exec (.nvmtGetLogPage c sqe) s = .next ((s.setCtrl k { y with changed := [] }).adminData c sqe
          ((y.changed.map fun n => leBytes n 4).flatten))) ∧
        (sel = 7 → exec (.nvmtGetFeatures c sqe) s = .next (s.nvmeRespond c (sqeCid sqe) 0 (queueFeature y.queues)) ∧
          let q := min y.queues (min (v % 65536) (v / 65536) + 1)
          exec (.nvmtSetFeatures c sqe) s = .next ((s.setCtrl k { y with queues := q }).nvmeRespond c (sqeCid sqe) 0 (queueFeature q))) ∧
        (sel = 15 → exec (.nvmtGetFeatures c sqe) s = .next (s.nvmeRespond c (sqeCid sqe) 0 y.kato) ∧
          exec (.nvmtSetFeatures c sqe) s = .next (answered (s.setCtrl k { y with kato := v, lastKeep := s.clock }) 0)) ∧
        (sel = 11 → exec (.nvmtGetFeatures c sqe) s = .next (s.nvmeRespond c (sqeCid sqe) 0 y.aen) ∧
          exec (.nvmtSetFeatures c sqe) s = .next (answered (s.setCtrl k { y with aen := v }) 0)) ∧
        exec (.nvmtKeepAlive c sqe) s = .next (answered (s.setCtrl k { y with lastKeep := s.clock }) 0) ∧
        exec (.nvmtAsyncEventRequest c sqe) s = .next ((s.setCtrl k { y with events := y.events ++ [sqeCid sqe] }).notifyNs k)) ∧
      (x.queue ≠ 0 → let e := s.exportOf y (fld sqe 4 4)
        (e = [] → ∀ i ∈ [Instr.nvmtRead c sqe, .nvmtWrite c sqe data, .nvmtFlush c sqe, .nvmtDeallocate c sqe data],
          exec i s = .next (answered s 0x400B)) ∧
        (e ≠ [] → let blocks := fld sqe 48 2 + 1
          exec (.nvmtRead c sqe) s = .next (s.connOp c sqe x e .read (fld sqe 40 8) blocks []) ∧
          exec (.nvmtWrite c sqe data) s = .next (s.connOp c sqe x e .write (fld sqe 40 8) blocks (fit data (4096 * blocks))) ∧
          exec (.nvmtFlush c sqe) s = .next (answered s 0) ∧
          (bit (sqeDw sqe 11) 2 = false → exec (.nvmtDeallocate c sqe data) s = .next (answered s 0)) ∧
          (let n := fld e 6 2
           let lba := fld data 8 8
           let blocks := fld data 4 4
           let r := s.storeRefuses .dealloc (some n) (s.domainOf x.party (fld e 8 4)) lba blocks (bit (fld e 12 1) 0)
           bit (sqeDw sqe 11) 2 = true → sel = 0 →
            (∀ st u, r = (some st, u) → ∃ k, exec (.nvmtDeallocate c sqe data) s = .next (answered u k)) ∧
            (∀ u y rest, r = (none, u) → u.extentsIn n lba blocks = y :: rest → ∃ vol, let o := { StoreOp.fresh .dealloc
                (.conn c (sqeCid sqe)) x.room vol n y.lba y.blocks ((s.domainOf x.party (fld e 8 4)).getD 0) with
                ext := some y, old := some y, todo := rest }
              exec (.nvmtDeallocate c sqe data) s = .next ((u.addOp o).2.openEntry (u.addOp o).1 5))))))

/-! ## Memory, power, resets and management -/

/-- Memory (the packet, message and device memories and host memory): a write of bytes is read back, changes no other byte and keeps the
canonical form, as zeroing does; two memories in that form that read the same are equal. What scrubbing, zero fill, calibration and march
runs find: SCRUB_PASS, ZERO_FILL_CHUNK, GDDR6_RECALIBRATE and MARCH_RUN_END (R526 to R528, R531, R535 to R537, R541, R543): a corrected
word counts as corrected, an uncorrectable one is recorded and acted on, and one in GDDR6 also remaps its unit; a chunk that is filled is
filled for good; a march run that found nothing replies with its words, no fault and the banks it skipped, and its memory is usable again. -/
def Obligations.MemoryRules : Prop :=
  (
  (∀ (m : Memory) (a c : Nat) (bs : List Byte),
    Memory.readBytes (Memory.writeBytes m a bs) a bs.length = bs ∧
    ((c < a ∨ a + bs.length ≤ c) → Memory.read (Memory.writeBytes m a bs) c = Memory.read m c) ∧
    (∀ n, (c < a ∨ a + n ≤ c → Memory.read (Memory.zero m a n) c = Memory.read m c) ∧
      (a ≤ c → c < a + n → Memory.read (Memory.zero m a n) c = 0)) ∧
    (Memory.wf m = true → Memory.wf (Memory.writeBytes m a bs) = true ∧ ∀ n, Memory.wf (Memory.zero m a n) = true)) ∧
  (∀ (s : State) (space : Option Nat) (a : Nat) (bs : List Byte) (stream : Nat) (relaxed : Bool), Memory.wf s.hostMem = true →
    Memory.wf (s.hostWrite ⟨space, a, bs, stream, relaxed⟩).hostMem = true) ∧
  (∀ (m m2 : Memory), Memory.wf m = true → Memory.wf m2 = true → (∀ a, Memory.read m a = Memory.read m2 a) → m = m2) ∧
  Memory.wf State.reset.mem = true ∧ Memory.wf State.reset.hostMem = true) ∧
  (
  ∀ (s : State) (addr chunk skipped : Nat) (faults : List Nat),
    (let a := addr / wordSize addr * wordSize addr
     let u := State.noteUe { s with memory := { s.memory with bad := a :: s.memory.bad.filter fun b => decide (b ≠ a) } } a
     (exec (.scrubPass addr 0) s = .next s) ∧
     (exec (.scrubPass addr 1) s = .next (s.correctedNow a)) ∧
     (a < 0x100000000 → exec (.scrubPass addr 2) s = .next (u.ueAction a)) ∧
     (0x100000000 ≤ a → exec (.scrubPass addr 2) s = .next ((u.remapUnit a).ueAction a))) ∧
    (∃ t, exec (.zeroFillChunk chunk) s = .next t ∧ chunk ∉ t.memory.unfilled ∧ t.mem = s.mem ∧
      ∀ c, c ≠ chunk → (c ∈ t.memory.unfilled ↔ c ∈ s.memory.unfilled)) ∧
    exec .gddr6Recalibrate s = .next { s with memory := { s.memory with recalAt := s.clock } } ∧
    (s.memory.march = none → exec (.marchRunEnd faults skipped) s = .next s) ∧
    (∀ m, s.memory.march = some m → let z := s.marchZero m.params
      let u : State := { z with memory := { z.memory with march := none } }
      let w : State := if (u.marchRegions m.params).contains 3 then { u with cores := { u.cores with lhReady := true } } else u
      exec (.marchRunEnd [] skipped) s =
        .next (w.endRunning 0x0A00 0 .ok (leBytes (marchWords m.params skipped) 8 ++ leBytes 0 4 ++ leBytes 0 2 ++ leBytes skipped 2))))

/-- The power ladder: LADDER_WAKE, LADDER_DESCEND, WAKE_AT_TIMER, HIBERNATE_TIMER, PERST_DEASSERT, PME_TURN_OFF, VSB_DIP_START and
VSB_DIP_END (R17, R548 to R554, R558, R559): the porch descends a rung when its conditions hold, Nap in two decisions with the epoch
published between them, and a dip holds a descent; the wake timer acts when its time has come; PME_Turn_Off is acknowledged and takes the
link down. When a descent is tried is the command's (DESIGN CHOICE, log entry 61). -/
def Obligations.LadderSteps : Prop :=
  ∀ (s : State) (cause : Fin 8) (mv : Nat),
    (exec (.ladderWake cause) s = .next (s.wake cause.val)) ∧
    ((s.power.tripped = true ∨ s.power.brownout = true) → s.wake cause.val = s) ∧
    (s.power.tripped = false → s.power.brownout = false →
      (wakesFrom cause.val s.power.ladder = true → s.wake cause.val = s.wakeUp cause.val) ∧
      (wakesFrom cause.val s.power.ladder = false → (s.power.entering = none ∨ cause.val = 0) → s.wake cause.val = s)) ∧
    (exec .perstDeassert s = .next (s.wake 5)) ∧
    (s.power.wakeAt = none → exec .wakeAtTimer s = .next s) ∧
    (∀ t, s.power.wakeAt = some t →
      let u : State := { s with power := { s.power with wakeAt := none } }
      (s.wakeClock < t.units → exec .wakeAtTimer s = .next s) ∧
      (t.units ≤ s.wakeClock → wakesFrom 6 s.power.ladder = true → exec .wakeAtTimer s = .next (u.wakePme.wake 6)) ∧
      (t.units ≤ s.wakeClock → wakesFrom 6 s.power.ladder = false → exec .wakeAtTimer s = .next u)) ∧
    (∀ n, s.power.entering = some n →
      ((s.power.dipSince.isSome = true ∨ (s.store.rope.closed ≠ [] ∧ s.journalUp = true)) → exec .ladderDescend s = .next s) ∧
      (s.power.dipSince = none → (s.store.rope.closed = [] ∨ s.journalUp = false) → exec .ladderDescend s = .next (s.finishDescent n))) ∧
    (s.power.entering = none →
      ((4 ≤ s.power.ladder ∨ s.depthNow ≤ s.power.ladder) → exec .ladderDescend s = .next s) ∧
      (s.power.ladder < 4 → s.power.ladder < s.depthNow →
        (s.depthNow = 1 → exec .ladderDescend s = .next (State.setLadder { s with power := { s.power with hushSince := s.clock } } 1)) ∧
        (s.depthNow = 2 → exec .ladderDescend s = .next s.enterDoze) ∧
        (3 ≤ s.depthNow → exec .ladderDescend s = .next (s.prepareNap 3)))) ∧
    (let after := s.powerPolicy 0 0x10 4 0
     (s.power.ladder = 4 → after ≠ 0 → s.power.slumberSince + after * nsPerSec ≤ s.clock →
       exec .hibernateTimer s = .next s.enterHibernate) ∧
     ((s.power.ladder ≠ 4 ∨ after = 0 ∨ s.clock < s.power.slumberSince + after * nsPerSec) → exec .hibernateTimer s = .next s)) ∧
    ((4 ≤ s.power.ladder ∨ s.link.dlUp = false) → exec .pmeTurnOff s = .next s) ∧
    (s.power.ladder < 4 → s.link.dlUp = true → s.power.dipSince = none →
      let n := if s.power.asked ∧ 4 ≤ s.power.target then s.power.target else 4
      let p := if s.power.ladder = 3 then s else (s.prepareNap n).flushRope 4
      let q := ((p.abandonTags fun _ => true).freeTags).emit .pmeToAck
      let u : State := { q with
        link := { q.link with dlUp := false, inL1 := false, lanes := 0, dstate := .d3cold }, power := { q.power with asked := false } }
      u.power.dipSince = none → exec .pmeTurnOff s = .next (u.finishDescent n)) ∧
    (s.power.dipSince.isSome = true → exec (.vsbDipStart mv) s = .next s) ∧
    (s.power.dipSince = none →
      let u := (State.vsbMv { s with power := { s.power with dipSince := some s.clock }, sr := { s.sr with dipFrozen := true } } mv)
      let w := u.ropeDip.supply 5 (mv / 10)
      (¬ (w.power.entering = some 3 ∧ w.power.ladder < 2) → exec (.vsbDipStart mv) s = .next w) ∧
      u.sr.dipFrozen = true) ∧
    (s.power.dipSince = none → exec (.vsbDipEnd mv) s = .next s) ∧
    (∀ c, s.power.dipSince = some c → let us := min ((s.clock - c) / 1000) 0xFFFFFFF
      let u := State.vsbMv { s with power := { s.power with dipSince := none }, sr := { s.sr with dipFrozen := false } } mv
      let w := ((u.setReg R.PWR_VSB_DIP (BitVec.ofNat 64 (2 ^ 31 + us))).bump R.PWR_DIP_COUNT).supply 5 (mv / 10)
      exec (.vsbDipEnd mv) s = .next (w.signPending w.store.rope.closed.length).ropeRecover)

/-- Supplies, temperature and clocks: POWER_GROUP_TIMEOUT, PWR_GOOD_FALL, POWER_RETRY, VSB_FIRST_APPLY, COLD_START, VSB_BROWNOUT,
BROWNOUT_RELEASE, AVS_CURRENT_READ, THERMAL_SAMPLE and THERMTRIP_RELEASE (R545, R547, R555 to R557, R560 to R562): a group that fails
while it should be up takes the device to Off, and its start is retried once after 100 ms; a brownout is released into a start; the third
failed current read in a row brings the cluster clocks to 2,000 MHz at most; a sample at 115 degrees trips the device off. -/
def Obligations.SupplyEvents : Prop :=
  ∀ (s : State) (group : Fin 5) (b : Fin 4) (island : Fin 18) (temp : BitVec 10) (amps watts mv : Nat),
    (s.power.good.getLsbD group.val = true →
      exec (.pwrGoodFall group) s = .next ((s.noteCause (some .mainPower)).groupFails group.val)) ∧
    (s.power.good.getLsbD group.val = false → exec (.pwrGoodFall group) s = .next s) ∧
    ((s.power.good.getLsbD group.val = true ∨ s.power.raising = none) → exec (.powerGroupTimeout group) s = .next s) ∧
    (s.power.good.getLsbD group.val = false → s.power.raising ≠ none → let u := s.groupFails group.val
      exec (.powerGroupTimeout group) s = .next { u with power := { u.power with
        retried := true, retryAt := if s.power.retried then none else some (u.clock + 100000000) } }) ∧
    (s.power.retryAt = none → exec .powerRetry s = .next s) ∧
    (∀ c, s.power.retryAt = some c →
      (c ≤ s.clock → s.power.tripped = false →
        exec .powerRetry s = .next { s with power := { s.power with
          retryAt := none, starting := true, raising := some (0, s.clock) } }) ∧
      ((s.clock < c ∨ s.power.tripped = true) → exec .powerRetry s = .next s)) ∧
    (∃ t, exec .vsbFirstApply s = .next t ∧ t.regs = [] ∧ t.power.ladder = 6 ∧ t.power.starting = true ∧ t.rooms = [] ∧ t.rings = [] ∧
      t.memory.trainSaved = false ∧ t.power.raising = some (0, t.clock)) ∧
    (s.power.starting = true → exec (.coldStart b) s = .next (s.coldStart b.val)) ∧
    (s.power.starting = false → exec (.coldStart b) s = .next s) ∧
    (∃ t, exec (.vsbBrownout mv) s = .next t ∧ t.power.ladder = 6 ∧ t.power.brownout = true ∧ t.power.good = 0 ∧ t.rooms = [] ∧
      t.sr.dipFrozen = false ∧ t.power.vsb = decide (0 < mv)) ∧
    (s.power.brownout = true →
      exec .brownoutRelease s = .next { s with power := { s.power with
        brownout := false, vsb := true, starting := true, raising := some (0, s.clock) } }) ∧
    (s.power.brownout = false → exec .brownoutRelease s = .next s) ∧
    (exec (.avsCurrentRead true amps) s = .next (State.avs { s with
      power := { s.power with avsFails := 0 }, cmd := { s.cmd with sensors := Tbl.set (fun _ => 0) s.cmd.sensors 3 amps } })) ∧
    (let u : State := { s with power := { s.power with avsFails := s.power.avsFails + 1 } }
     (s.power.avsFails < 2 → exec (.avsCurrentRead false amps) s = .next u) ∧
     (2 ≤ s.power.avsFails →
       exec (.avsCurrentRead false amps) s = .next ((u.clusterMhz (min 2000)).setBits R.PWR_STATUS 0x20000))) ∧
    (5 ≤ s.power.ladder → exec (.thermalSample island temp watts) s = .next s) ∧
    (s.power.ladder < 5 → 230 ≤ temp.toNat → exec (.thermalSample island temp watts) s =
      .next ((s.putBits R.THERMAL_STATUS 0x1F3FF0 (temp.toNat * 16 + island.val * 2 ^ 16)).thermTrip) ∧
      (∀ u : State, u.thermTrip.power.tripped = true ∧ u.thermTrip.power.ladder = 6)) ∧
    (s.power.ladder < 5 → temp.toNat < 230 → ∃ t, exec (.thermalSample island temp watts) s = .next t ∧
      t.power.crit = overTemp s.power.crit temp.toNat 210 ∧ t.power.warn = overTemp s.power.warn temp.toNat 200 ∧
      t.power.throttled = (overTemp s.power.throttled temp.toNat (2 * s.powerPolicy 0 0x0E 1 95) ||
        decide (s.powerPolicy 0 0x0C 2 240 < watts))) ∧
    (s.power.tripped = true →
      exec .thermtripRelease s = .next (State.setBits { s with power := { s.power with tripped := false } } R.THERMAL_STATUS 8)) ∧
    (s.power.tripped = false → exec .thermtripRelease s = .next s)

/-- What a reset leaves (R34, R117, R489, R568, R570, R581): every room, ring, message and stored command is gone and generation 0x0000 is
in force; key domains and namespaces of rooms are detached; the fuses, the flash, host memory and the porch's registers stay; the
registers of the file are cleared but for those that R581 and the porch keep. A thread starts at ENTRY with g1 holding ARG, g2 its number,
g31 STACK_BASE + STACK_SIZE, and every other register and predicate zero (R298). -/
def Obligations.ResetRule : Prop :=
  (
  ∀ (s : State) (k : ResetKind),
    let t := s.wipe k
    t.rooms = [] ∧ t.rings = [] ∧ t.msgs = [] ∧ t.cmd.stored = [] ∧ t.cmd.running = [] ∧ t.cmd.fetched = [] ∧ t.gen.current = 0 ∧
    t.gen.inProgress = false ∧ t.hostMem = s.hostMem ∧ t.clock = s.clock ∧ t.out = s.out ∧ t.pending = s.pending ∧ t.mem = [] ∧
    t.sr.ready = false ∧ t.sr.romDone = false ∧ t.sr.sessions = [] ∧ t.sr.imports = [] ∧ t.sr.nonce = none ∧ t.sr.vaultOpen = false ∧
    (s.sr.debugLevel ≠ 2 → t.sr.debugLevel = 0) ∧ t.pipe = Pipe.reset ∧ t.tm = Tm.reset ∧
    (∀ o, t.reg o = if k.keepsReg o then s.reg o else regReset o) ∧
    (∀ e ∈ t.sr.vaultSaved, ¬ (e.2.state = 1 ∧ e.2.room < 1024)) ∧ (∀ e ∈ t.store.spaces, ¬ e.2.room < 1024) ∧
    (k.loses = false → t.time.now = s.time.now ∧ t.time.timer = s.time.timer ∧ t.time.periodUs = s.time.periodUs) ∧
    (k.loses = true → t.time.now = State.reset.time.now)) ∧
  (
  ∀ (x : Thread) (t gen : Nat),
    let y := Thread.start x t gen
    y.state = .ready ∧ y.halted = false ∧ y.pc = BitVec.ofNat 32 x.entry ∧ y.g[1] = BitVec.ofNat 64 x.arg ∧ y.g[2] = BitVec.ofNat 64 t ∧
    y.g[31] = BitVec.ofNat 64 (x.stackBase + x.stackSize) ∧ (∀ k : Fin 32, k ≠ 1 → k ≠ 2 → k ≠ 31 → y.g[k] = 0) ∧
    (∀ k : Fin 8, y.v[k] = 0) ∧ y.p = 0 ∧ y.held = [] ∧ y.packets = [] ∧ y.staged = none ∧ y.entry = x.entry ∧ y.role = x.role
)

/-- What resets the device and its clusters: PERST_ASSERT, HOT_RESET, PCIE_LINK_DOWN, FLR_INITIATE, DEVICE_FAULT, CORRIDOR_ACK_TIMEOUT,
CLUSTER_FAULT, CORE_RETIRE_TIMEOUT, CODE_REGION_CHECK, CODE_RELOAD_END, IMAGE_READY, TRIAL_TIMEOUT and IMAGE_SECTION_LOADED (R64, R562,
R565 to R574, R578): each event's reset is the one R567 names; a PERST in Slumber or below and a reset over a link that is down do
nothing; a core that does not retire restarts its cluster; an image section that fails its check starts the device again. -/
def Obligations.ResetEvents : Prop :=
  ∀ (s : State) (core : Fin 256) (cluster : Fin 4),
    (s.power.ladder < 4 → exec .perstAssert s = .next (s.conventionalReset (some .perst))) ∧
    (4 ≤ s.power.ladder → exec .perstAssert s = .next s) ∧
    (s.link.dlUp = true → exec .hotReset s = .next (s.conventionalReset (some .hotReset)) ∧
      exec .pcieLinkDown s = .next (s.conventionalReset (some .linkDown))) ∧
    (s.link.dlUp = false → exec .hotReset s = .next s ∧ exec .pcieLinkDown s = .next s) ∧
    (s.configOpen = false → exec .flrInitiate s = .next (s.emit .retry)) ∧
    (let u := ((s.abandonTags fun _ => true).resetClose.flrStore).flrClear
     let w := (u.reseatAnnex.noteCause (some .flr)).measureConfig
     (s.configOpen = true → exec .flrInitiate s = .next { w.free.2 with link := { w.free.2.link with
       flrUntil := w.clock + 1 + w.free.1.toNat % 20000000 } }) ∧
     u.rooms = [] ∧ u.rings = [] ∧ u.gen.current = 0 ∧ u.sr.sessions = [] ∧ u.pipe.input = [] ∧ u.pipe.pieces = []) ∧
    (s.flrDone = false → s.barOpen = false ∧ s.configOpen = false) ∧
    (exec .deviceFault s = .next s.deviceFault ∧ exec .corridorAckTimeout s = .next s.deviceFault) ∧
    (s.link.dlUp = true → s.deviceFault = (s.reportAer .uncorrectableInternal).warmRestart none [] false) ∧
    (s.link.dlUp = false → s.deviceFault = s.warmRestart none [] false) ∧
    (exec (.clusterFault cluster) s = .next (s.clusterFault cluster.val 1 0xFFFF)) ∧
    (let runs := (List.range 8).any fun i =>
       decide ((s.thread (8 * core.val + i)).state = .ready) && !(s.thread (8 * core.val + i)).halted
     (runs = true → exec (.coreRetireTimeout core) s = .next (s.clusterFault (core.val / 64) 2 core.val)) ∧
     (runs = false → exec (.coreRetireTimeout core) s = .next s)) ∧
    (exec (.codeRegionCheck true) s = .next s) ∧
    (exec (.codeRegionCheck false) s = .next ((s.ledger 11 6 0 (leBytes 3 1 ++ pad 15)).warmRestart (some .codeCheck) [] false)) ∧
    (s.memory.codeReload = false → exec .codeReloadEnd s = .next s) ∧
    (s.memory.codeReload = true →
      let u : State := { s with memory := { s.memory with
        codeReload := false, bad := s.memory.bad.filter fun a => decide (s.regionOf a ≠ some 7) } }
      let u := u.copySections (u.flashImage u.sr.bootSlot)
      let ts := (u.cores.threads.filter fun e => decide (e.2.state = .faulted) && decide (e.2.object = ThFault.fetch.code)).map fun e => e.1
      exec .codeReloadEnd s = .next ((ts.foldl State.reseatOne u).noteReseats ts)) ∧
    ((s.sr.imageValid = false ∨ s.sr.ready = true ∨ s.sr.recovery = true ∨ s.cores.lhReady = false) → exec .imageReady s = .next s) ∧
    (s.sr.imageValid = true → s.sr.ready = false → s.sr.recovery = false → s.cores.lhReady = true →
      let u : State := { s with sr := { s.sr with ready := true } }
      exec .imageReady s = .next ((if s.sr.trial ∧ !s.sr.trialOver then u.writeBootRec s.sr.bootSlot false else
        u).burnFuses.startAnnex.replyWarm)) ∧
    (let due : Prop := s.sr.trial = true ∧ s.sr.imageValid = true ∧ s.sr.ready = false ∧ s.sr.releasedAt + 1000000000 ≤ s.clock
     (due → exec .trialTimeout s = .next { s with sr := { s.sr with trialOver := true } }) ∧
     (¬ due → exec .trialTimeout s = .next s)) ∧
    (s.power.sections = [] → exec .imageSectionLoaded s = .next s) ∧
    (∀ n rest, s.power.sections = n :: rest → let rd := s.flashImage s.sr.bootSlot
      ((s.imageFails rd = 0 ∧ rd 0 0x200 = s.sr.header) →
        exec .imageSectionLoaded s = .next { s with power := { s.power with sections := rest } }) ∧
      (¬ (s.imageFails rd = 0 ∧ rd 0 0x200 = s.sr.header) → exec .imageSectionLoaded s = .next (s.coldReset none)))

/-- SMBus, MCTP, PLDM and JTAG: SMBUS_TIMEOUT_RESET, GET_TID, GET_PLDM_VERSION, GET_PLDM_TYPES, GET_PLDM_COMMANDS,
GET_PDR_REPOSITORY_INFO, GET_PDR, GET_SENSOR_READING, GET_STATE_SENSOR_READINGS, POLL_FOR_PLATFORM_EVENT_MESSAGE, PLDM_SENSOR_UPDATE,
SET_ENDPOINT_ID, MCTP_MESSAGE, JTAG_IDCODE, JTAG_BYPASS, JTAG_TRST, JTAG_SAMPLE_PRELOAD, JTAG_EXTEST and JTAG_DEBUG_ACCESS (R78, R97,
R385, R551, R595, R597): a transaction in Nap or deeper only wakes the device; otherwise each request is answered by its type and command,
and a sensor that crosses a threshold queues an event; JTAG reaches debug state only at debug level 1 or 2. Codes, formats and the
addressing of JTAG accesses are PRESUMED (log entry 57). -/
def Obligations.ManagementCommands : Prop :=
  ∀ (s : State) (bytes : List Byte) (eid type : BitVec 8) (sensor : Fin 13) (v addr : Nat) (w : BitVec 64) (write : Bool),
    exec .smbusTimeoutReset s = .next s ∧
    (∀ t c i, (t, c, i) ∈ [(0, 2, Instr.getTid bytes), (0, 3, .getPldmVersion bytes), (0, 4, .getPldmTypes bytes),
        (0, 5, .getPldmCommands bytes), (2, 0x50, .getPdrRepositoryInfo bytes), (2, 0x51, .getPdr bytes), (2, 0x11, .getSensorReading bytes),
        (2, 0x21, .getStateSensorReadings bytes), (2, 0x0B, .pollForPlatformEventMessage bytes)] →
      (3 ≤ s.power.ladder → exec i s = .next s.smbusWake) ∧
      (s.power.ladder < 3 → s.smbusWake.sr.ready = false → exec i s = .next s.smbusWake) ∧
      (s.power.ladder < 3 → s.smbusWake.sr.ready = true → let a := s.smbusWake.pldmData t c (bytes.drop 3)
        exec i s = .next (a.2.emit (.message 5
          (leBytes (fld bytes 0 1 % 32) 1 ++ leBytes t 1 ++ leBytes c 1 ++ a.1))))) ∧
    (let d := bytes.drop 3
     (s.pldmData 0 2 d).1 = [0, Config.pldmTid] ∧
     (s.cmd.pldmEvents = [] → s.pldmData 2 0x0B d = ([0, Config.pldmTid, 0, 0], s)) ∧
     (∀ e rest, s.cmd.pldmEvents = e :: rest → (s.pldmData 2 0x0B d).2.cmd.pldmEvents = rest) ∧
     (13 ≤ d.length → fld d 0 4 ≤ 12 → let h := max 1 (fld d 0 4)
       s.pldmData 2 0x51 d = (leBytes 0 1 ++ leBytes (if h = 12 then 0 else h + 1) 4 ++ leBytes 0 4 ++ leBytes 5 1 ++
         leBytes ((pdr h).take (fld d 9 2)).length 2 ++ (pdr h).take (fld d 9 2), s)) ∧
     (3 ≤ d.length → 1 ≤ fld d 0 2 → fld d 0 2 ≤ 5 → let r := (s.pldmData 2 0x11 d).1
       r.length = 9 ∧ fld r 7 2 = s.sensor (fld d 0 2) % 65536 ∧ fld r 4 1 = sensorState (fld d 0 2) (s.sensor (fld d 0 2)))) ∧
    (sensor.val = 0 → exec (.pldmSensorUpdate sensor v) s = .next s) ∧
    (sensor.val ≠ 0 → let new := if sensor.val ≤ 5 then v % 65536 else s.stateOf sensor.val
      let crossed : Prop := sensorState sensor.val new ≠ sensorState sensor.val (s.sensor sensor.val)
      ∃ t, exec (.pldmSensorUpdate sensor v) s = .next t ∧ t.sensor sensor.val = new ∧
        (crossed → t.cmd.pldmEvents = s.cmd.pldmEvents ++ [(sensor.val, new)]) ∧ (¬ crossed → t.cmd.pldmEvents = s.cmd.pldmEvents)) ∧
    (3 ≤ s.power.ladder → exec (.setEndpointId eid) s = .next s.smbusWake ∧ exec (.mctpMessage type bytes) s = .next s.smbusWake) ∧
    (s.power.ladder < 3 → let u := s.smbusWake
      exec (.mctpMessage type bytes) s = .next (u.mctp type.toNat bytes) ∧
      (u.mctpUp = false → exec (.setEndpointId eid) s = .next u) ∧
      (u.mctpUp = true → eid ≠ 0 → eid ≠ 255 → ∃ t, exec (.setEndpointId eid) s = .next t ∧ t.cmd.eid = eid.toNat ∧
        t.out = u.out ++ [.message 2 ([0, 0] ++ leBytes eid.toNat 1 ++ [0])]) ∧
      (u.mctpUp = true → (eid = 0 ∨ eid = 255) → exec (.setEndpointId eid) s = .next (u.emit (.message 2 [2])))) ∧
    exec .jtagIdcode s = .next ((s.jtagIr 0).emit (.jtag (Config.jtagIdcode.setWidth 64))) ∧
    exec .jtagBypass s = .next ((s.jtagIr 1).emit (.jtag 0)) ∧
    exec .jtagTrst s = .next (s.jtagIr 0) ∧
    (∃ t x, exec (.jtagSamplePreload bytes) s = .next t ∧ t.jtag.preload = bytes ∧ t.jtag.ir = 2 ∧ t.out = s.out ++ [.jtag x]) ∧
    (let u := if s.jtag.extest then s else s.coldReset none
     exec .jtagExtest s = .next { u with jtag := { u.jtag with ir := 3, extest := true } }) ∧
    (let u := s.jtagIr 4
     (s.sr.debugLevel = 0 → ∀ kind, exec (.jtagDebugAccess kind write addr w) s = .next u) ∧
     (s.sr.debugLevel ≠ 0 →
       (2047 < addr / 128 → exec (.jtagDebugAccess 0 write addr w) s = .next u) ∧
       (addr / 128 ≤ 2047 → let x := u.thread (addr / 128)
         exec (.jtagDebugAccess 0 true addr w) s = .next (u.setThread (addr / 128) (x.debugPut (addr % 128) w)) ∧
         exec (.jtagDebugAccess 0 false addr w) s = .next (u.emit (.jtag (x.debugGet (addr % 128))))) ∧
       (addr % 8 = 0 → scratchAddr addr = true → exec (.jtagDebugAccess 1 write addr w) s = .next (u.debugMem write addr w)) ∧
       (addr % 8 ≠ 0 → exec (.jtagDebugAccess 1 write addr w) s = .next u) ∧
       (s.sr.debugLevel ≠ 2 → scratchAddr addr = false → exec (.jtagDebugAccess 1 write addr w) s = .next u) ∧
       (exec (.jtagDebugAccess 2 true addr w) s = .next u) ∧
       (exec (.jtagDebugAccess 2 false addr w) s = .next (u.emit (.jtag (u.debugLine (addr % 65536) (addr / 65536))))) ∧
       (s.sr.debugLevel ≠ 2 → exec (.jtagDebugAccess 3 write addr w) s = .next u) ∧
       (s.sr.debugLevel = 2 → addr % 8 = 0 → (addr < 0xA00000 ∨ 0xB00000 ≤ addr) →
         exec (.jtagDebugAccess 3 true addr w) s = .next (u.barWrite8 addr w.toNat) ∧
         exec (.jtagDebugAccess 3 false addr w) s = .next (u.emit (.jtag (BitVec.ofNat 64 (u.readReg addr)))))))

/-! ## Reset, idling and memory -/

/-- A room reset's end and a drained save: ROOM_RESET_DRAIN_END and ROOM_SAVE_DRAINED complete (R107, R113, R114, R120, R121): a reset
waits while the room's work is in flight, up to its budget, and then the room is furnished, its interface unlocked and its command done; a
save waits for the room's work, and writes the first four bytes of its image last. -/
def Obligations.RoomDrains : Prop :=
  ∀ (s : State) (room : Fin 1024),
    let n := room.val
    ((s.room n).resetting = none → exec (.roomResetDrainEnd room) s = .next s) ∧
    (∀ w, (s.room n).resetting = some w →
      (s.clock < w.since + 1000 * w.budget → s.inflight n ≠ 0 → exec (.roomResetDrainEnd room) s = .next s) ∧
      ((w.since + 1000 * w.budget ≤ s.clock ∨ s.inflight n = 0) →
        let a := (s.roomRings n).foldl (fun s ref => s.squashRing n ref) s
        let b := (a.squashCommands n).abandonTags fun t => decide (t.room = some n)
        let c := (((b.dropRoomSessions n).dropRoomDma n).clearPending n).moveRoom n .furnished
        let d := (c.roomRings n).foldl (fun s ref => s.setRing ref (s.ring ref).afterReset) c
        exec (.roomResetDrainEnd room) s = .next ((d.setRoom n { d.room n with
          tdi := .unlocked, stream := 0, resetting := none, dirty := none }).endRunning 0x0104 n .ok []).pump)) ∧
    (s.runningOn 0x0107 n = none → exec (.roomSaveDrained room) s = .next s) ∧
    (∀ r, s.runningOn 0x0107 n = some r →
      (((s.room n).saving = false ∨ s.inflight n ≠ 0) → exec (.roomSaveDrained room) s = .next s) ∧
      ((s.room n).saving = true → s.inflight n = 0 →
        let bs := r.ctx.pkt.params
        let u := (s.setRoom n { s.room n with saving := false }).dropRoomPackets n
        let secs := u.saveSections n
        let len := (secs.map fun x => x.2.length).sum
        (u.migKey ((bs.drop 0x10).take 16) = none → exec (.roomSaveDrained room) s = .next (u.endRunning 0x0107 n .keyAbsent [])) ∧
        (∀ k, u.migKey ((bs.drop 0x10).take 16) = some k →
          (fld bs 8 4 < 128 + len →
            exec (.roomSaveDrained room) s = .next (u.endRunning 0x0107 n .invalidParam (leBytes (128 + len) 4))) ∧
          (128 + len ≤ fld bs 8 4 → let v := (u.secretBytes 12).2.setMigKey { k with saved := k.saved + 1 }
            ∃ out, exec (.roomSaveDrained room) s =
              .next (((v.hostWrite ⟨none, fld bs 0 8 + 4, out.drop 4, 0, false⟩).hostWrite ⟨none, fld bs 0 8, out.take 4, 0, false⟩).endRunning
                0x0107 n .ok (leBytes (128 + len) 4)) ∧ out.take 4 = leBytes 0x5253584B 4 ∧ slice out 8 10 = leBytes n 2))))

/-- What State.reset holds (R9, R34, R101, R172, R179, R293, R367): every register of the file at the table's reset value, every room
vacant, every port administratively down and without a port configuration, generation 0x0000 in force with nothing staged, the storage
path closed, memory clear, no command waiting; P is 10 ms and PHASE 0. An idle step and the clock (R172, R179, R189, R230, R490, R549): on
an empty queue the block ticks, frames that are out leave the wire, the entry window's operation ends, long commands whose reads have come
go on, replay ends when its work has, and housekeepers take what has become free to begin (DESIGN CHOICE, log entry 1). A tick of the time
base adds the increment, keeps nanoseconds below 10^9 and never loses a fraction; the time base stands still in Hibernate and Off. -/
def Obligations.ResetState : Prop :=
  (
  (∀ o, State.reset.reg o = regReset o) ∧
  (∀ r ∈ regTable, State.reset.reg r.off = BitVec.ofNat 64 r.reset) ∧
  (∀ n, (State.reset.room n).state = .vacant ∧ (State.reset.port n).admin = false ∧ (State.reset.port n).conf = [] ∧
    (State.reset.port n).link = false ∧ (State.reset.ring n).live = false ∧ Memory.read State.reset.mem n = 0) ∧
  State.reset.gen.current = 0 ∧ State.reset.gen.staged = [] ∧ State.reset.gen.cur = [] ∧ State.reset.store.path = 0 ∧ State.reset.pending = [] ∧
  State.reset.time.periodUs = 10000 ∧ State.reset.time.phase = 0 ∧ State.reset.time.syncOn = false ∧ State.reset.link.bme = false ∧
  State.reset.power.ladder = 0 ∧ State.reset.sr.debugLevel = 0) ∧
  (
  (∀ s : State, s.pending = [] → step s = .next s.tick.landFrames.winFinish.workOn.endReplay.serveAll.noteIdle) ∧
  (∀ (s : State) (x : Running) (c : Command) (f : Ctx → State → Out), x.ready = some .done → commandOf x.ctx.opcode = some c → c.after = some f →
    (∀ st data t, f x.ctx (s.unrun x) = .done st data t → s.goOn x = t.finish x.ctx st data) ∧
    (∀ t, f x.ctx (s.unrun x) = .held t → s.goOn x = t)) ∧
  (∀ (s : State) (x : Running), (x.ready = some .timedOut → s.goOn x = ((s.unrun x).dropLoading x.ctx).finish x.ctx .dmaTimeout []) ∧
    (x.ready = some .aborted → s.goOn x = ((s.unrun x).dropLoading x.ctx).finish x.ctx .dmaAborted []) ∧
    (x.ready = none → s.goOn x = s)) ∧
  (∀ s : State, s.noteIdle.power.idleSince = (if s.idleNow then s.power.idleSince else s.clock)) ∧
  (∀ s : State, s.tick.clock = s.clock + 1 ∧ s.tick.regs = s.regs ∧ s.tick.mem = s.mem ∧ s.tick.hostMem = s.hostMem ∧ s.tick.out = s.out) ∧
  (∀ s : State, s.power.ladder < 5 → s.now.valid = true → s.tick.now.valid = true ∧ s.tick.now.units = s.now.units + s.incr ∧
    s.tick.time.timer = s.time.timer + s.incr ∧ s.tick.now.frac < 2 ^ 32) ∧
  (∀ s : State, 5 ≤ s.power.ladder → s.tick.now = s.now ∧ s.tick.time.timer = s.time.timer) ∧
  (∀ u, (Time.ofUnits u).units = u) ∧ (∀ s : State, 0 < s.incr) ∧ State.reset.now.valid = true)

/-- A debugger's STEP runs the word at PC as the instruction that it encodes (R317, R330): running a word on a thread is the execution of
the instruction it decodes to, and nothing for a word that decodes to none. -/
def Obligations.RunDecodes : Prop :=
  ∀ (t : Fin 2048) (w : BitVec 32) (s : State), runFields t w s = (decodeDreko t w).map fun i => exec i s
end

