-- ==== Sys2Proof/Laws/Exec.lean ====
section
/-!
SUPPORT. Each arm of `exec`, one lemma a command.
-/

namespace Sys2Proof.Machine

@[simp] theorem exec_devIdentify (p : Packet) (s : State) : exec (.devIdentify p) s = execDevIdentify p s := rfl
@[simp] theorem exec_devStatus (p : Packet) (s : State) : exec (.devStatus p) s = execDevStatus p s := rfl
@[simp] theorem exec_devReset (p : Packet) (s : State) : exec (.devReset p) s = execDevReset p s := rfl
@[simp] theorem exec_cfgCommit (p : Packet) (s : State) : exec (.cfgCommit p) s = execCfgCommit p s := rfl
@[simp] theorem exec_cfgRollback (p : Packet) (s : State) : exec (.cfgRollback p) s = execCfgRollback p s := rfl
@[simp] theorem exec_deviceProfile (p : Packet) (s : State) : exec (.deviceProfile p) s = execDeviceProfile p s := rfl
@[simp] theorem exec_cfgDiscard (p : Packet) (s : State) : exec (.cfgDiscard p) s = execCfgDiscard p s := rfl
@[simp] theorem exec_cfgQuery (p : Packet) (s : State) : exec (.cfgQuery p) s = execCfgQuery p s := rfl
@[simp] theorem exec_roomQuery (p : Packet) (s : State) : exec (.roomQuery p) s = execRoomQuery p s := rfl
@[simp] theorem exec_roomFurnish (p : Packet) (s : State) : exec (.roomFurnish p) s = execRoomFurnish p s := rfl
@[simp] theorem exec_roomOpen (p : Packet) (s : State) : exec (.roomOpen p) s = execRoomOpen p s := rfl
@[simp] theorem exec_roomClose (p : Packet) (s : State) : exec (.roomClose p) s = execRoomClose p s := rfl
@[simp] theorem exec_roomReset (p : Packet) (s : State) : exec (.roomReset p) s = execRoomReset p s := rfl
@[simp] theorem exec_roomVacate (p : Packet) (s : State) : exec (.roomVacate p) s = execRoomVacate p s := rfl
@[simp] theorem exec_roomFreeze (p : Packet) (s : State) : exec (.roomFreeze p) s = execRoomFreeze p s := rfl
@[simp] theorem exec_roomSave (p : Packet) (s : State) : exec (.roomSave p) s = execRoomSave p s := rfl
@[simp] theorem exec_roomSaveDrained (room : Fin 1024) (s : State) : exec (.roomSaveDrained room) s = execRoomSaveDrained room s := rfl
@[simp] theorem exec_roomRestore (p : Packet) (s : State) : exec (.roomRestore p) s = execRoomRestore p s := rfl
@[simp] theorem exec_roomThaw (p : Packet) (s : State) : exec (.roomThaw p) s = execRoomThaw p s := rfl
@[simp] theorem exec_roomDoze (p : Packet) (s : State) : exec (.roomDoze p) s = execRoomDoze p s := rfl
@[simp] theorem exec_roomMsgSet (p : Packet) (s : State) : exec (.roomMsgSet p) s = execRoomMsgSet p s := rfl
@[simp] theorem exec_roomPolicy (p : Packet) (s : State) : exec (.roomPolicy p) s = execRoomPolicy p s := rfl
@[simp] theorem exec_roomDirtyLog (p : Packet) (s : State) : exec (.roomDirtyLog p) s = execRoomDirtyLog p s := rfl
@[simp] theorem exec_ringCreate (p : Packet) (s : State) : exec (.ringCreate p) s = execRingCreate p s := rfl
@[simp] theorem exec_ringDestroy (p : Packet) (s : State) : exec (.ringDestroy p) s = execRingDestroy p s := rfl
@[simp] theorem exec_ringEnable (p : Packet) (s : State) : exec (.ringEnable p) s = execRingEnable p s := rfl
@[simp] theorem exec_ringDisable (p : Packet) (s : State) : exec (.ringDisable p) s = execRingDisable p s := rfl
@[simp] theorem exec_ringModerate (p : Packet) (s : State) : exec (.ringModerate p) s = execRingModerate p s := rfl
@[simp] theorem exec_ringWeight (p : Packet) (s : State) : exec (.ringWeight p) s = execRingWeight p s := rfl
@[simp] theorem exec_ringRxMode (p : Packet) (s : State) : exec (.ringRxMode p) s = execRingRxMode p s := rfl
@[simp] theorem exec_portConfig (p : Packet) (s : State) : exec (.portConfig p) s = execPortConfig p s := rfl
@[simp] theorem exec_portAdmin (p : Packet) (s : State) : exec (.portAdmin p) s = execPortAdmin p s := rfl
@[simp] theorem exec_portQuery (p : Packet) (s : State) : exec (.portQuery p) s = execPortQuery p s := rfl
@[simp] theorem exec_portPtp (p : Packet) (s : State) : exec (.portPtp p) s = execPortPtp p s := rfl
@[simp] theorem exec_clsBankLoad (p : Packet) (s : State) : exec (.clsBankLoad p) s = execClsBankLoad p s := rfl
@[simp] theorem exec_clsBankSelect (p : Packet) (s : State) : exec (.clsBankSelect p) s = execClsBankSelect p s := rfl
@[simp] theorem exec_clsKeyProfile (p : Packet) (s : State) : exec (.clsKeyProfile p) s = execClsKeyProfile p s := rfl
@[simp] theorem exec_clsHashSet (p : Packet) (s : State) : exec (.clsHashSet p) s = execClsHashSet p s := rfl
@[simp] theorem exec_clsException (p : Packet) (s : State) : exec (.clsException p) s = execClsException p s := rfl
@[simp] theorem exec_clsTunnel (p : Packet) (s : State) : exec (.clsTunnel p) s = execClsTunnel p s := rfl
@[simp] theorem exec_clsMirror (p : Packet) (s : State) : exec (.clsMirror p) s = execClsMirror p s := rfl
@[simp] theorem exec_tmNodeSet (p : Packet) (s : State) : exec (.tmNodeSet p) s = execTmNodeSet p s := rfl
@[simp] theorem exec_tmShaperRate (p : Packet) (s : State) : exec (.tmShaperRate p) s = execTmShaperRate p s := rfl
@[simp] theorem exec_tmPolicerSet (p : Packet) (s : State) : exec (.tmPolicerSet p) s = execTmPolicerSet p s := rfl
@[simp] theorem exec_tmGateList (p : Packet) (s : State) : exec (.tmGateList p) s = execTmGateList p s := rfl
@[simp] theorem exec_tmTelemetry (p : Packet) (s : State) : exec (.tmTelemetry p) s = execTmTelemetry p s := rfl
@[simp] theorem exec_timeSet (p : Packet) (s : State) : exec (.timeSet p) s = execTimeSet p s := rfl
@[simp] theorem exec_timeAdjust (p : Packet) (s : State) : exec (.timeAdjust p) s = execTimeAdjust p s := rfl
@[simp] theorem exec_periodSet (p : Packet) (s : State) : exec (.periodSet p) s = execPeriodSet p s := rfl
@[simp] theorem exec_syncConfig (p : Packet) (s : State) : exec (.syncConfig p) s = execSyncConfig p s := rfl
@[simp] theorem exec_ppsSet (p : Packet) (s : State) : exec (.ppsSet p) s = execPpsSet p s := rfl
@[simp] theorem exec_schedCancel (p : Packet) (s : State) : exec (.schedCancel p) s = execSchedCancel p s := rfl
@[simp] theorem exec_schedQuery (p : Packet) (s : State) : exec (.schedQuery p) s = execSchedQuery p s := rfl
@[simp] theorem exec_keyDomainCreate (p : Packet) (s : State) : exec (.keyDomainCreate p) s = execKeyDomainCreate p s := rfl
@[simp] theorem exec_keyDomainRotate (p : Packet) (s : State) : exec (.keyDomainRotate p) s = execKeyDomainRotate p s := rfl
@[simp] theorem exec_keyDomainDestroy (p : Packet) (s : State) : exec (.keyDomainDestroy p) s = execKeyDomainDestroy p s := rfl
@[simp] theorem exec_keyDomainQuery (p : Packet) (s : State) : exec (.keyDomainQuery p) s = execKeyDomainQuery p s := rfl
@[simp] theorem exec_keyImportWrapped (p : Packet) (s : State) : exec (.keyImportWrapped p) s = execKeyImportWrapped p s := rfl
@[simp] theorem exec_keySaAdd (p : Packet) (s : State) : exec (.keySaAdd p) s = execKeySaAdd p s := rfl
@[simp] theorem exec_keySaDelete (p : Packet) (s : State) : exec (.keySaDelete p) s = execKeySaDelete p s := rfl
@[simp] theorem exec_keySealNew (p : Packet) (s : State) : exec (.keySealNew p) s = execKeySealNew p s := rfl
@[simp] theorem exec_sealStatus (p : Packet) (s : State) : exec (.sealStatus p) s = execSealStatus p s := rfl
@[simp] theorem exec_sealPubkeys (p : Packet) (s : State) : exec (.sealPubkeys p) s = execSealPubkeys p s := rfl
@[simp] theorem exec_sealExport (p : Packet) (s : State) : exec (.sealExport p) s = execSealExport p s := rfl
@[simp] theorem exec_sealHandover (p : Packet) (s : State) : exec (.sealHandover p) s = execSealHandover p s := rfl
@[simp] theorem exec_sealAccept (p : Packet) (s : State) : exec (.sealAccept p) s = execSealAccept p s := rfl
@[simp] theorem exec_volCreate (p : Packet) (s : State) : exec (.volCreate p) s = execVolCreate p s := rfl
@[simp] theorem exec_volDestroy (p : Packet) (s : State) : exec (.volDestroy p) s = execVolDestroy p s := rfl
@[simp] theorem exec_nsCreate (p : Packet) (s : State) : exec (.nsCreate p) s = execNsCreate p s := rfl
@[simp] theorem exec_nsDelete (p : Packet) (s : State) : exec (.nsDelete p) s = execNsDelete p s := rfl
@[simp] theorem exec_journalSet (p : Packet) (s : State) : exec (.journalSet p) s = execJournalSet p s := rfl
@[simp] theorem exec_storageOpen (p : Packet) (s : State) : exec (.storageOpen p) s = execStorageOpen p s := rfl
@[simp] theorem exec_sweepSet (p : Packet) (s : State) : exec (.sweepSet p) s = execSweepSet p s := rfl
@[simp] theorem exec_transcryptStart (p : Packet) (s : State) : exec (.transcryptStart p) s = execTranscryptStart p s := rfl
@[simp] theorem exec_transcryptCancel (p : Packet) (s : State) : exec (.transcryptCancel p) s = execTranscryptCancel p s := rfl
@[simp] theorem exec_nvmtSet (p : Packet) (s : State) : exec (.nvmtSet p) s = execNvmtSet p s := rfl
@[simp] theorem exec_driveQuery (p : Packet) (s : State) : exec (.driveQuery p) s = execDriveQuery p s := rfl
@[simp] theorem exec_memMarch (p : Packet) (s : State) : exec (.memMarch p) s = execMemMarch p s := rfl
@[simp] theorem exec_memRegionSet (p : Packet) (s : State) : exec (.memRegionSet p) s = execMemRegionSet p s := rfl
@[simp] theorem exec_memErrQuery (p : Packet) (s : State) : exec (.memErrQuery p) s = execMemErrQuery p s := rfl
@[simp] theorem exec_pwrState (p : Packet) (s : State) : exec (.pwrState p) s = execPwrState p s := rfl
@[simp] theorem exec_pwrPolicy (p : Packet) (s : State) : exec (.pwrPolicy p) s = execPwrPolicy p s := rfl
@[simp] theorem exec_dbgNonce (p : Packet) (s : State) : exec (.dbgNonce p) s = execDbgNonce p s := rfl
@[simp] theorem exec_dbgUnlock (p : Packet) (s : State) : exec (.dbgUnlock p) s = execDbgUnlock p s := rfl
@[simp] theorem exec_dbgLock (p : Packet) (s : State) : exec (.dbgLock p) s = execDbgLock p s := rfl
@[simp] theorem exec_dbgLedger (p : Packet) (s : State) : exec (.dbgLedger p) s = execDbgLedger p s := rfl
@[simp] theorem exec_dbgStallPolicy (p : Packet) (s : State) : exec (.dbgStallPolicy p) s = execDbgStallPolicy p s := rfl
@[simp] theorem exec_fwQuery (p : Packet) (s : State) : exec (.fwQuery p) s = execFwQuery p s := rfl
@[simp] theorem exec_fwLoad (p : Packet) (s : State) : exec (.fwLoad p) s = execFwLoad p s := rfl
@[simp] theorem exec_fwActivate (p : Packet) (s : State) : exec (.fwActivate p) s = execFwActivate p s := rfl
@[simp] theorem exec_annexLoad (p : Packet) (s : State) : exec (.annexLoad p) s = execAnnexLoad p s := rfl
@[simp] theorem exec_annexCores (p : Packet) (s : State) : exec (.annexCores p) s = execAnnexCores p s := rfl
@[simp] theorem exec_schedRelease (handle : Nat) (s : State) : exec (.schedRelease handle) s = execSchedRelease handle s := rfl
@[simp] theorem exec_progressEvent (n : Nat) (s : State) : exec (.progressEvent n) s = execProgressEvent n s := rfl
@[simp] theorem exec_frontdoorDoorbell (v : BitVec 64) (s : State) : exec (.frontdoorDoorbell v) s = execFrontdoorDoorbell v s := rfl
@[simp] theorem exec_frontdoorCtrlWrite (v : BitVec 32) (s : State) : exec (.frontdoorCtrlWrite v) s = execFrontdoorCtrlWrite v s := rfl
@[simp] theorem exec_ringDoorbell (ref : Nat) (v : Payload) (s : State) : exec (.ringDoorbell ref v) s = execRingDoorbell ref v s := rfl
@[simp] theorem exec_eventRingDoorbell (room : Fin 1024) (v : Payload) (s : State) : exec (.eventRingDoorbell room v) s = execEventRingDoorbell room v s := rfl
@[simp] theorem exec_ownerDoorbell (v : BitVec 64) (s : State) : exec (.ownerDoorbell v) s = execOwnerDoorbell v s := rfl
@[simp] theorem exec_ownerEventOverflowAck (v : BitVec 32) (s : State) : exec (.ownerEventOverflowAck v) s = execOwnerEventOverflowAck v s := rfl
@[simp] theorem exec_mboxDoorbell (v : BitVec 32) (s : State) : exec (.mboxDoorbell v) s = execMboxDoorbell v s := rfl
@[simp] theorem exec_registerWrite (off : Nat) (wide : Bool) (v : Payload) (s : State) : exec (.registerWrite off wide v) s = execRegisterWrite off wide v s := rfl
@[simp] theorem exec_rcCounterRead (off : Nat) (access : Access) (s : State) : exec (.rcCounterRead off access) s = execRcCounterRead off access s := rfl
@[simp] theorem exec_barBadAccess (read : Bool) (s : State) : exec (.barBadAccess read) s = execBarBadAccess read s := rfl
@[simp] theorem exec_timeNowLatch (s : State) : exec (.timeNowLatch) s = execTimeNowLatch s := rfl
@[simp] theorem exec_timeIncrWrite (v : BitVec 64) (s : State) : exec (.timeIncrWrite v) s = execTimeIncrWrite v s := rfl
@[simp] theorem exec_applyOffset (s : State) : exec (.applyOffset) s = execApplyOffset s := rfl
@[simp] theorem exec_winWrite (s : State) : exec (.winWrite) s = execWinWrite s := rfl
@[simp] theorem exec_winInvalidate (s : State) : exec (.winInvalidate) s = execWinInvalidate s := rfl
@[simp] theorem exec_winRead (s : State) : exec (.winRead) s = execWinRead s := rfl
@[simp] theorem exec_halt (s : State) : exec (.halt) s = execHalt s := rfl
@[simp] theorem exec_resume (s : State) : exec (.resume) s = execResume s := rfl
@[simp] theorem exec_step (s : State) : exec (.step) s = execStep s := rfl
@[simp] theorem exec_reseat (s : State) : exec (.reseat) s = execReseat s := rfl
@[simp] theorem exec_msixTableWrite (vec : Fin 2048) (field : Fin 4) (v : BitVec 32) (s : State) : exec (.msixTableWrite vec field v) s = execMsixTableWrite vec field v s := rfl
@[simp] theorem exec_bmeClear (v : BitVec 16) (s : State) : exec (.bmeClear v) s = execBmeClear v s := rfl
@[simp] theorem exec_bmeSet (v : BitVec 16) (s : State) : exec (.bmeSet v) s = execBmeSet v s := rfl
@[simp] theorem exec_ctoValueWrite (v : BitVec 16) (s : State) : exec (.ctoValueWrite v) s = execCtoValueWrite v s := rfl
@[simp] theorem exec_flrInitiate (s : State) : exec (.flrInitiate) s = execFlrInitiate s := rfl
@[simp] theorem exec_d3hotEntry (v : BitVec 16) (s : State) : exec (.d3hotEntry v) s = execD3hotEntry v s := rfl
@[simp] theorem exec_d0Return (v : BitVec 16) (s : State) : exec (.d0Return v) s = execD0Return v s := rfl
@[simp] theorem exec_completionReceived (tag : Nat) (status : Fin 4) (final : Bool) (s : State) : exec (.completionReceived tag status final) s = execCompletionReceived tag status final s := rfl
@[simp] theorem exec_completionTimeout (tag : Nat) (s : State) : exec (.completionTimeout tag) s = execCompletionTimeout tag s := rfl
@[simp] theorem exec_quarantineEnd (tag : Nat) (s : State) : exec (.quarantineEnd tag) s = execQuarantineEnd tag s := rfl
@[simp] theorem exec_atsTranslationCompletion (room : Nat) (page : Nat) (phys : Option Nat) (s : State) : exec (.atsTranslationCompletion room page phys) s = execAtsTranslationCompletion room page phys s := rfl
@[simp] theorem exec_atsInvalidationRequest (room : Nat) (page : Nat) (pages : Nat) (itag : Nat) (global : Bool) (s : State) : exec (.atsInvalidationRequest room page pages itag global) s = execAtsInvalidationRequest room page pages itag global s := rfl
@[simp] theorem exec_invalidationCompletion (itag : Nat) (s : State) : exec (.invalidationCompletion itag) s = execInvalidationCompletion itag s := rfl
@[simp] theorem exec_doeObjectWrite (bytes : List Byte) (s : State) : exec (.doeObjectWrite bytes) s = execDoeObjectWrite bytes s := rfl
@[simp] theorem exec_doeAbort (s : State) : exec (.doeAbort) s = execDoeAbort s := rfl
@[simp] theorem exec_spdmRequest (bytes : List Byte) (mctp : Bool) (s : State) : exec (.spdmRequest bytes mctp) s = execSpdmRequest bytes mctp s := rfl
@[simp] theorem exec_ideKmMessage (stream : Fin 17) (op : Fin 3) (key : List Byte) (s : State) : exec (.ideKmMessage stream op key) s = execIdeKmMessage stream op key s := rfl
@[simp] theorem exec_ideStreamInsecure (stream : Fin 17) (s : State) : exec (.ideStreamInsecure stream) s = execIdeStreamInsecure stream s := rfl
@[simp] theorem exec_lockInterfaceRequest (room : Fin 1024) (stream : Fin 17) (s : State) : exec (.lockInterfaceRequest room stream) s = execLockInterfaceRequest room stream s := rfl
@[simp] theorem exec_startInterfaceRequest (room : Fin 1024) (s : State) : exec (.startInterfaceRequest room) s = execStartInterfaceRequest room s := rfl
@[simp] theorem exec_stopInterfaceRequest (room : Fin 1024) (s : State) : exec (.stopInterfaceRequest room) s = execStopInterfaceRequest room s := rfl
@[simp] theorem exec_tdiError (room : Fin 1024) (s : State) : exec (.tdiError room) s = execTdiError room s := rfl
@[simp] theorem exec_l0pNarrow (s : State) : exec (.l0pNarrow) s = execL0pNarrow s := rfl
@[simp] theorem exec_l0pWiden (s : State) : exec (.l0pWiden) s = execL0pWiden s := rfl
@[simp] theorem exec_aspmL1Entry (s : State) : exec (.aspmL1Entry) s = execAspmL1Entry s := rfl
@[simp] theorem exec_pmeTurnOff (s : State) : exec (.pmeTurnOff) s = execPmeTurnOff s := rfl
@[simp] theorem exec_perstAssert (s : State) : exec (.perstAssert) s = execPerstAssert s := rfl
@[simp] theorem exec_perstDeassert (s : State) : exec (.perstDeassert) s = execPerstDeassert s := rfl
@[simp] theorem exec_hotReset (s : State) : exec (.hotReset) s = execHotReset s := rfl
@[simp] theorem exec_pcieLinkDown (s : State) : exec (.pcieLinkDown) s = execPcieLinkDown s := rfl
@[simp] theorem exec_mctpMessage (type : BitVec 8) (bytes : List Byte) (s : State) : exec (.mctpMessage type bytes) s = execMctpMessage type bytes s := rfl
@[simp] theorem exec_setEndpointId (eid : BitVec 8) (s : State) : exec (.setEndpointId eid) s = execSetEndpointId eid s := rfl
@[simp] theorem exec_getTid (bytes : List Byte) (s : State) : exec (.getTid bytes) s = execGetTid bytes s := rfl
@[simp] theorem exec_getPldmVersion (bytes : List Byte) (s : State) : exec (.getPldmVersion bytes) s = execGetPldmVersion bytes s := rfl
@[simp] theorem exec_getPldmTypes (bytes : List Byte) (s : State) : exec (.getPldmTypes bytes) s = execGetPldmTypes bytes s := rfl
@[simp] theorem exec_getPldmCommands (bytes : List Byte) (s : State) : exec (.getPldmCommands bytes) s = execGetPldmCommands bytes s := rfl
@[simp] theorem exec_getPdrRepositoryInfo (bytes : List Byte) (s : State) : exec (.getPdrRepositoryInfo bytes) s = execGetPdrRepositoryInfo bytes s := rfl
@[simp] theorem exec_getPdr (bytes : List Byte) (s : State) : exec (.getPdr bytes) s = execGetPdr bytes s := rfl
@[simp] theorem exec_getSensorReading (bytes : List Byte) (s : State) : exec (.getSensorReading bytes) s = execGetSensorReading bytes s := rfl
@[simp] theorem exec_getStateSensorReadings (bytes : List Byte) (s : State) : exec (.getStateSensorReadings bytes) s = execGetStateSensorReadings bytes s := rfl
@[simp] theorem exec_pollForPlatformEventMessage (bytes : List Byte) (s : State) : exec (.pollForPlatformEventMessage bytes) s = execPollForPlatformEventMessage bytes s := rfl
@[simp] theorem exec_pldmSensorUpdate (sensor : Fin 13) (v : Nat) (s : State) : exec (.pldmSensorUpdate sensor v) s = execPldmSensorUpdate sensor v s := rfl
@[simp] theorem exec_smbusTimeoutReset (s : State) : exec (.smbusTimeoutReset) s = execSmbusTimeoutReset s := rfl
@[simp] theorem exec_jtagIdcode (s : State) : exec (.jtagIdcode) s = execJtagIdcode s := rfl
@[simp] theorem exec_jtagBypass (s : State) : exec (.jtagBypass) s = execJtagBypass s := rfl
@[simp] theorem exec_jtagSamplePreload (bytes : List Byte) (s : State) : exec (.jtagSamplePreload bytes) s = execJtagSamplePreload bytes s := rfl
@[simp] theorem exec_jtagExtest (s : State) : exec (.jtagExtest) s = execJtagExtest s := rfl
@[simp] theorem exec_jtagTrst (s : State) : exec (.jtagTrst) s = execJtagTrst s := rfl
@[simp] theorem exec_islandAdopt (island : Fin 18) (s : State) : exec (.islandAdopt island) s = execIslandAdopt island s := rfl
@[simp] theorem exec_genAck (cluster : Fin 4) (s : State) : exec (.genAck cluster) s = execGenAck cluster s := rfl
@[simp] theorem exec_commitStallTimeout (s : State) : exec (.commitStallTimeout) s = execCommitStallTimeout s := rfl
@[simp] theorem exec_generationRetire (s : State) : exec (.generationRetire) s = execGenerationRetire s := rfl
@[simp] theorem exec_rxFrame (port : Fin 4) (bytes : List Byte) (fcsOk : Bool) (corrected : Nat) (uncorrectable : Nat) (s : State) : exec (.rxFrame port bytes fcsOk corrected uncorrectable) s = execRxFrame port bytes fcsOk corrected uncorrectable s := rfl
@[simp] theorem exec_pauseFrameReceive (port : Fin 4) (bytes : List Byte) (s : State) : exec (.pauseFrameReceive port bytes) s = execPauseFrameReceive port bytes s := rfl
@[simp] theorem exec_pauseQuantaExpiry (port : Fin 4) (cls : Fin 8) (s : State) : exec (.pauseQuantaExpiry port cls) s = execPauseQuantaExpiry port cls s := rfl
@[simp] theorem exec_pfcXoffRepeat (port : Fin 4) (cls : Fin 8) (s : State) : exec (.pfcXoffRepeat port cls) s = execPfcXoffRepeat port cls s := rfl
@[simp] theorem exec_linkUp (port : Fin 4) (s : State) : exec (.linkUp port) s = execLinkUp port s := rfl
@[simp] theorem exec_linkDown (port : Fin 4) (fault : Fin 3) (s : State) : exec (.linkDown port fault) s = execLinkDown port fault s := rfl
@[simp] theorem exec_moduleReady (port : Fin 4) (s : State) : exec (.moduleReady port) s = execModuleReady port s := rfl
@[simp] theorem exec_timeRefLost (s : State) : exec (.timeRefLost) s = execTimeRefLost s := rfl
@[simp] theorem exec_timeRefRestored (s : State) : exec (.timeRefRestored) s = execTimeRefRestored s := rfl
@[simp] theorem exec_syncEdge (rising : Bool) (s : State) : exec (.syncEdge rising) s = execSyncEdge rising s := rfl
@[simp] theorem exec_syncWindowClose (s : State) : exec (.syncWindowClose) s = execSyncWindowClose s := rfl
@[simp] theorem exec_periodBoundary (s : State) : exec (.periodBoundary) s = execPeriodBoundary s := rfl
@[simp] theorem exec_gateEntryChange (port : Fin 4) (s : State) : exec (.gateEntryChange port) s = execGateEntryChange port s := rfl
@[simp] theorem exec_ppsPulse (out : Fin 4) (s : State) : exec (.ppsPulse out) s = execPpsPulse out s := rfl
@[simp] theorem exec_ageClockAdvance (s : State) : exec (.ageClockAdvance) s = execAgeClockAdvance s := rfl
@[simp] theorem exec_agingSweep (s : State) : exec (.agingSweep) s = execAgingSweep s := rfl
@[simp] theorem exec_packetParse (n : Nat) (s : State) : exec (.packetParse n) s = execPacketParse n s := rfl
@[simp] theorem exec_flowTableLookupDone (n : Nat) (s : State) : exec (.flowTableLookupDone n) s = execFlowTableLookupDone n s := rfl
@[simp] theorem exec_switchPass (s : State) : exec (.switchPass) s = execSwitchPass s := rfl
@[simp] theorem exec_servicePacket (t : Fin 2048) (s : State) : exec (.servicePacket t) s = execServicePacket t s := rfl
@[simp] theorem exec_backStairPacket (s : State) : exec (.backStairPacket) s = execBackStairPacket s := rfl
@[simp] theorem exec_reasmTimeout (s : State) : exec (.reasmTimeout) s = execReasmTimeout s := rfl
@[simp] theorem exec_tmEnqueue (s : State) : exec (.tmEnqueue) s = execTmEnqueue s := rfl
@[simp] theorem exec_tmScheduleDecision (dest : Fin 6) (s : State) : exec (.tmScheduleDecision dest) s = execTmScheduleDecision dest s := rfl
@[simp] theorem exec_rxHoldLimitExpiry (ref : Nat) (s : State) : exec (.rxHoldLimitExpiry ref) s = execRxHoldLimitExpiry ref s := rfl
@[simp] theorem exec_telemetryVisit (s : State) : exec (.telemetryVisit) s = execTelemetryVisit s := rfl
@[simp] theorem exec_txDescriptor (ref : Nat) (s : State) : exec (.txDescriptor ref) s = execTxDescriptor ref s := rfl
@[simp] theorem exec_rxFrameDelivery (s : State) : exec (.rxFrameDelivery) s = execRxFrameDelivery s := rfl
@[simp] theorem exec_storeWrite (ref : Nat) (s : State) : exec (.storeWrite ref) s = execStoreWrite ref s := rfl
@[simp] theorem exec_storeRead (ref : Nat) (s : State) : exec (.storeRead ref) s = execStoreRead ref s := rfl
@[simp] theorem exec_storeFlush (ref : Nat) (s : State) : exec (.storeFlush ref) s = execStoreFlush ref s := rfl
@[simp] theorem exec_storeDeallocate (ref : Nat) (s : State) : exec (.storeDeallocate ref) s = execStoreDeallocate ref s := rfl
@[simp] theorem exec_storeVerify (ref : Nat) (s : State) : exec (.storeVerify ref) s = execStoreVerify ref s := rfl
@[simp] theorem exec_moderationFire (ref : Nat) (s : State) : exec (.moderationFire ref) s = execModerationFire ref s := rfl
@[simp] theorem exec_heldInterruptRelease (s : State) : exec (.heldInterruptRelease) s = execHeldInterruptRelease s := rfl
@[simp] theorem exec_roomResetDrainEnd (room : Fin 1024) (s : State) : exec (.roomResetDrainEnd room) s = execRoomResetDrainEnd room s := rfl
@[simp] theorem exec_stallSentinelEval (cluster : Fin 4) (s : State) : exec (.stallSentinelEval cluster) s = execStallSentinelEval cluster s := rfl
@[simp] theorem exec_lineMessageDeliver (line : Nat) (s : State) : exec (.lineMessageDeliver line) s = execLineMessageDeliver line s := rfl
@[simp] theorem exec_lendAccept (line : Nat) (s : State) : exec (.lendAccept line) s = execLendAccept line s := rfl
@[simp] theorem exec_hitchGrant (hitch : Nat) (s : State) : exec (.hitchGrant hitch) s = execHitchGrant hitch s := rfl
@[simp] theorem exec_deadlineTimeout (t : Fin 2048) (s : State) : exec (.deadlineTimeout t) s = execDeadlineTimeout t s := rfl
@[simp] theorem exec_parkWake (t : Fin 2048) (s : State) : exec (.parkWake t) s = execParkWake t s := rfl
@[simp] theorem exec_lhReadyChange (up : Bool) (s : State) : exec (.lhReadyChange up) s = execLhReadyChange up s := rfl
@[simp] theorem exec_add (x : Issue) (d : Greg) (a : Greg) (b : Greg) (s : State) : exec (.add x d a b) s = execAdd x d a b s := rfl
@[simp] theorem exec_sub (x : Issue) (d : Greg) (a : Greg) (b : Greg) (s : State) : exec (.sub x d a b) s = execSub x d a b s := rfl
@[simp] theorem exec_and (x : Issue) (d : Greg) (a : Greg) (b : Greg) (s : State) : exec (.and x d a b) s = execAnd x d a b s := rfl
@[simp] theorem exec_or (x : Issue) (d : Greg) (a : Greg) (b : Greg) (s : State) : exec (.or x d a b) s = execOr x d a b s := rfl
@[simp] theorem exec_xor (x : Issue) (d : Greg) (a : Greg) (b : Greg) (s : State) : exec (.xor x d a b) s = execXor x d a b s := rfl
@[simp] theorem exec_shl (x : Issue) (d : Greg) (a : Greg) (b : Greg) (s : State) : exec (.shl x d a b) s = execShl x d a b s := rfl
@[simp] theorem exec_shr (x : Issue) (d : Greg) (a : Greg) (b : Greg) (s : State) : exec (.shr x d a b) s = execShr x d a b s := rfl
@[simp] theorem exec_sra (x : Issue) (d : Greg) (a : Greg) (b : Greg) (s : State) : exec (.sra x d a b) s = execSra x d a b s := rfl
@[simp] theorem exec_mul (x : Issue) (d : Greg) (a : Greg) (b : Greg) (s : State) : exec (.mul x d a b) s = execMul x d a b s := rfl
@[simp] theorem exec_mulhu (x : Issue) (d : Greg) (a : Greg) (b : Greg) (s : State) : exec (.mulhu x d a b) s = execMulhu x d a b s := rfl
@[simp] theorem exec_divu (x : Issue) (d : Greg) (a : Greg) (b : Greg) (s : State) : exec (.divu x d a b) s = execDivu x d a b s := rfl
@[simp] theorem exec_remu (x : Issue) (d : Greg) (a : Greg) (b : Greg) (s : State) : exec (.remu x d a b) s = execRemu x d a b s := rfl
@[simp] theorem exec_clz (x : Issue) (d : Greg) (a : Greg) (s : State) : exec (.clz x d a) s = execClz x d a s := rfl
@[simp] theorem exec_popc (x : Issue) (d : Greg) (a : Greg) (s : State) : exec (.popc x d a) s = execPopc x d a s := rfl
@[simp] theorem exec_bswap (x : Issue) (d : Greg) (a : Greg) (s : State) : exec (.bswap x d a) s = execBswap x d a s := rfl
@[simp] theorem exec_sextb (x : Issue) (d : Greg) (a : Greg) (s : State) : exec (.sextb x d a) s = execSextb x d a s := rfl
@[simp] theorem exec_sexth (x : Issue) (d : Greg) (a : Greg) (s : State) : exec (.sexth x d a) s = execSexth x d a s := rfl
@[simp] theorem exec_sextw (x : Issue) (d : Greg) (a : Greg) (s : State) : exec (.sextw x d a) s = execSextw x d a s := rfl
@[simp] theorem exec_addi (x : Issue) (d : Greg) (a : Greg) (imm : BitVec 12) (s : State) : exec (.addi x d a imm) s = execAddi x d a imm s := rfl
@[simp] theorem exec_andi (x : Issue) (d : Greg) (a : Greg) (imm : BitVec 12) (s : State) : exec (.andi x d a imm) s = execAndi x d a imm s := rfl
@[simp] theorem exec_ori (x : Issue) (d : Greg) (a : Greg) (imm : BitVec 12) (s : State) : exec (.ori x d a imm) s = execOri x d a imm s := rfl
@[simp] theorem exec_xori (x : Issue) (d : Greg) (a : Greg) (imm : BitVec 12) (s : State) : exec (.xori x d a imm) s = execXori x d a imm s := rfl
@[simp] theorem exec_shli (x : Issue) (d : Greg) (a : Greg) (n : BitVec 6) (s : State) : exec (.shli x d a n) s = execShli x d a n s := rfl
@[simp] theorem exec_shri (x : Issue) (d : Greg) (a : Greg) (n : BitVec 6) (s : State) : exec (.shri x d a n) s = execShri x d a n s := rfl
@[simp] theorem exec_srai (x : Issue) (d : Greg) (a : Greg) (n : BitVec 6) (s : State) : exec (.srai x d a n) s = execSrai x d a n s := rfl
@[simp] theorem exec_ldi (x : Issue) (d : Greg) (imm : BitVec 17) (s : State) : exec (.ldi x d imm) s = execLdi x d imm s := rfl
@[simp] theorem exec_lsh16 (x : Issue) (d : Greg) (imm : BitVec 16) (s : State) : exec (.lsh16 x d imm) s = execLsh16 x d imm s := rfl
@[simp] theorem exec_cmpEq (x : Issue) (d : Preg) (a : Greg) (b : Greg) (s : State) : exec (.cmpEq x d a b) s = execCmpEq x d a b s := rfl
@[simp] theorem exec_cmpNe (x : Issue) (d : Preg) (a : Greg) (b : Greg) (s : State) : exec (.cmpNe x d a b) s = execCmpNe x d a b s := rfl
@[simp] theorem exec_cmpLtu (x : Issue) (d : Preg) (a : Greg) (b : Greg) (s : State) : exec (.cmpLtu x d a b) s = execCmpLtu x d a b s := rfl
@[simp] theorem exec_cmpLts (x : Issue) (d : Preg) (a : Greg) (b : Greg) (s : State) : exec (.cmpLts x d a b) s = execCmpLts x d a b s := rfl
@[simp] theorem exec_cmpGeu (x : Issue) (d : Preg) (a : Greg) (b : Greg) (s : State) : exec (.cmpGeu x d a b) s = execCmpGeu x d a b s := rfl
@[simp] theorem exec_cmpGes (x : Issue) (d : Preg) (a : Greg) (b : Greg) (s : State) : exec (.cmpGes x d a b) s = execCmpGes x d a b s := rfl
@[simp] theorem exec_cmpTest (x : Issue) (d : Preg) (a : Greg) (b : Greg) (s : State) : exec (.cmpTest x d a b) s = execCmpTest x d a b s := rfl
@[simp] theorem exec_cmpiEq (x : Issue) (d : Preg) (a : Greg) (imm : BitVec 12) (s : State) : exec (.cmpiEq x d a imm) s = execCmpiEq x d a imm s := rfl
@[simp] theorem exec_cmpiNe (x : Issue) (d : Preg) (a : Greg) (imm : BitVec 12) (s : State) : exec (.cmpiNe x d a imm) s = execCmpiNe x d a imm s := rfl
@[simp] theorem exec_cmpiLts (x : Issue) (d : Preg) (a : Greg) (imm : BitVec 12) (s : State) : exec (.cmpiLts x d a imm) s = execCmpiLts x d a imm s := rfl
@[simp] theorem exec_cmpiLtu (x : Issue) (d : Preg) (a : Greg) (imm : BitVec 12) (s : State) : exec (.cmpiLtu x d a imm) s = execCmpiLtu x d a imm s := rfl
@[simp] theorem exec_pand (x : Issue) (d : Preg) (a : Preg) (b : Preg) (s : State) : exec (.pand x d a b) s = execPand x d a b s := rfl
@[simp] theorem exec_por (x : Issue) (d : Preg) (a : Preg) (b : Preg) (s : State) : exec (.por x d a b) s = execPor x d a b s := rfl
@[simp] theorem exec_pxor (x : Issue) (d : Preg) (a : Preg) (b : Preg) (s : State) : exec (.pxor x d a b) s = execPxor x d a b s := rfl
@[simp] theorem exec_pnot (x : Issue) (d : Preg) (a : Preg) (s : State) : exec (.pnot x d a) s = execPnot x d a s := rfl
@[simp] theorem exec_pget (x : Issue) (d : Greg) (s : State) : exec (.pget x d) s = execPget x d s := rfl
@[simp] theorem exec_pset (x : Issue) (a : Greg) (s : State) : exec (.pset x a) s = execPset x a s := rfl
@[simp] theorem exec_j (x : Issue) (off : BitVec 22) (s : State) : exec (.j x off) s = execJ x off s := rfl
@[simp] theorem exec_jal (x : Issue) (off : BitVec 22) (s : State) : exec (.jal x off) s = execJal x off s := rfl
@[simp] theorem exec_jr (x : Issue) (d : Greg) (a : Greg) (s : State) : exec (.jr x d a) s = execJr x d a s := rfl
@[simp] theorem exec_ldb (x : Issue) (d : Greg) (a : Greg) (imm : BitVec 12) (s : State) : exec (.ldb x d a imm) s = execLdb x d a imm s := rfl
@[simp] theorem exec_ldh (x : Issue) (d : Greg) (a : Greg) (imm : BitVec 12) (s : State) : exec (.ldh x d a imm) s = execLdh x d a imm s := rfl
@[simp] theorem exec_ldw (x : Issue) (d : Greg) (a : Greg) (imm : BitVec 12) (s : State) : exec (.ldw x d a imm) s = execLdw x d a imm s := rfl
@[simp] theorem exec_ldd (x : Issue) (d : Greg) (a : Greg) (imm : BitVec 12) (s : State) : exec (.ldd x d a imm) s = execLdd x d a imm s := rfl
@[simp] theorem exec_stb (x : Issue) (b : Greg) (a : Greg) (imm : BitVec 12) (s : State) : exec (.stb x b a imm) s = execStb x b a imm s := rfl
@[simp] theorem exec_sth (x : Issue) (b : Greg) (a : Greg) (imm : BitVec 12) (s : State) : exec (.sth x b a imm) s = execSth x b a imm s := rfl
@[simp] theorem exec_stw (x : Issue) (b : Greg) (a : Greg) (imm : BitVec 12) (s : State) : exec (.stw x b a imm) s = execStw x b a imm s := rfl
@[simp] theorem exec_std (x : Issue) (b : Greg) (a : Greg) (imm : BitVec 12) (s : State) : exec (.std x b a imm) s = execStd x b a imm s := rfl
@[simp] theorem exec_vld (x : Issue) (d : Vreg) (a : Greg) (imm : BitVec 12) (s : State) : exec (.vld x d a imm) s = execVld x d a imm s := rfl
@[simp] theorem exec_vst (x : Issue) (b : Vreg) (a : Greg) (imm : BitVec 12) (s : State) : exec (.vst x b a imm) s = execVst x b a imm s := rfl
@[simp] theorem exec_aadd (x : Issue) (d : Greg) (a : Greg) (b : Greg) (s : State) : exec (.aadd x d a b) s = execAadd x d a b s := rfl
@[simp] theorem exec_aswp (x : Issue) (d : Greg) (a : Greg) (b : Greg) (s : State) : exec (.aswp x d a b) s = execAswp x d a b s := rfl
@[simp] theorem exec_acas (x : Issue) (d : Greg) (a : Greg) (b : Greg) (s : State) : exec (.acas x d a b) s = execAcas x d a b s := rfl
@[simp] theorem exec_lput (x : Issue) (d : Greg) (a : Greg) (b : Vreg) (s : State) : exec (.lput x d a b) s = execLput x d a b s := rfl
@[simp] theorem exec_lend (x : Issue) (d : Greg) (a : Greg) (b : Vreg) (s : State) : exec (.lend x d a b) s = execLend x d a b s := rfl
@[simp] theorem exec_lendt (x : Issue) (d : Greg) (a : Greg) (b : Vreg) (s : State) : exec (.lendt x d a b) s = execLendt x d a b s := rfl
@[simp] theorem exec_ldrop (x : Issue) (d : Greg) (s : State) : exec (.ldrop x d) s = execLdrop x d s := rfl
@[simp] theorem exec_lget (x : Issue) (d : Greg) (a : Greg) (s : State) : exec (.lget x d a) s = execLget x d a s := rfl
@[simp] theorem exec_lgetd (x : Issue) (d : Greg) (a : Greg) (b : Greg) (s : State) : exec (.lgetd x d a b) s = execLgetd x d a b s := rfl
@[simp] theorem exec_ltry (x : Issue) (d : Greg) (a : Greg) (s : State) : exec (.ltry x d a) s = execLtry x d a s := rfl
@[simp] theorem exec_htie (x : Issue) (d : Greg) (a : Greg) (s : State) : exec (.htie x d a) s = execHtie x d a s := rfl
@[simp] theorem exec_htied (x : Issue) (d : Greg) (a : Greg) (b : Greg) (s : State) : exec (.htied x d a b) s = execHtied x d a b s := rfl
@[simp] theorem exec_huntie (x : Issue) (d : Greg) (a : Greg) (s : State) : exec (.huntie x d a) s = execHuntie x d a s := rfl
@[simp] theorem exec_htry (x : Issue) (d : Greg) (a : Greg) (s : State) : exec (.htry x d a) s = execHtry x d a s := rfl
@[simp] theorem exec_tput (x : Issue) (v : Vreg) (tile : TileNo) (s : State) : exec (.tput x v tile) s = execTput x v tile s := rfl
@[simp] theorem exec_tend (x : Issue) (d : Greg) (v : Vreg) (tile : TileNo) (s : State) : exec (.tend x d v tile) s = execTend x d v tile s := rfl
@[simp] theorem exec_tendt (x : Issue) (d : Greg) (v : Vreg) (tile : TileNo) (s : State) : exec (.tendt x d v tile) s = execTendt x d v tile s := rfl
@[simp] theorem exec_park (x : Issue) (a : Greg) (s : State) : exec (.park x a) s = execPark x a s := rfl
@[simp] theorem exec_yield (x : Issue) (s : State) : exec (.yield x) s = execYield x s := rfl
@[simp] theorem exec_timens (x : Issue) (d : Greg) (s : State) : exec (.timens x d) s = execTimens x d s := rfl
@[simp] theorem exec_brk (x : Issue) (s : State) : exec (.brk x) s = execBrk x s := rfl
@[simp] theorem exec_treseat (x : Issue) (a : Greg) (s : State) : exec (.treseat x a) s = execTreseat x a s := rfl
@[simp] theorem exec_iflush (x : Issue) (s : State) : exec (.iflush x) s = execIflush x s := rfl
@[simp] theorem exec_fence (x : Issue) (s : State) : exec (.fence x) s = execFence x s := rfl
@[simp] theorem exec_mfs (x : Issue) (d : Greg) (n : BitVec 12) (s : State) : exec (.mfs x d n) s = execMfs x d n s := rfl
@[simp] theorem exec_mts (x : Issue) (a : Greg) (n : BitVec 12) (s : State) : exec (.mts x a n) s = execMts x a n s := rfl
@[simp] theorem exec_vxor (x : Issue) (d : Vreg) (a : Vreg) (b : Vreg) (s : State) : exec (.vxor x d a b) s = execVxor x d a b s := rfl
@[simp] theorem exec_vand (x : Issue) (d : Vreg) (a : Vreg) (b : Vreg) (s : State) : exec (.vand x d a b) s = execVand x d a b s := rfl
@[simp] theorem exec_vor (x : Issue) (d : Vreg) (a : Vreg) (b : Vreg) (s : State) : exec (.vor x d a b) s = execVor x d a b s := rfl
@[simp] theorem exec_vandn (x : Issue) (d : Vreg) (a : Vreg) (b : Vreg) (s : State) : exec (.vandn x d a b) s = execVandn x d a b s := rfl
@[simp] theorem exec_vxor3 (x : Issue) (d : Vreg) (a : Vreg) (b : Vreg) (s : State) : exec (.vxor3 x d a b) s = execVxor3 x d a b s := rfl
@[simp] theorem exec_vadd_8 (x : Issue) (d : Vreg) (a : Vreg) (b : Vreg) (s : State) : exec (.vadd_8 x d a b) s = execVadd_8 x d a b s := rfl
@[simp] theorem exec_vadd_16 (x : Issue) (d : Vreg) (a : Vreg) (b : Vreg) (s : State) : exec (.vadd_16 x d a b) s = execVadd_16 x d a b s := rfl
@[simp] theorem exec_vadd_32 (x : Issue) (d : Vreg) (a : Vreg) (b : Vreg) (s : State) : exec (.vadd_32 x d a b) s = execVadd_32 x d a b s := rfl
@[simp] theorem exec_vadd_64 (x : Issue) (d : Vreg) (a : Vreg) (b : Vreg) (s : State) : exec (.vadd_64 x d a b) s = execVadd_64 x d a b s := rfl
@[simp] theorem exec_vsub_8 (x : Issue) (d : Vreg) (a : Vreg) (b : Vreg) (s : State) : exec (.vsub_8 x d a b) s = execVsub_8 x d a b s := rfl
@[simp] theorem exec_vsub_16 (x : Issue) (d : Vreg) (a : Vreg) (b : Vreg) (s : State) : exec (.vsub_16 x d a b) s = execVsub_16 x d a b s := rfl
@[simp] theorem exec_vsub_32 (x : Issue) (d : Vreg) (a : Vreg) (b : Vreg) (s : State) : exec (.vsub_32 x d a b) s = execVsub_32 x d a b s := rfl
@[simp] theorem exec_vsub_64 (x : Issue) (d : Vreg) (a : Vreg) (b : Vreg) (s : State) : exec (.vsub_64 x d a b) s = execVsub_64 x d a b s := rfl
@[simp] theorem exec_vclmul (x : Issue) (d : Vpair) (a : Vreg) (b : Vreg) (s : State) : exec (.vclmul x d a b) s = execVclmul x d a b s := rfl
@[simp] theorem exec_vclmulG (x : Issue) (d : Vpair) (a : Vreg) (b : Vreg) (s : State) : exec (.vclmulG x d a b) s = execVclmulG x d a b s := rfl
@[simp] theorem exec_vgfred (x : Issue) (d : Vreg) (a : Vpair) (s : State) : exec (.vgfred x d a) s = execVgfred x d a s := rfl
@[simp] theorem exec_vgfredG (x : Issue) (d : Vreg) (a : Vpair) (s : State) : exec (.vgfredG x d a) s = execVgfredG x d a s := rfl
@[simp] theorem exec_vgfx (x : Issue) (d : Vreg) (a : Vreg) (n : BitVec 5) (s : State) : exec (.vgfx x d a n) s = execVgfx x d a n s := rfl
@[simp] theorem exec_vgfxG (x : Issue) (d : Vreg) (a : Vreg) (n : BitVec 5) (s : State) : exec (.vgfxG x d a n) s = execVgfxG x d a n s := rfl
@[simp] theorem exec_vgf8mul (x : Issue) (d : Vreg) (a : Vreg) (b : Vreg) (s : State) : exec (.vgf8mul x d a b) s = execVgf8mul x d a b s := rfl
@[simp] theorem exec_vgf8mac (x : Issue) (d : Vreg) (a : Vreg) (b : Vreg) (s : State) : exec (.vgf8mac x d a b) s = execVgf8mac x d a b s := rfl
@[simp] theorem exec_vgf8muls (x : Issue) (d : Vreg) (a : Vreg) (b : Greg) (s : State) : exec (.vgf8muls x d a b) s = execVgf8muls x d a b s := rfl
@[simp] theorem exec_vgf8macs (x : Issue) (d : Vreg) (a : Vreg) (b : Greg) (s : State) : exec (.vgf8macs x d a b) s = execVgf8macs x d a b s := rfl
@[simp] theorem exec_vfold (x : Issue) (d : Vreg) (a : Vreg) (s : State) : exec (.vfold x d a) s = execVfold x d a s := rfl
@[simp] theorem exec_vctr32 (x : Issue) (d : Vreg) (a : Vreg) (b : Greg) (s : State) : exec (.vctr32 x d a b) s = execVctr32 x d a b s := rfl
@[simp] theorem exec_vctr128 (x : Issue) (d : Vreg) (a : Vreg) (b : Greg) (s : State) : exec (.vctr128 x d a b) s = execVctr128 x d a b s := rfl
@[simp] theorem exec_vtageq (x : Issue) (d : Preg) (a : Vreg) (b : Vreg) (s : State) : exec (.vtageq x d a b) s = execVtageq x d a b s := rfl
@[simp] theorem exec_vmvg (x : Issue) (d : Greg) (a : Vreg) (e : Fin 8) (s : State) : exec (.vmvg x d a e) s = execVmvg x d a e s := rfl
@[simp] theorem exec_vmvv (x : Issue) (d : Vreg) (a : Greg) (e : Fin 8) (s : State) : exec (.vmvv x d a e) s = execVmvv x d a e s := rfl
@[simp] theorem exec_vbcast (x : Issue) (d : Vreg) (a : Greg) (s : State) : exec (.vbcast x d a) s = execVbcast x d a s := rfl
@[simp] theorem exec_vshuf (x : Issue) (d : Vreg) (a : Vreg) (b : Vreg) (s : State) : exec (.vshuf x d a b) s = execVshuf x d a b s := rfl
@[simp] theorem exec_vbswap128 (x : Issue) (d : Vreg) (a : Vreg) (s : State) : exec (.vbswap128 x d a) s = execVbswap128 x d a s := rfl
@[simp] theorem exec_vzero (x : Issue) (d : Vreg) (s : State) : exec (.vzero x d) s = execVzero x d s := rfl
@[simp] theorem exec_lhdr (x : Issue) (d : Vreg) (a : Greg) (s : State) : exec (.lhdr x d a) s = execLhdr x d a s := rfl
@[simp] theorem exec_aesFwd (tile : Fin 40) (s : State) : exec (.aesFwd tile) s = execAesFwd tile s := rfl
@[simp] theorem exec_aesInv (tile : Fin 40) (s : State) : exec (.aesInv tile) s = execAesInv tile s := rfl
@[simp] theorem exec_keyPrefetch (tile : Fin 40) (s : State) : exec (.keyPrefetch tile) s = execKeyPrefetch tile s := rfl
@[simp] theorem exec_digestSha256 (tile : Fin 40) (s : State) : exec (.digestSha256 tile) s = execDigestSha256 tile s := rfl
@[simp] theorem exec_digestSha512 (tile : Fin 40) (s : State) : exec (.digestSha512 tile) s = execDigestSha512 tile s := rfl
@[simp] theorem exec_keccakAbsorb (tile : Fin 40) (s : State) : exec (.keccakAbsorb tile) s = execKeccakAbsorb tile s := rfl
@[simp] theorem exec_keccakSqueeze (tile : Fin 40) (s : State) : exec (.keccakSqueeze tile) s = execKeccakSqueeze tile s := rfl
@[simp] theorem exec_digestDual (tile : Fin 40) (s : State) : exec (.digestDual tile) s = execDigestDual tile s := rfl
@[simp] theorem exec_tileBurst (tile : Fin 40) (s : State) : exec (.tileBurst tile) s = execTileBurst tile s := rfl
@[simp] theorem exec_tileResponseDeliver (tile : Fin 40) (s : State) : exec (.tileResponseDeliver tile) s = execTileResponseDeliver tile s := rfl
@[simp] theorem exec_tileInternalError (tile : Fin 40) (s : State) : exec (.tileInternalError tile) s = execTileInternalError tile s := rfl
@[simp] theorem exec_tileRestart (tile : Fin 40) (s : State) : exec (.tileRestart tile) s = execTileRestart tile s := rfl
@[simp] theorem exec_strongroomLease (tile : Fin 40) (s : State) : exec (.strongroomLease tile) s = execStrongroomLease tile s := rfl
@[simp] theorem exec_keyScheduleLoad (tile : Fin 40) (s : State) : exec (.keyScheduleLoad tile) s = execKeyScheduleLoad tile s := rfl
@[simp] theorem exec_vaultPersist (s : State) : exec (.vaultPersist) s = execVaultPersist s := rfl
@[simp] theorem exec_knotSign (s : State) : exec (.knotSign) s = execKnotSign s := rfl
@[simp] theorem exec_bottomTreeBuild (s : State) : exec (.bottomTreeBuild) s = execBottomTreeBuild s := rfl
@[simp] theorem exec_sealAutoNew (s : State) : exec (.sealAutoNew) s = execSealAutoNew s := rfl
@[simp] theorem exec_drbgReseed (s : State) : exec (.drbgReseed) s = execDrbgReseed s := rfl
@[simp] theorem exec_entropyHealthFail (s : State) : exec (.entropyHealthFail) s = execEntropyHealthFail s := rfl
@[simp] theorem exec_importHandleExpiry (s : State) : exec (.importHandleExpiry) s = execImportHandleExpiry s := rfl
@[simp] theorem exec_nonceExpiry (s : State) : exec (.nonceExpiry) s = execNonceExpiry s := rfl
@[simp] theorem exec_trialTimeout (s : State) : exec (.trialTimeout) s = execTrialTimeout s := rfl
@[simp] theorem exec_imageReady (s : State) : exec (.imageReady) s = execImageReady s := rfl
@[simp] theorem exec_codeRegionCheck (ok : Bool) (s : State) : exec (.codeRegionCheck ok) s = execCodeRegionCheck ok s := rfl
@[simp] theorem exec_placeConfirm (s : State) : exec (.placeConfirm) s = execPlaceConfirm s := rfl
@[simp] theorem exec_epochClose (s : State) : exec (.epochClose) s = execEpochClose s := rfl
@[simp] theorem exec_knotPublish (s : State) : exec (.knotPublish) s = execKnotPublish s := rfl
@[simp] theorem exec_epochLogPersist (s : State) : exec (.epochLogPersist) s = execEpochLogPersist s := rfl
@[simp] theorem exec_driveCompletion (drive : Fin 64) (id : Nat) (status : Nat) (data : List Byte) (s : State) : exec (.driveCompletion drive id status data) s = execDriveCompletion drive id status data s := rfl
@[simp] theorem exec_journalBlockSubmit (s : State) : exec (.journalBlockSubmit) s = execJournalBlockSubmit s := rfl
@[simp] theorem exec_mapCheckpoint (s : State) : exec (.mapCheckpoint) s = execMapCheckpoint s := rfl
@[simp] theorem exec_driveCmdTimeout (drive : Fin 64) (id : Nat) (s : State) : exec (.driveCmdTimeout drive id) s = execDriveCmdTimeout drive id s := rfl
@[simp] theorem exec_controllerReset (drive : Fin 64) (s : State) : exec (.controllerReset drive) s = execControllerReset drive s := rfl
@[simp] theorem exec_controllerReadyTimeout (drive : Fin 64) (s : State) : exec (.controllerReadyTimeout drive) s = execControllerReadyTimeout drive s := rfl
@[simp] theorem exec_driveEnumeration (found : List DriveInfo) (s : State) : exec (.driveEnumeration found) s = execDriveEnumeration found s := rfl
@[simp] theorem exec_driveHotAdd (info : DriveInfo) (s : State) : exec (.driveHotAdd info) s = execDriveHotAdd info s := rfl
@[simp] theorem exec_driveRemoval (drive : Fin 64) (s : State) : exec (.driveRemoval drive) s = execDriveRemoval drive s := rfl
@[simp] theorem exec_driveAsyncEvent (drive : Fin 64) (warning : BitVec 8) (s : State) : exec (.driveAsyncEvent drive warning) s = execDriveAsyncEvent drive warning s := rfl
@[simp] theorem exec_driveInboundRequest (drive : Fin 64) (addr : Nat) (len : Nat) (posted : Bool) (s : State) : exec (.driveInboundRequest drive addr len posted) s = execDriveInboundRequest drive addr len posted s := rfl
@[simp] theorem exec_journalResync (s : State) : exec (.journalResync) s = execJournalResync s := rfl
@[simp] theorem exec_rebuildExtent (vol : Fin 256) (s : State) : exec (.rebuildExtent vol) s = execRebuildExtent vol s := rfl
@[simp] theorem exec_sweepCycleStart (vol : Fin 256) (s : State) : exec (.sweepCycleStart vol) s = execSweepCycleStart vol s := rfl
@[simp] theorem exec_sweepExtent (vol : Fin 256) (s : State) : exec (.sweepExtent vol) s = execSweepExtent vol s := rfl
@[simp] theorem exec_transcryptExtent (n : Fin 16) (data : Option (List Byte)) (s : State) : exec (.transcryptExtent n data) s = execTranscryptExtent n data s := rfl
@[simp] theorem exec_batchCursorPersist (s : State) : exec (.batchCursorPersist) s = execBatchCursorPersist s := rfl
@[simp] theorem exec_backgroundDeallocate (s : State) : exec (.backgroundDeallocate) s = execBackgroundDeallocate s := rfl
@[simp] theorem exec_storageStartup (s : State) : exec (.storageStartup) s = execStorageStartup s := rfl
@[simp] theorem exec_replayInPlace (s : State) : exec (.replayInPlace) s = execReplayInPlace s := rfl
@[simp] theorem exec_nvmtConnectionOpen (init : Bool) (index : Fin 4096) (remote : List Byte) (port : BitVec 16) (t : Fin 2048) (subsys : BitVec 16) (host : Fin 4096) (queue : Fin 65) (ctrl : Nat) (s : State) : exec (.nvmtConnectionOpen init index remote port t subsys host queue ctrl) s = execNvmtConnectionOpen init index remote port t subsys host queue ctrl s := rfl
@[simp] theorem exec_nvmtTlsHandshake (c : Nat) (ident : List Byte) (ok : Bool) (s : State) : exec (.nvmtTlsHandshake c ident ok) s = execNvmtTlsHandshake c ident ok s := rfl
@[simp] theorem exec_nvmtPduError (c : Nat) (digest : Bool) (s : State) : exec (.nvmtPduError c digest) s = execNvmtPduError c digest s := rfl
@[simp] theorem exec_tcpRetransmitTimeout (c : Nat) (s : State) : exec (.tcpRetransmitTimeout c) s = execTcpRetransmitTimeout c s := rfl
@[simp] theorem exec_tcpProgressTimeout (c : Nat) (s : State) : exec (.tcpProgressTimeout c) s = execTcpProgressTimeout c s := rfl
@[simp] theorem exec_nvmtIdentify (c : Nat) (sqe : List Byte) (s : State) : exec (.nvmtIdentify c sqe) s = execNvmtIdentify c sqe s := rfl
@[simp] theorem exec_nvmtGetLogPage (c : Nat) (sqe : List Byte) (s : State) : exec (.nvmtGetLogPage c sqe) s = execNvmtGetLogPage c sqe s := rfl
@[simp] theorem exec_nvmtGetFeatures (c : Nat) (sqe : List Byte) (s : State) : exec (.nvmtGetFeatures c sqe) s = execNvmtGetFeatures c sqe s := rfl
@[simp] theorem exec_nvmtSetFeatures (c : Nat) (sqe : List Byte) (s : State) : exec (.nvmtSetFeatures c sqe) s = execNvmtSetFeatures c sqe s := rfl
@[simp] theorem exec_nvmtKeepAlive (c : Nat) (sqe : List Byte) (s : State) : exec (.nvmtKeepAlive c sqe) s = execNvmtKeepAlive c sqe s := rfl
@[simp] theorem exec_nvmtAsyncEventRequest (c : Nat) (sqe : List Byte) (s : State) : exec (.nvmtAsyncEventRequest c sqe) s = execNvmtAsyncEventRequest c sqe s := rfl
@[simp] theorem exec_nvmtRead (c : Nat) (sqe : List Byte) (s : State) : exec (.nvmtRead c sqe) s = execNvmtRead c sqe s := rfl
@[simp] theorem exec_nvmtWrite (c : Nat) (sqe : List Byte) (data : List Byte) (s : State) : exec (.nvmtWrite c sqe data) s = execNvmtWrite c sqe data s := rfl
@[simp] theorem exec_nvmtFlush (c : Nat) (sqe : List Byte) (s : State) : exec (.nvmtFlush c sqe) s = execNvmtFlush c sqe s := rfl
@[simp] theorem exec_nvmtDeallocate (c : Nat) (sqe : List Byte) (data : List Byte) (s : State) : exec (.nvmtDeallocate c sqe data) s = execNvmtDeallocate c sqe data s := rfl
@[simp] theorem exec_scrubPass (addr : Nat) (kind : Fin 3) (s : State) : exec (.scrubPass addr kind) s = execScrubPass addr kind s := rfl
@[simp] theorem exec_zeroFillChunk (chunk : Nat) (s : State) : exec (.zeroFillChunk chunk) s = execZeroFillChunk chunk s := rfl
@[simp] theorem exec_gddr6Recalibrate (s : State) : exec (.gddr6Recalibrate) s = execGddr6Recalibrate s := rfl
@[simp] theorem exec_ladderDescend (s : State) : exec (.ladderDescend) s = execLadderDescend s := rfl
@[simp] theorem exec_ladderWake (cause : Fin 8) (s : State) : exec (.ladderWake cause) s = execLadderWake cause s := rfl
@[simp] theorem exec_wakeAtTimer (s : State) : exec (.wakeAtTimer) s = execWakeAtTimer s := rfl
@[simp] theorem exec_hibernateTimer (s : State) : exec (.hibernateTimer) s = execHibernateTimer s := rfl
@[simp] theorem exec_powerGroupTimeout (group : Fin 5) (s : State) : exec (.powerGroupTimeout group) s = execPowerGroupTimeout group s := rfl
@[simp] theorem exec_pwrGoodFall (group : Fin 5) (s : State) : exec (.pwrGoodFall group) s = execPwrGoodFall group s := rfl
@[simp] theorem exec_powerRetry (s : State) : exec (.powerRetry) s = execPowerRetry s := rfl
@[simp] theorem exec_vsbDipStart (mv : Nat) (s : State) : exec (.vsbDipStart mv) s = execVsbDipStart mv s := rfl
@[simp] theorem exec_vsbDipEnd (mv : Nat) (s : State) : exec (.vsbDipEnd mv) s = execVsbDipEnd mv s := rfl
@[simp] theorem exec_vsbBrownout (mv : Nat) (s : State) : exec (.vsbBrownout mv) s = execVsbBrownout mv s := rfl
@[simp] theorem exec_brownoutRelease (s : State) : exec (.brownoutRelease) s = execBrownoutRelease s := rfl
@[simp] theorem exec_vsbFirstApply (s : State) : exec (.vsbFirstApply) s = execVsbFirstApply s := rfl
@[simp] theorem exec_coldStart (bif' : Fin 4) (s : State) : exec (.coldStart bif') s = execColdStart bif' s := rfl
@[simp] theorem exec_thermalSample (island : Fin 18) (temp : BitVec 10) (watts : Nat) (s : State) : exec (.thermalSample island temp watts) s = execThermalSample island temp watts s := rfl
@[simp] theorem exec_thermtripRelease (s : State) : exec (.thermtripRelease) s = execThermtripRelease s := rfl
@[simp] theorem exec_avsCurrentRead (ok : Bool) (amps : Nat) (s : State) : exec (.avsCurrentRead ok amps) s = execAvsCurrentRead ok amps s := rfl
@[simp] theorem exec_coreRetireTimeout (core : Fin 256) (s : State) : exec (.coreRetireTimeout core) s = execCoreRetireTimeout core s := rfl
@[simp] theorem exec_corridorAckTimeout (s : State) : exec (.corridorAckTimeout) s = execCorridorAckTimeout s := rfl
@[simp] theorem exec_clusterFault (cluster : Fin 4) (s : State) : exec (.clusterFault cluster) s = execClusterFault cluster s := rfl
@[simp] theorem exec_deviceFault (s : State) : exec (.deviceFault) s = execDeviceFault s := rfl
@[simp] theorem exec_dataLinkUp (rate : Fin 8) (lanes : Fin 17) (flit : Bool) (s : State) : exec (.dataLinkUp rate lanes flit) s = execDataLinkUp rate lanes flit s := rfl
@[simp] theorem exec_msixControlWrite (v : BitVec 16) (s : State) : exec (.msixControlWrite v) s = execMsixControlWrite v s := rfl
@[simp] theorem exec_malformedTlp (kind : Fin 3) (s : State) : exec (.malformedTlp kind) s = execMalformedTlp kind s := rfl
@[simp] theorem exec_receiverError (kind : Fin 3) (s : State) : exec (.receiverError kind) s = execReceiverError kind s := rfl
@[simp] theorem exec_replayTimerTimeout (s : State) : exec (.replayTimerTimeout) s = execReplayTimerTimeout s := rfl
@[simp] theorem exec_unsupportedRequest (s : State) : exec (.unsupportedRequest) s = execUnsupportedRequest s := rfl
@[simp] theorem exec_noCommonAbility (port : Fin 4) (s : State) : exec (.noCommonAbility port) s = execNoCommonAbility port s := rfl
@[simp] theorem exec_keepAliveTimerExpiry (ctrl : Nat) (s : State) : exec (.keepAliveTimerExpiry ctrl) s = execKeepAliveTimerExpiry ctrl s := rfl
@[simp] theorem exec_marchRunEnd (faults : List Nat) (skipped : Nat) (s : State) : exec (.marchRunEnd faults skipped) s = execMarchRunEnd faults skipped s := rfl
@[simp] theorem exec_sealKeyPairBuilt (s : State) : exec (.sealKeyPairBuilt) s = execSealKeyPairBuilt s := rfl
@[simp] theorem exec_imageSectionLoaded (s : State) : exec (.imageSectionLoaded) s = execImageSectionLoaded s := rfl
@[simp] theorem exec_codeReloadEnd (s : State) : exec (.codeReloadEnd) s = execCodeReloadEnd s := rfl
@[simp] theorem exec_jtagDebugAccess (kind : Fin 4) (write : Bool) (addr : Nat) (v : BitVec 64) (s : State) : exec (.jtagDebugAccess kind write addr v) s = execJtagDebugAccess kind write addr v s := rfl

end Sys2Proof.Machine
end

