-- ==== Sys2Proof/Laws/Commands.lean ====
section
/-!
SUPPORT. What taking an Ehrenan command can do, said once for every command of the opcode table.
-/

namespace Sys2Proof.Machine

/-- A packet that begins at once ends as its command's body says. -/
theorem Command.accept_starts {c : Command} {p : Packet} {s : State} (h : c.starts p s) :
    c.accept p s = match c.body (c.context p) s with
      | .done st data u => c.ends p u st data
      | .part st data u => c.ends p u st data true
      | .held u => u.goesOn := by
  obtain ⟨h1, hb, h2, h3, h4⟩ := h
  simp only [Command.accept, h1, hb, Bool.not_true, Bool.false_eq_true, if_false, Command.submit, h2, h3, Command.run, h4, Command.context, Command.ends, State.goesOn]
  cases c.body ⟨c.opcode, p.scoped, .now⟩ s <;> simp [State.finish]

/-- A body that ends, ends the command. -/
theorem Command.accept_done {c : Command} {p : Packet} {s u : State} {st : Status} {data : List Byte} (h : c.starts p s)
    (hb : c.body (c.context p) s = .done st data u) : c.accept p s = c.ends p u st data := by
  rw [Command.accept_starts h, hb]

/-- A body that holds the command leaves it running. -/
theorem Command.accept_held {c : Command} {p : Packet} {s u : State} (h : c.starts p s)
    (hb : c.body (c.context p) s = .held u) : c.accept p s = u.goesOn := by
  rw [Command.accept_starts h, hb]

/-- A path that takes no packets leaves the state alone. -/
theorem Command.accept_down {c : Command} {p : Packet} {s : State} (h : s.pathUp p.path = false) : c.accept p s = s := by
  simp [Command.accept, h]

/-- A packet whose ring's previous command has not ended waits in its ring (R82). -/
theorem Command.accept_busy {c : Command} {p : Packet} {s : State} (h : s.pathUp p.path = true) (hb : s.pathBusy p.path = true) :
    c.accept p s = (s.queuePacket c.opcode p).serveAll := by
  simp [Command.accept, h, hb]

/-- A refusal writes its reply; on a room ring a failed read also counts as the room's. -/
theorem Command.accept_refused {c : Command} {p : Packet} {s : State} {st : Status} (h : s.pathUp p.path = true)
    (hb : s.pathBusy p.path = false)
    (hr : c.refuses s p.scoped = some st) (hd : ∀ r, p.scoped.path = .roomRing r → st ≠ .dmaTimeout ∧ st ≠ .dmaAborted) :
    c.accept p s = (s.reply p.scoped c.opcode st [] false none p.scoped.dry).goesOn := by
  simp only [Command.accept, h, hb, Bool.not_true, Bool.false_eq_true, if_false, Command.submit, hr, State.goesOn]
  split
  · rename_i hp; exact absurd rfl (hd _ hp).1
  · rename_i hp; exact absurd rfl (hd _ hp).2
  · rfl

/-- Every command row submits its packet. -/
theorem exec_commandRow {i : Instr} {p : Packet} {c : Command} (h : commandRow i = some (p, c)) (s : State) :
    exec i s = .next (c.accept p s) := by
  cases i <;> simp only [commandRow, Option.some.injEq, Prod.mk.injEq, reduceCtorEq] at h <;> obtain ⟨rfl, rfl⟩ := h <;> rfl

end Sys2Proof.Machine
end

