-- ==== Sys2Proof/Laws/Table.lean ====
section
/-!
SUPPORT. Sparse tables and memories: reading after writing, and the canonical form every operation keeps.
-/

namespace Sys2Proof

variable {α : Type}

@[simp] theorem Tbl.get_put_self (d : Nat → α) (m : Tbl α) (k : Nat) (v : α) : Tbl.get d (Tbl.put k v m) k = v := by
  induction m with
  | nil => simp [Tbl.put, Tbl.get]
  | cons e t ih =>
    obtain ⟨k', v'⟩ := e
    simp only [Tbl.put]
    split
    · simp [Tbl.get]
    · split
      · simp [Tbl.get]
      · have : k' ≠ k := fun h => by simp_all
        simp [Tbl.get, this, ih]

theorem Tbl.get_put_ne (d : Nat → α) (m : Tbl α) {k j : Nat} (v : α) (h : j ≠ k) :
    Tbl.get d (Tbl.put k v m) j = Tbl.get d m j := by
  induction m with
  | nil => simp [Tbl.put, Tbl.get, Ne.symm h]
  | cons e t ih =>
    obtain ⟨k', v'⟩ := e
    simp only [Tbl.put]
    split
    · simp [Tbl.get, Ne.symm h]
    · split
      · rename_i h1
        simp [Tbl.get, Ne.symm h, ← h1]
      · simp [Tbl.get, ih]

@[simp] theorem Tbl.get_erase_self (d : Nat → α) (m : Tbl α) (k : Nat) : Tbl.get d (Tbl.erase k m) k = d k := by
  induction m with
  | nil => rfl
  | cons e t ih =>
    obtain ⟨k', v'⟩ := e
    simp only [Tbl.erase]
    split
    · exact ih
    · rename_i h
      simp [Tbl.get, h, ih]

theorem Tbl.get_erase_ne (d : Nat → α) (m : Tbl α) {k j : Nat} (h : j ≠ k) :
    Tbl.get d (Tbl.erase k m) j = Tbl.get d m j := by
  induction m with
  | nil => rfl
  | cons e t ih =>
    obtain ⟨k', v'⟩ := e
    simp only [Tbl.erase]
    split
    · rename_i h1
      have : k' ≠ j := by omega
      simp [Tbl.get, this, ih]
    · simp [Tbl.get, ih]

/-- A key reads back what was written to it. -/
@[simp] theorem Tbl.get_set_self [DecidableEq α] (d : Nat → α) (m : Tbl α) (k : Nat) (v : α) :
    Tbl.get d (Tbl.set d m k v) k = v := by
  unfold Tbl.set
  split
  · rename_i h
    rw [Tbl.get_erase_self, h]
  · exact Tbl.get_put_self d m k v

/-- Writing a key leaves every other key alone. -/
theorem Tbl.get_set_ne [DecidableEq α] (d : Nat → α) (m : Tbl α) {k j : Nat} (v : α) (h : j ≠ k) :
    Tbl.get d (Tbl.set d m k v) j = Tbl.get d m j := by
  unfold Tbl.set
  split
  · exact Tbl.get_erase_ne d m h
  · exact Tbl.get_put_ne d m v h

/-! ## Canonical form -/

/-- A key lies above an optional bound. -/
def Tbl.above (lo : Option Nat) (k : Nat) : Prop := ∀ l, lo = some l → l < k

theorem Tbl.rising_cons (lo : Option Nat) (k : Nat) (v : α) (t : Tbl α) :
    Tbl.rising lo ((k, v) :: t) = true ↔ Tbl.above lo k ∧ Tbl.rising (some k) t = true := by
  cases lo <;> simp [Tbl.rising, Tbl.above]

theorem Tbl.rising_mono {lo hi : Option Nat} {t : Tbl α} (h : ∀ k, Tbl.above hi k → Tbl.above lo k)
    (hr : Tbl.rising hi t = true) : Tbl.rising lo t = true := by
  cases t with
  | nil => cases lo <;> rfl
  | cons e t =>
    obtain ⟨k, v⟩ := e
    rw [Tbl.rising_cons] at hr ⊢
    exact ⟨h k hr.1, hr.2⟩

theorem Tbl.above_trans {lo : Option Nat} {k j : Nat} (h : Tbl.above lo k) (h2 : Tbl.above (some k) j) : Tbl.above lo j := by
  intro l hl
  have := h l hl
  have := h2 k rfl
  omega

theorem Tbl.rising_put {lo : Option Nat} {k : Nat} (v : α) {m : Tbl α} (hk : Tbl.above lo k) (h : Tbl.rising lo m = true) :
    Tbl.rising lo (Tbl.put k v m) = true := by
  induction m generalizing lo with
  | nil => rw [Tbl.put, Tbl.rising_cons]; exact ⟨hk, rfl⟩
  | cons e t ih =>
    obtain ⟨k', v'⟩ := e
    rw [Tbl.rising_cons] at h
    simp only [Tbl.put]
    split
    · rename_i hlt
      rw [Tbl.rising_cons, Tbl.rising_cons]
      exact ⟨hk, fun l hl => by cases hl; exact hlt, h.2⟩
    · split
      · rename_i h1
        rw [Tbl.rising_cons]
        exact ⟨hk, by rw [h1]; exact h.2⟩
      · rename_i h1 h2
        rw [Tbl.rising_cons]
        exact ⟨h.1, ih (fun l hl => by cases hl; omega) h.2⟩

theorem Tbl.rising_erase {lo : Option Nat} (k : Nat) {m : Tbl α} (h : Tbl.rising lo m = true) :
    Tbl.rising lo (Tbl.erase k m) = true := by
  induction m generalizing lo with
  | nil => exact h
  | cons e t ih =>
    obtain ⟨k', v'⟩ := e
    rw [Tbl.rising_cons] at h
    simp only [Tbl.erase]
    split
    · exact Tbl.rising_mono (fun j hj => Tbl.above_trans h.1 hj) (ih h.2)
    · rw [Tbl.rising_cons]
      exact ⟨h.1, ih h.2⟩

theorem Tbl.mem_put {k : Nat} {v : α} {m : Tbl α} {e : Nat × α} (h : e ∈ Tbl.put k v m) : e = (k, v) ∨ e ∈ m := by
  induction m with
  | nil => simp [Tbl.put] at h; exact .inl h
  | cons x t ih =>
    obtain ⟨k', v'⟩ := x
    simp only [Tbl.put] at h
    split at h
    · simp at h; rcases h with h | h | h <;> simp [h]
    · split at h
      · simp at h; rcases h with h | h <;> simp [h]
      · rcases List.mem_cons.mp h with h | h
        · simp [h]
        · rcases ih h with h | h <;> simp [h]

theorem Tbl.mem_erase {k : Nat} {m : Tbl α} {e : Nat × α} (h : e ∈ Tbl.erase k m) : e ∈ m := by
  induction m with
  | nil => exact h
  | cons x t ih =>
    obtain ⟨k', v'⟩ := x
    simp only [Tbl.erase] at h
    split at h
    · exact List.mem_cons_of_mem _ (ih h)
    · rcases List.mem_cons.mp h with h | h
      · simp [h]
      · exact List.mem_cons_of_mem _ (ih h)

/-- Writing keeps the canonical form of a table. -/
theorem Tbl.wf_set [DecidableEq α] (d : Nat → α) {m : Tbl α} (k : Nat) (v : α) (h : Tbl.wf d m = true) :
    Tbl.wf d (Tbl.set d m k v) = true := by
  unfold Tbl.wf at h ⊢
  rw [Bool.and_eq_true] at h ⊢
  unfold Tbl.set
  split
  · exact ⟨Tbl.rising_erase k h.1, List.all_eq_true.mpr fun e he => List.all_eq_true.mp h.2 e (Tbl.mem_erase he)⟩
  · rename_i hv
    refine ⟨Tbl.rising_put v (fun l hl => by cases hl) h.1, List.all_eq_true.mpr fun e he => ?_⟩
    rcases Tbl.mem_put he with rfl | he
    · simp [hv]
    · exact List.all_eq_true.mp h.2 e he

theorem Tbl.rising_filter {lo : Option Nat} (p : Nat × α → Bool) {m : Tbl α} (h : Tbl.rising lo m = true) :
    Tbl.rising lo (m.filter p) = true := by
  induction m generalizing lo with
  | nil => exact h
  | cons e t ih =>
    obtain ⟨k', v'⟩ := e
    rw [Tbl.rising_cons] at h
    by_cases hp : p (k', v') = true
    · rw [List.filter_cons_of_pos hp, Tbl.rising_cons]
      exact ⟨h.1, ih h.2⟩
    · rw [List.filter_cons_of_neg hp]
      exact Tbl.rising_mono (fun j hj => Tbl.above_trans h.1 hj) (ih h.2)

/-! ## Memories -/

theorem Memory.wf_empty : Memory.wf [] = true := rfl

/-- Writing a byte keeps the canonical form. -/
theorem Memory.wf_write {m : Memory} (a : Nat) (b : Byte) (h : Memory.wf m = true) : Memory.wf (Memory.write m a b) = true :=
  Tbl.wf_set memDefault a b h

/-- Writing consecutive bytes keeps the canonical form. -/
theorem Memory.wf_writeBytes {m : Memory} (a : Nat) (bs : List Byte) (h : Memory.wf m = true) :
    Memory.wf (Memory.writeBytes m a bs) = true := by
  induction bs generalizing m a with
  | nil => exact h
  | cons b bs ih => exact ih (a + 1) (Memory.wf_write a b h)

/-- Clearing a range keeps the canonical form. -/
theorem Memory.wf_zero {m : Memory} (a n : Nat) (h : Memory.wf m = true) : Memory.wf (Memory.zero m a n) = true := by
  unfold Memory.wf Tbl.wf at h ⊢
  rw [Bool.and_eq_true] at h ⊢
  unfold Memory.zero
  exact ⟨Tbl.rising_filter _ h.1,
    List.all_eq_true.mpr fun e he => List.all_eq_true.mp h.2 e ((List.mem_filter.mp he).1)⟩

@[simp] theorem Memory.read_write_self (m : Memory) (a : Nat) (b : Byte) : Memory.read (Memory.write m a b) a = b :=
  Tbl.get_set_self memDefault m a b

theorem Memory.read_write_ne (m : Memory) {a c : Nat} (b : Byte) (h : c ≠ a) :
    Memory.read (Memory.write m a b) c = Memory.read m c := Tbl.get_set_ne memDefault m b h

/-- Bytes outside the written range read as before. -/
theorem Memory.read_writeBytes_ne (m : Memory) (a : Nat) (bs : List Byte) {c : Nat} (h : c < a ∨ a + bs.length ≤ c) :
    Memory.read (Memory.writeBytes m a bs) c = Memory.read m c := by
  induction bs generalizing m a with
  | nil => rfl
  | cons b bs ih =>
    simp only [List.length_cons] at h
    rw [Memory.writeBytes, ih _ (a + 1) (by omega), Memory.read_write_ne _ _ (by omega)]

/-- Bytes of the written range read as written. -/
theorem Memory.readBytes_writeBytes (m : Memory) (a : Nat) (bs : List Byte) :
    Memory.readBytes (Memory.writeBytes m a bs) a bs.length = bs := by
  induction bs generalizing m a with
  | nil => rfl
  | cons b bs ih =>
    rw [List.length_cons, Memory.readBytes, Memory.writeBytes, ih, Memory.read_writeBytes_ne _ _ _ (by omega),
      Memory.read_write_self]

end Sys2Proof
end

