-- ==== Sys2Proof/Laws/State.lean ====
section
/-!
SUPPORT. What each update of the state leaves alone, one lemma per field and update, and what its own reader reads after it.
-/

namespace Sys2Proof.Machine

/-! `setReg` -/
@[simp] theorem State.setReg_pending (s : State) (o : Nat) (v : BitVec 64) : (s.setReg o v).pending = s.pending := rfl
@[simp] theorem State.setReg_clock (s : State) (o : Nat) (v : BitVec 64) : (s.setReg o v).clock = s.clock := rfl
@[simp] theorem State.setReg_draws (s : State) (o : Nat) (v : BitVec 64) : (s.setReg o v).draws = s.draws := rfl
@[simp] theorem State.setReg_hostMem (s : State) (o : Nat) (v : BitVec 64) : (s.setReg o v).hostMem = s.hostMem := rfl
@[simp] theorem State.setReg_out (s : State) (o : Nat) (v : BitVec 64) : (s.setReg o v).out = s.out := rfl
@[simp] theorem State.setReg_time (s : State) (o : Nat) (v : BitVec 64) : (s.setReg o v).time = s.time := rfl
@[simp] theorem State.setReg_link (s : State) (o : Nat) (v : BitVec 64) : (s.setReg o v).link = s.link := rfl
@[simp] theorem State.setReg_gen (s : State) (o : Nat) (v : BitVec 64) : (s.setReg o v).gen = s.gen := rfl
@[simp] theorem State.setReg_cmd (s : State) (o : Nat) (v : BitVec 64) : (s.setReg o v).cmd = s.cmd := rfl
@[simp] theorem State.setReg_rooms (s : State) (o : Nat) (v : BitVec 64) : (s.setReg o v).rooms = s.rooms := rfl
@[simp] theorem State.setReg_rings (s : State) (o : Nat) (v : BitVec 64) : (s.setReg o v).rings = s.rings := rfl
@[simp] theorem State.setReg_arb (s : State) (o : Nat) (v : BitVec 64) : (s.setReg o v).arb = s.arb := rfl
@[simp] theorem State.setReg_msgs (s : State) (o : Nat) (v : BitVec 64) : (s.setReg o v).msgs = s.msgs := rfl
@[simp] theorem State.setReg_ports (s : State) (o : Nat) (v : BitVec 64) : (s.setReg o v).ports = s.ports := rfl
@[simp] theorem State.setReg_pipe (s : State) (o : Nat) (v : BitVec 64) : (s.setReg o v).pipe = s.pipe := rfl
@[simp] theorem State.setReg_cls (s : State) (o : Nat) (v : BitVec 64) : (s.setReg o v).cls = s.cls := rfl
@[simp] theorem State.setReg_tm (s : State) (o : Nat) (v : BitVec 64) : (s.setReg o v).tm = s.tm := rfl
@[simp] theorem State.setReg_cores (s : State) (o : Nat) (v : BitVec 64) : (s.setReg o v).cores = s.cores := rfl
@[simp] theorem State.setReg_mem (s : State) (o : Nat) (v : BitVec 64) : (s.setReg o v).mem = s.mem := rfl
@[simp] theorem State.setReg_memory (s : State) (o : Nat) (v : BitVec 64) : (s.setReg o v).memory = s.memory := rfl
@[simp] theorem State.setReg_fault (s : State) (o : Nat) (v : BitVec 64) : (s.setReg o v).fault = s.fault := rfl
@[simp] theorem State.setReg_sr (s : State) (o : Nat) (v : BitVec 64) : (s.setReg o v).sr = s.sr := rfl
@[simp] theorem State.setReg_tiles (s : State) (o : Nat) (v : BitVec 64) : (s.setReg o v).tiles = s.tiles := rfl
@[simp] theorem State.setReg_store (s : State) (o : Nat) (v : BitVec 64) : (s.setReg o v).store = s.store := rfl
@[simp] theorem State.setReg_power (s : State) (o : Nat) (v : BitVec 64) : (s.setReg o v).power = s.power := rfl
@[simp] theorem State.setReg_jtag (s : State) (o : Nat) (v : BitVec 64) : (s.setReg o v).jtag = s.jtag := rfl

/-! `emit` -/
@[simp] theorem State.emit_pending (s : State) (m : OutMsg) : (s.emit m).pending = s.pending := rfl
@[simp] theorem State.emit_clock (s : State) (m : OutMsg) : (s.emit m).clock = s.clock := rfl
@[simp] theorem State.emit_draws (s : State) (m : OutMsg) : (s.emit m).draws = s.draws := rfl
@[simp] theorem State.emit_regs (s : State) (m : OutMsg) : (s.emit m).regs = s.regs := rfl
@[simp] theorem State.emit_hostMem (s : State) (m : OutMsg) : (s.emit m).hostMem = s.hostMem := rfl
@[simp] theorem State.emit_time (s : State) (m : OutMsg) : (s.emit m).time = s.time := rfl
@[simp] theorem State.emit_link (s : State) (m : OutMsg) : (s.emit m).link = s.link := rfl
@[simp] theorem State.emit_gen (s : State) (m : OutMsg) : (s.emit m).gen = s.gen := rfl
@[simp] theorem State.emit_cmd (s : State) (m : OutMsg) : (s.emit m).cmd = s.cmd := rfl
@[simp] theorem State.emit_rooms (s : State) (m : OutMsg) : (s.emit m).rooms = s.rooms := rfl
@[simp] theorem State.emit_rings (s : State) (m : OutMsg) : (s.emit m).rings = s.rings := rfl
@[simp] theorem State.emit_arb (s : State) (m : OutMsg) : (s.emit m).arb = s.arb := rfl
@[simp] theorem State.emit_msgs (s : State) (m : OutMsg) : (s.emit m).msgs = s.msgs := rfl
@[simp] theorem State.emit_ports (s : State) (m : OutMsg) : (s.emit m).ports = s.ports := rfl
@[simp] theorem State.emit_pipe (s : State) (m : OutMsg) : (s.emit m).pipe = s.pipe := rfl
@[simp] theorem State.emit_cls (s : State) (m : OutMsg) : (s.emit m).cls = s.cls := rfl
@[simp] theorem State.emit_tm (s : State) (m : OutMsg) : (s.emit m).tm = s.tm := rfl
@[simp] theorem State.emit_cores (s : State) (m : OutMsg) : (s.emit m).cores = s.cores := rfl
@[simp] theorem State.emit_mem (s : State) (m : OutMsg) : (s.emit m).mem = s.mem := rfl
@[simp] theorem State.emit_memory (s : State) (m : OutMsg) : (s.emit m).memory = s.memory := rfl
@[simp] theorem State.emit_fault (s : State) (m : OutMsg) : (s.emit m).fault = s.fault := rfl
@[simp] theorem State.emit_sr (s : State) (m : OutMsg) : (s.emit m).sr = s.sr := rfl
@[simp] theorem State.emit_tiles (s : State) (m : OutMsg) : (s.emit m).tiles = s.tiles := rfl
@[simp] theorem State.emit_store (s : State) (m : OutMsg) : (s.emit m).store = s.store := rfl
@[simp] theorem State.emit_power (s : State) (m : OutMsg) : (s.emit m).power = s.power := rfl
@[simp] theorem State.emit_jtag (s : State) (m : OutMsg) : (s.emit m).jtag = s.jtag := rfl

/-! `setRoom` -/
@[simp] theorem State.setRoom_pending (s : State) (r : Nat) (x : Room) : (s.setRoom r x).pending = s.pending := rfl
@[simp] theorem State.setRoom_clock (s : State) (r : Nat) (x : Room) : (s.setRoom r x).clock = s.clock := rfl
@[simp] theorem State.setRoom_draws (s : State) (r : Nat) (x : Room) : (s.setRoom r x).draws = s.draws := rfl
@[simp] theorem State.setRoom_regs (s : State) (r : Nat) (x : Room) : (s.setRoom r x).regs = s.regs := rfl
@[simp] theorem State.setRoom_hostMem (s : State) (r : Nat) (x : Room) : (s.setRoom r x).hostMem = s.hostMem := rfl
@[simp] theorem State.setRoom_out (s : State) (r : Nat) (x : Room) : (s.setRoom r x).out = s.out := rfl
@[simp] theorem State.setRoom_time (s : State) (r : Nat) (x : Room) : (s.setRoom r x).time = s.time := rfl
@[simp] theorem State.setRoom_link (s : State) (r : Nat) (x : Room) : (s.setRoom r x).link = s.link := rfl
@[simp] theorem State.setRoom_gen (s : State) (r : Nat) (x : Room) : (s.setRoom r x).gen = s.gen := rfl
@[simp] theorem State.setRoom_cmd (s : State) (r : Nat) (x : Room) : (s.setRoom r x).cmd = s.cmd := rfl
@[simp] theorem State.setRoom_rings (s : State) (r : Nat) (x : Room) : (s.setRoom r x).rings = s.rings := rfl
@[simp] theorem State.setRoom_arb (s : State) (r : Nat) (x : Room) : (s.setRoom r x).arb = s.arb := rfl
@[simp] theorem State.setRoom_msgs (s : State) (r : Nat) (x : Room) : (s.setRoom r x).msgs = s.msgs := rfl
@[simp] theorem State.setRoom_ports (s : State) (r : Nat) (x : Room) : (s.setRoom r x).ports = s.ports := rfl
@[simp] theorem State.setRoom_pipe (s : State) (r : Nat) (x : Room) : (s.setRoom r x).pipe = s.pipe := rfl
@[simp] theorem State.setRoom_cls (s : State) (r : Nat) (x : Room) : (s.setRoom r x).cls = s.cls := rfl
@[simp] theorem State.setRoom_tm (s : State) (r : Nat) (x : Room) : (s.setRoom r x).tm = s.tm := rfl
@[simp] theorem State.setRoom_cores (s : State) (r : Nat) (x : Room) : (s.setRoom r x).cores = s.cores := rfl
@[simp] theorem State.setRoom_mem (s : State) (r : Nat) (x : Room) : (s.setRoom r x).mem = s.mem := rfl
@[simp] theorem State.setRoom_memory (s : State) (r : Nat) (x : Room) : (s.setRoom r x).memory = s.memory := rfl
@[simp] theorem State.setRoom_fault (s : State) (r : Nat) (x : Room) : (s.setRoom r x).fault = s.fault := rfl
@[simp] theorem State.setRoom_sr (s : State) (r : Nat) (x : Room) : (s.setRoom r x).sr = s.sr := rfl
@[simp] theorem State.setRoom_tiles (s : State) (r : Nat) (x : Room) : (s.setRoom r x).tiles = s.tiles := rfl
@[simp] theorem State.setRoom_store (s : State) (r : Nat) (x : Room) : (s.setRoom r x).store = s.store := rfl
@[simp] theorem State.setRoom_power (s : State) (r : Nat) (x : Room) : (s.setRoom r x).power = s.power := rfl
@[simp] theorem State.setRoom_jtag (s : State) (r : Nat) (x : Room) : (s.setRoom r x).jtag = s.jtag := rfl

/-! `setRing` -/
@[simp] theorem State.setRing_pending (s : State) (ref : Nat) (x : Ring) : (s.setRing ref x).pending = s.pending := rfl
@[simp] theorem State.setRing_clock (s : State) (ref : Nat) (x : Ring) : (s.setRing ref x).clock = s.clock := rfl
@[simp] theorem State.setRing_draws (s : State) (ref : Nat) (x : Ring) : (s.setRing ref x).draws = s.draws := rfl
@[simp] theorem State.setRing_regs (s : State) (ref : Nat) (x : Ring) : (s.setRing ref x).regs = s.regs := rfl
@[simp] theorem State.setRing_hostMem (s : State) (ref : Nat) (x : Ring) : (s.setRing ref x).hostMem = s.hostMem := rfl
@[simp] theorem State.setRing_out (s : State) (ref : Nat) (x : Ring) : (s.setRing ref x).out = s.out := rfl
@[simp] theorem State.setRing_time (s : State) (ref : Nat) (x : Ring) : (s.setRing ref x).time = s.time := rfl
@[simp] theorem State.setRing_link (s : State) (ref : Nat) (x : Ring) : (s.setRing ref x).link = s.link := rfl
@[simp] theorem State.setRing_gen (s : State) (ref : Nat) (x : Ring) : (s.setRing ref x).gen = s.gen := rfl
@[simp] theorem State.setRing_cmd (s : State) (ref : Nat) (x : Ring) : (s.setRing ref x).cmd = s.cmd := rfl
@[simp] theorem State.setRing_rooms (s : State) (ref : Nat) (x : Ring) : (s.setRing ref x).rooms = s.rooms := rfl
@[simp] theorem State.setRing_arb (s : State) (ref : Nat) (x : Ring) : (s.setRing ref x).arb = s.arb := rfl
@[simp] theorem State.setRing_msgs (s : State) (ref : Nat) (x : Ring) : (s.setRing ref x).msgs = s.msgs := rfl
@[simp] theorem State.setRing_ports (s : State) (ref : Nat) (x : Ring) : (s.setRing ref x).ports = s.ports := rfl
@[simp] theorem State.setRing_pipe (s : State) (ref : Nat) (x : Ring) : (s.setRing ref x).pipe = s.pipe := rfl
@[simp] theorem State.setRing_cls (s : State) (ref : Nat) (x : Ring) : (s.setRing ref x).cls = s.cls := rfl
@[simp] theorem State.setRing_tm (s : State) (ref : Nat) (x : Ring) : (s.setRing ref x).tm = s.tm := rfl
@[simp] theorem State.setRing_cores (s : State) (ref : Nat) (x : Ring) : (s.setRing ref x).cores = s.cores := rfl
@[simp] theorem State.setRing_mem (s : State) (ref : Nat) (x : Ring) : (s.setRing ref x).mem = s.mem := rfl
@[simp] theorem State.setRing_memory (s : State) (ref : Nat) (x : Ring) : (s.setRing ref x).memory = s.memory := rfl
@[simp] theorem State.setRing_fault (s : State) (ref : Nat) (x : Ring) : (s.setRing ref x).fault = s.fault := rfl
@[simp] theorem State.setRing_sr (s : State) (ref : Nat) (x : Ring) : (s.setRing ref x).sr = s.sr := rfl
@[simp] theorem State.setRing_tiles (s : State) (ref : Nat) (x : Ring) : (s.setRing ref x).tiles = s.tiles := rfl
@[simp] theorem State.setRing_store (s : State) (ref : Nat) (x : Ring) : (s.setRing ref x).store = s.store := rfl
@[simp] theorem State.setRing_power (s : State) (ref : Nat) (x : Ring) : (s.setRing ref x).power = s.power := rfl
@[simp] theorem State.setRing_jtag (s : State) (ref : Nat) (x : Ring) : (s.setRing ref x).jtag = s.jtag := rfl

/-! `setMsg` -/
@[simp] theorem State.setMsg_pending (s : State) (e : Nat) (x : MsgEntry) : (s.setMsg e x).pending = s.pending := rfl
@[simp] theorem State.setMsg_clock (s : State) (e : Nat) (x : MsgEntry) : (s.setMsg e x).clock = s.clock := rfl
@[simp] theorem State.setMsg_draws (s : State) (e : Nat) (x : MsgEntry) : (s.setMsg e x).draws = s.draws := rfl
@[simp] theorem State.setMsg_regs (s : State) (e : Nat) (x : MsgEntry) : (s.setMsg e x).regs = s.regs := rfl
@[simp] theorem State.setMsg_hostMem (s : State) (e : Nat) (x : MsgEntry) : (s.setMsg e x).hostMem = s.hostMem := rfl
@[simp] theorem State.setMsg_out (s : State) (e : Nat) (x : MsgEntry) : (s.setMsg e x).out = s.out := rfl
@[simp] theorem State.setMsg_time (s : State) (e : Nat) (x : MsgEntry) : (s.setMsg e x).time = s.time := rfl
@[simp] theorem State.setMsg_link (s : State) (e : Nat) (x : MsgEntry) : (s.setMsg e x).link = s.link := rfl
@[simp] theorem State.setMsg_gen (s : State) (e : Nat) (x : MsgEntry) : (s.setMsg e x).gen = s.gen := rfl
@[simp] theorem State.setMsg_cmd (s : State) (e : Nat) (x : MsgEntry) : (s.setMsg e x).cmd = s.cmd := rfl
@[simp] theorem State.setMsg_rooms (s : State) (e : Nat) (x : MsgEntry) : (s.setMsg e x).rooms = s.rooms := rfl
@[simp] theorem State.setMsg_rings (s : State) (e : Nat) (x : MsgEntry) : (s.setMsg e x).rings = s.rings := rfl
@[simp] theorem State.setMsg_arb (s : State) (e : Nat) (x : MsgEntry) : (s.setMsg e x).arb = s.arb := rfl
@[simp] theorem State.setMsg_ports (s : State) (e : Nat) (x : MsgEntry) : (s.setMsg e x).ports = s.ports := rfl
@[simp] theorem State.setMsg_pipe (s : State) (e : Nat) (x : MsgEntry) : (s.setMsg e x).pipe = s.pipe := rfl
@[simp] theorem State.setMsg_cls (s : State) (e : Nat) (x : MsgEntry) : (s.setMsg e x).cls = s.cls := rfl
@[simp] theorem State.setMsg_tm (s : State) (e : Nat) (x : MsgEntry) : (s.setMsg e x).tm = s.tm := rfl
@[simp] theorem State.setMsg_cores (s : State) (e : Nat) (x : MsgEntry) : (s.setMsg e x).cores = s.cores := rfl
@[simp] theorem State.setMsg_mem (s : State) (e : Nat) (x : MsgEntry) : (s.setMsg e x).mem = s.mem := rfl
@[simp] theorem State.setMsg_memory (s : State) (e : Nat) (x : MsgEntry) : (s.setMsg e x).memory = s.memory := rfl
@[simp] theorem State.setMsg_fault (s : State) (e : Nat) (x : MsgEntry) : (s.setMsg e x).fault = s.fault := rfl
@[simp] theorem State.setMsg_sr (s : State) (e : Nat) (x : MsgEntry) : (s.setMsg e x).sr = s.sr := rfl
@[simp] theorem State.setMsg_tiles (s : State) (e : Nat) (x : MsgEntry) : (s.setMsg e x).tiles = s.tiles := rfl
@[simp] theorem State.setMsg_store (s : State) (e : Nat) (x : MsgEntry) : (s.setMsg e x).store = s.store := rfl
@[simp] theorem State.setMsg_power (s : State) (e : Nat) (x : MsgEntry) : (s.setMsg e x).power = s.power := rfl
@[simp] theorem State.setMsg_jtag (s : State) (e : Nat) (x : MsgEntry) : (s.setMsg e x).jtag = s.jtag := rfl

/-! `setVec` -/
@[simp] theorem State.setVec_pending (s : State) (v : Nat) (x : MsixEntry) : (s.setVec v x).pending = s.pending := rfl
@[simp] theorem State.setVec_clock (s : State) (v : Nat) (x : MsixEntry) : (s.setVec v x).clock = s.clock := rfl
@[simp] theorem State.setVec_draws (s : State) (v : Nat) (x : MsixEntry) : (s.setVec v x).draws = s.draws := rfl
@[simp] theorem State.setVec_regs (s : State) (v : Nat) (x : MsixEntry) : (s.setVec v x).regs = s.regs := rfl
@[simp] theorem State.setVec_hostMem (s : State) (v : Nat) (x : MsixEntry) : (s.setVec v x).hostMem = s.hostMem := rfl
@[simp] theorem State.setVec_out (s : State) (v : Nat) (x : MsixEntry) : (s.setVec v x).out = s.out := rfl
@[simp] theorem State.setVec_time (s : State) (v : Nat) (x : MsixEntry) : (s.setVec v x).time = s.time := rfl
@[simp] theorem State.setVec_gen (s : State) (v : Nat) (x : MsixEntry) : (s.setVec v x).gen = s.gen := rfl
@[simp] theorem State.setVec_cmd (s : State) (v : Nat) (x : MsixEntry) : (s.setVec v x).cmd = s.cmd := rfl
@[simp] theorem State.setVec_rooms (s : State) (v : Nat) (x : MsixEntry) : (s.setVec v x).rooms = s.rooms := rfl
@[simp] theorem State.setVec_rings (s : State) (v : Nat) (x : MsixEntry) : (s.setVec v x).rings = s.rings := rfl
@[simp] theorem State.setVec_arb (s : State) (v : Nat) (x : MsixEntry) : (s.setVec v x).arb = s.arb := rfl
@[simp] theorem State.setVec_msgs (s : State) (v : Nat) (x : MsixEntry) : (s.setVec v x).msgs = s.msgs := rfl
@[simp] theorem State.setVec_ports (s : State) (v : Nat) (x : MsixEntry) : (s.setVec v x).ports = s.ports := rfl
@[simp] theorem State.setVec_pipe (s : State) (v : Nat) (x : MsixEntry) : (s.setVec v x).pipe = s.pipe := rfl
@[simp] theorem State.setVec_cls (s : State) (v : Nat) (x : MsixEntry) : (s.setVec v x).cls = s.cls := rfl
@[simp] theorem State.setVec_tm (s : State) (v : Nat) (x : MsixEntry) : (s.setVec v x).tm = s.tm := rfl
@[simp] theorem State.setVec_cores (s : State) (v : Nat) (x : MsixEntry) : (s.setVec v x).cores = s.cores := rfl
@[simp] theorem State.setVec_mem (s : State) (v : Nat) (x : MsixEntry) : (s.setVec v x).mem = s.mem := rfl
@[simp] theorem State.setVec_memory (s : State) (v : Nat) (x : MsixEntry) : (s.setVec v x).memory = s.memory := rfl
@[simp] theorem State.setVec_fault (s : State) (v : Nat) (x : MsixEntry) : (s.setVec v x).fault = s.fault := rfl
@[simp] theorem State.setVec_sr (s : State) (v : Nat) (x : MsixEntry) : (s.setVec v x).sr = s.sr := rfl
@[simp] theorem State.setVec_tiles (s : State) (v : Nat) (x : MsixEntry) : (s.setVec v x).tiles = s.tiles := rfl
@[simp] theorem State.setVec_store (s : State) (v : Nat) (x : MsixEntry) : (s.setVec v x).store = s.store := rfl
@[simp] theorem State.setVec_power (s : State) (v : Nat) (x : MsixEntry) : (s.setVec v x).power = s.power := rfl
@[simp] theorem State.setVec_jtag (s : State) (v : Nat) (x : MsixEntry) : (s.setVec v x).jtag = s.jtag := rfl

/-! `setThread` -/
@[simp] theorem State.setThread_pending (s : State) (t : Nat) (x : Thread) : (s.setThread t x).pending = s.pending := rfl
@[simp] theorem State.setThread_clock (s : State) (t : Nat) (x : Thread) : (s.setThread t x).clock = s.clock := rfl
@[simp] theorem State.setThread_draws (s : State) (t : Nat) (x : Thread) : (s.setThread t x).draws = s.draws := rfl
@[simp] theorem State.setThread_regs (s : State) (t : Nat) (x : Thread) : (s.setThread t x).regs = s.regs := rfl
@[simp] theorem State.setThread_hostMem (s : State) (t : Nat) (x : Thread) : (s.setThread t x).hostMem = s.hostMem := rfl
@[simp] theorem State.setThread_out (s : State) (t : Nat) (x : Thread) : (s.setThread t x).out = s.out := rfl
@[simp] theorem State.setThread_time (s : State) (t : Nat) (x : Thread) : (s.setThread t x).time = s.time := rfl
@[simp] theorem State.setThread_link (s : State) (t : Nat) (x : Thread) : (s.setThread t x).link = s.link := rfl
@[simp] theorem State.setThread_gen (s : State) (t : Nat) (x : Thread) : (s.setThread t x).gen = s.gen := rfl
@[simp] theorem State.setThread_cmd (s : State) (t : Nat) (x : Thread) : (s.setThread t x).cmd = s.cmd := rfl
@[simp] theorem State.setThread_rooms (s : State) (t : Nat) (x : Thread) : (s.setThread t x).rooms = s.rooms := rfl
@[simp] theorem State.setThread_rings (s : State) (t : Nat) (x : Thread) : (s.setThread t x).rings = s.rings := rfl
@[simp] theorem State.setThread_arb (s : State) (t : Nat) (x : Thread) : (s.setThread t x).arb = s.arb := rfl
@[simp] theorem State.setThread_msgs (s : State) (t : Nat) (x : Thread) : (s.setThread t x).msgs = s.msgs := rfl
@[simp] theorem State.setThread_ports (s : State) (t : Nat) (x : Thread) : (s.setThread t x).ports = s.ports := rfl
@[simp] theorem State.setThread_pipe (s : State) (t : Nat) (x : Thread) : (s.setThread t x).pipe = s.pipe := rfl
@[simp] theorem State.setThread_cls (s : State) (t : Nat) (x : Thread) : (s.setThread t x).cls = s.cls := rfl
@[simp] theorem State.setThread_tm (s : State) (t : Nat) (x : Thread) : (s.setThread t x).tm = s.tm := rfl
@[simp] theorem State.setThread_mem (s : State) (t : Nat) (x : Thread) : (s.setThread t x).mem = s.mem := rfl
@[simp] theorem State.setThread_memory (s : State) (t : Nat) (x : Thread) : (s.setThread t x).memory = s.memory := rfl
@[simp] theorem State.setThread_fault (s : State) (t : Nat) (x : Thread) : (s.setThread t x).fault = s.fault := rfl
@[simp] theorem State.setThread_sr (s : State) (t : Nat) (x : Thread) : (s.setThread t x).sr = s.sr := rfl
@[simp] theorem State.setThread_tiles (s : State) (t : Nat) (x : Thread) : (s.setThread t x).tiles = s.tiles := rfl
@[simp] theorem State.setThread_store (s : State) (t : Nat) (x : Thread) : (s.setThread t x).store = s.store := rfl
@[simp] theorem State.setThread_power (s : State) (t : Nat) (x : Thread) : (s.setThread t x).power = s.power := rfl
@[simp] theorem State.setThread_jtag (s : State) (t : Nat) (x : Thread) : (s.setThread t x).jtag = s.jtag := rfl

/-! `setLine` -/
@[simp] theorem State.setLine_pending (s : State) (n : Nat) (l : Line) : (s.setLine n l).pending = s.pending := rfl
@[simp] theorem State.setLine_clock (s : State) (n : Nat) (l : Line) : (s.setLine n l).clock = s.clock := rfl
@[simp] theorem State.setLine_draws (s : State) (n : Nat) (l : Line) : (s.setLine n l).draws = s.draws := rfl
@[simp] theorem State.setLine_regs (s : State) (n : Nat) (l : Line) : (s.setLine n l).regs = s.regs := rfl
@[simp] theorem State.setLine_hostMem (s : State) (n : Nat) (l : Line) : (s.setLine n l).hostMem = s.hostMem := rfl
@[simp] theorem State.setLine_out (s : State) (n : Nat) (l : Line) : (s.setLine n l).out = s.out := rfl
@[simp] theorem State.setLine_time (s : State) (n : Nat) (l : Line) : (s.setLine n l).time = s.time := rfl
@[simp] theorem State.setLine_link (s : State) (n : Nat) (l : Line) : (s.setLine n l).link = s.link := rfl
@[simp] theorem State.setLine_gen (s : State) (n : Nat) (l : Line) : (s.setLine n l).gen = s.gen := rfl
@[simp] theorem State.setLine_cmd (s : State) (n : Nat) (l : Line) : (s.setLine n l).cmd = s.cmd := rfl
@[simp] theorem State.setLine_rooms (s : State) (n : Nat) (l : Line) : (s.setLine n l).rooms = s.rooms := rfl
@[simp] theorem State.setLine_rings (s : State) (n : Nat) (l : Line) : (s.setLine n l).rings = s.rings := rfl
@[simp] theorem State.setLine_arb (s : State) (n : Nat) (l : Line) : (s.setLine n l).arb = s.arb := rfl
@[simp] theorem State.setLine_msgs (s : State) (n : Nat) (l : Line) : (s.setLine n l).msgs = s.msgs := rfl
@[simp] theorem State.setLine_ports (s : State) (n : Nat) (l : Line) : (s.setLine n l).ports = s.ports := rfl
@[simp] theorem State.setLine_pipe (s : State) (n : Nat) (l : Line) : (s.setLine n l).pipe = s.pipe := rfl
@[simp] theorem State.setLine_cls (s : State) (n : Nat) (l : Line) : (s.setLine n l).cls = s.cls := rfl
@[simp] theorem State.setLine_tm (s : State) (n : Nat) (l : Line) : (s.setLine n l).tm = s.tm := rfl
@[simp] theorem State.setLine_mem (s : State) (n : Nat) (l : Line) : (s.setLine n l).mem = s.mem := rfl
@[simp] theorem State.setLine_memory (s : State) (n : Nat) (l : Line) : (s.setLine n l).memory = s.memory := rfl
@[simp] theorem State.setLine_fault (s : State) (n : Nat) (l : Line) : (s.setLine n l).fault = s.fault := rfl
@[simp] theorem State.setLine_sr (s : State) (n : Nat) (l : Line) : (s.setLine n l).sr = s.sr := rfl
@[simp] theorem State.setLine_tiles (s : State) (n : Nat) (l : Line) : (s.setLine n l).tiles = s.tiles := rfl
@[simp] theorem State.setLine_store (s : State) (n : Nat) (l : Line) : (s.setLine n l).store = s.store := rfl
@[simp] theorem State.setLine_power (s : State) (n : Nat) (l : Line) : (s.setLine n l).power = s.power := rfl
@[simp] theorem State.setLine_jtag (s : State) (n : Nat) (l : Line) : (s.setLine n l).jtag = s.jtag := rfl

/-! `setHitch` -/
@[simp] theorem State.setHitch_pending (s : State) (n : Nat) (h : Hitch) : (s.setHitch n h).pending = s.pending := rfl
@[simp] theorem State.setHitch_clock (s : State) (n : Nat) (h : Hitch) : (s.setHitch n h).clock = s.clock := rfl
@[simp] theorem State.setHitch_draws (s : State) (n : Nat) (h : Hitch) : (s.setHitch n h).draws = s.draws := rfl
@[simp] theorem State.setHitch_regs (s : State) (n : Nat) (h : Hitch) : (s.setHitch n h).regs = s.regs := rfl
@[simp] theorem State.setHitch_hostMem (s : State) (n : Nat) (h : Hitch) : (s.setHitch n h).hostMem = s.hostMem := rfl
@[simp] theorem State.setHitch_out (s : State) (n : Nat) (h : Hitch) : (s.setHitch n h).out = s.out := rfl
@[simp] theorem State.setHitch_time (s : State) (n : Nat) (h : Hitch) : (s.setHitch n h).time = s.time := rfl
@[simp] theorem State.setHitch_link (s : State) (n : Nat) (h : Hitch) : (s.setHitch n h).link = s.link := rfl
@[simp] theorem State.setHitch_gen (s : State) (n : Nat) (h : Hitch) : (s.setHitch n h).gen = s.gen := rfl
@[simp] theorem State.setHitch_cmd (s : State) (n : Nat) (h : Hitch) : (s.setHitch n h).cmd = s.cmd := rfl
@[simp] theorem State.setHitch_rooms (s : State) (n : Nat) (h : Hitch) : (s.setHitch n h).rooms = s.rooms := rfl
@[simp] theorem State.setHitch_rings (s : State) (n : Nat) (h : Hitch) : (s.setHitch n h).rings = s.rings := rfl
@[simp] theorem State.setHitch_arb (s : State) (n : Nat) (h : Hitch) : (s.setHitch n h).arb = s.arb := rfl
@[simp] theorem State.setHitch_msgs (s : State) (n : Nat) (h : Hitch) : (s.setHitch n h).msgs = s.msgs := rfl
@[simp] theorem State.setHitch_ports (s : State) (n : Nat) (h : Hitch) : (s.setHitch n h).ports = s.ports := rfl
@[simp] theorem State.setHitch_pipe (s : State) (n : Nat) (h : Hitch) : (s.setHitch n h).pipe = s.pipe := rfl
@[simp] theorem State.setHitch_cls (s : State) (n : Nat) (h : Hitch) : (s.setHitch n h).cls = s.cls := rfl
@[simp] theorem State.setHitch_tm (s : State) (n : Nat) (h : Hitch) : (s.setHitch n h).tm = s.tm := rfl
@[simp] theorem State.setHitch_mem (s : State) (n : Nat) (h : Hitch) : (s.setHitch n h).mem = s.mem := rfl
@[simp] theorem State.setHitch_memory (s : State) (n : Nat) (h : Hitch) : (s.setHitch n h).memory = s.memory := rfl
@[simp] theorem State.setHitch_fault (s : State) (n : Nat) (h : Hitch) : (s.setHitch n h).fault = s.fault := rfl
@[simp] theorem State.setHitch_sr (s : State) (n : Nat) (h : Hitch) : (s.setHitch n h).sr = s.sr := rfl
@[simp] theorem State.setHitch_tiles (s : State) (n : Nat) (h : Hitch) : (s.setHitch n h).tiles = s.tiles := rfl
@[simp] theorem State.setHitch_store (s : State) (n : Nat) (h : Hitch) : (s.setHitch n h).store = s.store := rfl
@[simp] theorem State.setHitch_power (s : State) (n : Nat) (h : Hitch) : (s.setHitch n h).power = s.power := rfl
@[simp] theorem State.setHitch_jtag (s : State) (n : Nat) (h : Hitch) : (s.setHitch n h).jtag = s.jtag := rfl

/-! `setTile` -/
@[simp] theorem State.setTile_pending (s : State) (n : Nat) (x : Tile) : (s.setTile n x).pending = s.pending := rfl
@[simp] theorem State.setTile_clock (s : State) (n : Nat) (x : Tile) : (s.setTile n x).clock = s.clock := rfl
@[simp] theorem State.setTile_draws (s : State) (n : Nat) (x : Tile) : (s.setTile n x).draws = s.draws := rfl
@[simp] theorem State.setTile_regs (s : State) (n : Nat) (x : Tile) : (s.setTile n x).regs = s.regs := rfl
@[simp] theorem State.setTile_hostMem (s : State) (n : Nat) (x : Tile) : (s.setTile n x).hostMem = s.hostMem := rfl
@[simp] theorem State.setTile_out (s : State) (n : Nat) (x : Tile) : (s.setTile n x).out = s.out := rfl
@[simp] theorem State.setTile_time (s : State) (n : Nat) (x : Tile) : (s.setTile n x).time = s.time := rfl
@[simp] theorem State.setTile_link (s : State) (n : Nat) (x : Tile) : (s.setTile n x).link = s.link := rfl
@[simp] theorem State.setTile_gen (s : State) (n : Nat) (x : Tile) : (s.setTile n x).gen = s.gen := rfl
@[simp] theorem State.setTile_cmd (s : State) (n : Nat) (x : Tile) : (s.setTile n x).cmd = s.cmd := rfl
@[simp] theorem State.setTile_rooms (s : State) (n : Nat) (x : Tile) : (s.setTile n x).rooms = s.rooms := rfl
@[simp] theorem State.setTile_rings (s : State) (n : Nat) (x : Tile) : (s.setTile n x).rings = s.rings := rfl
@[simp] theorem State.setTile_arb (s : State) (n : Nat) (x : Tile) : (s.setTile n x).arb = s.arb := rfl
@[simp] theorem State.setTile_msgs (s : State) (n : Nat) (x : Tile) : (s.setTile n x).msgs = s.msgs := rfl
@[simp] theorem State.setTile_ports (s : State) (n : Nat) (x : Tile) : (s.setTile n x).ports = s.ports := rfl
@[simp] theorem State.setTile_pipe (s : State) (n : Nat) (x : Tile) : (s.setTile n x).pipe = s.pipe := rfl
@[simp] theorem State.setTile_cls (s : State) (n : Nat) (x : Tile) : (s.setTile n x).cls = s.cls := rfl
@[simp] theorem State.setTile_tm (s : State) (n : Nat) (x : Tile) : (s.setTile n x).tm = s.tm := rfl
@[simp] theorem State.setTile_cores (s : State) (n : Nat) (x : Tile) : (s.setTile n x).cores = s.cores := rfl
@[simp] theorem State.setTile_mem (s : State) (n : Nat) (x : Tile) : (s.setTile n x).mem = s.mem := rfl
@[simp] theorem State.setTile_memory (s : State) (n : Nat) (x : Tile) : (s.setTile n x).memory = s.memory := rfl
@[simp] theorem State.setTile_fault (s : State) (n : Nat) (x : Tile) : (s.setTile n x).fault = s.fault := rfl
@[simp] theorem State.setTile_sr (s : State) (n : Nat) (x : Tile) : (s.setTile n x).sr = s.sr := rfl
@[simp] theorem State.setTile_store (s : State) (n : Nat) (x : Tile) : (s.setTile n x).store = s.store := rfl
@[simp] theorem State.setTile_power (s : State) (n : Nat) (x : Tile) : (s.setTile n x).power = s.power := rfl
@[simp] theorem State.setTile_jtag (s : State) (n : Nat) (x : Tile) : (s.setTile n x).jtag = s.jtag := rfl

/-! `setGroup` -/
@[simp] theorem State.setGroup_pending (s : State) (g : Nat) (x : Group) : (s.setGroup g x).pending = s.pending := rfl
@[simp] theorem State.setGroup_clock (s : State) (g : Nat) (x : Group) : (s.setGroup g x).clock = s.clock := rfl
@[simp] theorem State.setGroup_draws (s : State) (g : Nat) (x : Group) : (s.setGroup g x).draws = s.draws := rfl
@[simp] theorem State.setGroup_regs (s : State) (g : Nat) (x : Group) : (s.setGroup g x).regs = s.regs := rfl
@[simp] theorem State.setGroup_hostMem (s : State) (g : Nat) (x : Group) : (s.setGroup g x).hostMem = s.hostMem := rfl
@[simp] theorem State.setGroup_out (s : State) (g : Nat) (x : Group) : (s.setGroup g x).out = s.out := rfl
@[simp] theorem State.setGroup_time (s : State) (g : Nat) (x : Group) : (s.setGroup g x).time = s.time := rfl
@[simp] theorem State.setGroup_link (s : State) (g : Nat) (x : Group) : (s.setGroup g x).link = s.link := rfl
@[simp] theorem State.setGroup_gen (s : State) (g : Nat) (x : Group) : (s.setGroup g x).gen = s.gen := rfl
@[simp] theorem State.setGroup_cmd (s : State) (g : Nat) (x : Group) : (s.setGroup g x).cmd = s.cmd := rfl
@[simp] theorem State.setGroup_rooms (s : State) (g : Nat) (x : Group) : (s.setGroup g x).rooms = s.rooms := rfl
@[simp] theorem State.setGroup_rings (s : State) (g : Nat) (x : Group) : (s.setGroup g x).rings = s.rings := rfl
@[simp] theorem State.setGroup_arb (s : State) (g : Nat) (x : Group) : (s.setGroup g x).arb = s.arb := rfl
@[simp] theorem State.setGroup_msgs (s : State) (g : Nat) (x : Group) : (s.setGroup g x).msgs = s.msgs := rfl
@[simp] theorem State.setGroup_ports (s : State) (g : Nat) (x : Group) : (s.setGroup g x).ports = s.ports := rfl
@[simp] theorem State.setGroup_pipe (s : State) (g : Nat) (x : Group) : (s.setGroup g x).pipe = s.pipe := rfl
@[simp] theorem State.setGroup_cls (s : State) (g : Nat) (x : Group) : (s.setGroup g x).cls = s.cls := rfl
@[simp] theorem State.setGroup_tm (s : State) (g : Nat) (x : Group) : (s.setGroup g x).tm = s.tm := rfl
@[simp] theorem State.setGroup_mem (s : State) (g : Nat) (x : Group) : (s.setGroup g x).mem = s.mem := rfl
@[simp] theorem State.setGroup_memory (s : State) (g : Nat) (x : Group) : (s.setGroup g x).memory = s.memory := rfl
@[simp] theorem State.setGroup_fault (s : State) (g : Nat) (x : Group) : (s.setGroup g x).fault = s.fault := rfl
@[simp] theorem State.setGroup_sr (s : State) (g : Nat) (x : Group) : (s.setGroup g x).sr = s.sr := rfl
@[simp] theorem State.setGroup_tiles (s : State) (g : Nat) (x : Group) : (s.setGroup g x).tiles = s.tiles := rfl
@[simp] theorem State.setGroup_store (s : State) (g : Nat) (x : Group) : (s.setGroup g x).store = s.store := rfl
@[simp] theorem State.setGroup_power (s : State) (g : Nat) (x : Group) : (s.setGroup g x).power = s.power := rfl
@[simp] theorem State.setGroup_jtag (s : State) (g : Nat) (x : Group) : (s.setGroup g x).jtag = s.jtag := rfl

/-! `setPort` -/
@[simp] theorem State.setPort_pending (s : State) (n : Nat) (p : Port) : (s.setPort n p).pending = s.pending := rfl
@[simp] theorem State.setPort_clock (s : State) (n : Nat) (p : Port) : (s.setPort n p).clock = s.clock := rfl
@[simp] theorem State.setPort_draws (s : State) (n : Nat) (p : Port) : (s.setPort n p).draws = s.draws := rfl
@[simp] theorem State.setPort_regs (s : State) (n : Nat) (p : Port) : (s.setPort n p).regs = s.regs := rfl
@[simp] theorem State.setPort_hostMem (s : State) (n : Nat) (p : Port) : (s.setPort n p).hostMem = s.hostMem := rfl
@[simp] theorem State.setPort_out (s : State) (n : Nat) (p : Port) : (s.setPort n p).out = s.out := rfl
@[simp] theorem State.setPort_time (s : State) (n : Nat) (p : Port) : (s.setPort n p).time = s.time := rfl
@[simp] theorem State.setPort_link (s : State) (n : Nat) (p : Port) : (s.setPort n p).link = s.link := rfl
@[simp] theorem State.setPort_gen (s : State) (n : Nat) (p : Port) : (s.setPort n p).gen = s.gen := rfl
@[simp] theorem State.setPort_cmd (s : State) (n : Nat) (p : Port) : (s.setPort n p).cmd = s.cmd := rfl
@[simp] theorem State.setPort_rooms (s : State) (n : Nat) (p : Port) : (s.setPort n p).rooms = s.rooms := rfl
@[simp] theorem State.setPort_rings (s : State) (n : Nat) (p : Port) : (s.setPort n p).rings = s.rings := rfl
@[simp] theorem State.setPort_arb (s : State) (n : Nat) (p : Port) : (s.setPort n p).arb = s.arb := rfl
@[simp] theorem State.setPort_msgs (s : State) (n : Nat) (p : Port) : (s.setPort n p).msgs = s.msgs := rfl
@[simp] theorem State.setPort_pipe (s : State) (n : Nat) (p : Port) : (s.setPort n p).pipe = s.pipe := rfl
@[simp] theorem State.setPort_cls (s : State) (n : Nat) (p : Port) : (s.setPort n p).cls = s.cls := rfl
@[simp] theorem State.setPort_tm (s : State) (n : Nat) (p : Port) : (s.setPort n p).tm = s.tm := rfl
@[simp] theorem State.setPort_cores (s : State) (n : Nat) (p : Port) : (s.setPort n p).cores = s.cores := rfl
@[simp] theorem State.setPort_mem (s : State) (n : Nat) (p : Port) : (s.setPort n p).mem = s.mem := rfl
@[simp] theorem State.setPort_memory (s : State) (n : Nat) (p : Port) : (s.setPort n p).memory = s.memory := rfl
@[simp] theorem State.setPort_fault (s : State) (n : Nat) (p : Port) : (s.setPort n p).fault = s.fault := rfl
@[simp] theorem State.setPort_sr (s : State) (n : Nat) (p : Port) : (s.setPort n p).sr = s.sr := rfl
@[simp] theorem State.setPort_tiles (s : State) (n : Nat) (p : Port) : (s.setPort n p).tiles = s.tiles := rfl
@[simp] theorem State.setPort_store (s : State) (n : Nat) (p : Port) : (s.setPort n p).store = s.store := rfl
@[simp] theorem State.setPort_power (s : State) (n : Nat) (p : Port) : (s.setPort n p).power = s.power := rfl
@[simp] theorem State.setPort_jtag (s : State) (n : Nat) (p : Port) : (s.setPort n p).jtag = s.jtag := rfl

/-! `setLeaf` -/
@[simp] theorem State.setLeaf_pending (s : State) (n : Nat) (l : Leaf) : (s.setLeaf n l).pending = s.pending := rfl
@[simp] theorem State.setLeaf_clock (s : State) (n : Nat) (l : Leaf) : (s.setLeaf n l).clock = s.clock := rfl
@[simp] theorem State.setLeaf_draws (s : State) (n : Nat) (l : Leaf) : (s.setLeaf n l).draws = s.draws := rfl
@[simp] theorem State.setLeaf_regs (s : State) (n : Nat) (l : Leaf) : (s.setLeaf n l).regs = s.regs := rfl
@[simp] theorem State.setLeaf_hostMem (s : State) (n : Nat) (l : Leaf) : (s.setLeaf n l).hostMem = s.hostMem := rfl
@[simp] theorem State.setLeaf_out (s : State) (n : Nat) (l : Leaf) : (s.setLeaf n l).out = s.out := rfl
@[simp] theorem State.setLeaf_time (s : State) (n : Nat) (l : Leaf) : (s.setLeaf n l).time = s.time := rfl
@[simp] theorem State.setLeaf_link (s : State) (n : Nat) (l : Leaf) : (s.setLeaf n l).link = s.link := rfl
@[simp] theorem State.setLeaf_gen (s : State) (n : Nat) (l : Leaf) : (s.setLeaf n l).gen = s.gen := rfl
@[simp] theorem State.setLeaf_cmd (s : State) (n : Nat) (l : Leaf) : (s.setLeaf n l).cmd = s.cmd := rfl
@[simp] theorem State.setLeaf_rooms (s : State) (n : Nat) (l : Leaf) : (s.setLeaf n l).rooms = s.rooms := rfl
@[simp] theorem State.setLeaf_rings (s : State) (n : Nat) (l : Leaf) : (s.setLeaf n l).rings = s.rings := rfl
@[simp] theorem State.setLeaf_arb (s : State) (n : Nat) (l : Leaf) : (s.setLeaf n l).arb = s.arb := rfl
@[simp] theorem State.setLeaf_msgs (s : State) (n : Nat) (l : Leaf) : (s.setLeaf n l).msgs = s.msgs := rfl
@[simp] theorem State.setLeaf_ports (s : State) (n : Nat) (l : Leaf) : (s.setLeaf n l).ports = s.ports := rfl
@[simp] theorem State.setLeaf_pipe (s : State) (n : Nat) (l : Leaf) : (s.setLeaf n l).pipe = s.pipe := rfl
@[simp] theorem State.setLeaf_cls (s : State) (n : Nat) (l : Leaf) : (s.setLeaf n l).cls = s.cls := rfl
@[simp] theorem State.setLeaf_cores (s : State) (n : Nat) (l : Leaf) : (s.setLeaf n l).cores = s.cores := rfl
@[simp] theorem State.setLeaf_mem (s : State) (n : Nat) (l : Leaf) : (s.setLeaf n l).mem = s.mem := rfl
@[simp] theorem State.setLeaf_memory (s : State) (n : Nat) (l : Leaf) : (s.setLeaf n l).memory = s.memory := rfl
@[simp] theorem State.setLeaf_fault (s : State) (n : Nat) (l : Leaf) : (s.setLeaf n l).fault = s.fault := rfl
@[simp] theorem State.setLeaf_sr (s : State) (n : Nat) (l : Leaf) : (s.setLeaf n l).sr = s.sr := rfl
@[simp] theorem State.setLeaf_tiles (s : State) (n : Nat) (l : Leaf) : (s.setLeaf n l).tiles = s.tiles := rfl
@[simp] theorem State.setLeaf_store (s : State) (n : Nat) (l : Leaf) : (s.setLeaf n l).store = s.store := rfl
@[simp] theorem State.setLeaf_power (s : State) (n : Nat) (l : Leaf) : (s.setLeaf n l).power = s.power := rfl
@[simp] theorem State.setLeaf_jtag (s : State) (n : Nat) (l : Leaf) : (s.setLeaf n l).jtag = s.jtag := rfl

/-! `setTag` -/
@[simp] theorem State.setTag_pending (s : State) (t : Nat) (x : Tag) : (s.setTag t x).pending = s.pending := rfl
@[simp] theorem State.setTag_clock (s : State) (t : Nat) (x : Tag) : (s.setTag t x).clock = s.clock := rfl
@[simp] theorem State.setTag_draws (s : State) (t : Nat) (x : Tag) : (s.setTag t x).draws = s.draws := rfl
@[simp] theorem State.setTag_regs (s : State) (t : Nat) (x : Tag) : (s.setTag t x).regs = s.regs := rfl
@[simp] theorem State.setTag_hostMem (s : State) (t : Nat) (x : Tag) : (s.setTag t x).hostMem = s.hostMem := rfl
@[simp] theorem State.setTag_out (s : State) (t : Nat) (x : Tag) : (s.setTag t x).out = s.out := rfl
@[simp] theorem State.setTag_time (s : State) (t : Nat) (x : Tag) : (s.setTag t x).time = s.time := rfl
@[simp] theorem State.setTag_gen (s : State) (t : Nat) (x : Tag) : (s.setTag t x).gen = s.gen := rfl
@[simp] theorem State.setTag_cmd (s : State) (t : Nat) (x : Tag) : (s.setTag t x).cmd = s.cmd := rfl
@[simp] theorem State.setTag_rooms (s : State) (t : Nat) (x : Tag) : (s.setTag t x).rooms = s.rooms := rfl
@[simp] theorem State.setTag_rings (s : State) (t : Nat) (x : Tag) : (s.setTag t x).rings = s.rings := rfl
@[simp] theorem State.setTag_arb (s : State) (t : Nat) (x : Tag) : (s.setTag t x).arb = s.arb := rfl
@[simp] theorem State.setTag_msgs (s : State) (t : Nat) (x : Tag) : (s.setTag t x).msgs = s.msgs := rfl
@[simp] theorem State.setTag_ports (s : State) (t : Nat) (x : Tag) : (s.setTag t x).ports = s.ports := rfl
@[simp] theorem State.setTag_pipe (s : State) (t : Nat) (x : Tag) : (s.setTag t x).pipe = s.pipe := rfl
@[simp] theorem State.setTag_cls (s : State) (t : Nat) (x : Tag) : (s.setTag t x).cls = s.cls := rfl
@[simp] theorem State.setTag_tm (s : State) (t : Nat) (x : Tag) : (s.setTag t x).tm = s.tm := rfl
@[simp] theorem State.setTag_cores (s : State) (t : Nat) (x : Tag) : (s.setTag t x).cores = s.cores := rfl
@[simp] theorem State.setTag_mem (s : State) (t : Nat) (x : Tag) : (s.setTag t x).mem = s.mem := rfl
@[simp] theorem State.setTag_memory (s : State) (t : Nat) (x : Tag) : (s.setTag t x).memory = s.memory := rfl
@[simp] theorem State.setTag_fault (s : State) (t : Nat) (x : Tag) : (s.setTag t x).fault = s.fault := rfl
@[simp] theorem State.setTag_sr (s : State) (t : Nat) (x : Tag) : (s.setTag t x).sr = s.sr := rfl
@[simp] theorem State.setTag_tiles (s : State) (t : Nat) (x : Tag) : (s.setTag t x).tiles = s.tiles := rfl
@[simp] theorem State.setTag_store (s : State) (t : Nat) (x : Tag) : (s.setTag t x).store = s.store := rfl
@[simp] theorem State.setTag_power (s : State) (t : Nat) (x : Tag) : (s.setTag t x).power = s.power := rfl
@[simp] theorem State.setTag_jtag (s : State) (t : Nat) (x : Tag) : (s.setTag t x).jtag = s.jtag := rfl

/-! `setPps` -/
@[simp] theorem State.setPps_pending (s : State) (n : Nat) (x : Pps) : (s.setPps n x).pending = s.pending := rfl
@[simp] theorem State.setPps_clock (s : State) (n : Nat) (x : Pps) : (s.setPps n x).clock = s.clock := rfl
@[simp] theorem State.setPps_draws (s : State) (n : Nat) (x : Pps) : (s.setPps n x).draws = s.draws := rfl
@[simp] theorem State.setPps_regs (s : State) (n : Nat) (x : Pps) : (s.setPps n x).regs = s.regs := rfl
@[simp] theorem State.setPps_hostMem (s : State) (n : Nat) (x : Pps) : (s.setPps n x).hostMem = s.hostMem := rfl
@[simp] theorem State.setPps_out (s : State) (n : Nat) (x : Pps) : (s.setPps n x).out = s.out := rfl
@[simp] theorem State.setPps_link (s : State) (n : Nat) (x : Pps) : (s.setPps n x).link = s.link := rfl
@[simp] theorem State.setPps_gen (s : State) (n : Nat) (x : Pps) : (s.setPps n x).gen = s.gen := rfl
@[simp] theorem State.setPps_cmd (s : State) (n : Nat) (x : Pps) : (s.setPps n x).cmd = s.cmd := rfl
@[simp] theorem State.setPps_rooms (s : State) (n : Nat) (x : Pps) : (s.setPps n x).rooms = s.rooms := rfl
@[simp] theorem State.setPps_rings (s : State) (n : Nat) (x : Pps) : (s.setPps n x).rings = s.rings := rfl
@[simp] theorem State.setPps_arb (s : State) (n : Nat) (x : Pps) : (s.setPps n x).arb = s.arb := rfl
@[simp] theorem State.setPps_msgs (s : State) (n : Nat) (x : Pps) : (s.setPps n x).msgs = s.msgs := rfl
@[simp] theorem State.setPps_ports (s : State) (n : Nat) (x : Pps) : (s.setPps n x).ports = s.ports := rfl
@[simp] theorem State.setPps_pipe (s : State) (n : Nat) (x : Pps) : (s.setPps n x).pipe = s.pipe := rfl
@[simp] theorem State.setPps_cls (s : State) (n : Nat) (x : Pps) : (s.setPps n x).cls = s.cls := rfl
@[simp] theorem State.setPps_tm (s : State) (n : Nat) (x : Pps) : (s.setPps n x).tm = s.tm := rfl
@[simp] theorem State.setPps_cores (s : State) (n : Nat) (x : Pps) : (s.setPps n x).cores = s.cores := rfl
@[simp] theorem State.setPps_mem (s : State) (n : Nat) (x : Pps) : (s.setPps n x).mem = s.mem := rfl
@[simp] theorem State.setPps_memory (s : State) (n : Nat) (x : Pps) : (s.setPps n x).memory = s.memory := rfl
@[simp] theorem State.setPps_fault (s : State) (n : Nat) (x : Pps) : (s.setPps n x).fault = s.fault := rfl
@[simp] theorem State.setPps_sr (s : State) (n : Nat) (x : Pps) : (s.setPps n x).sr = s.sr := rfl
@[simp] theorem State.setPps_tiles (s : State) (n : Nat) (x : Pps) : (s.setPps n x).tiles = s.tiles := rfl
@[simp] theorem State.setPps_store (s : State) (n : Nat) (x : Pps) : (s.setPps n x).store = s.store := rfl
@[simp] theorem State.setPps_power (s : State) (n : Nat) (x : Pps) : (s.setPps n x).power = s.power := rfl
@[simp] theorem State.setPps_jtag (s : State) (n : Nat) (x : Pps) : (s.setPps n x).jtag = s.jtag := rfl

/-! `setGate` -/
@[simp] theorem State.setGate_pending (s : State) (port : Nat) (g : Gate) : (s.setGate port g).pending = s.pending := rfl
@[simp] theorem State.setGate_clock (s : State) (port : Nat) (g : Gate) : (s.setGate port g).clock = s.clock := rfl
@[simp] theorem State.setGate_draws (s : State) (port : Nat) (g : Gate) : (s.setGate port g).draws = s.draws := rfl
@[simp] theorem State.setGate_regs (s : State) (port : Nat) (g : Gate) : (s.setGate port g).regs = s.regs := rfl
@[simp] theorem State.setGate_hostMem (s : State) (port : Nat) (g : Gate) : (s.setGate port g).hostMem = s.hostMem := rfl
@[simp] theorem State.setGate_out (s : State) (port : Nat) (g : Gate) : (s.setGate port g).out = s.out := rfl
@[simp] theorem State.setGate_time (s : State) (port : Nat) (g : Gate) : (s.setGate port g).time = s.time := rfl
@[simp] theorem State.setGate_link (s : State) (port : Nat) (g : Gate) : (s.setGate port g).link = s.link := rfl
@[simp] theorem State.setGate_gen (s : State) (port : Nat) (g : Gate) : (s.setGate port g).gen = s.gen := rfl
@[simp] theorem State.setGate_cmd (s : State) (port : Nat) (g : Gate) : (s.setGate port g).cmd = s.cmd := rfl
@[simp] theorem State.setGate_rooms (s : State) (port : Nat) (g : Gate) : (s.setGate port g).rooms = s.rooms := rfl
@[simp] theorem State.setGate_rings (s : State) (port : Nat) (g : Gate) : (s.setGate port g).rings = s.rings := rfl
@[simp] theorem State.setGate_arb (s : State) (port : Nat) (g : Gate) : (s.setGate port g).arb = s.arb := rfl
@[simp] theorem State.setGate_msgs (s : State) (port : Nat) (g : Gate) : (s.setGate port g).msgs = s.msgs := rfl
@[simp] theorem State.setGate_ports (s : State) (port : Nat) (g : Gate) : (s.setGate port g).ports = s.ports := rfl
@[simp] theorem State.setGate_pipe (s : State) (port : Nat) (g : Gate) : (s.setGate port g).pipe = s.pipe := rfl
@[simp] theorem State.setGate_cls (s : State) (port : Nat) (g : Gate) : (s.setGate port g).cls = s.cls := rfl
@[simp] theorem State.setGate_cores (s : State) (port : Nat) (g : Gate) : (s.setGate port g).cores = s.cores := rfl
@[simp] theorem State.setGate_mem (s : State) (port : Nat) (g : Gate) : (s.setGate port g).mem = s.mem := rfl
@[simp] theorem State.setGate_memory (s : State) (port : Nat) (g : Gate) : (s.setGate port g).memory = s.memory := rfl
@[simp] theorem State.setGate_fault (s : State) (port : Nat) (g : Gate) : (s.setGate port g).fault = s.fault := rfl
@[simp] theorem State.setGate_sr (s : State) (port : Nat) (g : Gate) : (s.setGate port g).sr = s.sr := rfl
@[simp] theorem State.setGate_tiles (s : State) (port : Nat) (g : Gate) : (s.setGate port g).tiles = s.tiles := rfl
@[simp] theorem State.setGate_store (s : State) (port : Nat) (g : Gate) : (s.setGate port g).store = s.store := rfl
@[simp] theorem State.setGate_power (s : State) (port : Nat) (g : Gate) : (s.setGate port g).power = s.power := rfl
@[simp] theorem State.setGate_jtag (s : State) (port : Nat) (g : Gate) : (s.setGate port g).jtag = s.jtag := rfl

/-! `setPolicer` -/
@[simp] theorem State.setPolicer_pending (s : State) (n : Nat) (p : Policer) : (s.setPolicer n p).pending = s.pending := rfl
@[simp] theorem State.setPolicer_clock (s : State) (n : Nat) (p : Policer) : (s.setPolicer n p).clock = s.clock := rfl
@[simp] theorem State.setPolicer_draws (s : State) (n : Nat) (p : Policer) : (s.setPolicer n p).draws = s.draws := rfl
@[simp] theorem State.setPolicer_regs (s : State) (n : Nat) (p : Policer) : (s.setPolicer n p).regs = s.regs := rfl
@[simp] theorem State.setPolicer_hostMem (s : State) (n : Nat) (p : Policer) : (s.setPolicer n p).hostMem = s.hostMem := rfl
@[simp] theorem State.setPolicer_out (s : State) (n : Nat) (p : Policer) : (s.setPolicer n p).out = s.out := rfl
@[simp] theorem State.setPolicer_time (s : State) (n : Nat) (p : Policer) : (s.setPolicer n p).time = s.time := rfl
@[simp] theorem State.setPolicer_link (s : State) (n : Nat) (p : Policer) : (s.setPolicer n p).link = s.link := rfl
@[simp] theorem State.setPolicer_gen (s : State) (n : Nat) (p : Policer) : (s.setPolicer n p).gen = s.gen := rfl
@[simp] theorem State.setPolicer_cmd (s : State) (n : Nat) (p : Policer) : (s.setPolicer n p).cmd = s.cmd := rfl
@[simp] theorem State.setPolicer_rooms (s : State) (n : Nat) (p : Policer) : (s.setPolicer n p).rooms = s.rooms := rfl
@[simp] theorem State.setPolicer_rings (s : State) (n : Nat) (p : Policer) : (s.setPolicer n p).rings = s.rings := rfl
@[simp] theorem State.setPolicer_arb (s : State) (n : Nat) (p : Policer) : (s.setPolicer n p).arb = s.arb := rfl
@[simp] theorem State.setPolicer_msgs (s : State) (n : Nat) (p : Policer) : (s.setPolicer n p).msgs = s.msgs := rfl
@[simp] theorem State.setPolicer_ports (s : State) (n : Nat) (p : Policer) : (s.setPolicer n p).ports = s.ports := rfl
@[simp] theorem State.setPolicer_pipe (s : State) (n : Nat) (p : Policer) : (s.setPolicer n p).pipe = s.pipe := rfl
@[simp] theorem State.setPolicer_cls (s : State) (n : Nat) (p : Policer) : (s.setPolicer n p).cls = s.cls := rfl
@[simp] theorem State.setPolicer_cores (s : State) (n : Nat) (p : Policer) : (s.setPolicer n p).cores = s.cores := rfl
@[simp] theorem State.setPolicer_mem (s : State) (n : Nat) (p : Policer) : (s.setPolicer n p).mem = s.mem := rfl
@[simp] theorem State.setPolicer_memory (s : State) (n : Nat) (p : Policer) : (s.setPolicer n p).memory = s.memory := rfl
@[simp] theorem State.setPolicer_fault (s : State) (n : Nat) (p : Policer) : (s.setPolicer n p).fault = s.fault := rfl
@[simp] theorem State.setPolicer_sr (s : State) (n : Nat) (p : Policer) : (s.setPolicer n p).sr = s.sr := rfl
@[simp] theorem State.setPolicer_tiles (s : State) (n : Nat) (p : Policer) : (s.setPolicer n p).tiles = s.tiles := rfl
@[simp] theorem State.setPolicer_store (s : State) (n : Nat) (p : Policer) : (s.setPolicer n p).store = s.store := rfl
@[simp] theorem State.setPolicer_power (s : State) (n : Nat) (p : Policer) : (s.setPolicer n p).power = s.power := rfl
@[simp] theorem State.setPolicer_jtag (s : State) (n : Nat) (p : Policer) : (s.setPolicer n p).jtag = s.jtag := rfl

/-! `setCredit` -/
@[simp] theorem State.setCredit_pending (s : State) (dest level idx : Nat) (v : Int) : (s.setCredit dest level idx v).pending = s.pending := rfl
@[simp] theorem State.setCredit_clock (s : State) (dest level idx : Nat) (v : Int) : (s.setCredit dest level idx v).clock = s.clock := rfl
@[simp] theorem State.setCredit_draws (s : State) (dest level idx : Nat) (v : Int) : (s.setCredit dest level idx v).draws = s.draws := rfl
@[simp] theorem State.setCredit_regs (s : State) (dest level idx : Nat) (v : Int) : (s.setCredit dest level idx v).regs = s.regs := rfl
@[simp] theorem State.setCredit_hostMem (s : State) (dest level idx : Nat) (v : Int) : (s.setCredit dest level idx v).hostMem = s.hostMem := rfl
@[simp] theorem State.setCredit_out (s : State) (dest level idx : Nat) (v : Int) : (s.setCredit dest level idx v).out = s.out := rfl
@[simp] theorem State.setCredit_time (s : State) (dest level idx : Nat) (v : Int) : (s.setCredit dest level idx v).time = s.time := rfl
@[simp] theorem State.setCredit_link (s : State) (dest level idx : Nat) (v : Int) : (s.setCredit dest level idx v).link = s.link := rfl
@[simp] theorem State.setCredit_gen (s : State) (dest level idx : Nat) (v : Int) : (s.setCredit dest level idx v).gen = s.gen := rfl
@[simp] theorem State.setCredit_cmd (s : State) (dest level idx : Nat) (v : Int) : (s.setCredit dest level idx v).cmd = s.cmd := rfl
@[simp] theorem State.setCredit_rooms (s : State) (dest level idx : Nat) (v : Int) : (s.setCredit dest level idx v).rooms = s.rooms := rfl
@[simp] theorem State.setCredit_rings (s : State) (dest level idx : Nat) (v : Int) : (s.setCredit dest level idx v).rings = s.rings := rfl
@[simp] theorem State.setCredit_arb (s : State) (dest level idx : Nat) (v : Int) : (s.setCredit dest level idx v).arb = s.arb := rfl
@[simp] theorem State.setCredit_msgs (s : State) (dest level idx : Nat) (v : Int) : (s.setCredit dest level idx v).msgs = s.msgs := rfl
@[simp] theorem State.setCredit_ports (s : State) (dest level idx : Nat) (v : Int) : (s.setCredit dest level idx v).ports = s.ports := rfl
@[simp] theorem State.setCredit_pipe (s : State) (dest level idx : Nat) (v : Int) : (s.setCredit dest level idx v).pipe = s.pipe := rfl
@[simp] theorem State.setCredit_cls (s : State) (dest level idx : Nat) (v : Int) : (s.setCredit dest level idx v).cls = s.cls := rfl
@[simp] theorem State.setCredit_cores (s : State) (dest level idx : Nat) (v : Int) : (s.setCredit dest level idx v).cores = s.cores := rfl
@[simp] theorem State.setCredit_mem (s : State) (dest level idx : Nat) (v : Int) : (s.setCredit dest level idx v).mem = s.mem := rfl
@[simp] theorem State.setCredit_memory (s : State) (dest level idx : Nat) (v : Int) : (s.setCredit dest level idx v).memory = s.memory := rfl
@[simp] theorem State.setCredit_fault (s : State) (dest level idx : Nat) (v : Int) : (s.setCredit dest level idx v).fault = s.fault := rfl
@[simp] theorem State.setCredit_sr (s : State) (dest level idx : Nat) (v : Int) : (s.setCredit dest level idx v).sr = s.sr := rfl
@[simp] theorem State.setCredit_tiles (s : State) (dest level idx : Nat) (v : Int) : (s.setCredit dest level idx v).tiles = s.tiles := rfl
@[simp] theorem State.setCredit_store (s : State) (dest level idx : Nat) (v : Int) : (s.setCredit dest level idx v).store = s.store := rfl
@[simp] theorem State.setCredit_power (s : State) (dest level idx : Nat) (v : Int) : (s.setCredit dest level idx v).power = s.power := rfl
@[simp] theorem State.setCredit_jtag (s : State) (dest level idx : Nat) (v : Int) : (s.setCredit dest level idx v).jtag = s.jtag := rfl

/-! `stage` -/
@[simp] theorem State.stage_pending (s : State) (op sel : Nat) (b : List Byte) : (s.stage op sel b).pending = s.pending := rfl
@[simp] theorem State.stage_clock (s : State) (op sel : Nat) (b : List Byte) : (s.stage op sel b).clock = s.clock := rfl
@[simp] theorem State.stage_draws (s : State) (op sel : Nat) (b : List Byte) : (s.stage op sel b).draws = s.draws := rfl
@[simp] theorem State.stage_regs (s : State) (op sel : Nat) (b : List Byte) : (s.stage op sel b).regs = s.regs := rfl
@[simp] theorem State.stage_hostMem (s : State) (op sel : Nat) (b : List Byte) : (s.stage op sel b).hostMem = s.hostMem := rfl
@[simp] theorem State.stage_out (s : State) (op sel : Nat) (b : List Byte) : (s.stage op sel b).out = s.out := rfl
@[simp] theorem State.stage_time (s : State) (op sel : Nat) (b : List Byte) : (s.stage op sel b).time = s.time := rfl
@[simp] theorem State.stage_link (s : State) (op sel : Nat) (b : List Byte) : (s.stage op sel b).link = s.link := rfl
@[simp] theorem State.stage_cmd (s : State) (op sel : Nat) (b : List Byte) : (s.stage op sel b).cmd = s.cmd := rfl
@[simp] theorem State.stage_rooms (s : State) (op sel : Nat) (b : List Byte) : (s.stage op sel b).rooms = s.rooms := rfl
@[simp] theorem State.stage_rings (s : State) (op sel : Nat) (b : List Byte) : (s.stage op sel b).rings = s.rings := rfl
@[simp] theorem State.stage_arb (s : State) (op sel : Nat) (b : List Byte) : (s.stage op sel b).arb = s.arb := rfl
@[simp] theorem State.stage_msgs (s : State) (op sel : Nat) (b : List Byte) : (s.stage op sel b).msgs = s.msgs := rfl
@[simp] theorem State.stage_ports (s : State) (op sel : Nat) (b : List Byte) : (s.stage op sel b).ports = s.ports := rfl
@[simp] theorem State.stage_pipe (s : State) (op sel : Nat) (b : List Byte) : (s.stage op sel b).pipe = s.pipe := rfl
@[simp] theorem State.stage_cls (s : State) (op sel : Nat) (b : List Byte) : (s.stage op sel b).cls = s.cls := rfl
@[simp] theorem State.stage_tm (s : State) (op sel : Nat) (b : List Byte) : (s.stage op sel b).tm = s.tm := rfl
@[simp] theorem State.stage_cores (s : State) (op sel : Nat) (b : List Byte) : (s.stage op sel b).cores = s.cores := rfl
@[simp] theorem State.stage_mem (s : State) (op sel : Nat) (b : List Byte) : (s.stage op sel b).mem = s.mem := rfl
@[simp] theorem State.stage_memory (s : State) (op sel : Nat) (b : List Byte) : (s.stage op sel b).memory = s.memory := rfl
@[simp] theorem State.stage_fault (s : State) (op sel : Nat) (b : List Byte) : (s.stage op sel b).fault = s.fault := rfl
@[simp] theorem State.stage_sr (s : State) (op sel : Nat) (b : List Byte) : (s.stage op sel b).sr = s.sr := rfl
@[simp] theorem State.stage_tiles (s : State) (op sel : Nat) (b : List Byte) : (s.stage op sel b).tiles = s.tiles := rfl
@[simp] theorem State.stage_store (s : State) (op sel : Nat) (b : List Byte) : (s.stage op sel b).store = s.store := rfl
@[simp] theorem State.stage_power (s : State) (op sel : Nat) (b : List Byte) : (s.stage op sel b).power = s.power := rfl
@[simp] theorem State.stage_jtag (s : State) (op sel : Nat) (b : List Byte) : (s.stage op sel b).jtag = s.jtag := rfl

/-! `unstage` -/
@[simp] theorem State.unstage_pending (s : State) (op sel : Nat) : (s.unstage op sel).pending = s.pending := rfl
@[simp] theorem State.unstage_clock (s : State) (op sel : Nat) : (s.unstage op sel).clock = s.clock := rfl
@[simp] theorem State.unstage_draws (s : State) (op sel : Nat) : (s.unstage op sel).draws = s.draws := rfl
@[simp] theorem State.unstage_regs (s : State) (op sel : Nat) : (s.unstage op sel).regs = s.regs := rfl
@[simp] theorem State.unstage_hostMem (s : State) (op sel : Nat) : (s.unstage op sel).hostMem = s.hostMem := rfl
@[simp] theorem State.unstage_out (s : State) (op sel : Nat) : (s.unstage op sel).out = s.out := rfl
@[simp] theorem State.unstage_time (s : State) (op sel : Nat) : (s.unstage op sel).time = s.time := rfl
@[simp] theorem State.unstage_link (s : State) (op sel : Nat) : (s.unstage op sel).link = s.link := rfl
@[simp] theorem State.unstage_cmd (s : State) (op sel : Nat) : (s.unstage op sel).cmd = s.cmd := rfl
@[simp] theorem State.unstage_rooms (s : State) (op sel : Nat) : (s.unstage op sel).rooms = s.rooms := rfl
@[simp] theorem State.unstage_rings (s : State) (op sel : Nat) : (s.unstage op sel).rings = s.rings := rfl
@[simp] theorem State.unstage_arb (s : State) (op sel : Nat) : (s.unstage op sel).arb = s.arb := rfl
@[simp] theorem State.unstage_msgs (s : State) (op sel : Nat) : (s.unstage op sel).msgs = s.msgs := rfl
@[simp] theorem State.unstage_ports (s : State) (op sel : Nat) : (s.unstage op sel).ports = s.ports := rfl
@[simp] theorem State.unstage_pipe (s : State) (op sel : Nat) : (s.unstage op sel).pipe = s.pipe := rfl
@[simp] theorem State.unstage_cls (s : State) (op sel : Nat) : (s.unstage op sel).cls = s.cls := rfl
@[simp] theorem State.unstage_tm (s : State) (op sel : Nat) : (s.unstage op sel).tm = s.tm := rfl
@[simp] theorem State.unstage_cores (s : State) (op sel : Nat) : (s.unstage op sel).cores = s.cores := rfl
@[simp] theorem State.unstage_mem (s : State) (op sel : Nat) : (s.unstage op sel).mem = s.mem := rfl
@[simp] theorem State.unstage_memory (s : State) (op sel : Nat) : (s.unstage op sel).memory = s.memory := rfl
@[simp] theorem State.unstage_fault (s : State) (op sel : Nat) : (s.unstage op sel).fault = s.fault := rfl
@[simp] theorem State.unstage_sr (s : State) (op sel : Nat) : (s.unstage op sel).sr = s.sr := rfl
@[simp] theorem State.unstage_tiles (s : State) (op sel : Nat) : (s.unstage op sel).tiles = s.tiles := rfl
@[simp] theorem State.unstage_store (s : State) (op sel : Nat) : (s.unstage op sel).store = s.store := rfl
@[simp] theorem State.unstage_power (s : State) (op sel : Nat) : (s.unstage op sel).power = s.power := rfl
@[simp] theorem State.unstage_jtag (s : State) (op sel : Nat) : (s.unstage op sel).jtag = s.jtag := rfl

/-! `setStore` -/
@[simp] theorem State.setStore_pending (s : State) (x : Store) : (s.setStore x).pending = s.pending := rfl
@[simp] theorem State.setStore_clock (s : State) (x : Store) : (s.setStore x).clock = s.clock := rfl
@[simp] theorem State.setStore_draws (s : State) (x : Store) : (s.setStore x).draws = s.draws := rfl
@[simp] theorem State.setStore_regs (s : State) (x : Store) : (s.setStore x).regs = s.regs := rfl
@[simp] theorem State.setStore_hostMem (s : State) (x : Store) : (s.setStore x).hostMem = s.hostMem := rfl
@[simp] theorem State.setStore_out (s : State) (x : Store) : (s.setStore x).out = s.out := rfl
@[simp] theorem State.setStore_time (s : State) (x : Store) : (s.setStore x).time = s.time := rfl
@[simp] theorem State.setStore_link (s : State) (x : Store) : (s.setStore x).link = s.link := rfl
@[simp] theorem State.setStore_gen (s : State) (x : Store) : (s.setStore x).gen = s.gen := rfl
@[simp] theorem State.setStore_cmd (s : State) (x : Store) : (s.setStore x).cmd = s.cmd := rfl
@[simp] theorem State.setStore_rooms (s : State) (x : Store) : (s.setStore x).rooms = s.rooms := rfl
@[simp] theorem State.setStore_rings (s : State) (x : Store) : (s.setStore x).rings = s.rings := rfl
@[simp] theorem State.setStore_arb (s : State) (x : Store) : (s.setStore x).arb = s.arb := rfl
@[simp] theorem State.setStore_msgs (s : State) (x : Store) : (s.setStore x).msgs = s.msgs := rfl
@[simp] theorem State.setStore_ports (s : State) (x : Store) : (s.setStore x).ports = s.ports := rfl
@[simp] theorem State.setStore_pipe (s : State) (x : Store) : (s.setStore x).pipe = s.pipe := rfl
@[simp] theorem State.setStore_cls (s : State) (x : Store) : (s.setStore x).cls = s.cls := rfl
@[simp] theorem State.setStore_tm (s : State) (x : Store) : (s.setStore x).tm = s.tm := rfl
@[simp] theorem State.setStore_cores (s : State) (x : Store) : (s.setStore x).cores = s.cores := rfl
@[simp] theorem State.setStore_mem (s : State) (x : Store) : (s.setStore x).mem = s.mem := rfl
@[simp] theorem State.setStore_memory (s : State) (x : Store) : (s.setStore x).memory = s.memory := rfl
@[simp] theorem State.setStore_fault (s : State) (x : Store) : (s.setStore x).fault = s.fault := rfl
@[simp] theorem State.setStore_sr (s : State) (x : Store) : (s.setStore x).sr = s.sr := rfl
@[simp] theorem State.setStore_tiles (s : State) (x : Store) : (s.setStore x).tiles = s.tiles := rfl
@[simp] theorem State.setStore_power (s : State) (x : Store) : (s.setStore x).power = s.power := rfl
@[simp] theorem State.setStore_jtag (s : State) (x : Store) : (s.setStore x).jtag = s.jtag := rfl

/-! `setDrive` -/
@[simp] theorem State.setDrive_pending (s : State) (d : Nat) (x : Drive) : (s.setDrive d x).pending = s.pending := rfl
@[simp] theorem State.setDrive_clock (s : State) (d : Nat) (x : Drive) : (s.setDrive d x).clock = s.clock := rfl
@[simp] theorem State.setDrive_draws (s : State) (d : Nat) (x : Drive) : (s.setDrive d x).draws = s.draws := rfl
@[simp] theorem State.setDrive_regs (s : State) (d : Nat) (x : Drive) : (s.setDrive d x).regs = s.regs := rfl
@[simp] theorem State.setDrive_hostMem (s : State) (d : Nat) (x : Drive) : (s.setDrive d x).hostMem = s.hostMem := rfl
@[simp] theorem State.setDrive_out (s : State) (d : Nat) (x : Drive) : (s.setDrive d x).out = s.out := rfl
@[simp] theorem State.setDrive_time (s : State) (d : Nat) (x : Drive) : (s.setDrive d x).time = s.time := rfl
@[simp] theorem State.setDrive_link (s : State) (d : Nat) (x : Drive) : (s.setDrive d x).link = s.link := rfl
@[simp] theorem State.setDrive_gen (s : State) (d : Nat) (x : Drive) : (s.setDrive d x).gen = s.gen := rfl
@[simp] theorem State.setDrive_cmd (s : State) (d : Nat) (x : Drive) : (s.setDrive d x).cmd = s.cmd := rfl
@[simp] theorem State.setDrive_rooms (s : State) (d : Nat) (x : Drive) : (s.setDrive d x).rooms = s.rooms := rfl
@[simp] theorem State.setDrive_rings (s : State) (d : Nat) (x : Drive) : (s.setDrive d x).rings = s.rings := rfl
@[simp] theorem State.setDrive_arb (s : State) (d : Nat) (x : Drive) : (s.setDrive d x).arb = s.arb := rfl
@[simp] theorem State.setDrive_msgs (s : State) (d : Nat) (x : Drive) : (s.setDrive d x).msgs = s.msgs := rfl
@[simp] theorem State.setDrive_ports (s : State) (d : Nat) (x : Drive) : (s.setDrive d x).ports = s.ports := rfl
@[simp] theorem State.setDrive_pipe (s : State) (d : Nat) (x : Drive) : (s.setDrive d x).pipe = s.pipe := rfl
@[simp] theorem State.setDrive_cls (s : State) (d : Nat) (x : Drive) : (s.setDrive d x).cls = s.cls := rfl
@[simp] theorem State.setDrive_tm (s : State) (d : Nat) (x : Drive) : (s.setDrive d x).tm = s.tm := rfl
@[simp] theorem State.setDrive_cores (s : State) (d : Nat) (x : Drive) : (s.setDrive d x).cores = s.cores := rfl
@[simp] theorem State.setDrive_mem (s : State) (d : Nat) (x : Drive) : (s.setDrive d x).mem = s.mem := rfl
@[simp] theorem State.setDrive_memory (s : State) (d : Nat) (x : Drive) : (s.setDrive d x).memory = s.memory := rfl
@[simp] theorem State.setDrive_fault (s : State) (d : Nat) (x : Drive) : (s.setDrive d x).fault = s.fault := rfl
@[simp] theorem State.setDrive_sr (s : State) (d : Nat) (x : Drive) : (s.setDrive d x).sr = s.sr := rfl
@[simp] theorem State.setDrive_tiles (s : State) (d : Nat) (x : Drive) : (s.setDrive d x).tiles = s.tiles := rfl
@[simp] theorem State.setDrive_power (s : State) (d : Nat) (x : Drive) : (s.setDrive d x).power = s.power := rfl
@[simp] theorem State.setDrive_jtag (s : State) (d : Nat) (x : Drive) : (s.setDrive d x).jtag = s.jtag := rfl

/-! `setVolume` -/
@[simp] theorem State.setVolume_pending (s : State) (n : Nat) (v : Volume) : (s.setVolume n v).pending = s.pending := rfl
@[simp] theorem State.setVolume_clock (s : State) (n : Nat) (v : Volume) : (s.setVolume n v).clock = s.clock := rfl
@[simp] theorem State.setVolume_draws (s : State) (n : Nat) (v : Volume) : (s.setVolume n v).draws = s.draws := rfl
@[simp] theorem State.setVolume_regs (s : State) (n : Nat) (v : Volume) : (s.setVolume n v).regs = s.regs := rfl
@[simp] theorem State.setVolume_hostMem (s : State) (n : Nat) (v : Volume) : (s.setVolume n v).hostMem = s.hostMem := rfl
@[simp] theorem State.setVolume_out (s : State) (n : Nat) (v : Volume) : (s.setVolume n v).out = s.out := rfl
@[simp] theorem State.setVolume_time (s : State) (n : Nat) (v : Volume) : (s.setVolume n v).time = s.time := rfl
@[simp] theorem State.setVolume_link (s : State) (n : Nat) (v : Volume) : (s.setVolume n v).link = s.link := rfl
@[simp] theorem State.setVolume_gen (s : State) (n : Nat) (v : Volume) : (s.setVolume n v).gen = s.gen := rfl
@[simp] theorem State.setVolume_cmd (s : State) (n : Nat) (v : Volume) : (s.setVolume n v).cmd = s.cmd := rfl
@[simp] theorem State.setVolume_rooms (s : State) (n : Nat) (v : Volume) : (s.setVolume n v).rooms = s.rooms := rfl
@[simp] theorem State.setVolume_rings (s : State) (n : Nat) (v : Volume) : (s.setVolume n v).rings = s.rings := rfl
@[simp] theorem State.setVolume_arb (s : State) (n : Nat) (v : Volume) : (s.setVolume n v).arb = s.arb := rfl
@[simp] theorem State.setVolume_msgs (s : State) (n : Nat) (v : Volume) : (s.setVolume n v).msgs = s.msgs := rfl
@[simp] theorem State.setVolume_ports (s : State) (n : Nat) (v : Volume) : (s.setVolume n v).ports = s.ports := rfl
@[simp] theorem State.setVolume_pipe (s : State) (n : Nat) (v : Volume) : (s.setVolume n v).pipe = s.pipe := rfl
@[simp] theorem State.setVolume_cls (s : State) (n : Nat) (v : Volume) : (s.setVolume n v).cls = s.cls := rfl
@[simp] theorem State.setVolume_tm (s : State) (n : Nat) (v : Volume) : (s.setVolume n v).tm = s.tm := rfl
@[simp] theorem State.setVolume_cores (s : State) (n : Nat) (v : Volume) : (s.setVolume n v).cores = s.cores := rfl
@[simp] theorem State.setVolume_mem (s : State) (n : Nat) (v : Volume) : (s.setVolume n v).mem = s.mem := rfl
@[simp] theorem State.setVolume_memory (s : State) (n : Nat) (v : Volume) : (s.setVolume n v).memory = s.memory := rfl
@[simp] theorem State.setVolume_fault (s : State) (n : Nat) (v : Volume) : (s.setVolume n v).fault = s.fault := rfl
@[simp] theorem State.setVolume_sr (s : State) (n : Nat) (v : Volume) : (s.setVolume n v).sr = s.sr := rfl
@[simp] theorem State.setVolume_tiles (s : State) (n : Nat) (v : Volume) : (s.setVolume n v).tiles = s.tiles := rfl
@[simp] theorem State.setVolume_power (s : State) (n : Nat) (v : Volume) : (s.setVolume n v).power = s.power := rfl
@[simp] theorem State.setVolume_jtag (s : State) (n : Nat) (v : Volume) : (s.setVolume n v).jtag = s.jtag := rfl

/-! `setSpace` -/
@[simp] theorem State.setSpace_pending (s : State) (n : Nat) (x : Space) : (s.setSpace n x).pending = s.pending := rfl
@[simp] theorem State.setSpace_clock (s : State) (n : Nat) (x : Space) : (s.setSpace n x).clock = s.clock := rfl
@[simp] theorem State.setSpace_draws (s : State) (n : Nat) (x : Space) : (s.setSpace n x).draws = s.draws := rfl
@[simp] theorem State.setSpace_regs (s : State) (n : Nat) (x : Space) : (s.setSpace n x).regs = s.regs := rfl
@[simp] theorem State.setSpace_hostMem (s : State) (n : Nat) (x : Space) : (s.setSpace n x).hostMem = s.hostMem := rfl
@[simp] theorem State.setSpace_out (s : State) (n : Nat) (x : Space) : (s.setSpace n x).out = s.out := rfl
@[simp] theorem State.setSpace_time (s : State) (n : Nat) (x : Space) : (s.setSpace n x).time = s.time := rfl
@[simp] theorem State.setSpace_link (s : State) (n : Nat) (x : Space) : (s.setSpace n x).link = s.link := rfl
@[simp] theorem State.setSpace_gen (s : State) (n : Nat) (x : Space) : (s.setSpace n x).gen = s.gen := rfl
@[simp] theorem State.setSpace_cmd (s : State) (n : Nat) (x : Space) : (s.setSpace n x).cmd = s.cmd := rfl
@[simp] theorem State.setSpace_rooms (s : State) (n : Nat) (x : Space) : (s.setSpace n x).rooms = s.rooms := rfl
@[simp] theorem State.setSpace_rings (s : State) (n : Nat) (x : Space) : (s.setSpace n x).rings = s.rings := rfl
@[simp] theorem State.setSpace_arb (s : State) (n : Nat) (x : Space) : (s.setSpace n x).arb = s.arb := rfl
@[simp] theorem State.setSpace_msgs (s : State) (n : Nat) (x : Space) : (s.setSpace n x).msgs = s.msgs := rfl
@[simp] theorem State.setSpace_ports (s : State) (n : Nat) (x : Space) : (s.setSpace n x).ports = s.ports := rfl
@[simp] theorem State.setSpace_pipe (s : State) (n : Nat) (x : Space) : (s.setSpace n x).pipe = s.pipe := rfl
@[simp] theorem State.setSpace_cls (s : State) (n : Nat) (x : Space) : (s.setSpace n x).cls = s.cls := rfl
@[simp] theorem State.setSpace_tm (s : State) (n : Nat) (x : Space) : (s.setSpace n x).tm = s.tm := rfl
@[simp] theorem State.setSpace_cores (s : State) (n : Nat) (x : Space) : (s.setSpace n x).cores = s.cores := rfl
@[simp] theorem State.setSpace_mem (s : State) (n : Nat) (x : Space) : (s.setSpace n x).mem = s.mem := rfl
@[simp] theorem State.setSpace_memory (s : State) (n : Nat) (x : Space) : (s.setSpace n x).memory = s.memory := rfl
@[simp] theorem State.setSpace_fault (s : State) (n : Nat) (x : Space) : (s.setSpace n x).fault = s.fault := rfl
@[simp] theorem State.setSpace_sr (s : State) (n : Nat) (x : Space) : (s.setSpace n x).sr = s.sr := rfl
@[simp] theorem State.setSpace_tiles (s : State) (n : Nat) (x : Space) : (s.setSpace n x).tiles = s.tiles := rfl
@[simp] theorem State.setSpace_power (s : State) (n : Nat) (x : Space) : (s.setSpace n x).power = s.power := rfl
@[simp] theorem State.setSpace_jtag (s : State) (n : Nat) (x : Space) : (s.setSpace n x).jtag = s.jtag := rfl

/-! `setRope` -/
@[simp] theorem State.setRope_pending (s : State) (r : Rope) : (s.setRope r).pending = s.pending := rfl
@[simp] theorem State.setRope_clock (s : State) (r : Rope) : (s.setRope r).clock = s.clock := rfl
@[simp] theorem State.setRope_draws (s : State) (r : Rope) : (s.setRope r).draws = s.draws := rfl
@[simp] theorem State.setRope_regs (s : State) (r : Rope) : (s.setRope r).regs = s.regs := rfl
@[simp] theorem State.setRope_hostMem (s : State) (r : Rope) : (s.setRope r).hostMem = s.hostMem := rfl
@[simp] theorem State.setRope_out (s : State) (r : Rope) : (s.setRope r).out = s.out := rfl
@[simp] theorem State.setRope_time (s : State) (r : Rope) : (s.setRope r).time = s.time := rfl
@[simp] theorem State.setRope_link (s : State) (r : Rope) : (s.setRope r).link = s.link := rfl
@[simp] theorem State.setRope_gen (s : State) (r : Rope) : (s.setRope r).gen = s.gen := rfl
@[simp] theorem State.setRope_cmd (s : State) (r : Rope) : (s.setRope r).cmd = s.cmd := rfl
@[simp] theorem State.setRope_rooms (s : State) (r : Rope) : (s.setRope r).rooms = s.rooms := rfl
@[simp] theorem State.setRope_rings (s : State) (r : Rope) : (s.setRope r).rings = s.rings := rfl
@[simp] theorem State.setRope_arb (s : State) (r : Rope) : (s.setRope r).arb = s.arb := rfl
@[simp] theorem State.setRope_msgs (s : State) (r : Rope) : (s.setRope r).msgs = s.msgs := rfl
@[simp] theorem State.setRope_ports (s : State) (r : Rope) : (s.setRope r).ports = s.ports := rfl
@[simp] theorem State.setRope_pipe (s : State) (r : Rope) : (s.setRope r).pipe = s.pipe := rfl
@[simp] theorem State.setRope_cls (s : State) (r : Rope) : (s.setRope r).cls = s.cls := rfl
@[simp] theorem State.setRope_tm (s : State) (r : Rope) : (s.setRope r).tm = s.tm := rfl
@[simp] theorem State.setRope_cores (s : State) (r : Rope) : (s.setRope r).cores = s.cores := rfl
@[simp] theorem State.setRope_mem (s : State) (r : Rope) : (s.setRope r).mem = s.mem := rfl
@[simp] theorem State.setRope_memory (s : State) (r : Rope) : (s.setRope r).memory = s.memory := rfl
@[simp] theorem State.setRope_fault (s : State) (r : Rope) : (s.setRope r).fault = s.fault := rfl
@[simp] theorem State.setRope_sr (s : State) (r : Rope) : (s.setRope r).sr = s.sr := rfl
@[simp] theorem State.setRope_tiles (s : State) (r : Rope) : (s.setRope r).tiles = s.tiles := rfl
@[simp] theorem State.setRope_power (s : State) (r : Rope) : (s.setRope r).power = s.power := rfl
@[simp] theorem State.setRope_jtag (s : State) (r : Rope) : (s.setRope r).jtag = s.jtag := rfl

/-! `setBatch` -/
@[simp] theorem State.setBatch_pending (s : State) (n : Nat) (b : Batch) : (s.setBatch n b).pending = s.pending := rfl
@[simp] theorem State.setBatch_clock (s : State) (n : Nat) (b : Batch) : (s.setBatch n b).clock = s.clock := rfl
@[simp] theorem State.setBatch_draws (s : State) (n : Nat) (b : Batch) : (s.setBatch n b).draws = s.draws := rfl
@[simp] theorem State.setBatch_regs (s : State) (n : Nat) (b : Batch) : (s.setBatch n b).regs = s.regs := rfl
@[simp] theorem State.setBatch_hostMem (s : State) (n : Nat) (b : Batch) : (s.setBatch n b).hostMem = s.hostMem := rfl
@[simp] theorem State.setBatch_out (s : State) (n : Nat) (b : Batch) : (s.setBatch n b).out = s.out := rfl
@[simp] theorem State.setBatch_time (s : State) (n : Nat) (b : Batch) : (s.setBatch n b).time = s.time := rfl
@[simp] theorem State.setBatch_link (s : State) (n : Nat) (b : Batch) : (s.setBatch n b).link = s.link := rfl
@[simp] theorem State.setBatch_gen (s : State) (n : Nat) (b : Batch) : (s.setBatch n b).gen = s.gen := rfl
@[simp] theorem State.setBatch_cmd (s : State) (n : Nat) (b : Batch) : (s.setBatch n b).cmd = s.cmd := rfl
@[simp] theorem State.setBatch_rooms (s : State) (n : Nat) (b : Batch) : (s.setBatch n b).rooms = s.rooms := rfl
@[simp] theorem State.setBatch_rings (s : State) (n : Nat) (b : Batch) : (s.setBatch n b).rings = s.rings := rfl
@[simp] theorem State.setBatch_arb (s : State) (n : Nat) (b : Batch) : (s.setBatch n b).arb = s.arb := rfl
@[simp] theorem State.setBatch_msgs (s : State) (n : Nat) (b : Batch) : (s.setBatch n b).msgs = s.msgs := rfl
@[simp] theorem State.setBatch_ports (s : State) (n : Nat) (b : Batch) : (s.setBatch n b).ports = s.ports := rfl
@[simp] theorem State.setBatch_pipe (s : State) (n : Nat) (b : Batch) : (s.setBatch n b).pipe = s.pipe := rfl
@[simp] theorem State.setBatch_cls (s : State) (n : Nat) (b : Batch) : (s.setBatch n b).cls = s.cls := rfl
@[simp] theorem State.setBatch_tm (s : State) (n : Nat) (b : Batch) : (s.setBatch n b).tm = s.tm := rfl
@[simp] theorem State.setBatch_cores (s : State) (n : Nat) (b : Batch) : (s.setBatch n b).cores = s.cores := rfl
@[simp] theorem State.setBatch_mem (s : State) (n : Nat) (b : Batch) : (s.setBatch n b).mem = s.mem := rfl
@[simp] theorem State.setBatch_memory (s : State) (n : Nat) (b : Batch) : (s.setBatch n b).memory = s.memory := rfl
@[simp] theorem State.setBatch_fault (s : State) (n : Nat) (b : Batch) : (s.setBatch n b).fault = s.fault := rfl
@[simp] theorem State.setBatch_sr (s : State) (n : Nat) (b : Batch) : (s.setBatch n b).sr = s.sr := rfl
@[simp] theorem State.setBatch_tiles (s : State) (n : Nat) (b : Batch) : (s.setBatch n b).tiles = s.tiles := rfl
@[simp] theorem State.setBatch_power (s : State) (n : Nat) (b : Batch) : (s.setBatch n b).power = s.power := rfl
@[simp] theorem State.setBatch_jtag (s : State) (n : Nat) (b : Batch) : (s.setBatch n b).jtag = s.jtag := rfl

/-! `setConn` -/
@[simp] theorem State.setConn_pending (s : State) (c : Nat) (x : Conn) : (s.setConn c x).pending = s.pending := rfl
@[simp] theorem State.setConn_clock (s : State) (c : Nat) (x : Conn) : (s.setConn c x).clock = s.clock := rfl
@[simp] theorem State.setConn_draws (s : State) (c : Nat) (x : Conn) : (s.setConn c x).draws = s.draws := rfl
@[simp] theorem State.setConn_regs (s : State) (c : Nat) (x : Conn) : (s.setConn c x).regs = s.regs := rfl
@[simp] theorem State.setConn_hostMem (s : State) (c : Nat) (x : Conn) : (s.setConn c x).hostMem = s.hostMem := rfl
@[simp] theorem State.setConn_out (s : State) (c : Nat) (x : Conn) : (s.setConn c x).out = s.out := rfl
@[simp] theorem State.setConn_time (s : State) (c : Nat) (x : Conn) : (s.setConn c x).time = s.time := rfl
@[simp] theorem State.setConn_link (s : State) (c : Nat) (x : Conn) : (s.setConn c x).link = s.link := rfl
@[simp] theorem State.setConn_gen (s : State) (c : Nat) (x : Conn) : (s.setConn c x).gen = s.gen := rfl
@[simp] theorem State.setConn_cmd (s : State) (c : Nat) (x : Conn) : (s.setConn c x).cmd = s.cmd := rfl
@[simp] theorem State.setConn_rooms (s : State) (c : Nat) (x : Conn) : (s.setConn c x).rooms = s.rooms := rfl
@[simp] theorem State.setConn_rings (s : State) (c : Nat) (x : Conn) : (s.setConn c x).rings = s.rings := rfl
@[simp] theorem State.setConn_arb (s : State) (c : Nat) (x : Conn) : (s.setConn c x).arb = s.arb := rfl
@[simp] theorem State.setConn_msgs (s : State) (c : Nat) (x : Conn) : (s.setConn c x).msgs = s.msgs := rfl
@[simp] theorem State.setConn_ports (s : State) (c : Nat) (x : Conn) : (s.setConn c x).ports = s.ports := rfl
@[simp] theorem State.setConn_pipe (s : State) (c : Nat) (x : Conn) : (s.setConn c x).pipe = s.pipe := rfl
@[simp] theorem State.setConn_cls (s : State) (c : Nat) (x : Conn) : (s.setConn c x).cls = s.cls := rfl
@[simp] theorem State.setConn_tm (s : State) (c : Nat) (x : Conn) : (s.setConn c x).tm = s.tm := rfl
@[simp] theorem State.setConn_cores (s : State) (c : Nat) (x : Conn) : (s.setConn c x).cores = s.cores := rfl
@[simp] theorem State.setConn_mem (s : State) (c : Nat) (x : Conn) : (s.setConn c x).mem = s.mem := rfl
@[simp] theorem State.setConn_memory (s : State) (c : Nat) (x : Conn) : (s.setConn c x).memory = s.memory := rfl
@[simp] theorem State.setConn_fault (s : State) (c : Nat) (x : Conn) : (s.setConn c x).fault = s.fault := rfl
@[simp] theorem State.setConn_sr (s : State) (c : Nat) (x : Conn) : (s.setConn c x).sr = s.sr := rfl
@[simp] theorem State.setConn_tiles (s : State) (c : Nat) (x : Conn) : (s.setConn c x).tiles = s.tiles := rfl
@[simp] theorem State.setConn_power (s : State) (c : Nat) (x : Conn) : (s.setConn c x).power = s.power := rfl
@[simp] theorem State.setConn_jtag (s : State) (c : Nat) (x : Conn) : (s.setConn c x).jtag = s.jtag := rfl

/-! `setCtrl` -/
@[simp] theorem State.setCtrl_pending (s : State) (k : Nat) (x : Ctrl) : (s.setCtrl k x).pending = s.pending := rfl
@[simp] theorem State.setCtrl_clock (s : State) (k : Nat) (x : Ctrl) : (s.setCtrl k x).clock = s.clock := rfl
@[simp] theorem State.setCtrl_draws (s : State) (k : Nat) (x : Ctrl) : (s.setCtrl k x).draws = s.draws := rfl
@[simp] theorem State.setCtrl_regs (s : State) (k : Nat) (x : Ctrl) : (s.setCtrl k x).regs = s.regs := rfl
@[simp] theorem State.setCtrl_hostMem (s : State) (k : Nat) (x : Ctrl) : (s.setCtrl k x).hostMem = s.hostMem := rfl
@[simp] theorem State.setCtrl_out (s : State) (k : Nat) (x : Ctrl) : (s.setCtrl k x).out = s.out := rfl
@[simp] theorem State.setCtrl_time (s : State) (k : Nat) (x : Ctrl) : (s.setCtrl k x).time = s.time := rfl
@[simp] theorem State.setCtrl_link (s : State) (k : Nat) (x : Ctrl) : (s.setCtrl k x).link = s.link := rfl
@[simp] theorem State.setCtrl_gen (s : State) (k : Nat) (x : Ctrl) : (s.setCtrl k x).gen = s.gen := rfl
@[simp] theorem State.setCtrl_cmd (s : State) (k : Nat) (x : Ctrl) : (s.setCtrl k x).cmd = s.cmd := rfl
@[simp] theorem State.setCtrl_rooms (s : State) (k : Nat) (x : Ctrl) : (s.setCtrl k x).rooms = s.rooms := rfl
@[simp] theorem State.setCtrl_rings (s : State) (k : Nat) (x : Ctrl) : (s.setCtrl k x).rings = s.rings := rfl
@[simp] theorem State.setCtrl_arb (s : State) (k : Nat) (x : Ctrl) : (s.setCtrl k x).arb = s.arb := rfl
@[simp] theorem State.setCtrl_msgs (s : State) (k : Nat) (x : Ctrl) : (s.setCtrl k x).msgs = s.msgs := rfl
@[simp] theorem State.setCtrl_ports (s : State) (k : Nat) (x : Ctrl) : (s.setCtrl k x).ports = s.ports := rfl
@[simp] theorem State.setCtrl_pipe (s : State) (k : Nat) (x : Ctrl) : (s.setCtrl k x).pipe = s.pipe := rfl
@[simp] theorem State.setCtrl_cls (s : State) (k : Nat) (x : Ctrl) : (s.setCtrl k x).cls = s.cls := rfl
@[simp] theorem State.setCtrl_tm (s : State) (k : Nat) (x : Ctrl) : (s.setCtrl k x).tm = s.tm := rfl
@[simp] theorem State.setCtrl_cores (s : State) (k : Nat) (x : Ctrl) : (s.setCtrl k x).cores = s.cores := rfl
@[simp] theorem State.setCtrl_mem (s : State) (k : Nat) (x : Ctrl) : (s.setCtrl k x).mem = s.mem := rfl
@[simp] theorem State.setCtrl_memory (s : State) (k : Nat) (x : Ctrl) : (s.setCtrl k x).memory = s.memory := rfl
@[simp] theorem State.setCtrl_fault (s : State) (k : Nat) (x : Ctrl) : (s.setCtrl k x).fault = s.fault := rfl
@[simp] theorem State.setCtrl_sr (s : State) (k : Nat) (x : Ctrl) : (s.setCtrl k x).sr = s.sr := rfl
@[simp] theorem State.setCtrl_tiles (s : State) (k : Nat) (x : Ctrl) : (s.setCtrl k x).tiles = s.tiles := rfl
@[simp] theorem State.setCtrl_power (s : State) (k : Nat) (x : Ctrl) : (s.setCtrl k x).power = s.power := rfl
@[simp] theorem State.setCtrl_jtag (s : State) (k : Nat) (x : Ctrl) : (s.setCtrl k x).jtag = s.jtag := rfl

/-! `setOp` -/
@[simp] theorem State.setOp_pending (s : State) (o : StoreOp) : (s.setOp o).pending = s.pending := rfl
@[simp] theorem State.setOp_clock (s : State) (o : StoreOp) : (s.setOp o).clock = s.clock := rfl
@[simp] theorem State.setOp_draws (s : State) (o : StoreOp) : (s.setOp o).draws = s.draws := rfl
@[simp] theorem State.setOp_regs (s : State) (o : StoreOp) : (s.setOp o).regs = s.regs := rfl
@[simp] theorem State.setOp_hostMem (s : State) (o : StoreOp) : (s.setOp o).hostMem = s.hostMem := rfl
@[simp] theorem State.setOp_out (s : State) (o : StoreOp) : (s.setOp o).out = s.out := rfl
@[simp] theorem State.setOp_time (s : State) (o : StoreOp) : (s.setOp o).time = s.time := rfl
@[simp] theorem State.setOp_link (s : State) (o : StoreOp) : (s.setOp o).link = s.link := rfl
@[simp] theorem State.setOp_gen (s : State) (o : StoreOp) : (s.setOp o).gen = s.gen := rfl
@[simp] theorem State.setOp_cmd (s : State) (o : StoreOp) : (s.setOp o).cmd = s.cmd := rfl
@[simp] theorem State.setOp_rooms (s : State) (o : StoreOp) : (s.setOp o).rooms = s.rooms := rfl
@[simp] theorem State.setOp_rings (s : State) (o : StoreOp) : (s.setOp o).rings = s.rings := rfl
@[simp] theorem State.setOp_arb (s : State) (o : StoreOp) : (s.setOp o).arb = s.arb := rfl
@[simp] theorem State.setOp_msgs (s : State) (o : StoreOp) : (s.setOp o).msgs = s.msgs := rfl
@[simp] theorem State.setOp_ports (s : State) (o : StoreOp) : (s.setOp o).ports = s.ports := rfl
@[simp] theorem State.setOp_pipe (s : State) (o : StoreOp) : (s.setOp o).pipe = s.pipe := rfl
@[simp] theorem State.setOp_cls (s : State) (o : StoreOp) : (s.setOp o).cls = s.cls := rfl
@[simp] theorem State.setOp_tm (s : State) (o : StoreOp) : (s.setOp o).tm = s.tm := rfl
@[simp] theorem State.setOp_cores (s : State) (o : StoreOp) : (s.setOp o).cores = s.cores := rfl
@[simp] theorem State.setOp_mem (s : State) (o : StoreOp) : (s.setOp o).mem = s.mem := rfl
@[simp] theorem State.setOp_memory (s : State) (o : StoreOp) : (s.setOp o).memory = s.memory := rfl
@[simp] theorem State.setOp_fault (s : State) (o : StoreOp) : (s.setOp o).fault = s.fault := rfl
@[simp] theorem State.setOp_sr (s : State) (o : StoreOp) : (s.setOp o).sr = s.sr := rfl
@[simp] theorem State.setOp_tiles (s : State) (o : StoreOp) : (s.setOp o).tiles = s.tiles := rfl
@[simp] theorem State.setOp_power (s : State) (o : StoreOp) : (s.setOp o).power = s.power := rfl
@[simp] theorem State.setOp_jtag (s : State) (o : StoreOp) : (s.setOp o).jtag = s.jtag := rfl

/-! `setDomain` -/
@[simp] theorem State.setDomain_pending (s : State) (slot : Nat) (v : VaultRec) : (s.setDomain slot v).pending = s.pending := rfl
@[simp] theorem State.setDomain_clock (s : State) (slot : Nat) (v : VaultRec) : (s.setDomain slot v).clock = s.clock := rfl
@[simp] theorem State.setDomain_draws (s : State) (slot : Nat) (v : VaultRec) : (s.setDomain slot v).draws = s.draws := rfl
@[simp] theorem State.setDomain_regs (s : State) (slot : Nat) (v : VaultRec) : (s.setDomain slot v).regs = s.regs := rfl
@[simp] theorem State.setDomain_hostMem (s : State) (slot : Nat) (v : VaultRec) : (s.setDomain slot v).hostMem = s.hostMem := rfl
@[simp] theorem State.setDomain_out (s : State) (slot : Nat) (v : VaultRec) : (s.setDomain slot v).out = s.out := rfl
@[simp] theorem State.setDomain_time (s : State) (slot : Nat) (v : VaultRec) : (s.setDomain slot v).time = s.time := rfl
@[simp] theorem State.setDomain_link (s : State) (slot : Nat) (v : VaultRec) : (s.setDomain slot v).link = s.link := rfl
@[simp] theorem State.setDomain_gen (s : State) (slot : Nat) (v : VaultRec) : (s.setDomain slot v).gen = s.gen := rfl
@[simp] theorem State.setDomain_cmd (s : State) (slot : Nat) (v : VaultRec) : (s.setDomain slot v).cmd = s.cmd := rfl
@[simp] theorem State.setDomain_rooms (s : State) (slot : Nat) (v : VaultRec) : (s.setDomain slot v).rooms = s.rooms := rfl
@[simp] theorem State.setDomain_rings (s : State) (slot : Nat) (v : VaultRec) : (s.setDomain slot v).rings = s.rings := rfl
@[simp] theorem State.setDomain_arb (s : State) (slot : Nat) (v : VaultRec) : (s.setDomain slot v).arb = s.arb := rfl
@[simp] theorem State.setDomain_msgs (s : State) (slot : Nat) (v : VaultRec) : (s.setDomain slot v).msgs = s.msgs := rfl
@[simp] theorem State.setDomain_ports (s : State) (slot : Nat) (v : VaultRec) : (s.setDomain slot v).ports = s.ports := rfl
@[simp] theorem State.setDomain_pipe (s : State) (slot : Nat) (v : VaultRec) : (s.setDomain slot v).pipe = s.pipe := rfl
@[simp] theorem State.setDomain_cls (s : State) (slot : Nat) (v : VaultRec) : (s.setDomain slot v).cls = s.cls := rfl
@[simp] theorem State.setDomain_tm (s : State) (slot : Nat) (v : VaultRec) : (s.setDomain slot v).tm = s.tm := rfl
@[simp] theorem State.setDomain_cores (s : State) (slot : Nat) (v : VaultRec) : (s.setDomain slot v).cores = s.cores := rfl
@[simp] theorem State.setDomain_mem (s : State) (slot : Nat) (v : VaultRec) : (s.setDomain slot v).mem = s.mem := rfl
@[simp] theorem State.setDomain_memory (s : State) (slot : Nat) (v : VaultRec) : (s.setDomain slot v).memory = s.memory := rfl
@[simp] theorem State.setDomain_fault (s : State) (slot : Nat) (v : VaultRec) : (s.setDomain slot v).fault = s.fault := rfl
@[simp] theorem State.setDomain_tiles (s : State) (slot : Nat) (v : VaultRec) : (s.setDomain slot v).tiles = s.tiles := rfl
@[simp] theorem State.setDomain_store (s : State) (slot : Nat) (v : VaultRec) : (s.setDomain slot v).store = s.store := rfl
@[simp] theorem State.setDomain_power (s : State) (slot : Nat) (v : VaultRec) : (s.setDomain slot v).power = s.power := rfl
@[simp] theorem State.setDomain_jtag (s : State) (slot : Nat) (v : VaultRec) : (s.setDomain slot v).jtag = s.jtag := rfl

/-! `hold` -/
@[simp] theorem State.hold_pending (s : State) (x : Ctx) (long : Bool) (object : Nat) (refs : List Nat) : (s.hold x long object refs).pending = s.pending := rfl
@[simp] theorem State.hold_clock (s : State) (x : Ctx) (long : Bool) (object : Nat) (refs : List Nat) : (s.hold x long object refs).clock = s.clock := rfl
@[simp] theorem State.hold_draws (s : State) (x : Ctx) (long : Bool) (object : Nat) (refs : List Nat) : (s.hold x long object refs).draws = s.draws := rfl
@[simp] theorem State.hold_regs (s : State) (x : Ctx) (long : Bool) (object : Nat) (refs : List Nat) : (s.hold x long object refs).regs = s.regs := rfl
@[simp] theorem State.hold_hostMem (s : State) (x : Ctx) (long : Bool) (object : Nat) (refs : List Nat) : (s.hold x long object refs).hostMem = s.hostMem := rfl
@[simp] theorem State.hold_out (s : State) (x : Ctx) (long : Bool) (object : Nat) (refs : List Nat) : (s.hold x long object refs).out = s.out := rfl
@[simp] theorem State.hold_time (s : State) (x : Ctx) (long : Bool) (object : Nat) (refs : List Nat) : (s.hold x long object refs).time = s.time := rfl
@[simp] theorem State.hold_link (s : State) (x : Ctx) (long : Bool) (object : Nat) (refs : List Nat) : (s.hold x long object refs).link = s.link := rfl
@[simp] theorem State.hold_gen (s : State) (x : Ctx) (long : Bool) (object : Nat) (refs : List Nat) : (s.hold x long object refs).gen = s.gen := rfl
@[simp] theorem State.hold_rooms (s : State) (x : Ctx) (long : Bool) (object : Nat) (refs : List Nat) : (s.hold x long object refs).rooms = s.rooms := rfl
@[simp] theorem State.hold_rings (s : State) (x : Ctx) (long : Bool) (object : Nat) (refs : List Nat) : (s.hold x long object refs).rings = s.rings := rfl
@[simp] theorem State.hold_arb (s : State) (x : Ctx) (long : Bool) (object : Nat) (refs : List Nat) : (s.hold x long object refs).arb = s.arb := rfl
@[simp] theorem State.hold_msgs (s : State) (x : Ctx) (long : Bool) (object : Nat) (refs : List Nat) : (s.hold x long object refs).msgs = s.msgs := rfl
@[simp] theorem State.hold_ports (s : State) (x : Ctx) (long : Bool) (object : Nat) (refs : List Nat) : (s.hold x long object refs).ports = s.ports := rfl
@[simp] theorem State.hold_pipe (s : State) (x : Ctx) (long : Bool) (object : Nat) (refs : List Nat) : (s.hold x long object refs).pipe = s.pipe := rfl
@[simp] theorem State.hold_cls (s : State) (x : Ctx) (long : Bool) (object : Nat) (refs : List Nat) : (s.hold x long object refs).cls = s.cls := rfl
@[simp] theorem State.hold_tm (s : State) (x : Ctx) (long : Bool) (object : Nat) (refs : List Nat) : (s.hold x long object refs).tm = s.tm := rfl
@[simp] theorem State.hold_cores (s : State) (x : Ctx) (long : Bool) (object : Nat) (refs : List Nat) : (s.hold x long object refs).cores = s.cores := rfl
@[simp] theorem State.hold_mem (s : State) (x : Ctx) (long : Bool) (object : Nat) (refs : List Nat) : (s.hold x long object refs).mem = s.mem := rfl
@[simp] theorem State.hold_memory (s : State) (x : Ctx) (long : Bool) (object : Nat) (refs : List Nat) : (s.hold x long object refs).memory = s.memory := rfl
@[simp] theorem State.hold_fault (s : State) (x : Ctx) (long : Bool) (object : Nat) (refs : List Nat) : (s.hold x long object refs).fault = s.fault := rfl
@[simp] theorem State.hold_sr (s : State) (x : Ctx) (long : Bool) (object : Nat) (refs : List Nat) : (s.hold x long object refs).sr = s.sr := rfl
@[simp] theorem State.hold_tiles (s : State) (x : Ctx) (long : Bool) (object : Nat) (refs : List Nat) : (s.hold x long object refs).tiles = s.tiles := rfl
@[simp] theorem State.hold_store (s : State) (x : Ctx) (long : Bool) (object : Nat) (refs : List Nat) : (s.hold x long object refs).store = s.store := rfl
@[simp] theorem State.hold_power (s : State) (x : Ctx) (long : Bool) (object : Nat) (refs : List Nat) : (s.hold x long object refs).power = s.power := rfl
@[simp] theorem State.hold_jtag (s : State) (x : Ctx) (long : Bool) (object : Nat) (refs : List Nat) : (s.hold x long object refs).jtag = s.jtag := rfl

/-! `unrun` -/
@[simp] theorem State.unrun_pending (s : State) (r : Running) : (s.unrun r).pending = s.pending := rfl
@[simp] theorem State.unrun_clock (s : State) (r : Running) : (s.unrun r).clock = s.clock := rfl
@[simp] theorem State.unrun_draws (s : State) (r : Running) : (s.unrun r).draws = s.draws := rfl
@[simp] theorem State.unrun_regs (s : State) (r : Running) : (s.unrun r).regs = s.regs := rfl
@[simp] theorem State.unrun_hostMem (s : State) (r : Running) : (s.unrun r).hostMem = s.hostMem := rfl
@[simp] theorem State.unrun_out (s : State) (r : Running) : (s.unrun r).out = s.out := rfl
@[simp] theorem State.unrun_time (s : State) (r : Running) : (s.unrun r).time = s.time := rfl
@[simp] theorem State.unrun_link (s : State) (r : Running) : (s.unrun r).link = s.link := rfl
@[simp] theorem State.unrun_gen (s : State) (r : Running) : (s.unrun r).gen = s.gen := rfl
@[simp] theorem State.unrun_rooms (s : State) (r : Running) : (s.unrun r).rooms = s.rooms := rfl
@[simp] theorem State.unrun_rings (s : State) (r : Running) : (s.unrun r).rings = s.rings := rfl
@[simp] theorem State.unrun_arb (s : State) (r : Running) : (s.unrun r).arb = s.arb := rfl
@[simp] theorem State.unrun_msgs (s : State) (r : Running) : (s.unrun r).msgs = s.msgs := rfl
@[simp] theorem State.unrun_ports (s : State) (r : Running) : (s.unrun r).ports = s.ports := rfl
@[simp] theorem State.unrun_pipe (s : State) (r : Running) : (s.unrun r).pipe = s.pipe := rfl
@[simp] theorem State.unrun_cls (s : State) (r : Running) : (s.unrun r).cls = s.cls := rfl
@[simp] theorem State.unrun_tm (s : State) (r : Running) : (s.unrun r).tm = s.tm := rfl
@[simp] theorem State.unrun_cores (s : State) (r : Running) : (s.unrun r).cores = s.cores := rfl
@[simp] theorem State.unrun_mem (s : State) (r : Running) : (s.unrun r).mem = s.mem := rfl
@[simp] theorem State.unrun_memory (s : State) (r : Running) : (s.unrun r).memory = s.memory := rfl
@[simp] theorem State.unrun_fault (s : State) (r : Running) : (s.unrun r).fault = s.fault := rfl
@[simp] theorem State.unrun_sr (s : State) (r : Running) : (s.unrun r).sr = s.sr := rfl
@[simp] theorem State.unrun_tiles (s : State) (r : Running) : (s.unrun r).tiles = s.tiles := rfl
@[simp] theorem State.unrun_store (s : State) (r : Running) : (s.unrun r).store = s.store := rfl
@[simp] theorem State.unrun_power (s : State) (r : Running) : (s.unrun r).power = s.power := rfl
@[simp] theorem State.unrun_jtag (s : State) (r : Running) : (s.unrun r).jtag = s.jtag := rfl

/-! `count` -/
@[simp] theorem State.count_pending (s : State) (o : Nat) (n : Nat) : (s.count o n).pending = s.pending := rfl
@[simp] theorem State.count_clock (s : State) (o : Nat) (n : Nat) : (s.count o n).clock = s.clock := rfl
@[simp] theorem State.count_draws (s : State) (o : Nat) (n : Nat) : (s.count o n).draws = s.draws := rfl
@[simp] theorem State.count_hostMem (s : State) (o : Nat) (n : Nat) : (s.count o n).hostMem = s.hostMem := rfl
@[simp] theorem State.count_out (s : State) (o : Nat) (n : Nat) : (s.count o n).out = s.out := rfl
@[simp] theorem State.count_time (s : State) (o : Nat) (n : Nat) : (s.count o n).time = s.time := rfl
@[simp] theorem State.count_link (s : State) (o : Nat) (n : Nat) : (s.count o n).link = s.link := rfl
@[simp] theorem State.count_gen (s : State) (o : Nat) (n : Nat) : (s.count o n).gen = s.gen := rfl
@[simp] theorem State.count_cmd (s : State) (o : Nat) (n : Nat) : (s.count o n).cmd = s.cmd := rfl
@[simp] theorem State.count_rooms (s : State) (o : Nat) (n : Nat) : (s.count o n).rooms = s.rooms := rfl
@[simp] theorem State.count_rings (s : State) (o : Nat) (n : Nat) : (s.count o n).rings = s.rings := rfl
@[simp] theorem State.count_arb (s : State) (o : Nat) (n : Nat) : (s.count o n).arb = s.arb := rfl
@[simp] theorem State.count_msgs (s : State) (o : Nat) (n : Nat) : (s.count o n).msgs = s.msgs := rfl
@[simp] theorem State.count_ports (s : State) (o : Nat) (n : Nat) : (s.count o n).ports = s.ports := rfl
@[simp] theorem State.count_pipe (s : State) (o : Nat) (n : Nat) : (s.count o n).pipe = s.pipe := rfl
@[simp] theorem State.count_cls (s : State) (o : Nat) (n : Nat) : (s.count o n).cls = s.cls := rfl
@[simp] theorem State.count_tm (s : State) (o : Nat) (n : Nat) : (s.count o n).tm = s.tm := rfl
@[simp] theorem State.count_cores (s : State) (o : Nat) (n : Nat) : (s.count o n).cores = s.cores := rfl
@[simp] theorem State.count_mem (s : State) (o : Nat) (n : Nat) : (s.count o n).mem = s.mem := rfl
@[simp] theorem State.count_memory (s : State) (o : Nat) (n : Nat) : (s.count o n).memory = s.memory := rfl
@[simp] theorem State.count_fault (s : State) (o : Nat) (n : Nat) : (s.count o n).fault = s.fault := rfl
@[simp] theorem State.count_sr (s : State) (o : Nat) (n : Nat) : (s.count o n).sr = s.sr := rfl
@[simp] theorem State.count_tiles (s : State) (o : Nat) (n : Nat) : (s.count o n).tiles = s.tiles := rfl
@[simp] theorem State.count_store (s : State) (o : Nat) (n : Nat) : (s.count o n).store = s.store := rfl
@[simp] theorem State.count_power (s : State) (o : Nat) (n : Nat) : (s.count o n).power = s.power := rfl
@[simp] theorem State.count_jtag (s : State) (o : Nat) (n : Nat) : (s.count o n).jtag = s.jtag := rfl

/-! `bump` -/
@[simp] theorem State.bump_pending (s : State) (o : Nat) : (s.bump o).pending = s.pending := rfl
@[simp] theorem State.bump_clock (s : State) (o : Nat) : (s.bump o).clock = s.clock := rfl
@[simp] theorem State.bump_draws (s : State) (o : Nat) : (s.bump o).draws = s.draws := rfl
@[simp] theorem State.bump_hostMem (s : State) (o : Nat) : (s.bump o).hostMem = s.hostMem := rfl
@[simp] theorem State.bump_out (s : State) (o : Nat) : (s.bump o).out = s.out := rfl
@[simp] theorem State.bump_time (s : State) (o : Nat) : (s.bump o).time = s.time := rfl
@[simp] theorem State.bump_link (s : State) (o : Nat) : (s.bump o).link = s.link := rfl
@[simp] theorem State.bump_gen (s : State) (o : Nat) : (s.bump o).gen = s.gen := rfl
@[simp] theorem State.bump_cmd (s : State) (o : Nat) : (s.bump o).cmd = s.cmd := rfl
@[simp] theorem State.bump_rooms (s : State) (o : Nat) : (s.bump o).rooms = s.rooms := rfl
@[simp] theorem State.bump_rings (s : State) (o : Nat) : (s.bump o).rings = s.rings := rfl
@[simp] theorem State.bump_arb (s : State) (o : Nat) : (s.bump o).arb = s.arb := rfl
@[simp] theorem State.bump_msgs (s : State) (o : Nat) : (s.bump o).msgs = s.msgs := rfl
@[simp] theorem State.bump_ports (s : State) (o : Nat) : (s.bump o).ports = s.ports := rfl
@[simp] theorem State.bump_pipe (s : State) (o : Nat) : (s.bump o).pipe = s.pipe := rfl
@[simp] theorem State.bump_cls (s : State) (o : Nat) : (s.bump o).cls = s.cls := rfl
@[simp] theorem State.bump_tm (s : State) (o : Nat) : (s.bump o).tm = s.tm := rfl
@[simp] theorem State.bump_cores (s : State) (o : Nat) : (s.bump o).cores = s.cores := rfl
@[simp] theorem State.bump_mem (s : State) (o : Nat) : (s.bump o).mem = s.mem := rfl
@[simp] theorem State.bump_memory (s : State) (o : Nat) : (s.bump o).memory = s.memory := rfl
@[simp] theorem State.bump_fault (s : State) (o : Nat) : (s.bump o).fault = s.fault := rfl
@[simp] theorem State.bump_sr (s : State) (o : Nat) : (s.bump o).sr = s.sr := rfl
@[simp] theorem State.bump_tiles (s : State) (o : Nat) : (s.bump o).tiles = s.tiles := rfl
@[simp] theorem State.bump_store (s : State) (o : Nat) : (s.bump o).store = s.store := rfl
@[simp] theorem State.bump_power (s : State) (o : Nat) : (s.bump o).power = s.power := rfl
@[simp] theorem State.bump_jtag (s : State) (o : Nat) : (s.bump o).jtag = s.jtag := rfl
/-! ## Reading after an update -/

@[simp] theorem State.reg_setReg (s : State) (o : Nat) (v : BitVec 64) : (s.setReg o v).reg o = v := Tbl.get_set_self _ _ _ _
theorem State.reg_setReg_ne (s : State) {o o' : Nat} (v : BitVec 64) (h : o' ≠ o) : (s.setReg o v).reg o' = s.reg o' := Tbl.get_set_ne _ _ _ h
@[simp] theorem State.room_setRoom (s : State) (r : Nat) (x : Room) : (s.setRoom r x).room r = x := Tbl.get_set_self _ _ _ _
theorem State.room_setRoom_ne (s : State) {r r' : Nat} (x : Room) (h : r' ≠ r) : (s.setRoom r x).room r' = s.room r' := Tbl.get_set_ne _ _ _ h
@[simp] theorem State.ring_setRing (s : State) (r : Nat) (x : Ring) : (s.setRing r x).ring r = x := Tbl.get_set_self _ _ _ _
theorem State.ring_setRing_ne (s : State) {r r' : Nat} (x : Ring) (h : r' ≠ r) : (s.setRing r x).ring r' = s.ring r' := Tbl.get_set_ne _ _ _ h
@[simp] theorem State.msg_setMsg (s : State) (e : Nat) (x : MsgEntry) : (s.setMsg e x).msg e = x := Tbl.get_set_self _ _ _ _
theorem State.msg_setMsg_ne (s : State) {e e' : Nat} (x : MsgEntry) (h : e' ≠ e) : (s.setMsg e x).msg e' = s.msg e' := Tbl.get_set_ne _ _ _ h
@[simp] theorem State.vec_setVec (s : State) (v : Nat) (x : MsixEntry) : (s.setVec v x).vec v = x := Tbl.get_set_self _ _ _ _
theorem State.vec_setVec_ne (s : State) {v v' : Nat} (x : MsixEntry) (h : v' ≠ v) : (s.setVec v x).vec v' = s.vec v' := Tbl.get_set_ne _ _ _ h
@[simp] theorem State.thread_setThread (s : State) (t : Nat) (x : Thread) : (s.setThread t x).thread t = x := Tbl.get_set_self _ _ _ _
theorem State.thread_setThread_ne (s : State) {t t' : Nat} (x : Thread) (h : t' ≠ t) : (s.setThread t x).thread t' = s.thread t' := Tbl.get_set_ne _ _ _ h
@[simp] theorem State.line_setLine (s : State) (n : Nat) (x : Line) : (s.setLine n x).line n = x := Tbl.get_set_self _ _ _ _
theorem State.line_setLine_ne (s : State) {n n' : Nat} (x : Line) (h : n' ≠ n) : (s.setLine n x).line n' = s.line n' := Tbl.get_set_ne _ _ _ h
@[simp] theorem State.hitch_setHitch (s : State) (n : Nat) (x : Hitch) : (s.setHitch n x).hitch n = x := Tbl.get_set_self _ _ _ _
theorem State.hitch_setHitch_ne (s : State) {n n' : Nat} (x : Hitch) (h : n' ≠ n) : (s.setHitch n x).hitch n' = s.hitch n' := Tbl.get_set_ne _ _ _ h
@[simp] theorem State.port_setPort (s : State) (n : Nat) (x : Port) : (s.setPort n x).port n = x := Tbl.get_set_self _ _ _ _
theorem State.port_setPort_ne (s : State) {n n' : Nat} (x : Port) (h : n' ≠ n) : (s.setPort n x).port n' = s.port n' := Tbl.get_set_ne _ _ _ h
@[simp] theorem State.leaf_setLeaf (s : State) (n : Nat) (x : Leaf) : (s.setLeaf n x).leaf n = x := Tbl.get_set_self _ _ _ _
theorem State.leaf_setLeaf_ne (s : State) {n n' : Nat} (x : Leaf) (h : n' ≠ n) : (s.setLeaf n x).leaf n' = s.leaf n' := Tbl.get_set_ne _ _ _ h
@[simp] theorem State.tag_setTag (s : State) (t : Nat) (x : Tag) : (s.setTag t x).tag t = x := Tbl.get_set_self _ _ _ _
theorem State.tag_setTag_ne (s : State) {t t' : Nat} (x : Tag) (h : t' ≠ t) : (s.setTag t x).tag t' = s.tag t' := Tbl.get_set_ne _ _ _ h
@[simp] theorem State.tile_setTile (s : State) (n : Nat) (x : Tile) : (s.setTile n x).tile n = x := Tbl.get_set_self _ _ _ _
theorem State.tile_setTile_ne (s : State) {n n' : Nat} (x : Tile) (h : n' ≠ n) : (s.setTile n x).tile n' = s.tile n' := Tbl.get_set_ne _ _ _ h

end Sys2Proof.Machine
end

