-- ==== Sys2Proof/Laws/Dreko.lean ====
section
/-!
SUPPORT. What issuing an instruction does, and a thread's registers and the vector elements read after a write.
-/

namespace Sys2Proof.Machine

/-! ## Issue (R331) -/

/-- An instruction that issues and whose guard holds has its effect. -/
theorem issue_runs {s : State} {x : Issue} (h : s.runs x) (w : Nat) (body : Thread → Eff) :
    issue x w s body = match body (s.thread x.thread) with
      | .done s' => .next (s'.retire x.thread)
      | .jump s' pc => .next (s'.branch x.thread pc)
      | .wait s' => .next s'
      | .fault s' f target => .next (s'.threadFault x.thread f (x.guard.toNat * 2 ^ 28 + w) target) := by
  obtain ⟨h1, h2, h3⟩ := h
  unfold issue
  simp only [h1, h3, Bool.not_true, Bool.false_eq_true, if_false]
  rw [if_neg h2]
  all_goals cases body (s.thread x.thread) <;> rfl

/-- A thread that is not ready, or is halted, issues nothing. -/
theorem issue_idle {s : State} {x : Issue} (h : (s.thread x.thread).issues = false) (w : Nat) (body : Thread → Eff) :
    issue x w s body = .next s := by
  simp [issue, h]

/-- GUARD 0b1000 is an illegal instruction. -/
theorem issue_illegal {s : State} {x : Issue} (h : (s.thread x.thread).issues = true) (hg : x.guard = 8) (w : Nat)
    (body : Thread → Eff) : issue x w s body = .next (s.threadFault x.thread .illegal (8 * 2 ^ 28 + w) 0) := by
  unfold issue
  simp only [h, Bool.not_true, Bool.false_eq_true, if_false]
  rw [if_pos hg, hg]
  rfl

/-- An instruction whose guard fails is stepped past. -/
theorem issue_skips {s : State} {x : Issue} (h : (s.thread x.thread).issues = true) (hg : x.guard ≠ 8)
    (hp : guardHolds (s.thread x.thread) x.guard = false) (w : Nat) (body : Thread → Eff) :
    issue x w s body = .next (s.retire x.thread) := by
  unfold issue
  simp only [h, hp, Bool.not_true, Bool.not_false, Bool.false_eq_true, if_false, if_true]
  rw [if_neg hg]

/-! ## A thread's registers (R327) -/

@[simp] theorem Thread.rg_zero (x : Thread) : x.rg 0 = 0 := rfl

theorem Thread.rg_wg (x : Thread) (d r : Greg) (v : Word) :
    (x.wg d v).rg r = if r = 0 then 0 else if r = d then v else x.rg r := by
  unfold Thread.rg Thread.wg
  by_cases hr : r = 0
  · simp [hr]
  · by_cases hd : d = 0
    · have : r ≠ d := fun e => hr (e.trans hd)
      simp [hr, hd]
    · by_cases he : r = d
      · subst he
        simp [hr, Vector.get]
      · have : d.val ≠ r.val := fun e => he (Fin.ext e.symm)
        simp [hr, hd, he, Vector.get, this]

theorem Thread.rv_wv (x : Thread) (d r : Vreg) (v : Vec) : (x.wv d v).rv r = if r = d then v else x.rv r := by
  show (x.v.set d.val v d.isLt)[r.val] = if r = d then v else x.v[r.val]
  rw [Vector.getElem_set]
  by_cases he : r = d
  · simp [he]
  · have : d.val ≠ r.val := fun e => he (Fin.ext e.symm)
    simp [he, this]

/-- Bit `r` of a predicate byte after bit `d` is written. -/
theorem getLsbD_setBit (p : BitVec 8) (d r : Fin 8) (b : Bool) :
    (if b then p ||| (1#8 <<< d.val) else p &&& ~~~ (1#8 <<< d.val)).getLsbD r.val = if r = d then b else p.getLsbD r.val := by
  have hd := d.isLt
  have hr := r.isLt
  by_cases he : r = d
  · subst he
    cases b <;> simp [hr]
  · have h1 : d.val ≠ r.val := fun e => he (Fin.ext e.symm)
    have h2 : r.val < d.val ∨ 0 < r.val - d.val := by omega
    cases b <;> rcases h2 with h2 | h2 <;> simp [he, hr, h2] <;> omega

theorem Thread.rp_wp (x : Thread) (d r : Preg) (b : Bool) :
    (x.wp d b).rp r = if r = 0 then true else if r = d then b else x.rp r := by
  by_cases hr : r = 0
  · simp [Thread.rp, hr]
  · unfold Thread.rp Thread.wp
    by_cases hd : d = 0
    · have : r ≠ d := fun e => hr (e.trans hd)
      simp [hr, hd]
    · have h := getLsbD_setBit x.p d r b
      simp only [hd, if_false, hr, decide_false, Bool.false_or]
      exact h

/-! ## The trace unit touches the trace buffers only (R320) -/

theorem State.trace_eq (s : State) (t kind : Nat) (pc : BitVec 32) :
    ∃ tr, s.trace t kind pc = { s with cores := { s.cores with traces := tr } } := by
  unfold State.trace
  generalize bits = f
  simp only []
  split
  · exact ⟨_, rfl⟩
  · exact ⟨_, rfl⟩

@[simp] theorem State.trace_thread (s : State) (t kind : Nat) (pc : BitVec 32) (u : Nat) :
    (s.trace t kind pc).thread u = s.thread u := by
  obtain ⟨tr, h⟩ := s.trace_eq t kind pc
  rw [h]
  rfl

@[simp] theorem State.trace_line (s : State) (t kind : Nat) (pc : BitVec 32) (n : Nat) :
    (s.trace t kind pc).line n = s.line n := by
  obtain ⟨tr, h⟩ := s.trace_eq t kind pc
  rw [h]
  rfl

@[simp] theorem State.trace_hitch (s : State) (t kind : Nat) (pc : BitVec 32) (n : Nat) :
    (s.trace t kind pc).hitch n = s.hitch n := by
  obtain ⟨tr, h⟩ := s.trace_eq t kind pc
  rw [h]
  rfl

@[simp] theorem State.trace_mem (s : State) (t kind : Nat) (pc : BitVec 32) : (s.trace t kind pc).mem = s.mem := by
  obtain ⟨tr, h⟩ := s.trace_eq t kind pc
  rw [h]

end Sys2Proof.Machine
end

