-- ==== Sys2Proof/Laws/Issue.lean ====
section
/-!
SUPPORT. Every Dreko instruction is an issue of its word.
-/

namespace Sys2Proof.Machine

/-- What a Dreko instruction does is to issue, with bits [27:0] of its encoding, an effect of its own. -/
theorem exec_dreko {i : Instr} {x : Issue} {w : Nat} (h : drekoFields i = some (x, w)) :
    ∃ body : State → Thread → Eff, ∀ s, exec i s = issue x w s (body s) := by
  cases i <;> simp only [drekoFields, Option.some.injEq, Prod.mk.injEq, reduceCtorEq] at h
  case add => obtain ⟨rfl, rfl⟩ := h; exact ⟨_, fun s => (exec_add _ _ _ _ s).trans rfl⟩
  case sub => obtain ⟨rfl, rfl⟩ := h; exact ⟨_, fun s => (exec_sub _ _ _ _ s).trans rfl⟩
  case and => obtain ⟨rfl, rfl⟩ := h; exact ⟨_, fun s => (exec_and _ _ _ _ s).trans rfl⟩
  case or => obtain ⟨rfl, rfl⟩ := h; exact ⟨_, fun s => (exec_or _ _ _ _ s).trans rfl⟩
  case xor => obtain ⟨rfl, rfl⟩ := h; exact ⟨_, fun s => (exec_xor _ _ _ _ s).trans rfl⟩
  case shl => obtain ⟨rfl, rfl⟩ := h; exact ⟨_, fun s => (exec_shl _ _ _ _ s).trans rfl⟩
  case shr => obtain ⟨rfl, rfl⟩ := h; exact ⟨_, fun s => (exec_shr _ _ _ _ s).trans rfl⟩
  case sra => obtain ⟨rfl, rfl⟩ := h; exact ⟨_, fun s => (exec_sra _ _ _ _ s).trans rfl⟩
  case mul => obtain ⟨rfl, rfl⟩ := h; exact ⟨_, fun s => (exec_mul _ _ _ _ s).trans rfl⟩
  case mulhu => obtain ⟨rfl, rfl⟩ := h; exact ⟨_, fun s => (exec_mulhu _ _ _ _ s).trans rfl⟩
  case divu => obtain ⟨rfl, rfl⟩ := h; exact ⟨_, fun s => (exec_divu _ _ _ _ s).trans rfl⟩
  case remu => obtain ⟨rfl, rfl⟩ := h; exact ⟨_, fun s => (exec_remu _ _ _ _ s).trans rfl⟩
  case clz => obtain ⟨rfl, rfl⟩ := h; exact ⟨_, fun s => (exec_clz _ _ _ s).trans rfl⟩
  case popc => obtain ⟨rfl, rfl⟩ := h; exact ⟨_, fun s => (exec_popc _ _ _ s).trans rfl⟩
  case bswap => obtain ⟨rfl, rfl⟩ := h; exact ⟨_, fun s => (exec_bswap _ _ _ s).trans rfl⟩
  case sextb => obtain ⟨rfl, rfl⟩ := h; exact ⟨_, fun s => (exec_sextb _ _ _ s).trans rfl⟩
  case sexth => obtain ⟨rfl, rfl⟩ := h; exact ⟨_, fun s => (exec_sexth _ _ _ s).trans rfl⟩
  case sextw => obtain ⟨rfl, rfl⟩ := h; exact ⟨_, fun s => (exec_sextw _ _ _ s).trans rfl⟩
  case addi => obtain ⟨rfl, rfl⟩ := h; exact ⟨_, fun s => (exec_addi _ _ _ _ s).trans rfl⟩
  case andi => obtain ⟨rfl, rfl⟩ := h; exact ⟨_, fun s => (exec_andi _ _ _ _ s).trans rfl⟩
  case ori => obtain ⟨rfl, rfl⟩ := h; exact ⟨_, fun s => (exec_ori _ _ _ _ s).trans rfl⟩
  case xori => obtain ⟨rfl, rfl⟩ := h; exact ⟨_, fun s => (exec_xori _ _ _ _ s).trans rfl⟩
  case shli => obtain ⟨rfl, rfl⟩ := h; exact ⟨_, fun s => (exec_shli _ _ _ _ s).trans rfl⟩
  case shri => obtain ⟨rfl, rfl⟩ := h; exact ⟨_, fun s => (exec_shri _ _ _ _ s).trans rfl⟩
  case srai => obtain ⟨rfl, rfl⟩ := h; exact ⟨_, fun s => (exec_srai _ _ _ _ s).trans rfl⟩
  case ldi => obtain ⟨rfl, rfl⟩ := h; exact ⟨_, fun s => (exec_ldi _ _ _ s).trans rfl⟩
  case lsh16 => obtain ⟨rfl, rfl⟩ := h; exact ⟨_, fun s => (exec_lsh16 _ _ _ s).trans rfl⟩
  case cmpEq => obtain ⟨rfl, rfl⟩ := h; exact ⟨_, fun s => (exec_cmpEq _ _ _ _ s).trans rfl⟩
  case cmpNe => obtain ⟨rfl, rfl⟩ := h; exact ⟨_, fun s => (exec_cmpNe _ _ _ _ s).trans rfl⟩
  case cmpLtu => obtain ⟨rfl, rfl⟩ := h; exact ⟨_, fun s => (exec_cmpLtu _ _ _ _ s).trans rfl⟩
  case cmpLts => obtain ⟨rfl, rfl⟩ := h; exact ⟨_, fun s => (exec_cmpLts _ _ _ _ s).trans rfl⟩
  case cmpGeu => obtain ⟨rfl, rfl⟩ := h; exact ⟨_, fun s => (exec_cmpGeu _ _ _ _ s).trans rfl⟩
  case cmpGes => obtain ⟨rfl, rfl⟩ := h; exact ⟨_, fun s => (exec_cmpGes _ _ _ _ s).trans rfl⟩
  case cmpTest => obtain ⟨rfl, rfl⟩ := h; exact ⟨_, fun s => (exec_cmpTest _ _ _ _ s).trans rfl⟩
  case cmpiEq => obtain ⟨rfl, rfl⟩ := h; exact ⟨_, fun s => (exec_cmpiEq _ _ _ _ s).trans rfl⟩
  case cmpiNe => obtain ⟨rfl, rfl⟩ := h; exact ⟨_, fun s => (exec_cmpiNe _ _ _ _ s).trans rfl⟩
  case cmpiLts => obtain ⟨rfl, rfl⟩ := h; exact ⟨_, fun s => (exec_cmpiLts _ _ _ _ s).trans rfl⟩
  case cmpiLtu => obtain ⟨rfl, rfl⟩ := h; exact ⟨_, fun s => (exec_cmpiLtu _ _ _ _ s).trans rfl⟩
  case pand => obtain ⟨rfl, rfl⟩ := h; exact ⟨_, fun s => (exec_pand _ _ _ _ s).trans rfl⟩
  case por => obtain ⟨rfl, rfl⟩ := h; exact ⟨_, fun s => (exec_por _ _ _ _ s).trans rfl⟩
  case pxor => obtain ⟨rfl, rfl⟩ := h; exact ⟨_, fun s => (exec_pxor _ _ _ _ s).trans rfl⟩
  case pnot => obtain ⟨rfl, rfl⟩ := h; exact ⟨_, fun s => (exec_pnot _ _ _ s).trans rfl⟩
  case pget => obtain ⟨rfl, rfl⟩ := h; exact ⟨_, fun s => (exec_pget _ _ s).trans rfl⟩
  case pset => obtain ⟨rfl, rfl⟩ := h; exact ⟨_, fun s => (exec_pset _ _ s).trans rfl⟩
  case j => obtain ⟨rfl, rfl⟩ := h; exact ⟨_, fun s => (exec_j _ _ s).trans rfl⟩
  case jal => obtain ⟨rfl, rfl⟩ := h; exact ⟨_, fun s => (exec_jal _ _ s).trans rfl⟩
  case jr => obtain ⟨rfl, rfl⟩ := h; exact ⟨_, fun s => (exec_jr _ _ _ s).trans rfl⟩
  case ldb => obtain ⟨rfl, rfl⟩ := h; exact ⟨_, fun s => (exec_ldb _ _ _ _ s).trans rfl⟩
  case ldh => obtain ⟨rfl, rfl⟩ := h; exact ⟨_, fun s => (exec_ldh _ _ _ _ s).trans rfl⟩
  case ldw => obtain ⟨rfl, rfl⟩ := h; exact ⟨_, fun s => (exec_ldw _ _ _ _ s).trans rfl⟩
  case ldd => obtain ⟨rfl, rfl⟩ := h; exact ⟨_, fun s => (exec_ldd _ _ _ _ s).trans rfl⟩
  case stb => obtain ⟨rfl, rfl⟩ := h; exact ⟨_, fun s => (exec_stb _ _ _ _ s).trans rfl⟩
  case sth => obtain ⟨rfl, rfl⟩ := h; exact ⟨_, fun s => (exec_sth _ _ _ _ s).trans rfl⟩
  case stw => obtain ⟨rfl, rfl⟩ := h; exact ⟨_, fun s => (exec_stw _ _ _ _ s).trans rfl⟩
  case std => obtain ⟨rfl, rfl⟩ := h; exact ⟨_, fun s => (exec_std _ _ _ _ s).trans rfl⟩
  case vld => obtain ⟨rfl, rfl⟩ := h; exact ⟨_, fun s => (exec_vld _ _ _ _ s).trans rfl⟩
  case vst => obtain ⟨rfl, rfl⟩ := h; exact ⟨_, fun s => (exec_vst _ _ _ _ s).trans rfl⟩
  case aadd => obtain ⟨rfl, rfl⟩ := h; exact ⟨_, fun s => (exec_aadd _ _ _ _ s).trans rfl⟩
  case aswp => obtain ⟨rfl, rfl⟩ := h; exact ⟨_, fun s => (exec_aswp _ _ _ _ s).trans rfl⟩
  case acas => obtain ⟨rfl, rfl⟩ := h; exact ⟨_, fun s => (exec_acas _ _ _ _ s).trans rfl⟩
  case lput => obtain ⟨rfl, rfl⟩ := h; exact ⟨_, fun s => (exec_lput _ _ _ _ s).trans rfl⟩
  case lend => obtain ⟨rfl, rfl⟩ := h; exact ⟨_, fun s => (exec_lend _ _ _ _ s).trans rfl⟩
  case lendt => obtain ⟨rfl, rfl⟩ := h; exact ⟨_, fun s => (exec_lendt _ _ _ _ s).trans rfl⟩
  case ldrop => obtain ⟨rfl, rfl⟩ := h; exact ⟨_, fun s => (exec_ldrop _ _ s).trans rfl⟩
  case lget => obtain ⟨rfl, rfl⟩ := h; exact ⟨_, fun s => (exec_lget _ _ _ s).trans rfl⟩
  case lgetd => obtain ⟨rfl, rfl⟩ := h; exact ⟨_, fun s => (exec_lgetd _ _ _ _ s).trans rfl⟩
  case ltry => obtain ⟨rfl, rfl⟩ := h; exact ⟨_, fun s => (exec_ltry _ _ _ s).trans rfl⟩
  case htie => obtain ⟨rfl, rfl⟩ := h; exact ⟨_, fun s => (exec_htie _ _ _ s).trans rfl⟩
  case htied => obtain ⟨rfl, rfl⟩ := h; exact ⟨_, fun s => (exec_htied _ _ _ _ s).trans rfl⟩
  case huntie => obtain ⟨rfl, rfl⟩ := h; exact ⟨_, fun s => (exec_huntie _ _ _ s).trans rfl⟩
  case htry => obtain ⟨rfl, rfl⟩ := h; exact ⟨_, fun s => (exec_htry _ _ _ s).trans rfl⟩
  case tput => obtain ⟨rfl, rfl⟩ := h; exact ⟨_, fun s => (exec_tput _ _ _ s).trans rfl⟩
  case tend => obtain ⟨rfl, rfl⟩ := h; exact ⟨_, fun s => (exec_tend _ _ _ _ s).trans rfl⟩
  case tendt => obtain ⟨rfl, rfl⟩ := h; exact ⟨_, fun s => (exec_tendt _ _ _ _ s).trans rfl⟩
  case park => obtain ⟨rfl, rfl⟩ := h; exact ⟨_, fun s => (exec_park _ _ s).trans rfl⟩
  case yield => obtain ⟨rfl, rfl⟩ := h; exact ⟨_, fun s => (exec_yield _ s).trans rfl⟩
  case timens => obtain ⟨rfl, rfl⟩ := h; exact ⟨_, fun s => (exec_timens _ _ s).trans rfl⟩
  case brk => obtain ⟨rfl, rfl⟩ := h; exact ⟨_, fun s => (exec_brk _ s).trans rfl⟩
  case treseat => obtain ⟨rfl, rfl⟩ := h; exact ⟨_, fun s => (exec_treseat _ _ s).trans rfl⟩
  case iflush => obtain ⟨rfl, rfl⟩ := h; exact ⟨_, fun s => (exec_iflush _ s).trans rfl⟩
  case fence => obtain ⟨rfl, rfl⟩ := h; exact ⟨_, fun s => (exec_fence _ s).trans rfl⟩
  case mfs => obtain ⟨rfl, rfl⟩ := h; exact ⟨_, fun s => (exec_mfs _ _ _ s).trans rfl⟩
  case mts => obtain ⟨rfl, rfl⟩ := h; exact ⟨_, fun s => (exec_mts _ _ _ s).trans rfl⟩
  case vxor => obtain ⟨rfl, rfl⟩ := h; exact ⟨_, fun s => (exec_vxor _ _ _ _ s).trans rfl⟩
  case vand => obtain ⟨rfl, rfl⟩ := h; exact ⟨_, fun s => (exec_vand _ _ _ _ s).trans rfl⟩
  case vor => obtain ⟨rfl, rfl⟩ := h; exact ⟨_, fun s => (exec_vor _ _ _ _ s).trans rfl⟩
  case vandn => obtain ⟨rfl, rfl⟩ := h; exact ⟨_, fun s => (exec_vandn _ _ _ _ s).trans rfl⟩
  case vxor3 => obtain ⟨rfl, rfl⟩ := h; exact ⟨_, fun s => (exec_vxor3 _ _ _ _ s).trans rfl⟩
  case vadd_8 => obtain ⟨rfl, rfl⟩ := h; exact ⟨_, fun s => (exec_vadd_8 _ _ _ _ s).trans rfl⟩
  case vadd_16 => obtain ⟨rfl, rfl⟩ := h; exact ⟨_, fun s => (exec_vadd_16 _ _ _ _ s).trans rfl⟩
  case vadd_32 => obtain ⟨rfl, rfl⟩ := h; exact ⟨_, fun s => (exec_vadd_32 _ _ _ _ s).trans rfl⟩
  case vadd_64 => obtain ⟨rfl, rfl⟩ := h; exact ⟨_, fun s => (exec_vadd_64 _ _ _ _ s).trans rfl⟩
  case vsub_8 => obtain ⟨rfl, rfl⟩ := h; exact ⟨_, fun s => (exec_vsub_8 _ _ _ _ s).trans rfl⟩
  case vsub_16 => obtain ⟨rfl, rfl⟩ := h; exact ⟨_, fun s => (exec_vsub_16 _ _ _ _ s).trans rfl⟩
  case vsub_32 => obtain ⟨rfl, rfl⟩ := h; exact ⟨_, fun s => (exec_vsub_32 _ _ _ _ s).trans rfl⟩
  case vsub_64 => obtain ⟨rfl, rfl⟩ := h; exact ⟨_, fun s => (exec_vsub_64 _ _ _ _ s).trans rfl⟩
  case vclmul => obtain ⟨rfl, rfl⟩ := h; exact ⟨_, fun s => (exec_vclmul _ _ _ _ s).trans rfl⟩
  case vclmulG => obtain ⟨rfl, rfl⟩ := h; exact ⟨_, fun s => (exec_vclmulG _ _ _ _ s).trans rfl⟩
  case vgfred => obtain ⟨rfl, rfl⟩ := h; exact ⟨_, fun s => (exec_vgfred _ _ _ s).trans rfl⟩
  case vgfredG => obtain ⟨rfl, rfl⟩ := h; exact ⟨_, fun s => (exec_vgfredG _ _ _ s).trans rfl⟩
  case vgfx => obtain ⟨rfl, rfl⟩ := h; exact ⟨_, fun s => (exec_vgfx _ _ _ _ s).trans rfl⟩
  case vgfxG => obtain ⟨rfl, rfl⟩ := h; exact ⟨_, fun s => (exec_vgfxG _ _ _ _ s).trans rfl⟩
  case vgf8mul => obtain ⟨rfl, rfl⟩ := h; exact ⟨_, fun s => (exec_vgf8mul _ _ _ _ s).trans rfl⟩
  case vgf8mac => obtain ⟨rfl, rfl⟩ := h; exact ⟨_, fun s => (exec_vgf8mac _ _ _ _ s).trans rfl⟩
  case vgf8muls => obtain ⟨rfl, rfl⟩ := h; exact ⟨_, fun s => (exec_vgf8muls _ _ _ _ s).trans rfl⟩
  case vgf8macs => obtain ⟨rfl, rfl⟩ := h; exact ⟨_, fun s => (exec_vgf8macs _ _ _ _ s).trans rfl⟩
  case vfold => obtain ⟨rfl, rfl⟩ := h; exact ⟨_, fun s => (exec_vfold _ _ _ s).trans rfl⟩
  case vctr32 => obtain ⟨rfl, rfl⟩ := h; exact ⟨_, fun s => (exec_vctr32 _ _ _ _ s).trans rfl⟩
  case vctr128 => obtain ⟨rfl, rfl⟩ := h; exact ⟨_, fun s => (exec_vctr128 _ _ _ _ s).trans rfl⟩
  case vtageq => obtain ⟨rfl, rfl⟩ := h; exact ⟨_, fun s => (exec_vtageq _ _ _ _ s).trans rfl⟩
  case vmvg => obtain ⟨rfl, rfl⟩ := h; exact ⟨_, fun s => (exec_vmvg _ _ _ _ s).trans rfl⟩
  case vmvv => obtain ⟨rfl, rfl⟩ := h; exact ⟨_, fun s => (exec_vmvv _ _ _ _ s).trans rfl⟩
  case vbcast => obtain ⟨rfl, rfl⟩ := h; exact ⟨_, fun s => (exec_vbcast _ _ _ s).trans rfl⟩
  case vshuf => obtain ⟨rfl, rfl⟩ := h; exact ⟨_, fun s => (exec_vshuf _ _ _ _ s).trans rfl⟩
  case vbswap128 => obtain ⟨rfl, rfl⟩ := h; exact ⟨_, fun s => (exec_vbswap128 _ _ _ s).trans rfl⟩
  case vzero => obtain ⟨rfl, rfl⟩ := h; exact ⟨_, fun s => (exec_vzero _ _ s).trans rfl⟩
  case lhdr => obtain ⟨rfl, rfl⟩ := h; exact ⟨_, fun s => (exec_lhdr _ _ _ s).trans rfl⟩

end Sys2Proof.Machine
end

