-- ==== Sys2Proof/Laws/PerInstr.lean ====
section
/-!
SUPPORT. The per-instruction family `Operands`: which commands have a Dreko encoding, one lemma a constructor.
-/

namespace Sys2Proof.Laws.Operands

/-- A command is an instruction of the Dreko set. -/
def isDreko : Instr → Bool
  | .add _ _ _ _ => true
  | .sub _ _ _ _ => true
  | .and _ _ _ _ => true
  | .or _ _ _ _ => true
  | .xor _ _ _ _ => true
  | .shl _ _ _ _ => true
  | .shr _ _ _ _ => true
  | .sra _ _ _ _ => true
  | .mul _ _ _ _ => true
  | .mulhu _ _ _ _ => true
  | .divu _ _ _ _ => true
  | .remu _ _ _ _ => true
  | .clz _ _ _ => true
  | .popc _ _ _ => true
  | .bswap _ _ _ => true
  | .sextb _ _ _ => true
  | .sexth _ _ _ => true
  | .sextw _ _ _ => true
  | .addi _ _ _ _ => true
  | .andi _ _ _ _ => true
  | .ori _ _ _ _ => true
  | .xori _ _ _ _ => true
  | .shli _ _ _ _ => true
  | .shri _ _ _ _ => true
  | .srai _ _ _ _ => true
  | .ldi _ _ _ => true
  | .lsh16 _ _ _ => true
  | .cmpEq _ _ _ _ => true
  | .cmpNe _ _ _ _ => true
  | .cmpLtu _ _ _ _ => true
  | .cmpLts _ _ _ _ => true
  | .cmpGeu _ _ _ _ => true
  | .cmpGes _ _ _ _ => true
  | .cmpTest _ _ _ _ => true
  | .cmpiEq _ _ _ _ => true
  | .cmpiNe _ _ _ _ => true
  | .cmpiLts _ _ _ _ => true
  | .cmpiLtu _ _ _ _ => true
  | .pand _ _ _ _ => true
  | .por _ _ _ _ => true
  | .pxor _ _ _ _ => true
  | .pnot _ _ _ => true
  | .pget _ _ => true
  | .pset _ _ => true
  | .j _ _ => true
  | .jal _ _ => true
  | .jr _ _ _ => true
  | .ldb _ _ _ _ => true
  | .ldh _ _ _ _ => true
  | .ldw _ _ _ _ => true
  | .ldd _ _ _ _ => true
  | .stb _ _ _ _ => true
  | .sth _ _ _ _ => true
  | .stw _ _ _ _ => true
  | .std _ _ _ _ => true
  | .vld _ _ _ _ => true
  | .vst _ _ _ _ => true
  | .aadd _ _ _ _ => true
  | .aswp _ _ _ _ => true
  | .acas _ _ _ _ => true
  | .lput _ _ _ _ => true
  | .lend _ _ _ _ => true
  | .lendt _ _ _ _ => true
  | .ldrop _ _ => true
  | .lget _ _ _ => true
  | .lgetd _ _ _ _ => true
  | .ltry _ _ _ => true
  | .htie _ _ _ => true
  | .htied _ _ _ _ => true
  | .huntie _ _ _ => true
  | .htry _ _ _ => true
  | .tput _ _ _ => true
  | .tend _ _ _ _ => true
  | .tendt _ _ _ _ => true
  | .park _ _ => true
  | .yield _ => true
  | .timens _ _ => true
  | .brk _ => true
  | .treseat _ _ => true
  | .iflush _ => true
  | .fence _ => true
  | .mfs _ _ _ => true
  | .mts _ _ _ => true
  | .vxor _ _ _ _ => true
  | .vand _ _ _ _ => true
  | .vor _ _ _ _ => true
  | .vandn _ _ _ _ => true
  | .vxor3 _ _ _ _ => true
  | .vadd_8 _ _ _ _ => true
  | .vadd_16 _ _ _ _ => true
  | .vadd_32 _ _ _ _ => true
  | .vadd_64 _ _ _ _ => true
  | .vsub_8 _ _ _ _ => true
  | .vsub_16 _ _ _ _ => true
  | .vsub_32 _ _ _ _ => true
  | .vsub_64 _ _ _ _ => true
  | .vclmul _ _ _ _ => true
  | .vclmulG _ _ _ _ => true
  | .vgfred _ _ _ => true
  | .vgfredG _ _ _ => true
  | .vgfx _ _ _ _ => true
  | .vgfxG _ _ _ _ => true
  | .vgf8mul _ _ _ _ => true
  | .vgf8mac _ _ _ _ => true
  | .vgf8muls _ _ _ _ => true
  | .vgf8macs _ _ _ _ => true
  | .vfold _ _ _ => true
  | .vctr32 _ _ _ _ => true
  | .vctr128 _ _ _ _ => true
  | .vtageq _ _ _ _ => true
  | .vmvg _ _ _ _ => true
  | .vmvv _ _ _ _ => true
  | .vbcast _ _ _ => true
  | .vshuf _ _ _ _ => true
  | .vbswap128 _ _ _ => true
  | .vzero _ _ => true
  | .lhdr _ _ _ => true
  | _ => false

/-- Exactly the Dreko instructions have an encoding (R330). -/
def Statement (i : Instr) : Prop := (drekoFields i).isSome = isDreko i

theorem devIdentify (p : Packet) : Statement (.devIdentify p) := rfl
theorem devStatus (p : Packet) : Statement (.devStatus p) := rfl
theorem devReset (p : Packet) : Statement (.devReset p) := rfl
theorem cfgCommit (p : Packet) : Statement (.cfgCommit p) := rfl
theorem cfgRollback (p : Packet) : Statement (.cfgRollback p) := rfl
theorem deviceProfile (p : Packet) : Statement (.deviceProfile p) := rfl
theorem cfgDiscard (p : Packet) : Statement (.cfgDiscard p) := rfl
theorem cfgQuery (p : Packet) : Statement (.cfgQuery p) := rfl
theorem roomQuery (p : Packet) : Statement (.roomQuery p) := rfl
theorem roomFurnish (p : Packet) : Statement (.roomFurnish p) := rfl
theorem roomOpen (p : Packet) : Statement (.roomOpen p) := rfl
theorem roomClose (p : Packet) : Statement (.roomClose p) := rfl
theorem roomReset (p : Packet) : Statement (.roomReset p) := rfl
theorem roomVacate (p : Packet) : Statement (.roomVacate p) := rfl
theorem roomFreeze (p : Packet) : Statement (.roomFreeze p) := rfl
theorem roomSave (p : Packet) : Statement (.roomSave p) := rfl
theorem roomSaveDrained (room : Fin 1024) : Statement (.roomSaveDrained room) := rfl
theorem roomRestore (p : Packet) : Statement (.roomRestore p) := rfl
theorem roomThaw (p : Packet) : Statement (.roomThaw p) := rfl
theorem roomDoze (p : Packet) : Statement (.roomDoze p) := rfl
theorem roomMsgSet (p : Packet) : Statement (.roomMsgSet p) := rfl
theorem roomPolicy (p : Packet) : Statement (.roomPolicy p) := rfl
theorem roomDirtyLog (p : Packet) : Statement (.roomDirtyLog p) := rfl
theorem ringCreate (p : Packet) : Statement (.ringCreate p) := rfl
theorem ringDestroy (p : Packet) : Statement (.ringDestroy p) := rfl
theorem ringEnable (p : Packet) : Statement (.ringEnable p) := rfl
theorem ringDisable (p : Packet) : Statement (.ringDisable p) := rfl
theorem ringModerate (p : Packet) : Statement (.ringModerate p) := rfl
theorem ringWeight (p : Packet) : Statement (.ringWeight p) := rfl
theorem ringRxMode (p : Packet) : Statement (.ringRxMode p) := rfl
theorem portConfig (p : Packet) : Statement (.portConfig p) := rfl
theorem portAdmin (p : Packet) : Statement (.portAdmin p) := rfl
theorem portQuery (p : Packet) : Statement (.portQuery p) := rfl
theorem portPtp (p : Packet) : Statement (.portPtp p) := rfl
theorem clsBankLoad (p : Packet) : Statement (.clsBankLoad p) := rfl
theorem clsBankSelect (p : Packet) : Statement (.clsBankSelect p) := rfl
theorem clsKeyProfile (p : Packet) : Statement (.clsKeyProfile p) := rfl
theorem clsHashSet (p : Packet) : Statement (.clsHashSet p) := rfl
theorem clsException (p : Packet) : Statement (.clsException p) := rfl
theorem clsTunnel (p : Packet) : Statement (.clsTunnel p) := rfl
theorem clsMirror (p : Packet) : Statement (.clsMirror p) := rfl
theorem tmNodeSet (p : Packet) : Statement (.tmNodeSet p) := rfl
theorem tmShaperRate (p : Packet) : Statement (.tmShaperRate p) := rfl
theorem tmPolicerSet (p : Packet) : Statement (.tmPolicerSet p) := rfl
theorem tmGateList (p : Packet) : Statement (.tmGateList p) := rfl
theorem tmTelemetry (p : Packet) : Statement (.tmTelemetry p) := rfl
theorem timeSet (p : Packet) : Statement (.timeSet p) := rfl
theorem timeAdjust (p : Packet) : Statement (.timeAdjust p) := rfl
theorem periodSet (p : Packet) : Statement (.periodSet p) := rfl
theorem syncConfig (p : Packet) : Statement (.syncConfig p) := rfl
theorem ppsSet (p : Packet) : Statement (.ppsSet p) := rfl
theorem schedCancel (p : Packet) : Statement (.schedCancel p) := rfl
theorem schedQuery (p : Packet) : Statement (.schedQuery p) := rfl
theorem keyDomainCreate (p : Packet) : Statement (.keyDomainCreate p) := rfl
theorem keyDomainRotate (p : Packet) : Statement (.keyDomainRotate p) := rfl
theorem keyDomainDestroy (p : Packet) : Statement (.keyDomainDestroy p) := rfl
theorem keyDomainQuery (p : Packet) : Statement (.keyDomainQuery p) := rfl
theorem keyImportWrapped (p : Packet) : Statement (.keyImportWrapped p) := rfl
theorem keySaAdd (p : Packet) : Statement (.keySaAdd p) := rfl
theorem keySaDelete (p : Packet) : Statement (.keySaDelete p) := rfl
theorem keySealNew (p : Packet) : Statement (.keySealNew p) := rfl
theorem sealStatus (p : Packet) : Statement (.sealStatus p) := rfl
theorem sealPubkeys (p : Packet) : Statement (.sealPubkeys p) := rfl
theorem sealExport (p : Packet) : Statement (.sealExport p) := rfl
theorem sealHandover (p : Packet) : Statement (.sealHandover p) := rfl
theorem sealAccept (p : Packet) : Statement (.sealAccept p) := rfl
theorem volCreate (p : Packet) : Statement (.volCreate p) := rfl
theorem volDestroy (p : Packet) : Statement (.volDestroy p) := rfl
theorem nsCreate (p : Packet) : Statement (.nsCreate p) := rfl
theorem nsDelete (p : Packet) : Statement (.nsDelete p) := rfl
theorem journalSet (p : Packet) : Statement (.journalSet p) := rfl
theorem storageOpen (p : Packet) : Statement (.storageOpen p) := rfl
theorem sweepSet (p : Packet) : Statement (.sweepSet p) := rfl
theorem transcryptStart (p : Packet) : Statement (.transcryptStart p) := rfl
theorem transcryptCancel (p : Packet) : Statement (.transcryptCancel p) := rfl
theorem nvmtSet (p : Packet) : Statement (.nvmtSet p) := rfl
theorem driveQuery (p : Packet) : Statement (.driveQuery p) := rfl
theorem memMarch (p : Packet) : Statement (.memMarch p) := rfl
theorem memRegionSet (p : Packet) : Statement (.memRegionSet p) := rfl
theorem memErrQuery (p : Packet) : Statement (.memErrQuery p) := rfl
theorem pwrState (p : Packet) : Statement (.pwrState p) := rfl
theorem pwrPolicy (p : Packet) : Statement (.pwrPolicy p) := rfl
theorem dbgNonce (p : Packet) : Statement (.dbgNonce p) := rfl
theorem dbgUnlock (p : Packet) : Statement (.dbgUnlock p) := rfl
theorem dbgLock (p : Packet) : Statement (.dbgLock p) := rfl
theorem dbgLedger (p : Packet) : Statement (.dbgLedger p) := rfl
theorem dbgStallPolicy (p : Packet) : Statement (.dbgStallPolicy p) := rfl
theorem fwQuery (p : Packet) : Statement (.fwQuery p) := rfl
theorem fwLoad (p : Packet) : Statement (.fwLoad p) := rfl
theorem fwActivate (p : Packet) : Statement (.fwActivate p) := rfl
theorem annexLoad (p : Packet) : Statement (.annexLoad p) := rfl
theorem annexCores (p : Packet) : Statement (.annexCores p) := rfl
theorem schedRelease (handle : Nat) : Statement (.schedRelease handle) := rfl
theorem progressEvent (n : Nat) : Statement (.progressEvent n) := rfl
theorem frontdoorDoorbell (v : BitVec 64) : Statement (.frontdoorDoorbell v) := rfl
theorem frontdoorCtrlWrite (v : BitVec 32) : Statement (.frontdoorCtrlWrite v) := rfl
theorem ringDoorbell (ref : Nat) (v : Payload) : Statement (.ringDoorbell ref v) := rfl
theorem eventRingDoorbell (room : Fin 1024) (v : Payload) : Statement (.eventRingDoorbell room v) := rfl
theorem ownerDoorbell (v : BitVec 64) : Statement (.ownerDoorbell v) := rfl
theorem ownerEventOverflowAck (v : BitVec 32) : Statement (.ownerEventOverflowAck v) := rfl
theorem mboxDoorbell (v : BitVec 32) : Statement (.mboxDoorbell v) := rfl
theorem registerWrite (off : Nat) (wide : Bool) (v : Payload) : Statement (.registerWrite off wide v) := rfl
theorem rcCounterRead (off : Nat) (access : Access) : Statement (.rcCounterRead off access) := rfl
theorem barBadAccess (read : Bool) : Statement (.barBadAccess read) := rfl
theorem timeNowLatch : Statement .timeNowLatch := rfl
theorem timeIncrWrite (v : BitVec 64) : Statement (.timeIncrWrite v) := rfl
theorem applyOffset : Statement .applyOffset := rfl
theorem winWrite : Statement .winWrite := rfl
theorem winInvalidate : Statement .winInvalidate := rfl
theorem winRead : Statement .winRead := rfl
theorem halt : Statement .halt := rfl
theorem resume : Statement .resume := rfl
theorem step : Statement .step := rfl
theorem reseat : Statement .reseat := rfl
theorem msixTableWrite (vec : Fin 2048) (field : Fin 4) (v : BitVec 32) : Statement (.msixTableWrite vec field v) := rfl
theorem bmeClear (v : BitVec 16) : Statement (.bmeClear v) := rfl
theorem bmeSet (v : BitVec 16) : Statement (.bmeSet v) := rfl
theorem ctoValueWrite (v : BitVec 16) : Statement (.ctoValueWrite v) := rfl
theorem flrInitiate : Statement .flrInitiate := rfl
theorem d3hotEntry (v : BitVec 16) : Statement (.d3hotEntry v) := rfl
theorem d0Return (v : BitVec 16) : Statement (.d0Return v) := rfl
theorem completionReceived (tag : Nat) (status : Fin 4) (final : Bool) : Statement (.completionReceived tag status final) := rfl
theorem completionTimeout (tag : Nat) : Statement (.completionTimeout tag) := rfl
theorem quarantineEnd (tag : Nat) : Statement (.quarantineEnd tag) := rfl
theorem atsTranslationCompletion (room : Nat) (page : Nat) (phys : Option Nat) : Statement (.atsTranslationCompletion room page phys) := rfl
theorem atsInvalidationRequest (room : Nat) (page : Nat) (pages : Nat) (itag : Nat) (global : Bool) : Statement (.atsInvalidationRequest room page pages itag global) := rfl
theorem invalidationCompletion (itag : Nat) : Statement (.invalidationCompletion itag) := rfl
theorem doeObjectWrite (bytes : List Byte) : Statement (.doeObjectWrite bytes) := rfl
theorem doeAbort : Statement .doeAbort := rfl
theorem spdmRequest (bytes : List Byte) (mctp : Bool) : Statement (.spdmRequest bytes mctp) := rfl
theorem ideKmMessage (stream : Fin 17) (op : Fin 3) (key : List Byte) : Statement (.ideKmMessage stream op key) := rfl
theorem ideStreamInsecure (stream : Fin 17) : Statement (.ideStreamInsecure stream) := rfl
theorem lockInterfaceRequest (room : Fin 1024) (stream : Fin 17) : Statement (.lockInterfaceRequest room stream) := rfl
theorem startInterfaceRequest (room : Fin 1024) : Statement (.startInterfaceRequest room) := rfl
theorem stopInterfaceRequest (room : Fin 1024) : Statement (.stopInterfaceRequest room) := rfl
theorem tdiError (room : Fin 1024) : Statement (.tdiError room) := rfl
theorem l0pNarrow : Statement .l0pNarrow := rfl
theorem l0pWiden : Statement .l0pWiden := rfl
theorem aspmL1Entry : Statement .aspmL1Entry := rfl
theorem pmeTurnOff : Statement .pmeTurnOff := rfl
theorem perstAssert : Statement .perstAssert := rfl
theorem perstDeassert : Statement .perstDeassert := rfl
theorem hotReset : Statement .hotReset := rfl
theorem pcieLinkDown : Statement .pcieLinkDown := rfl
theorem mctpMessage (type : BitVec 8) (bytes : List Byte) : Statement (.mctpMessage type bytes) := rfl
theorem setEndpointId (eid : BitVec 8) : Statement (.setEndpointId eid) := rfl
theorem getTid (bytes : List Byte) : Statement (.getTid bytes) := rfl
theorem getPldmVersion (bytes : List Byte) : Statement (.getPldmVersion bytes) := rfl
theorem getPldmTypes (bytes : List Byte) : Statement (.getPldmTypes bytes) := rfl
theorem getPldmCommands (bytes : List Byte) : Statement (.getPldmCommands bytes) := rfl
theorem getPdrRepositoryInfo (bytes : List Byte) : Statement (.getPdrRepositoryInfo bytes) := rfl
theorem getPdr (bytes : List Byte) : Statement (.getPdr bytes) := rfl
theorem getSensorReading (bytes : List Byte) : Statement (.getSensorReading bytes) := rfl
theorem getStateSensorReadings (bytes : List Byte) : Statement (.getStateSensorReadings bytes) := rfl
theorem pollForPlatformEventMessage (bytes : List Byte) : Statement (.pollForPlatformEventMessage bytes) := rfl
theorem pldmSensorUpdate (sensor : Fin 13) (v : Nat) : Statement (.pldmSensorUpdate sensor v) := rfl
theorem smbusTimeoutReset : Statement .smbusTimeoutReset := rfl
theorem jtagIdcode : Statement .jtagIdcode := rfl
theorem jtagBypass : Statement .jtagBypass := rfl
theorem jtagSamplePreload (bytes : List Byte) : Statement (.jtagSamplePreload bytes) := rfl
theorem jtagExtest : Statement .jtagExtest := rfl
theorem jtagTrst : Statement .jtagTrst := rfl
theorem islandAdopt (island : Fin 18) : Statement (.islandAdopt island) := rfl
theorem genAck (cluster : Fin 4) : Statement (.genAck cluster) := rfl
theorem commitStallTimeout : Statement .commitStallTimeout := rfl
theorem generationRetire : Statement .generationRetire := rfl
theorem rxFrame (port : Fin 4) (bytes : List Byte) (fcsOk : Bool) (corrected : Nat) (uncorrectable : Nat) : Statement (.rxFrame port bytes fcsOk corrected uncorrectable) := rfl
theorem pauseFrameReceive (port : Fin 4) (bytes : List Byte) : Statement (.pauseFrameReceive port bytes) := rfl
theorem pauseQuantaExpiry (port : Fin 4) (cls : Fin 8) : Statement (.pauseQuantaExpiry port cls) := rfl
theorem pfcXoffRepeat (port : Fin 4) (cls : Fin 8) : Statement (.pfcXoffRepeat port cls) := rfl
theorem linkUp (port : Fin 4) : Statement (.linkUp port) := rfl
theorem linkDown (port : Fin 4) (fault : Fin 3) : Statement (.linkDown port fault) := rfl
theorem moduleReady (port : Fin 4) : Statement (.moduleReady port) := rfl
theorem timeRefLost : Statement .timeRefLost := rfl
theorem timeRefRestored : Statement .timeRefRestored := rfl
theorem syncEdge (rising : Bool) : Statement (.syncEdge rising) := rfl
theorem syncWindowClose : Statement .syncWindowClose := rfl
theorem periodBoundary : Statement .periodBoundary := rfl
theorem gateEntryChange (port : Fin 4) : Statement (.gateEntryChange port) := rfl
theorem ppsPulse (out : Fin 4) : Statement (.ppsPulse out) := rfl
theorem ageClockAdvance : Statement .ageClockAdvance := rfl
theorem agingSweep : Statement .agingSweep := rfl
theorem packetParse (n : Nat) : Statement (.packetParse n) := rfl
theorem flowTableLookupDone (n : Nat) : Statement (.flowTableLookupDone n) := rfl
theorem switchPass : Statement .switchPass := rfl
theorem servicePacket (t : Fin 2048) : Statement (.servicePacket t) := rfl
theorem backStairPacket : Statement .backStairPacket := rfl
theorem reasmTimeout : Statement .reasmTimeout := rfl
theorem tmEnqueue : Statement .tmEnqueue := rfl
theorem tmScheduleDecision (dest : Fin 6) : Statement (.tmScheduleDecision dest) := rfl
theorem rxHoldLimitExpiry (ref : Nat) : Statement (.rxHoldLimitExpiry ref) := rfl
theorem telemetryVisit : Statement .telemetryVisit := rfl
theorem txDescriptor (ref : Nat) : Statement (.txDescriptor ref) := rfl
theorem rxFrameDelivery : Statement .rxFrameDelivery := rfl
theorem storeWrite (ref : Nat) : Statement (.storeWrite ref) := rfl
theorem storeRead (ref : Nat) : Statement (.storeRead ref) := rfl
theorem storeFlush (ref : Nat) : Statement (.storeFlush ref) := rfl
theorem storeDeallocate (ref : Nat) : Statement (.storeDeallocate ref) := rfl
theorem storeVerify (ref : Nat) : Statement (.storeVerify ref) := rfl
theorem moderationFire (ref : Nat) : Statement (.moderationFire ref) := rfl
theorem heldInterruptRelease : Statement .heldInterruptRelease := rfl
theorem roomResetDrainEnd (room : Fin 1024) : Statement (.roomResetDrainEnd room) := rfl
theorem stallSentinelEval (cluster : Fin 4) : Statement (.stallSentinelEval cluster) := rfl
theorem lineMessageDeliver (line : Nat) : Statement (.lineMessageDeliver line) := rfl
theorem lendAccept (line : Nat) : Statement (.lendAccept line) := rfl
theorem hitchGrant (hitch : Nat) : Statement (.hitchGrant hitch) := rfl
theorem deadlineTimeout (t : Fin 2048) : Statement (.deadlineTimeout t) := rfl
theorem parkWake (t : Fin 2048) : Statement (.parkWake t) := rfl
theorem lhReadyChange (up : Bool) : Statement (.lhReadyChange up) := rfl
theorem add (x : Issue) (d : Greg) (a : Greg) (b : Greg) : Statement (.add x d a b) := rfl
theorem sub (x : Issue) (d : Greg) (a : Greg) (b : Greg) : Statement (.sub x d a b) := rfl
theorem and (x : Issue) (d : Greg) (a : Greg) (b : Greg) : Statement (.and x d a b) := rfl
theorem or (x : Issue) (d : Greg) (a : Greg) (b : Greg) : Statement (.or x d a b) := rfl
theorem xor (x : Issue) (d : Greg) (a : Greg) (b : Greg) : Statement (.xor x d a b) := rfl
theorem shl (x : Issue) (d : Greg) (a : Greg) (b : Greg) : Statement (.shl x d a b) := rfl
theorem shr (x : Issue) (d : Greg) (a : Greg) (b : Greg) : Statement (.shr x d a b) := rfl
theorem sra (x : Issue) (d : Greg) (a : Greg) (b : Greg) : Statement (.sra x d a b) := rfl
theorem mul (x : Issue) (d : Greg) (a : Greg) (b : Greg) : Statement (.mul x d a b) := rfl
theorem mulhu (x : Issue) (d : Greg) (a : Greg) (b : Greg) : Statement (.mulhu x d a b) := rfl
theorem divu (x : Issue) (d : Greg) (a : Greg) (b : Greg) : Statement (.divu x d a b) := rfl
theorem remu (x : Issue) (d : Greg) (a : Greg) (b : Greg) : Statement (.remu x d a b) := rfl
theorem clz (x : Issue) (d : Greg) (a : Greg) : Statement (.clz x d a) := rfl
theorem popc (x : Issue) (d : Greg) (a : Greg) : Statement (.popc x d a) := rfl
theorem bswap (x : Issue) (d : Greg) (a : Greg) : Statement (.bswap x d a) := rfl
theorem sextb (x : Issue) (d : Greg) (a : Greg) : Statement (.sextb x d a) := rfl
theorem sexth (x : Issue) (d : Greg) (a : Greg) : Statement (.sexth x d a) := rfl
theorem sextw (x : Issue) (d : Greg) (a : Greg) : Statement (.sextw x d a) := rfl
theorem addi (x : Issue) (d : Greg) (a : Greg) (imm : BitVec 12) : Statement (.addi x d a imm) := rfl
theorem andi (x : Issue) (d : Greg) (a : Greg) (imm : BitVec 12) : Statement (.andi x d a imm) := rfl
theorem ori (x : Issue) (d : Greg) (a : Greg) (imm : BitVec 12) : Statement (.ori x d a imm) := rfl
theorem xori (x : Issue) (d : Greg) (a : Greg) (imm : BitVec 12) : Statement (.xori x d a imm) := rfl
theorem shli (x : Issue) (d : Greg) (a : Greg) (n : BitVec 6) : Statement (.shli x d a n) := rfl
theorem shri (x : Issue) (d : Greg) (a : Greg) (n : BitVec 6) : Statement (.shri x d a n) := rfl
theorem srai (x : Issue) (d : Greg) (a : Greg) (n : BitVec 6) : Statement (.srai x d a n) := rfl
theorem ldi (x : Issue) (d : Greg) (imm : BitVec 17) : Statement (.ldi x d imm) := rfl
theorem lsh16 (x : Issue) (d : Greg) (imm : BitVec 16) : Statement (.lsh16 x d imm) := rfl
theorem cmpEq (x : Issue) (d : Preg) (a : Greg) (b : Greg) : Statement (.cmpEq x d a b) := rfl
theorem cmpNe (x : Issue) (d : Preg) (a : Greg) (b : Greg) : Statement (.cmpNe x d a b) := rfl
theorem cmpLtu (x : Issue) (d : Preg) (a : Greg) (b : Greg) : Statement (.cmpLtu x d a b) := rfl
theorem cmpLts (x : Issue) (d : Preg) (a : Greg) (b : Greg) : Statement (.cmpLts x d a b) := rfl
theorem cmpGeu (x : Issue) (d : Preg) (a : Greg) (b : Greg) : Statement (.cmpGeu x d a b) := rfl
theorem cmpGes (x : Issue) (d : Preg) (a : Greg) (b : Greg) : Statement (.cmpGes x d a b) := rfl
theorem cmpTest (x : Issue) (d : Preg) (a : Greg) (b : Greg) : Statement (.cmpTest x d a b) := rfl
theorem cmpiEq (x : Issue) (d : Preg) (a : Greg) (imm : BitVec 12) : Statement (.cmpiEq x d a imm) := rfl
theorem cmpiNe (x : Issue) (d : Preg) (a : Greg) (imm : BitVec 12) : Statement (.cmpiNe x d a imm) := rfl
theorem cmpiLts (x : Issue) (d : Preg) (a : Greg) (imm : BitVec 12) : Statement (.cmpiLts x d a imm) := rfl
theorem cmpiLtu (x : Issue) (d : Preg) (a : Greg) (imm : BitVec 12) : Statement (.cmpiLtu x d a imm) := rfl
theorem pand (x : Issue) (d : Preg) (a : Preg) (b : Preg) : Statement (.pand x d a b) := rfl
theorem por (x : Issue) (d : Preg) (a : Preg) (b : Preg) : Statement (.por x d a b) := rfl
theorem pxor (x : Issue) (d : Preg) (a : Preg) (b : Preg) : Statement (.pxor x d a b) := rfl
theorem pnot (x : Issue) (d : Preg) (a : Preg) : Statement (.pnot x d a) := rfl
theorem pget (x : Issue) (d : Greg) : Statement (.pget x d) := rfl
theorem pset (x : Issue) (a : Greg) : Statement (.pset x a) := rfl
theorem j (x : Issue) (off : BitVec 22) : Statement (.j x off) := rfl
theorem jal (x : Issue) (off : BitVec 22) : Statement (.jal x off) := rfl
theorem jr (x : Issue) (d : Greg) (a : Greg) : Statement (.jr x d a) := rfl
theorem ldb (x : Issue) (d : Greg) (a : Greg) (imm : BitVec 12) : Statement (.ldb x d a imm) := rfl
theorem ldh (x : Issue) (d : Greg) (a : Greg) (imm : BitVec 12) : Statement (.ldh x d a imm) := rfl
theorem ldw (x : Issue) (d : Greg) (a : Greg) (imm : BitVec 12) : Statement (.ldw x d a imm) := rfl
theorem ldd (x : Issue) (d : Greg) (a : Greg) (imm : BitVec 12) : Statement (.ldd x d a imm) := rfl
theorem stb (x : Issue) (b : Greg) (a : Greg) (imm : BitVec 12) : Statement (.stb x b a imm) := rfl
theorem sth (x : Issue) (b : Greg) (a : Greg) (imm : BitVec 12) : Statement (.sth x b a imm) := rfl
theorem stw (x : Issue) (b : Greg) (a : Greg) (imm : BitVec 12) : Statement (.stw x b a imm) := rfl
theorem std (x : Issue) (b : Greg) (a : Greg) (imm : BitVec 12) : Statement (.std x b a imm) := rfl
theorem vld (x : Issue) (d : Vreg) (a : Greg) (imm : BitVec 12) : Statement (.vld x d a imm) := rfl
theorem vst (x : Issue) (b : Vreg) (a : Greg) (imm : BitVec 12) : Statement (.vst x b a imm) := rfl
theorem aadd (x : Issue) (d : Greg) (a : Greg) (b : Greg) : Statement (.aadd x d a b) := rfl
theorem aswp (x : Issue) (d : Greg) (a : Greg) (b : Greg) : Statement (.aswp x d a b) := rfl
theorem acas (x : Issue) (d : Greg) (a : Greg) (b : Greg) : Statement (.acas x d a b) := rfl
theorem lput (x : Issue) (d : Greg) (a : Greg) (b : Vreg) : Statement (.lput x d a b) := rfl
theorem lend (x : Issue) (d : Greg) (a : Greg) (b : Vreg) : Statement (.lend x d a b) := rfl
theorem lendt (x : Issue) (d : Greg) (a : Greg) (b : Vreg) : Statement (.lendt x d a b) := rfl
theorem ldrop (x : Issue) (d : Greg) : Statement (.ldrop x d) := rfl
theorem lget (x : Issue) (d : Greg) (a : Greg) : Statement (.lget x d a) := rfl
theorem lgetd (x : Issue) (d : Greg) (a : Greg) (b : Greg) : Statement (.lgetd x d a b) := rfl
theorem ltry (x : Issue) (d : Greg) (a : Greg) : Statement (.ltry x d a) := rfl
theorem htie (x : Issue) (d : Greg) (a : Greg) : Statement (.htie x d a) := rfl
theorem htied (x : Issue) (d : Greg) (a : Greg) (b : Greg) : Statement (.htied x d a b) := rfl
theorem huntie (x : Issue) (d : Greg) (a : Greg) : Statement (.huntie x d a) := rfl
theorem htry (x : Issue) (d : Greg) (a : Greg) : Statement (.htry x d a) := rfl
theorem tput (x : Issue) (v : Vreg) (tile : TileNo) : Statement (.tput x v tile) := rfl
theorem tend (x : Issue) (d : Greg) (v : Vreg) (tile : TileNo) : Statement (.tend x d v tile) := rfl
theorem tendt (x : Issue) (d : Greg) (v : Vreg) (tile : TileNo) : Statement (.tendt x d v tile) := rfl
theorem park (x : Issue) (a : Greg) : Statement (.park x a) := rfl
theorem yield (x : Issue) : Statement (.yield x) := rfl
theorem timens (x : Issue) (d : Greg) : Statement (.timens x d) := rfl
theorem brk (x : Issue) : Statement (.brk x) := rfl
theorem treseat (x : Issue) (a : Greg) : Statement (.treseat x a) := rfl
theorem iflush (x : Issue) : Statement (.iflush x) := rfl
theorem fence (x : Issue) : Statement (.fence x) := rfl
theorem mfs (x : Issue) (d : Greg) (n : BitVec 12) : Statement (.mfs x d n) := rfl
theorem mts (x : Issue) (a : Greg) (n : BitVec 12) : Statement (.mts x a n) := rfl
theorem vxor (x : Issue) (d : Vreg) (a : Vreg) (b : Vreg) : Statement (.vxor x d a b) := rfl
theorem vand (x : Issue) (d : Vreg) (a : Vreg) (b : Vreg) : Statement (.vand x d a b) := rfl
theorem vor (x : Issue) (d : Vreg) (a : Vreg) (b : Vreg) : Statement (.vor x d a b) := rfl
theorem vandn (x : Issue) (d : Vreg) (a : Vreg) (b : Vreg) : Statement (.vandn x d a b) := rfl
theorem vxor3 (x : Issue) (d : Vreg) (a : Vreg) (b : Vreg) : Statement (.vxor3 x d a b) := rfl
theorem vadd_8 (x : Issue) (d : Vreg) (a : Vreg) (b : Vreg) : Statement (.vadd_8 x d a b) := rfl
theorem vadd_16 (x : Issue) (d : Vreg) (a : Vreg) (b : Vreg) : Statement (.vadd_16 x d a b) := rfl
theorem vadd_32 (x : Issue) (d : Vreg) (a : Vreg) (b : Vreg) : Statement (.vadd_32 x d a b) := rfl
theorem vadd_64 (x : Issue) (d : Vreg) (a : Vreg) (b : Vreg) : Statement (.vadd_64 x d a b) := rfl
theorem vsub_8 (x : Issue) (d : Vreg) (a : Vreg) (b : Vreg) : Statement (.vsub_8 x d a b) := rfl
theorem vsub_16 (x : Issue) (d : Vreg) (a : Vreg) (b : Vreg) : Statement (.vsub_16 x d a b) := rfl
theorem vsub_32 (x : Issue) (d : Vreg) (a : Vreg) (b : Vreg) : Statement (.vsub_32 x d a b) := rfl
theorem vsub_64 (x : Issue) (d : Vreg) (a : Vreg) (b : Vreg) : Statement (.vsub_64 x d a b) := rfl
theorem vclmul (x : Issue) (d : Vpair) (a : Vreg) (b : Vreg) : Statement (.vclmul x d a b) := rfl
theorem vclmulG (x : Issue) (d : Vpair) (a : Vreg) (b : Vreg) : Statement (.vclmulG x d a b) := rfl
theorem vgfred (x : Issue) (d : Vreg) (a : Vpair) : Statement (.vgfred x d a) := rfl
theorem vgfredG (x : Issue) (d : Vreg) (a : Vpair) : Statement (.vgfredG x d a) := rfl
theorem vgfx (x : Issue) (d : Vreg) (a : Vreg) (n : BitVec 5) : Statement (.vgfx x d a n) := rfl
theorem vgfxG (x : Issue) (d : Vreg) (a : Vreg) (n : BitVec 5) : Statement (.vgfxG x d a n) := rfl
theorem vgf8mul (x : Issue) (d : Vreg) (a : Vreg) (b : Vreg) : Statement (.vgf8mul x d a b) := rfl
theorem vgf8mac (x : Issue) (d : Vreg) (a : Vreg) (b : Vreg) : Statement (.vgf8mac x d a b) := rfl
theorem vgf8muls (x : Issue) (d : Vreg) (a : Vreg) (b : Greg) : Statement (.vgf8muls x d a b) := rfl
theorem vgf8macs (x : Issue) (d : Vreg) (a : Vreg) (b : Greg) : Statement (.vgf8macs x d a b) := rfl
theorem vfold (x : Issue) (d : Vreg) (a : Vreg) : Statement (.vfold x d a) := rfl
theorem vctr32 (x : Issue) (d : Vreg) (a : Vreg) (b : Greg) : Statement (.vctr32 x d a b) := rfl
theorem vctr128 (x : Issue) (d : Vreg) (a : Vreg) (b : Greg) : Statement (.vctr128 x d a b) := rfl
theorem vtageq (x : Issue) (d : Preg) (a : Vreg) (b : Vreg) : Statement (.vtageq x d a b) := rfl
theorem vmvg (x : Issue) (d : Greg) (a : Vreg) (e : Fin 8) : Statement (.vmvg x d a e) := rfl
theorem vmvv (x : Issue) (d : Vreg) (a : Greg) (e : Fin 8) : Statement (.vmvv x d a e) := rfl
theorem vbcast (x : Issue) (d : Vreg) (a : Greg) : Statement (.vbcast x d a) := rfl
theorem vshuf (x : Issue) (d : Vreg) (a : Vreg) (b : Vreg) : Statement (.vshuf x d a b) := rfl
theorem vbswap128 (x : Issue) (d : Vreg) (a : Vreg) : Statement (.vbswap128 x d a) := rfl
theorem vzero (x : Issue) (d : Vreg) : Statement (.vzero x d) := rfl
theorem lhdr (x : Issue) (d : Vreg) (a : Greg) : Statement (.lhdr x d a) := rfl
theorem aesFwd (tile : Fin 40) : Statement (.aesFwd tile) := rfl
theorem aesInv (tile : Fin 40) : Statement (.aesInv tile) := rfl
theorem keyPrefetch (tile : Fin 40) : Statement (.keyPrefetch tile) := rfl
theorem digestSha256 (tile : Fin 40) : Statement (.digestSha256 tile) := rfl
theorem digestSha512 (tile : Fin 40) : Statement (.digestSha512 tile) := rfl
theorem keccakAbsorb (tile : Fin 40) : Statement (.keccakAbsorb tile) := rfl
theorem keccakSqueeze (tile : Fin 40) : Statement (.keccakSqueeze tile) := rfl
theorem digestDual (tile : Fin 40) : Statement (.digestDual tile) := rfl
theorem tileBurst (tile : Fin 40) : Statement (.tileBurst tile) := rfl
theorem tileResponseDeliver (tile : Fin 40) : Statement (.tileResponseDeliver tile) := rfl
theorem tileInternalError (tile : Fin 40) : Statement (.tileInternalError tile) := rfl
theorem tileRestart (tile : Fin 40) : Statement (.tileRestart tile) := rfl
theorem strongroomLease (tile : Fin 40) : Statement (.strongroomLease tile) := rfl
theorem keyScheduleLoad (tile : Fin 40) : Statement (.keyScheduleLoad tile) := rfl
theorem vaultPersist : Statement .vaultPersist := rfl
theorem knotSign : Statement .knotSign := rfl
theorem bottomTreeBuild : Statement .bottomTreeBuild := rfl
theorem sealAutoNew : Statement .sealAutoNew := rfl
theorem drbgReseed : Statement .drbgReseed := rfl
theorem entropyHealthFail : Statement .entropyHealthFail := rfl
theorem importHandleExpiry : Statement .importHandleExpiry := rfl
theorem nonceExpiry : Statement .nonceExpiry := rfl
theorem trialTimeout : Statement .trialTimeout := rfl
theorem imageReady : Statement .imageReady := rfl
theorem codeRegionCheck (ok : Bool) : Statement (.codeRegionCheck ok) := rfl
theorem placeConfirm : Statement .placeConfirm := rfl
theorem epochClose : Statement .epochClose := rfl
theorem knotPublish : Statement .knotPublish := rfl
theorem epochLogPersist : Statement .epochLogPersist := rfl
theorem driveCompletion (drive : Fin 64) (id : Nat) (status : Nat) (data : List Byte) : Statement (.driveCompletion drive id status data) := rfl
theorem journalBlockSubmit : Statement .journalBlockSubmit := rfl
theorem mapCheckpoint : Statement .mapCheckpoint := rfl
theorem driveCmdTimeout (drive : Fin 64) (id : Nat) : Statement (.driveCmdTimeout drive id) := rfl
theorem controllerReset (drive : Fin 64) : Statement (.controllerReset drive) := rfl
theorem controllerReadyTimeout (drive : Fin 64) : Statement (.controllerReadyTimeout drive) := rfl
theorem driveEnumeration (found : List DriveInfo) : Statement (.driveEnumeration found) := rfl
theorem driveHotAdd (info : DriveInfo) : Statement (.driveHotAdd info) := rfl
theorem driveRemoval (drive : Fin 64) : Statement (.driveRemoval drive) := rfl
theorem driveAsyncEvent (drive : Fin 64) (warning : BitVec 8) : Statement (.driveAsyncEvent drive warning) := rfl
theorem driveInboundRequest (drive : Fin 64) (addr : Nat) (len : Nat) (posted : Bool) : Statement (.driveInboundRequest drive addr len posted) := rfl
theorem journalResync : Statement .journalResync := rfl
theorem rebuildExtent (vol : Fin 256) : Statement (.rebuildExtent vol) := rfl
theorem sweepCycleStart (vol : Fin 256) : Statement (.sweepCycleStart vol) := rfl
theorem sweepExtent (vol : Fin 256) : Statement (.sweepExtent vol) := rfl
theorem transcryptExtent (n : Fin 16) (data : Option (List Byte)) : Statement (.transcryptExtent n data) := rfl
theorem batchCursorPersist : Statement .batchCursorPersist := rfl
theorem backgroundDeallocate : Statement .backgroundDeallocate := rfl
theorem storageStartup : Statement .storageStartup := rfl
theorem replayInPlace : Statement .replayInPlace := rfl
theorem nvmtConnectionOpen (init : Bool) (index : Fin 4096) (remote : List Byte) (port : BitVec 16) (t : Fin 2048) (subsys : BitVec 16) (host : Fin 4096) (queue : Fin 65) (ctrl : Nat) : Statement (.nvmtConnectionOpen init index remote port t subsys host queue ctrl) := rfl
theorem nvmtTlsHandshake (c : Nat) (ident : List Byte) (ok : Bool) : Statement (.nvmtTlsHandshake c ident ok) := rfl
theorem nvmtPduError (c : Nat) (digest : Bool) : Statement (.nvmtPduError c digest) := rfl
theorem tcpRetransmitTimeout (c : Nat) : Statement (.tcpRetransmitTimeout c) := rfl
theorem tcpProgressTimeout (c : Nat) : Statement (.tcpProgressTimeout c) := rfl
theorem nvmtIdentify (c : Nat) (sqe : List Byte) : Statement (.nvmtIdentify c sqe) := rfl
theorem nvmtGetLogPage (c : Nat) (sqe : List Byte) : Statement (.nvmtGetLogPage c sqe) := rfl
theorem nvmtGetFeatures (c : Nat) (sqe : List Byte) : Statement (.nvmtGetFeatures c sqe) := rfl
theorem nvmtSetFeatures (c : Nat) (sqe : List Byte) : Statement (.nvmtSetFeatures c sqe) := rfl
theorem nvmtKeepAlive (c : Nat) (sqe : List Byte) : Statement (.nvmtKeepAlive c sqe) := rfl
theorem nvmtAsyncEventRequest (c : Nat) (sqe : List Byte) : Statement (.nvmtAsyncEventRequest c sqe) := rfl
theorem nvmtRead (c : Nat) (sqe : List Byte) : Statement (.nvmtRead c sqe) := rfl
theorem nvmtWrite (c : Nat) (sqe : List Byte) (data : List Byte) : Statement (.nvmtWrite c sqe data) := rfl
theorem nvmtFlush (c : Nat) (sqe : List Byte) : Statement (.nvmtFlush c sqe) := rfl
theorem nvmtDeallocate (c : Nat) (sqe : List Byte) (data : List Byte) : Statement (.nvmtDeallocate c sqe data) := rfl
theorem scrubPass (addr : Nat) (kind : Fin 3) : Statement (.scrubPass addr kind) := rfl
theorem zeroFillChunk (chunk : Nat) : Statement (.zeroFillChunk chunk) := rfl
theorem gddr6Recalibrate : Statement .gddr6Recalibrate := rfl
theorem ladderDescend : Statement .ladderDescend := rfl
theorem ladderWake (cause : Fin 8) : Statement (.ladderWake cause) := rfl
theorem wakeAtTimer : Statement .wakeAtTimer := rfl
theorem hibernateTimer : Statement .hibernateTimer := rfl
theorem powerGroupTimeout (group : Fin 5) : Statement (.powerGroupTimeout group) := rfl
theorem pwrGoodFall (group : Fin 5) : Statement (.pwrGoodFall group) := rfl
theorem powerRetry : Statement .powerRetry := rfl
theorem vsbDipStart (mv : Nat) : Statement (.vsbDipStart mv) := rfl
theorem vsbDipEnd (mv : Nat) : Statement (.vsbDipEnd mv) := rfl
theorem vsbBrownout (mv : Nat) : Statement (.vsbBrownout mv) := rfl
theorem brownoutRelease : Statement .brownoutRelease := rfl
theorem vsbFirstApply : Statement .vsbFirstApply := rfl
theorem coldStart (bif' : Fin 4) : Statement (.coldStart bif') := rfl
theorem thermalSample (island : Fin 18) (temp : BitVec 10) (watts : Nat) : Statement (.thermalSample island temp watts) := rfl
theorem thermtripRelease : Statement .thermtripRelease := rfl
theorem avsCurrentRead (ok : Bool) (amps : Nat) : Statement (.avsCurrentRead ok amps) := rfl
theorem coreRetireTimeout (core : Fin 256) : Statement (.coreRetireTimeout core) := rfl
theorem corridorAckTimeout : Statement .corridorAckTimeout := rfl
theorem clusterFault (cluster : Fin 4) : Statement (.clusterFault cluster) := rfl
theorem deviceFault : Statement .deviceFault := rfl
theorem dataLinkUp (rate : Fin 8) (lanes : Fin 17) (flit : Bool) : Statement (.dataLinkUp rate lanes flit) := rfl
theorem msixControlWrite (v : BitVec 16) : Statement (.msixControlWrite v) := rfl
theorem malformedTlp (kind : Fin 3) : Statement (.malformedTlp kind) := rfl
theorem receiverError (kind : Fin 3) : Statement (.receiverError kind) := rfl
theorem replayTimerTimeout : Statement .replayTimerTimeout := rfl
theorem unsupportedRequest : Statement .unsupportedRequest := rfl
theorem noCommonAbility (port : Fin 4) : Statement (.noCommonAbility port) := rfl
theorem keepAliveTimerExpiry (ctrl : Nat) : Statement (.keepAliveTimerExpiry ctrl) := rfl
theorem marchRunEnd (faults : List Nat) (skipped : Nat) : Statement (.marchRunEnd faults skipped) := rfl
theorem sealKeyPairBuilt : Statement .sealKeyPairBuilt := rfl
theorem imageSectionLoaded : Statement .imageSectionLoaded := rfl
theorem codeReloadEnd : Statement .codeReloadEnd := rfl
theorem jtagDebugAccess (kind : Fin 4) (write : Bool) (addr : Nat) (v : BitVec 64) : Statement (.jtagDebugAccess kind write addr v) := rfl

end Sys2Proof.Laws.Operands
end

