-- ==== Sys2Proof/Tests/Slice0.lean ====
section
/-!
SUPPORT. Tests: words of Dreko instructions written out from their encodings (R330 to R334), ill-formed commands that
WellFormed refuses, and for every statement with hypotheses a state and operands that meet them.
-/

set_option maxRecDepth 8192

namespace Sys2Proof.Tests

open Sys2Proof.Machine

/-! ## Words from the encoding tables: GUARD, MAJOR, D, A, B, FN, or the fields of formats I, S, K, J and T -/

/-- Thread 0, with a guard that always executes. -/
def x0 : Issue := ⟨0, 0⟩

theorem test_decode_add : decodeDreko 0 0b0000_000001_00011_00001_00010_0000000 = some (.add x0 3 1 2) := by decide
theorem test_decode_bswap : decodeDreko 0 0b0000_000001_11111_00001_00000_0001110 = some (.bswap x0 31 1) := by decide
theorem test_decode_addi : decodeDreko 0 0b1001_000010_00011_00001_111111111111 = some (.addi ⟨0, 9⟩ 3 1 0xFFF) := by decide
theorem test_decode_srai : decodeDreko 0 0b0000_000110_11111_00001_100000_111111 = some (.srai x0 31 1 63) := by decide
theorem test_decode_ldi : decodeDreko 0 0b0000_000111_00101_10000000000000001 = some (.ldi x0 5 0x10001) := by decide
theorem test_decode_cmpTest : decodeDreko 0 0b0000_001001_00101_00001_00010_0000110 = some (.cmpTest x0 5 1 2) := by decide
theorem test_decode_cmpi : decodeDreko 0 0b0000_001010_10_101_00001_100000000000 = some (.cmpiLts x0 5 1 0x800) := by decide
theorem test_decode_pset : decodeDreko 0 0b0000_001011_00000_00111_00000_0000101 = some (.pset x0 7) := by decide
theorem test_decode_j : decodeDreko 0 0b1011_001100_1000000000000000000000 = some (.j ⟨0, 11⟩ 0x200000) := by decide
theorem test_decode_jr : decodeDreko 0 0b0000_001110_11110_00010_00000_0000000 = some (.jr x0 30 2) := by decide
theorem test_decode_std : decodeDreko 0 0b0000_010111_00010_00001_000000001000 = some (.std x0 2 1 8) := by decide
theorem test_decode_vld : decodeDreko 0 0b0000_011000_00111_00001_000001000000 = some (.vld x0 7 1 64) := by decide
theorem test_decode_acas : decodeDreko 0 0b0000_011010_00011_00001_00010_0000010 = some (.acas x0 3 1 2) := by decide
theorem test_decode_lendt : decodeDreko 0 0b0000_100000_00011_00001_00010_0000010 = some (.lendt x0 3 1 2) := by decide
theorem test_decode_htied : decodeDreko 0 0b0000_100001_00011_00001_00010_0000001 = some (.htied x0 3 1 2) := by decide
theorem test_decode_tend : decodeDreko 0 0b0000_100010_00011_00010_100111_000001 = some (.tend x0 3 2 39) := by decide
theorem test_decode_park : decodeDreko 0 0b0000_100100_00000_00001_00000_0000000 = some (.park x0 1) := by decide
theorem test_decode_mfs : decodeDreko 0 0b0000_100101_00011_00000_000000010001 = some (.mfs x0 3 0x011) := by decide
theorem test_decode_vsub : decodeDreko 0 0b0000_110000_00011_00001_00010_0001110 = some (.vsub_32 x0 3 1 2) := by decide
theorem test_decode_vclmulG : decodeDreko 0 0b0000_110001_00110_00001_00010_0000001 = some (.vclmulG x0 3 1 2) := by decide
theorem test_decode_vmvg : decodeDreko 0 0b0000_110010_00011_00001_00111_0000000 = some (.vmvg x0 3 1 7) := by decide

/-- R332: the zero word, a used field out of range, an unused bit set and an absent FN decode to nothing. -/
theorem test_decode_illegal :
    decodeDreko 0 0 = none ∧ decodeDreko 0 0b0000_110000_01000_00001_00010_0000000 = none ∧
    decodeDreko 0 0b0000_100010_00011_00010_101000_000001 = none ∧ decodeDreko 0 0b0000_110001_00011_00001_00010_0000001 = none ∧
    decodeDreko 0 0b0000_000001_00011_00001_00001_0001100 = none ∧ decodeDreko 0 0b0000_000001_00011_00001_00010_0001111 = none ∧
    decodeDreko 0 0b0000_110001_00011_00001_01001_0000100 = none := by decide

/-! ## Commands that are not well formed -/

/-- A packet by the front door with nothing set. -/
def p0 : Packet := ⟨.frontDoor, 0, 0, ⟨0, 0, 0⟩, 0, 0, [], .done, 0, 0, none, false⟩

/-- A drive below root port 0. -/
def d0 : DriveInfo := ⟨0, true, true, [], 0, true, true, true, 0, 0, 0, false⟩

theorem test_packet_wf : (Instr.devStatus p0).wf = true ∧ (Instr.devStatus { p0 with path := .roomRing 1023 }).wf = true := by decide
theorem test_ill_room_ring : (Instr.devStatus { p0 with path := .roomRing 1024 }).wf = false := by decide
theorem test_ill_time : (Instr.timeSet { p0 with atTime := ⟨0, 2 ^ 32, 0⟩ }).wf = false ∧
    (Instr.timeSet { p0 with atTime := ⟨2 ^ 64, 0, 0⟩ }).wf = false ∧ (Instr.timeSet { p0 with atTime := ⟨0, 0, 2 ^ 32⟩ }).wf = false := by decide
theorem test_ill_packet_room : (Instr.roomOpen { p0 with room := 0x10000 }).wf = false := by decide
theorem test_ill_reply : (Instr.cfgQuery { p0 with replyPtr := 2 ^ 64 }).wf = false ∧
    (Instr.cfgQuery { p0 with replyLen := 2 ^ 32 }).wf = false := by decide
theorem test_ill_entry : (Instr.ringCreate { p0 with entry := some 32 }).wf = false ∧
    (Instr.ringCreate { p0 with entry := some (2 ^ 64) }).wf = false := by decide
theorem test_ill_handle : (Instr.schedRelease (2 ^ 32)).wf = false := by decide
theorem test_ill_offset : (Instr.registerWrite 2 false ⟨0, false, false⟩).wf = false ∧ (Instr.registerWrite 4 true ⟨0, false, false⟩).wf = false ∧
    (Instr.rcCounterRead (2 ^ 32 + 0x1880) ⟨false, false⟩).wf = false := by decide
theorem test_ill_ring : (Instr.ringDoorbell (2 ^ 32) ⟨0, false, false⟩).wf = false ∧ (Instr.txDescriptor (2 ^ 32)).wf = false ∧
    (Instr.storeWrite (2 ^ 32)).wf = false ∧ (Instr.moderationFire (2 ^ 32)).wf = false ∧
    (Instr.rxHoldLimitExpiry (2 ^ 32)).wf = false := by decide
theorem test_ill_tag : (Instr.completionTimeout (2 ^ 14)).wf = false ∧ (Instr.quarantineEnd (2 ^ 14)).wf = false := by decide
theorem test_ill_translation : (Instr.atsTranslationCompletion 1024 0 none).wf = false ∧
    (Instr.atsTranslationCompletion 0xFFFF 1 none).wf = false ∧ (Instr.atsTranslationCompletion 0 0 (some 1)).wf = false := by decide
theorem test_ill_invalidation : (Instr.invalidationCompletion 32).wf = false := by decide
theorem test_ill_line : (Instr.lineMessageDeliver 65536).wf = false ∧ (Instr.lendAccept 65536).wf = false ∧
    (Instr.hitchGrant 32768).wf = false := by decide
theorem test_ill_drive_command : (Instr.driveCmdTimeout 0 65536).wf = false := by decide
theorem test_ill_drive : (Instr.driveHotAdd { d0 with port := 8 }).wf = false ∧ (Instr.driveEnumeration [d0, { d0 with blocks := 2 ^ 64 }]).wf = false ∧
    (Instr.driveHotAdd { d0 with serial := List.replicate 21 0 }).wf = false := by decide
theorem test_ill_inbound : (Instr.driveInboundRequest 0 (2 ^ 64) 1 false).wf = false := by decide
theorem test_ill_capsule : (Instr.nvmtFlush 0 []).wf = false := by decide
theorem test_ill_controller : (Instr.keepAliveTimerExpiry 65536).wf = false := by decide
theorem test_ill_memory_address : (Instr.scrubPass (2 ^ 38) 0).wf = false := by decide
theorem test_ill_supply : (Instr.vsbDipStart 65536).wf = false ∧ (Instr.vsbBrownout 65536).wf = false := by decide

/-! ## Witnesses: Dreko instructions -/

/-- Thread 0 of a block whose line and hitch units serve, with `f` applied to it. -/
def live (f : Thread → Thread := id) : State :=
  let s := State.reset.setThread 0 (f { Thread.idle with role := .storage, state := .ready })
  { s with cores := { s.cores with lhReady := true } }

/-- A state with line `n` as `l`. -/
def lined (n : Nat) (l : Line) (f : Thread → Thread := id) : State := (live f).setLine n l

/-- The hypothesis of IntegerResults, PredicateResults, VectorResults and of every other result of a Dreko instruction. -/
theorem witness_runs : (live).runs x0 ∧ (live).runs ⟨0, 15⟩ ∧ (live (fun t => { t with p := 0x80 })).runs ⟨0, 7⟩ := by
  unfold State.runs; decide

theorem witness_GuardRule :
    drekoFields (.j x0 0) = some (x0, 0b001100 * 2 ^ 22) ∧ ((State.reset).self x0).issues = false ∧ ((live).self x0).issues = true ∧
    (⟨0, 8⟩ : Issue).guard = 8 ∧
    (((live).self x0).rp (Fin.ofNat 8 ((1 : BitVec 4).toNat % 8)) != (1 : BitVec 4).getLsbD 3) = false ∧ (7 : Preg) ≠ 0 := by decide

theorem witness_DrekoRoundTrip : drekoFields (.vgfx x0 7 7 8) = some (x0, 0b110001_00111_00111_01000_0000100) ∧
    encodable (.vgfx x0 7 7 8) = true ∧ drekoFields (.j ⟨2047, 15⟩ 0x3FFFFF) = some (⟨2047, 15⟩, 0b001100_1111111111111111111111) := by decide

theorem witness_RegisterOnlyFrame : registerOnly (.vzero x0 7) = some (x0, .v 7) ∧ registerOnly (.yield x0) = some (x0, .none) := by decide

theorem witness_Branches : (((live (fun t => { t with g := t.g.set 2 0xFFFFFFFC })).self x0).rg 2).toNat % 4 = 0 ∧
    (((live (fun t => { t with g := t.g.set 2 3 })).self x0).rg 2).toNat % 4 ≠ 0 ∧ ((live).self x0).issues = true ∧
    guardHolds ((live).self x0) 7 = false := by decide

/-- LoadStoreResults, the loads: from the start of memory; one that faults is beside them. -/
theorem witness_loads : (live).accessFault 0 ((live).effAddr x0 0 0) 1 false = none ∧
    (live).accessFault 0 ((live).effAddr x0 0 0xFFE) 2 false ≠ none ∧
    (live).accessFault 0 ((live).effAddr x0 0 2) 2 false = none ∧ (live).accessFault 0 ((live).effAddr x0 0 4) 4 false = none ∧
    (live).accessFault 0 ((live).effAddr x0 0 8) 8 false = none ∧ (live).accessFault 0 ((live).effAddr x0 0 64) 64 false = none ∧
    (live).poisoned 0 0 64 = false := by decide

/-- LoadStoreResults, the stores: the last bytes of core scratch (R305). -/
theorem witness_stores : let s := live (fun t => { t with g := t.g.set 2 0x20000 })
    s.accessFault 0 (s.effAddr x0 2 0xFFF) 1 true = none ∧ s.accessFault 0 (s.effAddr x0 2 0xFFE) 2 true = none ∧
    s.accessFault 0 (s.effAddr x0 2 0xFFC) 4 true = none ∧ s.accessFault 0 (s.effAddr x0 2 0xFF8) 8 true = none ∧
    s.accessFault 0 (s.effAddr x0 2 0xFC0) 64 true = none := by decide

theorem witness_AtomicResults : let s := live (fun t => { t with g := t.g.set 2 0x1FFF8 })
    s.accessFault 0 ((s.self x0).rg 2).toNat 8 true = none ∧ ((s.self x0).rg 2).toNat < 0x40000000 ∧
    s.poisoned 0 ((s.self x0).rg 2).toNat 8 = false ∧ BitVec.ofNat 64 (s.load 0 ((s.self x0).rg 2).toNat 8) = (s.self x0).rg 3 ∧
    BitVec.ofNat 64 (s.load 0 ((s.self x0).rg 2).toNat 8) ≠ (s.self x0).rg 2 := by decide

theorem witness_AccessFaults : let s := live (fun t => { t with g := ((t.g.set 2 (2 ^ 36)).set 3 7).set 4 0x45FFFFF8 })
    2 ^ 36 ≤ s.effAddr x0 2 0 ∧ s.effAddr x0 3 0 < 2 ^ 36 ∧ s.effAddr x0 3 0 % 8 ≠ 0 ∧ s.effAddr x0 3 0 % 2 ≠ 0 ∧
    0x40000000 ≤ ((s.self x0).rg 4).toNat ∧ ((s.self x0).rg 4).toNat < 0x46000000 ∧ ((s.self x0).rg 4).toNat % 8 = 0 := by decide

/-- Line 4,096 with room for one beat, and the request line of tile 39. -/
theorem witness_SendResults :
    let l : Line := ⟨1, 0, 0, 0, 0, [], [], []⟩
    let s := lined 4096 l (fun t => { t with g := t.g.set 1 4096 })
    let u := lined 2095 l
    (s.cores.lhReady = true ∧ 4096 < 65536 ∧ (s.line 4096).cap ≠ 0 ∧ s.annexLineOk 0 4096 = true ∧ (s.self x0).stagedElsewhere 4096 = false) ∧
    ((s.self x0).rg 1).toNat = 4096 ∧ (s.self x0).stagedBeats.length < 64 ∧ s.mayWrite 0 4096 = true ∧
    ((s.self x0).stagedBeats ++ [0]).length ≤ (s.line 4096).cap ∧ (s.line 4096).writers = [] ∧ (s.line 4096).used + 1 ≤ (s.line 4096).cap ∧
    ¬ ((s.setLine 4096 { l with queue := [[0]] }).line 4096).used + 1 ≤ l.cap ∧
    2095 = 2056 + (39 : TileNo).val ∧ u.mayWrite 0 2095 = true ∧ (u.line 2095).cap ≠ 0 ∧ (u.self x0).stagedElsewhere 2095 = false := by decide

theorem witness_ReceiveResults :
    let s := lined 0 ⟨1, 0, 0, 0, 0, [[0]], [], []⟩ (fun t => { t with g := t.g.set 1 1 })
    s.cores.lhReady = true ∧ ((s.self x0).rg 0).toNat < 65536 ∧ (s.line 0).cap ≠ 0 ∧ s.annexLineOk 0 0 = true ∧ s.mayRead 0 0 = true ∧
    (s.line 0).readers.filter (fun t => !(s.thread t).halted) = [] ∧ (s.line 0).queue = [[0]] ∧
    ((lined 0 ⟨1, 0, 0, 0, 0, [], [], []⟩).line 0).queue = [] ∧ s.now.value < ((s.self x0).rg 1).toNat ∧ ((s.self x0).rg 0).toNat ≤ s.now.value := by
  decide

theorem witness_HitchResults :
    let s := (live (fun t => { t with g := (t.g.set 1 1).set 2 32767 })).setHitch 32767 ⟨1, [], []⟩
    let u := (live (fun t => { t with held := [32767] })).setHitch 32767 ⟨1, [0], []⟩
    (s.cores.lhReady = true ∧ (s.hitch 32767).count ≠ 0 ∧ ¬ (s.isAnnex 0 = true ∧ 32767 < 30720) ∧ 32767 ∉ (s.self x0).held ∧
      (s.self x0).held.length < 16) ∧ ((s.self x0).rg 2).toNat = 32767 ∧ (s.hitch 32767).queue = [] ∧
    (s.hitch 32767).holders.length < (s.hitch 32767).count ∧
    ((s.setHitch 32767 ⟨1, [9], []⟩).hitch 32767).count ≤ ((s.setHitch 32767 ⟨1, [9], []⟩).hitch 32767).holders.length ∧
    s.now.value < ((s.self x0).rg 1).toNat ∧ ((s.self x0).rg 0).toNat ≤ s.now.value ∧
    (u.hitch 32767).count ≠ 0 ∧ 32767 ∈ (u.self x0).held := by decide

/-- Instructions of a thread while the line and hitch units do not serve. -/
theorem witness_Unavailable : let s := { live with cores := { (live).cores with lhReady := false } }
    s.cores.lhReady = false ∧ (s.self x0).issues = true ∧ guardHolds (s.self x0) 0 = true := by decide

theorem witness_BreakRule : (live).sr.debugLevel = 0 ∧ { live with sr := { (live).sr with debugLevel := 2 } }.sr.debugLevel ≠ 0 := by decide

/-- Threads from 1,920 on stand on annex cores (R297). -/
theorem witness_SystemResults :
    let s := live (fun t => { t with g := t.g.set 1 1 })
    ((s.self x0).rg 0).toNat ≤ s.now.value ∧ s.now.value < ((s.self x0).rg 1).toNat ∧ s.isAnnex 0 = false ∧
    (live).isAnnex 1920 = true ∧
    ((s.setThread 1 { Thread.idle with state := .reseating }).thread ((s.self x0).rg 1).toNat).state = .reseating ∧
    (s.thread 0).state ≠ .reseating ∧ (s.thread 0).role ≠ .idle ∧
    ((s.setThread 1 { Thread.idle with role := .seal }).thread 1).role ≠ .idle := by decide

theorem witness_FieldResults : 1 ≤ (1 : BitVec 5).toNat ∧ (8 : BitVec 5).toNat ≤ 8 ∧ ¬ (1 ≤ (0 : BitVec 5).toNat ∧ (0 : BitVec 5).toNat ≤ 8) ∧
    ¬ (1 ≤ (9 : BitVec 5).toNat ∧ (9 : BitVec 5).toNat ≤ 8) := by decide

/-! ## Witnesses: Ehrenan commands -/

/-- A block whose command paths serve, with memory decoding and bus mastering enabled. -/
def up (f : State → State := id) : State :=
  f { State.reset with
    sr := { State.reset.sr with ready := true, romDone := true }
    gen := { State.reset.gen with locked := true, profile := 1, last := 1, current := 1 }
    link := { State.reset.link with memEnable := true, bme := true, dlUp := true } }

/-- A parameter block of `n` bytes, zero but for the fields (offset, width, value). -/
def par (n : Nat) (fs : List (Nat × Nat × Nat)) : List Byte :=
  fs.foldl (fun bs f => bs.take f.1 ++ leBytes f.2.2 f.2.1 ++ bs.drop (f.1 + f.2.1)) (List.replicate n 0)

/-- The packet of a command with this block, for room `r`. -/
def pk (n : Nat) (fs : List (Nat × Nat × Nat)) (r : Nat := 0xFFFF) : Packet := { p0 with params := par n fs, room := r }

/-- A furnished, opened, frozen … room 5. -/
def roomed (st : RoomState) (f : Room → Room := id) (s : State := up) : State :=
  s.setRoom 5 (f { Room.vacant with state := st, limits := ⟨7, 4, 1, 8, 4, 4, 4, 4, 4⟩ })

theorem witness_CommandFrame_rows : commandRow (.ringEnable p0) = some (p0, cmdRingEnable) ∧
    commandRow (.dbgNonce p0) = some (p0, cmdDbgNonce) := ⟨rfl, rfl⟩

theorem witness_CommandFrame :
    (State.reset).pathUp .frontDoor = false ∧ (up).pathUp .frontDoor = true ∧
    cmdRoomDoze.front = false ∧ (up).pathUp .mctp = true ∧ cmdRingEnable.mctp = false ∧
    (roomed .opened).pathUp (.roomRing 5) = true ∧ cmdCfgCommit.room = false ∧
    cmdCfgCommit.recovery = false ∧ cmdCfgCommit.permits up .frontDoor = true ∧ bits (2 ^ 6) 14 6 ≠ 0 ∧ bits (2 ^ 13) 14 6 ≠ 0 ∧
    bits 0x3F 14 6 = 0 ∧ roomFieldOk 0x0004 0xFFFF = true ∧ roomFieldOk 0x0102 1023 = true ∧
    cmdCfgCommit.paramsOk [] = true ∧ cmdCfgQuery.paramsOk [] = false := by decide

/-- A command that ends, one with more of its reply to come, and one that goes on in the background. -/
theorem witness_CommandFrame_starts :
    let s := roomed .opened (fun r => { r with dirty := some ⟨[0x1000, 0x2000], false⟩ })
    let p := { pk 8 [(0, 1, 2)] 5 with replyPtr := 0x4000, replyLen := 24 }
    cmdDevStatus.starts p0 up ∧ cmdRoomDirtyLog.starts p s ∧
    (match cmdRoomDirtyLog.body (cmdRoomDirtyLog.context p) s with | .part .ok _ _ => True | _ => False) ∧
    cmdRoomReset.starts (pk 0 [] 5) s ∧
    (match cmdRoomReset.body (cmdRoomReset.context (pk 0 [] 5)) s with | .held _ => True | _ => False) := by
  refine ⟨?_, ?_, ?_, ?_, ?_⟩ <;> first | (unfold Command.starts; decide) | exact trivial

theorem witness_CommandRules :
    let p := { p0 with replyPtr := 0x4000, replyLen := 64 }
    let q := { p0 with flags := 1, atTime := ⟨0, 1, 0⟩ }
    p.entry = none ∧ bit p.flags.toNat 4 = false ∧ (up).dmaOpen = true ∧ p.replyPtr ≠ 0 ∧ Path.ringRoom p.path = none ∧
    cmdCfgCommit.refuses up q = none ∧ q.atTimeFlag = true ∧ q.periodic = false ∧ q.dry = false ∧ (up).now.units < q.atTime.units ∧
    (up).cmd.stored.length < 4096 ∧ { q with atTime := ⟨0, 0, 0⟩ }.atTime.units ≤ (up).now.units ∧
    cmdCfgCommit.refuses up { q with atTime := ⟨0, 0, 0⟩ } = none ∧ { q with flags := 3 }.strict = true ∧ q.strict = false ∧
    (up).cmd.nextHandle ≠ 0 ∧ (up).cmd.nextHandle ∉ (up).cmd.stored.map Stored.handle := by decide

/-- A full store of scheduled commands refuses with BUSY. -/
theorem witness_CommandRules_full :
    4096 ≤ (List.replicate 4096 (⟨1, 4, p0, 1, false, 0, 0⟩ : Stored)).length := Nat.le_of_eq List.length_replicate.symm

/-- StagedCommands, and the others named witness_staged: StagedCommands and StagedStoreCommands. -/
theorem witness_staged_device : let s := up fun s => { s with gen := { s.gen with locked := false } }
    cmdDeviceProfile.starts (pk 8 [(0, 1, 2)]) s ∧ s.gen.locked = false ∧ fld (pk 8 [(0, 1, 2)]).params 0 1 = 2 := by
  unfold Command.starts; decide

theorem witness_staged_rooms :
    let p := pk 32 [(0, 4, 9), (4, 2, 64), (0x14, 4, 16)] 1023
    let q := pk 256 [(0, 8, 0xFEE00000)] 5
    let r := pk 12 [(0, 4, 10000), (4, 1, 1), (8, 4, 16)] 5
    cmdRoomFurnish.starts p (roomed .opened) ∧ ((roomed .opened).room 1023).state = .vacant ∧ (roomed .opened).sr.debugLevel = 0 ∧
    furnishRefused (Limits.of p.params) ((roomed .opened).otherLimits 1023) 2 (roomed .opened).sramUnitsMax = none ∧
    cmdRoomMsgSet.starts q (roomed .opened) ∧ (roomed .opened).roomBarred 5 = none ∧ (roomed .opened).unfurnished 5 = false ∧
    (∀ e, e ∈ recordsOf q.params 0 16 16 → fld e 0 8 % 4 = 0) ∧ cmdRoomPolicy.starts r (roomed .opened) ∧ fld r.params 0 4 % 100 = 0 := by
  unfold Command.starts; decide

/-- Transmit ring 1 of room 5 as a disabled ring. -/
def ringed (f : Ring → Ring := id) (s : State := roomed .opened) : State :=
  s.setRing 0x00050001 (f { Ring.absent with live := true, log2 := 6, base := 0x10000, globalNo := 9 })

/-- A transmit ring of room 5; then the ring destroyed, and a weight for it and for the frames from the host's owner. -/
theorem witness_staged_rings :
    let s := roomed .furnished
    let p := pk 48 [(8, 4, 1), (16, 4, 0x00050001), (20, 1, 16), (24, 8, 0x10000)] 5
    let q := pk 12 [(0, 2, 1), (8, 4, 0x00050001)]
    let w := pk 24 [(0, 2, 2), (8, 4, 0x00050001), (12, 1, 1), (13, 1, 64), (16, 4, 0xF00003FF), (20, 1, 255)]
    cmdRingCreate.starts p s ∧ s.roomBarred 5 = none ∧ fld p.params 0 8 % 4096 = 0 ∧
    (stageRings 5 (p.params.take 8) (recordsOf p.params 16 32 (fld p.params 8 4)) s).isSome = true ∧
    cmdRingDestroy.starts q ringed ∧ (ringed).refsRefused q.scoped (ringRefs q.params 4) = none ∧
    (∀ ref, ref ∈ ringRefs q.params 4 → ((ringed).ring ref).enabled = false ∧ (refOwner ref = true ∨ (ringed).roomBarred (refRoom ref) = none)) ∧
    cmdRingWeight.starts w ringed ∧ (∀ e, e ∈ recordsOf w.params 8 8 (fld w.params 0 2) →
      1 ≤ fld e 4 1 ∧ (if fld e 0 4 = 0xFFFFFFFF ∨ (0xF0000000 ≤ fld e 0 4 ∧ fld e 0 4 < 0xF0000400) then fld e 5 1 = 0
        else (ringed).ringNamed (fld e 0 4) = true ∧ 1 ≤ fld e 5 1 ∧ fld e 5 1 ≤ 64)) := by
  unfold Command.starts; decide

theorem witness_staged_ports :
    let p := pk 64 [(0, 1, 3), (4, 2, 16128), (6, 1, 1), (0x10, 2, 100), (0x12, 2, 50), (0x30, 4, 16)]
    let q := pk 32 [(0, 1, 3), (1, 1, 2), (2, 1, 2), (3, 1, 1), (4, 4, 1000000)]
    let g := pk 16 [(0, 1, 3), (2, 2, 1), (8, 1, 0xFF), (12, 4, 8)]
    cmdPortConfig.starts p up ∧ portConfigOk p.params (((List.range 4).filter fun i => decide (i ≠ 3)).map fun i => (up).built 0x0300 i) = true ∧
    cmdPortPtp.starts q up ∧ fld q.params 4 4 ≤ 1000000 ∧ cmdTmGateList.starts g up ∧ gateListOk g.params = true := by
  unfold Command.starts; decide

theorem witness_staged_classification :
    let b := pk 8 [(0, 1, 1), (2, 1, 1)]
    let k := pk 28 [(1, 1, 15), (2, 1, 1), (4, 1, 1)]
    let h := pk 64 [(0, 1, 63), (1, 1, 2), (2, 1, 3), (4, 2, 1023), (6, 2, 0xFFFF)]
    let e := pk 64 [(0, 1, 2), (1, 1, 2), (2, 1, 1), (8, 4, 65535)]
    let t := pk 24 [(0, 1, 1), (2, 2, 1), (8, 2, 4095), (11, 1, 3), (14, 2, 0xFFFF)]
    let m := pk 40 [(0, 1, 1), (8, 1, 15), (10, 2, 64), (12, 4, 65536), (16, 1, 2), (18, 2, 0xFFFF), (22, 2, 0xFFFF)]
    cmdClsBankSelect.starts b up ∧ (∀ x, x ∈ b.params → x.toNat ≤ 1) ∧ cmdClsKeyProfile.starts k up ∧ keyProfileOk k.params = true ∧
    cmdClsHashSet.starts h up ∧ (fld h.params 6 2 < 1024 ∨ fld h.params 6 2 = 0xFFFF) ∧ cmdClsException.starts e up ∧
    (∀ i, i < 6 → fld e.params (8 + 4 * i) 4 < 65536) ∧
    cmdClsTunnel.starts t up ∧ (∀ r, r ∈ recordsOf t.params 8 (tunnelSize 1) 1 → tunnelRecOk (up).builtSettings 1 r = true) ∧
    cmdClsMirror.starts m up ∧ (∀ r, r ∈ recordsOf m.params 8 32 1 → mirrorOk r = true) := by
  unfold Command.starts; decide

/-- A node of the egress tree of port 0, a policer of room 5, telemetry thresholds, and time. -/
theorem witness_staged_traffic :
    let n := pk 40 [(0, 4, 1), (9, 1, 2), (10, 2, 0), (12, 1, 0x80), (13, 1, 1), (14, 1, 64)]
    let p := pk 24 [(0, 2, 1), (8, 2, 0), (10, 1, 0x80), (12, 2, 5), (16, 4, 1), (20, 4, 64)]
    let t := pk 24 [(1, 1, 1), (2, 2, 1), (16, 1, 5), (18, 2, 1), (20, 2, 1)]
    let y := pk 8 [(0, 1, 15), (4, 4, 100000)]
    let d := pk 16 [(0, 4, 1000000), (8, 8, 999999999)]
    let s := roomed .opened
    cmdTmNodeSet.starts n s ∧ (s.stageNodes (recordsOf n.params 8 32 (fld n.params 0 4))).1 = .ok ∧ cmdTmPolicerSet.starts p s ∧
    (∀ e, e ∈ recordsOf p.params 8 16 (fld p.params 0 2) → policerOk e = true) ∧
    roomPolicers (s.stageRecs 0x0502 (countOne 2 8) (fun e => fld e 0 2) (recordsOf p.params 8 16 1)).builtSettings 5 ≤ s.policerLimit 5 ∧
    cmdTmTelemetry.starts t s ∧ telemetryOk t.params = true ∧ cmdSyncConfig.starts y s ∧ fld y.params 4 4 ≤ 100000 ∧
    cmdPeriodSet.starts d s ∧ fld d.params 8 8 < fld d.params 0 4 * 1000 := by
  unfold Command.starts; decide

/-- Drive `n`, with room for a journal and for a volume. -/
def disk (n : Nat) : Drive := Drive.found { d0 with serial := [BitVec.ofNat 8 n], blocks := 2 ^ 30 } false

/-- Volume 1 over drives 0 and 1, striped, drive 1's place lost; namespace 1 in room 5, namespace 2 in no room. -/
def disks (f : State → State := id) : State :=
  let s := roomed .opened
  let v : Volume := ⟨1, 2, 0, 1, 0, 100, 0x201, [[0], [1]], [1], [], 0, [], [], [], none, none, []⟩
  f { s with store := { s.store with
    drives := [(0, disk 0), (1, disk 1), (2, disk 2), (3, disk 3)], volumes := [(1, v)],
    spaces := [(1, ⟨1, 5, 0, 2 ^ 30, false, 0, false⟩), (2, ⟨1, noRoom, 0, 2 ^ 30, false, 0, false⟩)] } }

theorem witness_staged_volumes :
    let c := pk 80 [(0, 2, 255), (3, 1, 1), (4, 1, 2), (6, 1, 1), (8, 2, 1000), (0x10, 1, 2), (0x11, 1, 3)]
    let r := pk 80 [(0, 2, 1), (2, 1, 1), (0x10, 1, 0), (0x11, 1, 1), (0x12, 1, 2)]
    let n := pk 24 [(0, 2, 4095), (4, 2, 1), (6, 2, 5), (8, 2, 3), (0x10, 8, 2 ^ 48)]
    let a := pk 24 [(0, 2, 2), (2, 1, 1), (6, 2, 5), (8, 2, 3)]
    let d := pk 24 [(0, 2, 1), (2, 1, 2)]
    let x := pk 8 [(0, 2, 1), (2, 1, 1)]
    cmdVolCreate.starts c disks ∧ (disks).volCreateOk c.params = true ∧ cmdVolCreate.starts r disks ∧ (disks).volReplaceOk r.params = true ∧
    (disks).volume 1 ≠ none ∧ cmdNsCreate.starts n disks ∧ (disks).space 4095 = none ∧ (disks).nsPlaceOk 4095 5 3 = true ∧
    (disks).stagedAt 0x0901 1 = none ∧
    cmdNsCreate.starts a disks ∧ ((disks).space 2).map Space.room = some noRoom ∧ (disks).nsPlaceOk 2 5 3 = true ∧
    cmdNsCreate.starts d disks ∧ ((disks).space 1).map Space.room = some 5 ∧ cmdNsDelete.starts x disks ∧ bit (fld x.params 2 1) 0 = true := by
  unfold Command.starts; decide

/-- A volume destroyed together with both its namespaces. -/
theorem witness_staged_VOL_DESTROY :
    let s := ((disks).stage 0x0903 1 []).stage 0x0903 2 []
    cmdVolDestroy.starts (pk 8 [(0, 2, 1)]) s ∧ (∃ v, s.volume 1 = some v ∧ bit v.flags 7 = false) ∧
    (∀ e, e ∈ s.store.spaces → e.2.vol = 1 → e.2.gone = true ∨ (s.stagedAt 0x0903 e.1).isSome = true) ∧
    (∀ c, c ∈ s.gen.staged → keyOp c.1 = 0x0902 → fld c.2 2 1 = 0 → fld c.2 4 2 ≠ 1) ∧ (∀ b, b ∈ s.store.batches → b.2.uses 1 = false) := by
  unfold Command.starts; exact ⟨by decide, ⟨_, rfl, by decide⟩, by decide, by decide, by decide⟩

theorem witness_staged_storage :
    let j := pk 16 [(0, 1, 2), (1, 1, 3), (2, 1, 0x80), (8, 2, 4), (0x0C, 4, 30000)]
    let s := (disks).stage 0x0900 7 [1]
    let w := pk 24 [(0, 2, 1), (8, 2, 7), (12, 2, 500), (16, 4, 24)]
    let h := pk 648 [(0, 2, 1), (8, 1, 2), (10, 2, 1023), (12, 2, 5)]
    cmdJournalSet.starts j disks ∧ (disks).journalDriveOk 2 4 true = true ∧ (disks).journalDriveOk 3 4 true = true ∧ (disks).store.path < 2 ∧
    cmdSweepSet.starts w s ∧ (∀ e, e ∈ recordsOf w.params 8 16 1 → s.sweepRecOk e = true) ∧
    cmdNvmtSet.starts h disks ∧ ((recordsOf h.params 8 640 1).foldl (fun (o : Option State) e => o.bind fun s => s.stageNvmt e) (some disks)).isSome = true := by
  unfold Command.starts; decide

theorem witness_staged_device_settings :
    let m := pk 8 [(0, 2, 4096)]
    let w := pk 32 [(0, 4, 100000), (4, 4, 100), (8, 2, 1000), (0x0B, 1, 16), (0x0C, 2, 240), (0x0E, 1, 85), (0x10, 4, 86400)]
    let t := pk 24 [(0, 2, 1), (8, 2, 255), (12, 4, 10), (16, 4, 1000)]
    let a := pk 10 [(0, 1, 1), (8, 2, 47)]
    cmdMemRegionSet.starts m up ∧ fld m.params 0 2 ≤ 4096 ∧ cmdPwrPolicy.starts w up ∧ fld w.params 0x0B 1 ∈ [1, 2, 4, 8, 16] ∧
    cmdDbgStallPolicy.starts t up ∧ (∀ e, e ∈ recordsOf t.params 8 16 1 → stallRecOk e = true) ∧
    cmdAnnexCores.starts a up ∧ (annexList a.params).eraseDups.length = 1 ∧
    (∀ c, c ∈ annexList a.params → c < 256 ∧ 32 ≤ c % 64 ∧ c % 64 ≤ 47 ∧ (up).coreOnStair c = false) := by
  unfold Command.starts; decide

/-! A commit of one change meets nothing that refuses it. -/

theorem witness_commit_device : (roomed .furnished).commitFits [(keyOf 0x0102 5, [1])] ∧ cmdRoomOpen.starts (pk 0 [] 5) (roomed .furnished) ∧
    cmdCfgCommit.starts p0 (roomed .furnished) ∧ (roomed .furnished).commitFits (roomed .furnished).gen.staged ∧
    cmdRoomVacate.starts (pk 0 [] 5) (roomed .furnished) ∧ (roomed .furnished).commitFits [(keyOf 0x0105 5, [1])] ∧
    ((roomed .furnished).room 5).tdiLocked = false ∧ cmdRoomClose.starts (pk 0 [] 5) (roomed .opened) ∧
    (roomed .opened).commitFits [(keyOf 0x0103 5, [1])] ∧ ((roomed .opened).room 5).tdi ≠ .run := by
  unfold Command.starts State.commitFits; decide

theorem witness_commit_timed :
    let a := pk 2 [(0, 1, 3)]
    let h := pk 24 [(0, 2, 1), (8, 1, 5), (9, 1, 2), (12, 4, 800000000), (16, 4, 1024)]
    let t := pk 40 [(0, 1, 3), (1, 1, 3), (4, 4, 100)]
    let g := pk 16 [(0, 1, 3), (2, 2, 1), (8, 1, 0xFF), (12, 4, 8)]
    let d := pk 16 [(0, 4, 1000000), (8, 8, 999999999)]
    let node := countOne 4 8 ++ par 32 [(0, 1, 5), (1, 1, 2), (4, 1, 0xC0), (5, 1, 1), (6, 1, 1), (0x10, 4, 1), (0x14, 4, 1024)]
    let s := up fun s => { s with gen := { s.gen with cur := Settings.set s.gen.cur (keyOf 0x0500 (nodeSel 5 2 0)) node } }
    cmdPortAdmin.starts a up ∧ (up).commitFits [(keyOf 0x0301 3, a.params)] ∧ cmdTmShaperRate.starts h s ∧
    (∀ e, e ∈ recordsOf h.params 8 16 1 → s.shaperRecOk e = true) ∧
    s.commitFits ((recordsOf h.params 8 16 1).foldl (s.shaperChanges false) []) ∧
    cmdPpsSet.starts t up ∧ ppsOk t.params ((up).time.periodUs * 1000) = true ∧ (up).commitFits [(keyOf 0x0604 3, t.params)] ∧
    gateListOk g.params = true ∧ (up).commitFits [(keyOf 0x0503 3, g.params)] ∧ periodOk d.params = true ∧ (up).commitFits [(keyOf 0x0602 0, d.params)] := by
  unfold Command.starts State.commitFits; decide

theorem witness_CommitCommands :
    let busy := up fun s => { s with gen := { s.gen with prevLive := true } }
    let stall := up fun s => { s with gen := { s.gen with stalled := true } }
    cmdCfgCommit.starts p0 busy ∧ busy.gen.stalled = false ∧ busy.gen.prevLive = true ∧ busy.gen.inProgress = false ∧ busy.gen.rolledOnce = false ∧
    cmdCfgRollback.starts p0 busy ∧ cmdCfgCommit.starts p0 stall ∧ stall.gen.stalled = true ∧ cmdCfgDiscard.starts p0 stall := by
  unfold Command.starts; decide

theorem witness_QueryCommands :
    let q (copy op sel : Nat) : Packet := pk 16 [(0, 2, op), (2, 1, copy), (4, 4, sel)]
    let s := (up fun s => { s with gen := { s.gen with prevLive := true } }).stage 0x0504 0 [9]
    cmdDevIdentify.starts p0 s ∧ cmdDevStatus.starts p0 s ∧ cmdCfgQuery.starts (q 1 0x0504 0) s ∧
    (s.settingOf s.gen.cur 0x0602 0).isSome = true ∧ (s.stagedOf 0x0504 0).isSome = true ∧ s.stagedOf 0x0602 0 = none ∧
    (s.settingOf s.gen.prev 0x0602 0).isSome = true ∧ (up).gen.prevLive = false ∧ 0x0901 ∉ queryOps ∧
    cmdRoomQuery.starts (pk 0 [] 1023) s ∧ cmdPortQuery.starts (pk 8 [(0, 1, 3)]) s ∧ cmdFwQuery.starts p0 s ∧ cmdSealStatus.starts p0 s ∧
    cmdSealPubkeys.starts p0 s ∧ cmdDriveQuery.starts p0 s ∧ cmdMemErrQuery.starts p0 s := by
  unfold Command.starts; decide

theorem witness_RoomCommands :
    let d := pk 2 [(0, 1, 1), (1, 1, 1)]
    let log (n : Nat) : Packet := pk 8 [(0, 1, n)] 5
    let logging := roomed .opened (fun r => { r with dirty := some ⟨[0x1000], false⟩ })
    cmdRoomFreeze.starts (pk 0 [] 5) (roomed .opened) ∧ ((roomed .opened).room 5).state = .opened ∧
    cmdRoomThaw.starts (pk 0 [] 5) (roomed .frozen) ∧ ((roomed .frozen).room 5).tdi ≠ .locked ∧ ((roomed .frozen).room 5).saving = false ∧
    (roomed .frozen).runningOn 0x0108 5 = none ∧ cmdRoomFreeze.starts (pk 0 [] 5) (roomed .resetting) ∧
    cmdRoomReset.starts (pk 0 [] 5) (roomed .inError) ∧ resetAccepts .inError = true ∧ resetAccepts .vacant = false ∧ resetAccepts .resetting = false ∧
    cmdRoomDoze.starts { d with path := .roomRing 5 } (roomed .furnished) ∧ fld d.params 1 1 ≤ 1 ∧
    cmdRoomDirtyLog.starts (log 0) (roomed .opened) ∧ ((roomed .opened).rooms.filter fun e => e.2.dirty.isSome).length < 64 ∧
    cmdRoomDirtyLog.starts (log 1) logging ∧ cmdRoomDirtyLog.starts (log 2) logging ∧ (logging.room 5).dirty = some ⟨[0x1000], false⟩ := by
  unfold Command.starts; decide

/-- A migration key, a frozen room to save, and a saved state to restore; its tag either is the computed one or is not. -/
def migrating (st : RoomState) (restored : Nat) (head : List Byte) : State :=
  let s := roomed st (fun r => if st = .vacant then Room.vacant else r)
  { s with
    sr := { s.sr with migration := [⟨List.replicate 16 7, 0xFFFF, List.replicate 32 1, 3, restored⟩] }
    hostMem := Memory.writeBytes [] 0x10000 head }

theorem witness_ROOM_SAVE :
    let p := pk 32 ((List.range 16).map (fun i => (16 + i, 1, 7)) ++ [(0, 8, 0x10000)]) 5
    let s := migrating .frozen 0 []
    cmdRoomSave.starts p s ∧ (s.room 5).state = .frozen ∧ (s.room 5).saving = false ∧ (s.room 5).tdiLocked = false ∧
    (s.migKey ((p.params.drop 0x10).take 16)).isSome = true ∧ s.sr.vaultLocked = false ∧ s.sr.dipFrozen = false ∧ s.sr.entropyFail = false ∧
    cmdRoomSave.starts p (roomed .opened) := by
  unfold Command.starts; decide

theorem witness_RingCommands :
    let n (size : Nat) (ref : Nat) (fs : List (Nat × Nat × Nat)) : Packet := pk (8 + size) ([(0, 2, 1), (8, 4, ref)] ++ fs)
    let s := ringed (fun r => { r with enabled := true }) |>.setRing 0x10050002 { Ring.absent with live := true, log2 := 6, globalNo := 10 }
    cmdRingEnable.starts (n 4 0x00050001 []) s ∧ s.refsRefused (n 4 0x00050001 []).scoped [0x00050001] = none ∧
    s.refsRefused (n 4 0x00050009 []).scoped [0x00050009] = some .invalidParam ∧
    ((roomed .resetting).setRing 0x00050001 { Ring.absent with live := true }).refsRefused p0 [0x00050001] = some .busy ∧
    s.refsRefused { p0 with path := .roomRing 6 } [0x00050001] = some .notPermitted ∧
    cmdRingDisable.starts (n 4 0x00050001 []) s ∧ ((s.disableRing 0x00050001).ring 0x00050001).work = [] ∧
    cmdRingModerate.starts (n 8 0x00050001 [(12, 2, 1023), (14, 2, 1024)]) s ∧
    (∀ e, e ∈ recordsOf (n 8 0x00050001 [(12, 2, 1023), (14, 2, 1024)]).params 8 8 1 → fld e 4 2 ≤ 1023 ∧ 1 ≤ fld e 6 2 ∧ fld e 6 2 ≤ 1024) ∧
    cmdRingRxMode.starts (n 16 0x10050002 [(12, 1, 1), (16, 4, 10)]) s ∧ refKind 0x10050002 = 1 ∧
    (∀ e, e ∈ recordsOf (n 16 0x10050002 [(12, 1, 1), (16, 4, 10)]).params 8 16 1 → fld e 8 4 = 0 ∨ (10 ≤ fld e 8 4 ∧ fld e 8 4 ≤ 100000)) := by
  unfold Command.starts; decide

/-- A vault that serves and a journal pair that takes writes. -/
def vaulted (f : Strongroom → Strongroom := id) : State :=
  let s := roomed .opened
  { s with
    sr := f { s.sr with vaultOpen := true, vault := [(3, ⟨1, 5, 2, 2, 1, 0, 32, 40, 0, 0, 0, 0, [], []⟩)] }
    store := { s.store with journal := [[0], [1]] } }

theorem witness_TimeCommands :
    let b := pk 17 [(0, 8, 2 ^ 64 - 1), (8, 4, 999999999), (16, 1, 7)]
    let c := pk 17 [(8, 4, 1000000000), (16, 1, 1)]
    let j := pk 20 [(0, 8, 2 ^ 32), (8, 8, 1), (16, 4, 2 ^ 32 - 1)]
    let k := pk 20 [(8, 8, 2 ^ 64 - 1)]
    let h := pk 8 [(0, 4, 9)]
    let s := up fun s => { s with cmd := { s.cmd with stored := [⟨9, 4, p0, 1, false, 0, 0⟩] } }
    cmdTimeSet.starts b up ∧ bit (fld b.params 16 1) 0 = true ∧ (Time.ofBytes b.params 0).valid = true ∧
    cmdTimeSet.starts c up ∧ (Time.ofBytes c.params 0).valid = false ∧ bit (fld (pk 17 []).params 16 1) 0 = false ∧
    cmdTimeAdjust.starts j up ∧ (offsetTime (up).now (signed64 (fld j.params 8 8)) (fld j.params 16 4)).isSome = true ∧
    cmdTimeAdjust.starts k up ∧ ((up).now.units : Int) + signed64 (fld k.params 8 8) * 2 ^ 32 + fld k.params 16 4 < 0 ∧
    cmdSchedCancel.starts h up ∧ (∀ e, e ∈ (up).cmd.stored → e.handle ≠ 9) ∧ cmdSchedCancel.starts h s ∧
    s.cmd.stored.find? (fun e => decide (e.handle = 9)) = some ⟨9, 4, p0, 1, false, 0, 0⟩ ∧
    (⟨9, 4, p0, 1, false, 0, 0⟩ : Stored).seenBy .frontDoor = true ∧ (⟨9, 4, p0, 1, false, 0, 0⟩ : Stored).seenBy (.roomRing 5) = false ∧
    cmdSchedQuery.starts (pk 8 [(4, 4, 4096)]) s := by
  unfold Command.starts; decide

/-- KeyCommands: the commands of key domains. -/
theorem witness_KEY_DOMAIN :
    let c := pk 16 [(0, 4, 7), (4, 1, 1), (5, 1, 48), (6, 1, 20)] 5
    let i := pk 16 [(0, 4, 7), (4, 1, 1), (7, 1, 1), (0x0C, 4, 8)] 5
    let r := pk 8 [(0, 4, 3)]
    let s := vaulted
    let k := vaulted (fun v => { v with imports := [⟨8, 5, 1, 60000000000, [1]⟩] })
    cmdKeyDomainCreate.starts c s ∧ domainParamsOk c.params = true ∧ (s.room 5).state ≠ .vacant ∧ s.slotOf 5 7 = none ∧
    (s.roomDomains 5).length < (s.room 5).limits.keyDomains ∧ s.freeSlot.isSome = true ∧ s.vaultRefuses true = none ∧
    cmdKeyDomainCreate.starts i k ∧ k.vaultRefuses false = none ∧ (k.importFor 8 5 1).isSome = true ∧
    cmdKeyDomainRotate.starts r s ∧ s.namedSlot r.scoped = some 3 ∧ (s.domain 3).state = 1 ∧ (s.domain 3).prev = 0 ∧ (s.domain 3).cur < 65535 ∧
    ((s.setDomain 3 { s.domain 3 with prev := 1, cur := 2 }).domain 3).prev ≠ 0 ∧
    s.isMetadata 3 = false ∧ bit (s.domain 3).policy 1 = true ∧ cmdKeyDomainDestroy.starts r s ∧ s.vaultRefuses false = none ∧
    s.namedSlot { r with path := .roomRing 5 } = none ∧ s.store.rope.held = false ∧ cmdKeyDomainQuery.starts r s ∧
    s.namedSlot (pk 8 [(0, 4, 4)]).scoped = none ∧ (up).vaultRefuses true = some .keyAbsent ∧ cmdKeyDomainRotate.starts r up ∧
    (vaulted fun v => { v with dipFrozen := true }).sr.dipFrozen = true := by
  unfold Command.starts; decide

theorem none_or_some {α : Type} (o : Option α) : o = none ∨ o.isSome = true := by cases o <;> simp

/-- KeyCommands, imports: a point that is on no curve unwraps to nothing; of any other, one of the two clauses holds. -/
theorem witness_KEY_IMPORT :
    let p := pk 184 [(0, 1, 1)]
    let q := pk 184 [(0, 1, 3), (8, 1, 9)] 5
    let got (v : Packet) := (vaulted).unwrapImport (fld v.params 0 1) ((v.params.drop 0x18).take 97) (v.params.drop 0x80)
    cmdKeyImportWrapped.starts p vaulted ∧ (vaulted).sr.dipFrozen = false ∧ zeros p.params 8 16 = true ∧ got p = none ∧
    (got q = none ∨ (got q).isSome = true) ∧
    cmdKeyImportWrapped.starts q vaulted ∧ (∀ m, m ∈ (vaulted).sr.migration → m.id ≠ (q.params.drop 8).take 16) ∧
    (vaulted).sr.migration.length < 1024 ∧ (vaulted).journalUp = true := by
  refine ⟨?_, by decide, by decide, by decide, ?_, ?_, by decide, by decide, by decide⟩
  · unfold Command.starts; decide
  · exact none_or_some _
  · unfold Command.starts; decide

/-- KeyCommands: security associations. -/
theorem witness_KEY_SA :
    let a := pk 128 [(0, 1, 1), (2, 1, 32), (0x10, 4, 4096)] 5
    let i := pk 128 [(0, 1, 3), (1, 1, 1), (2, 1, 32), (4, 2, 3), (0x50, 4, 8)]
    let d := pk 8 [(0, 4, 6)]
    let s := vaulted (fun v => { v with imports := [⟨8, 0xFFFF, 2, 1, List.replicate 32 1⟩], sessions := [(6, ⟨5, 1, [], [], 0, 0⟩)] })
    cmdKeySaAdd.starts a s ∧ saRecordOk a.params = true ∧ s.sr.vaultLocked = false ∧ (s.room 5).state ≠ .vacant ∧ s.saRefuses 5 a.params = none ∧
    cmdKeySaAdd.starts i s ∧ saRecordOk i.params = true ∧ (s.importFor 8 0xFFFF 2).map (fun h => h.key.length) = some 32 ∧
    cmdKeySaDelete.starts d s ∧ (s.session 6).map SessKey.room = some 5 ∧ (vaulted).session 6 = none := by
  unfold Command.starts; decide

theorem witness_StrongroomEvents :
    let s := vaulted (fun v => { v with vaultDirty := true, sealCur := some ⟨[], 2 ^ 40 - 1, 0, 1⟩, sealNewBusy := true, nonce := some ([], 5) })
    let u := vaulted (fun v => { v with sealCur := some ⟨[], 2 ^ 19, 0, 1⟩ })
    let w := vaulted (fun v => { v with sealCur := some ⟨[], 2 ^ 19 - 1, 0, 1⟩, nonce := some ([], 0) })
    s.sr.vaultDirty = true ∧ s.journalUp = true ∧ s.sr.vaultOpen = true ∧ s.sr.dipFrozen = false ∧ (vaulted).sr.vaultDirty = false ∧
    (vaulted).sr.sealCur = none ∧ (sealLeaves - (2 ^ 40 - 1) < 2 ^ 30 ∧ u.sr.sealNext = none ∧ u.sr.sealNewBusy = false ∧ u.sr.entropyFail = false) ∧
    ¬ sealLeaves - 2 ^ 19 < 2 ^ 30 ∧ (1 * 2 ^ 20 ≤ 2 ^ 19 + 2 ^ 19 ∧ 1 < 2 ^ 20) ∧ ¬ 1 * 2 ^ 20 ≤ 2 ^ 19 - 1 + 2 ^ 19 ∧ s.sr.sealNewBusy = true ∧
    w.sr.sealNewBusy = false ∧ (5 : Nat) > s.clock ∧ 0 ≤ w.clock ∧ (vaulted).sr.nonce = none := by decide

theorem witness_SealCommands :
    let s := vaulted (fun v => { v with sealCur := some ⟨[], 0, 0, 1⟩ })
    let held := s.setRope { Rope.none' with held := true, first := 1, number := 1 }
    let e := pk 32 [(0, 1, 4)]
    cmdKeySealNew.starts p0 vaulted ∧ (vaulted).sr.sealNext = none ∧ (vaulted).sr.sealNewBusy = false ∧ cmdSealExport.starts e held ∧
    held.store.rope.held = true ∧ (held.exportItems 4 0 0 0).isSome = true ∧ cmdSealExport.starts e s ∧ s.store.rope.held = false ∧
    cmdSealHandover.starts (pk 128 []) held ∧ held.store.rope.handed = false ∧ held.sr.sealStopped = false ∧
    (held.setRope { held.store.rope with handed := true }).store.rope.handed = true ∧ (vaulted).sr.sealCur = none := by
  unfold Command.starts; decide

theorem witness_StorageCommands :
    let s := disks fun s => { s with
      sr := { s.sr with vaultOpen := true, sealCur := some ⟨[], 0, 0, 1⟩, vault := [(0, ⟨1, 0xFFFF, 0, 0, 2, 1, 32, 40, 0, 0, 0, 0, [], []⟩)] }
      store := { s.store with path := 2, journal := [[2], [3]] } }
    let t := pk 80 [(0, 4, 1), (4, 1, 1), (6, 2, 500), (8, 2, 1), (0x10, 2, 1), (0x14, 4, 0xFFFFFFFF)]
    let c := pk 8 [(0, 4, 1)]
    let m := pk 32 [(0, 1, 2), (1, 1, 1), (8, 8, 0x100000000), (0x10, 8, 2048)]
    let d := pk 32 [(0, 1, 0), (1, 1, 3), (2, 1, 1), (4, 2, 250), (6, 2, 251)]
    let r := { s with store := { s.store with replay := { s.store.replay with active := true } } }
    let b : Batch := ⟨⟨0x0907, t, .now⟩, [], 0, 0, 0, 0, false, none, false, false, 0, false⟩
    cmdStorageOpen.starts p0 s ∧ s.runningOn 0x0905 0 = none ∧ s.store.replay.active = false ∧ s.openRefuses = some .notPermitted ∧
    (s.setVolume 1 { ((s.volume 1).getD ⟨0, 1, 0, 1, 0, 0, 0, [], [], [], 0, [], [], [], none, none, []⟩) with flags := 0x80, lost := [] }).openRefuses = none ∧
    cmdStorageOpen.starts p0 r ∧ r.store.replay.active = true ∧
    cmdTranscryptStart.starts t s ∧ s.batchParamsOk t.params = true ∧ s.batchDomainGone t.params = false ∧ (s.domain 0).prev = 1 ∧
    s.shareWith 0 500 ≤ 500 ∧ s.shareWith 1 500 ≤ 500 ∧ s.store.batches.length < 16 ∧
    cmdTranscryptCancel.starts c s ∧ (∀ b, b ∈ s.store.batches → b.2.id ≠ 1) ∧
    ((s.setBatch 0 b).store.batches.find? fun b => decide (b.2.id = 1)) = some (0, b) ∧ b.cancelled = false ∧
    cmdMemMarch.starts m s ∧ marchOk m.params = true ∧ s.memory.march = none ∧ 3 ∉ s.marchRegions m.params ∧
    cmdMemMarch.starts d s ∧ marchOk d.params = true ∧ s.gen.current ≠ 0 := by
  unfold Command.starts; decide

theorem witness_CLS_BANK_LOAD :
    let p := pk 24 [(0, 1, 4), (1, 1, 1), (4, 4, 1), (8, 8, 0x10000)]
    let q := pk 24 [(0, 1, 4), (1, 1, 0)]
    cmdClsBankLoad.starts p up ∧ 1 ≤ tableSize 4 ∧ zeros p.params 16 8 = true ∧ (up).bankLive 4 1 = false ∧ (up).bankLive 4 0 = true ∧
    cmdClsBankLoad.starts q up ∧ imageOk (bankImage 4 1 1 ((up).hostRead none 0x10000 (entrySize 4))) = true := by
  unfold Command.starts; decide

theorem witness_DeviceCommands_power :
    let w := pk 24 [(0, 1, 5), (8, 8, 1)]
    let off := pk 24 [(0, 1, 6), (1, 1, 1)]
    cmdPwrState.starts w up ∧ (Time.ofBytes w.params 8).valid = true ∧ (up).now.units < (Time.ofBytes w.params 8).units ∧ (up).portsQuiet = true ∧
    (up).power.dipSince = none ∧ cmdPwrState.starts off up ∧ (Time.ofBytes off.params 8).units = 0 ∧ 6 < fld (pk 24 [(0, 1, 7)]).params 0 1 ∧
    (up fun s => s.setPort 0 { s.port 0 with admin := true }).portsQuiet = false ∧
    cmdDevReset.starts (pk 8 [(0, 1, 1)]) up ∧ (up).sr.recovery = false ∧ cmdDevReset.starts (pk 8 [(0, 1, 2)]) up ∧ cmdDevReset.starts (pk 8 []) up := by
  unfold Command.starts; decide

theorem witness_DeviceCommands_debug :
    let n := List.replicate 16 (2 : Byte)
    let t : Packet := { p0 with params := par 16 [(4, 1, 2), (5, 1, 1)] ++ n }
    let lv (k : Nat) : State := up fun s => { s with sr := { s.sr with debugLevel := k, nonce := some (n, 9) } }
    cmdDbgNonce.starts p0 up ∧ (up).sr.entropyFail = false ∧ cmdDbgUnlock.starts t (lv 0) ∧
    (lv 0).sr.nonce = some (slice t.params 0x10 0x20, 9) ∧ (lv 0).clock < 9 ∧ fld t.params 4 1 = 2 ∧
    (lv 0).runningOn 0x0C01 0 = none ∧ (lv 0).sr.dipFrozen = false ∧ (lv 1).sr.debugLevel < 2 ∧
    cmdDbgUnlock.starts t up ∧ (up).sr.nonce = none ∧ cmdDbgLock.starts p0 (lv 2) ∧ (lv 1).sr.debugLevel = 1 ∧ (lv 2).runningOn 0x0C01 0 = none := by
  unfold Command.starts; decide

/-- A token with a wrong magic never holds; one whose fields are right holds exactly when its signature verifies. -/
theorem witness_DeviceCommands_token :
    let t := par 32 [(0, 4, 0x4B4F5444), (4, 1, 2), (5, 1, 1), (8, 8, (up).sr.fuses.serial)]
    (up).tokenHolds (par 32 []) = false ∧ (up).tokenHolds t = Config.verifies (up).sr.fuses.vendorEcdsa t [] := by
  exact ⟨by decide, rfl⟩

theorem witness_DeviceCommands_ledger :
    let l := { pk 16 [(4, 4, 65536)] with replyPtr := 0x1000, replyLen := 64 }
    let led := up fun s => { s with fault := { s.fault with ledger := [⟨0, 6, 6, 0, 0, Time.zero, pad 16⟩], ledgerNext := 1 } }
    cmdDbgLedger.starts (pk 16 [(4, 4, 1), (8, 1, 4)]) up ∧ cmdDbgLedger.starts l led ∧ 16 ≤ Packet.replySpace l.scoped ∧
    wholeRecords (Packet.replySpace l.scoped - 16) [LedgerEntry.bytes ⟨0, 6, 6, 0, 0, Time.zero, pad 16⟩] =
      [LedgerEntry.bytes ⟨0, 6, 6, 0, 0, Time.zero, pad 16⟩] := by
  unfold Command.starts; decide

theorem witness_DeviceCommands_images :
    let f (n off : Nat) : Packet := pk 32 [(1, 1, n), (4, 4, off), (8, 4, 16)]
    let s := up fun s => { s with sr := { s.sr with slotA := ⟨3, 16⟩, slotB := ⟨3, 16⟩ } }
    let a := pk 16 [(0, 1, 1), (4, 4, 0x1000), (8, 8, 0x10000)]
    cmdFwLoad.starts (f 1 0) up ∧ loadHeaderOk .frontDoor (f 1 0).params = true ∧ cmdFwLoad.starts (f 2 16) s ∧
    (s.slot s.loadSlot).state = 3 ∧ (s.slot s.loadSlot).written = 16 ∧ bit (fld (f 2 16).params 1 1) 1 = true ∧
    (s.takeChunk s.loadSlot 16 false (slice (f 2 16).params 16 32)).regionFails s.loadSlot ≠ 0 ∧
    cmdFwActivate.starts p0 (up fun s => { s with sr := { s.sr with slotB := ⟨1, 16⟩ } }) ∧
    ((up fun s => { s with sr := { s.sr with slotB := ⟨1, 16⟩ } }).slot (1 - (up).sr.bootSlot)).state = 1 ∧ ((up).slot (1 - (up).sr.bootSlot)).state ≠ 1 ∧
    cmdAnnexLoad.starts a up ∧ (up).annexFails (bufferImage ((up).hostRead none 0x10000 0x1000)) ≠ 0 := by
  unfold Command.starts; decide

/-! ## Witnesses: the link, time and configuration -/

/-- The block with completion tag 16383 as `x` and the clock at 1,000. -/
def tagged (x : Tag) (f : HostLink → HostLink := id) : State :=
  up fun s => { s with clock := 1000, link := f { s.link with tags := [(16383, x)] } }

theorem witness_ReadCompletions :
    let x : Tag := ⟨.busy, 100, 1000, none, 0x00050001, 3, 0x1000⟩
    let s := tagged x
    let u := ((s.quarantineTag 16383 (.quarantinedTimeout (s.clock + 2 * x.cto))).bump R.HOSTLINK_CPL_TIMEOUT).reportAer
      (if x.room.isSome then .completionTimeoutAdvisory else .completionTimeoutNonFatal)
    let w := u.setRing 0x00050001 { Ring.absent with live := true, work := [Entry.fresh 3 0 false []] }
    (s.tag 16383).state = .busy ∧ s.link.bme = true ∧ (tagged x fun l => { l with bme := false }).link.bme = false ∧
    (s.tag 16382).state = .free ∧ ((tagged { x with state := .quarantinedTimeout 1000 }).tag 16383).state = .quarantinedTimeout 1000 ∧
    ((tagged { x with state := .quarantinedAbandoned 1001 }).tag 16383).state = .quarantinedAbandoned 1001 ∧
    (0 : Fin 4).val = 0 ∧ (3 : Fin 4).val ≠ 0 ∧ 10 * x.issued + 9 * x.cto ≤ 10 * s.clock ∧ 10 * s.clock < 10 * 101 + 9 * x.cto ∧
    u.workOf x.ref x.work = none ∧ w.workOf x.ref x.work = some (Entry.fresh 3 0 false []) ∧ (1000 : Nat) ≤ s.clock ∧ s.clock < 1001 := by
  decide

theorem witness_ReadCompletions_ats :
    let s := tagged ⟨.free, 0, 0, none, 0, 0, 0⟩ fun l => { l with
      atsAsked := [(noRoom, 4096)], invalidations := [⟨31, [], 1000⟩, ⟨30, [7], 1000⟩] }
    (noRoom, 4096) ∈ s.link.atsAsked ∧ (1023, 0) ∉ s.link.atsAsked ∧
    s.link.invalidations.find? (fun i => decide (i.itag = 31)) = some ⟨31, [], 1000⟩ ∧
    s.link.invalidations.find? (fun i => decide (i.itag = 30)) = some ⟨30, [7], 1000⟩ ∧ [7] ≠ ([] : List Nat) ∧
    s.clock < 1000 + 10000 + s.cto := by decide

theorem witness_LinkControl : let s := up
    s.configOpen = true ∧ ({ s with link := { s.link with flrUntil := 1 } } : State).configOpen = false ∧ s.barOpen = true ∧
    (State.reset).barOpen = false ∧ s.link.dstate = .d0 ∧ ({ s with link := { s.link with dstate := .d3hot } } : State).link.dstate = .d3hot ∧
    s.link.memEnable = true ∧ (State.reset).link.memEnable = false ∧ (s.vec 2047).masked = true ∧
    (let u := { s with link := { s.link with msixEnable := true, functionMask := false } }.setVec 2047 { s.vec 2047 with masked := false }
     u.link.bme = true ∧ u.link.dstate = .d0 ∧ (u.vec 2047).masked = false ∧ u.link.msixEnable = true ∧ u.link.functionMask = false) := by
  decide

/-- Interrupt messages of room 5 that are due, or held while the room dozes. -/
theorem witness_InterruptHolds :
    let s := (roomed .opened).setMsg 80 { (roomed .opened).msg 80 with masked := false, addr := 0xFEE00000 }
    s.msgHeld 5 (5 * 16 + 0) = false ∧ (roomed .opened).msgHeld 5 (5 * 16 + 0) = true := by decide

theorem witness_LinkEvents :
    let s := up fun s => { s with
      clock := 20000, link := { s.link with
        flit := true, l0pEnable := true, lanes := 2, trainedLanes := 16, aspmL1Enable := true, lastTlp := 10000 } }
    s.link.flit = true ∧ s.link.l0pEnable = true ∧ 2 ≤ s.link.lanes ∧ s.link.lanes < s.link.trainedLanes ∧ s.link.aspmL1Enable = true ∧
    s.link.dlUp = true ∧ s.link.lastTlp + 10000 ≤ s.clock ∧ ({ s with clock := 19999 } : State).clock < s.link.lastTlp + 10000 ∧
    s.flrDone = true ∧ ({ s with link := { s.link with flrUntil := 20001 } } : State).flrDone = false ∧
    (State.reset).link.trainedLanes ≤ (State.reset).link.lanes ∧ linkTrains 6 16 = true ∧ linkTrains 1 1 = true ∧ linkTrains 0 16 = false ∧
    linkTrains 6 3 = false ∧ (s.powerPolicy 3 0x0B 1 4 ≤ 16 / 2 ∧ 2 / 2 < s.powerPolicy 3 0x0B 1 4) ∧ s.link.wakeAsserted = false ∧
    (s.aerMasked .receiverError = false ∧ (up fun s => { s with link := { s.link with cfg := [] } }).aerMasked .unsupportedRequest = false) := by
  decide

theorem witness_SecurityEvents :
    let tdi (t : Tdi) (st : RoomState) := roomed st fun r => { r with tdi := t }
    let s := (up).setIde 16 ⟨.secure, [], (0, 0xFFFF, true), [], false⟩
    let t := up fun s => { s with link := { s.link with spdmSessions := [7], spdmOpening := [9] } }
    ((tdi .unlocked .furnished).room 5).tdi = .unlocked ∧ ((tdi .unlocked .furnished).room 5).state = .furnished ∧
    ((tdi .locked .opened).room 5).tdi = .locked ∧ ((tdi .locked .opened).room 5).state = .opened ∧
    ((tdi .run .frozen).room 5).tdi ≠ .locked ∧ (up).sr.debugLevel = 0 ∧ resetAccepts .opened = true ∧ resetAccepts .vacant = false ∧
    (s.ideStream 16).state = .secure ∧ (16 : Fin 17).val ≠ 0 ∧ (s.ideStream 15).state ≠ .secure ∧
    (((up).setIde 0 ⟨.keyed, [], (0, 0, false), [], false⟩).ideStream 0).state = .keyed ∧ (up).link.spdmSessions = [] ∧
    t.link.spdmSessions ≠ [] ∧ t.configOpen = true ∧ ({ t with link := { t.link with flrUntil := 1 } } : State).configOpen = false ∧
    (let d (kind session : Nat) := par 16 [(0, 2, 1), (2, 1, kind), (8, 2, session)]
     8 ≤ (d 0 0).length ∧ (d 0 0).length ≤ 65536 ∧ fld (d 0 0) 0 2 = 1 ∧ fld (d 0 0) 2 1 = 0 ∧ fld (d 1 0) 2 1 = 1 ∧ fld (d 2 7) 2 1 = 2 ∧
      fld (d 2 7) 8 2 ∈ t.link.spdmSessions ∧ fld (d 2 9) 8 2 ∈ t.link.spdmOpening ∧ fld (d 2 8) 8 2 ∉ t.link.spdmSessions ∧
      fld (d 2 8) 8 2 ∉ t.link.spdmOpening ∧ 2 < fld (d 3 0) 2 1) ∧ (par 7 []).length < 8 ∧ 4 ≤ (par 4 []).length := by decide

theorem witness_RegisterAccess :
    let s := up
    let run := roomed .opened fun r => { r with tdi := .run }
    let flr := up fun s => { s with link := { s.link with flrUntil := 1 } }
    s.barOpen = true ∧ (State.reset).barOpen = false ∧ flr.barOpen = false ∧ s.power.ladder = 0 ∧ s.power.entering = none ∧
    (configBase - 8) < configBase ∧ (configBase - 8) % 8 = 0 ∧ (configBase - 4) % 4 = 0 ∧ (configBase - 4) % 8 ≠ 0 ∧
    (configBase - 1) % 4 ≠ 0 ∧ configBase ≤ configBase ∧ run.lacksT (bar2Base + 65536 * 5) false = true ∧
    (bar2Base + 65536 * 5) % 8 = 0 ∧ run.lacksT (bar2Base + 65536 * 5) true = false ∧ run.lacksT 0 false = false ∧ run.barOpen = true ∧
    s.configOpen = true ∧ flr.configOpen = false ∧ 0x800000 ≤ (0x800000 : Nat) ∧ ¬ (0x800000 ≤ (0x7FFFF8 : Nat)) ∧
    (2 ^ 64 - 1 : Nat) < 2 ^ 64 ∧ (regTable.any fun i => decide (i.rwc = 0)) = true := by decide

theorem witness_Doorbells :
    let s := ringed fun r => { r with enabled := true, head := 1 }
    let e : Ring := { Ring.absent with live := true, enabled := true, overflow := true, log2 := 6 }
    let v := (63 : BitVec 64)
    let run := roomed .opened fun r => { r with tdi := .run }
    s.traffic = { s with link := s.traffic.link } ∧ (s.ring 0x00050002).live = false ∧ (s.ring 0x00050001).live = true ∧
    (s.ring 0x00050001).enabled = true ∧ (s.ring 0x00050001).accepts (refKind 0x00050001) 0 = true ∧
    (s.ring 0x00050001).accepts (refKind 0x00050001) 64 = false ∧
    ((ringed).ring 0x00050001).enabled = false ∧ v.toNat % 2 ^ 16 < ((ringed).ring 0x00050001).size ∧ bits v.toNat 62 17 = 0 ∧
    ¬ ((64 : BitVec 64).toNat % 2 ^ 16 < ((ringed).ring 0x00050001).size) ∧ refKind 0x00050001 ≠ 3 ∧
    refKind (roomEventRef 5) = 3 ∧ e.accepts 3 (2 ^ 63 + 2 ^ 16) = true ∧ (0x8000000000010000 : BitVec 64).getLsbD 63 = true ∧
    (0x8000000000010000 : BitVec 64).toNat = 2 ^ 63 + 2 ^ 16 ∧ s.barOpen = true ∧ s.sr.ready = true ∧
    s.power.ladder = 0 ∧ s.power.entering = none ∧ pageHas 0x00050001 = true ∧ (s.room (refRoom 0x00050001)).state = .opened ∧
    (s.room (refRoom 0x00050001)).tdi ≠ .run ∧ (s.room (refRoom (roomEventRef 5))).state ≠ .vacant ∧
    run.lacksT (bar2Base + 65536 * refRoom 0x00050001) false = true ∧ (run.room 5).tdi = .run ∧ pageHas 0x80050001 = false ∧
    bits (2 ^ 59) 59 48 ≠ 0 ∧ bits (2 ^ 62) 62 60 = 4 ∧
    bits (2 ^ 60 * 3) 62 60 ≤ 3 ∧ bits (2 ^ 60 * 3) 59 48 = 0 ∧ bits (2 ^ 60 * 3) 31 17 = 0 ∧
    s.sr.romDone = true ∧ s.sr.recovery = false ∧ s.sr.mboxBusy = false ∧ (1 : BitVec 32).getLsbD 0 = true ∧
    (2 : BitVec 32).getLsbD 0 = false ∧ (State.reset).barOpen = false := by decide

/-- A window that answers, one that does not while the BAR is open, an offset that can be applied, and one before the epoch. -/
theorem witness_Timekeeping :
    let s := up
    let w : State := { s with sr := { s.sr with ready := false } }
    s.barOpen = true ∧ w.barOpen = true ∧ (State.reset).barOpen = false ∧ s.sr.ready = true ∧ (State.reset).sr.ready = false ∧
    s.windowOpen R.TIME_NOW_FRAC = true ∧ w.windowOpen R.TIME_NOW_FRAC = false ∧ s.windowOpen R.TIME_INCR = true ∧
    w.windowOpen R.TIME_INCR = false ∧
    (offsetTime s.now (signed64 (s.reg R.TIME_OFFSET_NS).toNat) (s.reg R.TIME_OFFSET_FRAC).toNat).isSome = true ∧
    offsetTime (Time.ofUnits 0) (-1) 0 = none ∧ s.time.refSel = false ∧
    ({ s.time with refSel := true, refPresent := true } : Timekeeper).refPresent = true := by decide

/-- A one-shot pulse whose START the time has passed, with STRICT and without, and one whose START is to come. -/
theorem witness_Timekeeping_shots :
    let shot (start : Nat) (strict : Bool) : State :=
      (up).setPps 3 ⟨[], none, some (par 48 [(1, 1, 1), (8, 8, start)]), 0, 0, none, false, 0, 0, strict⟩
    ((shot 0 true).ppsOut 3).shot.isSome = true ∧ ((shot 0 true).ppsOut 3).strict = true ∧ ((shot 0 false).ppsOut 3).strict = false ∧
    (Time.ofBytes (par 48 [(8, 8, 0)]) 8).units ≤ (up).now.units ∧ (up).now.units < (Time.ofBytes (par 48 [(8, 8, 1)]) 8).units := by decide

theorem witness_Pulses :
    let b := par 48 [(1, 1, 3), (4, 4, 100)]
    let p : Pps := ⟨b, none, none, 0, 0, none, false, 0, 0, false⟩
    let s := (up).setPps 3 p
    let f : State := { s with time := { s.time with fired := true }, clock := 7 }.bump R.PERIOD_COUNT
    ({ p with fall := some 7 } : Pps).fall = some 7 ∧ p.fall = none ∧ ({ p with shot := some b } : Pps).shot = some b ∧ p.shot = none ∧
    (s.ppsOut 3).due = none ∧ fld p.block 1 1 = 3 ∧ (({ p with block := par 48 [(1, 1, 2)] } : Pps).due).isSome = true ∧
    p.mark < (f.boundaryPulse p).1 ∧ (p.start : Int) ≤ (f.boundaryPulse p).2 ∧ (f.boundaryPulse p).2 ≤ f.now.units ∧ (s.boundaryPulse p).1 ≤ p.mark ∧
    fld b 1 1 ≠ 1 ∧ fld b 0 1 = 0 := by decide

theorem witness_Boundaries :
    let s := up fun s => { s with time := { s.time with fire := 0, timer := 0, fired := false } }
    let c := up fun s => { s with time := { s.time with fired := true, sched := 0, timer := s.periodUnits / 8 } }
    let y := up fun s => { s with time := { s.time with syncOn := true, acquiring := false, sched := 0, timer := 0, taken := false } }
    let w := y.periodUnits / 8
    s.rollWindow.boundaryDue = true ∧ s.rollWindow.power.ladder ≤ 4 ∧ c.time.fired = true ∧ c.time.sched + c.periodUnits / 8 ≤ c.time.timer ∧
    y.time.syncOn = true ∧ true ≠ y.time.syncFall ∧ false = y.time.syncFall ∧
    (y.time.taken = false ∧ y.time.sched ≤ y.time.timer + y.time.syncOffset * perNs + w ∧
      y.time.timer + y.time.syncOffset * perNs ≤ y.time.sched + w) ∧
    ¬ (y.time.timer + y.periodUnits ≤ y.time.sched + w) := by decide

theorem witness_GenerationSteps :
    let c : Commit := ⟨⟨0x0002, p0, .now⟩, 0, false, false, false⟩
    let s := up fun s => { s with clock := 1000000, gen := { s.gen with commit := some c, inProgress := true, applied := 0, deferred := 0 } }
    let r := up fun s => { s with clock := 50000, gen := { s.gen with prevLive := true, repliedAt := some 0, commit := none } }
    let all : State := { s with gen := { s.gen with applied := BitVec.ofNat 18 0x3FFFF } }
    let old : State := { r with pipe := { r.pipe with input := [{ Pkt.fresh [] 0 0 Time.zero with stamp := some r.gen.previous }] } }
    let busy : State := { s with sr := { s.sr with mboxBusy := true } }
    s.gated.getLsbD 17 = false ∧ s.gen.applied.getLsbD 17 = false ∧ s.gated.getLsbD 14 = false ∧ s.atBoundary 17 = true ∧ s.atBoundary 0 = true ∧
    (∃ i, i < 18 ∧ busy.atBoundary i = false) ∧
    ({ s with power := { s.power with ladder := 3 } } : State).gated.getLsbD 17 = true ∧ s.clusterQuiet 3 = true ∧ (live fun t => { t with packets := [(0, 64)] }).clusterQuiet 0 = false ∧ old.oldPackets = true ∧
    s.gen.applied.getLsbD 14 = false ∧ all.gen.applied.getLsbD 14 = true ∧ all.gen.allIn = true ∧
    s.gen.commit = some c ∧ c.rollback = false ∧ c.start + 1000000 ≤ s.clock ∧ s.gen.allIn = false ∧ r.gen.commit = none ∧
    ({ s with clock := 999999 } : State).clock < c.start + 1000000 ∧
    r.gen.prevLive = true ∧ r.gen.repliedAt = some 0 ∧ r.gen.inProgress = false ∧ r.gen.stalled = false ∧ r.oldPackets = false ∧
    0 + 50000 ≤ r.clock ∧ ({ r with clock := 49999 } : State).clock < 0 + 50000 ∧ (up).gen.prevLive = false := by decide

theorem witness_GenerationSteps_stored :
    let q : Stored := ⟨9, 4, { p0 with atTime := Time.ofUnits 0 }, 1, false, 0, 0⟩
    let s := up fun s => { s with cmd := { s.cmd with
      stored := [q], running := [Running.plain ⟨0x0A00, p0, .now⟩ true 0 [] 0, Running.plain ⟨0x0104, p0, .now⟩ false 5 [] 0] } }
    firstDue s.now.units s.cmd.stored = some q ∧ q.handle = 9 ∧ firstDue (up).now.units (up).cmd.stored = none ∧
    s.cmd.running[2]? = none ∧ s.cmd.running[0]? = some (Running.plain ⟨0x0A00, p0, .now⟩ true 0 [] 0) ∧
    s.cmd.running[1]? = some (Running.plain ⟨0x0104, p0, .now⟩ false 5 [] 0) := by decide

/-! ## Witnesses: ports, packets, threads, tiles, storage and NVMe over TCP -/

/-- A packet of port 0 with this stamp. -/
def pkt (g : Nat) : Pkt := { Pkt.fresh (par 60 []) 0 0 Time.zero with stamp := some g }

/-- The block with port 3 as `f` makes it of a port with a configuration. -/
def ported (f : Port → Port) : State := (up).setPort 3 (f { Port.reset with admin := true, conf := par 64 [(4, 2, 1522)] })

theorem witness_PortEvents :
    let s := ported fun p => { p with link := true, paused := [(7, 0)], xoff := [(0, 0)] }
    let p := s.port 3
    let pause := par 60 [(12, 2, 0x0888), (14, 2, 0x0100)]
    p.link = true ∧ ((up).port 0).link = false ∧ (par 59 []).length + 4 < 64 ∧ 64 ≤ (par 60 []).length + 4 ∧ (60 : Nat) + 4 ≤ p.mtu ∧
    (∃ n, p.mtu < n + 4) ∧ pauseKind pause = some false ∧ pauseKind (par 60 []) = none ∧ (enabledClasses p.conf).contains 0 = false ∧
    (enabledClasses (par 64 [(6, 1, 1)])).contains 0 = true ∧ (classLimits (par 64 [(6, 1, 1)]) 0).2.2 ≤ (up).occupancy 3 0 ∧
    fld p.conf 6 1 ≠ 2 ∧ (p.paused.any fun e => decide (e.1 = 7) && decide (e.2 ≤ s.clock)) = true ∧
    (p.paused.any fun e => decide (e.1 = 6) && decide (e.2 ≤ s.clock)) = false ∧
    (let q := (ported fun p => { p with conf := par 64 [(3, 1, 1)] }).port 3
     q.admin = true ∧ q.link = false ∧ q.conf ≠ [] ∧ q.c2m = false ∧ bit (fld q.conf 3 1) 0 = true) ∧
    ((ported fun p => { p with training := some 0, moduleReady := true }).port 3).mayRise = true ∧ ((up).port 3).mayRise = false := by
  refine ⟨by decide, by decide, by decide, by decide, by decide, ⟨70000, by decide⟩, by decide, by decide, by decide, by decide, by decide,
    by decide, by decide, by decide, by decide, by decide, by decide⟩

/-- The pause of a class is repeated while it holds more than its XON level and the port's settings enable it. -/
theorem witness_PortEvents_xoff :
    let q : Pkt := { pkt 1 with source := 3 }
    let s := (ported fun p => { p with conf := par 64 [(6, 1, 1)], xoff := [(0, 0)] })
    let s : State := { s with clock := 2 ^ 40, pipe := { s.pipe with input := [q] } }
    let p := s.port 3
    (p.xoff.any fun e => decide (e.1 = 0) && decide (e.2 + p.quantaNs p.quanta / 2 ≤ s.clock)) = true ∧
    (classLimits p.conf 0).2.1 < s.occupancy 3 0 ∧ 0 ∈ enabledClasses p.conf ∧ 7 ∉ enabledClasses ((up).port 0).conf := by decide

/-- A frame on port 3's wire. -/
theorem witness_PortEvents_wire :
    let w : Wire := ⟨pkt 1, [], 0, 1, none, false⟩
    let s := up fun s => { s with tm := { s.tm with wire := [(3, w)] } }
    Tbl.find s.tm.wire 3 = some w ∧ s.time.timer < w.stop := by decide

theorem witness_ClassifySteps :
    let x := pkt 1
    let l : Look := ⟨0, 32767, 0, true⟩
    let s := up fun s => { s with pipe := { s.pipe with input := [x], pieces := [⟨x, some l⟩] } }
    s.grantedPacket 0 = some x ∧ (up).grantedPacket 0 = none ∧ (s.pipe.pieces.filter fun e => e.pkt.sameSource x).length < 4096 ∧
    takeFirst (fun p => p.sameSource x) s.pipe.input = some (x, []) ∧
    (s.pipe.pieces.zipIdx.filter fun e => e.1.look.isSome)[0]? = some (⟨x, some l⟩, 0) ∧
    (s.pipe.pieces.zipIdx.filter fun e => e.1.look.isSome)[1]? = none ∧ s.flowFind l [] = none := by decide

/-- The window at an index of table 0, at one past the table's end, at a table that has no valid bit, while an operation or a load is under
way, and closed. -/
theorem witness_ClassifySteps_window :
    let s := up
    let o := (s.setReg R.CLS_WIN_SELECT 1).setReg R.CLS_WIN_INDEX 64
    let v := par 64 [(0x2B, 1, 128)]
    let w : WinOp := ⟨1, 1, 0, 63, []⟩
    let ld : State := { s with cmd := { s.cmd with running := [Running.plain ⟨0x0400, p0, .now⟩ true 1 [] 0] } }
    s.window.2.2 < tableSize s.window.1 ∧ tableSize o.window.1 ≤ o.window.2.2 ∧ controlAt 5 = none ∧ controlAt s.window.1 ≠ none ∧
    s.bankLoading 0 0 = false ∧ ld.bankLoading 0 1 = true ∧ ld.bankLoading 1 1 = true ∧ s.cls.winOp = none ∧
    ({ s.cls with winOp := some w } : Cls).winOp = some w ∧ w.table = 1 ∧ 2 ≤ ({ w with table := 4 } : WinOp).table ∧ s.barOpen = true ∧
    (State.reset).barOpen = false ∧ s.windowOpen R.CLS_WIN_CMD = true ∧
    ({ s with sr := { s.sr with ready := false } } : State).windowOpen R.CLS_WIN_CMD = false ∧
    entryValid 0 v = true ∧ entryValid 0 (par 64 []) = false ∧ fieldsRefused 4 (par 160 [(0x88, 2, 0xFFFF)]) = some 3 ∧
    fieldsRefused s.window.1 (s.cls.winData.take (entrySize s.window.1)) = none := by decide

theorem witness_PacketSteps :
    let s := up fun s => { s with pipe := { s.pipe with pieces := [⟨pkt 2, none⟩, ⟨pkt 1, none⟩], stair := [⟨1, 6, pkt 1⟩], enq := [⟨5, 0, pkt 1⟩] } }
    nextPiece [] s.pipe.pieces = some (pkt 2, [⟨pkt 1, none⟩]) ∧ nextPiece [] (up).pipe.pieces = none ∧ s.pktRetired (pkt 2) = true ∧
    s.pktRetired (pkt 1) = false ∧ (pkt 1).stair = none ∧ ({ pkt 1 with stair := some 0 } : Pkt).stair = some 0 ∧
    ({ pkt 1 with stair := some 8 } : Pkt).stair = some (7 + 1) ∧ (up).takeHanded 2047 = none ∧ nextStair s.pipe.stair = some ⟨1, 6, pkt 1⟩ ∧
    nextStair (up).pipe.stair = none ∧ (up).stairRuns = false ∧
    ((up).setThread 7 { Thread.idle with role := .backStair, state := .ready }).stairRuns = true ∧ s.gated.getLsbD 10 = false ∧
    ({ s with power := { s.power with ladder := 5 } } : State).gated.getLsbD 10 = true ∧ (up).pipe.enq = [] ∧ s.pipe.enq = ⟨5, 0, pkt 1⟩ :: [] := by decide

/-- A packet that waits at thread 2047's line for its service. -/
theorem witness_PacketSteps_service :
    let h : Handed := ⟨9, 5, 5, pkt 1⟩
    let m : List Vec := [BitVec.ofNat 512 (9 * 2 ^ 192 + 1)]
    let s := (up fun s => { s with pipe := { s.pipe with handed := [h] } }).setLine 2047 ⟨1, 0, 0, 0, 0, [m], [], []⟩
    ((s.takeHanded 2047).map fun r => r.1) = some h ∧ s.pktRetired h.pkt = false ∧ h.service = 5 := by decide

theorem witness_PacketSteps_traffic :
    let f : Frame := ⟨pkt 1, 0⟩
    let ref := 0x10050000
    let r : Ring := { Ring.absent with live := true, hold := true, holdLimit := 0, globalNo := 9 }
    let s := (roomed .opened).setRing ref r
    let t : State := { s with tm := { s.tm with leaves := [(leafKey 4 9, { Leaf.empty with queue := [f] })] } }
    let g : Gate := ⟨par 24 [(1, 1, 1), (2, 2, 1)], none, 0, 0, 0, []⟩
    let w : Sweep := ⟨0, Time.zero, 0, [3], 0, []⟩
    (t.leaf (leafKey 4 (t.ring ref).globalNo)).queue = f :: [] ∧ (t.ring ref).live = true ∧ refKind ref = 1 ∧ (t.ring ref).hold = true ∧
    (refOwner ref = true ∨ (t.room (refRoom ref)).state ≠ .frozen) ∧ t.leafHeld 4 9 = true ∧ f.enq + (t.ring ref).holdLimit * 1000 ≤ t.clock ∧
    gateOn g.list = true ∧ gateOn [] = false ∧ gateCount g.list ≤ g.entry + 1 ∧ g.start + gateDuration g.list g.entry * perNs ≤ s.time.timer + 0 ∧
    0 + 1 < gateCount (par 24 [(1, 1, 1), (2, 2, 2)]) ∧ (s.lastCycle g = true ∨ s.lastCycle g = false) ∧ 0 ∈ openingClasses (par 24 [(8, 1, 1)]) 0 ∧
    7 ∉ openingClasses (par 24 [(8, 1, 1)]) 0 ∧ s.tm.sweep = none ∧ ({ s.tm with sweep := some w } : Tm).sweep = some w ∧
    w.left = 3 :: [] ∧ ({ w with left := [] } : Sweep).left = [] := by decide

/-- A transmit ring whose entry has been read and whose turn it is, one whose entry has not, and one that has nothing posted. -/
theorem witness_RingTraffic :
    let d := par 64 [(0, 2, 0x0101), (2, 2, 1), (8, 8, 0x20000), (0x20, 2, 60)]
    let ref := 0x00050001
    let s := ringed (fun r => { r with enabled := true, tail := 1 }) (roomed .opened fun r => { r with readLimit := 8 })
    let q : State := { s with hostMem := Memory.writeBytes [] 0x10000 d }
    refKind ref = 0 ∧ refKind 0x10050001 ≠ 0 ∧ (ringed).fetchGranted ref = none ∧ (q.fetchGranted ref).isSome = true ∧ txDescOk d = true ∧
    txDescOk (par 64 []) = false ∧ s.serves ref = true ∧ (up).serves 0x00050002 = false := by decide

/-- A frame at delivery: for a ring that is gone, for one whose entry can be read, for one without buffers, and with its target closed. -/
theorem witness_RingTraffic_delivery :
    let f : Frame := ⟨pkt 1, 0⟩
    let ref := 0x10050001
    let d := par 64 [(0, 2, 0x0201), (8, 8, 0x20000), (0x10, 4, 2048)]
    let r : Ring := { Ring.absent with live := true, enabled := true, log2 := 6, base := 0x10000, tail := 1, globalNo := 9 }
    let s := (roomed .opened fun r => { r with readLimit := 8 }).setRing ref r
    let s : State := { s with hostMem := Memory.writeBytes [] 0x10000 d, pipe := { s.pipe with delivery := [(9, f)] } }
    (up).pipe.delivery = [] ∧ s.pipe.delivery = (9, f) :: [] ∧ (up).ringOfGlobal 9 = none ∧ s.ringOfGlobal 9 = some ref ∧ s.dmaOpen = true ∧
    (State.reset).dmaOpen = false ∧ s.entryReady ref = true ∧ (s.takeBuffers ref (s.stripTag f.pkt).1.length).isSome = true ∧
    (s.setRing ref { r with tail := 0 }).takeBuffers ref (s.stripTag f.pkt).1.length = none ∧ refSpace 0x18000001 = none := by decide

/-- A ring whose moderated event is due, and one whose timer runs. -/
theorem witness_RingTraffic_moderation :
    let r (t : Nat) : Ring := { Ring.absent with live := true, firstSince := some 0, timerNow := t }
    (r 0).firstSince = some 0 ∧ (r 0).live = true ∧ 0 + 1000 * (r 0).timerNow ≤ (up).clock ∧ (up).clock < 0 + 1000 * (r 1).timerNow ∧
    Ring.absent.firstSince = none := by decide

theorem witness_ThreadEvents :
    let s := lined 4096 ⟨1, 0, 0, 0, 0, [[0]], [0], []⟩
    let w := lined 4096 ⟨1, 0, 0, 0, 0, [], [], [0]⟩
    let h := (live).setHitch 5 ⟨1, [], [0]⟩
    let x (st : ThState) (n : Nat) := live fun t => { t with state := st, object := n, deadline := some 0 }
    (s.line 4096).queue = [[0]] ∧ (s.line 4096).readers.find? (fun k => !(s.thread k).halted) = some 0 ∧ s.cores.lhReady = true ∧
    (w.line 4096).queue = [] ∧ (w.line 4096).writers = [0] ∧ (s.line 4096).writers = [] ∧
    (w.line 4096).used + ((w.thread 0).stagedBeats).length ≤ (w.line 4096).cap ∧
    (h.hitch 5).queue.find? (fun k => !(h.thread k).halted) = some 0 ∧ ((live).hitch 5).queue.find? (fun k => !((live).thread k).halted) = none ∧
    (h.hitch 5).holders.length < (h.hitch 5).count ∧ (live).deadlinePassed 0 = false ∧ (x .parked 0).deadlinePassed 0 = true ∧
    ((x .parked 0).thread 0).state = .parked ∧ ((x .blockedLine 4096).thread 0).state = .blockedLine ∧
    ((x .blockedHitch 5).thread 0).state = .blockedHitch ∧ (State.reset).sr.debugLevel = 0 ∧
    ({ (State.reset).sr with debugLevel := 1 } : Strongroom).debugLevel ≠ 0 ∧ ((live).thread 0).halted = false ∧
    ((live fun t => { t with halted := true }).thread 0).halted = true ∧ ((live).thread 1).role = .idle ∧ ((live).thread 0).role ≠ .idle := by
  decide

/-- The rungs at which a thread's work stirs the ladder, and does not. -/
theorem witness_ThreadEvents_stir :
    1 < ({ (up).power with ladder := 2 } : Power).ladder ∧ (up).power.ladder = 0 ∧ (up).power.entering = none := by decide

theorem witness_TileEvents :
    let r (w : TileWait) : TileReq := { TileReq.ofBeats [BitVec.ofNat 512 1] with wait := w }
    let s := (live).setTile 39 ⟨[r .schedule], 0, [], [], false⟩
    let l := (live).setTile 39 ⟨[r .lease], 0, [], [], true⟩
    s.tileReady 39 = true ∧ l.tileReady 39 = false ∧ (s.tile 39).waiter .schedule = some (r .schedule) ∧ (l.tile 39).waiter .schedule = none ∧
    (l.tile 39).waiter .lease = some (r .lease) ∧ (s.tile 39).waiter .lease = none ∧ s.keyBytes (r .schedule).keyRef = none ∧
    (l.tile 39).restarting = true ∧ (s.tile 39).restarting = false ∧ ((l.lease 0 0 true).1 = .absent) := by decide

/-- A request in a tile's line: of the tile's kind, of another, and with none. -/
theorem witness_TileEvents_requests :
    let m : List Vec := [BitVec.ofNat 512 1]
    let s := lined (2056 + (39 : TileNo).val) ⟨4, 0, 0, 0, 0, [m], [], []⟩
    let r := TileReq.ofBeats m
    (s.line 2095).queue = m :: [] ∧ ((live).line 2095).queue = [] ∧ s.tileReady 39 = true ∧ (r.op = 1 ∨ r.op ≠ 1) ∧
    ¬ 64 ≤ (s.tile 39).held.length ∧ (s.tile 39).held.length < 32 ∧ (r.ok 39 m.length = false ∨ r.ok 39 m.length = true) := by decide

theorem witness_KnotEvents :
    let e := Epoch.start 3 1 4 Time.zero
    let s := up
    let r (es : List Epoch) : Rope := { Rope.none' with closed := es }
    let k := { e with body := [1] }
    let p := { k with knot := [1], submitted := true }
    s.store.rope.toBuild = none ∧ (r [e]).toBuild = some e ∧ (r [k]).toBuild = none ∧
    (r [k]).closed.find? (fun e => decide (e.knot = [])) = some k ∧ k.body ≠ [] ∧ e.body = [] ∧ bit e.flags 2 = true ∧ s.sr.dipFrozen = false ∧
    ({ s.sr with sealCur := some ⟨[], 0, 0, 0⟩ } : Strongroom).sealCur = some ⟨[], 0, 0, 0⟩ ∧ s.sr.sealCur = none ∧
    (r [p]).toPublish = some p ∧ (r [k]).toPublish = none ∧ p.kind ≠ 3 ∧ (Epoch.start 3 3 0 Time.zero).kind = 3 ∧
    ({ Rope.none' with knots := [⟨3, [], [], false⟩] } : Rope).knots.find? (fun k => !k.persisted) = some ⟨3, [], [], false⟩ ∧
    Rope.none'.knots.find? (fun k => !k.persisted) = none ∧ s.store.queueSince = none ∧ s.store.resync = false ∧
    ({ s.store with resync := true, queueSince := some 0 } : Store).queueSince = some 0 := by decide

theorem witness_DriveEvents :
    let c : DriveCmd := ⟨7, .other, false, 0, 1, 0x1000, 0, none⟩
    let x : Drive := { disk 9 with cmds := [c, { c with id := 8, aborted := some 0 }] }
    let s := disks fun s => { s with clock := 10000000000, store := { s.store with drives := (63, { x with resetAt := some 0 }) :: s.store.drives } }
    s.drive 63 = some { x with resetAt := some 0 } ∧ s.drive 62 = none ∧ x.cmds.find? (fun c => decide (c.id = 6)) = none ∧
    x.cmds.find? (fun d => decide (d.id = 7)) = some c ∧ c.aborted = none ∧ c.issued + s.store.timeoutMs * 1000000 ≤ 2 ^ 40 ∧
    (x.cmds.any fun c => match c.aborted with | some t => decide (t + 1000000000 ≤ s.clock) | none => false) = true ∧
    ((disk 1).cmds.any fun c => match c.aborted with | some t => decide (t + 1000000000 ≤ s.clock) | none => false) = false ∧
    (0 : Nat) + 10000000000 ≤ s.clock ∧ x.resetAt = none ∧ (8 : BitVec 8).getLsbD 3 = true ∧ s.store.journal.contains x.serial = false ∧
    (x.cmds.any fun c => decide (c.buf ≤ 0x1FFF) && decide (0x1FFF + 1 ≤ c.buf + 4096 * c.blocks)) = true ∧
    (x.cmds.any fun c => decide (c.buf ≤ 0x1FFF) && decide (0x1FFF + 2 ≤ c.buf + 4096 * c.blocks)) = false ∧
    (∃ e ∈ s.store.drives, e.2.serial = fit [1] 20) ∧ (∀ e ∈ s.store.drives, e.2.serial ≠ fit [77] 20) := by decide

/-- A store ring's next descriptor: none, one that flushes. -/
theorem witness_DriveEvents_store :
    let d := par 64 [(0, 2, 0x0303)]
    let ref := 0x20050001
    let s := (roomed .opened fun r => { r with readLimit := 8 }).setRing ref
      { Ring.absent with live := true, enabled := true, log2 := 6, base := 0x10000, tail := 1 }
    refKind ref = 2 ∧ refKind 0x00050001 ≠ 2 ∧ s.store.ops.length < 65536 ∧ (up).fetchGranted ref = none ∧ (s.fetchGranted ref).isSome = true ∧
    fld d 0 2 = 0x0303 ∧ storeDescOk d = true ∧ storeDescOk (par 64 []) = false ∧ (0x0301 ≤ fld d 0 2 ∧ fld d 0 2 ≤ 0x0305) := by decide

theorem witness_StorageWork :
    let s := disks fun s => { s with store := { s.store with path := 2, journal := [[0], [1]] } }
    let v : Volume := ⟨1, 2, 0, 1, 0, 100, 0x201, [[0], [1]], [], [], 0, [], [], [], some ⟨0, [(1, 0, 1)], false⟩, none, []⟩
    let b := par 16 [(10, 1, 128)]
    let x : Batch := ⟨⟨0x0907, p0, .now⟩, [.local' 1 1 0 1], 1, 0, 0, 0, false, none, false, false, 0, false⟩
    let t : State := { s with store := { s.store with batches := [(15, x)], replay := { s.store.replay with active := true, phase := 0 } } }
    s.volume 255 = none ∧ (s.volume 1).isSome = true ∧ v.cycle = some ⟨0, [(1, 0, 1)], false⟩ ∧ sweepOn b = true ∧ sweepOn [] = false ∧
    v.lost = [] ∧ v.rebuilding = [] ∧ 2 ≤ s.store.path ∧ (s.volume 1).any (fun v => decide (v.lost ≠ [])) = true ∧ s.batch 15 = none ∧
    t.batch 15 = some x ∧ x.left = .local' 1 1 0 1 :: [] ∧ s.journalUp = true ∧ (up).journalUp = false ∧
    ¬ (t.sr.ready = false ∨ t.store.replay.active = false ∨ t.store.replay.phase ≠ 0 ∨ t.store.rope.closed ≠ [] ∨ t.store.ops ≠ [] ∨
      t.store.queue ≠ []) ∧ t.store.jLost.length < t.store.journal.length ∧ (up).store.journal.length ≤ (up).store.jLost.length ∧
    s.store.replay.work = [] ∧ ({ s.store.replay with work := [2047] } : Replay).work ≠ [] := by decide

/-- A cycle whose interval has passed, an extent whose reading the shares allow, and pieces that a batch may take. -/
theorem witness_StorageWork_shares :
    let q := pk 80 [(0, 4, 1), (4, 1, 1), (6, 2, 500), (8, 2, 1), (0x10, 2, 1), (0x14, 4, 0xFFFFFFFF)]
    let x : Batch := ⟨⟨0x0907, q, .now⟩, [.local' 1 1 0 1], 1, 0, 0, 0, false, none, false, false, 0, false⟩
    let v : Volume := ⟨1, 2, 0, 1, 0, 100, 0x201, [[0], [1]], [], [], 0, [], [], [], none, none, []⟩
    let s := disks fun s => { s with store := { s.store with path := 2, journal := [[2], [3]], batches := [(15, x)], volumes := [(1, v)] } }
    (∃ v, s.volume 1 = some v ∧ v.cycle = none ∧ v.lastCycle = none ∧ s.groupAllows v 0 4096 ⟨18, 100, false, none⟩ = true) ∧
    s.batchMayTake 15 x = true ∧ (s.batchPieces x (.local' 1 1 0 1)).all (fun p => s.groupAllows p.1 p.2.1 p.2.2 (x.share 15)) = true ∧
    s.settleDoomed.volume 255 = none ∧ s.store.replay.work = [] ∧ (s.extentAt 1 1 0 1) = none := by
  refine ⟨⟨_, rfl, by decide, by decide, by decide⟩, by decide, by decide, by decide, by decide, by decide⟩

theorem witness_NvmtCommands :
    let x : Conn := ⟨false, 255, 0, [], 4420, 49152, 5, 2047, true, none, some 3, 0, 1500, 0, 0⟩
    let y : Ctrl := ⟨some 1, 255, [], 64, 1000, 0, 0, [], [], 0⟩
    let s := up fun s => { s with
      clock := 30000000000, store := { s.store with conns := [(7, x), (8, { x with queue := 1, secure := false })], ctrls := [(3, y)] }
      gen := { s.gen with applied := BitVec.ofNat 18 0x3FFFF, cur := [(keyOf 0x0909 (5 * 2 ^ 24 + 4095), par 64 [(38, 2, 0xFFFF)]),
        (keyOf 0x0909 (2 ^ 24 + 255), par 64 [])] } }
    nvmtRec (s.adopted 17) 5 4095 ≠ [] ∧ nvmtRec (s.adopted 17) 5 4094 = [] ∧ s.connRoom (fld (nvmtRec (s.adopted 17) 5 4095) 30 2) = true ∧
    s.connRoom 1023 = false ∧ nvmtRec (s.adopted 17) 1 255 ≠ [] ∧ nvmtRec (s.adopted 17) 1 254 = [] ∧ s.conn 7 = some x ∧ s.conn 9 = none ∧
    x.initiator = false ∧ x.secure = true ∧ x.ctrl = some 3 ∧ s.ctrl 3 = some y ∧ s.ctrl 4 = none ∧ x.queue = 0 ∧
    s.conn 8 = some { x with queue := 1, secure := false } ∧ x.progress + 30000000000 ≤ s.clock ∧ s.clock < 1 + 30000000000 ∧
    y.kato ≠ 0 ∧ y.lastKeep + y.kato * 1000000 ≤ s.clock ∧ s.exportOf y 1 = [] ∧
    (let e : State := { s with gen := { s.gen with cur := [(keyOf 0x0909 (3 * 2 ^ 24 + (4096 + 1)), par 64 [(14, 2, 1)])] } }
     e.exportOf y 1 ≠ []) ∧
    sqeDw (par 64 [(40, 4, 3)]) 10 % 256 = 3 ∧ bit (sqeDw (par 64 [(44, 4, 4)]) 11) 2 = true ∧ bit (sqeDw (par 64 []) 11) 2 = false := by decide

/-! ## Witnesses: memory, power, resets and management -/

/-- The block with its power state as `f` makes it. -/
def powered (f : Power → Power) : State := up fun s => { s with clock := 1000, power := f s.power }

theorem witness_MemoryRules :
    let m := Memory.writeBytes [] 0x1000 [1, 2]
    Memory.wf m = true ∧ m ≠ [] ∧ (0xFFF < 0x1000 ∨ 0x1000 + 2 ≤ 0xFFF) ∧ (0x1000 ≤ 0x1001 ∧ 0x1001 < 0x1000 + 2) ∧
    0xFFFFFFFF / wordSize 0xFFFFFFFF * wordSize 0xFFFFFFFF < 0x100000000 ∧
    0x100000000 ≤ 0x100000000 / wordSize 0x100000000 * wordSize 0x100000000 ∧ (up).memory.march = none ∧
    ({ (up).memory with march := some ⟨[], 0⟩ } : MemUnit).march = some ⟨[], 0⟩ := by decide

theorem witness_LadderSteps :
    let s := powered id
    let n := powered fun p => { p with ladder := 3, wakeAt := some (Time.ofUnits 0) }
    let h := powered fun p => { p with ladder := 4, slumberSince := 0 }
    s.power.tripped = false ∧ s.power.brownout = false ∧ (powered fun p => { p with tripped := true }).power.tripped = true ∧
    wakesFrom 3 4 = true ∧ wakesFrom 3 5 = false ∧ wakesFrom 0 1 = false ∧ s.power.entering = none ∧ s.power.wakeAt = none ∧
    n.power.wakeAt = some (Time.ofUnits 0) ∧ (Time.ofUnits 0).units ≤ n.wakeClock ∧ wakesFrom 6 n.power.ladder = true ∧
    wakesFrom 6 (powered fun p => { p with ladder := 6 }).power.ladder = false ∧
    (powered fun p => { p with entering := some 3 }).power.entering = some 3 ∧ s.power.dipSince = none ∧ s.store.rope.closed = [] ∧
    (powered fun p => { p with dipSince := some 0 }).power.dipSince = some 0 ∧ s.power.ladder < 4 ∧ 4 ≤ h.power.ladder ∧
    h.power.slumberSince + s.powerPolicy 0 0x10 4 0 * nsPerSec ≤ 2 ^ 62 ∧ s.link.dlUp = true ∧ (State.reset).link.dlUp = false := by decide

/-- Every depth that the porch can be told to keep to is one of the ladder's. -/
theorem witness_LadderSteps_depth :
    (powered fun p => { p with hold := true, target := 0 }).depthNow = 0 ∧
    (powered fun p => { p with hold := true, target := 0 }).depthNow ≤ (powered fun p => { p with hold := true, target := 0 }).power.ladder ∧
    (powered fun p => { p with asked := true, target := 1 }).depthNow = 1 := by decide

theorem witness_SupplyEvents :
    let s := powered fun p => { p with good := 0b10000, retryAt := some 1000, starting := true, brownout := false, raising := some (3, 0) }
    let b := powered fun p => { p with ladder := 6, brownout := true, tripped := true, retryAt := none, avsFails := 2 }
    s.power.good.getLsbD 4 = true ∧ s.power.good.getLsbD 3 = false ∧ s.power.raising ≠ none ∧ (powered id).power.raising = none ∧ s.power.retryAt = some 1000 ∧ 1000 ≤ s.clock ∧ s.power.tripped = false ∧
    b.power.retryAt = none ∧ s.power.starting = true ∧ (powered fun p => { p with starting := false }).power.starting = false ∧
    b.power.brownout = true ∧ s.power.brownout = false ∧ s.power.avsFails < 2 ∧ 2 ≤ b.power.avsFails ∧ 5 ≤ b.power.ladder ∧
    s.power.ladder < 5 ∧ 230 ≤ (230 : BitVec 10).toNat ∧ (229 : BitVec 10).toNat < 230 ∧ b.power.tripped = true := by decide

theorem witness_ResetRule :
    let v (st room : Nat) : VaultRec := ⟨st, room, 2, 2, 1, 0, 32, 40, 0, 0, 0, 0, [], []⟩
    (up).sr.debugLevel ≠ 2 ∧ ResetKind.conventional.loses = false ∧ ResetKind.off.loses = true ∧
    ResetKind.off.loses ≠ ResetKind.conventional.loses ∧ ((v 1 1023).state = 1 ∧ (v 1 1023).room < 1024) ∧
    ¬ ((v 1 noRoom).state = 1 ∧ (v 1 noRoom).room < 1024) ∧ (3 : Fin 32) ≠ 1 ∧ (3 : Fin 32) ≠ 2 ∧ (3 : Fin 32) ≠ 31 := by decide

theorem witness_ResetEvents :
    let s := powered id
    let r := live
    let i := powered fun p => { p with sections := [3] }
    let n : State := { (live) with sr := { (live).sr with imageValid := true, ready := false, recovery := false, trial := true, releasedAt := 0 } }
    s.configOpen = true ∧
    ({ s with link := { s.link with flrUntil := 1001 } } : State).configOpen = false ∧
    ({ s with link := { s.link with flrUntil := 1001 } } : State).flrDone = false ∧
    s.power.ladder < 4 ∧ 4 ≤ (powered fun p => { p with ladder := 4 }).power.ladder ∧ s.link.dlUp = true ∧ (State.reset).link.dlUp = false ∧
    ((List.range 8).any fun i => decide ((r.thread (8 * 0 + i)).state = .ready) && !(r.thread (8 * 0 + i)).halted) = true ∧
    ((List.range 8).any fun i => decide ((r.thread (8 * 255 + i)).state = .ready) && !(r.thread (8 * 255 + i)).halted) = false ∧
    s.memory.codeReload = false ∧ ({ s.memory with codeReload := true } : MemUnit).codeReload = true ∧ n.sr.imageValid = true ∧
    n.sr.ready = false ∧ n.sr.recovery = false ∧ n.cores.lhReady = true ∧ s.sr.ready = true ∧ n.sr.trial = true ∧
    n.sr.releasedAt + 1000000000 ≤ 1000000000 ∧ s.power.sections = [] ∧ i.power.sections = 3 :: [] := by decide

theorem witness_ManagementCommands :
    let s := powered id
    let d := par 5 [(0, 2, 5)]
    s.power.ladder < 3 ∧ 3 ≤ (powered fun p => { p with ladder := 3 }).power.ladder ∧ s.smbusWake.sr.ready = true ∧
    (State.reset).smbusWake.sr.ready = false ∧ s.cmd.pldmEvents = [] ∧
    ({ s.cmd with pldmEvents := [(12, 1)] } : Ehrenan).pldmEvents = (12, 1) :: [] ∧ 3 ≤ d.length ∧ 1 ≤ fld d 0 2 ∧ fld d 0 2 ≤ 5 ∧
    13 ≤ (par 13 [(0, 4, 12)]).length ∧ fld (par 13 [(0, 4, 12)]) 0 4 ≤ 12 ∧ s.smbusWake.mctpUp = true ∧ (State.reset).smbusWake.mctpUp = false ∧ (254 : BitVec 8) ≠ 0 ∧ (254 : BitVec 8) ≠ 255 ∧
    s.sr.debugLevel = 0 ∧ ({ s.sr with debugLevel := 2 } : Strongroom).debugLevel = 2 ∧ 2047 < 0x40000 / 128 ∧ 0x3FFFF / 128 ≤ 2047 ∧
    scratchAddr 0x21FFFFF8 = true ∧ scratchAddr 0x22000000 = false ∧ 0x40000000 % 8 = 0 ∧ (0x9FFFF8 < 0xA00000 ∨ 0xB00000 ≤ 0x9FFFF8) := by decide

theorem witness_RoomDrains :
    let s := roomed .resetting fun r => { r with resetting := some ⟨0, 0⟩ }
    let k := Running.plain ⟨0x0107, pk 0x20 [(8, 4, 127)] 5, .now⟩ true 5 [] 0
    let t := roomed .frozen (fun r => { r with saving := true }) (up fun s => { s with cmd := { s.cmd with running := [k] } })
    let m : MigKey := ⟨List.replicate 16 0, noRoom, [], 3, 0⟩
    (s.room 5).resetting = some ⟨0, 0⟩ ∧ (s.room 6).resetting = none ∧ (0 : Nat) + 1000 * 0 ≤ s.clock ∧
    s.inflight 5 = 0 ∧ (ringed fun r => { r with work := [Entry.fresh 1 0 false []] }).inflight 5 ≠ 0 ∧ s.runningOn 0x0107 5 = none ∧
    t.runningOn 0x0107 5 = some k ∧ (t.room 5).saving = true ∧ t.inflight 5 = 0 ∧ (s.room 5).saving = false ∧
    t.migKey ((k.ctx.pkt.params.drop 0x10).take 16) = none ∧
    ({ t with sr := { t.sr with migration := [m] } } : State).migKey ((k.ctx.pkt.params.drop 0x10).take 16) = some m ∧
    fld k.ctx.pkt.params 8 4 < 128 := by decide

/-- IdleStep: a long command whose reads have come, one whose reads failed, and one that has none to wait for. -/
theorem witness_IdleStep :
    let k (x : Option ParamDma) : Running := { Running.plain ⟨0x0903, p0, .now⟩ true 0 [] 0 with ready := x }
    (k (some .done)).ready = some .done ∧ (k (some .timedOut)).ready = some .timedOut ∧ (k (some .aborted)).ready = some .aborted ∧
    (k none).ready = none ∧ (commandOf 0x0400).isSome = true ∧ ((commandOf 0x0400).bind fun c => c.after).isSome = true := by
  refine ⟨rfl, rfl, rfl, rfl, by decide, by decide⟩

theorem witness_ResetState :
    (State.reset).pending = [] ∧ (State.reset).power.ladder < 5 ∧ (State.reset).now.valid = true ∧
    5 ≤ (powered fun p => { p with ladder := 5 }).power.ladder ∧ (regTable.head?).isSome = true := by decide

/-! ## Further witnesses: the other side of a clause, and clauses about what a command leaves behind -/

/-- A packet of room 5's ring waits while an earlier one is still being read. -/
theorem witness_CommandFrame_busy :
    let q : Packet := { p0 with path := .roomRing 5 }
    let s := roomed .opened id (up fun s => { s with cmd := { s.cmd with fetched := [⟨0x40050000, 0, 1, p0, 0, 0, 1⟩] } })
    s.pathUp q.path = true ∧ s.pathBusy q.path = true ∧ (up).pathBusy .frontDoor = false ∧
    { p0 with paramDma := .timedOut }.paramDma = .timedOut ∧ { p0 with paramDma := .aborted }.paramDma = .aborted ∧
    cmdDevStatus.refuses up { p0 with flags := 32 } = none ∧ { p0 with flags := 32 }.dry = true := by decide

theorem witness_ReplyContents :
    let p := { p0 with replyPtr := 0x4000, replyLen := 1 }
    p.entry = none ∧ bit p.flags.toNat 4 = false ∧ p.path = .frontDoor ∧ (up).link.heldWrites = [] ∧
    (up).canSend ⟨none, p.replyPtr, [1], 0, false⟩ = true ∧ ([1] : List Byte) ≠ [] ∧ ([1] : List Byte).length ≤ p.replyLen ∧ p.replyPtr ≠ 0 ∧
    Path.ringRoom p.path = none := by decide

theorem witness_StagingRule : (0x0504 : Nat) ≠ 0x0602 ∧ (2 ^ 32 - 1 : Nat) < 2 ^ 32 := by decide

/-- RING_WEIGHT for rings and rooms that are not locked. -/
theorem witness_staged_rings_barred :
    let w := pk 24 [(0, 2, 2), (8, 4, 0x00050001), (12, 1, 1), (13, 1, 64), (16, 4, 0xF0000005), (20, 1, 255)]
    ∀ e, e ∈ recordsOf w.params 8 8 2 → fld e 0 4 ≠ 0xFFFFFFFF ∧ (0xF0000000 ≤ fld e 0 4 → (ringed).roomBarred (fld e 0 4 - 0xF0000000) = none) ∧
      (fld e 0 4 < 0xF0000000 → refOwner (fld e 0 4) = true ∨ (ringed).roomBarred (refRoom (fld e 0 4)) = none) := by decide

/-- What the storage settings of the witnesses above meet beside: their rooms do not reset, and their shares fit. -/
theorem witness_staged_storage_rest :
    let s := (disks).stage 0x0900 7 [1]
    (disks).roomResets 5 = false ∧ (disks).roomResets noRoom = false ∧ ((disks).volume 1).isSome = true ∧ (s.stagedAt 0x0900 7).isSome = true ∧
    500 + s.batchShare 7 ≤ 500 ∧ (disks).store.rope.held = false ∧ (5 : Nat) ≠ 0xFFFF := by decide

/-- Commits carried by a shaper rate that forgives, and by a pulse that is not strict. -/
theorem witness_commit_more :
    let h := { pk 24 [(0, 2, 1), (8, 1, 5), (9, 1, 2), (12, 4, 800000000), (16, 4, 1024)] with flags := 4 }
    let t := pk 40 [(0, 1, 3), (1, 1, 3), (4, 4, 100)]
    let node := countOne 4 8 ++ par 32 [(0, 1, 5), (1, 1, 2), (4, 1, 0xC0), (5, 1, 1), (6, 1, 1), (0x10, 4, 1), (0x14, 4, 1024)]
    let s := up fun s => { s with gen := { s.gen with cur := Settings.set s.gen.cur (keyOf 0x0500 (nodeSel 5 2 0)) node } }
    let v := (up).setPps 3 { (up).ppsOut 3 with asked := (up).clock, strict := false }
    h.scoped.forgive = true ∧ s.commitFits ((recordsOf h.params 8 16 1).foldl (s.shaperChanges h.scoped.forgive) []) ∧
    t.scoped.strict = false ∧ v.commitFits [(keyOf 0x0604 3, t.params)] ∧ t.scoped.dry = false := by
  unfold State.commitFits; decide

theorem witness_QueryCommands_recovery :
    let s := up fun s => { s with sr := { s.sr with recovery := true } }
    cmdDevStatus.starts p0 s ∧ s.sr.recovery = true := by
  unfold Command.starts; decide

/-- An error cause met the freeze; no room may be reset at a debug level; a log of a resetting room. -/
theorem witness_RoomCommands_more :
    let e := roomed .inError fun r => { r with errorAt := 0 }
    (e.room 5).state ≠ .opened ∧ (e.room 5).state ≠ .frozen ∧ (e.room 5).errorAt = e.clock ∧ cmdRoomFreeze.starts (pk 0 [] 5) e ∧
    cmdRoomThaw.starts (pk 0 [] 5) e ∧ (up).sr.debugLevel = 0 ∧ (roomed .opened).roomResets 5 = false ∧
    (roomed .resetting).roomResets 5 = true ∧ cmdRoomDirtyLog.starts (pk 8 [(0, 1, 0)] 5) (roomed .resetting) := by
  unfold Command.starts; decide

/-- Saved states of a room: none that is vacant, one that its own migration key locks, and restores that may begin or may not. -/
theorem witness_SaveCommands :
    let key := List.replicate 16 (7 : Byte)
    let p := pk 32 ((List.range 16).map (fun i => (16 + i, 1, 7)) ++ [(0, 8, 0x10000)]) 5
    let l := (migrating .frozen 0 []).setRoom 5 { (migrating .frozen 0 []).room 5 with tdi := .locked, tenantKeys := [leNat key] }
    let q := pk 24 [(0, 8, 0x10000), (8, 4, 4096), (0x0C, 4, 9), (0x10, 2, 1)] 5
    fld p.params 0 8 % 64 = 0 ∧ fld p.params 0x0C 1 ≤ 1 ∧ (l.room 5).tdiLocked = true ∧ fld p.params 0x10 16 ∈ (l.room 5).tenantKeys ∧
    cmdRoomRestore.starts q (migrating .vacant 0 []) ∧ (migrating .vacant 0 []).runningOn 0x0108 5 = none ∧
    (migrating .vacant 0 []).restoreRefused 5 q.params = none ∧ (migrating .frozen 0 []).restoreRefused 5 q.params = some .notPermitted := by
  unfold Command.starts; decide

/-- A saved state of one section, the room's policy, whose tag is the computed one; with `tag` another it is not. -/
def savedImage (tag : Option (List Byte)) : List Byte :=
  let body := saveSection 3 ((roomed .frozen fun r => { r with limits := ⟨7, 4, 1, 8, 4, 4, 4, 4, 16⟩ }).room 5).savedPolicy
  let head := par 0x60 ([(0, 4, 0x5253584B), (4, 2, 1), (0x28, 4, body.length), (0x30, 8, 1)] ++ (List.range 16).map fun i => (0x38 + i, 1, 7))
  head ++ tag.getD (saveTag (List.replicate 32 1) (slice head 0x48 0x54) head body) ++ pad 16 ++ body

/-- A restore whose image is authentic, and one whose tag is wrong; with a newer one restored before, the same image is refused. -/
theorem witness_SaveCommands_image :
    let q := pk 24 [(0, 8, 0x10000), (8, 4, 4096), (0x0C, 4, 9), (0x10, 2, 1)] 5
    let at' (restored : Nat) (tag : Option (List Byte)) : Bool :=
      let s := migrating .vacant restored (savedImage tag)
      let head := s.hostRead none 0x10000 128
      let len := fld head 0x28 4
      let body := s.hostRead none (0x10000 + 128) len
      decide (s.restoreRefused 5 q.params = none) && decide (128 + len ≤ 4096) && decide (fld head 0 4 = 0x5253584B) && decide (fld head 4 2 = 1) &&
        !s.sr.vaultLocked && !s.sr.dipFrozen && (match s.migKey (slice head 0x38 0x48) with
        | some k => decide (saveTag k.key (slice head 0x48 0x54) (head.take 0x60) body = slice head 0x60 0x70) &&
            decide (k.restored < fld head 0x30 8) &&
            (let secs := openSections (gcmStream k.key (slice head 0x48 0x54) 2 len) (bit (fld head 6 2) 0) 64 0 body
             decide (furnishRefused (restoreLimits (sectionOf secs 3) 9 1) (s.otherLimits 5) s.profileNow s.sramUnitsMax = none) &&
               decide (sectionOf secs 5 = []))
        | none => false)
    at' 0 none = true ∧ at' 1 none = false ∧ at' 0 (some (pad 16)) = false := by
  decide +kernel

theorem witness_RingCommands_more :
    let s := ringed (fun r => { r with enabled := true, work := [{ Entry.fresh 1 0 false [] with ponr := true }] })
    let n (ref : Nat) : Packet := pk 12 [(0, 2, 1), (8, 4, ref)]
    cmdRingDisable.starts (n 0x00050001) s ∧ s.refsRefused (n 0x00050001).scoped (ringRefs (n 0x00050001).params 4) = none ∧
    ((ringRefs (n 0x00050001).params 4).foldl State.disableRing s).ringQuiet none 0x00050001 = false ∧
    0x00050001 ∈ ringRefs (n 0x00050001).params 4 ∧
    ((ringed fun r => { r with enabled := true }).disableRing 0x00050001).ringQuiet none 0x00050001 = true := by
  unfold Command.starts; decide

/-- TIME_SET that changes the reference, TIME_ADJUST; a vault that refuses; a rotation when the room does not reset. -/
theorem witness_TimeCommands_more :
    bit (fld (pk 17 [(16, 1, 7)]).params 16 1) 1 = true ∧ zeros (pk 20 []).params 8 12 = true ∧ 1 ≤ fld (pk 8 [(4, 4, 1)]).params 4 4 ∧
    fld (pk 8 [(4, 4, 4096)]).params 4 4 ≤ 4096 ∧ (vaulted).roomResets 5 = false ∧ Status.keyAbsent ≠ .supplyLow ∧
    (vaulted).store.rope.handed = false ∧ ((vaulted).setRope { Rope.none' with held := true }).store.rope.held = true := by decide

theorem witness_KeyCommands_more :
    let d := pk 8 [(0, 4, 6)]
    let s := vaulted (fun v => { v with sessions := [(6, ⟨6, 1, [], [], 0, 0⟩)] })
    let t := roomed .opened id s
    cmdKeySaDelete.starts { d with path := .roomRing 5 } t ∧ (t.session 6).map SessKey.room = some 6 ∧
    Path.ringRoom (.roomRing 5) = some 5 ∧ Path.ringRoom .frontDoor = none := by
  unfold Command.starts; decide

/-- A pair that waits to be accepted: in force, and next. -/
theorem witness_SealCommands_accept :
    let c := vaulted (fun v => { v with sealCur := some ⟨[], 0, 0, 1⟩ })
    let n := vaulted (fun v => { v with sealNext := some ⟨[], 0, 0, 1⟩ })
    let b := pk 11816 []
    cmdSealAccept.starts b c ∧ c.runningOn 0x0804 0 = none ∧ c.acceptPair = some ⟨[], 0, 0, 1⟩ ∧ n.acceptPair = some ⟨[], 0, 0, 1⟩ ∧
    cmdSealAccept.starts b vaulted ∧ (vaulted).sr.sealCur = none ∧ (vaulted).sr.sealNext = none ∧ (vaulted).acceptPair = none ∧
    (⟨[], 0, 0, 1⟩ : SealPair).leaf = 0 ∧ c.store.rope.held = false ∧ handoverKnotOk [] [] [] = false := by
  unfold Command.starts; decide +kernel

/-- A bank that is loaded already, one that is not, and an image that breaks the table's rules. -/
theorem witness_StorageCommands_bank :
    let p (bank n : Nat) : Packet := pk 24 [(0, 1, 4), (1, 1, bank), (4, 4, n), (8, 8, 0x10000)]
    (up).bankLoadRefused (p 1 1).params = none ∧ (up).bankLoadRefused (p 0 1).params = some .notPermitted ∧
    (up).runningOn 0x0400 (bankObject (p 1 1).params) = none ∧ bankImageBytes (p 1 1).params ≠ 0 ∧
    imageOk (bankImage 4 1 1 (par 160 [(0x80, 1, 128), (0x88, 2, 0xFFFF)])) = false ∧ (0 : Nat) ∈ [0, 2, 4, 5] := by decide

end Sys2Proof.Tests
end

/-!
PROOFS. The register file after reset, and the clock: what `Obligations.ResetState` is assembled from.
-/

namespace Sys2Proof.Machine

/-! ## The register file after reset (R7) -/

/-- A copy of the register of a row begins at offset `o`: the test by which `regReset` finds a row. -/
def RegInfo.covers (o : Nat) (r : RegInfo) : Bool :=
  decide (r.off ≤ o) &&
    (if r.stride = 0 then decide (o = r.off) else decide ((o - r.off) % r.stride = 0 ∧ (o - r.off) / r.stride < r.count))

theorem regReset_of_find {o : Nat} {r : RegInfo} (h : regTable.find? (RegInfo.covers o) = some r) :
    regReset o = BitVec.ofNat 64 r.reset := by
  unfold RegInfo.covers at h
  simp only [regReset, h]

/-- The keys of a rising table lie above its bound. -/
theorem Tbl.lt_of_rising {α : Type} {lo : Nat} {m : Tbl α} (h : Tbl.rising (some lo) m = true) {e : Nat × α} (he : e ∈ m) :
    lo < e.1 := by
  induction m generalizing lo with
  | nil => cases he
  | cons x t ih =>
    obtain ⟨habove, ht⟩ := (Tbl.rising_cons _ _ _ _).mp h
    have hx : lo < x.1 := habove lo rfl
    rcases List.mem_cons.mp he with rfl | he
    · exact hx
    · exact Nat.lt_trans hx (ih ht he)

/-- A rising table has one entry a key. -/
theorem Tbl.eq_of_rising {α : Type} {lo : Option Nat} {m : Tbl α} (h : Tbl.rising lo m = true) {k : Nat} {v w : α}
    (hv : (k, v) ∈ m) (hw : (k, w) ∈ m) : v = w := by
  induction m generalizing lo with
  | nil => cases hv
  | cons x t ih =>
    obtain ⟨-, ht⟩ := (Tbl.rising_cons _ _ _ _).mp h
    rcases List.mem_cons.mp hv with hv | hv <;> rcases List.mem_cons.mp hw with hw | hw
    · exact congrArg Prod.snd (hv.trans hw.symm)
    · exact absurd (Tbl.lt_of_rising ht hw) (by simp [← hv])
    · exact absurd (Tbl.lt_of_rising ht hv) (by simp [← hw])
    · exact ih ht hv hw

theorem regTable_rising : Tbl.rising none (regTable.map fun r => (r.off, r)) = true := by decide +kernel

/-- The copies of an array of registers miss every later row. -/
theorem regTable_arrays_apart : ∀ a ∈ regTable, a.stride ≠ 0 → ∀ b ∈ regTable, a.off < b.off →
    (b.off - a.off) % a.stride = 0 → a.count ≤ (b.off - a.off) / a.stride := by
  decide +kernel

theorem regTable_count_pos : ∀ r ∈ regTable, 0 < r.count := by decide +kernel

theorem RegInfo.covers_self {r : RegInfo} (h : 0 < r.count) : r.covers r.off = true := by
  by_cases hs : r.stride = 0 <;> simp [RegInfo.covers, hs, h]

/-- No row but its own covers a row's offset. -/
theorem regTable_eq_of_covers {a b : RegInfo} (ha : a ∈ regTable) (hb : b ∈ regTable) (h : a.covers b.off = true) : a = b := by
  simp only [RegInfo.covers, Bool.and_eq_true, decide_eq_true_eq] at h
  obtain ⟨hle, hcopy⟩ := h
  have hoff : a.off = b.off := by
    refine Decidable.byContradiction fun hne => ?_
    by_cases hs : a.stride = 0
    · simp only [hs, if_true, decide_eq_true_eq] at hcopy
      exact hne hcopy.symm
    · simp only [hs, if_false, decide_eq_true_eq] at hcopy
      have := regTable_arrays_apart a ha hs b hb (by omega) hcopy.1
      omega
  exact Tbl.eq_of_rising regTable_rising (List.mem_map.mpr ⟨a, ha, rfl⟩) (List.mem_map.mpr ⟨b, hb, by rw [hoff]⟩)

/-- A register's offset resets to the value of its row. -/
theorem regReset_off {r : RegInfo} (hr : r ∈ regTable) : regReset r.off = BitVec.ofNat 64 r.reset := by
  obtain ⟨a, ha⟩ := Option.isSome_iff_exists.mp
    (List.find?_isSome.mpr ⟨r, hr, RegInfo.covers_self (regTable_count_pos r hr)⟩)
  have har : a = r := regTable_eq_of_covers (List.mem_of_find?_eq_some ha) hr (List.find?_some ha)
  exact regReset_of_find (har ▸ ha)

/-! ## Times and the tick of the clock (R5, R172, R549) -/

@[simp] theorem Time.units_ofUnits (u : Nat) : (Time.ofUnits u).units = u := by
  simp only [Time.units, Time.ofUnits, Nat.div_add_mod']

@[simp] theorem Time.valid_ofUnits (u : Nat) : (Time.ofUnits u).valid = true := by
  simp [Time.valid, Time.ofUnits, nsPerSec, Nat.mod_lt]

theorem Time.frac_ofUnits_lt (u : Nat) : (Time.ofUnits u).frac < 2 ^ 32 := Nat.mod_lt _ (by decide)

/-- The increment is held to its lower limit (R174), so that the time never stands still. -/
theorem State.incr_pos (s : State) : 0 < s.incr := by
  unfold State.incr
  omega

/-- The tick of a timekeeper that runs. -/
theorem State.tick_of_runs {s : State} (h : s.power.ladder < 5) :
    s.tick = { s with clock := s.clock + 1
                      time := { s.time with now := Time.ofUnits (s.now.units + s.incr), timer := s.time.timer + s.incr } } :=
  if_neg (by omega)

/-- The tick in Hibernate and Off. -/
theorem State.tick_of_stands {s : State} (h : 5 ≤ s.power.ladder) : s.tick = { s with clock := s.clock + 1 } := if_pos h

/-- Whatever the ladder, a tick counts the clock and touches nothing but the time. -/
theorem State.tick_frame (s : State) : s.tick.clock = s.clock + 1 ∧ s.tick.regs = s.regs ∧ s.tick.mem = s.mem ∧
    s.tick.hostMem = s.hostMem ∧ s.tick.out = s.out := by
  rcases Nat.lt_or_ge s.power.ladder 5 with h | h
  · simp [State.tick_of_runs h]
  · simp [State.tick_of_stands h]

/-! ## Long-running commands whose reads have ended (R56, R82) -/

/-- The work of a command whose data is there. -/
theorem State.goOn_of_done {s : State} {x : Running} {c : Command} {f : Ctx → State → Out} (hr : x.ready = some .done)
    (hc : commandOf x.ctx.opcode = some c) (hf : c.after = some f) :
    (∀ st data t, f x.ctx (s.unrun x) = .done st data t → s.goOn x = t.finish x.ctx st data) ∧
    (∀ t, f x.ctx (s.unrun x) = .held t → s.goOn x = t) := by
  constructor
  · intro st data t h
    simp [State.goOn, hr, hc, hf, h]
  · intro t h
    simp [State.goOn, hr, hc, hf, h]

/-- A command whose reads failed ends so, and one whose reads are out is left alone. -/
theorem State.goOn_of_not_done (s : State) (x : Running) :
    (x.ready = some .timedOut → s.goOn x = ((s.unrun x).dropLoading x.ctx).finish x.ctx .dmaTimeout []) ∧
    (x.ready = some .aborted → s.goOn x = ((s.unrun x).dropLoading x.ctx).finish x.ctx .dmaAborted []) ∧
    (x.ready = none → s.goOn x = s) := by
  refine ⟨?_, ?_, ?_⟩ <;> intro h <;> simp [State.goOn, h]

theorem State.noteIdle_idleSince (s : State) :
    s.noteIdle.power.idleSince = if s.idleNow then s.power.idleSince else s.clock := by
  unfold State.noteIdle
  split <;> rfl

/-! ## The machine after reset, idling, and the clock -/

/-- Settles O59: the table's rows are found under their own offsets, and each part of an idle step is read off the lemma about it. -/
theorem resetState : Obligations.ResetState := by
  unfold Obligations.ResetState
  refine ⟨⟨fun _ => rfl, fun r hr => regReset_off hr, fun _ => ⟨rfl, rfl, rfl, rfl, rfl, rfl⟩,
      rfl, rfl, rfl, rfl, rfl, rfl, rfl, rfl, rfl, rfl, rfl⟩,
    ?idle, fun s x c f hr hc hf => State.goOn_of_done hr hc hf, State.goOn_of_not_done, State.noteIdle_idleSince, State.tick_frame,
    ?runs, ?stands, Time.units_ofUnits, State.incr_pos, rfl⟩
  case idle =>
    intro s hp
    simp only [step, hp, State.idle]
  case runs =>
    intro s hl _
    rw [State.tick_of_runs hl]
    exact ⟨Time.valid_ofUnits _, Time.units_ofUnits _, rfl, Time.frac_ofUnits_lt _⟩
  case stands =>
    intro s hl
    simp [State.tick_of_stands hl, State.now]

end Sys2Proof.Machine

/-!
PROOFS. The time base and the pulse outputs: what `Obligations.Timekeeping` is assembled from.
-/

namespace Sys2Proof.Machine

/-! ## Reading after an update -/

@[simp] theorem State.ppsOut_setPps (s : State) (n : Nat) (x : Pps) : (s.setPps n x).ppsOut n = x := Tbl.get_set_self _ _ _ _
@[simp] theorem State.reg_setPps (s : State) (n : Nat) (x : Pps) (o : Nat) : (s.setPps n x).reg o = s.reg o := rfl
@[simp] theorem State.now_setPps (s : State) (n : Nat) (x : Pps) : (s.setPps n x).now = s.now := rfl
@[simp] theorem State.ppsOut_bump (s : State) (o n : Nat) : (s.bump o).ppsOut n = s.ppsOut n := rfl
@[simp] theorem State.reg_pulse (s : State) (n : Nat) (b : List Byte) (o : Nat) : (s.pulse n b).reg o = s.reg o := rfl
@[simp] theorem State.out_pulse (s : State) (n : Nat) (b : List Byte) :
    (s.pulse n b).out = s.out ++ [.pps n (!bit (fld b 2 1) 0)] := rfl

@[simp] theorem State.ppsOut_pulse (s : State) (n : Nat) (b : List Byte) :
    (s.pulse n b).ppsOut n = { s.ppsOut n with fall := some (s.clock + fld b 4 4), low := bit (fld b 2 1) 0 } :=
  Tbl.get_set_self _ _ _ _

theorem State.reg_setBits (s : State) (o m : Nat) : (s.setBits o m).reg o = s.reg o ||| BitVec.ofNat 64 m := State.reg_setReg ..

/-- A counter's value after an event depends on its value before alone. -/
theorem State.reg_bump (s : State) (o : Nat) : (s.bump o).reg o = satAdd (s.reg o) 1 := State.reg_setReg ..

/-! ## Time steps (R93, R174, R189) -/

/-- An output with an armed one-shot pulse, re-evaluated: its train looks from the new time on. -/
def State.retrain (s : State) (n : Nat) : State :=
  s.setPps n { s.ppsOut n with start := max s.now.units (s.soonest (s.ppsOut n).since) }

theorem State.stepPps_of_off {s : State} {n : Nat} (h : s.ppsOut n = Pps.off) : s.stepPps n = s := if_pos h

theorem State.stepPps_of_no_shot {s : State} {n : Nat} (hon : s.ppsOut n ≠ Pps.off) (h : (s.ppsOut n).shot = none) :
    s.stepPps n = s.retrain n := by
  simp only [State.stepPps, if_neg hon, h, State.retrain]

/-- A time step leaves a one-shot pulse armed whose START is still to come; else it counts the pulse, and gives it but for STRICT. -/
theorem State.stepPps_of_shot {s : State} {n : Nat} {b : List Byte} (h : (s.ppsOut n).shot = some b) :
    s.stepPps n =
      if s.now.units < (Time.ofBytes b 8).units then s.retrain n
      else
        let u := (s.retrain n).setPps n { (s.retrain n).ppsOut n with shot := none }
        if (s.ppsOut n).strict then u.bump R.SCHED_PASSED else (u.bump R.SCHED_LATE).pulse n b := by
  have hon : s.ppsOut n ≠ Pps.off := by
    intro hoff
    rw [hoff] at h
    cases h
  simp only [State.stepPps, if_neg hon, h, State.retrain, State.now_setPps]

/-- Re-evaluating an output changes only outputs in the timekeeper. -/
theorem State.stepPps_time (s : State) (n : Nat) : (s.stepPps n).time = { s.time with pps := (s.stepPps n).time.pps } := by
  by_cases hoff : s.ppsOut n = Pps.off
  · rw [State.stepPps_of_off hoff]
  · cases hs : (s.ppsOut n).shot with
    | none => rw [State.stepPps_of_no_shot hoff hs]; rfl
    | some b =>
      rw [State.stepPps_of_shot hs]
      split
      · rfl
      · dsimp only
        split <;> rfl

theorem State.foldl_stepPps_time (ns : List Nat) (s : State) :
    (ns.foldl State.stepPps s).time = { s.time with pps := (ns.foldl State.stepPps s).time.pps } := by
  induction ns generalizing s with
  | nil => rfl
  | cons n ns ih => rw [List.foldl_cons, ih, State.stepPps_time]

/-- A time step replaces the time, and otherwise changes only outputs in the timekeeper. -/
theorem State.stepTime_time (s : State) (t : Time) :
    (s.stepTime t).time = { s.time with now := t, stepped := true, pps := (s.stepTime t).time.pps } :=
  State.foldl_stepPps_time _ _

theorem State.applyOffset_of_some {s : State} {t : Time}
    (h : offsetTime s.now (signed64 (s.reg R.TIME_OFFSET_NS).toNat) (s.reg R.TIME_OFFSET_FRAC).toNat = some t) :
    s.applyOffset = s.stepTime t := by
  simp only [State.applyOffset, h]

theorem State.applyOffset_of_none {s : State}
    (h : offsetTime s.now (signed64 (s.reg R.TIME_OFFSET_NS).toNat) (s.reg R.TIME_OFFSET_FRAC).toNat = none) :
    s.applyOffset = s.setBits R.TIME_STATUS 2 := by
  simp only [State.applyOffset, h]

/-! ## The timekeeper's registers (R11, R173, R174) -/

theorem toNat_and_low36 (v : BitVec 64) : (v &&& BitVec.ofNat 64 (2 ^ 36 - 1)).toNat = v.toNat % 2 ^ 36 := by
  rw [BitVec.toNat_and, BitVec.toNat_ofNat, Nat.mod_eq_of_lt (by decide), Nat.and_two_pow_sub_one_eq_mod]

theorem timeNowLatch_open {s : State} (hb : s.barOpen = true) (hw : s.windowOpen R.TIME_NOW_FRAC = true) :
    exec .timeNowLatch s = .next ({ s with time := { s.time with latch := s.now } }.emit
      (.value R.TIME_NOW_FRAC (BitVec.ofNat 64 s.now.frac))) := by
  simp [execTimeNowLatch, hb, hw]

theorem timeNowLatch_closed {s : State} (hb : s.barOpen = true) (hw : s.windowOpen R.TIME_NOW_FRAC = false) :
    exec .timeNowLatch s = .next (s.emit (.value R.TIME_NOW_FRAC 0)) := by
  simp [execTimeNowLatch, hb, hw]

theorem timeNowLatch_refused {s : State} (hb : s.barOpen = false) : exec .timeNowLatch s = .next s.barRefuse := by
  simp [execTimeNowLatch, hb]

theorem timeIncrWrite_open {s : State} (v : BitVec 64) (hb : s.barOpen = true) (hw : s.windowOpen R.TIME_INCR = true) :
    exec (.timeIncrWrite v) s = .next (s.setReg R.TIME_INCR (v &&& BitVec.ofNat 64 (2 ^ 36 - 1))) := by
  simp [execTimeIncrWrite, hb, hw]

theorem timeIncrWrite_closed {s : State} (v : BitVec 64) (h : s.barOpen = false ∨ s.windowOpen R.TIME_INCR = false) :
    exec (.timeIncrWrite v) s = .next s := by
  rcases h with h | h <;> simp [execTimeIncrWrite, h]

theorem applyOffset_ready {s : State} (hb : s.barOpen = true) (hr : s.sr.ready = true) :
    exec .applyOffset s = .next s.rouse.applyOffset.settleStep.serveAll := by
  simp [execApplyOffset, hb, hr]

theorem applyOffset_closed {s : State} (h : s.barOpen = false ∨ s.sr.ready = false) : exec .applyOffset s = .next s := by
  rcases h with h | h <;> simp [execApplyOffset, h]

/-- Losing the reference (R172). -/
theorem timeRefLost_spec (s : State) : ∃ t, exec .timeRefLost s = .next t ∧ t.time.refPresent = false ∧ t.now = s.now ∧
    (s.time.refSel = true → s.time.refPresent = true → (t.reg R.TIME_STATUS).getLsbD 3 = true) ∧
    ((s.time.refSel = false ∨ s.time.refPresent = false) → t.regs = s.regs) := by
  refine ⟨_, rfl, ?_⟩
  by_cases hused : (s.time.refSel && s.time.refPresent) = true
  · rw [if_pos hused]
    simp only [Bool.and_eq_true] at hused
    refine ⟨rfl, rfl, fun _ _ => ?_, fun h => ?_⟩
    · rw [State.reg_setBits]
      simp
    · simp [hused] at h
  · rw [if_neg hused]
    exact ⟨rfl, rfl, fun h1 h2 => absurd (by simp [h1, h2]) hused, fun _ => rfl⟩

/-! ## Pulse outputs (R187 to R189), one lemma a branch of PPS_PULSE -/

section
variable {s : State} {out : Fin 4}

theorem ppsPulse_of_fall {c : Nat} (hf : (s.ppsOut out).fall = some c) :
    exec (.ppsPulse out) s = if c ≤ s.clock then
      .next ((s.setPps out { s.ppsOut out with fall := none }).emit (.pps out (s.ppsOut out).low)) else .next s := by
  simp only [exec_ppsPulse, execPpsPulse, hf]

theorem ppsPulse_of_shot {b : List Byte} (hf : (s.ppsOut out).fall = none) (hs : (s.ppsOut out).shot = some b) :
    exec (.ppsPulse out) s = if (Time.ofBytes b 8).units ≤ s.now.units then
      .next ((s.setPps out { s.ppsOut out with shot := none }).pulse out b) else .next s := by
  simp only [exec_ppsPulse, execPpsPulse, hf, hs]

theorem ppsPulse_of_due {i : Nat} {adv : Int} (hf : (s.ppsOut out).fall = none) (hs : (s.ppsOut out).shot = none)
    (hd : (s.ppsOut out).due = some (i, adv)) :
    exec (.ppsPulse out) s = if (i : Int) + adv * perNs ≤ s.now.units then
      .next ((s.setPps out { s.ppsOut out with start := i + 1 }).pulse out (s.ppsOut out).block) else .next s := by
  simp only [exec_ppsPulse, execPpsPulse, hf, hs, hd]

theorem ppsPulse_of_boundary (hf : (s.ppsOut out).fall = none) (hs : (s.ppsOut out).shot = none)
    (hd : (s.ppsOut out).due = none) :
    exec (.ppsPulse out) s =
      if fld (s.ppsOut out).block 1 1 = 3 ∧ (s.ppsOut out).mark < (s.boundaryPulse (s.ppsOut out)).1 ∧
          ((s.ppsOut out).start : Int) ≤ (s.boundaryPulse (s.ppsOut out)).2 ∧ (s.boundaryPulse (s.ppsOut out)).2 ≤ s.now.units then
        .next ((s.setPps out { s.ppsOut out with mark := (s.boundaryPulse (s.ppsOut out)).1 }).pulse out (s.ppsOut out).block)
      else .next s := by
  simp only [exec_ppsPulse, execPpsPulse, hf, hs, hd]

end

/-- PPS_SET of any mode but a one-shot waits for the next boundary (R188). -/
theorem State.applyPps_of_train (s : State) {b : List Byte} (h : fld b 1 1 ≠ 1) :
    s.applyPps b = s.setPps (fld b 0 1) { s.ppsOut (fld b 0 1) with next := some b } := by
  simp [State.applyPps, h]

/-! ## The time base, its registers and the pulse outputs -/

/-- A time step and an armed one-shot pulse (R93). -/
theorem State.stepPps_shot_spec {s : State} {n : Nat} {b : List Byte} (h : (s.ppsOut n).shot = some b) :
    (s.now.units < (Time.ofBytes b 8).units → ((s.stepPps n).ppsOut n).shot = some b ∧ (s.stepPps n).out = s.out) ∧
    ((Time.ofBytes b 8).units ≤ s.now.units → ((s.stepPps n).ppsOut n).shot = none ∧
      ((s.ppsOut n).strict = true → (s.stepPps n).out = s.out ∧ (s.stepPps n).reg R.SCHED_PASSED = (s.bump R.SCHED_PASSED).reg R.SCHED_PASSED) ∧
      ((s.ppsOut n).strict = false → (s.stepPps n).out = s.out ++ [.pps n (!bit (fld b 2 1) 0)] ∧
        (s.stepPps n).reg R.SCHED_LATE = (s.bump R.SCHED_LATE).reg R.SCHED_LATE)) := by
  rw [State.stepPps_of_shot h]
  refine ⟨fun hlt => ?_, fun hle => ?_⟩
  · simp [hlt, State.retrain, h]
  · rw [if_neg (by omega)]
    cases (s.ppsOut n).strict <;> simp [State.retrain, State.reg_bump]

/-- Settles O39: each clause is the lemma about the branch that its hypotheses select. -/
theorem timekeeping : Obligations.Timekeeping := by
  unfold Obligations.Timekeeping
  constructor
  · intro s v
    refine ⟨fun hb => ⟨fun hw => ⟨_, timeNowLatch_open hb hw, rfl, rfl, rfl⟩, timeNowLatch_closed hb,
        fun hw => ⟨_, timeIncrWrite_open v hb hw, ?incr, fun o ho => State.reg_setReg_ne s _ ho, rfl⟩,
        fun hw => timeIncrWrite_closed v (.inr hw)⟩,
      fun hb => ⟨timeNowLatch_refused hb, timeIncrWrite_closed v (.inl hb)⟩,
      applyOffset_ready, applyOffset_closed,
      fun t ht => ⟨State.applyOffset_of_some ht, ?now, ?timer, ?period⟩,
      fun n b hs => State.stepPps_shot_spec hs, fun h => ?epoch, timeRefLost_spec s, ⟨_, rfl, rfl, rfl, rfl⟩⟩
    case incr => rw [State.reg_setReg, toNat_and_low36]
    case now => rw [State.now, State.stepTime_time]
    case timer => rw [State.stepTime_time]
    case period => rw [State.stepTime_time]
    case epoch =>
      rw [State.applyOffset_of_none h, State.reg_setBits]
      exact ⟨rfl, by simp⟩
  · intro s out
    refine ⟨fun c hf => ⟨fun hle => ?_, fun hlt => ?_⟩, fun b hf hs => ⟨fun hle => ?_, fun hlt => ?_⟩,
      fun hf hs => ⟨fun i adv hd => ⟨fun hle => ?_, fun hlt => ?_⟩,
        fun hd => ⟨fun h3 hm hs' hn => ?_, fun hk => ?_⟩⟩, fun b hn hb => ?_, fun b => ⟨rfl, ?_⟩⟩
    · rw [ppsPulse_of_fall hf, if_pos hle]
    · rw [ppsPulse_of_fall hf, if_neg (by omega)]
    · rw [ppsPulse_of_shot hf hs, if_pos hle]
    · rw [ppsPulse_of_shot hf hs, if_neg (by omega)]
    · rw [ppsPulse_of_due hf hs hd, if_pos hle]
    · rw [ppsPulse_of_due hf hs hd, if_neg (by omega)]
    · rw [ppsPulse_of_boundary hf hs hd, if_pos ⟨h3, hm, hs', hn⟩]
    · rw [ppsPulse_of_boundary hf hs hd, if_neg (fun h => by omega)]
    · rw [State.applyPps_of_train s hb, ← hn]
      simp
    · simp

end Sys2Proof.Machine

/-!
PROOFS. Parsing, lookup, aging and the entry window: what `Obligations.ClassifySteps` is assembled from.
-/

namespace Sys2Proof.Machine

/-! ## The input arbiter (R38, R192) -/

theorem not_mayEnter (s : State) (p : Pkt) :
    (!s.mayEnter p) = decide (4096 ≤ (s.pipe.pieces.filter fun e => e.pkt.sameSource p).length) := by
  simp [State.mayEnter, ← decide_not]

theorem firstOfSource_subset (ps : List Pkt) : firstOfSource ps ⊆ ps := by
  induction ps with
  | nil => exact List.Subset.refl _
  | cons p ps ih => exact List.cons_subset_cons p fun x hx => ih (List.mem_filter.mp hx).1

/-- The packet granted waits at the input, and its source has a place left. -/
theorem grantedPacket_mem {s : State} {n : Nat} {x : Pkt} (h : s.grantedPacket n = some x) :
    x ∈ s.pipe.input ∧ (s.pipe.pieces.filter fun e => e.pkt.sameSource x).length < 4096 := by
  obtain ⟨c, -, hx⟩ := Option.bind_eq_some_iff.mp h
  obtain ⟨hfirst, hplace⟩ := List.mem_filter.mp (List.mem_filter.mp (List.mem_of_getElem? hx)).1
  exact ⟨firstOfSource_subset _ hfirst, of_decide_eq_true hplace⟩

/-- The state in which the arbiter has counted a cycle of a source that waits for a place. -/
def State.countWait (s : State) : State :=
  if s.pipe.input.any fun p => decide (4096 ≤ (s.pipe.pieces.filter fun e => e.pkt.sameSource p).length) then s.bump R.CLS_SOURCE_WAIT else s

theorem packetParse_of_none {s : State} {n : Nat} (h : s.grantedPacket n = none) : exec (.packetParse n) s = .next s.countWait := by
  simp only [exec_packetParse, execPacketParse, not_mayEnter, h, State.countWait]

theorem packetParse_of_some {s : State} {n : Nat} {x p : Pkt} {rest : List Pkt} (h : s.grantedPacket n = some x)
    (ht : takeFirst (fun p => p.sameSource x) s.pipe.input = some (p, rest)) :
    exec (.packetParse n) s = .next (State.parseIn { s.countWait with pipe := { s.countWait.pipe with
      input := rest, granted := if p.recirc then s.pipe.granted else p.contender } } p).flow := by
  simp only [exec_packetParse, execPacketParse, not_mayEnter, h, ht, State.countWait]

/-! ## A lookup that returns (R210, R211, R213) -/

theorem flowTableLookupDone_of_none {s : State} {n : Nat}
    (h : (s.pipe.pieces.zipIdx.filter fun e => e.1.look.isSome)[n]? = none) : exec (.flowTableLookupDone n) s = .next s := by
  simp only [exec_flowTableLookupDone, execFlowTableLookupDone, h]

/-- The store key of the entry that a packet's waiting lookup finds. -/
def State.foundFor (s : State) (l : Look) (p : Pkt) : Option Nat :=
  s.flowFind l (lookupKey (s.pktCfg p) (mapProfiles (s.pktCfg p) (s.parsePkt p) p).1 (s.parsePkt p) p)

/-- A miss is counted, and a find fills the cache where it may. -/
def State.noteFound (s : State) (l : Look) : Option Nat → State
  | none => s.bump R.CLS_FLOW_MISS
  | some k => if l.fill then s.cacheFill (l.b1 % 32768) k else s

/-- The `i`-th piece's lookup is resolved with the entry found. -/
def State.resolvePiece (u : State) (c : Settings) (q : Parsed) (p : Pkt) (i : Nat) (e : Option (List Byte)) : State :=
  let r := u.resolve c q p e
  { r.2 with pipe := { r.2.pipe with pieces := r.2.pipe.pieces.set i ⟨r.1, none⟩ } }

/-- The lookup of the `n`-th waiting piece returns. `resolve` and `flowFind` are generalized: the kernel must not evaluate them. -/
theorem flowTableLookupDone_of_look {s : State} {n i : Nat} {x : Piece} {l : Look}
    (h : (s.pipe.pieces.zipIdx.filter fun e => e.1.look.isSome)[n]? = some (x, i)) (hl : x.look = some l) :
    exec (.flowTableLookupDone n) s =
      let u := s.noteFound l (s.foundFor l x.pkt)
      .next (u.resolvePiece (s.pktCfg x.pkt) (s.parsePkt x.pkt) x.pkt i
        ((s.foundFor l x.pkt).map fun k => Tbl.get entryZero u.cls.entries k)) := by
  unfold State.resolvePiece State.foundFor
  rw [exec_flowTableLookupDone, execFlowTableLookupDone]
  generalize State.resolve = resolve
  simp only [h, hl]
  generalize State.flowFind _ _ _ = found
  cases found <;> rfl

/-! ## Aging (R214) -/

theorem State.foldl_stampHit_ageClock (ks : List Nat) (s : State) : (ks.foldl State.stampHit s).cls.ageClock = s.cls.ageClock := by
  induction ks generalizing s with
  | nil => rfl
  | cons k ks ih => rw [List.foldl_cons, ih]; rfl

theorem ageClockAdvance_ageClock (s : State) :
    ∃ t, exec .ageClockAdvance s = .next t ∧ t.cls.ageClock = s.time.timer / 2 ^ 58 % 65536 := by
  by_cases h : s.time.timer / 2 ^ 58 % 65536 = s.cls.ageClock
  · exact ⟨s, if_pos h, h.symm⟩
  · exact ⟨_, if_neg h, State.foldl_stampHit_ageClock _ _⟩

/-! ## What refuses an entry window operation (R230, R231), in the order of the tests -/

theorem not_outside {op t i : Nat} (hi : i < tableSize t) (hc : op = 2 → controlAt t ≠ none) :
    ¬ (tableSize t ≤ i ∨ (op = 2 ∧ controlAt t = none)) := by
  rintro (h | ⟨h2, h⟩)
  · omega
  · exact hc h2 h

section
variable {s : State} {op t bank i : Nat} (hw : s.window = (t, bank, i))
include hw

theorem winRefused_of_outside (h : tableSize t ≤ i ∨ (op = 2 ∧ controlAt t = none)) : s.winRefused op = some 4 := by
  simp only [State.winRefused, hw, if_pos h]

theorem winRefused_of_loading (hi : ¬ (tableSize t ≤ i ∨ (op = 2 ∧ controlAt t = none))) (hb : s.bankLoading t bank = true) :
    s.winRefused op = some 5 := by
  simp only [State.winRefused, hw, if_neg hi, hb, if_true]

/-- A READ or an INVALIDATE goes by no entry. -/
theorem winRefused_of_not_write (hi : ¬ (tableSize t ≤ i ∨ (op = 2 ∧ controlAt t = none))) (hb : s.bankLoading t bank = false)
    (hop : op ≠ 1) : s.winRefused op = none := by
  simp only [State.winRefused, hw, if_neg hi, hb, Bool.false_eq_true, if_false, if_pos hop]

/-- A WRITE goes by the entry that stands in its slot, and then by its new fields. -/
theorem winRefused_write (hi : i < tableSize t) (hb : s.bankLoading t bank = false) :
    s.winRefused 1 = if entryValid t (s.entry t bank i) then some 1
      else (fieldsRefused t (s.cls.winData.take (entrySize t))).orElse fun _ =>
        if t = 4 ∧ entryValid 4 (s.cls.winData.take (entrySize t)) ∧
          s.groupSize bank (fld (s.cls.winData.take (entrySize t)) 0x80 1 % 64) ≥ 256 then some 2 else none := by
  have hin := not_outside (op := 1) hi nofun
  simp only [State.winRefused, hw, if_neg hin, hb, Bool.false_eq_true, if_false, ne_eq, not_true_eq_false]
  cases fieldsRefused t (s.cls.winData.take (entrySize t)) <;> rfl

end

/-! ## The entry window begins an operation (R230, R231) -/

/-- The window as an operation in progress leaves it; `u` is the state with the operation's effect at its begin. -/
def State.winBegun (s u : State) (op : Nat) : State :=
  { u.setReg R.CLS_WIN_STATUS 0 with cls := { u.cls with
      winOp := some ⟨op, s.window.1, s.window.2.1, s.window.2.2, s.cls.winData.take (entrySize s.window.1)⟩ } }

theorem winStart_of_closed {s : State} (op : Nat) (h : s.barOpen = false ∨ s.windowOpen R.CLS_WIN_CMD = false) :
    s.winStart op = s := by
  rcases h with h | h <;> simp only [State.winStart, h, Bool.and_false, Bool.false_and, Bool.not_false, if_true]

section
variable {s : State} {op : Nat} (hb : s.barOpen = true) (hc : s.windowOpen R.CLS_WIN_CMD = true)
include hb hc

theorem winStart_of_busy (h : s.cls.winOp ≠ none) : s.winStart op = s.bump R.CLS_WIN_REFUSED := by
  simp [State.winStart, hb, hc, Option.isSome_iff_ne_none.mpr h]

variable (hn : s.cls.winOp = none)
include hn

theorem winStart_of_refused {r : Nat} (h : s.winRefused op = some r) :
    s.winStart op = (s.setReg R.CLS_WIN_STATUS (BitVec.ofNat 64 (3 + 16 * r))).bump R.CLS_WIN_REFUSED := by
  simp [State.winStart, hb, hc, hn, h, State.winEnd]

theorem winStart_invalidate (h : s.winRefused 2 = none) :
    s.winStart 2 = s.winBegun ((s.setEntryAt (entryKey s.window.1 s.window.2.1 s.window.2.2)
      (clearValid s.window.1 (s.entry s.window.1 s.window.2.1 s.window.2.2))).winDrop s.window.1 s.window.2.1 s.window.2.2) 2 := by
  simp [State.winStart, hb, hc, hn, h, State.winBegun]

/-- A READ, and a WRITE to any table but the indirection table, changes no entry at its begin. -/
theorem winStart_of_accepted (h : s.winRefused op = none) (h2 : op ≠ 2) (h5 : op = 1 → s.window.1 ≠ 5) :
    s.winStart op = s.winBegun s op := by
  have : ¬ (op = 1 ∧ s.window.1 = 5) := fun h' => h5 h'.1 h'.2
  simp [State.winStart, hb, hc, hn, h, State.winBegun, this, h2]

end

/-! ## The entry window ends an operation (R230) -/

/-- An operation's effect at its end. -/
def State.winEffect (s : State) (w : WinOp) : State :=
  match w.op with
  | 1 => if w.table = 5 then s else s.winPut w.table w.bank w.index w.data
  | 2 => s.winDrop w.table w.bank w.index
  | _ => { s with cls := { s.cls with winData := splice s.cls.winData 0 (s.entry w.table w.bank w.index) } }

theorem winFinish_of_none {s : State} (h : s.cls.winOp = none) : s.winFinish = s := by
  simp only [State.winFinish, h]

theorem winFinish_of_some {s : State} {w : WinOp} (h : s.cls.winOp = some w) :
    s.winFinish = (State.winEffect { s with cls := { s.cls with winOp := none } } w).setReg R.CLS_WIN_STATUS 1 := by
  simp only [State.winFinish, h] <;> rfl

theorem State.winEffect_of_read (s : State) {w : WinOp} (h : w.op = 3) : s.winEffect w =
    { s with cls := { s.cls with winData := splice s.cls.winData 0 (s.entry w.table w.bank w.index) } } := by
  simp only [State.winEffect, h]

theorem State.winEffect_of_write (s : State) {w : WinOp} (h : w.op = 1) (h5 : w.table ≠ 5) :
    s.winEffect w = s.winPut w.table w.bank w.index w.data := by
  simp only [State.winEffect, h, if_neg h5]

/-- No effect begins another operation. -/
theorem State.winEffect_winOp (s : State) (w : WinOp) : (s.winEffect w).cls.winOp = s.cls.winOp := by
  unfold State.winEffect
  split
  · split
    · rfl
    · unfold State.winPut
      dsimp only
      split <;> rfl
  · unfold State.winDrop
    split <;> rfl
  · rfl

/-- A WRITE to a table other than the flow table and its stash sets the entry whole. -/
theorem State.winPut_of_other (s : State) {t : Nat} (bank i : Nat) (new : List Byte) (h : 2 ≤ t) :
    s.winPut t bank i new = s.setEntryAt (entryKey t bank i) new := by
  simp [State.winPut, show ¬ t ≤ 1 by omega, show t ≠ 0 by omega]

/-- A WRITE to the stash also stamps LAST_HIT and VERSION. -/
theorem State.winPut_stash (s : State) (bank i : Nat) (new : List Byte) :
    s.winPut 1 bank i new = s.setEntryAt (entryKey 1 bank i)
      (splice new 0x36 (leBytes s.cls.ageClock 2 ++ leBytes (fld (s.entry 1 bank i) 0x38 1 + 1) 1)) := rfl

/-! ## Parsing, lookup, aging and the entry window -/

/-- Settles O43: each clause is the lemma about the branch that its hypotheses select; the window's refusals follow the order of its
tests. -/
theorem classifySteps : Obligations.ClassifySteps := by
  unfold Obligations.ClassifySteps
  intro s n
  refine ⟨⟨packetParse_of_none, fun x p rest => packetParse_of_some, fun x => grantedPacket_mem⟩,
    fun x i l h hl => ⟨fun hm => ?miss, fun k hk => ?hit⟩, flowTableLookupDone_of_none, ageClockAdvance_ageClock s, rfl,
    ⟨rfl, rfl, rfl⟩, ⟨fun h op => winStart_of_closed op h, fun hb hc => ⟨fun hn op => winStart_of_busy hb hc hn, fun hn => ?start⟩⟩,
    winFinish_of_none, fun w hw => ?finish⟩
  case miss =>
    rw [flowTableLookupDone_of_look h hl, State.foundFor, hm]
    rfl
  case hit =>
    rw [flowTableLookupDone_of_look h hl, State.foundFor, hk]
    rfl
  case start =>
    have hw : s.window = (s.window.1, s.window.2.1, s.window.2.2) := rfl
    have refused {op r : Nat} (h : s.winRefused op = some r) := winStart_of_refused hb hc hn h
    refine ⟨fun op hi => refused (winRefused_of_outside hw (.inl hi)), fun h => refused (winRefused_of_outside hw (.inr ⟨rfl, h⟩)),
      fun hi h hl op => refused (winRefused_of_loading hw (not_outside hi fun _ => h) hl),
      fun hi hl => ⟨?read, fun h => ?invalidate, fun hv => ?valid, fun hv r hf => ?fields, fun hv hf h4 h5 => ?write⟩⟩
    case read =>
      exact winStart_of_accepted hb hc hn (winRefused_of_not_write hw (not_outside hi nofun) hl (by decide)) (by decide) nofun
    case invalidate => exact winStart_invalidate hb hc hn (winRefused_of_not_write hw (not_outside hi fun _ => h) hl (by decide))
    case valid =>
      apply refused
      rw [winRefused_write hw hi hl, if_pos hv]
    case fields =>
      apply refused
      rw [winRefused_write hw hi hl, if_neg (by simp [hv]), hf, Option.orElse_some]
    case write =>
      refine winStart_of_accepted hb hc hn ?_ (by decide) (fun _ => h5)
      rw [winRefused_write hw hi hl, if_neg (by simp [hv]), hf, Option.orElse_none, if_neg (fun h => h4 h.1)]
  case finish =>
    rw [winFinish_of_some hw]
    refine ⟨State.winEffect_winOp _ _, ?_, fun hop => ?_, fun hop h2 h5 => ?_, fun hop h1 => ?_⟩
    · rw [State.reg_setReg]; rfl
    · rw [State.winEffect_of_read _ hop]; rfl
    · rw [State.winEffect_of_write _ hop h5, State.winPut_of_other _ _ _ _ h2]; rfl
    · rw [State.winEffect_of_write _ hop (by omega), h1, State.winPut_stash]; rfl

end Sys2Proof.Machine

/-!
PROOFS. The power ladder, wakes and dips: what `Obligations.LadderSteps` is assembled from.
-/

namespace Sys2Proof.Machine

/-! ## Wakes (R17, R551, R552, R559, R561) -/

theorem State.wake_of_held {s : State} (cause : Nat) (h : s.power.tripped = true ∨ s.power.brownout = true) : s.wake cause = s :=
  if_pos h

section
variable {s : State} {cause : Nat} (ht : s.power.tripped = false) (hb : s.power.brownout = false)
include ht hb

theorem State.wake_of_wakes (h : wakesFrom cause s.power.ladder = true) : s.wake cause = s.wakeUp cause := by
  simp [State.wake, ht, hb, h]

/-- A cause that does not wake from this state acts on no descent either when none is under way or when it is none of the causes. -/
theorem State.wake_of_not_wakes (h : wakesFrom cause s.power.ladder = false) (he : s.power.entering = none ∨ cause = 0) :
    s.wake cause = s := by
  have hgo : ¬ (wakesFrom cause s.power.ladder = true ∨ (s.power.entering.isSome = true ∧ 1 ≤ cause ∧ cause ≤ 7)) := by
    rw [h]
    rcases he with he | he <;> simp [he]
  simp only [State.wake, ht, hb, if_neg hgo, ite_self]

end

/-! ## The wake timer and the descent to Hibernate (R548, R550, R551) -/

theorem wakeAtTimer_of_none {s : State} (h : s.power.wakeAt = none) : exec .wakeAtTimer s = .next s := by
  simp only [exec_wakeAtTimer, execWakeAtTimer, h]

section
variable {s : State} {t : Time} (h : s.power.wakeAt = some t)
include h

theorem wakeAtTimer_early (hlt : s.wakeClock < t.units) : exec .wakeAtTimer s = .next s := by
  simp only [exec_wakeAtTimer, execWakeAtTimer, h, if_neg (Nat.not_le.mpr hlt)]

/-- A timer whose time has come is used up, and wakes the device from the states that it wakes from. -/
theorem wakeAtTimer_due (hle : t.units ≤ s.wakeClock) :
    exec .wakeAtTimer s =
      let u : State := { s with power := { s.power with wakeAt := none } }
      .next (if wakesFrom 6 s.power.ladder then u.wakePme.wake 6 else u) := by
  simp only [exec_wakeAtTimer, execWakeAtTimer, h, if_pos hle]

end

theorem hibernateTimer_eq (s : State) :
    exec .hibernateTimer s =
      if s.power.ladder = 4 ∧ s.powerPolicy 0 0x10 4 0 ≠ 0 ∧ s.power.slumberSince + s.powerPolicy 0 0x10 4 0 * nsPerSec ≤ s.clock
      then .next s.enterHibernate else .next s := rfl

/-! ## The porch's decision (R548, R553, R559) -/

section
variable {s : State} {n : Nat} (h : s.power.entering = some n)
include h

/-- A dip holds a descent, and so does a closed epoch that can still be published. -/
theorem ladderDescend_waits (hw : s.power.dipSince.isSome = true ∨ (s.store.rope.closed ≠ [] ∧ s.journalUp = true)) :
    exec .ladderDescend s = .next s := by
  simp only [exec_ladderDescend, execLadderDescend, h, if_pos hw]

theorem ladderDescend_finishes (hd : s.power.dipSince = none) (hp : s.store.rope.closed = [] ∨ s.journalUp = false) :
    exec .ladderDescend s = .next (s.finishDescent n) := by
  have hgo : ¬ (s.power.dipSince.isSome = true ∨ (s.store.rope.closed ≠ [] ∧ s.journalUp = true)) := by
    rintro (hs | ⟨hc, hj⟩)
    · simp [hd] at hs
    · rcases hp with hp | hp
      · exact hc hp
      · simp [hj] at hp
  simp only [exec_ladderDescend, execLadderDescend, h, if_neg hgo]

end

/-- The porch's descent to a depth: Hush and Doze at once, Nap by its first decision. -/
def State.descendTo (s : State) : Nat → State
  | 1 => State.setLadder { s with power := { s.power with hushSince := s.clock } } 1
  | 2 => s.enterDoze
  | _ => s.prepareNap 3

theorem State.descendTo_of_three_le (s : State) {n : Nat} (h : 3 ≤ n) : s.descendTo n = s.prepareNap 3 := by
  obtain ⟨n, rfl⟩ := Nat.exists_eq_add_of_le' h
  rfl

section
variable {s : State} (h : s.power.entering = none)
include h

theorem ladderDescend_stays (hs : 4 ≤ s.power.ladder ∨ s.depthNow ≤ s.power.ladder) : exec .ladderDescend s = .next s := by
  simp only [exec_ladderDescend, execLadderDescend, h]
  split
  · rfl
  · exact if_pos (hs.resolve_left ‹_›)

theorem ladderDescend_descends (hl : s.power.ladder < 4) (hd : s.power.ladder < s.depthNow) :
    exec .ladderDescend s = .next (s.descendTo s.depthNow) := by
  rw [exec_ladderDescend, execLadderDescend, h]
  dsimp only
  rw [if_neg (Nat.not_le.mpr hl), if_neg (Nat.not_le.mpr hd)]
  generalize s.depthNow = d
  match d with
  | 0 | 1 | 2 | _ + 3 => rfl

end

/-! ## PME_Turn_Off (R549) -/

theorem pmeTurnOff_stays {s : State} (h : 4 ≤ s.power.ladder ∨ s.link.dlUp = false) : exec .pmeTurnOff s = .next s := by
  simp only [exec_pmeTurnOff, execPmeTurnOff]
  exact if_pos (by simpa using h)

/-- The state that PME_Turn_Off asks for: Slumber, or the deeper target asked for. -/
def State.turnOffDepth (s : State) : Nat := if s.power.asked ∧ 4 ≤ s.power.target then s.power.target else 4

/-- The state after PME_TO_Ack: the epoch is closed and the link is in L2. -/
def State.turnedOff (s : State) : State :=
  let p := if s.power.ladder = 3 then s else (s.prepareNap s.turnOffDepth).flushRope 4
  let q := ((p.abandonTags fun _ => true).freeTags).emit .pmeToAck
  { q with link := { q.link with dlUp := false, inL1 := false, lanes := 0, dstate := .d3cold }, power := { q.power with asked := false } }

theorem pmeTurnOff_descends {s : State} (hl : s.power.ladder < 4) (hu : s.link.dlUp = true) (hd : s.turnedOff.power.dipSince = none) :
    exec .pmeTurnOff s = .next (s.turnedOff.finishDescent s.turnOffDepth) := by
  have hgo : ¬ (s.power.ladder ≥ 4 ∨ (!s.link.dlUp) = true) := by
    rintro (h | h)
    · omega
    · simp [hu] at h
  have hdip : ¬ (s.turnedOff.power.dipSince.isSome = true ∧ s.turnedOff.power.ladder < 3) := by simp [hd]
  rw [exec_pmeTurnOff, execPmeTurnOff, if_neg hgo]
  exact if_neg hdip

/-! ## Dips (R384, R433, R559) -/

theorem vsbDipStart_of_dip {s : State} (mv : Nat) (h : s.power.dipSince.isSome = true) : exec (.vsbDipStart mv) s = .next s := if_pos h

/-- The state in which a dip has begun: the clock noted, vault writes frozen, DIP marked in the rope and the event posted. -/
def State.dipBegun (s : State) (mv : Nat) : State :=
  (State.vsbMv { s with power := { s.power with dipSince := some s.clock }, sr := { s.sr with dipFrozen := true } } mv).ropeDip.supply 5
    (mv / 10)

theorem vsbDipStart_begins {s : State} {mv : Nat} (h : s.power.dipSince = none)
    (hn : ¬ ((s.dipBegun mv).power.entering = some 3 ∧ (s.dipBegun mv).power.ladder < 2)) :
    exec (.vsbDipStart mv) s = .next (s.dipBegun mv) := by
  have hd : ¬ s.power.dipSince.isSome = true := by simp [h]
  rw [exec_vsbDipStart, execVsbDipStart, if_neg hd]
  exact congrArg Host.Outcome.next (if_neg hn)

theorem vsbDipEnd_of_none {s : State} (mv : Nat) (h : s.power.dipSince = none) : exec (.vsbDipEnd mv) s = .next s := by
  simp only [exec_vsbDipEnd, execVsbDipEnd, h]

theorem vsbDipEnd_of_some {s : State} {c : Nat} (mv : Nat) (h : s.power.dipSince = some c) :
    let us := min ((s.clock - c) / 1000) 0xFFFFFFF
    let u := State.vsbMv { s with power := { s.power with dipSince := none }, sr := { s.sr with dipFrozen := false } } mv
    let w := ((u.setReg R.PWR_VSB_DIP (BitVec.ofNat 64 (2 ^ 31 + us))).bump R.PWR_DIP_COUNT).supply 5 (mv / 10)
    exec (.vsbDipEnd mv) s = .next (w.signPending w.store.rope.closed.length).ropeRecover := by
  simp only [exec_vsbDipEnd, execVsbDipEnd, h]

/-! ## The power ladder -/

/-- Settles O53: each clause is the lemma about the branch that its hypotheses select. -/
theorem ladderSteps : Obligations.LadderSteps := by
  unfold Obligations.LadderSteps
  intro s cause mv
  refine ⟨rfl, State.wake_of_held _, fun ht hb => ⟨State.wake_of_wakes ht hb, State.wake_of_not_wakes ht hb⟩, rfl, wakeAtTimer_of_none,
    fun t h => ⟨wakeAtTimer_early h, fun hle hw => ?_, fun hle hw => ?_⟩,
    fun n h => ⟨ladderDescend_waits h, ladderDescend_finishes h⟩,
    fun h => ⟨ladderDescend_stays h, fun hl hd => ⟨fun h1 => ?hush, fun h2 => ?doze, fun h3 => ?nap⟩⟩,
    ⟨fun hl ha ht => ?_, fun hn => ?_⟩, pmeTurnOff_stays, fun hl hu _ hd => pmeTurnOff_descends hl hu hd,
    vsbDipStart_of_dip mv, fun h => ⟨vsbDipStart_begins h, rfl⟩, vsbDipEnd_of_none mv, fun c => vsbDipEnd_of_some mv⟩
  · rw [wakeAtTimer_due h hle, hw]; rfl
  · rw [wakeAtTimer_due h hle, hw]; rfl
  case hush => rw [ladderDescend_descends h hl hd, h1]; rfl
  case doze => rw [ladderDescend_descends h hl hd, h2]; rfl
  case nap => rw [ladderDescend_descends h hl hd, State.descendTo_of_three_le s h3]
  · rw [hibernateTimer_eq, if_pos ⟨hl, ha, ht⟩]
  · rw [hibernateTimer_eq, if_neg (by omega)]

end Sys2Proof.Machine

/-!
PROOFS. Generations, stored commands and progress on their way: what `Obligations.GenerationSteps` is assembled from.
-/

namespace Sys2Proof.Machine

/-! ## Islands adopt (R26, R35) -/

theorem islandAdopt_adopts {s : State} {n : Fin 18} (hg : s.gated.getLsbD n.val = false) (hn : n.val < 11 ∨ 14 < n.val)
    (hb : s.atBoundary n.val = true) : exec (.islandAdopt n) s = .next (s.adopt n.val) := by
  rw [exec_islandAdopt, execIslandAdopt, hg, hb, if_neg]
  rintro (hc | h | h)
  · omega
  · cases h
  · cases h

theorem islandAdopt_waits {s : State} {n : Fin 18}
    (h : s.gated.getLsbD n.val = true ∨ (11 ≤ n.val ∧ n.val ≤ 14) ∨ s.atBoundary n.val = false) : exec (.islandAdopt n) s = .next s := by
  rcases h with h | h | h <;> simp [execIslandAdopt, h]

theorem State.adopt_of_applied {s : State} {n : Nat} (h : s.gen.applied.getLsbD n = true) : s.adopt n = s := if_pos h

/-- The bit of an island in the masks. -/
theorem getLsbD_one_shiftLeft {n k : Nat} (hk : k < 18) : (1#18 <<< n).getLsbD k = decide (k = n) := by
  rw [BitVec.getLsbD_shiftLeft, BitVec.getLsbD_one, Bool.eq_iff_iff]
  simp only [Bool.and_eq_true, Bool.not_eq_true', decide_eq_true_eq, decide_eq_false_iff_not]
  omega

theorem State.markAdopted_applied (s : State) {n k : Nat} (hk : k < 18) :
    (s.markAdopted n).gen.applied.getLsbD k = (s.gen.applied.getLsbD k || decide (k = n)) := by
  simp only [State.markAdopted, BitVec.getLsbD_or, getLsbD_one_shiftLeft hk]

theorem State.markAdopted_deferred (s : State) {n k : Nat} (hk : k < 18) :
    (s.markAdopted n).gen.deferred.getLsbD k = (s.gen.deferred.getLsbD k && decide (k ≠ n)) := by
  simp only [State.markAdopted, BitVec.getLsbD_and, BitVec.getLsbD_not, getLsbD_one_shiftLeft hk, hk, decide_true, Bool.true_and,
    ← decide_not, ne_eq]

/-! ## Clusters acknowledge (R27, R324) -/

theorem genAck_waits {s : State} {c : Fin 4} (h : s.gated.getLsbD (11 + c.val) = true ∨ s.clusterQuiet c.val = false) :
    exec (.genAck c) s = .next s := by
  rcases h with h | h <;> simp [execGenAck, h]

/-- A cluster that has adopted has nothing to acknowledge. -/
theorem genAck_of_applied {s : State} {c : Fin 4} (h : s.gen.applied.getLsbD (11 + c.val) = true) : exec (.genAck c) s = .next s := by
  simp [execGenAck, State.adoptCluster, h]

theorem genAck_adopts {s : State} {c : Fin 4} (hg : s.gated.getLsbD (11 + c.val) = false) (hq : s.clusterQuiet c.val = true)
    (ha : s.gen.applied.getLsbD (11 + c.val) = false) :
    let p := (s.takeAdopt c.val).adoptPolicies c.val
    exec (.genAck c) s = .next (State.markAdopted { p with cores := { p.cores with
      clusterGen := Tbl.set (fun _ => 0) p.cores.clusterGen c.val p.gen.current } } (11 + c.val)).endCommit := by
  have hgo : ¬ (s.gated.getLsbD (11 + c.val) = true ∨ (!s.clusterQuiet c.val) = true) := by simp [hg, hq]
  have hap : ¬ s.gen.applied.getLsbD (11 + c.val) = true := by simp [ha]
  rw [exec_genAck, execGenAck, if_neg hgo, State.adoptCluster, if_neg hap]

/-! ## Stall, end and retirement of a commit (R29 to R33, R35) -/

theorem commitStallTimeout_of_none {s : State} (h : s.gen.commit = none) : exec .commitStallTimeout s = .next s := by
  simp only [exec_commitStallTimeout, execCommitStallTimeout, h]

section
variable {s : State} {c : Commit} (h : s.gen.commit = some c)
include h

theorem commitStallTimeout_stalls (hr : c.rollback = false) (ht : c.start + 1000000 ≤ s.clock) (ha : s.gen.allIn = false) :
    exec .commitStallTimeout s = .next (State.finish { s with gen := { s.gen with
      stalled := true, inProgress := false, commit := none, warn := c.warn } } c.ctx .commitStalled []) := by
  rw [exec_commitStallTimeout, execCommitStallTimeout, h]
  exact if_pos (by simp [hr, ht, ha])

theorem commitStallTimeout_waits (hw : c.rollback = true ∨ s.clock < c.start + 1000000 ∨ s.gen.allIn = true) :
    exec .commitStallTimeout s = .next s := by
  rw [exec_commitStallTimeout, execCommitStallTimeout, h]
  refine if_neg ?_
  rintro ⟨hr, ht, ha⟩
  rcases hw with hw | hw | hw
  · simp [hw] at hr
  · omega
  · simp [hw] at ha

/-- A commit that ends: neither in progress nor waiting for islands, its reply timed, its warnings shown. -/
def State.commitEnded (s : State) (c : Commit) : State :=
  { s with gen := { s.gen with
    inProgress := false, commit := none, repliedAt := some s.clock, warn := if c.rollback then s.gen.warn else c.warn
    stalled := if c.rollback then false else s.gen.stalled, rolledBack := c.rollback, rolledOnce := c.rollback } }

theorem State.endCommit_of_allIn (ha : s.gen.allIn = true) :
    s.endCommit = (s.commitEnded c).finish c.ctx ((s.commitEnded c).commitStatus c) [] := by
  have hgo : ¬ (!s.gen.allIn) = true := by simp [ha]
  unfold State.endCommit
  dsimp only
  rw [if_neg hgo, h]
  rfl

end

section
variable {s : State} {t : Nat} (hl : s.gen.prevLive = true) (ht : s.gen.repliedAt = some t)
include hl ht

/-- The older generation of a commit that has replied goes when no packet carries it, or 50 µs after the reply. -/
theorem generationRetire_of_replied :
    exec .generationRetire s =
      if (s.gen.inProgress = false ∧ s.gen.stalled = false) ∧ (s.oldPackets = false ∨ t + 50000 ≤ s.clock) then
        .next { s with gen := { s.gen with prevLive := false, prev := [], repliedAt := none }, store := { s.store with before := none } }
      else .next s := by
  rw [exec_generationRetire, execGenerationRetire, hl, ht]
  simp only [Bool.not_eq_true', and_assoc]

end

/-- An older generation stays while none has replied, or while its successor is under way or stalled. -/
theorem generationRetire_waits {s : State}
    (h : s.gen.prevLive = false ∨ s.gen.repliedAt = none ∨ s.gen.inProgress = true ∨ s.gen.stalled = true) :
    exec .generationRetire s = .next s := by
  cases hl : s.gen.prevLive with
  | false => simp only [exec_generationRetire, execGenerationRetire, hl]
  | true =>
    cases ht : s.gen.repliedAt with
    | none => simp only [exec_generationRetire, execGenerationRetire, hl, ht]
    | some t =>
      rw [generationRetire_of_replied hl ht, if_neg]
      rintro ⟨⟨hp, hs⟩, -⟩
      simp [hl, ht, hp, hs] at h

/-! ## Stored commands and progress (R83, R92) -/

theorem schedRelease_of_none {s : State} {h : Nat} (hd : firstDue s.now.units s.cmd.stored = none) : exec (.schedRelease h) s = .next s := by
  simp only [exec_schedRelease, execSchedRelease, hd]

theorem schedRelease_of_some {s : State} {h : Nat} {e : Stored} (hd : firstDue s.now.units s.cmd.stored = some e) :
    exec (.schedRelease h) s = if e.handle = h then .next (s.releaseStored e false).settleStep.serveAll else .next s := by
  simp only [exec_schedRelease, execSchedRelease, hd]

theorem progressEvent_of_none {s : State} {n : Nat} (h : s.cmd.running[n]? = none) : exec (.progressEvent n) s = .next s := by
  simp only [exec_progressEvent, execProgressEvent, h]

theorem progressEvent_of_short {s : State} {n : Nat} {r : Running} (h : s.cmd.running[n]? = some r) (hl : r.long = false) :
    exec (.progressEvent n) s = .next s := by
  simp [execProgressEvent, h, hl]

theorem progressEvent_of_long {s : State} {n : Nat} {r : Running} (h : s.cmd.running[n]? = some r) (hl : r.long = true) :
    let v := (s.progressOf r).1
    let u := (s.progressOf r).2
    exec (.progressEvent n) s = .next (State.postSubmitter { u with cmd := { u.cmd with
      running := u.cmd.running.set n { r with lastPost := u.clock, progress := v } } } r.ctx.pkt.path 3 r.ctx.pkt.tag.toNat v) := by
  have hgo : ¬ (!r.long) = true := by simp [hl]
  rw [exec_progressEvent, execProgressEvent, h]
  dsimp only
  rw [if_neg hgo]

/-- A command other than a batch shows its progress in parts per thousand. -/
theorem State.progressOf_le (s : State) {r : Running} (h : r.ctx.opcode ≠ 0x0907) : (s.progressOf r).1 ≤ 1000 := by
  rw [State.progressOf, if_neg h]
  exact Nat.lt_succ_iff.mp (Nat.mod_lt _ (by decide))

/-! ## Generations on their way -/

/-- Settles O41: each clause is the lemma about the branch that its hypotheses select. -/
theorem generationSteps : Obligations.GenerationSteps := by
  unfold Obligations.GenerationSteps
  constructor
  · intro s island cluster
    refine ⟨islandAdopt_adopts, islandAdopt_waits, State.adopt_of_applied,
      fun k hk => ⟨State.markAdopted_applied s hk, State.markAdopted_deferred s hk⟩, genAck_waits, fun _ => genAck_of_applied,
      genAck_adopts, commitStallTimeout_of_none,
      fun c h => ⟨commitStallTimeout_stalls h, commitStallTimeout_waits h,
        fun ha => ⟨_, State.endCommit_of_allIn h ha, rfl, rfl, rfl, rfl, rfl⟩⟩,
      fun t hl ht hp hs => ⟨fun hgo => ?_, fun ho hlt => ?_⟩, generationRetire_waits⟩
    · rw [generationRetire_of_replied hl ht, if_pos ⟨⟨hp, hs⟩, hgo⟩]
    · rw [generationRetire_of_replied hl ht, if_neg]
      rintro ⟨-, hn | hle⟩
      · simp [ho] at hn
      · omega
  · intro s h n
    refine ⟨fun e hd => ⟨fun he => ?_, fun he => ?_⟩, schedRelease_of_none, progressEvent_of_none,
      fun r hr => ⟨progressEvent_of_short hr, fun hl => ⟨progressEvent_of_long hr hl, State.progressOf_le s⟩⟩⟩
    · rw [schedRelease_of_some hd, if_pos he]
    · rw [schedRelease_of_some hd, if_neg he]

end Sys2Proof.Machine

/-!
PROOFS. Replies, stored commands and staged settings: what `Obligations.CommandRules` is assembled from.
-/

namespace Sys2Proof.Machine

/-! ## Posted writes (R49 to R51, R61, R66) -/

/-- What posted writes for a party and requests for their translations may change: host memory, the link, the messages sent, none of them a
reply, and for a room its dirty-page log. -/
structure State.Wrote (room : Option Nat) (s u : State) : Prop where
  frame : u = { s with hostMem := u.hostMem, out := u.out, link := u.link, rooms := u.rooms }
  out : ∃ sent, u.out = s.out ++ sent ∧ ∀ m ∈ sent, ∀ x, m ≠ .reply x
  rooms : room = none → u.rooms = s.rooms

theorem State.Wrote.refl (room : Option Nat) (s : State) : s.Wrote room s := ⟨rfl, ⟨[], by simp⟩, fun _ => rfl⟩

theorem State.Wrote.trans {room : Option Nat} {s t u : State} (h : s.Wrote room t) (h' : t.Wrote room u) : s.Wrote room u := by
  obtain ⟨sent, hs, hn⟩ := h.out
  obtain ⟨sent', hs', hn'⟩ := h'.out
  refine ⟨?_, ⟨sent ++ sent', by rw [hs', hs, List.append_assoc], ?_⟩, fun hr => (h'.rooms hr).trans (h.rooms hr)⟩
  · refine h'.frame.trans ?_
    rw [h.frame]
  · intro m hm
    exact (List.mem_append.mp hm).elim (hn m) (hn' m)

theorem State.Wrote.foldl {α : Type} {room : Option Nat} {f : State → α → State} (h : ∀ (s : State) (a : α), s.Wrote room (f s a)) (as : List α)
    (s : State) : s.Wrote room (as.foldl f s) := by
  induction as generalizing s with
  | nil => exact .refl room s
  | cons a as ih => exact (h s a).trans (ih _)

theorem State.Wrote.kept {room : Option Nat} {s u : State} (h : s.Wrote room u) :
    u.gen = s.gen ∧ u.cmd = s.cmd ∧ u.store = s.store ∧ u.mem = s.mem ∧ u.regs = s.regs := by
  rw [h.frame]
  exact ⟨rfl, rfl, rfl, rfl, rfl⟩

/-- A change of the link alone. -/
theorem State.Wrote.ofLink {room : Option Nat} {s : State} (l : HostLink) : s.Wrote room { s with link := l } :=
  ⟨rfl, ⟨[], by simp⟩, fun _ => rfl⟩

theorem State.wrote_askPage (s : State) (room : Option Nat) (page : Nat) : s.Wrote room (s.askPage room page) := by
  unfold State.askPage
  dsimp only
  split
  · exact .refl room s
  · exact ⟨rfl, ⟨[.translate (s.party room) page], rfl, by simp⟩, fun _ => rfl⟩

theorem State.wrote_useTranslation (s : State) (room : Option Nat) (page : Nat) : s.Wrote room (s.useTranslation room page) := by
  unfold State.useTranslation
  split
  · exact .ofLink _
  · exact .refl room s

theorem State.wrote_logDirty (s : State) (room : Option Nat) (a n : Nat) : s.Wrote room (s.logDirty room a n) := by
  unfold State.logDirty
  split
  · exact .refl _ s
  · split
    · exact .refl _ s
    · exact ⟨rfl, ⟨[], by simp⟩, nofun⟩

theorem State.wrote_commitWrite (s : State) (w : HostWrite) : s.Wrote w.room (s.commitWrite w) := by
  unfold State.commitWrite
  dsimp only
  refine .trans ?_ (State.wrote_logDirty _ _ _ _)
  have huse := State.Wrote.foldl (fun s p => s.wrote_useTranslation w.room p) (pagesOf w.addr w.data.length) s
  refine huse.trans ⟨rfl, ⟨_, rfl, fun m hm x => ?_⟩, fun _ => rfl⟩
  obtain ⟨t, -, rfl⟩ := List.mem_map.mp hm
  nofun

/-- A posted write leaves or is held; either way it changes no more than `Wrote` says. -/
theorem State.wrote_hostWrite (s : State) (w : HostWrite) : s.Wrote w.room (s.hostWrite w) := by
  unfold State.hostWrite
  split
  · exact s.wrote_commitWrite w
  · exact (State.Wrote.ofLink _).trans (.foldl (fun s p => s.wrote_askPage w.room p) _ _)

@[simp] theorem State.logDirty_hostMem (s : State) (room : Option Nat) (a n : Nat) : (s.logDirty room a n).hostMem = s.hostMem := by
  unfold State.logDirty
  split
  · rfl
  · split <;> rfl

theorem State.foldl_useTranslation_hostMem (room : Option Nat) (ps : List Nat) (s : State) :
    (ps.foldl (fun s p => s.useTranslation room p) s).hostMem = s.hostMem := by
  induction ps generalizing s with
  | nil => rfl
  | cons p ps ih =>
    rw [List.foldl_cons, ih]
    unfold State.useTranslation
    split <;> rfl

/-- An owner's write that may be sent reads back from host memory. -/
theorem State.hostWrite_readBytes {s : State} {w : HostWrite} (hr : w.room = none) (hh : s.link.heldWrites = [])
    (hs : s.canSend w = true) : (s.hostWrite w).hostMem.readBytes w.addr w.data.length = w.data := by
  have hgo : (decide (s.link.heldWrites = []) && s.canSend w) = true := by simp [hh, hs]
  rw [State.hostWrite, if_pos hgo, State.commitWrite, hr]
  simp only [State.logDirty_hostMem, State.traffic, State.pasidOf, hostKey, Memory.readBytes_writeBytes]

/-! ## Replies (R81, R88) -/

/-- The reply that a command's end shows when it was not stored. -/
def State.replyOf (s : State) (p : Packet) (opcode : Nat) (st : Status) (data : List Byte) : Reply :=
  let cut := data.take (Packet.replySpace p)
  { path := p.path, opcode := opcode, tag := p.tag, status := st.code
    rflags := if Packet.replySpace p < data.length then 1 else 0
    dataLen := cut.length, generation := s.gen.current, doneTime := s.now, data := cut }

/-- The write of a reply's data, where there is one. -/
def State.replyData (s : State) (p : Packet) (data : List Byte) : State :=
  let cut := data.take (Packet.replySpace p)
  if p.path = .mctp ∨ cut = [] then s else s.hostWrite ⟨Path.ringRoom p.path, p.replyPtr, cut, 0, false⟩

/-- The mailbox ends its request. -/
def State.mboxEnds (s : State) (path : Path) : State :=
  if path = .mailbox then { s with sr := { s.sr with mboxBusy := false, mboxDone := true } } else s

theorem State.wrote_replyData (s : State) (p : Packet) (data : List Byte) : s.Wrote (Path.ringRoom p.path) (s.replyData p data) := by
  unfold State.replyData
  dsimp only
  split
  · exact .refl _ s
  · exact s.wrote_hostWrite ⟨Path.ringRoom p.path, p.replyPtr, _, 0, false⟩

/-- Without a ring entry and without an event, a reply is its data's write, its message and the mailbox's end. -/
theorem State.reply_of_no_entry {s : State} {p : Packet} (opcode : Nat) (st : Status) (data : List Byte) (he : p.entry = none)
    (hf : bit p.flags.toNat 4 = false) :
    s.reply p opcode st data false none false = ((s.replyData p data).emit (.reply (s.replyOf p opcode st data))).mboxEnds p.path := by
  have hw : Packet.workNumber p = 0 := by simp only [Packet.workNumber, he]
  have hcut : decide ((data.take (Packet.replySpace p)).length < data.length) = decide (Packet.replySpace p < data.length) := by
    rw [List.length_take, decide_eq_decide]
    omega
  have hflags : b01 (decide (Packet.replySpace p < data.length)) = if Packet.replySpace p < data.length then 1 else 0 := by
    simp [b01]
  simp only [State.reply, hf, Bool.false_eq_true, if_false, hw, he, Bool.false_or, hcut, hflags]
  rfl

section
variable {s : State} {p : Packet} (opcode : Nat) (st : Status) (data : List Byte) (he : p.entry = none) (hf : bit p.flags.toNat 4 = false)
include he hf

theorem State.reply_out : ∃ sent : List OutMsg, (∀ m, m ∈ sent → ∀ x, m ≠ .reply x) ∧
    (s.reply p opcode st data false none false).out = s.out ++ sent ++ [.reply (s.replyOf p opcode st data)] := by
  obtain ⟨sent, hs, hn⟩ := (s.wrote_replyData p data).out
  refine ⟨sent, hn, ?_⟩
  rw [State.reply_of_no_entry opcode st data he hf, ← hs]
  unfold State.mboxEnds
  split <;> rfl

/-- The mailbox aside, a reply changes what the write of its data changes, and sends its message. -/
theorem State.reply_fields :
    let t := s.reply p opcode st data false none false
    t.hostMem = (s.replyData p data).hostMem ∧ t.rooms = (s.replyData p data).rooms ∧ t.gen = s.gen ∧ t.cmd = s.cmd ∧ t.store = s.store ∧
      t.mem = s.mem ∧ t.regs = s.regs := by
  have hkept := (s.wrote_replyData p data).kept
  rw [State.reply_of_no_entry opcode st data he hf]
  unfold State.mboxEnds
  split <;> exact ⟨rfl, rfl, hkept⟩

end

/-- The data of a front-door reply that fits its space reads back from the reply address, when its write may be sent. -/
theorem State.replyData_readBytes {s : State} {p : Packet} {data : List Byte} (hp : p.path = .frontDoor) (hh : s.link.heldWrites = [])
    (hs : s.canSend ⟨none, p.replyPtr, data, 0, false⟩ = true) (hd : data ≠ []) (hl : data.length ≤ p.replyLen) (h0 : p.replyPtr ≠ 0) :
    (s.replyData p data).hostMem.readBytes p.replyPtr data.length = data := by
  have hcut : data.take (Packet.replySpace p) = data := by
    rw [Packet.replySpace, hp]
    dsimp only
    rw [if_neg h0, List.take_of_length_le hl]
  have hgo : ¬ (p.path = .mctp ∨ data = []) := by simp [hp, hd]
  rw [State.replyData, hcut, if_neg hgo, hp]
  exact State.hostWrite_readBytes (w := ⟨none, p.replyPtr, data, 0, false⟩) rfl hh hs

/-! ## Stored commands (R84, R89, R90, R95) -/

/-- A scheduled one-shot command is kept while its time is to come, and is late after it. -/
theorem Command.accept_scheduled {c : Command} {p : Packet} {s : State} (hu : s.pathUp p.path = true) (hb : s.pathBusy p.path = false)
    (hr : c.refuses s p.scoped = none) (ha : p.scoped.atTimeFlag = true) (hp : p.scoped.periodic = false) :
    c.accept p s = State.goesOn (if s.now.units < p.scoped.atTime.units then c.keep (c.context p) s else c.late (c.context p) s) := by
  simp only [Command.accept, hu, hb, Bool.not_true, Bool.false_eq_true, if_false, Command.submit, hr, ha, hp, Bool.false_or,
    decide_eq_true_eq, gt_iff_lt, Command.context, State.goesOn]

section
variable {c : Command} {p : Packet} {s : State} (hd : p.scoped.dry = false)
include hd

theorem Command.keep_full (h : 4096 ≤ s.cmd.stored.length) :
    c.keep (c.context p) s = (s.bump R.SCHED_FULL).reply p.scoped c.opcode .busy [] false none false := by
  simp [Command.keep, Command.context, hd, h]

theorem Command.keep_stores (hp : p.scoped.periodic = false) (h : s.cmd.stored.length < 4096) :
    let n := nextHandle (s.cmd.stored.map Stored.handle) s.cmd.nextHandle 4097
    c.keep (c.context p) s = State.reply { s with cmd := { s.cmd with
      stored := s.cmd.stored ++ [⟨n, c.opcode, p.scoped, 1, false, 0, s.clock⟩], nextHandle := (n + 1) % 2 ^ 32 } }
        p.scoped c.opcode .ok [] false (some n) false := by
  have hfull : ¬ 4096 ≤ s.cmd.stored.length := by omega
  simp only [Command.keep, Command.context, hd, hp, hfull, decide_false, Bool.false_eq_true, if_false]

theorem Command.late_strict (hs : p.scoped.strict = true) :
    c.late (c.context p) s = (s.bump R.SCHED_PASSED).reply p.scoped c.opcode .timePassed [] false none false := by
  simp only [Command.late, Command.context, hd, hs, Bool.false_eq_true, if_false, if_true]

theorem Command.late_runs (hs : p.scoped.strict = false) :
    c.late (c.context p) s = c.run { c.context p with sched := .late } (s.bump R.SCHED_LATE) := by
  simp only [Command.late, Command.context, hd, hs, Bool.false_eq_true, if_false]

end

/-- A handle that is not 0 and names no stored command is taken as it stands. -/
theorem nextHandle_of_free {used : List Nat} {h : Nat} (fuel : Nat) (h0 : h ≠ 0) (hu : h ∉ used) : nextHandle used h (fuel + 1) = h := by
  rw [nextHandle, if_neg]
  simp [h0, hu]

/-! ## The staging store (R21) -/

theorem keyOf_inj {op sel op' sel' : Nat} (h : sel < 2 ^ 32) (h' : sel' < 2 ^ 32) : keyOf op sel = keyOf op' sel' ↔ op = op' ∧ sel = sel' := by
  unfold keyOf
  omega

theorem changeOf_append (cs ds : List (Nat × List Byte)) (k : Nat) : changeOf (cs ++ ds) k = (changeOf cs k).or (changeOf ds k) := by
  simp only [changeOf, List.find?_append]
  cases cs.find? fun c => decide (c.1 = k) <;> rfl

theorem changeOf_putChange_self (cs : List (Nat × List Byte)) (k : Nat) (b : List Byte) : changeOf (putChange cs k b) k = some b := by
  have hnone : changeOf (cs.filter fun c => decide (c.1 ≠ k)) k = none := by
    simp [changeOf, List.find?_eq_none]
  rw [putChange, changeOf_append, hnone]
  simp [changeOf]

theorem changeOf_putChange_ne (cs : List (Nat × List Byte)) {k k' : Nat} (b : List Byte) (h : k' ≠ k) :
    changeOf (putChange cs k b) k' = changeOf cs k' := by
  have hfilter : changeOf (cs.filter fun c => decide (c.1 ≠ k)) k' = changeOf cs k' := by
    unfold changeOf
    rw [List.find?_filter]
    congr 2
    funext c
    simp only [decide_eq_true_eq, decide_eq_decide]
    exact ⟨And.right, fun hc => ⟨fun hk => h (hc.symm.trans hk), hc⟩⟩
  rw [putChange, changeOf_append, hfilter]
  simp [changeOf, h.symm]

/-! ## Replies, stored commands and staged settings -/

/-- Settles O21: a reply is its data's write and its message; a scheduled command is kept or late; a staged change is put over its object's. -/
theorem commandRules : Obligations.CommandRules := by
  unfold Obligations.CommandRules
  refine ⟨fun s p opcode st data he hf => ?_, fun i c p s hrow => ?_, fun s op sel b hsel => ?_⟩
  · obtain ⟨sent, hn, hout⟩ := State.reply_out (s := s) opcode st data he hf
    obtain ⟨hmem, hrooms, hkept⟩ := State.reply_fields (s := s) opcode st data he hf
    refine ⟨⟨_, sent, hout, hn, rfl, rfl, rfl, rfl, rfl, rfl, rfl, rfl⟩, fun hp hh hs hd hl h0 => ?_, fun hp => ?_, hkept⟩
    · rw [hmem]
      exact State.replyData_readBytes hp hh hs hd hl h0
    · rw [hrooms]
      exact (s.wrote_replyData p data).rooms hp
  · intro q x h hu hb hr ha hp hd
    rw [exec_commandRow hrow, Command.accept_scheduled hu hb hr ha hp]
    refine ⟨fun ht hl => ?_, fun ht hl => ?_, fun ht hs => ?_, fun ht hs => ?_, fun h0 hfree => nextHandle_of_free _ h0 hfree⟩
    · rw [if_pos ht, Command.keep_stores hd hp hl]
    · rw [if_pos ht, Command.keep_full hd hl]
    · rw [if_neg (Nat.not_lt.mpr ht), Command.late_strict hd hs]
    · rw [if_neg (Nat.not_lt.mpr ht), Command.late_runs hd hs]
  · refine ⟨changeOf_putChange_self _ _ _, fun op' sel' hsel' hne => changeOf_putChange_ne _ _ fun h => ?_, fun _ _ => rfl, rfl, rfl⟩
    obtain ⟨hop, hs⟩ := (keyOf_inj hsel' hsel).mp h
    exact hne.elim (· hop) (· hs)

end Sys2Proof.Machine

/-!
PROOFS. The acceptance of a commit and its refusals: what `Obligations.CommitCommands` is assembled from.
-/

namespace Sys2Proof.Machine

@[simp] theorem Packet.scoped_params (p : Packet) : p.scoped.params = p.params := by
  unfold Packet.scoped
  split <;> rfl

/-! ## Acceptance (R20, R29, R31, R32, R36, R37, R104) -/

/-- An announcement waits in the leaf of its port, and that is all. -/
theorem State.announceAll_frame (is : List Nat) (s : State) : s.announceAll is = { s with pipe := (s.announceAll is).pipe } := by
  unfold State.announceAll
  induction is generalizing s with
  | nil => rfl
  | cons i is ih => rw [List.foldl_cons, ih]; rfl

theorem State.accepted_commits (s : State) (x : Ctx) (cs : List (Nat × List Byte)) :
    s.commits (s.accepted x (mergedChanges cs)) cs := by
  unfold State.commits State.accepted
  dsimp only
  rw [State.announceAll_frame]
  by_cases hl : s.gen.locked = true
  · rw [if_pos hl]
    exact ⟨rfl, rfl, rfl, rfl, rfl, rfl, rfl, rfl, rfl, rfl, rfl, fun _ => if_pos hl, rfl, rfl, rfl⟩
  · rw [if_neg hl]
    exact ⟨rfl, rfl, rfl, rfl, rfl, rfl, rfl, rfl, rfl, rfl, rfl, fun h => absurd h hl, rfl, rfl, rfl⟩

/-- The device after the acceptance: the clusters are told, and islands without work adopt. -/
theorem State.startCommit_of_fits {s : State} {x : Ctx} {cs : List (Nat × List Byte)} (h : s.commitFits cs) (hd : x.pkt.dry = false) :
    s.startCommit x cs = .held (s.accepted x (mergedChanges cs)).postAdopt.adoptIdle := by
  obtain ⟨hstalled, hprogress, hlive, hcycles, hactions, hfurnish⟩ := h
  simp only [State.startCommit, State.commitBarred, hstalled, hprogress, hlive, hcycles, hactions, hfurnish, hd, Bool.or_self,
    Bool.not_true, Bool.false_eq_true, if_false]

/-- A packet that begins at once is no dry run. -/
theorem Command.not_dry_of_starts {c : Command} {p : Packet} {s : State} (h : c.starts p s) : (c.context p).pkt.dry = false := by
  obtain ⟨-, -, -, -, hdry⟩ := h
  exact hdry

/-- A command whose body starts a commit that fits is accepted. -/
theorem exec_commits {i : Instr} {c : Command} {p : Packet} {s v : State} {cs : List (Nat × List Byte)}
    (hrow : commandRow i = some (p, c)) (hs : c.starts p s) (hf : v.commitFits cs)
    (hb : c.body (c.context p) s = v.startCommit (c.context p) cs) :
    v.commits (v.accepted (c.context p) (mergedChanges cs)) cs ∧
      exec i s = .next (v.accepted (c.context p) (mergedChanges cs)).postAdopt.adoptIdle.goesOn := by
  refine ⟨v.accepted_commits _ cs, ?_⟩
  rw [exec_commandRow hrow, Command.accept_held hs (hb.trans (State.startCommit_of_fits hf (Command.not_dry_of_starts hs)))]

/-! ## Self-committing commands -/

theorem roomOpen_body {x : Ctx} {s : State} (h : (s.room x.pkt.room).state = .furnished ∧ s.sr.debugLevel = 0) :
    cmdRoomOpen.body x s = s.startCommit x [(keyOf 0x0102 x.pkt.room, [1])] := by
  simp [cmdRoomOpen, h.1, h.2]

theorem roomClose_body {x : Ctx} {s : State} (h : (s.room x.pkt.room).state = .opened ∧ (s.room x.pkt.room).tdi ≠ .run) :
    cmdRoomClose.body x s = s.startCommit x [(keyOf 0x0103 x.pkt.room, [1])] := by
  simp [cmdRoomClose, h.1, h.2]

theorem roomVacate_body {x : Ctx} {s : State} (h : (s.room x.pkt.room).state = .furnished ∧ (s.room x.pkt.room).tdiLocked = false) :
    cmdRoomVacate.body x s = s.startCommit x [(keyOf 0x0105 x.pkt.room, [1])] := by
  simp [cmdRoomVacate, h.1, h.2]

theorem portAdmin_body {x : Ctx} {s : State} {bs : List Byte} (hp : x.pkt.params = bs)
    (h : fld bs 0 1 ≤ 3 ∧ fld bs 1 1 ≤ 1 ∧ (fld bs 1 1 = 1 → s.cfg 0x0300 (fld bs 0 1) ≠ [])) :
    cmdPortAdmin.body x s = s.startCommit x [(keyOf 0x0301 (fld bs 0 1), bs)] := by
  obtain ⟨hn, hup, hconf⟩ := h
  have hrange : ¬ (3 < fld bs 0 1 ∨ 1 < fld bs 1 1) := by omega
  have hset : ¬ (fld bs 1 1 = 1 ∧ s.cfg 0x0300 (fld bs 0 1) = []) := fun hc => hconf hc.1 hc.2
  simp only [cmdPortAdmin, hp, if_neg hrange, if_neg hset]

theorem tmShaperRate_body {x : Ctx} {s : State} {bs : List Byte} (hp : x.pkt.params = bs)
    (h : ∀ e, e ∈ recordsOf bs 8 16 (fld bs 0 2) → s.shaperRecOk e = true) :
    cmdTmShaperRate.body x s = s.startCommit x ((recordsOf bs 8 16 (fld bs 0 2)).foldl (s.shaperChanges x.pkt.forgive) []) := by
  have hall : (recordsOf bs 8 16 (fld bs 0 2)).all s.shaperRecOk = true := List.all_eq_true.mpr h
  simp only [cmdTmShaperRate, hp, hall, Bool.not_true, Bool.false_eq_true, if_false]

/-- PPS_SET without STRICT commits from the state that notes when it was asked for (R189). -/
theorem ppsSet_body {x : Ctx} {s : State} {bs : List Byte} (hp : x.pkt.params = bs)
    (h : ppsOk bs (s.time.periodUs * 1000) = true ∧ x.pkt.strict = false) (hd : x.pkt.dry = false)
    (hf : (s.setPps (fld bs 0 1) { s.ppsOut (fld bs 0 1) with asked := s.clock, strict := false }).commitFits
      [(keyOf 0x0604 (fld bs 0 1), bs)]) :
    cmdPpsSet.body x s = (s.setPps (fld bs 0 1) { s.ppsOut (fld bs 0 1) with asked := s.clock, strict := false }).startCommit x
      [(keyOf 0x0604 (fld bs 0 1), bs)] := by
  obtain ⟨hok, hs⟩ := h
  simp only [cmdPpsSet, hp, hok, hs, Bool.not_true, Bool.false_eq_true, if_false, Bool.false_and, State.startCommit_of_fits hf hd]

theorem tmGateList_body {x : Ctx} {s : State} {bs : List Byte} (hp : x.pkt.params = bs) (hl : x.sched = .late) (h : gateListOk bs = true) :
    cmdTmGateList.body x s = s.startCommit x [(keyOf 0x0503 (fld bs 0 1), bs)] := by
  simp only [cmdTmGateList, hp, h, if_true, State.stageOrCommit, hl]

theorem periodSet_body {x : Ctx} {s : State} {bs : List Byte} (hp : x.pkt.params = bs) (hl : x.sched = .late) (h : periodOk bs = true) :
    cmdPeriodSet.body x s = s.startCommit x [(keyOf 0x0602 0, bs)] := by
  simp only [cmdPeriodSet, hp, h, if_true, State.stageOrCommit, hl]

/-! ## Refusals (R31, R32) and rollback (R33) -/

theorem State.startCommit_of_barred {s : State} {x : Ctx} {cs : List (Nat × List Byte)} {st : Status} (h : s.commitBarred = some st) :
    s.startCommit x cs = .done st [] (s.bump R.DEVICE_GEN_BUSY_REFUSED) := by
  simp only [State.startCommit, h, Out.of]

theorem cfgCommit_barred {p : Packet} {s : State} {st : Status} (hs : cmdCfgCommit.starts p s) (h : s.commitBarred = some st) :
    exec (.cfgCommit p) s = .next (cmdCfgCommit.ends p (s.bump R.DEVICE_GEN_BUSY_REFUSED) st []) := by
  rw [exec_commandRow rfl, Command.accept_done hs (State.startCommit_of_barred h)]

/-- The generations have changed places: the abandoned one's islands are to return, and those that never adopted it count at once. -/
def State.swapped (s : State) (x : Ctx) : State :=
  { s with
    gen := { s.gen with
      current := s.gen.previous, previous := s.gen.current, cur := s.gen.prev, prev := s.gen.cur, inProgress := true, repliedAt := none
      applied := ~~~s.gen.applied, deferred := s.gen.applied &&& s.gated, commit := some ⟨x, s.clock, false, true, false⟩ }
    cores := { s.cores with annexNext := annexList (s.gen.prev.block 0x0D04 0) } }

theorem cfgRollback_body {x : Ctx} {s : State} (hi : s.gen.inProgress = false) (hl : s.gen.prevLive = true)
    (ho : s.gen.rolledOnce = false) (hd : x.pkt.dry = false) :
    cmdCfgRollback.body x s = .held (s.swapped x).endCommit.postAdopt.adoptIdle := by
  simp only [cmdCfgRollback, hi, hl, ho, hd, Bool.false_eq_true, if_false, Bool.not_true, or_self, State.swapped]

/-! ## CFG_COMMIT, CFG_ROLLBACK, CFG_DISCARD and self-committing commands -/

/-- Settles O24: every body starts a commit, and one that fits is accepted; the refusals and the rollback are their own lemmas. -/
theorem commitCommands : Obligations.CommitCommands := by
  unfold Obligations.CommitCommands
  intro p s bs r goes committed late
  have hp (c : Command) : (c.context p).pkt.params = bs := Packet.scoped_params p
  refine ⟨fun hs _ hf => exec_commits rfl hs hf rfl, fun hs h hf => exec_commits rfl hs hf (roomOpen_body h),
    fun hs h hf => exec_commits rfl hs hf (roomClose_body h), fun hs h hf => exec_commits rfl hs hf (roomVacate_body h),
    fun hs h hf => exec_commits rfl hs hf (portAdmin_body (hp _) h),
    fun hs h hf => exec_commits rfl hs hf (tmShaperRate_body (hp _) h),
    fun hs h hf => exec_commits rfl hs hf (ppsSet_body (hp _) h (Command.not_dry_of_starts hs) hf),
    fun h hf hd => ?gates,
    fun h hf hd => ?period,
    fun hs hst hbusy => cfgCommit_barred hs ?busy, fun hs hst => cfgCommit_barred hs ?stalled, fun hs => ?discard,
    fun hs hi hl ho => ⟨s.swapped (cmdCfgRollback.context p), rfl, rfl, rfl, rfl, rfl, rfl, rfl, rfl, rfl, rfl, ?rollback⟩⟩
  case gates => exact (tmGateList_body (Packet.scoped_params p) rfl h).trans (State.startCommit_of_fits hf hd)
  case period => exact (periodSet_body (Packet.scoped_params p) rfl h).trans (State.startCommit_of_fits hf hd)
  case busy =>
    rcases hbusy with h | h <;> simp [State.commitBarred, hst, h]
  case stalled => simp only [State.commitBarred, hst, if_true]
  case discard => rw [exec_commandRow rfl, Command.accept_done hs rfl]
  case rollback =>
    rw [exec_commandRow rfl, Command.accept_held hs (cfgRollback_body hi hl ho (Command.not_dry_of_starts hs))]

end Sys2Proof.Machine

/-!
PROOFS. Commands on storage, batches, classification banks and march tests: what `Obligations.StorageCommands` is assembled from.
-/

namespace Sys2Proof.Machine

/-! ## A row whose body is known -/

section
variable {i : Instr} {c : Command} {p : Packet} {s u : State} (hrow : commandRow i = some (p, c)) (hs : c.starts p s)
include hrow hs

theorem exec_done {st : Status} {data : List Byte} (hb : c.body (c.context p) s = .done st data u) :
    exec i s = .next (c.ends p u st data) := by
  rw [exec_commandRow hrow, Command.accept_done hs hb]

theorem exec_held (hb : c.body (c.context p) s = .held u) : exec i s = .next u.goesOn := by
  rw [exec_commandRow hrow, Command.accept_held hs hb]

end

/-! ## STORAGE_OPEN (R512) -/

section
variable {x : Ctx} {s : State} (ho : s.runningOn 0x0905 0 = none) (hk : s.runningOn 0x0804 0 = none)
include ho hk

theorem storageOpen_body_refused {st : Status} (ha : s.store.replay.active = false) (h : s.openRefuses = some st) :
    cmdStorageOpen.body x s = .done st [] s := by
  simp only [cmdStorageOpen, ho, hk, ha, h, Option.isSome_none, Bool.false_eq_true, or_self, if_false, Out.of]

theorem storageOpen_body_opens (ha : s.store.replay.active = false) (h : s.openRefuses = none) :
    cmdStorageOpen.body x s = .held (s.hold x true 0 []).endStorageOpen := by
  simp only [cmdStorageOpen, ho, hk, ha, h, Option.isSome_none, Bool.false_eq_true, or_self, if_false]

/-- While replay still runs the command waits for its end. -/
theorem storageOpen_body_waits (ha : s.store.replay.active = true) : cmdStorageOpen.body x s = .held (s.hold x true 0 []) := by
  simp only [cmdStorageOpen, ho, hk, ha, Option.isSome_none, Bool.false_eq_true, or_self, if_false, if_true]

end

/-! ## TRANSCRYPT_START and TRANSCRYPT_CANCEL (R456, R457, R463) -/

/-- What TRANSCRYPT_START meets: its parameters and domains are good, its kind's conditions hold, the path is open for writes, the bandwidth
shares suffice and a batch is free. -/
structure State.batchStartFits (s : State) (bs : List Byte) : Prop where
  params : s.batchParamsOk bs = true
  domains : s.batchDomainGone bs = false
  rekey : fld bs 4 1 = 1 → (s.domain (fld bs 0x0C 4)).prev = fld bs 0x10 2 ∧ fld bs 0x10 2 ≠ 0
  rope : fld bs 4 1 = 3 → s.store.rope.held = true
  path : s.store.path = 2
  handed : s.store.rope.handed = false
  target : s.shareWith (if fld bs 4 1 = 1 then fld bs 8 2 else fld bs 0x0A 2) (fld bs 6 2) ≤ 500
  source : fld bs 4 1 ≠ 3 → s.shareWith (fld bs 8 2) (fld bs 6 2) ≤ 500
  free : s.store.batches.length < 16

/-- The batch that TRANSCRYPT_START begins with, its set still to be selected. -/
def Batch.starting (x : Ctx) (clock : Nat) : Batch := ⟨x, [], 0, 0, 0, 0, false, none, false, false, clock, true⟩

theorem transcryptStart_body {x : Ctx} {s : State} {bs : List Byte} (hp : x.pkt.params = bs) (h : s.batchStartFits bs) :
    cmdTranscryptStart.body x s =
      let n := firstFree (s.store.batches.map fun b => b.1) 0 17
      let u := s.setBatch n (.starting x s.clock)
      if fld bs 4 1 = 3 then .held (u.holdWork x (fld bs 0 4) [(fld bs 0x30 8, 96 * fld bs 0x38 4)])
      else .held ((u.hold x true (fld bs 0 4) []).beginBatch n) := by
  obtain ⟨hparams, hdomains, hrekey, hrope, hpath, hhanded, htarget, hsource, hfree⟩ := h
  have hrekey' : ¬ (fld bs 4 1 = 1 ∧ ((s.domain (fld bs 0x0C 4)).prev ≠ fld bs 0x10 2 ∨ fld bs 0x10 2 = 0)) :=
    fun ⟨hk, hne⟩ => hne.elim (· (hrekey hk).1) (hrekey hk).2
  have hrope' : ¬ (fld bs 4 1 = 3 ∧ (!s.store.rope.held) = true) := fun ⟨hk, hne⟩ => by simp [hrope hk] at hne
  have hclosed : ¬ s.store.path < 2 := by omega
  have hshut : ¬ (s.store.path = 3 ∨ s.store.rope.handed = true) := by simp [hpath, hhanded]
  have hshare : ¬ (s.shareWith (if fld bs 4 1 = 1 then fld bs 8 2 else fld bs 0x0A 2) (fld bs 6 2) > 500 ∨
      (fld bs 4 1 ≠ 3 ∧ s.shareWith (fld bs 8 2) (fld bs 6 2) > 500)) :=
    fun hc => hc.elim (fun hgt => by omega) fun ⟨hk, hgt⟩ => absurd (hsource hk) (by omega)
  have hfull : ¬ s.store.batches.length ≥ 16 := by omega
  simp only [cmdTranscryptStart, hp, hparams, hdomains, Bool.not_true, Bool.false_eq_true, if_false, if_neg hrekey', if_neg hrope',
    if_neg hclosed, if_neg hshut, if_neg hshare, if_neg hfull, Batch.starting]

theorem transcryptCancel_body_unknown {x : Ctx} {s : State} {bs : List Byte} (hp : x.pkt.params = bs)
    (h : ∀ b, b ∈ s.store.batches → b.2.id ≠ fld bs 0 4) : cmdTranscryptCancel.body x s = .done .invalidParam [] s := by
  have hnone : (s.store.batches.find? fun b => decide (b.2.id = fld bs 0 4)) = none :=
    List.find?_eq_none.mpr fun b hb => by simp [h b hb]
  simp only [cmdTranscryptCancel, hp, hnone, Out.of]

/-- A batch stops taking sources, and its operations that no entry belongs to are gone. -/
def State.cancelBatch (s : State) (n : Nat) (b : Batch) : State :=
  let u := s.setBatch n { b with cancelled := true, left := [] }
  { u with store := { u.store with ops := u.store.ops.filter fun o => !(decide (o.src = .batch n) && decide (o.entry = 0)) } }

theorem transcryptCancel_body_known {x : Ctx} {s : State} {bs : List Byte} {n : Nat} {b : Batch} (hp : x.pkt.params = bs)
    (h : s.store.batches.find? (fun b => decide (b.2.id = fld bs 0 4)) = some (n, b)) (hc : b.cancelled = false) :
    cmdTranscryptCancel.body x s = .held (((s.cancelBatch n b).hold x false (fld bs 0 4) []).batchEnd n) := by
  simp only [cmdTranscryptCancel, hp, h, hc, Bool.false_eq_true, if_false, State.cancelBatch]

theorem State.mem_cancelBatch_ops {s : State} {n : Nat} {b : Batch} {o : StoreOp} (h : o ∈ (s.cancelBatch n b).store.ops) :
    o ∈ s.store.ops ∧ ¬ (o.src = .batch n ∧ o.entry = 0) := by
  obtain ⟨hmem, hkept⟩ := List.mem_filter.mp h
  simp only [← Bool.decide_and, Bool.not_eq_true', decide_eq_false_iff_not] at hkept
  exact ⟨hmem, hkept⟩

/-! ## MEM_MARCH (R536, R537) -/

/-- The state in which a run has begun over regions: the lookup cache and the lines and hitches lose what lies there. -/
def State.marchBegun (s : State) (bs : List Byte) : State :=
  let u : State := { s with memory := { s.memory with march := some ⟨bs, s.clock⟩ } }
  let v : State := if 2 ∈ s.marchRegions bs then { u with cls := { u.cls with cache := [] } } else u
  if 3 ∈ s.marchRegions bs ∧ v.cores.lhReady = true then v.lhDown else v

section
variable {x : Ctx} {s : State} {bs : List Byte} (hp : x.pkt.params = bs) (hok : marchOk bs = true) (hm : s.memory.march = none)
include hp hok hm

theorem memMarch_body_runs (hd : fld bs 2 1 = 1 → s.gen.current = 0 ∧ s.store.path < 2 ∧ ∀ r, r ∈ s.marchRegions bs → r ∉ marchBarred)
    (hk : fld bs 2 1 ≠ 1 → 3 ∉ s.marchRegions bs) :
    cmdMemMarch.body x s = .held ((s.marchBegun bs).hold x true 0 []) := by
  have hdestroys : ¬ (decide (fld bs 2 1 = 1) && (decide (s.gen.current ≠ 0) || decide (2 ≤ s.store.path) ||
      (s.marchRegions bs).any fun r => marchBarred.contains r)) = true := by
    intro h
    simp only [Bool.and_eq_true, Bool.or_eq_true, decide_eq_true_eq, List.any_eq_true, List.contains_iff_mem] at h
    obtain ⟨h1, hbad⟩ := h
    obtain ⟨hgen, hpath, hregions⟩ := hd h1
    rcases hbad with (hg | hpt) | ⟨r, hr, hb⟩
    · exact hg hgen
    · omega
    · exact hregions r hr hb
  have hkeeps : ¬ (!decide (fld bs 2 1 = 1) && (s.marchRegions bs).contains 3) = true := by
    intro h
    simp only [Bool.and_eq_true, Bool.not_eq_true', decide_eq_false_iff_not, List.contains_iff_mem] at h
    exact hk h.1 h.2
  simp only [cmdMemMarch, hp, hok, hm, Bool.not_true, Bool.false_eq_true, if_false, Option.isSome_none, if_neg hdestroys, if_neg hkeeps,
    List.contains_iff_mem, State.marchBegun]

theorem memMarch_body_barred (hd : fld bs 2 1 = 1) (hg : s.gen.current ≠ 0) : cmdMemMarch.body x s = .done .notPermitted [] s := by
  simp [cmdMemMarch, hp, hok, hm, hd, hg, Out.of]

end

/-! ## CLS_BANK_LOAD (R22, R229) -/

theorem clsBankLoad_body_refused {x : Ctx} {s : State} {bs : List Byte} {st : Status} (hp : x.pkt.params = bs)
    (h : s.bankLoadRefused bs = some st) : cmdClsBankLoad.body x s = .done st [] s := by
  simp only [cmdClsBankLoad, hp, h, Out.of]

theorem clsBankLoad_body_reads {x : Ctx} {s : State} {bs : List Byte} (hp : x.pkt.params = bs) (h : s.bankLoadRefused bs = none)
    (hr : s.runningOn 0x0400 (bankObject bs) = none) (hn : bankImageBytes bs ≠ 0) :
    cmdClsBankLoad.body x s = .held (s.holdWork x (bankObject bs) [(fld bs 8 8, bankImageBytes bs)]) := by
  simp only [cmdClsBankLoad, hp, h, hr, Option.isSome_none, Bool.false_eq_true, if_false, if_neg hn]

/-- A load of a table, bank and count in range is refused for a live bank alone. -/
theorem State.bankLoadRefused_of_shape {s : State} {bs : List Byte} (ht : fld bs 0 1 ∈ [0, 2, 4, 5]) (hb : fld bs 1 1 ≤ 1)
    (hn : fld bs 4 4 ≤ if fld bs 0 1 = 0 then 4194368 else tableSize (fld bs 0 1)) (hz : fld bs 0 1 ≠ 0 → zeros bs 16 8 = true) :
    s.bankLoadRefused bs = if s.bankLive (fld bs 0 1) (fld bs 1 1) then some .notPermitted else none := by
  rw [State.bankLoadRefused]
  refine if_neg ?_
  rintro (h | h | h | ⟨hne, h⟩)
  · simp [ht] at h
  · omega
  · omega
  · simp [hz hne] at h

/-- Loading an image that has been read ends the command as `loadBank` says. -/
theorem clsBankLoad_completes {p : Packet} {s u : State} {st : Status} (h : s.bankLoadRefused p.params = none)
    (hl : s.loadBank p.params = .done st [] u) : cmdClsBankLoad.completes (cmdClsBankLoad.context p) s u st [] := by
  refine ⟨_, rfl, ?_⟩
  simp only [Command.context, Packet.scoped_params, h, hl, Bool.false_eq_true, if_false]

/-- The entries of an image, as a load finds them in host memory. -/
def State.imageEntries (s : State) (bs : List Byte) : List (Nat × List Byte) :=
  bankImage (fld bs 0 1) (fld bs 1 1) (fld bs 4 4) (s.hostRead none (fld bs 8 8) (bankImageBytes bs))

theorem State.loadBank_of_bad {s : State} {bs : List Byte} (h : imageOk (s.imageEntries bs) = false) :
    s.loadBank bs = .done .invalidParam [] s := by
  rw [State.imageEntries] at h
  simp only [State.loadBank, h, Bool.not_false, if_true, Out.of]

/-- A good image replaces the entries of its bank and of the table that goes with it. -/
theorem State.loadBank_of_good {s : State} {bs : List Byte} (h : imageOk (s.imageEntries bs) = true) :
    let t := fld bs 0 1
    let bank := fld bs 1 1
    let twin := if t = 0 then 1 else if t = 2 then 3 else t
    s.loadBank bs = .done .ok [] { s with cls := { s.cls with
      entries := (s.imageEntries bs).foldl (fun m e => Tbl.set entryZero m e.1 e.2)
        (s.cls.entries.filter fun e => decide (e.1 / 2 ^ 23 ≠ t * 2 + bank) && decide (e.1 / 2 ^ 23 ≠ twin * 2 + bank))
      seeds := if t = 0 then Tbl.put bank (fld bs 16 4, fld bs 20 4) s.cls.seeds else s.cls.seeds
      cache := if t = 0 then
          (s.cls.cache.map fun e => (e.1, e.2.filter fun w => decide (w.1 / 2 ^ 23 % 2 ≠ bank))).filter fun e => decide (e.2 ≠ [])
        else s.cls.cache } } := by
  rw [State.imageEntries] at h ⊢
  simp only [State.loadBank, h, Bool.not_true, Bool.false_eq_true, if_false, Out.of, ne_eq, decide_not, Bool.not_or]

/-! ## Storage, classification and memory commands that act -/

/-- Settles O31: each clause is the lemma about the command's body, or about the load that follows it. -/
theorem storageCommands : Obligations.StorageCommands := by
  unfold Obligations.StorageCommands
  intro p s bs
  have hp (c : Command) : (c.context p).pkt.params = bs := Packet.scoped_params p
  refine ⟨fun hs ho hk ha => ⟨fun st h => exec_done rfl hs (storageOpen_body_refused ho hk ha h),
      fun h => exec_held rfl hs (storageOpen_body_opens ho hk ha h)⟩,
    fun hs ho hk ha => exec_held rfl hs (storageOpen_body_waits ho hk ha), ?start,
    fun hs h => exec_done rfl hs (transcryptCancel_body_unknown (hp _) h),
    fun n b hs h hc => ⟨s.cancelBatch n b, exec_held rfl hs (transcryptCancel_body_known (hp _) h hc),
      fun o ho => (State.mem_cancelBatch_ops ho).2, fun o ho => (State.mem_cancelBatch_ops ho).1⟩,
    fun hs hok hm hd hk => exec_held rfl hs (memMarch_body_runs (hp _) hok hm hd hk),
    fun hs hok hm hd hg => exec_done rfl hs (memMarch_body_barred (hp _) hok hm hd hg),
    fun hs => ⟨fun st h => exec_done rfl hs (clsBankLoad_body_refused (hp _) h),
      fun h hr hn => exec_held rfl hs (clsBankLoad_body_reads (hp _) h hr hn)⟩, ?load⟩
  case start =>
    intro n x b kind hs hparams hdomains hrekey hrope hpath hhanded htarget hsource hfree
    have hb := transcryptStart_body (hp cmdTranscryptStart)
      (s := s) ⟨hparams, hdomains, hrekey, hrope, hpath, hhanded, htarget, hsource, hfree⟩
    exact ⟨fun hk => exec_held rfl hs (hb.trans (if_neg hk)), fun hk => exec_held rfl hs (hb.trans (if_pos hk))⟩
  case load =>
    intro t bank n es twin shapeOk x
    refine ⟨fun ⟨ht, hb, hn, hz⟩ hl => ?_, fun ⟨ht, hb, hn, hz⟩ hl => ?_,
      fun h hbad => clsBankLoad_completes h (State.loadBank_of_bad hbad), fun h hgood => clsBankLoad_completes h (State.loadBank_of_good hgood)⟩
    · rw [State.bankLoadRefused_of_shape ht hb hn hz, if_pos hl]
    · rw [State.bankLoadRefused_of_shape ht hb hn hz, if_neg (Bool.eq_false_iff.mp hl)]

end Sys2Proof.Machine

/-!
PROOFS. Sweeps, rebuilds, batches and replay: what `Obligations.StorageWork` is assembled from.
-/

namespace Sys2Proof.Machine

/-! ## Volumes read after a write -/

theorem Tbl.find?_put_self {α : Type} (k : Nat) (v : α) (m : Tbl α) :
    (Tbl.put k v m).find? (fun e => decide (e.1 = k)) = some (k, v) := by
  induction m with
  | nil => simp [Tbl.put]
  | cons e t ih =>
    simp only [Tbl.put]
    split
    · simp
    · split
      · simp
      · have hne : ¬ e.1 = k := by omega
        rw [List.find?_cons_of_neg (by simpa using hne), ih]

@[simp] theorem State.volume_setVolume (s : State) (n : Nat) (v : Volume) : (s.setVolume n v).volume n = some v := by
  simp only [State.volume, State.setVolume, Tbl.find?_put_self, Option.map_some]

/-- A test of a negated flag, the other way round. -/
theorem ite_bnot {α : Type} (b : Bool) (x y : α) : (if (!b) = true then x else y) = if b = true then y else x := by
  cases b <;> rfl

/-! ## Sweep cycles (R448 to R451, R455) -/

/-- A cycle is due: the volume is swept, none is under way, the path is open, and the interval since the last one has passed. -/
def State.cycleDue (s : State) (v : Volume) (b : List Byte) : Prop :=
  sweepOn b = true ∧ v.cycle = none ∧ 2 ≤ s.store.path ∧ ∀ t, v.lastCycle = some t → t + fld b 16 4 * 3600000000000 ≤ s.clock

/-- A cycle's list: the extents' identities in order of namespace and address. -/
def Volume.sweepList (v : Volume) : List (Nat × Nat × Nat) :=
  (v.extents.map fun x => (x.ns, x.lba, x.seq)).mergeSort fun a b => decide (a.1 < b.1) || (decide (a.1 = b.1) && decide (a.2.1 ≤ b.2.1))

theorem Volume.mem_sweepList {v : Volume} {id : Nat × Nat × Nat} : id ∈ v.sweepList ↔ ∃ x ∈ v.extents, id = (x.ns, x.lba, x.seq) := by
  rw [Volume.sweepList, List.mem_mergeSort, List.mem_map]
  simp only [eq_comm]

theorem sweepCycleStart_of_none {vol : Fin 256} {s : State} (h : (s.endCycle vol.val).volume vol.val = none) :
    exec (.sweepCycleStart vol) s = .next (s.endCycle vol.val) := by
  simp only [exec_sweepCycleStart, execSweepCycleStart, h]

section
variable {vol : Fin 256} {s : State} {v : Volume} (h : (s.endCycle vol.val).volume vol.val = some v)
include h

theorem sweepCycleStart_waits
    (hd : ¬ (s.endCycle vol.val).cycleDue v (((s.endCycle vol.val).adopted 17).block 0x0906 vol.val)) :
    exec (.sweepCycleStart vol) s = .next (s.endCycle vol.val) := by
  simp only [exec_sweepCycleStart, execSweepCycleStart, h]
  refine if_pos ?_
  refine Decidable.byContradiction fun hn => ?_
  simp only [not_or] at hn
  obtain ⟨hon, hc, ht, hp⟩ := hn
  refine hd ⟨by simpa using hon, by simpa using hc, by omega, fun t hl => ?_⟩
  simpa [hl] using ht

theorem sweepCycleStart_begins (hd : (s.endCycle vol.val).cycleDue v (((s.endCycle vol.val).adopted 17).block 0x0906 vol.val)) :
    exec (.sweepCycleStart vol) s =
      .next ((s.endCycle vol.val).setVolume vol.val { v with cycle := some ⟨(s.endCycle vol.val).clock, v.sweepList, false⟩ }) := by
  obtain ⟨hon, hc, hp, ht⟩ := hd
  simp only [exec_sweepCycleStart, execSweepCycleStart, h]
  refine if_neg ?_
  rintro (hn | hn | hn | hn)
  · simp [hon] at hn
  · simp [hc] at hn
  · cases hl : v.lastCycle with
    | none => simp [hl] at hn
    | some t => simp [hl, ht t hl] at hn
  · omega

end

theorem sweepExtent_of_none {vol : Fin 256} {s : State} (h : s.volume vol.val = none) : exec (.sweepExtent vol) s = .next s := by
  simp only [exec_sweepExtent, execSweepExtent, h]

section
variable {vol : Fin 256} {s : State} {v : Volume} (h : s.volume vol.val = some v)
include h

theorem sweepExtent_of_no_cycle (hc : v.cycle = none) : exec (.sweepExtent vol) s = .next s := by
  simp only [exec_sweepExtent, execSweepExtent, h, hc]

variable {c : Cycle} (hc : v.cycle = some c)
include hc

theorem sweepExtent_of_off (hon : sweepOn ((s.adopted 17).block 0x0906 vol.val) = false) :
    exec (.sweepExtent vol) s = .next (s.endCycle vol.val) := by
  simp only [exec_sweepExtent, execSweepExtent, h, hc, hon, Bool.not_false, if_true]

variable (hon : sweepOn ((s.adopted 17).block 0x0906 vol.val) = true)
include hon

/-- Degraded volumes, rebuilds and a closed path hold a cycle (R455). -/
theorem sweepExtent_waits (hw : v.lost ≠ [] ∨ v.rebuilding ≠ [] ∨ s.store.path < 2) : exec (.sweepExtent vol) s = .next s := by
  simp only [exec_sweepExtent, execSweepExtent, h, hc, hon, Bool.not_true, Bool.false_eq_true, if_false, if_pos hw]

variable (hgo : ¬ (v.lost ≠ [] ∨ v.rebuilding ≠ [] ∨ s.store.path < 2))
include hgo

theorem sweepExtent_of_done (hleft : c.left = []) : exec (.sweepExtent vol) s = .next (s.endCycle vol.val) := by
  simp only [exec_sweepExtent, execSweepExtent, h, hc, hon, Bool.not_true, Bool.false_eq_true, if_false, if_neg hgo, hleft]

variable {id : Nat × Nat × Nat} {rest : List (Nat × Nat × Nat)} (hleft : c.left = id :: rest)
include hleft

/-- An extent that has gone since the cycle began is passed over. -/
theorem sweepExtent_of_gone (hx : s.extentAt vol.val id.1 id.2.1 id.2.2 = none) :
    exec (.sweepExtent vol) s = .next (s.setVolume vol.val
      { v with cycle := some { c with left := rest, lagging := c.lagging || s.lags vol.val v c } }) := by
  simp only [exec_sweepExtent, execSweepExtent, h, hc, hon, Bool.not_true, Bool.false_eq_true, if_false, if_neg hgo, hleft, hx]

/-- An extent is visited once the cycle's share allows it. -/
theorem sweepExtent_of_extent {x : Extent} (hx : s.extentAt vol.val id.1 id.2.1 id.2.2 = some x) :
    exec (.sweepExtent vol) s =
      let lag := c.lagging || s.lags vol.val v c
      if s.sweepAllows vol.val v c x = true then
        .next (((s.spend v x.group (4096 * v.pieceBlocks x.blocks) 0).setVolume vol.val
          { v with cycle := some { c with left := rest, lagging := lag } }).sweepVisit vol.val id)
      else .next (s.setVolume vol.val { v with cycle := some { c with lagging := lag } }) := by
  simp only [exec_sweepExtent, execSweepExtent, h, hc, hon, Bool.not_true, Bool.false_eq_true, if_false, if_neg hgo, hleft, hx]
  exact ite_bnot _ _ _

end

/-! ## Rebuilds (R485) -/

/-- The volume without the rebuilt members that have all their pieces. -/
def Volume.rebuildLeft (v : Volume) : Volume := { v with rebuilding := v.rebuilding.filter fun p => v.unfinished p }

/-- The extent that a rebuild takes next: one with a piece on a drive that came, whole otherwise, that no operation moves. -/
def State.nextRebuild (s : State) (v : Volume) : Option Extent :=
  v.extents.find? fun x => decide (x.damaged = 0) &&
    v.rebuilding.any (fun p => decide (x.group = p / max 1 v.width) && bit x.missing (p % max 1 v.width)) &&
    !(s.store.ops.any fun o => decide (o.old = some x))

/-- The operation that rebuilds an extent. -/
def StoreOp.rebuild (vol : Nat) (x : Extent) : StoreOp :=
  { StoreOp.fresh .rebuild .internal 0xFFFF vol x.ns x.lba x.blocks x.domain with old := some x, todo := [x], all := true }

theorem rebuildExtent_of_none {vol : Fin 256} {s : State} (h : s.volume vol.val = none) : exec (.rebuildExtent vol) s = .next s := by
  simp only [exec_rebuildExtent, execRebuildExtent, h]

section
variable {vol : Fin 256} {s : State} {v : Volume} (h : s.volume vol.val = some v)
include h

theorem rebuildExtent_of_done (hn : (s.setVolume vol.val v.rebuildLeft).nextRebuild v.rebuildLeft = none) :
    exec (.rebuildExtent vol) s = .next (s.setVolume vol.val v.rebuildLeft) := by
  rw [exec_rebuildExtent, execRebuildExtent, h]
  dsimp only
  split
  · rfl
  · next hx => exact absurd (hx.symm.trans hn) nofun

/-- A rebuild takes its next extent when the volume's share allows it. -/
theorem rebuildExtent_of_some {x : Extent} (hn : (s.setVolume vol.val v.rebuildLeft).nextRebuild v.rebuildLeft = some x) :
    exec (.rebuildExtent vol) s =
      let w := v.rebuildLeft
      let u := s.setVolume vol.val w
      let bytes := 4096 * w.pieceBlocks x.blocks
      let y := (u.spend w x.group bytes 18).addOp (.rebuild vol.val x)
      if u.groupAllows w x.group bytes ⟨18, w.share, false, none⟩ = true then .next (y.2.readNext y.1) else .next u := by
  rw [exec_rebuildExtent, execRebuildExtent, h]
  dsimp only
  split
  · next hx => exact absurd (hx.symm.trans hn) nofun
  · next hx =>
    obtain rfl := Option.some.inj (hx.symm.trans hn)
    exact ite_bnot _ _ _

end

/-! ## Batches (R456 to R463) -/

theorem transcryptExtent_of_none {n : Fin 16} {data : Option (List Byte)} {s : State} (h : s.batch n.val = none) :
    exec (.transcryptExtent n data) s = .next s := by
  simp only [exec_transcryptExtent, execTranscryptExtent, h]

/-- A batch's next source may be taken: the batch goes on, and its share of the drives' bandwidth allows it. -/
def State.batchTakes (s : State) (n : Nat) (x : Batch) (r : Sel) : Bool :=
  s.batchMayTake n x && (s.batchPieces x r).all fun p => s.groupAllows p.1 p.2.1 p.2.2 (x.share n)

/-- The state in which a batch has taken its next source: its bytes are spent, and the source is no longer to do. -/
def State.batchTaken (s : State) (n : Nat) (x : Batch) (r : Sel) (rest : List Sel) : State :=
  ((s.batchPieces x r).foldl (fun s p => s.spend p.1 p.2.1 p.2.2 (n + 1)) s).setBatch n { x with left := rest }

/-- A batch `y` moves the source that it has taken: a local extent that has gone is superseded, another one moves, a remote one is pulled. -/
def State.batchMove (u : State) (n : Nat) (y : Batch) (data : Option (List Byte)) : Sel → State
  | .local' v ns lba seq => match u.extentAt v ns lba seq with
    | none => (u.setBatch n { y with superseded := y.superseded + 1 }).bump R.TRANSCRYPT_SUPERSEDED
    | some z => u.moveLocal n y z
  | .remote q => u.pullRemote n y q data

section
variable {u : State} {n v ns lba seq : Nat} {y : Batch} {data : Option (List Byte)}

theorem State.batchMove_gone (h : u.extentAt v ns lba seq = none) : u.batchMove n y data (.local' v ns lba seq) =
    (u.setBatch n { y with superseded := y.superseded + 1 }).bump R.TRANSCRYPT_SUPERSEDED := by
  simp only [State.batchMove, h]

theorem State.batchMove_local {z : Extent} (h : u.extentAt v ns lba seq = some z) :
    u.batchMove n y data (.local' v ns lba seq) = u.moveLocal n y z := by
  simp only [State.batchMove, h]

end

section
variable {n : Fin 16} {s : State} {x : Batch} (data : Option (List Byte)) (h : s.batch n.val = some x)
include h

theorem transcryptExtent_of_done (hl : x.left = []) : exec (.transcryptExtent n data) s = .next (s.batchEnd n.val) := by
  simp only [exec_transcryptExtent, execTranscryptExtent, h, hl]

variable {r : Sel} {rest : List Sel} (hl : x.left = r :: rest)
include hl

theorem transcryptExtent_waits (ht : s.batchTakes n.val x r = false) : exec (.transcryptExtent n data) s = .next s := by
  have hgo : (!s.batchMayTake n.val x) = true ∨
      (!((s.batchPieces x r).all fun p => s.groupAllows p.1 p.2.1 p.2.2 (x.share n.val))) = true := by
    simpa only [State.batchTakes, Bool.and_eq_false_iff, Bool.not_eq_true'] using ht
  simp only [exec_transcryptExtent, execTranscryptExtent, h, hl, if_pos hgo]

variable (ht : s.batchTakes n.val x r = true)
include ht

theorem transcryptExtent_takes :
    exec (.transcryptExtent n data) s =
      .next (((s.batchTaken n.val x r rest).batchMove n.val { x with left := rest } data r).batchEnd n.val) := by
  have hgo : ¬ ((!s.batchMayTake n.val x) = true ∨
      (!((s.batchPieces x r).all fun p => s.groupAllows p.1 p.2.1 p.2.2 (x.share n.val))) = true) := by
    simpa only [State.batchTakes, Bool.and_eq_true, not_or, Bool.not_eq_true', Bool.not_eq_false] using ht
  simp only [exec_transcryptExtent, execTranscryptExtent, h, hl, if_neg hgo]
  cases r <;> rfl

end

theorem batchCursorPersist_of_down {s : State} (h : s.journalUp = false) : exec .batchCursorPersist s = .next s := by
  simp only [exec_batchCursorPersist, execBatchCursorPersist, h, Bool.not_false, if_true]

theorem batchCursorPersist_of_up {s : State} (h : s.journalUp = true) :
    let bs := s.store.batches.filter fun b => !b.2.loading
    let u := bs.foldl (fun s b => s.journalOpaque (768 + b.1) 1) s
    exec .batchCursorPersist s = .next { u with store := { u.store with cursors := bs.map fun b => (b.1, u.cursorOf b.1 b.2) } } := by
  simp only [exec_batchCursorPersist, execBatchCursorPersist, h, Bool.not_true, Bool.false_eq_true, if_false]

/-! ## Background deallocation (R468, R489) -/

/-- The extent that goes next: a doomed one that no deallocation has in hand. -/
def State.nextDoomed (s : State) : Option Extent :=
  (s.store.volumes.flatMap fun v => v.2.extents).find? fun x => s.doomed x &&
    !(s.store.ops.any fun o => decide (o.kind = .dealloc) && decide (o.ext = some x))

/-- The operation that deallocates an extent. -/
def StoreOp.deallocate (x : Extent) : StoreOp :=
  { StoreOp.fresh .dealloc .internal 0xFFFF x.vol x.ns x.lba x.blocks x.domain with ext := some x, old := some x }

theorem backgroundDeallocate_waits {s : State} (h : s.settleDoomed.store.path < 2 ∨ s.settleDoomed.journalUp = false ∨
    s.settleDoomed.nextDoomed = none) : exec .backgroundDeallocate s = .next s.settleDoomed := by
  simp only [exec_backgroundDeallocate, execBackgroundDeallocate]
  split
  · rfl
  · next hgo =>
    simp only [not_or, Bool.not_eq_true'] at hgo
    have hn := (h.resolve_left hgo.1).resolve_left hgo.2
    simp only [State.nextDoomed] at hn
    simp only [hn]

/-- An extent goes once the volume's sweep share allows it. -/
theorem backgroundDeallocate_of_some {s : State} {x : Extent} {v : Volume} (hp : 2 ≤ s.settleDoomed.store.path)
    (hj : s.settleDoomed.journalUp = true) (hn : s.settleDoomed.nextDoomed = some x) (hv : s.settleDoomed.volume x.vol = some v) :
    exec .backgroundDeallocate s =
      let u := s.settleDoomed
      let bytes := 4096 * v.pieceBlocks x.blocks
      let y := (u.spend v x.group bytes 17).addOp (.deallocate x)
      if u.groupAllows v x.group bytes (u.sinkShare x.vol) = true then .next (y.2.openEntry y.1 5) else .next u := by
  have hgo : ¬ (s.settleDoomed.store.path < 2 ∨ (!s.settleDoomed.journalUp) = true) := by
    rw [hj]
    simp only [Bool.not_true, Bool.false_eq_true, or_false]
    omega
  simp only [State.nextDoomed] at hn
  simp only [exec_backgroundDeallocate, execBackgroundDeallocate, if_neg hgo, hn, hv, StoreOp.deallocate]
  exact ite_bnot _ _ _

/-! ## The start and replay (R490, R506, R512, R574) -/

/-- The start waits for the strongroom, for a replay that is to begin, and for work of before. -/
def State.startWaits (s : State) : Prop :=
  s.sr.ready = false ∨ s.store.replay.active = false ∨ s.store.replay.phase ≠ 0 ∨ s.store.rope.closed ≠ [] ∨ s.store.ops ≠ [] ∨
    s.store.queue ≠ []

theorem State.startWaits_iff (s : State) : s.startWaits ↔
    ((!s.sr.ready) = true ∨ (!s.store.replay.active) = true ∨ s.store.replay.phase ≠ 0 ∨ s.store.rope.closed ≠ [] ∨ s.store.ops ≠ [] ∨
      s.store.queue ≠ []) := by
  simp only [State.startWaits, Bool.not_eq_true']

theorem storageStartup_waits {s : State} (h : s.startWaits) : exec .storageStartup s = .next s := by
  simp only [exec_storageStartup, execStorageStartup, if_pos (s.startWaits_iff.mp h)]

section
variable {s : State} (h : ¬ s.startWaits)
include h

/-- Without a journal drive the start ends in phase 5. -/
theorem storageStartup_of_no_journal (hj : s.missingDrives.store.journal.length ≤ s.missingDrives.store.jLost.length) :
    let u := s.missingDrives
    exec .storageStartup s =
      .next (State.endStorageOpen { u with store := { u.store with replay := { u.store.replay with phase := 5, active := false } } }) := by
  simp only [exec_storageStartup, execStorageStartup, if_neg (mt s.startWaits_iff.mpr h), ge_iff_le, if_pos hj]

/-- With no entry to replay and no rope held, the start heals the journal's blocks and ends replay in phase 3. -/
theorem storageStartup_of_empty (hj : s.missingDrives.store.jLost.length < s.missingDrives.store.journal.length)
    (he : s.missingDrives.openVault.store.entries = []) (hr : s.missingDrives.openVault.store.rope.held = false) :
    let u := s.missingDrives.openVault
    let b := healBlocks u.store.journal u.store.blocks
    let w : State := { u with store := { u.store with blocks := b.1, entries := [] } }
    let y := (w.count R.REPLAY_JOURNAL_HEALED b.2).countReplay ⟨0, 0, 0, 0, 0, []⟩ w.store.rope.closed.length
    exec .storageStartup s =
      .next (State.endReplay { y with store := { y.store with replay := { y.store.replay with phase := 3, progress := 1000 } } }) := by
  simp only [exec_storageStartup, execStorageStartup, if_neg (mt s.startWaits_iff.mpr h), ge_iff_le, if_neg (Nat.not_le.mpr hj), he,
    List.filterMap_nil, List.foldl_nil, State.count_store, hr, Bool.false_eq_true, if_false]

end

theorem replayInPlace_of_none {s : State} (h : s.store.replay.work = []) : exec .replayInPlace s = .next s := if_pos h

theorem replayInPlace_progress {s : State} (h : s.store.replay.work ≠ []) :
    ∃ u, exec .replayInPlace s = .next u ∧ u.store.replay.progress = 1000 := ⟨_, if_neg h, rfl⟩

/-! ## Sweeps, rebuilds, batches and replay -/

/-- Settles O50: each clause is the lemma about the branch that its hypotheses select. -/
theorem storageWork : Obligations.StorageWork := by
  unfold Obligations.StorageWork
  intro s vol n data b e
  refine ⟨sweepCycleStart_of_none, fun v h => ⟨sweepCycleStart_waits h, fun hd => ⟨_, _, sweepCycleStart_begins h hd,
      State.volume_setVolume _ _ _, rfl, rfl, fun id => Volume.mem_sweepList⟩⟩,
    fun h => ⟨sweepExtent_of_none h, rebuildExtent_of_none h⟩,
    fun v h => ⟨sweepExtent_of_no_cycle h, fun c hc => ⟨sweepExtent_of_off h hc, sweepExtent_waits h hc, fun hon hl hr hp => ?sweep⟩,
      rebuildExtent_of_done h, fun x hn => ⟨fun ha => ?rebuildWaits, fun ha => ?rebuild⟩⟩,
    transcryptExtent_of_none,
    fun x h => ⟨transcryptExtent_of_done data h, fun r rest hl => ⟨fun hw => transcryptExtent_waits data h hl ?batchWaits,
      fun hm ha => ?batch⟩⟩,
    batchCursorPersist_of_down, batchCursorPersist_of_up,
    ⟨backgroundDeallocate_waits, fun x v hp hj hn hv => ⟨fun ha => ?goesWaits, fun ha => ?goes⟩⟩,
    ⟨storageStartup_waits, storageStartup_of_no_journal, storageStartup_of_empty⟩, replayInPlace_of_none, replayInPlace_progress⟩
  case rebuildWaits => exact (rebuildExtent_of_some h hn).trans (if_neg (Bool.eq_false_iff.mp ha))
  case rebuild => exact (rebuildExtent_of_some h hn).trans (if_pos ha)
  case goesWaits => exact (backgroundDeallocate_of_some hp hj hn hv).trans (if_neg (Bool.eq_false_iff.mp ha))
  case goes => exact (backgroundDeallocate_of_some hp hj hn hv).trans (if_pos ha)
  case sweep =>
    have hgo : ¬ (v.lost ≠ [] ∨ v.rebuilding ≠ [] ∨ s.store.path < 2) := by
      rintro (hc | hc | hc)
      · exact hc hl
      · exact hc hr
      · omega
    refine ⟨sweepExtent_of_done h hc hon hgo, fun id rest hleft => ⟨sweepExtent_of_gone h hc hon hgo hleft,
      fun x hx => ⟨fun ha => ?_, fun ha => ?_⟩⟩⟩
    · exact (sweepExtent_of_extent h hc hon hgo hleft hx).trans (if_neg (Bool.eq_false_iff.mp ha))
    · exact (sweepExtent_of_extent h hc hon hgo hleft hx).trans (if_pos ha)
  case batchWaits => exact Bool.and_eq_false_iff.mpr hw
  case batch =>
    have ht := transcryptExtent_takes data h hl (Bool.and_eq_true_iff.mpr ⟨hm, ha⟩)
    refine ⟨fun v ns lba seq hr => ⟨fun hx => ?_, fun z hx => ?_⟩, fun q hr => ?_⟩ <;> subst hr
    · have hu : (s.batchTaken n.val x (.local' v ns lba seq) rest).extentAt v ns lba seq = none := hx
      exact ht.trans (by rw [State.batchMove_gone hu]; rfl)
    · have hu : (s.batchTaken n.val x (.local' v ns lba seq) rest).extentAt v ns lba seq = some z := hx
      exact ht.trans (by rw [State.batchMove_local hu]; rfl)
    · exact ht

end Sys2Proof.Machine

/-!
PROOFS. The device's reads and its translations: what `Obligations.ReadCompletions` is assembled from.
-/

namespace Sys2Proof.Machine

/-! ## Completions of the device's reads (R54 to R57, R60, R61) -/

section
variable {s : State} {n : Nat} (status : Fin 4) (final : Bool)

theorem State.completionReceived_of_free (h : (s.traffic.tag n).state = .free) :
    s.completionReceived n status final = (s.traffic.bump R.HOSTLINK_UNEXP_CPL).reportAer .unexpectedCompletion := by
  simp only [State.completionReceived, h]

theorem State.completionReceived_of_late {t : Nat} (h : (s.traffic.tag n).state = .quarantinedTimeout t) :
    s.completionReceived n status final = (s.traffic.bump R.HOSTLINK_LATE_CPL).reportAer .unexpectedCompletion := by
  simp only [State.completionReceived, h]

theorem State.completionReceived_of_abandoned {t : Nat} (h : (s.traffic.tag n).state = .quarantinedAbandoned t) :
    s.completionReceived n status final = if final then ((s.traffic.bump R.HOSTLINK_ABANDONED_CPL).freeTagNow n).pump
      else s.traffic.bump R.HOSTLINK_ABANDONED_CPL := by
  simp only [State.completionReceived, h]

variable (h : (s.traffic.tag n).state = .busy)
include h

theorem State.completionReceived_of_error (he : status.val ≠ 0) :
    s.completionReceived n status final = (s.traffic.readError n (decide (status.val = 3))).pump := by
  simp only [State.completionReceived, h, if_pos he]

/-- With Bus Master Enable clear the data is discarded and the read halts. -/
theorem State.completionReceived_of_bme_clear (he : status.val = 0) (hb : s.traffic.link.bme = false) :
    s.completionReceived n status final =
      let u := (s.traffic.bump R.HOSTLINK_BME_DISCARD).haltRead n
      if final then u.freeTagNow n else u := by
  simp only [State.completionReceived, h, he, hb, ne_eq, not_true_eq_false, if_false, Bool.not_false, if_true]

theorem State.completionReceived_of_bme_set (he : status.val = 0) (hb : s.traffic.link.bme = true) :
    s.completionReceived n status final =
      if final then ((s.traffic.freeTagNow n).readArrived (s.traffic.tag n)).pump else s.traffic := by
  simp only [State.completionReceived, h, he, hb, ne_eq, not_true_eq_false, if_false, Bool.not_true, Bool.false_eq_true]

end

/-! ## Error reports (R60) -/

/-- A state without its words of configuration space. -/
def State.sansCfg (s : State) : State := { s with link := { s.link with cfg := [] } }

@[simp] theorem State.sansCfg_setCfg (s : State) (o v : Nat) : (s.setCfg o v).sansCfg = s.sansCfg := rfl
@[simp] theorem State.sansCfg_orCfg (s : State) (o m : Nat) : (s.orCfg o m).sansCfg = s.sansCfg := rfl

theorem State.sansCfg_foldl_setCfg (o : Nat → Nat) (v : State → Nat → Nat) (ks : List Nat) (s : State) :
    (ks.foldl (fun s k => s.setCfg (o k) (v s k)) s).sansCfg = s.sansCfg := by
  induction ks generalizing s with
  | nil => rfl
  | cons k ks ih => rw [List.foldl_cons, ih, State.sansCfg_setCfg]

/-- Noting an error changes words of configuration space alone. -/
@[simp] theorem State.sansCfg_noteAer (s : State) (e : AerError) : (s.noteAer e).sansCfg = s.sansCfg := by
  cases hc : e.correctable <;> cases hu : e.uncorrectable <;>
    simp [State.noteAer, hc, hu, apply_ite State.sansCfg, State.sansCfg_foldl_setCfg]

theorem State.noteAer_bme (s : State) (e : AerError) : (s.noteAer e).link.bme = s.link.bme :=
  congrArg (·.link.bme) (s.sansCfg_noteAer e)

theorem State.reportAer_bme (s : State) (e : AerError) : (s.reportAer e).link.bme = s.link.bme := by
  simp only [State.reportAer]
  split <;> exact s.noteAer_bme e

/-! ## Timeouts of reads and quarantine (R54 to R56) -/

theorem State.completionTimeout_early {s : State} {n : Nat} (h : 10 * s.clock < 10 * (s.tag n).issued + 9 * (s.tag n).cto) :
    s.completionTimeout n = s := if_pos (.inr h)

/-- The state in which a read's timeout has been counted and reported, and its tag is in quarantine. -/
def State.readTimedOut (s : State) (n : Nat) : State :=
  ((s.quarantineTag n (.quarantinedTimeout (s.clock + 2 * (s.tag n).cto))).bump R.HOSTLINK_CPL_TIMEOUT).reportAer
    (if (s.tag n).room.isSome then .completionTimeoutAdvisory else .completionTimeoutNonFatal)

theorem State.readTimedOut_bme (s : State) (n : Nat) : (s.readTimedOut n).link.bme = s.link.bme := State.reportAer_bme ..

section
variable {s : State} {n : Nat} (h : (s.tag n).state = .busy) (hc : 10 * (s.tag n).issued + 9 * (s.tag n).cto ≤ 10 * s.clock)
include h hc

theorem State.completionTimeout_due : s.completionTimeout n =
    if s.link.bme = true then match (s.readTimedOut n).workOf (s.tag n).ref (s.tag n).work with
      | none => s.readTimedOut n
      | some e => ((s.readTimedOut n).failRead (s.tag n).ref e .dmaTimeout).pump
    else (s.readTimedOut n).haltRead n := by
  have hdue : ¬ ((s.tag n).state ≠ .busy ∨ 10 * s.clock < 10 * (s.tag n).issued + 9 * (s.tag n).cto) := by
    simp only [h, ne_eq, not_true_eq_false, false_or]
    omega
  rw [← State.readTimedOut_bme s n, ← ite_bnot]
  exact if_neg hdue

theorem State.completionTimeout_halts (hb : s.link.bme = false) : s.completionTimeout n = (s.readTimedOut n).haltRead n := by
  rw [State.completionTimeout_due h hc, hb]
  rfl

variable (hb : s.link.bme = true)
include hb

theorem State.completionTimeout_of_no_work (hw : (s.readTimedOut n).workOf (s.tag n).ref (s.tag n).work = none) :
    s.completionTimeout n = s.readTimedOut n := by
  simp only [State.completionTimeout_due h hc, hb, if_true, hw]

theorem State.completionTimeout_fails {e : Entry} (hw : (s.readTimedOut n).workOf (s.tag n).ref (s.tag n).work = some e) :
    s.completionTimeout n = ((s.readTimedOut n).failRead (s.tag n).ref e .dmaTimeout).pump := by
  simp only [State.completionTimeout_due h hc, hb, if_true, hw]

end

section
variable {s : State} {n t : Nat} (h : (s.tag n).state = .quarantinedTimeout t ∨ (s.tag n).state = .quarantinedAbandoned t)
include h

theorem quarantineEnd_due (ht : t ≤ s.clock) : exec (.quarantineEnd n) s = .next (s.freeTagNow n).pump := by
  rcases h with h | h <;> simp only [exec_quarantineEnd, execQuarantineEnd, h, if_pos ht]

theorem quarantineEnd_early (ht : s.clock < t) : exec (.quarantineEnd n) s = .next s := by
  rcases h with h | h <;> simp only [exec_quarantineEnd, execQuarantineEnd, h, if_neg (Nat.not_le.mpr ht)]

end

theorem State.tag_freeTagNow (s : State) (n : Nat) : (s.freeTagNow n).tag n = Tag.free := State.tag_setTag s n Tag.free

/-! ## Translations and their invalidation (R66, R67, R111) -/

/-- The state in which a translation is asked for no longer. -/
def State.translationAnswered (s : State) (room page : Nat) : State :=
  { s with link := { s.link with atsAsked := s.link.atsAsked.filter fun a => decide (a ≠ (room, page)) } }

section
variable {s : State} {room page : Nat}

theorem atsTranslationCompletion_unasked (a : Option Nat) (h : (room, page) ∉ s.link.atsAsked) :
    exec (.atsTranslationCompletion room page a) s = .next s :=
  if_pos (by simpa using h)

variable (h : (room, page) ∈ s.link.atsAsked)
include h

theorem atsTranslationCompletion_granted (a : Nat) :
    let u := s.translationAnswered room page
    let w : State := { u with link := { u.link with ats := ((⟨room, page, a⟩ : AtsEntry) :: u.link.ats).take 8192 } }
    exec (.atsTranslationCompletion room page (some a)) s =
      .next ((w.waitPage room page).foldl (fun s x => s.pageCame x.1 x.2 page) (w.sendHeld w.link.heldWrites.length)).pump :=
  if_neg (by simpa using h)

theorem atsTranslationCompletion_denied :
    let u := s.translationAnswered room page
    let w : State := if u.frameWaits room then { u with link := { u.link with atsDenied := u.link.atsDenied ++ [(room, page)] } } else u
    exec (.atsTranslationCompletion room page none) s =
      .next ((w.waitPage room page).foldl (fun s x => s.failRead x.1 x.2 .dmaAborted) (w.denyWrites room page)).pump :=
  if_neg (by simpa using h)

end

theorem atsMatches_iff {room page pages : Nat} {global : Bool} {e : AtsEntry} : atsMatches room page pages global e = true ↔
    (global = true ∨ e.room = room) ∧ page ≤ e.page ∧ e.page < page + 4096 * pages := by
  simp [atsMatches]

theorem atsInvalidationRequest_spec (s : State) (room page pages itag : Nat) (global : Bool) :
    ∃ t, exec (.atsInvalidationRequest room page pages itag global) s = .next t ∧
      (∀ e, e ∈ t.link.ats ↔
        e ∈ s.link.ats ∧ ¬ ((global = true ∨ e.room = room) ∧ page ≤ e.page ∧ e.page < page + 4096 * pages)) ∧
      t.rings = s.rings ∧ t.rooms = s.rooms ∧ t.hostMem = s.hostMem := by
  refine ⟨_, rfl, fun e => ?_, rfl, rfl, rfl⟩
  simp only [List.mem_filter, Bool.not_eq_true', ← Bool.not_eq_true, atsMatches_iff]

section
variable {s : State} {itag : Nat} {i : Invalidation} (h : s.link.invalidations.find? (fun i => decide (i.itag = itag)) = some i)
include h

theorem invalidationCompletion_sent (hi : i.tags = [] ∨ i.since + 10000 + s.cto ≤ s.clock) :
    exec (.invalidationCompletion itag) s =
      .next (State.emit { s with link := { s.link with invalidations := s.link.invalidations.erase i } } (.invalidationDone itag)) := by
  simp only [exec_invalidationCompletion, execInvalidationCompletion, h, if_pos hi]

theorem invalidationCompletion_waits (ht : i.tags ≠ []) (hc : s.clock < i.since + 10000 + s.cto) :
    exec (.invalidationCompletion itag) s = .next s := by
  simp only [exec_invalidationCompletion, execInvalidationCompletion, h, ht, Nat.not_le.mpr hc, or_self, if_false]

end

/-! ## Completions, timeouts and translations -/

/-- Settles O33: each clause is the lemma about the branch that its hypotheses select. -/
theorem readCompletions : Obligations.ReadCompletions := by
  unfold Obligations.ReadCompletions
  constructor
  · intro s n status final
    have arrives {t : State} (h : s.completionReceived n status final = t) :
        exec (.completionReceived n status final) s = .next t.serveAll := by rw [exec_completionReceived, execCompletionReceived, h]
    have times {t : State} (h : s.completionTimeout n = t) : exec (.completionTimeout n) s = .next t.serveAll := by
      rw [exec_completionTimeout, execCompletionTimeout, h]
    exact ⟨fun h => arrives (State.completionReceived_of_free _ _ h), fun t h => arrives (State.completionReceived_of_late _ _ h),
      fun t h => arrives (State.completionReceived_of_abandoned _ _ h),
      fun h he => arrives (State.completionReceived_of_error _ _ h he),
      fun h he hb => arrives (State.completionReceived_of_bme_clear _ _ h he hb),
      fun h he hb => arrives (State.completionReceived_of_bme_set _ _ h he hb),
      fun h hc => ⟨fun hb => times (State.completionTimeout_halts (s := s) h hc hb),
        fun hb hw => times (State.completionTimeout_of_no_work (s := s) h hc hb hw),
        fun e hb hw => times (State.completionTimeout_fails (s := s) h hc hb hw)⟩,
      fun hc => times (State.completionTimeout_early (s := s) hc),
      fun t h => ⟨fun ht => ⟨quarantineEnd_due h ht, State.tag_freeTagNow s n⟩, quarantineEnd_early h⟩⟩
  · intro s room page pages itag global
    exact ⟨fun h a => atsTranslationCompletion_unasked a h,
      fun h => ⟨atsTranslationCompletion_granted h, atsTranslationCompletion_denied h⟩,
      atsInvalidationRequest_spec s room page pages itag global,
      fun i h => ⟨invalidationCompletion_sent h, invalidationCompletion_waits h⟩⟩

end Sys2Proof.Machine

/-!
PROOFS. Errors, width and power of the link: what `Obligations.LinkEvents` is assembled from.
-/

namespace Sys2Proof.Machine

/-! ## Error reports leave everything but the registers that show them (R60) -/

theorem State.reportAer_frame (s : State) (e : AerError) :
    (s.reportAer e).out = (if s.aerMasked e then s.out else s.out ++ [.aer e]) ∧ (s.reportAer e).rings = s.rings ∧
      (s.reportAer e).rooms = s.rooms ∧ (s.reportAer e).regs = s.regs ∧ (s.reportAer e).link.tags = s.link.tags := by
  have h := s.sansCfg_noteAer e
  have hout := congrArg State.out h
  have hkept := And.intro (congrArg State.rings h) <| And.intro (congrArg State.rooms h) <|
    And.intro (congrArg State.regs h) (congrArg (fun t => t.link.tags) h)
  simp only [State.reportAer]
  split
  · exact ⟨hout, hkept⟩
  · exact ⟨congrArg (fun o => o ++ [OutMsg.aer e]) hout, hkept⟩

theorem State.reportAer_replayNum (s : State) (e : AerError) : (s.reportAer e).link.replayNum = s.link.replayNum := by
  have h := congrArg (fun t => t.link.replayNum) (s.sansCfg_noteAer e)
  simp only [State.reportAer]
  split <;> exact h

/-! ## Errors on the link (R60, R64) -/

/-- Physical and data link errors, by the kind that the command names. -/
theorem linkErrors_spec (s : State) (k : Fin 3) :
    let aer (i : Instr) (e : AerError) : Prop := exec i s = .next (s.reportAer e)
    (k.val = 0 → aer (.receiverError k) .receiverError ∧ aer (.malformedTlp k) .malformedTlp) ∧
    (k.val = 1 → aer (.receiverError k) .badTlp ∧ aer (.malformedTlp k) .flowControlProtocol) ∧
    (k.val = 2 → aer (.receiverError k) .badDllp ∧ aer (.malformedTlp k) .dataLinkProtocol) := by
  refine ⟨fun h => ?_, fun h => ?_, fun h => ?_⟩ <;> obtain rfl := Fin.ext (b := ⟨_, by decide⟩) h <;> exact ⟨rfl, rfl⟩

/-- The fourth replay timeout in a row rolls the replay number over. -/
theorem replayTimerTimeout_spec (s : State) :
    ∃ t, exec .replayTimerTimeout s = .next t ∧ t.link.replayNum = (if 3 ≤ s.link.replayNum then 0 else s.link.replayNum + 1) := by
  have hn := s.reportAer_replayNum .replayTimerTimeout
  simp only [exec_replayTimerTimeout, execReplayTimerTimeout, hn]
  by_cases h : 3 ≤ s.link.replayNum
  · rw [if_pos (by omega), if_pos h]
    exact ⟨_, rfl, State.reportAer_replayNum _ _⟩
  · rw [if_neg (by omega), if_neg h]
    exact ⟨_, rfl, rfl⟩

theorem unsupportedRequest_reported {s : State} (h : s.flrDone = true) :
    exec .unsupportedRequest s = .next ((s.reportAer .unsupportedRequest).emit .unsupported) := by
  simp only [exec_unsupportedRequest, execUnsupportedRequest, State.barRefuse, h, if_true]

theorem unsupportedRequest_during_flr {s : State} (h : s.flrDone = false) : exec .unsupportedRequest s = .next (s.emit .unsupported) := by
  simp only [exec_unsupportedRequest, execUnsupportedRequest, State.barRefuse, h, Bool.false_eq_true, if_false]

/-! ## Width of the link (R45) and ASPM L1 (R46) -/

section
variable {s : State}

theorem l0pNarrow_halves (hf : s.link.flit = true) (he : s.link.l0pEnable = true) (hl : 2 ≤ s.link.lanes)
    (hp : s.powerPolicy 3 0x0B 1 4 ≤ s.link.lanes / 2) :
    exec .l0pNarrow s = .next { s with link := { s.link with lanes := s.link.lanes / 2 } } :=
  if_pos (by simp only [Bool.and_eq_true, decide_eq_true_eq]; exact ⟨⟨⟨hf, he⟩, hp⟩, by omega⟩)

theorem l0pNarrow_at_minimum (h : s.link.lanes / 2 < s.powerPolicy 3 0x0B 1 4) : exec .l0pNarrow s = .next s :=
  if_neg (by simp only [Bool.and_eq_true, decide_eq_true_eq]; omega)

theorem l0pWiden_doubles (hf : s.link.flit = true) (he : s.link.l0pEnable = true) (hl : s.link.lanes < s.link.trainedLanes) :
    exec .l0pWiden s = .next { s with link := { s.link with lanes := min (2 * s.link.lanes) s.link.trainedLanes } } :=
  if_pos (by simp only [hf, he, hl, decide_true, Bool.and_true])

theorem l0pWiden_at_trained (h : s.link.trainedLanes ≤ s.link.lanes) : exec .l0pWiden s = .next s :=
  if_neg (by simp only [Bool.and_eq_true, decide_eq_true_eq]; omega)

theorem aspmL1Entry_enters (he : s.link.aspmL1Enable = true) (hd : s.link.dlUp = true) (ht : s.link.lastTlp + 10000 ≤ s.clock) :
    exec .aspmL1Entry s = .next { s with link := { s.link with inL1 := true } } :=
  if_pos (by simp only [he, hd, ht, decide_true, Bool.and_true])

theorem aspmL1Entry_early (h : s.clock < s.link.lastTlp + 10000) : exec .aspmL1Entry s = .next s :=
  if_neg (by simp only [Bool.and_eq_true, decide_eq_true_eq]; omega)

end

/-! ## Link training (R44, R47) -/

section
variable {s : State} {rate : Fin 8} {lanes : Fin 17} (flit : Bool)

theorem dataLinkUp_untrained (h : linkTrains rate.val lanes.val = false) : exec (.dataLinkUp rate lanes flit) s = .next s := by
  simp only [exec_dataLinkUp, execDataLinkUp, h, Bool.not_false, if_true]

/-- The link once it has trained, before PM_PME and WAKE# (R47) are looked at. -/
def State.trained (s : State) (rate lanes : Nat) (flit : Bool) : State :=
  { s with link := { s.link with
    dlUp := true, rate := rate, lanes := lanes, trainedLanes := lanes, flit := flit || decide (6 ≤ rate), inL1 := false
    lastTlp := s.clock, dstate := if s.link.dstate = .d3cold then .d0 else s.link.dstate } }

theorem dataLinkUp_trained (h : linkTrains rate.val lanes.val = true) :
    exec (.dataLinkUp rate lanes flit) s = .next (
      let u := s.trained rate.val lanes.val flit
      if s.link.wakeAsserted then
        (State.emit { u with link := { u.link with wakeAsserted := false, pmeStatus := true } } (.wake false)).emit .pmPme
      else u) := by
  simp only [exec_dataLinkUp, execDataLinkUp, h, Bool.not_true, Bool.false_eq_true, if_false]
  split <;> rfl

end

theorem linkTrains_eq_false {rate lanes : Nat} (h : rate = 0 ∨ lanes ∉ [1, 2, 4, 8, 16]) : linkTrains rate lanes = false := by
  rcases h with h | h
  · simp [linkTrains, h]
  · simp only [linkTrains, Bool.and_eq_false_iff, List.contains_eq_mem, decide_eq_false h, or_true]

/-! ## Errors, width and power of the link -/

/-- Settles O35: each clause is the lemma about the branch that its hypotheses select. -/
theorem linkEvents : Obligations.LinkEvents := by
  unfold Obligations.LinkEvents
  intro s k rate lanes flit
  obtain ⟨hzero, hone, htwo⟩ := linkErrors_spec s k
  refine ⟨s.reportAer_frame, hzero, hone, htwo, replayTimerTimeout_spec s,
    unsupportedRequest_reported, unsupportedRequest_during_flr, l0pNarrow_halves, l0pNarrow_at_minimum, l0pWiden_doubles,
    l0pWiden_at_trained, aspmL1Entry_enters, aspmL1Entry_early, fun h => ⟨_, dataLinkUp_trained flit h, ?_⟩,
    fun h => dataLinkUp_untrained flit (linkTrains_eq_false h)⟩
  have hflit : 6 ≤ rate.val → (s.trained rate.val lanes.val flit).link.flit = true := fun h6 => by simp [State.trained, h6]
  cases hw : s.link.wakeAsserted
  · exact ⟨rfl, rfl, rfl, rfl, hflit, rfl, hw, rfl, rfl, nofun, fun _ => ⟨rfl, rfl⟩⟩
  · exact ⟨rfl, rfl, rfl, rfl, hflit, rfl, rfl, rfl, rfl, fun _ => ⟨rfl, by simp [State.emit, State.trained]⟩, nofun⟩

end Sys2Proof.Machine

/-!
PROOFS. DOE, SPDM, IDE and TDISP: what `Obligations.SecurityEvents` is assembled from.
-/

namespace Sys2Proof.Machine

/-! ## TDISP messages and IDE key management need a secured session (R68, R70, R126, R127) -/

theorem State.secured_eq_false {s : State} (h : s.link.spdmSessions = []) : s.secured = false := decide_eq_false fun hne => hne h

theorem State.secured_eq_true {s : State} (h : s.link.spdmSessions ≠ []) : s.secured = true := decide_eq_true h

section
variable {s : State} {room : Fin 1024} {n : Fin 17} {op : Fin 3} {key : List Byte}

/-- Outside a secured session these are no messages. -/
theorem exec_of_unsecured (h : s.link.spdmSessions = []) {i : Instr} (hi : i ∈ [Instr.lockInterfaceRequest room n,
    .startInterfaceRequest room, .stopInterfaceRequest room, .ideKmMessage n op key]) : exec i s = .next s := by
  have hs : (!s.secured) = true := by rw [State.secured_eq_false h, Bool.not_false]
  simp only [List.mem_cons, List.not_mem_nil, or_false] at hi
  rcases hi with rfl | rfl | rfl | rfl <;> exact if_pos hs

variable (h : s.link.spdmSessions ≠ [])
include h

theorem not_unsecured : ¬ (!s.secured) = true := by rw [State.secured_eq_true h]; decide

theorem lockInterfaceRequest_locks (hx : (s.room room.val).state = .furnished ∨ (s.room room.val).state = .opened)
    (ht : (s.room room.val).tdi = .unlocked) : exec (.lockInterfaceRequest room n) s =
      .next ((s.setRoom room.val { s.room room.val with tdi := .locked, stream := n.val }).tdispAnswer true) :=
  (if_neg (not_unsecured h)).trans (if_pos ⟨hx, ht⟩)

theorem lockInterfaceRequest_refused (hx : ((s.room room.val).state ≠ .furnished ∧ (s.room room.val).state ≠ .opened) ∨
    (s.room room.val).tdi ≠ .unlocked) : exec (.lockInterfaceRequest room n) s = .next (s.tdispAnswer false) :=
  (if_neg (not_unsecured h)).trans (if_neg fun ⟨ho, hu⟩ => hx.elim (fun ⟨hf, hp⟩ => ho.elim hf hp) (· hu))

theorem startInterfaceRequest_starts (ht : (s.room room.val).tdi = .locked)
    (hx : (s.room room.val).state = .opened ∨ (s.room room.val).state = .frozen) : exec (.startInterfaceRequest room) s =
      .next ((s.setRoom room.val { s.room room.val with tdi := .run }).tdispAnswer true).serveAll :=
  (if_neg (not_unsecured h)).trans (if_pos ⟨ht, hx⟩)

theorem startInterfaceRequest_refused (hx : (s.room room.val).tdi ≠ .locked ∨
    ((s.room room.val).state ≠ .opened ∧ (s.room room.val).state ≠ .frozen)) :
    exec (.startInterfaceRequest room) s = .next (s.tdispAnswer false) :=
  (if_neg (not_unsecured h)).trans (if_neg fun ⟨hl, ho⟩ => hx.elim (· hl) fun ⟨hp, hf⟩ => ho.elim hp hf)

theorem stopInterfaceRequest_resets (hr : resetAccepts (s.room room.val).state = true) (hd : s.sr.debugLevel = 0) :
    exec (.stopInterfaceRequest room) s = .next ((s.beginReset room.val).tdispAnswer true) :=
  (if_neg (not_unsecured h)).trans (if_pos ⟨hr, hd⟩)

theorem stopInterfaceRequest_refused (hx : s.sr.debugLevel ≠ 0 ∨ resetAccepts (s.room room.val).state = false) :
    exec (.stopInterfaceRequest room) s = .next (s.tdispAnswer false) :=
  (if_neg (not_unsecured h)).trans (if_neg fun ⟨hr, hd⟩ => hx.elim (· hd) fun hf => Bool.false_ne_true (hf.symm.trans hr))

/-- A key that comes keeps a Secure stream in its state. -/
theorem ideKmMessage_key : exec (.ideKmMessage n 0 key) s = .next (s.setIde n.val { s.ideStream n.val with
    key := key, state := if (s.ideStream n.val).state = .secure then .secure else .keyed }) :=
  if_neg (not_unsecured h)

theorem ideKmMessage_start : exec (.ideKmMessage n 1 key) s =
    .next (if (s.ideStream n.val).state = .keyed then s.setIde n.val { s.ideStream n.val with state := .secure } else s) :=
  if_neg (not_unsecured h)

/-- A stream that is stopped leaves the Secure state. -/
theorem ideKmMessage_stop : exec (.ideKmMessage n 2 key) s = exec (.ideStreamInsecure n) s :=
  if_neg (not_unsecured h)

end

/-! ## Streams that leave the Secure state (R70) -/

theorem State.leaveSecure_of_secure {s : State} {n : Nat} (x : IdeStream) (h : (s.ideStream n).state = .secure) (hn : n ≠ 0) :
    s.leaveSecure n x = ((s.setIde n x).roomsOnStream n).foldl (fun s r => s.roomError r 4) (s.setIde n x) := if_pos ⟨h, hn⟩

theorem State.leaveSecure_of_other {s : State} {n : Nat} (x : IdeStream) (h : (s.ideStream n).state ≠ .secure ∨ n = 0) :
    s.leaveSecure n x = s.setIde n x := if_neg fun ⟨hs, hn⟩ => h.elim (· hs) hn

/-! ## The DOE mailbox (R68) -/

section
variable {s : State} {bytes : List Byte}

theorem doe_retried (h : s.configOpen = false) :
    exec .doeAbort s = .next (s.emit .retry) ∧ exec (.doeObjectWrite bytes) s = .next (s.emit .retry) := by
  simp only [exec_doeAbort, execDoeAbort, exec_doeObjectWrite, execDoeObjectWrite, State.config, h, Bool.false_eq_true, if_false, and_self]

variable (h : s.configOpen = true)
include h

theorem doeAbort_clears : exec .doeAbort s = .next { s with link := { s.link with doe := [], doeIn := [] } } := by
  simp only [exec_doeAbort, execDoeAbort, State.config, h, if_true]

theorem doeObjectWrite_ignored (hb : bytes.length < 8 ∨ 65536 < bytes.length ∨ fld bytes 0 2 ≠ 1 ∨ 2 < fld bytes 2 1) :
    exec (.doeObjectWrite bytes) s = .next s := by
  simp only [exec_doeObjectWrite, execDoeObjectWrite, State.config, h, if_true, if_pos hb]

theorem doeObjectWrite_answered (h8 : 8 ≤ bytes.length) (hm : bytes.length ≤ 65536) (hv : fld bytes 0 2 = 1) (hp : fld bytes 2 1 ≤ 2) :
    exec (.doeObjectWrite bytes) s = .next (s.doeAnswer bytes) := by
  have hb : ¬ (bytes.length < 8 ∨ 65536 < bytes.length ∨ fld bytes 0 2 ≠ 1 ∨ 2 < fld bytes 2 1) := by omega
  simp only [exec_doeObjectWrite, execDoeObjectWrite, State.config, h, if_true, if_neg hb]

end

/-- An object stands in the mailbox, to be read. -/
def State.doePut (s : State) (object : List Byte) : State := State.emit { s with link := { s.link with doe := object } } (.message 0 object)

section
variable {s : State} {bytes : List Byte}

theorem State.doeAnswer_discovery (h : fld bytes 2 1 = 0) :
    s.doeAnswer bytes = s.doePut (doeObject bytes (doeDiscovery (fld bytes 8 1))) := by
  simp only [State.doeAnswer, h, State.doePut]

theorem State.doeAnswer_spdm (h : fld bytes 2 1 = 1) :
    s.doeAnswer bytes = let a := s.spdmAnswer (bytes.drop 8) none; a.2.doePut (doeObject bytes a.1) := by
  simp only [State.doeAnswer, h, State.doePut]

variable (h : fld bytes 2 1 = 2)
include h

theorem State.doeAnswer_secured (ho : fld bytes 8 2 ∈ s.link.spdmSessions ∨ fld bytes 8 2 ∈ s.link.spdmOpening) :
    s.doeAnswer bytes = let a := s.spdmAnswer (bytes.drop 12) (some (fld bytes 8 2))
      a.2.doePut (doeObject bytes (leBytes (fld bytes 8 2) 2 ++ pad 2 ++ a.1)) := by
  simp only [State.doeAnswer, h, securedMessage, List.contains_eq_mem, decide_eq_true_eq, if_pos ho, State.doePut]

theorem State.doeAnswer_unknown_session (h1 : fld bytes 8 2 ∉ s.link.spdmSessions) (h2 : fld bytes 8 2 ∉ s.link.spdmOpening) :
    s.doeAnswer bytes = s := by
  simp only [State.doeAnswer, h, securedMessage, List.contains_eq_mem, decide_eq_true_eq, if_neg (not_or.mpr ⟨h1, h2⟩)]

end

/-! ## The object that answers -/

@[simp] theorem length_leBytes (v n : Nat) : (leBytes v n).length = n := by
  induction n generalizing v with
  | zero => rfl
  | succ n ih => rw [leBytes, List.length_cons, ih]

theorem leNat_leBytes (v n : Nat) : leNat (leBytes v n) = v % 256 ^ n := by
  induction n generalizing v with
  | zero => rw [Nat.pow_zero, Nat.mod_one]; rfl
  | succ n ih =>
    rw [leBytes, leNat, ih, BitVec.toNat_ofNat, Nat.pow_succ' (m := 256)]
    exact Nat.mod_mul.symm

@[simp] theorem length_fit (bs : List Byte) (n : Nat) : (fit bs n).length = n := by
  simp only [fit, pad, List.length_take, List.length_append, List.length_replicate]
  omega

/-- The object that answers has the header of the one it answers, and its own length in DW. -/
theorem doeObject_spec {bytes : List Byte} (h : 4 ≤ bytes.length) (a : List Byte) :
    (doeObject bytes a).take 4 = bytes.take 4 ∧ (doeObject bytes a).length = 8 + (a.length + 3) / 4 * 4 ∧
      fld (doeObject bytes a) 4 4 = (2 + (a.length + 3) / 4) % 2 ^ 32 := by
  have hl : (bytes.take 4).length = 4 := List.length_take_of_le h
  refine ⟨?_, ?_, ?_⟩
  · rw [doeObject, List.append_assoc, List.take_left' hl]
  · simp only [doeObject, List.length_append, hl, length_leBytes, length_fit]
  · rw [doeObject, fld, List.append_assoc, List.drop_left' hl, List.take_left' (length_leBytes _ _), leNat_leBytes,
      show 256 ^ 4 = 2 ^ 32 by decide]

/-! ## DOE, SPDM, IDE and TDISP -/

/-- Settles O36: each clause is the lemma about the branch that its hypotheses select. -/
theorem securityEvents : Obligations.SecurityEvents := by
  unfold Obligations.SecurityEvents
  intro s room n op key bytes
  refine ⟨fun h i hi => exec_of_unsecured h hi, fun h => ⟨lockInterfaceRequest_locks h, lockInterfaceRequest_refused h,
      startInterfaceRequest_starts h, startInterfaceRequest_refused h, stopInterfaceRequest_resets h, stopInterfaceRequest_refused h,
      fun hx => ?keyed, fun hx => ?rekeyed, fun hx => ?started, fun hx => ?unstarted, ideKmMessage_stop h⟩,
    rfl, fun hx hn => congrArg _ (State.leaveSecure_of_secure _ hx hn), fun hx => congrArg _ (State.leaveSecure_of_other _ hx),
    ⟨rfl, rfl⟩, doe_retried, fun h => ⟨doeAbort_clears h, doeObjectWrite_ignored h, fun h8 hm hv => ?object⟩, doeObject_spec⟩
  case keyed => exact (ideKmMessage_key h).trans (by rw [if_neg hx])
  case rekeyed => exact (ideKmMessage_key h).trans (by rw [if_pos hx, ← hx])
  case started => exact (ideKmMessage_start h).trans (by rw [if_pos hx])
  case unstarted => exact (ideKmMessage_start h).trans (by rw [if_neg hx])
  case object =>
    have answers (hp : fld bytes 2 1 ≤ 2) {t : State} (ht : s.doeAnswer bytes = t) : exec (.doeObjectWrite bytes) s = .next t :=
      ht ▸ doeObjectWrite_answered h h8 hm hv hp
    exact ⟨fun hp => answers (by omega) (State.doeAnswer_discovery hp), fun hp => answers (by omega) (State.doeAnswer_spdm hp),
      fun hp ho => answers (by omega) (State.doeAnswer_secured hp ho),
      fun hp h1 h2 => answers (by omega) (State.doeAnswer_unknown_session hp h1 h2)⟩

end Sys2Proof.Machine

/-!
PROOFS. Doorbells of rings, of the front door and of the mailbox: what `Obligations.Doorbells` is assembled from.
-/

namespace Sys2Proof.Machine

/-! ## Bits and tables -/

theorem bit_toNat {w : Nat} (v : BitVec w) (i : Nat) : bit v.toNat i = v.getLsbD i := by
  rw [bit, BitVec.getLsbD, Nat.testBit_eq_decide_div_mod_eq]

theorem Tbl.put_put {α : Type} (k : Nat) (a b : α) (m : Tbl α) : Tbl.put k b (Tbl.put k a m) = Tbl.put k b m := by
  induction m with
  | nil => simp [Tbl.put]
  | cons e m ih =>
    obtain ⟨j, c⟩ := e
    rcases Nat.lt_trichotomy k j with h | h | h
    · simp [Tbl.put, h]
    · simp [Tbl.put, h]
    · simp [Tbl.put, Nat.lt_asymm h, Nat.ne_of_gt h, ih]

/-- Of two changes of a ring that exists, the later one stays. -/
theorem State.setRing_setRing (s : State) (ref : Nat) {a b : Ring} (ha : a.live = true) (hb : b.live = true) :
    (s.setRing ref a).setRing ref b = s.setRing ref b := by
  have ne_absent {x : Ring} (hx : x.live = true) : x ≠ Ring.absent := fun h => by rw [h] at hx; exact absurd hx (by decide)
  simp only [State.setRing, Tbl.set, if_neg (ne_absent ha), if_neg (ne_absent hb), Tbl.put_put]

/-! ## What a doorbell does to its ring (R135, R136, R153) -/

section
variable {s : State} {ref v : Nat}

theorem State.doorbell_of_gone (hl : (s.ring ref).live = false) : s.doorbell ref v = s.bump R.RINGENG_DOORBELL_BAD := by
  simp only [State.doorbell, hl, Bool.not_false, if_true]

variable (hl : (s.ring ref).live = true)
include hl

section
variable (he : (s.ring ref).enabled = false)
include he

theorem State.doorbell_records (ht : v % 2 ^ 16 < (s.ring ref).size) (hz : bits v 62 17 = 0) :
    s.doorbell ref v = s.setRing ref { s.ring ref with recorded := some v } := by
  simp only [State.doorbell, hl, he, Bool.not_true, Bool.false_eq_true, if_false, Bool.not_false, if_true, ht, hz, and_self]

theorem State.doorbell_disabled_bad (hv : ¬ (v % 2 ^ 16 < (s.ring ref).size ∧ bits v 62 17 = 0)) :
    s.doorbell ref v = s.bump R.RINGENG_DOORBELL_BAD := by
  simp only [State.doorbell, hl, he, Bool.not_true, Bool.false_eq_true, if_false, Bool.not_false, if_true, if_neg hv]

end

variable (he : (s.ring ref).enabled = true)
include he

theorem State.doorbell_refused (ha : (s.ring ref).accepts (refKind ref) v = false) :
    s.doorbell ref v = s.bump R.RINGENG_DOORBELL_BAD := by
  simp only [State.doorbell, hl, he, Bool.not_true, Bool.false_eq_true, if_false, ha, Bool.not_false, if_true]

theorem State.doorbell_accepted (ha : (s.ring ref).accepts (refKind ref) v = true) : s.doorbell ref v = s.ringTail ref v := by
  simp only [State.doorbell, hl, he, ha, Bool.not_true, Bool.false_eq_true, if_false]

end

section
variable (s : State) {ref : Nat}

theorem State.ringTail_of_other (v : Nat) (hk : refKind ref ≠ 3) :
    s.ringTail ref v = s.setRing ref { s.ring ref with tail := v % 2 ^ 16 } := by
  simp only [State.ringTail, if_neg hk]

variable (v : BitVec 64) (hk : refKind ref = 3)
include hk

theorem State.ringTail_of_event (ho : v.getLsbD 63 = false ∨ (s.ring ref).overflow = false) :
    s.ringTail ref v.toNat = s.setRing ref { s.ring ref with consHead := v.toNat % 2 ^ 16, consPass := v.getLsbD 16 } := by
  have hno : ¬ (v.getLsbD 63 = true ∧ (s.ring ref).overflow = true) := by
    rintro ⟨h1, h2⟩
    rcases ho with h | h
    · exact Bool.false_ne_true (h.symm.trans h1)
    · exact Bool.false_ne_true (h.symm.trans h2)
  simp only [State.ringTail, if_pos hk, bit_toNat, if_neg hno]

/-- ACK_OVERFLOW ends the overflow of an event ring, and its mirror is published. -/
theorem State.ringTail_acknowledges (hl : (s.ring ref).live = true) (hv : v.getLsbD 63 = true) (ho : (s.ring ref).overflow = true) :
    s.ringTail ref v.toNat = (s.setRing ref { s.ring ref with
      consHead := v.toNat % 2 ^ 16, consPass := v.getLsbD 16, overflow := false, dropped := 0 }).writeMirror ref 0 := by
  simp only [State.ringTail, if_pos hk, bit_toNat, if_pos (And.intro hv ho), State.ring_setRing]
  rw [State.setRing_setRing s ref (by exact hl) (by exact hl)]

end

/-! ## What follows a doorbell (R17, R75, R143, R551) -/

/-- In Run a request from the host counts as traffic and wakes nothing. -/
theorem State.rouse_of_run {s : State} (hp : s.power.ladder = 0) (he : s.power.entering = none) : s.rouse = s.traffic :=
  if_pos ⟨hp, by rw [he]; rfl⟩

theorem State.weedRx_of_not_serves {s : State} {ref : Nat} (h : s.serves ref = false) (n : Nat) : s.weedRx ref n = s := by
  cases n with
  | zero => rfl
  | succ n => simp [State.weedRx, h]

theorem State.weedRx_of_other {ref : Nat} (h : refKind ref ≠ 1) (s : State) (n : Nat) : s.weedRx ref n = s := by
  cases n with
  | zero => rfl
  | succ n => simp [State.weedRx, h]

/-- The ring engine fetches no entry of a room that is in error or resetting. -/
theorem State.serves_of_stopped {s : State} {ref : Nat} (ho : refOwner ref = false)
    (h : (s.room (refRoom ref)).state = .inError ∨ (s.room (refRoom ref)).state = .resetting) : s.serves ref = false := by
  rcases h with h | h <;> simp [State.serves, ho, h]

/-- A doorbell of a ring without a consumer head leaves the rooms as they are. -/
theorem State.doorbell_rooms (s : State) {ref : Nat} (v : Nat) (hk : refKind ref ≠ 3) : (s.doorbell ref v).rooms = s.rooms := by
  simp only [State.doorbell, State.ringTail_of_other _ _ hk]
  repeat' split
  all_goals rfl

/-! ## Doorbells of a room's page (R71, R75, R106, R136, R137) -/

/-- A request to a room's page lacks the T bit when the room is in RUN and the request has none. -/
theorem State.lacksT_page (s : State) (r : Nat) (tb : Bool) :
    s.lacksT (bar2Base + 65536 * r) tb = (decide (r < 1024) && !tb && decide ((s.room r).tdi = .run)) := by
  have hr : (bar2Base + 65536 * r - bar2Base) / 65536 = r := by omega
  have hpage : (bar2Base ≤ bar2Base + 65536 * r ∧ bar2Base + 65536 * r < bar4Base) ↔ r < 1024 := by
    simp only [bar2Base, bar4Base]
    omega
  rw [State.lacksT, hr, decide_eq_decide.mpr hpage]

theorem State.lacksT_page_eq_false {s : State} {r : Nat} {tb : Bool} (h : tb = true ∨ (s.room r).tdi ≠ .run) :
    s.lacksT (bar2Base + 65536 * r) tb = false := by
  rcases h with h | h <;> simp [State.lacksT_page, h]

section
variable {s : State} {ref v : Nat}

theorem State.roomBell_of_vacant (h : (s.room (refRoom ref)).state = .vacant) : s.roomBell ref v = s := by
  simp only [State.roomBell, h]

/-- The command ring's doorbell is ignored in error and during a reset. -/
theorem State.roomBell_command_ignored (h : (s.room (refRoom ref)).state = .inError ∨ (s.room (refRoom ref)).state = .resetting)
    (hk : refKind ref = 4) : s.roomBell ref v = s := by
  rcases h with h | h <;> simp only [State.roomBell, h, if_pos hk]

theorem State.roomBell_command (h : (s.room (refRoom ref)).state = .furnished ∨ (s.room (refRoom ref)).state = .opened ∨
    (s.room (refRoom ref)).state = .frozen) (hk : refKind ref = 4) : s.roomBell ref v = (s.doorbell ref v).serveAll := by
  rcases h with h | h | h <;> simp only [State.roomBell, h, if_pos hk]

/-- In error and during a reset the ring engine fetches nothing, so that there is nothing to weed. -/
theorem State.roomBell_other (h : (s.room (refRoom ref)).state ≠ .vacant) (hk : refKind ref ≠ 4) (ho : refOwner ref = false) :
    s.roomBell ref v = (s.doorbell ref v).weedRx ref 65536 := by
  have hstopped (hx : (s.room (refRoom ref)).state = .inError ∨ (s.room (refRoom ref)).state = .resetting) :
      (s.doorbell ref v).weedRx ref 65536 = s.doorbell ref v := by
    by_cases h1 : refKind ref = 1
    · refine State.weedRx_of_not_serves (State.serves_of_stopped ho ?_) _
      rwa [State.room, State.doorbell_rooms s v (by omega)]
    · exact State.weedRx_of_other h1 _ _
  cases hx : (s.room (refRoom ref)).state with
  | vacant => exact absurd hx h
  | inError => simp only [State.roomBell, hx, if_neg hk, hstopped (.inl hx)]
  | resetting => simp only [State.roomBell, hx, if_neg hk, hstopped (.inr hx)]
  | furnished => simp only [State.roomBell, hx, if_neg hk]
  | opened => simp only [State.roomBell, hx, if_neg hk]
  | frozen => simp only [State.roomBell, hx, if_neg hk]

end

theorem refOwner_of_pageHas {ref : Nat} (h : pageHas ref = true) : refOwner ref = false := by
  simp only [pageHas, Bool.and_eq_true, Bool.not_eq_true'] at h
  exact h.1.1

theorem refKind_roomEventRef {r : Nat} (h : r < 1024) : refKind (roomEventRef r) = 3 := by
  simp only [refKind, roomEventRef, refOf, bits, b01, Bool.false_eq_true, if_false]
  omega

theorem refOwner_roomEventRef {r : Nat} (h : r < 1024) : refOwner (roomEventRef r) = false := by
  simp only [refOwner, roomEventRef, refOf, bit, b01, Bool.false_eq_true, if_false, decide_eq_false_iff_not]
  omega

/-! ## The commands that write doorbells -/

theorem doorbells_poisoned {s : State} (hb : s.barOpen = true) (ref : Nat) (room : Fin 1024) (v : BitVec 64) (tb : Bool) :
    exec (.ringDoorbell ref ⟨v, tb, true⟩) s = .next (s.reportAer .poisonedTlp) ∧
      exec (.eventRingDoorbell room ⟨v, tb, true⟩) s = .next (s.reportAer .poisonedTlp) := by
  simp only [exec_ringDoorbell, execRingDoorbell, exec_eventRingDoorbell, execEventRingDoorbell, hb, Bool.and_self, if_true, and_self]

theorem ringDoorbell_of_no_page {s : State} {ref : Nat} (v : BitVec 64) (tb : Bool) (h : pageHas ref = false) :
    exec (.ringDoorbell ref ⟨v, tb, false⟩) s = .next s := by
  simp only [exec_ringDoorbell, execRingDoorbell, h, Bool.and_false, Bool.false_and, Bool.false_eq_true, if_false]

/-- The front door's window responds in recovery as well (R11). -/
theorem State.windowOpen_low {s : State} (hr : s.sr.ready = true) {o : Nat} (ho : o < 0x200000) : s.windowOpen o = true := by
  rw [State.windowOpen, hr, decide_eq_true ho, Bool.true_or, Bool.true_or, ite_self]

section
variable {s : State} (hb : s.barOpen = true) (hr : s.sr.ready = true)
include hb hr

theorem ringDoorbell_eq {ref : Nat} (v : BitVec 64) (tb : Bool) (hp : pageHas ref = true) (hk : refKind ref ≠ 3) :
    exec (.ringDoorbell ref ⟨v, tb, false⟩) s = .next (if s.lacksT (bar2Base + 65536 * refRoom ref) tb then
      s.reportAer .unsupportedRequest else s.rouse.roomBell ref v.toNat) := by
  simp only [exec_ringDoorbell, execRingDoorbell, hb, hr, hp, hk, ne_eq, not_false_eq_true, decide_true, Bool.and_self, Bool.and_false,
    Bool.false_eq_true, if_false, if_true]

theorem eventRingDoorbell_eq (room : Fin 1024) (v : BitVec 64) (tb : Bool) :
    exec (.eventRingDoorbell room ⟨v, tb, false⟩) s = .next (if s.lacksT (bar2Base + 65536 * room.val) tb then
      s.reportAer .unsupportedRequest else s.rouse.roomBell (roomEventRef room.val) v.toNat) := by
  simp only [exec_eventRingDoorbell, execEventRingDoorbell, hb, hr, Bool.and_self, Bool.and_false, Bool.false_eq_true, if_false, if_true]

theorem ownerDoorbell_eq (v : BitVec 64) : exec (.ownerDoorbell v) s = .next (s.rouse.ownerBell v.toNat) :=
  if_pos (by rw [hb, hr, Bool.and_self])

theorem ownerEventOverflowAck_eq (v : BitVec 32) : exec (.ownerEventOverflowAck v) s = .next (s.rouse.ackOverflow v.toNat) :=
  if_pos (by rw [hb, hr, Bool.and_self])

theorem frontdoorDoorbell_eq (v : BitVec 64) : exec (.frontdoorDoorbell v) s = .next (s.rouse.frontBell v.toNat) :=
  if_pos (by rw [hb, State.windowOpen_low hr (by decide), Bool.and_self])

theorem frontdoorCtrlWrite_eq (v : BitVec 32) : exec (.frontdoorCtrlWrite v) s = .next (s.rouse.frontCtrl v.toNat).serveAll :=
  if_pos (by rw [hb, State.windowOpen_low hr (by decide), Bool.and_self])

theorem mboxDoorbell_eq (v : BitVec 32) (hm : s.sr.romDone = true) (hc : s.sr.recovery = false) :
    exec (.mboxDoorbell v) s = .next (s.rouse.mboxGo v.toNat) := by
  have hw : s.windowOpen R.SR_MBOX_DOORBELL = true := by
    simp only [State.windowOpen, hc, hr, Bool.false_eq_true, if_false, Bool.true_or]
  simp only [exec_mboxDoorbell, execMboxDoorbell, hb, hw, hm, Bool.and_self, if_true]

end

/-- While Memory Space Enable is clear no doorbell does anything. -/
theorem doorbells_closed {s : State} (hb : s.barOpen = false) (ref : Nat) (room : Fin 1024) (v : BitVec 64) (w : BitVec 32) :
    (∀ p : Payload, exec (.ringDoorbell ref p) s = .next s ∧ exec (.eventRingDoorbell room p) s = .next s) ∧
      exec (.ownerDoorbell v) s = .next s ∧ exec (.ownerEventOverflowAck w) s = .next s ∧ exec (.frontdoorDoorbell v) s = .next s ∧
      exec (.frontdoorCtrlWrite w) s = .next s ∧ exec (.mboxDoorbell w) s = .next s := by
  simp only [exec_ringDoorbell, execRingDoorbell, exec_eventRingDoorbell, execEventRingDoorbell, exec_ownerDoorbell, execOwnerDoorbell,
    exec_ownerEventOverflowAck, execOwnerEventOverflowAck, exec_frontdoorDoorbell, execFrontdoorDoorbell, exec_frontdoorCtrlWrite,
    execFrontdoorCtrlWrite, exec_mboxDoorbell, execMboxDoorbell, hb, Bool.false_and, Bool.false_eq_true, if_false, and_self,
    implies_true]

section
variable {s : State} {v : Nat}

theorem State.ownerBell_bad (h : bits v 59 48 ≠ 0 ∨ bits v 31 17 ≠ 0 ∨ 3 < bits v 62 60) :
    s.ownerBell v = s.bump R.RINGENG_DOORBELL_BAD := if_pos h

theorem State.ownerBell_good (h1 : bits v 59 48 = 0) (h2 : bits v 31 17 = 0) (h3 : bits v 62 60 ≤ 3) :
    s.ownerBell v = let o := refOf (bits v 62 60) true 0 (bits v 47 32)
      (s.doorbell o (b01 (bit v 63) * 2 ^ 63 + v % 2 ^ 17)).weedRx o 65536 := if_neg (by omega)

end

section
variable {s : State} {v : BitVec 32}

theorem State.mboxGo_of_zero (hv : v.getLsbD 0 = false) : s.mboxGo v.toNat = s := by
  simp only [State.mboxGo, bit_toNat, hv, Bool.not_false, if_true]

variable (hv : v.getLsbD 0 = true)
include hv

theorem State.mboxGo_of_busy (hm : s.sr.mboxBusy = true) : s.mboxGo v.toNat = s.bump R.SR_MBOX_IGNORED := by
  simp only [State.mboxGo, bit_toNat, hv, hm, Bool.not_true, Bool.false_eq_true, if_false, if_true]

theorem State.mboxGo_reads (hm : s.sr.mboxBusy = false) : s.mboxGo v.toNat =
    let u : State := s.workId.2
    let u : State := { u with sr := { u.sr with mboxBusy := true, mboxDone := false, mboxRead := s.workId.1 } }
    u.beginReads mailboxRef (Entry.fresh s.workId.1 0 false []) [((s.reg R.SR_MBOX_ADDR).toNat, 64)] := by
  simp only [State.mboxGo, bit_toNat, hv, hm, Bool.not_true, Bool.false_eq_true, if_false]
  rfl

end

/-! ## Doorbells -/

/-- Settles O38: what a doorbell does to its ring, then what each command does that writes one. -/
theorem doorbells : Obligations.Doorbells := by
  unfold Obligations.Doorbells
  intro s ref v w room tb
  have accepted (hl : (s.traffic.ring ref).live = true) (he : (s.traffic.ring ref).enabled = true)
      (ha : (s.traffic.ring ref).accepts 3 v.toNat = true) (hk : refKind ref = 3) :
      s.traffic.doorbell ref v.toNat = s.traffic.ringTail ref v.toNat := State.doorbell_accepted hl he (hk ▸ ha)
  refine ⟨State.doorbell_of_gone, State.doorbell_records, State.doorbell_disabled_bad, State.doorbell_refused,
    fun hl he ha hk => (State.doorbell_accepted hl he ha).trans (State.ringTail_of_other _ _ hk),
    fun hl he ha hk ho => (accepted hl he ha hk).trans (State.ringTail_of_event _ v hk ho),
    fun hl he ha hk hv ho => (accepted hl he ha hk).trans (State.ringTail_acknowledges _ v hk hl hv ho),
    fun hb => doorbells_poisoned (s := s) hb ref room v tb,
    fun (hb : s.barOpen = true) (hr : s.sr.ready = true) hp he => ?run, fun hb => doorbells_closed (s := s) hb ref room v w⟩
  have hrouse : s.rouse = s.traffic := State.rouse_of_run hp he
  have page (hp : pageHas ref = true) (hk : refKind ref ≠ 3) (ht : tb = true ∨ (s.room (refRoom ref)).tdi ≠ .run) {t : State}
      (h : s.traffic.roomBell ref v.toNat = t) : exec (.ringDoorbell ref ⟨v, tb, false⟩) s = .next t := by
    rw [ringDoorbell_eq hb hr v tb hp hk, State.lacksT_page_eq_false ht, hrouse, h]
    exact congrArg _ (if_neg Bool.false_ne_true)
  refine ⟨fun hp hk ht => ⟨fun h => page hp hk ht (State.roomBell_of_vacant h),
      fun h hk4 => page hp hk ht (State.roomBell_command_ignored h hk4),
      fun h hk4 => page hp hk ht (State.roomBell_other h hk4 (refOwner_of_pageHas hp)),
      fun h hk4 => page hp hk ht (State.roomBell_command h hk4)⟩,
    fun hp hk ht => (ringDoorbell_eq hb hr v tb hp hk).trans (by rw [if_pos ht]),
    fun hp => ringDoorbell_of_no_page v tb hp, fun hx (ht : tb = true ∨ (s.room room.val).tdi ≠ .run) => ?event,
    fun htb (ht : (s.room room.val).tdi = .run) => ?eventRefused, fun h => ?ownerBad, fun h1 h2 h3 => ?owner, ?ack, ?front, ?ctrl,
    fun hm hc => ⟨fun hw => ?mbox, fun hw hbusy => ?mboxBusy, fun hw hbusy => ?mboxReads⟩⟩
  case event =>
    have hother := State.roomBell_other (v := v.toNat) hx (by rw [refKind_roomEventRef room.isLt]; decide) (refOwner_roomEventRef room.isLt)
    rw [eventRingDoorbell_eq hb hr, State.lacksT_page_eq_false ht, hrouse, hother]
    exact congrArg _ (if_neg Bool.false_ne_true)
  case eventRefused =>
    have hlacks : s.lacksT (bar2Base + 65536 * room.val) tb = true := by
      rw [State.lacksT_page, decide_eq_true room.isLt, htb, decide_eq_true ht]
      rfl
    rw [eventRingDoorbell_eq hb hr, if_pos hlacks]
  case ownerBad => rw [ownerDoorbell_eq hb hr, hrouse, State.ownerBell_bad h]
  case owner => exact (ownerDoorbell_eq hb hr v).trans (by rw [hrouse, State.ownerBell_good h1 h2 h3])
  case ack => rw [ownerEventOverflowAck_eq hb hr, hrouse]
  case front =>
    rw [frontdoorDoorbell_eq hb hr, hrouse]
    rfl
  case ctrl => rw [frontdoorCtrlWrite_eq hb hr, hrouse]
  case mbox => rw [mboxDoorbell_eq hb hr w hm hc, hrouse, State.mboxGo_of_zero hw]
  case mboxBusy => rw [mboxDoorbell_eq hb hr w hm hc, hrouse, State.mboxGo_of_busy hw hbusy]
  case mboxReads => exact (mboxDoorbell_eq hb hr w hm hc).trans (by rw [hrouse, State.mboxGo_reads hw hbusy])

end Sys2Proof.Machine

/-!
PROOFS. Transmit descriptors, receive delivery and moderation: what `Obligations.RingTraffic` is assembled from.
-/

namespace Sys2Proof.Machine

/-! ## Transmit descriptors (R140, R143, R147) -/

section
variable {s : State} {ref : Nat}

/-- The arbiter's grant changes the arbiter alone. -/
theorem State.grantTo_frame {t : State} (h : s.grantTo ref = some t) : t = { s with arb := t.arb } := by
  simp only [State.grantTo] at h
  repeat' split at h
  all_goals cases h <;> rfl

/-- A ring that the ring engine does not serve gives no descriptor. -/
theorem State.fetchGranted_of_not_serves (h : s.serves ref = false) : s.fetchGranted ref = none := by
  rw [State.fetchGranted, Option.bind_eq_none_iff]
  intro t ht
  have hs : t.serves ref = false := by
    rw [State.grantTo_frame ht]
    exact h
  simp only [State.fetch, hs, Bool.not_false, Bool.true_or, if_true]

theorem State.askEntry_of_not_serves (h : s.serves ref = false) : s.askEntry ref = s := by
  simp only [State.askEntry, h, Bool.false_and, Bool.false_eq_true, if_false]

theorem txDescriptor_of_other (h : refKind ref ≠ 0) : exec (.txDescriptor ref) s = .next s := if_pos h

section
variable (h : refKind ref = 0)
include h

theorem txDescriptor_waits (hf : s.fetchGranted ref = none) : exec (.txDescriptor ref) s = .next (s.askEntry ref) := by
  simp only [exec_txDescriptor, execTxDescriptor, h, ne_eq, not_true_eq_false, if_false, hf]

theorem txDescriptor_takes {index : Nat} {pass : Bool} {d : List Byte} {u : State} (hf : s.fetchGranted ref = some (index, pass, d, u)) :
    exec (.txDescriptor ref) s =
      let e := Entry.fresh u.workId.1 index pass d
      if txDescOk d = true then .next (u.workId.2.beginReads ref e (txSegments d))
      else .next (u.workId.2.badDesc ref e (e.failBytes .invalidParam)) := by
  simp only [exec_txDescriptor, execTxDescriptor, h, ne_eq, not_true_eq_false, if_false, hf]

end

end

/-! ## Receive delivery (R141, R146, R157) -/

/-- The state in which the frames `rest` are still to be delivered. -/
def State.toDeliver (s : State) (rest : List (Nat × Frame)) : State := { s with pipe := { s.pipe with delivery := rest } }

theorem rxFrameDelivery_of_none {s : State} (h : s.pipe.delivery = []) : exec .rxFrameDelivery s = .next s := by
  simp only [exec_rxFrameDelivery, execRxFrameDelivery, h]

section
variable {s : State} {leaf : Nat} {f : Frame} {rest : List (Nat × Frame)} (h : s.pipe.delivery = (leaf, f) :: rest)
include h

theorem rxFrameDelivery_of_gone (hr : s.ringOfGlobal leaf = none) :
    exec .rxFrameDelivery s = .next ((s.toDeliver rest).dropPkt f.pkt).flow := by
  simp only [exec_rxFrameDelivery, execRxFrameDelivery, h, hr]
  rfl

variable {r : Nat} (hr : s.ringOfGlobal leaf = some r)
include hr

theorem rxFrameDelivery_waits (hw : s.dmaOpen = false ∨ s.entryReady r = false) : exec .rxFrameDelivery s = .next (s.askEntry r) := by
  have hw : (!s.dmaOpen || !s.entryReady r) = true := by rcases hw with hw | hw <;> simp [hw]
  simp only [exec_rxFrameDelivery, execRxFrameDelivery, h, hr, if_pos hw]

variable (hd : s.dmaOpen = true) (he : s.entryReady r = true)
include hd he

theorem rxFrameDelivery_refused (hb : s.takeBuffers r (s.stripTag f.pkt).1.length = none) :
    exec .rxFrameDelivery s = .next ((s.toDeliver rest).rxRefused r leaf f).flow := by
  simp only [exec_rxFrameDelivery, execRxFrameDelivery, h, hr, hd, he, Bool.not_true, Bool.or_self, Bool.false_eq_true, if_false, hb]
  rfl

variable {bs : List (Nat × Bool × List Byte)} {u : State} (hb : s.takeBuffers r (s.stripTag f.pkt).1.length = some (bs, u))
include hb

variable {missing : List Nat} {v : State}
  (hm : u.translate (refSpace r) (bufferRanges bs (s.stripTag f.pkt).1.length) = (missing, v))
include hm

/-- A frame whose buffers are all translated is written; a room that enters the in-error state on the way takes no more of it (R98). -/
theorem rxFrameDelivery_writes (hn : missing = []) :
    let w := (v.toDeliver rest).fillBuffers r f.pkt (s.stripTag f.pkt).2 bs (s.stripTag f.pkt).1
    exec .rxFrameDelivery s = .next (if w.2 = true then (w.1.txDone f.pkt .ok none (f.pkt.bytes.length + 4)).weedRx r 65536
      else w.1.dropPkt f.pkt).flow := by
  simp only [exec_rxFrameDelivery, execRxFrameDelivery, h, hr, hd, he, Bool.not_true, Bool.or_self, Bool.false_eq_true, if_false, hb, hm, hn,
    List.map_nil, List.filter_nil, ne_eq, not_true_eq_false]
  rfl

/-- A frame whose buffers lack a translation that is not denied waits for it (R66). -/
theorem rxFrameDelivery_asks (hn : missing ≠ []) (ha : ∀ g, g ∈ missing → (v.party (refSpace r), g) ∉ v.link.atsDenied) :
    exec .rxFrameDelivery s = .next v := by
  have hnone : ((missing.map fun g => (v.party (refSpace r), g)).filter fun x => v.link.atsDenied.contains x) = [] := by
    simpa using ha
  simp only [exec_rxFrameDelivery, execRxFrameDelivery, h, hr, hd, he, Bool.not_true, Bool.or_self, Bool.false_eq_true, if_false, hb, hm,
    hnone, ne_eq, not_true_eq_false, hn, not_false_eq_true, if_true]

end

/-! ## Frames that find no buffer on a ring of the owner (R157) -/

section
variable {s : State} {r : Nat} (leaf : Nat) (f : Frame) (ho : refSpace r = none)
include ho

/-- In hold mode the frame goes back to the head of its leaf. -/
theorem State.rxRefused_holds (hh : (s.ring r).hold = true) : s.rxRefused r leaf f =
    s.setLeaf (leafKey 4 leaf) { s.leaf (leafKey 4 leaf) with queue := f :: (s.leaf (leafKey 4 leaf)).queue } := by
  simp only [State.rxRefused, ho, hh, if_true]

theorem State.rxRefused_drops (hh : (s.ring r).hold = false) : s.rxRefused r leaf f = (s.noBuffer r).dropPkt f.pkt := by
  simp only [State.rxRefused, ho, hh, Bool.false_eq_true, if_false]

end

/-! ## Moderation (R148) -/

section
variable {s : State} {ref : Nat}

theorem moderationFire_of_none (h : (s.ring ref).firstSince = none) : exec (.moderationFire ref) s = .next s := by
  simp only [exec_moderationFire, execModerationFire, h]

variable {t : Nat} (h : (s.ring ref).firstSince = some t)
include h

theorem moderationFire_due (hl : (s.ring ref).live = true) (ht : t + 1000 * (s.ring ref).timerNow ≤ s.clock) :
    exec (.moderationFire ref) s = .next (s.fire ref) := by
  simp only [exec_moderationFire, execModerationFire, h, if_pos (And.intro hl ht)]

theorem moderationFire_waits (hw : (s.ring ref).live = false ∨ s.clock < t + 1000 * (s.ring ref).timerNow) :
    exec (.moderationFire ref) s = .next s := by
  have hno : ¬ ((s.ring ref).live = true ∧ t + 1000 * (s.ring ref).timerNow ≤ s.clock) := fun ⟨hl, ht⟩ =>
    hw.elim (fun hg => Bool.false_ne_true (hg.symm.trans hl)) (Nat.not_lt.mpr ht)
  simp only [exec_moderationFire, execModerationFire, h, if_neg hno]

end

/-! ## Transmit descriptors, receive delivery and moderation -/

/-- Settles O45: each clause is the lemma about the branch that its hypotheses select. -/
theorem ringTraffic : Obligations.RingTraffic := by
  unfold Obligations.RingTraffic
  intro s ref
  refine ⟨txDescriptor_of_other, fun h => ⟨txDescriptor_waits h, fun index pass d u hf => ⟨fun hd => ?good, fun hd => ?bad⟩⟩,
    fun h => ⟨State.fetchGranted_of_not_serves h, State.askEntry_of_not_serves h⟩, rxFrameDelivery_of_none,
    fun leaf f rest h => ⟨rxFrameDelivery_of_gone h, fun r hr => ⟨rxFrameDelivery_waits h hr,
      fun hd he => ⟨rxFrameDelivery_refused h hr hd he, fun bs u hb => ⟨rxFrameDelivery_writes h hr hd he hb rfl, rxFrameDelivery_asks h hr hd he hb rfl⟩⟩⟩,
      fun r ho hh => ?holds, fun r ho hh => State.rxRefused_drops (s := s.toDeliver rest) leaf f ho hh⟩,
    moderationFire_of_none, fun t h => ⟨moderationFire_due h, moderationFire_waits h⟩⟩
  case good => exact (txDescriptor_takes h hf).trans (if_pos hd)
  case bad => exact (txDescriptor_takes h hf).trans (if_neg (Bool.eq_false_iff.mp hd))
  case holds =>
    have hback := State.rxRefused_holds (s := s.toDeliver rest) leaf f ho hh
    have hregs : ((s.toDeliver rest).rxRefused r leaf f).regs = s.regs := by
      rw [hback]
      rfl
    have hqueue : (((s.toDeliver rest).rxRefused r leaf f).leaf (leafKey 4 leaf)).queue = f :: (s.leaf (leafKey 4 leaf)).queue := by
      rw [hback, State.leaf_setLeaf]
      rfl
    exact ⟨hregs, hqueue⟩

end Sys2Proof.Machine

/-!
PROOFS. Resets from outside, faults, firmware start-up and image sections: what `Obligations.ResetEvents` is assembled from.
-/

namespace Sys2Proof.Machine

/-! ## Resets by PERST# and over the link (R567, R570) -/

section
variable {s : State}

theorem perstAssert_resets (h : s.power.ladder < 4) : exec .perstAssert s = .next (s.conventionalReset (some .perst)) :=
  if_neg (Nat.not_le.mpr h)

/-- In Slumber and below PERST# is asserted after PME_Turn_Off, and resets nothing. -/
theorem perstAssert_asleep (h : 4 ≤ s.power.ladder) : exec .perstAssert s = .next s := if_pos h

theorem linkResets_up (h : s.link.dlUp = true) : exec .hotReset s = .next (s.conventionalReset (some .hotReset)) ∧
    exec .pcieLinkDown s = .next (s.conventionalReset (some .linkDown)) := ⟨if_pos h, if_pos h⟩

theorem linkResets_down (h : s.link.dlUp = false) : exec .hotReset s = .next s ∧ exec .pcieLinkDown s = .next s :=
  ⟨if_neg (Bool.eq_false_iff.mp h), if_neg (Bool.eq_false_iff.mp h)⟩

/-! ## Function level reset (R64, R572) -/

theorem State.config_of_open (h : s.configOpen = true) (f : State → State) : s.config f = f s := if_pos h

theorem flrInitiate_retried (h : s.configOpen = false) : exec .flrInitiate s = .next (s.emit .retry) :=
  congrArg _ (if_neg (Bool.eq_false_iff.mp h))

/-- An FLR goes on for a time below 20 ms that is left open (free value, log entry 80). -/
def State.flrGoesOn (w : State) : State :=
  { w.free.2 with link := { w.free.2.link with flrUntil := w.clock + 1 + w.free.1.toNat % 20000000 } }

/-- The effects of R568 are in place. -/
def State.flrReset (s : State) : State :=
  (((((s.abandonTags fun _ => true).resetClose.flrStore).flrClear).reseatAnnex).noteCause (some .flr)).measureConfig

theorem flrInitiate_resets (h : s.configOpen = true) : exec .flrInitiate s = .next s.flrReset.flrGoesOn := by
  rw [exec_flrInitiate, execFlrInitiate, State.config_of_open h, State.flrReset]
  dsimp only
  generalize State.measureConfig _ = w
  rfl

theorem State.flrClear_clears (s : State) : s.flrClear.rooms = [] ∧ s.flrClear.rings = [] ∧ s.flrClear.gen.current = 0 ∧
    s.flrClear.sr.sessions = [] ∧ s.flrClear.pipe.input = [] ∧ s.flrClear.pipe.pieces = [] :=
  ⟨rfl, rfl, rfl, rfl, rfl, rfl⟩

theorem State.closed_during_flr (h : s.flrDone = false) : s.barOpen = false ∧ s.configOpen = false := by
  simp only [State.barOpen, State.configOpen, h, Bool.and_false, Bool.false_and, and_self]

/-! ## Faults (R565, R569) -/

theorem State.deviceFault_up (h : s.link.dlUp = true) :
    s.deviceFault = (s.reportAer .uncorrectableInternal).warmRestart none [] false := by
  simp only [State.deviceFault, h, if_true]

theorem State.deviceFault_down (h : s.link.dlUp = false) : s.deviceFault = s.warmRestart none [] false := by
  simp only [State.deviceFault, h, Bool.false_eq_true, if_false]

/-! ## The code region (R533, R534) -/

theorem codeReloadEnd_idle (h : s.memory.codeReload = false) : exec .codeReloadEnd s = .next s := by
  simp only [exec_codeReloadEnd, execCodeReloadEnd, h, Bool.not_false, if_true]

theorem codeReloadEnd_reseats (h : s.memory.codeReload = true) :
    let u : State := { s with memory := { s.memory with
      codeReload := false, bad := s.memory.bad.filter fun a => decide (s.regionOf a ≠ some 7) } }
    let u := u.copySections (u.flashImage u.sr.bootSlot)
    let ts := (u.cores.threads.filter fun e => decide (e.2.state = .faulted) && decide (e.2.object = ThFault.fetch.code)).map fun e => e.1
    exec .codeReloadEnd s = .next ((ts.foldl State.reseatOne u).noteReseats ts) := by
  simp only [exec_codeReloadEnd, execCodeReloadEnd, h, Bool.not_true, Bool.false_eq_true, if_false]

/-! ## Firmware start-up (R354 to R358, R554, R562) -/

theorem imageReady_waits (h : s.sr.imageValid = false ∨ s.sr.ready = true ∨ s.sr.recovery = true ∨ s.cores.lhReady = false) :
    exec .imageReady s = .next s := by
  rcases h with h | h | h | h <;>
    simp only [exec_imageReady, execImageReady, h, Bool.not_false, Bool.true_or, Bool.or_true, if_true]

theorem imageReady_starts (hv : s.sr.imageValid = true) (hr : s.sr.ready = false) (hc : s.sr.recovery = false)
    (hl : s.cores.lhReady = true) :
    let u : State := { s with sr := { s.sr with ready := true } }
    exec .imageReady s = .next ((if s.sr.trial ∧ !s.sr.trialOver then u.writeBootRec s.sr.bootSlot false else
      u).burnFuses.startAnnex.replyWarm) := by
  simp only [exec_imageReady, execImageReady, hv, hr, hc, hl, Bool.not_true, Bool.or_self, Bool.false_eq_true, if_false]

/-- A trial slot is due to end: 1 s after thread release it is not READY. -/
def State.trialDue (s : State) : Prop :=
  s.sr.trial = true ∧ s.sr.imageValid = true ∧ s.sr.ready = false ∧ s.sr.releasedAt + 1000000000 ≤ s.clock

theorem State.trialDue_iff : s.trialDue ↔
    (s.sr.trial && s.sr.imageValid && !s.sr.ready && decide (s.sr.releasedAt + 1000000000 ≤ s.clock)) = true := by
  simp only [State.trialDue, Bool.and_eq_true, Bool.not_eq_true', decide_eq_true_eq, and_assoc]

theorem trialTimeout_ends (h : s.trialDue) : exec .trialTimeout s = .next { s with sr := { s.sr with trialOver := true } } :=
  if_pos (State.trialDue_iff.mp h)

theorem trialTimeout_waits (h : ¬ s.trialDue) : exec .trialTimeout s = .next s := if_neg (mt State.trialDue_iff.mpr h)

theorem imageSectionLoaded_of_none (h : s.power.sections = []) : exec .imageSectionLoaded s = .next s := by
  simp only [exec_imageSectionLoaded, execImageSectionLoaded, h]

/-- A section that matches its digest is loaded; one that does not makes the device start cold. -/
theorem imageSectionLoaded_of_some {n : Nat} {rest : List Nat} (h : s.power.sections = n :: rest) :
    let rd := s.flashImage s.sr.bootSlot
    exec .imageSectionLoaded s = if s.imageFails rd = 0 ∧ rd 0 0x200 = s.sr.header then
      .next { s with power := { s.power with sections := rest } } else .next (s.coldReset none) := by
  simp only [exec_imageSectionLoaded, execImageSectionLoaded, h]

end

/-! ## What resets the device and its clusters -/

/-- Settles O56: each clause is the lemma about the branch that its hypotheses select. -/
theorem resetEvents : Obligations.ResetEvents := by
  unfold Obligations.ResetEvents
  intro s core cluster
  exact ⟨perstAssert_resets, perstAssert_asleep, linkResets_up, linkResets_down, flrInitiate_retried,
    ⟨flrInitiate_resets, State.flrClear_clears _⟩, State.closed_during_flr, ⟨rfl, rfl⟩, State.deviceFault_up, State.deviceFault_down,
    rfl, ⟨fun h => if_pos h, fun h => if_neg (Bool.eq_false_iff.mp h)⟩, rfl, rfl, codeReloadEnd_idle, codeReloadEnd_reseats,
    imageReady_waits, imageReady_starts, ⟨trialTimeout_ends, trialTimeout_waits⟩, imageSectionLoaded_of_none,
    fun n rest h => ⟨fun hok => (imageSectionLoaded_of_some h).trans (if_pos hok),
      fun hbad => (imageSectionLoaded_of_some h).trans (if_neg hbad)⟩⟩

end Sys2Proof.Machine

/-!
PROOFS. How a packet is refused, tried and run: what `Obligations.CommandFrame` is assembled from.
-/

namespace Sys2Proof.Machine

/-! ## The packet as its path scopes it (R75) -/

@[simp] theorem Packet.scoped_path (p : Packet) : p.scoped.path = p.path := by
  unfold Packet.scoped
  split <;> rfl

theorem Packet.scoped_of_frontDoor {p : Packet} (h : p.path = .frontDoor) : p.scoped = p := by
  simp only [Packet.scoped, h]

/-! ## What refuses a packet, in the order of the checks (R74, R79, R80, R96, R599) -/

section
variable {c : Command} {s : State} {p : Packet}

theorem Command.permits_eq_false {path : Path} (h : (path = .frontDoor ∧ c.front = false) ∨ (path = .mctp ∧ c.mctp = false) ∨
    (∃ r, path = .roomRing r ∧ c.room = false) ∨ (s.sr.recovery = true ∧ c.recovery = false)) : c.permits s path = false := by
  rcases h with ⟨rfl, h⟩ | ⟨rfl, h⟩ | ⟨r, rfl, h⟩ | ⟨hr, h⟩
  · simp only [Command.permits, h, Bool.and_false]
  · simp only [Command.permits, h, Bool.and_false]
  · simp only [Command.permits, h, Bool.and_false]
  · simp only [Command.permits, hr, h, Bool.not_true, Bool.or_self, Bool.false_and]

theorem Command.refuses_of_not_permits (h : c.permits s p.path = false) : c.refuses s p = some .notPermitted := by
  simp only [Command.refuses, h, Bool.not_false, if_true]

theorem roomFieldOk_eq_false {opcode room : Nat}
    (h : (1024 ≤ room ∧ room ≠ 0xFFFF) ∨ (opcode / 256 = 1 ∧ opcode ≠ 0x0100 ∧ room = 0xFFFF)) : roomFieldOk opcode room = false := by
  rcases h with ⟨hr, hn⟩ | ⟨hg, hq, rfl⟩
  · have hout : ¬ room < 1024 := by omega
    simp only [roomFieldOk, hout, hn, decide_false, Bool.or_self, Bool.false_and]
  · simp only [roomFieldOk, hg, hq, ne_eq, not_false_eq_true, decide_true, Bool.and_self, Bool.not_true, Bool.and_false]

section
variable (hc : c.permits s p.path = true) (hp : p.path = .frontDoor)
include hc hp

theorem Command.refuses_of_header (h : bits p.flags.toNat 14 6 ≠ 0 ∨ roomFieldOk c.opcode p.room = false) :
    c.refuses s p = some .invalidParam := by
  rw [hp] at hc
  rcases h with h | h <;> simp [Command.refuses, hc, hp, h]

theorem Command.refuses_of_params (hf : bits p.flags.toNat 14 6 = 0) (hr : roomFieldOk c.opcode p.room = true) :
    (p.paramDma = .timedOut → c.refuses s p = some .dmaTimeout) ∧ (p.paramDma = .aborted → c.refuses s p = some .dmaAborted) ∧
      (p.paramDma = .done → c.paramsOk p.params = false → c.refuses s p = some .invalidParam) := by
  rw [hp] at hc
  refine ⟨fun h => ?_, fun h => ?_, fun h hk => ?_⟩
  · simp [Command.refuses, hc, hp, hf, hr, h]
  · simp [Command.refuses, hc, hp, hf, hr, h]
  · simp [Command.refuses, hc, hp, hf, hr, h, hk]

end
end

/-! ## What a packet that is served does -/

section
variable {i : Instr} {c : Command} {p : Packet} {s : State} (hrow : commandRow i = some (p, c))
include hrow

section
variable (hu : s.pathUp p.path = true) (hb : s.pathBusy p.path = false)
include hu hb

/-- A refusal that no room counts as a failed read writes its status and has no other effect (R88). -/
theorem exec_refused {st : Status} (hr : c.refuses s p.scoped = some st)
    (hd : (∀ r, p.path ≠ .roomRing r) ∨ st = .notPermitted) :
    exec i s = .next ((s.reply p.scoped c.opcode st [] false none p.scoped.dry).goesOn) := by
  rw [exec_commandRow hrow, Command.accept_refused hu hb hr]
  intro r hroom
  rcases hd with hd | rfl
  · exact absurd ((Packet.scoped_path p).symm.trans hroom) (hd r)
  · decide

/-- A dry run keeps nothing but its reply (R84). -/
theorem exec_dry (hr : c.refuses s p.scoped = none) (ha : p.scoped.atTimeFlag = false) (hd : p.scoped.dry = true) :
    exec i s = .next ((s.reply p.scoped c.opcode (c.dryStatus (c.context p) s) [] false none true).goesOn) := by
  simp only [exec_commandRow hrow, Command.accept, hu, hb, Command.submit, hr, ha, Command.run, hd, Bool.not_true, Bool.not_false,
    Bool.false_eq_true, if_false, if_true, State.goesOn, Command.context]

end

/-- A body that cut its data to whole records says that more is to fetch. -/
theorem exec_part (hs : c.starts p s) {st : Status} {data : List Byte} {u : State} (hb : c.body (c.context p) s = .part st data u) :
    exec i s = .next (c.ends p u st data true) := by
  rw [exec_commandRow hrow, Command.accept_starts hs, hb]

end

/-! ## The frame of every command -/

/-- Settles O20: each clause is the check that refuses the packet, the dry run, or what the body answers. -/
theorem commandFrame : Obligations.CommandFrame := by
  unfold Obligations.CommandFrame
  intro i c p s hrow q refuses
  have barred (hu : s.pathUp p.path = true) (hb : s.pathBusy p.path = false) (h : c.permits s p.path = false) : refuses .notPermitted :=
    exec_refused hrow hu hb (Command.refuses_of_not_permits (by rwa [Packet.scoped_path])) (.inr rfl)
  refine ⟨fun hu => ?_, fun hu hb => ?_, fun hu hb => ⟨fun hp hf => barred hu hb (Command.permits_eq_false (.inl ⟨hp, hf⟩)),
    fun hp hf => barred hu hb (Command.permits_eq_false (.inr (.inl ⟨hp, hf⟩))),
    fun r hp hf => barred hu hb (Command.permits_eq_false (.inr (.inr (.inl ⟨r, hp, hf⟩)))),
    fun hr hf => barred hu hb (Command.permits_eq_false (.inr (.inr (.inr ⟨hr, hf⟩)))), fun hc hp => ?_,
    fun hr ha hd => exec_dry hrow hu hb hr ha hd⟩, fun hs => ⟨fun _ _ _ h => exec_done hrow hs h, fun _ _ _ h => exec_part hrow hs h,
    fun _ h => exec_held hrow hs h⟩⟩
  · rw [exec_commandRow hrow, Command.accept_down hu]
  · rw [exec_commandRow hrow, Command.accept_busy hu hb]
  · have refused {st : Status} (h : c.refuses s p = some st) : refuses st :=
      exec_refused hrow hu hb (by rwa [Packet.scoped_of_frontDoor hp]) (.inl fun r hr => by rw [hp] at hr; cases hr)
    refine ⟨fun h => refused (Command.refuses_of_header hc hp ?_), fun hf hr => ?_⟩
    · exact h.imp_right roomFieldOk_eq_false
    · obtain ⟨htimed, haborted, hparams⟩ := Command.refuses_of_params hc hp hf hr
      exact ⟨fun h => refused (htimed h), fun h => refused (haborted h), fun h hk => refused (hparams h hk)⟩

end Sys2Proof.Machine

/-!
PROOFS. The bodies of the commands that stage a block, in their order of opcodes: what `Obligations.StagedCommands` is assembled from.
-/

namespace Sys2Proof.Machine

/-! ## The records of RING_WEIGHT (R147) -/

/-- Weight and burst of a record are in range for the room or the ring it names. -/
def State.weightOk (s : State) (e : List Byte) : Bool :=
  let target := fld e 0 4
  let whole := decide (target = 0xFFFFFFFF) || (decide (0xF0000000 ≤ target) && decide (target < 0xF0000400))
  decide (1 ≤ fld e 4 1) && (if whole then decide (fld e 5 1 = 0) else s.ringNamed target && decide (1 ≤ fld e 5 1 ∧ fld e 5 1 ≤ 64))

/-- The room that a record acts on; none for the owner and the owner's rings. -/
def weightRoom (e : List Byte) : Option Nat :=
  let target := fld e 0 4
  if target = 0xFFFFFFFF then none
  else if 0xF0000000 ≤ target then some (target - 0xF0000000)
  else if refOwner target then none else some (refRoom target)

theorem State.roomBarred_of_weightRoom {s : State} {e : List Byte} {r : Nat}
    (h : fld e 0 4 ≠ 0xFFFFFFFF → (0xF0000000 ≤ fld e 0 4 → s.roomBarred (fld e 0 4 - 0xF0000000) = none) ∧
      (fld e 0 4 < 0xF0000000 → refOwner (fld e 0 4) = true ∨ s.roomBarred (refRoom (fld e 0 4)) = none))
    (hr : weightRoom e = some r) : s.roomBarred r = none := by
  unfold weightRoom at hr
  dsimp only at hr
  split at hr
  · cases hr
  next hall =>
    obtain ⟨hroom, hring⟩ := h hall
    split at hr
    next hhigh => exact Option.some.inj hr ▸ hroom hhigh
    next hlow =>
      split at hr
      · cases hr
      next howner => exact Option.some.inj hr ▸ (hring (Nat.lt_of_not_le hlow)).resolve_left howner

section
variable {x : Ctx} {s : State} {bs : List Byte} (hp : x.pkt.params = bs)
include hp

/-! ## The device and its rooms (R36, R104, R109, R111) -/

theorem deviceProfile_body (h : s.gen.locked = false ∧ (fld bs 0 1 = 1 ∨ fld bs 0 1 = 2)) :
    cmdDeviceProfile.body x s = .done .ok [] (s.stage 0x0006 0 bs) := by
  obtain ⟨hl, hk⟩ := h
  have hknown : ¬ (fld bs 0 1 ≠ 1 ∧ fld bs 0 1 ≠ 2) := by omega
  simp only [cmdDeviceProfile, hp, hl, Bool.false_eq_true, if_false, if_neg hknown, Out.of]

theorem roomFurnish_body (h : (s.room x.pkt.room).state = .vacant ∧ s.runningOn 0x0108 x.pkt.room = none ∧ s.sr.debugLevel = 0 ∧
    furnishRefused (Limits.of bs) (s.otherLimits x.pkt.room) s.profileNow s.sramUnitsMax = none) :
    cmdRoomFurnish.body x s = .done .ok [] (s.stage 0x0101 x.pkt.room bs) := by
  obtain ⟨hv, hrun, hd, hl⟩ := h
  simp [cmdRoomFurnish, hp, hv, hrun, hd, hl, Out.of]

theorem roomMsgSet_body (h : s.roomBarred x.pkt.room = none ∧ s.unfurnished x.pkt.room = false ∧
    ∀ e, e ∈ recordsOf bs 0 16 16 → fld e 0 8 % 4 = 0) :
    cmdRoomMsgSet.body x s = .done .ok [] (s.stage 0x010B x.pkt.room bs) := by
  obtain ⟨hb, hu, ha⟩ := h
  have hall : (recordsOf bs 0 16 16).all (fun e => decide (fld e 0 8 % 4 = 0)) = true :=
    List.all_eq_true.mpr fun e he => decide_eq_true (ha e he)
  simp only [cmdRoomMsgSet, hp, hb, hu, hall, Bool.not_true, Bool.false_eq_true, if_false, Out.of]

theorem roomPolicy_body (h : s.roomBarred x.pkt.room = none ∧ s.unfurnished x.pkt.room = false ∧
    100 ≤ fld bs 0 4 ∧ fld bs 0 4 ≤ 10000 ∧ fld bs 0 4 % 100 = 0 ∧ fld bs 4 1 ≤ 1 ∧ fld bs 5 1 ≤ 1 ∧ fld bs 6 1 ≤ 1 ∧
    (fld bs 8 4 = 0 ∨ (16 ≤ fld bs 8 4 ∧ fld bs 8 4 ≤ 4096))) :
    cmdRoomPolicy.body x s = .done .ok [] (s.stage 0x010C x.pkt.room bs) := by
  obtain ⟨hb, hu, hrange⟩ := h
  have hin : ¬ (fld bs 0 4 < 100 ∨ 10000 < fld bs 0 4 ∨ fld bs 0 4 % 100 ≠ 0 ∨ fld bs 4 1 > 1 ∨ fld bs 5 1 > 1 ∨ fld bs 6 1 > 1 ∨
      (fld bs 8 4 ≠ 0 ∧ (fld bs 8 4 < 16 ∨ 4096 < fld bs 8 4))) := by omega
  simp only [cmdRoomPolicy, hp, hb, hu, if_neg hin, Bool.false_eq_true, if_false, Out.of]

/-! ## Rings (R128 to R130, R147, R158) -/

theorem ringCreate_body {data : List Byte} {u : State} (h : s.roomBarred x.pkt.room = none ∧ fld bs 0 8 % 4096 = 0 ∧
    (x.pkt.room = 0xFFFF → fld bs 0 8 = 0) ∧
    stageRings x.pkt.room (bs.take 8) (recordsOf bs 16 32 (fld bs 8 4)) s = some (data, u)) :
    cmdRingCreate.body x s = .done .ok data u := by
  obtain ⟨hb, ha, hm, hst⟩ := h
  have hmirror : ¬ (fld bs 0 8 % 4096 ≠ 0 ∨ (x.pkt.room = 0xFFFF ∧ fld bs 0 8 ≠ 0)) := by
    rintro (hn | ⟨hr, hn⟩)
    · exact hn ha
    · exact hn (hm hr)
  simp only [cmdRingCreate, hp, hb, if_neg hmirror, hst]

theorem ringDestroy_body (h : s.refsRefused x.pkt (ringRefs bs 4) = none ∧ ∀ ref, ref ∈ ringRefs bs 4 → (s.ring ref).enabled = false) :
    cmdRingDestroy.body x s =
      .done .ok [] ((ringRefs bs 4).foldl (fun s ref => s.stage 0x0201 ref (countOne 2 8 ++ leBytes ref 4)) s) := by
  obtain ⟨hr, hoff⟩ := h
  have hnone : (ringRefs bs 4).any (fun ref => (s.ring ref).enabled) = false :=
    List.any_eq_false.mpr fun ref hm => by simp [hoff ref hm]
  simp only [cmdRingDestroy, hp, hr, hnone, Bool.false_eq_true, if_false, Out.of]

theorem ringWeight_body (h : ∀ e, e ∈ recordsOf bs 8 8 (fld bs 0 2) →
    1 ≤ fld e 4 1 ∧ (if fld e 0 4 = 0xFFFFFFFF ∨ (0xF0000000 ≤ fld e 0 4 ∧ fld e 0 4 < 0xF0000400) then fld e 5 1 = 0
      else s.ringNamed (fld e 0 4) = true ∧ 1 ≤ fld e 5 1 ∧ fld e 5 1 ≤ 64) ∧
    (fld e 0 4 ≠ 0xFFFFFFFF → (0xF0000000 ≤ fld e 0 4 → s.roomBarred (fld e 0 4 - 0xF0000000) = none) ∧
      (fld e 0 4 < 0xF0000000 → refOwner (fld e 0 4) = true ∨ s.roomBarred (refRoom (fld e 0 4)) = none))) :
    cmdRingWeight.body x s =
      .done .ok [] (s.stageRecs 0x0205 (countOne 2 8) (fun e => fld e 0 4) (recordsOf bs 8 8 (fld bs 0 2))) := by
  have hall : (recordsOf bs 8 8 (fld bs 0 2)).all s.weightOk = true := by
    refine List.all_eq_true.mpr fun e he => ?_
    obtain ⟨hw, hb, -⟩ := h e he
    simp only [State.weightOk, Bool.or_eq_true, Bool.and_eq_true, decide_eq_true_eq, hw, true_and]
    by_cases hwhole : fld e 0 4 = 0xFFFFFFFF ∨ (0xF0000000 ≤ fld e 0 4 ∧ fld e 0 4 < 0xF0000400)
    · rw [if_pos hwhole] at hb ⊢
      exact decide_eq_true hb
    · rw [if_neg hwhole] at hb ⊢
      simpa using hb
  have hfree : ((recordsOf bs 8 8 (fld bs 0 2)).filterMap weightRoom).findSome? s.roomBarred = none := by
    simp only [List.findSome?_eq_none_iff, List.mem_filterMap]
    rintro r ⟨e, he, hr⟩
    obtain ⟨-, -, hroom⟩ := h e he
    exact State.roomBarred_of_weightRoom hroom hr
  delta State.weightOk at hall
  delta weightRoom at hfree
  simp only [cmdRingWeight, hp, hall, hfree, Bool.not_true, Bool.false_eq_true, if_false, Out.of]

/-! ## Ports (R176, R601) -/

theorem portConfig_body (h : portConfigOk bs (((List.range 4).filter fun i => decide (i ≠ fld bs 0 1)).map fun i => s.built 0x0300 i) = true) :
    cmdPortConfig.body x s = .done .ok [] (s.stage 0x0300 (fld bs 0 1) bs) := by
  simp only [cmdPortConfig, hp, h, if_true, Out.of]

theorem portPtp_body (h : fld bs 0 1 ≤ 3 ∧ fld bs 1 1 ≤ 2 ∧ fld bs 2 1 ≤ 2 ∧ fld bs 3 1 ≤ 1 ∧ fld bs 4 4 ≤ 1000000 ∧
    fld bs 8 4 ≤ 1000000) : cmdPortPtp.body x s = .done .ok [] (s.stage 0x0303 (fld bs 0 1) bs) := by
  have hin : ¬ (3 < fld bs 0 1 ∨ 2 < fld bs 1 1 ∨ 2 < fld bs 2 1 ∨ 1 < fld bs 3 1 ∨ 1000000 < fld bs 4 4 ∨ 1000000 < fld bs 8 4) := by
    omega
  simp only [cmdPortPtp, hp, if_neg hin, Out.of]

/-! ## Classification, tunnels and mirrors (R202, R207, R223, R229, R241, R247) -/

theorem clsBankSelect_body (h : ∀ b, b ∈ bs → b.toNat ≤ 1) : cmdClsBankSelect.body x s = .done .ok [] (s.stage 0x0401 0 bs) := by
  have hnone : (bs.any fun b => decide (1 < b.toNat)) = false :=
    List.any_eq_false.mpr fun b hb => by simpa using h b hb
  simp only [cmdClsBankSelect, hp, hnone, Bool.false_eq_true, if_false, Out.of]

theorem clsKeyProfile_body (h : keyProfileOk bs = true) : cmdClsKeyProfile.body x s =
    .done .ok [] (s.stage 0x0402 (fld bs 0 1 * 256 + fld bs 1 1) (bs.take (if fld bs 0 1 = 1 then 196 else 28))) := by
  simp only [cmdClsKeyProfile, hp, h, if_true, Out.of]

theorem clsHashSet_body (h : fld bs 0 1 < 64 ∧ fld bs 1 1 ≤ 3 ∧ fld bs 2 1 ≤ 3 ∧ fld bs 4 2 < 1024 ∧
    (fld bs 6 2 < 1024 ∨ fld bs 6 2 = 0xFFFF) ∧ (fld bs 1 1 = 3 → s.profileNow ≠ 2)) :
    cmdClsHashSet.body x s = .done .ok [] (s.stage 0x0403 (fld bs 0 1) bs) := by
  have hin : ¬ (fld bs 0 1 ≥ 64 ∨ 3 < fld bs 1 1 ∨ 3 < fld bs 2 1 ∨ fld bs 4 2 ≥ 1024 ∨ (fld bs 6 2 ≥ 1024 ∧ fld bs 6 2 ≠ 0xFFFF) ∨
      (fld bs 1 1 = 3 ∧ s.profileNow = 2)) := by omega
  simp only [cmdClsHashSet, hp, if_neg hin, Out.of]

theorem clsException_body (h : fld bs 0 1 ≤ 2 ∧ fld bs 1 1 ≤ 2 ∧ 1 ≤ fld bs 2 1 ∧ fld bs 2 1 ≤ 2 ∧
    ∀ i, i < 6 → fld bs (8 + 4 * i) 4 < 65536) : cmdClsException.body x s = .done .ok [] (s.stage 0x0404 0 bs) := by
  obtain ⟨h0, h1, h2, h3, hrec⟩ := h
  have hall : ((List.range 6).all fun i => decide (fld bs (8 + 4 * i) 4 < 65536)) = true :=
    List.all_eq_true.mpr fun i hi => decide_eq_true (hrec i (List.mem_range.mp hi))
  have hin : ¬ (2 < fld bs 0 1 ∨ 2 < fld bs 1 1 ∨ fld bs 2 1 < 1 ∨ 2 < fld bs 2 1) := by omega
  simp only [cmdClsException, hp, hall, Bool.not_true, Bool.false_eq_true, or_false, if_neg hin, Out.of]

theorem clsTunnel_body (h : fld bs 0 1 ≤ 2 ∧ ∀ e, e ∈ recordsOf bs 8 (tunnelSize (fld bs 0 1)) (fld bs 2 2) →
    tunnelRecOk s.builtSettings (fld bs 0 1) e = true) : cmdClsTunnel.body x s =
      .done .ok [] (s.stageRecs 0x0405 (leBytes (fld bs 0 1) 1 ++ pad 1 ++ leBytes 1 2 ++ pad 4) (fun e => fld bs 0 1 * 2 ^ 24 + fld e 0 2)
        (recordsOf bs 8 (tunnelSize (fld bs 0 1)) (fld bs 2 2))) := by
  obtain ⟨hk, hrec⟩ := h
  have hall : (recordsOf bs 8 (tunnelSize (fld bs 0 1)) (fld bs 2 2)).all (tunnelRecOk s.builtSettings (fld bs 0 1)) = true :=
    List.all_eq_true.mpr hrec
  simp only [cmdClsTunnel, hp, hall, Nat.not_lt.mpr hk, Bool.not_true, Bool.false_eq_true, or_self, if_false, Out.of]

theorem clsMirror_body (h : ∀ e, e ∈ recordsOf bs 8 32 (fld bs 0 1) → mirrorOk e = true) : cmdClsMirror.body x s =
    .done .ok [] (s.stageRecs 0x0406 (countOne 1 8) (fun e => fld e 0 1) (recordsOf bs 8 32 (fld bs 0 1))) := by
  simp only [cmdClsMirror, hp, List.all_eq_true.mpr h, if_true, Out.of]

/-! ## The traffic manager (R268, R280, R281, R283, R289) -/

theorem tmNodeSet_body {u : State} (h : s.stageNodes (recordsOf bs 8 32 (fld bs 0 4)) = (.ok, u)) :
    cmdTmNodeSet.body x s = .done .ok [] u := by
  simp only [cmdTmNodeSet, hp, h, Out.of]

theorem tmPolicerSet_body {u : State} (hu : u = s.stageRecs 0x0502 (countOne 2 8) (fun e => fld e 0 2) (recordsOf bs 8 16 (fld bs 0 2)))
    (h : ∀ e, e ∈ recordsOf bs 8 16 (fld bs 0 2) → policerOk e = true ∧
      (fld e 4 2 ≠ 0xFFFF → roomPolicers u.builtSettings (fld e 4 2) ≤ s.policerLimit (fld e 4 2))) :
    cmdTmPolicerSet.body x s = .done .ok [] u := by
  have hall : (recordsOf bs 8 16 (fld bs 0 2)).all policerOk = true := List.all_eq_true.mpr fun e he => (h e he).1
  have hroom : ((recordsOf bs 8 16 (fld bs 0 2)).any fun e => decide (fld e 4 2 ≠ 0xFFFF) &&
      decide (s.policerLimit (fld e 4 2) < roomPolicers u.builtSettings (fld e 4 2))) = false :=
    List.any_eq_false.mpr fun e he => by simpa using (h e he).2
  simp only [cmdTmPolicerSet, hp, ← hu, hall, hroom, Bool.not_true, Bool.false_eq_true, or_self, if_false, Out.of]

theorem tmTelemetry_body (h : telemetryOk bs = true) : cmdTmTelemetry.body x s = .done .ok [] (s.stage 0x0504 0 bs) := by
  simp only [cmdTmTelemetry, hp, h, if_true, Out.of]

theorem tmGateList_body_now (hn : x.sched = .now) (h : gateListOk bs = true) :
    cmdTmGateList.body x s = .done .ok [] (s.stage 0x0503 (fld bs 0 1) bs) := by
  simp only [cmdTmGateList, hp, h, if_true, State.stageOrCommit, hn, Out.of]

/-! ## Time (R179, R600) -/

theorem periodSet_body_now (hn : x.sched = .now) (h : 1000 ≤ fld bs 0 4 ∧ fld bs 0 4 ≤ 1000000 ∧ fld bs 8 8 < fld bs 0 4 * 1000) :
    cmdPeriodSet.body x s = .done .ok [] (s.stage 0x0602 0 bs) := by
  have hok : periodOk bs = true := by
    simp only [periodOk, Bool.and_eq_true, decide_eq_true_eq]
    omega
  simp only [cmdPeriodSet, hp, hok, if_true, State.stageOrCommit, hn, Out.of]

theorem syncConfig_body (h : fld bs 4 4 ≤ 100000) : cmdSyncConfig.body x s = .done .ok [] (s.stage 0x0603 0 bs) := by
  simp only [cmdSyncConfig, hp, if_neg (Nat.not_lt.mpr h), gt_iff_lt, Out.of]

end

/-! ## The staged commands -/

/-- Settles O22: each body stages its block once its checks pass. -/
theorem stagedCommands : Obligations.StagedCommands := by
  unfold Obligations.StagedCommands
  intro p s bs r policed stagesAs stages
  have hp (c : Command) : (c.context p).pkt.params = bs := Packet.scoped_params p
  exact ⟨fun hs h => exec_done rfl hs (deviceProfile_body (hp _) h), fun hs h => exec_done rfl hs (roomFurnish_body (hp _) h),
    fun hs h => exec_done rfl hs (roomMsgSet_body (hp _) h), fun hs h => exec_done rfl hs (roomPolicy_body (hp _) h),
    fun _ _ hs h => exec_done rfl hs (ringCreate_body (hp _) h),
    fun hs h => exec_done rfl hs (ringDestroy_body (hp _) ⟨h.1, fun ref hm => (h.2 ref hm).1⟩),
    fun hs h => exec_done rfl hs (ringWeight_body (hp _) h), fun hs h => exec_done rfl hs (portConfig_body (hp _) h),
    fun hs h => exec_done rfl hs (portPtp_body (hp _) h), fun hs h => exec_done rfl hs (clsBankSelect_body (hp _) h),
    fun hs h => exec_done rfl hs (clsKeyProfile_body (hp _) h), fun hs h => exec_done rfl hs (clsHashSet_body (hp _) h),
    fun hs h => exec_done rfl hs (clsException_body (hp _) h), fun hs h => exec_done rfl hs (clsTunnel_body (hp _) h),
    fun hs h => exec_done rfl hs (clsMirror_body (hp _) h), fun _ hs h => exec_done rfl hs (tmNodeSet_body (hp _) h),
    fun hs h => exec_done rfl hs (tmPolicerSet_body (hp _) rfl h), fun hs h => exec_done rfl hs (tmTelemetry_body (hp _) h),
    fun hs h => exec_done rfl hs (syncConfig_body (hp _) h), fun hs h => exec_done rfl hs (tmGateList_body_now (hp _) rfl h),
    fun hs h => exec_done rfl hs (periodSet_body_now (hp _) rfl h)⟩

end Sys2Proof.Machine

/-!
PROOFS. The bodies of the commands that stage storage, memory, power and thread settings: what `Obligations.StagedStoreCommands` is
assembled from.
-/

namespace Sys2Proof.Machine

section
variable {x : Ctx} {s : State} {bs : List Byte} (hp : x.pkt.params = bs)
include hp

/-! ## Volumes (R484, R487, R506) -/

theorem volCreate_body_new (h : fld bs 2 1 = 0 ∧ s.volCreateOk bs = true) :
    cmdVolCreate.body x s = .done .ok [] (s.stage 0x0900 (fld bs 0 2) bs) := by
  obtain ⟨hop, hok⟩ := h
  simp only [cmdVolCreate, hp, hop, hok, if_true, Out.of]

theorem volCreate_body_replaces {v : Volume} (h : fld bs 2 1 = 1 ∧ s.volReplaceOk bs = true ∧ s.volume (fld bs 0 2) = some v) :
    cmdVolCreate.body x s = .done .ok [] (s.stage 0x0900 (fld bs 0 2 + 256 * (v.replaced bs + 1)) bs) := by
  obtain ⟨hop, hok, hv⟩ := h
  simp only [cmdVolCreate, hp, hop, hok, hv, if_true, Out.of]

theorem volDestroy_body {v : Volume} (h : s.volume (fld bs 0 2) = some v ∧
    (∀ e, e ∈ s.store.spaces → e.2.vol = fld bs 0 2 → e.2.gone = true ∨ (s.stagedAt 0x0903 e.1).isSome = true) ∧
    (∀ c, c ∈ s.gen.staged → keyOp c.1 = 0x0902 → fld c.2 2 1 = 0 → fld c.2 4 2 ≠ fld bs 0 2) ∧
    (bit v.flags 7 = true → s.store.rope.held = false) ∧ ∀ b, b ∈ s.store.batches → b.2.uses (fld bs 0 2) = false) :
    cmdVolDestroy.body x s = .done .ok [] (s.stage 0x0901 (fld bs 0 2) bs) := by
  obtain ⟨hv, hspaces, hstaged, hrope, hbatches⟩ := h
  have hempty : (s.store.spaces.any fun e => decide (e.2.vol = fld bs 0 2) && !e.2.gone && (s.stagedAt 0x0903 e.1).isNone) = false := by
    refine List.any_eq_false.mpr fun e he hon => ?_
    simp only [Bool.and_eq_true, decide_eq_true_eq, Bool.not_eq_true', Option.isNone_iff_eq_none] at hon
    obtain ⟨⟨hvol, hgone⟩, hdel⟩ := hon
    rcases hspaces e he hvol with h | h
    · rw [hgone] at h; cases h
    · rw [hdel] at h; cases h
  have hnew : (s.gen.staged.any fun c => decide (keyOp c.1 = 0x0902) && decide (fld c.2 2 1 = 0) && decide (fld c.2 4 2 = fld bs 0 2)) =
      false := by
    refine List.any_eq_false.mpr fun c hc hon => ?_
    simp only [Bool.and_eq_true, decide_eq_true_eq] at hon
    obtain ⟨⟨hop, hcreate⟩, hvol⟩ := hon
    exact hstaged c hc hop hcreate hvol
  have hseal : ¬ (bit v.flags 7 = true ∧ s.store.rope.held = true) := fun hb => by simp [hrope hb.1] at hb
  have hidle : (s.store.batches.any fun b => b.2.uses (fld bs 0 2)) = false :=
    List.any_eq_false.mpr fun b hb => Bool.eq_false_iff.mp (hbatches b hb)
  simp only [cmdVolDestroy, hp, hv, hempty, hnew, hseal, hidle, Bool.or_self, Bool.false_eq_true, or_self, if_false, Out.of]

/-! ## Namespaces (R488, R489) -/

theorem nsCreate_body_new (h : s.roomResets (fld bs 6 2) = false ∧ fld bs 2 1 = 0 ∧ s.space (fld bs 0 2) = none ∧ fld bs 0 2 < 4096 ∧
    1 ≤ fld bs 0x10 8 ∧ fld bs 0x10 8 ≤ 2 ^ 48 ∧ s.nsPlaceOk (fld bs 0 2) (fld bs 6 2) (fld bs 8 2) = true ∧
    (((s.volume (fld bs 4 2)).isSome = true ∧ s.stagedAt 0x0901 (fld bs 4 2) = none) ∨ (s.stagedAt 0x0900 (fld bs 4 2)).isSome = true)) :
    cmdNsCreate.body x s = .done .ok [] (s.stage 0x0902 (fld bs 0 2) bs) := by
  obtain ⟨hstill, hop, hfree, hn, hlo, hhi, hplace, hvol⟩ := h
  have hv : (((s.volume (fld bs 4 2)).isSome && (s.stagedAt 0x0901 (fld bs 4 2)).isNone) || (s.stagedAt 0x0900 (fld bs 4 2)).isSome) =
      true := by
    simpa only [Bool.or_eq_true, Bool.and_eq_true, Option.isNone_iff_eq_none] using hvol
  simp only [cmdNsCreate, hp, hop, hfree, hn, hlo, hhi, hplace, hv, hstill, and_self, decide_true, Bool.and_self, Bool.not_true,
    Bool.false_eq_true, if_false, if_true, Out.of]

theorem nsCreate_body_assigns {sp : Space} (h : s.roomResets (fld bs 6 2) = false ∧ fld bs 2 1 = 1 ∧ s.space (fld bs 0 2) = some sp ∧
    sp.gone = false ∧ sp.room = noRoom ∧ fld bs 6 2 ≠ 0xFFFF ∧ s.nsPlaceOk (fld bs 0 2) (fld bs 6 2) (fld bs 8 2) = true) :
    cmdNsCreate.body x s = .done .ok [] (s.stage 0x0902 (fld bs 0 2 + 4096) bs) := by
  obtain ⟨hstill, hop, hsp, hg, hroom, hr, hplace⟩ := h
  simp [cmdNsCreate, hp, hop, hsp, hg, hroom, hr, hplace, hstill, Out.of]

theorem nsCreate_body_detaches {sp : Space} (h : s.roomResets (fld bs 6 2) = false ∧ fld bs 2 1 = 2 ∧ s.space (fld bs 0 2) = some sp ∧
    sp.gone = false ∧ sp.room ≠ noRoom) : cmdNsCreate.body x s = .done .ok [] (s.stage 0x0902 (fld bs 0 2 + 4096) bs) := by
  obtain ⟨hstill, hop, hsp, hg, hroom⟩ := h
  simp [cmdNsCreate, hp, hop, hsp, hg, hroom, hstill, Out.of]

theorem nsDelete_body {sp : Space} (h : s.space (fld bs 0 2) = some sp ∧ sp.gone = false ∧ (bit (fld bs 2 1) 0 = true ∨
    ∀ v, s.volume sp.vol = some v → ∀ e, e ∈ v.extents → e.ns ≠ fld bs 0 2)) :
    cmdNsDelete.body x s = .done .ok [] (s.stage 0x0903 (fld bs 0 2) bs) := by
  obtain ⟨hsp, hg, hfree⟩ := h
  have hempty : ¬ (!bit (fld bs 2 1) 0 &&
      (match s.volume sp.vol with | some v => v.extents.any fun e => decide (e.ns = fld bs 0 2) | none => false)) = true := by
    rcases hfree with hforce | hnone
    · simp [hforce]
    · cases hv : s.volume sp.vol with
      | none => simp
      | some v =>
        have hany : (v.extents.any fun e => decide (e.ns = fld bs 0 2)) = false :=
          List.any_eq_false.mpr fun e he => by simpa using hnone v hv e he
        simp [hany]
  simp only [cmdNsDelete, hp, hsp, hg, Bool.false_eq_true, if_false, Out.of]
  exact if_neg hempty

/-! ## The journal, sweeps and NVMe over TCP (R449, R451, R492, R497, R507) -/

theorem journalSet_body {gib : Nat} (hgib : gib = if fld bs 8 2 = 0 then s.store.ringGib else fld bs 8 2)
    (h : fld bs 0 1 ≠ fld bs 1 1 ∧ 4 ≤ gib ∧ gib ≤ 256 ∧ (100 ≤ fld bs 0x0C 4 ∧ fld bs 0x0C 4 ≤ 30000) ∧
      s.journalDriveOk (fld bs 0 1) gib (bit (fld bs 2 1) 7) = true ∧ s.journalDriveOk (fld bs 1 1) gib (bit (fld bs 2 1) 7) = true ∧
      (s.store.path < 2 ∨ s.serialOf (fld bs 0 1) ∈ s.store.journal ∨ s.serialOf (fld bs 1 1) ∈ s.store.journal)) :
    cmdJournalSet.body x s = .done .ok [] (s.stage 0x0904 0 bs) := by
  obtain ⟨hne, hlo, hhi, hms, ha, hb, hkeeps⟩ := h
  have hrange : ¬ (gib < 4 ∨ 256 < gib ∨ fld bs 0x0C 4 < 100 ∨ 30000 < fld bs 0x0C 4) := by omega
  have hstays : ¬ (s.store.path ≥ 2 ∧ (!s.store.journal.contains (s.serialOf (fld bs 0 1))) = true ∧
      (!s.store.journal.contains (s.serialOf (fld bs 1 1))) = true) := by
    simp only [Bool.not_eq_true', List.contains_eq_mem, decide_eq_false_iff_not]
    rintro ⟨hopen, hna, hnb⟩
    rcases hkeeps with h | h | h
    · exact absurd hopen (Nat.not_le.mpr h)
    · exact hna h
    · exact hnb h
  simp only [cmdJournalSet, hp, ← hgib, ha, hb, hne, hrange, hstays, Bool.and_self, Bool.not_true, Bool.false_eq_true, or_self, if_false,
    Out.of]

theorem sweepSet_body (h : ∀ e, e ∈ recordsOf bs 8 16 (fld bs 0 2) → s.sweepRecOk e = true ∧
    (bit (fld e 2 1) 7 = true → fld e 4 2 + s.batchShare (fld e 0 2) ≤ 500)) : cmdSweepSet.body x s =
      .done .ok [] (s.stageRecs 0x0906 (countOne 2 8) (fun e => fld e 0 2) (recordsOf bs 8 16 (fld bs 0 2))) := by
  have hall : (recordsOf bs 8 16 (fld bs 0 2)).all s.sweepRecOk = true := List.all_eq_true.mpr fun e he => (h e he).1
  have hshare : ((recordsOf bs 8 16 (fld bs 0 2)).all fun e =>
      !bit (fld e 2 1) 7 || decide (fld e 4 2 + s.batchShare (fld e 0 2) ≤ 500)) = true := by
    refine List.all_eq_true.mpr fun e he => ?_
    cases hb : bit (fld e 2 1) 7 with
    | false => rfl
    | true => exact decide_eq_true ((h e he).2 hb)
  simp only [cmdSweepSet, hp, hall, hshare, Bool.and_self, if_true, Out.of]

theorem nvmtSet_body {u : State} (h : (recordsOf bs 8 640 (fld bs 0 2)).foldl (fun (o : Option State) e => o.bind fun s => s.stageNvmt e)
    (some s) = some u) : cmdNvmtSet.body x s = .done .ok [] u := by
  have hfold {f : Option State → List Byte → Option State} (hf : ∀ o e, f o e = o.bind fun s => s.stageNvmt e) :
      (recordsOf bs 8 640 (fld bs 0 2)).foldl f (some s) = some u := by
    rw [← h, show f = _ from funext fun o => funext (hf o)]
  simp only [cmdNvmtSet, hp, Out.of]
  rw [hfold]
  intro o e
  cases o <;> rfl

/-! ## Memory regions, power, threads and the annex (R303, R324, R520, R550) -/

theorem memRegionSet_body (h : fld bs 0 2 ≤ 4096) : cmdMemRegionSet.body x s = .done .ok [] (s.stage 0x0A01 0 bs) := by
  simp only [cmdMemRegionSet, hp, if_neg (Nat.not_lt.mpr h), Out.of]

theorem pwrPolicy_body (h : (1 ≤ fld bs 0 4 ∧ fld bs 0 4 ≤ 100000) ∧ (100 ≤ fld bs 4 4 ∧ fld bs 4 4 ≤ 10000000) ∧
    (1 ≤ fld bs 8 2 ∧ fld bs 8 2 ≤ 1000) ∧ fld bs 0x0B 1 ∈ [1, 2, 4, 8, 16] ∧ (100 ≤ fld bs 0x0C 2 ∧ fld bs 0x0C 2 ≤ 240) ∧
    (85 ≤ fld bs 0x0E 1 ∧ fld bs 0x0E 1 ≤ 100) ∧ (0 ≤ fld bs 0x10 4 ∧ fld bs 0x10 4 ≤ 86400)) :
    cmdPwrPolicy.body x s = .done .ok [] (s.stage 0x0B01 0 bs) := by
  obtain ⟨hbudget, hidle, hwake, hwidth, htemp, hshare, htimer⟩ := h
  have hw : [1, 2, 4, 8, 16].contains (fld bs 0x0B 1) = true := List.contains_iff_mem.mpr hwidth
  simp only [cmdPwrPolicy, hp, hbudget, hidle, hwake, hw, htemp, hshare, htimer, decide_true, Bool.and_self, if_true, Out.of]

theorem dbgStallPolicy_body (h : ∀ e, e ∈ recordsOf bs 8 16 (fld bs 0 2) → stallRecOk e = true) : cmdDbgStallPolicy.body x s =
    .done .ok [] (s.stageRecs 0x0C04 (countOne 2 8) (fun e => fld e 0 2) (recordsOf bs 8 16 (fld bs 0 2))) := by
  simp only [cmdDbgStallPolicy, hp, List.all_eq_true.mpr h, Bool.not_true, Bool.false_eq_true, if_false, Out.of]

theorem annexCores_body (h : (annexList bs).eraseDups.length = (annexList bs).length ∧
    ∀ c, c ∈ annexList bs → c < 256 ∧ 32 ≤ c % 64 ∧ c % 64 ≤ 47 ∧ s.coreOnStair c = false) :
    cmdAnnexCores.body x s = .done .ok [] (s.stage 0x0D04 0 bs) := by
  obtain ⟨hdistinct, hcores⟩ := h
  have hfree : ((annexList bs).all fun c => decide (c < 256) && decide (32 ≤ c % 64 ∧ c % 64 ≤ 47) && !s.coreOnStair c) = true := by
    refine List.all_eq_true.mpr fun c hc => ?_
    obtain ⟨hn, hlo, hhi, hstair⟩ := hcores c hc
    simp only [hn, hlo, hhi, hstair, and_self, decide_true, Bool.not_false, Bool.and_self]
  simp only [cmdAnnexCores, hp, hfree, hdistinct, ne_eq, not_true, Bool.not_true, Bool.false_eq_true, or_self, if_false, Out.of]

end

/-! ## The staged commands of storage, memory, power and threads -/

/-- Settles O23: each body stages its block once its checks pass. -/
theorem stagedStoreCommands : Obligations.StagedStoreCommands := by
  unfold Obligations.StagedStoreCommands
  intro p s bs stagesAs stages gib within still
  have hp (c : Command) : (c.context p).pkt.params = bs := Packet.scoped_params p
  exact ⟨fun hs h => exec_done rfl hs (volCreate_body_new (hp _) h), fun _ hs h => exec_done rfl hs (volCreate_body_replaces (hp _) h),
    fun _ hs h => exec_done rfl hs (volDestroy_body (hp _) h), fun hs h => exec_done rfl hs (nsCreate_body_new (hp _) h),
    fun _ hs h => exec_done rfl hs (nsCreate_body_assigns (hp _) h), fun _ hs h => exec_done rfl hs (nsCreate_body_detaches (hp _) h),
    fun _ hs h => exec_done rfl hs (nsDelete_body (hp _) h), fun hs h => exec_done rfl hs (journalSet_body (hp _) rfl h),
    fun hs h => exec_done rfl hs (sweepSet_body (hp _) h), fun _ hs h => exec_done rfl hs (nvmtSet_body (hp _) h),
    fun hs h => exec_done rfl hs (memRegionSet_body (hp _) h), fun hs h => exec_done rfl hs (pwrPolicy_body (hp _) h),
    fun hs h => exec_done rfl hs (dbgStallPolicy_body (hp _) h), fun hs h => exec_done rfl hs (annexCores_body (hp _) h)⟩

end Sys2Proof.Machine

/-!
PROOFS. Fields of reply data and the bodies of the queries: what `Obligations.QueryCommands` is assembled from.
-/

namespace Sys2Proof.Machine

/-! ## Fields of concatenated byte strings -/

@[simp] theorem length_pad (n : Nat) : (pad n).length = n := List.length_replicate ..

theorem length_flatMap_of_const {f : Nat → List Byte} {k : Nat} (h : ∀ i, (f i).length = k) (l : List Nat) :
    (l.flatMap f).length = k * l.length := by
  induction l with
  | nil => rfl
  | cons i l ih => rw [List.flatMap_cons, List.length_append, h, ih, List.length_cons, Nat.mul_succ, Nat.add_comm]

theorem fld_append_left {a : List Byte} (b : List Byte) {off n : Nat} (h : off + n ≤ a.length) : fld (a ++ b) off n = fld a off n := by
  have hoff : off ≤ a.length := by omega
  have hn : n ≤ (a.drop off).length := by
    rw [List.length_drop]
    omega
  rw [fld, fld, List.drop_append_of_le_length hoff, List.take_append_of_le_length hn]

theorem fld_append_right {a b : List Byte} {off n : Nat} (h : a.length ≤ off) : fld (a ++ b) off n = fld b (off - a.length) n := by
  rw [fld, fld, List.drop_append, List.drop_eq_nil_of_le h, List.nil_append]

theorem fld_leBytes (v n : Nat) : fld (leBytes v n) 0 n = v % 256 ^ n := by
  rw [fld, List.drop_zero, List.take_of_length_le (Nat.le_of_eq (length_leBytes v n)), leNat_leBytes]

theorem fld_fit {bs : List Byte} {off n k : Nat} (h : off + k ≤ n) (hb : off + k ≤ bs.length) : fld (fit bs n) off k = fld bs off k := by
  rw [fld, fld, fit, List.drop_take, List.take_take, Nat.min_eq_left (by omega)]
  exact fld_append_left (pad (n - bs.length)) hb

/-! ## DEV_IDENTIFY and DEV_STATUS (R86) -/

theorem State.identity_fields (s : State) : fld s.identity 0 8 = s.sr.fuses.serial % 2 ^ 64 ∧ fld s.identity 8 2 = 0x1FA7 ∧
    fld s.identity 0x0A 2 = 0x3200 ∧ fld s.identity 0x0C 1 = 0x10 ∧ fld s.identity 0x0D 1 = s.profileWord % 4 ∧
    fld s.identity 0x0E 2 = s.roomLimit % 65536 := by
  have hprofile : s.profileWord % 4 % 256 = s.profileWord % 4 := by omega
  simp [State.identity, fld_append_left, fld_append_right, fld_leBytes, hprofile]

theorem State.deviceStatus_fields (s : State) : fld s.deviceStatus 0 4 = s.kxStatus % 2 ^ 32 ∧ s.deviceStatus.length = 32 := by
  simp [State.deviceStatus, fld_append_left, fld_leBytes]

/-- In recovery what the units that do not run would show reads 0. -/
theorem State.deviceStatus_recovery {s : State} (h : s.sr.recovery = true) :
    fld s.deviceStatus 4 4 = 0 ∧ fld s.deviceStatus 8 4 = 0 ∧ fld s.deviceStatus 0x10 4 = 0 := by
  simp [State.deviceStatus, h, fld_append_left, fld_append_right, fld_leBytes]

/-! ## CFG_QUERY (R87) -/

section
variable {x : Ctx} {s : State} {bs b : List Byte} (hp : x.pkt.params = bs)
include hp

theorem cfgQuery_body_unknown (h : fld bs 0 2 ∉ queryOps) : cmdCfgQuery.body x s = .done .invalidParam [] s := by
  have hop : queryOps.contains (fld bs 0 2) = false := Bool.eq_false_iff.mpr (mt List.contains_iff_mem.mp h)
  simp only [cmdCfgQuery, hp, hop, Bool.not_false, if_true, Out.of]

section
variable (hop : fld bs 0 2 ∈ queryOps)
include hop

theorem cfgQuery_body_live (hc : fld bs 2 1 = 1) (h : s.settingOf s.gen.cur (fld bs 0 2) (fld bs 4 4) = some b) :
    cmdCfgQuery.body x s = .done .ok b s := by
  simp only [cmdCfgQuery, hp, List.contains_iff_mem.mpr hop, hc, h, Bool.not_true, Bool.false_eq_true, if_false]

theorem cfgQuery_body_staged (hc : fld bs 2 1 = 0) (h : s.stagedOf (fld bs 0 2) (fld bs 4 4) = some b) :
    cmdCfgQuery.body x s = .done .ok b s := by
  simp only [cmdCfgQuery, hp, List.contains_iff_mem.mpr hop, hc, h, Bool.not_true, Bool.false_eq_true, if_false]

/-- Without a staged change the setting in force is answered, with a warning. -/
theorem cfgQuery_body_unstaged (hc : fld bs 2 1 = 0) (hn : s.stagedOf (fld bs 0 2) (fld bs 4 4) = none)
    (h : s.settingOf s.gen.cur (fld bs 0 2) (fld bs 4 4) = some b) : cmdCfgQuery.body x s = .done .okWarn b s := by
  simp only [cmdCfgQuery, hp, List.contains_iff_mem.mpr hop, hc, hn, h, Bool.not_true, Bool.false_eq_true, if_false]

theorem cfgQuery_body_previous (hc : fld bs 2 1 = 2) (hl : s.gen.prevLive = true)
    (h : s.settingOf s.gen.prev (fld bs 0 2) (fld bs 4 4) = some b) : cmdCfgQuery.body x s = .done .ok b s := by
  simp only [cmdCfgQuery, hp, List.contains_iff_mem.mpr hop, hc, hl, h, Bool.not_true, Bool.false_eq_true, if_false, if_true]

theorem cfgQuery_body_retired (hc : fld bs 2 1 = 2) (hl : s.gen.prevLive = false) :
    cmdCfgQuery.body x s = .done .invalidParam [] s := by
  simp only [cmdCfgQuery, hp, List.contains_iff_mem.mpr hop, hc, hl, Bool.not_true, Bool.false_eq_true, if_false, Out.of]

end
end

/-! ## ROOM_QUERY, PORT_QUERY and MEM_ERR_QUERY (R108, R178, R541) -/

theorem roomQuery_body (x : Ctx) (s : State) : ∃ data, cmdRoomQuery.body x s = .done .ok data s ∧ 64 ≤ data.length ∧
    (x.pkt.room < 1024 → fld data 0 4 = s.roomStatus x.pkt.room % 2 ^ 32 ∧
      fld data 8 4 = (s.room x.pkt.room).generation % 2 ^ 32) := by
  by_cases hall : x.pkt.room = 0xFFFF
  · refine ⟨_, if_pos hall, ?_, fun h => by omega⟩
    simp only [List.length_append, length_pad]
    omega
  · refine ⟨_, if_neg hall, ?_, fun _ => ?_⟩
    · simp only [List.length_append, length_fit]
      omega
    · simp [fld_append_left, fld_fit, fld_append_right, fld_leBytes]

theorem portQuery_body {x : Ctx} {s : State} {bs : List Byte} (hp : x.pkt.params = bs) (h : fld bs 0 1 ≤ 3) :
    ∃ data, cmdPortQuery.body x s = .done .ok data { s with draws := s.draws + 1 } ∧
      fld data 0 4 = s.portStatus (fld bs 0 1) % 2 ^ 32 ∧ data.length = 64 := by
  subst hp
  refine ⟨_, if_neg (Nat.not_lt.mpr h), ?_, ?_⟩
  · simp [fld_append_left, fld_leBytes]
  · simp only [List.length_append, length_leBytes, length_fit, length_pad, Time.bytes]
    rw [length_flatMap_of_const (k := 2), List.length_range]
    intro i
    split
    · exact length_leBytes _ 2
    · exact length_pad 2

theorem memErrQuery_body (x : Ctx) (s : State) : ∃ data, cmdMemErrQuery.body x s = .done .ok data s ∧
    fld data 0 4 = s.memory.errLog.length % 2 ^ 32 ∧ fld data 4 4 = s.memory.errLost % 2 ^ 32 := by
  refine ⟨_, rfl, ?_⟩
  simp [fld_append_left, fld_append_right, fld_leBytes]

/-! ## SEAL_STATUS and SEAL_PUBKEYS (R439, R441) -/

theorem sealStatus_body (x : Ctx) (s : State) : ∃ data, cmdSealStatus.body x s = .done .ok data s ∧
    fld data 0 8 = s.openNumber % 2 ^ 64 ∧ fld data 8 8 = s.lastPublished % 2 ^ 64 ∧ data.length = 64 := by
  refine ⟨_, rfl, ?_⟩
  simp [fld_append_left, fld_append_right, fld_leBytes]

/-- The signature draws its secret number, and that is all it changes. -/
theorem sealPubkeys_body (x : Ctx) (s : State) : ∃ data u, cmdSealPubkeys.body x s = .done .ok data u ∧ { u with draws := s.draws } = s ∧
    fld data 0 8 = s.sr.fuses.serial % 2 ^ 64 := by
  refine ⟨_, _, rfl, rfl, ?_⟩
  simp [fld_append_left, fld_leBytes]

/-! ## The queries -/

/-- Settles O25: each body answers its data on the state it found. -/
theorem queryCommands : Obligations.QueryCommands := by
  unfold Obligations.QueryCommands
  intro p s bs answers copyIs
  have hp (c : Command) : (c.context p).pkt.params = bs := Packet.scoped_params p
  refine ⟨⟨fun hs => exec_done rfl hs rfl, s.identity_fields⟩,
    ⟨fun hs => exec_done rfl hs rfl, s.deviceStatus_fields.1, s.deviceStatus_fields.2, State.deviceStatus_recovery⟩,
    fun _ hs hc h => exec_done rfl hs (cfgQuery_body_live (hp _) hc.2 hc.1 h),
    fun _ hs hc h => exec_done rfl hs (cfgQuery_body_staged (hp _) hc.2 hc.1 h),
    fun _ hs hc hn h => exec_done rfl hs (cfgQuery_body_unstaged (hp _) hc.2 hc.1 hn h),
    fun _ hs hc hl h => exec_done rfl hs (cfgQuery_body_previous (hp _) hc.2 hc.1 hl h),
    fun hs hc hl => exec_done rfl hs (cfgQuery_body_retired (hp _) hc.2 hc.1 hl),
    fun hs h => exec_done rfl hs (cfgQuery_body_unknown (hp _) h), fun hs => ?rooms, fun hs h => ?ports, fun hs => exec_done rfl hs rfl,
    fun hs => ?seals, fun hs => ?keys, fun hs => exec_done rfl hs rfl, fun hs => ?errors⟩
  case rooms =>
    obtain ⟨data, hb, hdata⟩ := roomQuery_body (cmdRoomQuery.context p) s
    exact ⟨data, exec_done rfl hs hb, hdata⟩
  case ports =>
    obtain ⟨data, hb, hdata⟩ := portQuery_body (s := s) (hp cmdPortQuery) h
    exact ⟨data, exec_done rfl hs hb, hdata⟩
  case seals =>
    obtain ⟨data, hb, hdata⟩ := sealStatus_body (cmdSealStatus.context p) s
    exact ⟨data, exec_done rfl hs hb, hdata⟩
  case keys =>
    obtain ⟨data, u, hb, hdata⟩ := sealPubkeys_body (cmdSealPubkeys.context p) s
    exact ⟨data, u, exec_done rfl hs hb, hdata⟩
  case errors =>
    obtain ⟨data, hb, hdata⟩ := memErrQuery_body (cmdMemErrQuery.context p) s
    exact ⟨data, exec_done rfl hs hb, hdata⟩

end Sys2Proof.Machine

/-!
PROOFS. The bodies of the commands on time and on stored commands: what `Obligations.TimeCommands` is assembled from.
-/

namespace Sys2Proof.Machine

section
variable {x : Ctx} {s : State} {bs : List Byte} (hp : x.pkt.params = bs)
include hp

/-! ## TIME_SET (R174) -/

section
variable {t : Time} (ht : Time.ofBytes bs 0 = t)
include ht

theorem timeSet_body_invalid (h : t.valid = false) : cmdTimeSet.body x s = .done .invalidParam [] s := by
  simp only [cmdTimeSet, hp, ht, h, Bool.not_false, if_true, Out.of]

theorem timeSet_body_sets (h : t.valid = true) (ha : bit (fld bs 16 1) 0 = true) :
    let u : State := if bit (fld bs 16 1) 1 then { s with time := { s.time with refSel := bit (fld bs 16 1) 2 } } else s
    cmdTimeSet.body x s = .done .ok [] { u.stepTime t with time := { (u.stepTime t).time with isSet := true } } := by
  simp only [cmdTimeSet, hp, ht, h, ha, Bool.not_true, Bool.false_eq_true, if_false, if_true, Out.of]

theorem timeSet_body_selects (h : t.valid = true) (ha : bit (fld bs 16 1) 0 = false) : cmdTimeSet.body x s =
    .done .ok [] (if bit (fld bs 16 1) 1 then { s with time := { s.time with refSel := bit (fld bs 16 1) 2 } } else s) := by
  simp only [cmdTimeSet, hp, ht, h, ha, Bool.not_true, Bool.false_eq_true, if_false, Out.of]

end

/-! ## TIME_ADJUST (R174) -/

theorem timeAdjust_body_steps {u : Time} (h : offsetTime s.now (signed64 (fld bs 8 8)) (fld bs 16 4) = some u) :
    let v := if fld bs 0 8 = 0 then s else s.setReg R.TIME_INCR (BitVec.ofNat 64 (fld bs 0 8))
    cmdTimeAdjust.body x s = .done .ok [] (if zeros bs 8 12 then v else v.stepTime u) := by
  simp only [cmdTimeAdjust, hp, h, Out.of]

theorem timeAdjust_body_refused (h : offsetTime s.now (signed64 (fld bs 8 8)) (fld bs 16 4) = none) :
    cmdTimeAdjust.body x s = .done .invalidParam [] s := by
  simp only [cmdTimeAdjust, hp, h, Out.of]

/-! ## SCHED_CANCEL and SCHED_QUERY (R95) -/

theorem schedCancel_body_unknown (h : ∀ e, e ∈ s.cmd.stored → e.handle ≠ fld bs 0 4) :
    cmdSchedCancel.body x s = .done .invalidParam [] s := by
  have hnone : (s.cmd.stored.find? fun e => decide (e.handle = fld bs 0 4)) = none :=
    List.find?_eq_none.mpr fun e he hh => h e he (of_decide_eq_true hh)
  simp only [cmdSchedCancel, hp, hnone, Out.of]

section
variable {e : Stored} (h : s.cmd.stored.find? (fun e => decide (e.handle = fld bs 0 4)) = some e)
include h

theorem schedCancel_body_hidden (hv : e.seenBy x.pkt.path = false) : cmdSchedCancel.body x s = .done .notPermitted [] s := by
  simp only [cmdSchedCancel, hp, h, hv, Bool.not_false, if_true, Out.of]

theorem schedCancel_body_cancels (hv : e.seenBy x.pkt.path = true) : cmdSchedCancel.body x s =
    .done .ok [] { s with cmd := { s.cmd with stored := s.cmd.stored.filter fun e => decide (e.handle ≠ fld bs 0 4) } } := by
  simp only [cmdSchedCancel, hp, h, hv, Bool.not_true, Bool.false_eq_true, if_false, Out.of]

end

/-- The first field counts the records shown, at most as many as asked for. -/
theorem schedQuery_body (h1 : 1 ≤ fld bs 4 4) (h2 : fld bs 4 4 ≤ 4096) :
    ∃ data, cmdSchedQuery.body x s = .done .ok data s ∧ fld data 0 4 ≤ fld bs 4 4 := by
  subst hp
  have hin : ¬ (fld x.pkt.params 4 4 < 1 ∨ 4096 < fld x.pkt.params 4 4) := by omega
  refine ⟨_, if_neg hin, ?_⟩
  simp only [List.append_assoc]
  rw [fld_append_left _ (by simp), fld_leBytes]
  exact Nat.le_trans (Nat.mod_le _ _) (List.length_take_le ..)

end

/-! ## Offsets (R174) -/

theorem offsetTime_units {t u : Time} {ns : Int} {frac : Nat} (h : offsetTime t ns frac = some u) :
    (u.units : Int) = (t.units : Int) + ns * 2 ^ 32 + frac := by
  unfold offsetTime at h
  dsimp only at h
  split at h
  · cases h
  next hpos =>
    cases h
    rw [Time.units_ofUnits, Int.toNat_of_nonneg (Int.not_lt.mp hpos)]
    rfl

theorem offsetTime_eq_none {t : Time} {ns : Int} {frac : Nat} (h : (t.units : Int) + ns * 2 ^ 32 + frac < 0) :
    offsetTime t ns frac = none := by
  have hneg : (t.units : Int) + ns * (perNs : Nat) + frac < 0 := h
  simp only [offsetTime, if_pos hneg]

/-! ## Commands on time and stored commands -/

/-- Settles O28: each clause is the lemma about the command's body under its hypotheses. -/
theorem timeCommands : Obligations.TimeCommands := by
  unfold Obligations.TimeCommands
  intro p s bs t
  have hp (c : Command) : (c.context p).pkt.params = bs := Packet.scoped_params p
  refine ⟨fun hs => ⟨fun ha ht => ⟨exec_done rfl hs (timeSet_body_sets (hp _) rfl ht ha), congrArg Timekeeper.now (State.stepTime_time _ _)⟩,
      fun ha ht => exec_done rfl hs (timeSet_body_selects (hp _) rfl ht ha)⟩,
    fun hs ht => exec_done rfl hs (timeSet_body_invalid (hp _) rfl ht),
    fun _ hs h => ⟨exec_done rfl hs (timeAdjust_body_steps (hp _) h), offsetTime_units h⟩,
    fun hs h => exec_done rfl hs (timeAdjust_body_refused (hp _) (offsetTime_eq_none h)),
    fun hs => ⟨fun h => exec_done rfl hs (schedCancel_body_unknown (hp _) h),
      fun _ h => ⟨fun hv => exec_done rfl hs (schedCancel_body_hidden (hp _) h hv),
        fun hv => exec_done rfl hs (schedCancel_body_cancels (hp _) h hv)⟩⟩,
    fun hs h1 h2 => ?query⟩
  obtain ⟨data, hb, hdata⟩ := schedQuery_body (s := s) (hp cmdSchedQuery) h1 h2
  exact ⟨data, exec_done rfl hs hb, hdata⟩

end Sys2Proof.Machine

/-!
PROOFS. The bodies of the commands on power, resets, debug and firmware: what `Obligations.DeviceCommands` is assembled from.
-/

namespace Sys2Proof.Machine

section
variable {x : Ctx} {s : State} {bs : List Byte} (hp : x.pkt.params = bs)
include hp

/-! ## PWR_STATE (R550) -/

theorem pwrState_body_invalid (h : 6 < fld bs 0 1) : cmdPwrState.body x s = .done .invalidParam [] s := by
  simp only [cmdPwrState, hp, h, if_true, Out.of]

section
variable {w : Time} (hw : Time.ofBytes bs 8 = w) (hn : fld bs 0 1 ≤ 6) (hv : w.valid = true)
include hw hn hv

/-- While a port is up no depth of Doze or below is taken. -/
theorem pwrState_body_refused (hd : 2 ≤ fld bs 0 1) (h0 : w.units = 0) (hq : s.portsQuiet = false) :
    cmdPwrState.body x s = .done .notPermitted [] s := by
  simp only [cmdPwrState, hp, hw, hv, h0, hq, hd, Nat.not_lt.mpr hn, ne_eq, not_true, decide_false, Bool.not_true, Bool.not_false,
    Bool.or_self, Bool.false_eq_true, false_and, and_self, if_false, if_true, Out.of]

theorem pwrState_body_takes (ht : w.units = 0 ∨ (fld bs 0 1 ≠ 6 ∧ s.now.units < w.units)) (hq : 2 ≤ fld bs 0 1 → s.portsQuiet = true)
    (hd : 3 ≤ fld bs 0 1 → s.power.dipSince = none) :
    let u := if fld bs 0 1 < s.power.ladder ∨ s.power.entering.any (fun e => decide (fld bs 0 1 < e)) = true then s.wake 7 else s
    cmdPwrState.body x s = .done .ok [] { u with power := { u.power with
      target := fld bs 0 1, hold := bit (fld bs 1 1) 0, asked := !bit (fld bs 1 1) 0, wakeAt := if w.units = 0 then none else some w } } := by
  have htimed : (decide (w.units ≠ 0) || !w.valid) = decide (w.units ≠ 0) := by rw [hv, Bool.not_true, Bool.or_false]
  have hcomes : ¬ (decide (w.units ≠ 0) = true ∧ (fld bs 0 1 = 6 ∨ (!w.valid) = true ∨ w.units ≤ s.now.units)) := by
    rw [decide_eq_true_eq, hv, Bool.not_true]
    rintro ⟨hne, h⟩
    obtain ⟨h6, hlt⟩ := ht.resolve_left hne
    rcases h with h | h | h
    · exact h6 h
    · cases h
    · exact absurd hlt (Nat.not_lt.mpr h)
  have hquiet : ¬ (2 ≤ fld bs 0 1 ∧ (!s.portsQuiet) = true) := fun h => by simp [hq h.1] at h
  have hdry : ¬ (3 ≤ fld bs 0 1 ∧ s.power.dipSince.isSome = true) := fun h => by simp [hd h.1] at h
  have hwake : (if decide (w.units ≠ 0) = true then some w else none) = if w.units = 0 then none else some w := by
    simp only [decide_eq_true_eq, ite_not]
  simp only [cmdPwrState, hp, hw, Nat.not_lt.mpr hn, htimed, if_neg hcomes, if_neg hquiet, if_neg hdry, hwake, if_false, Out.of]

end

/-! ## DEV_RESET (R96, R571) -/

theorem devReset_body_warm (h : fld bs 0 1 = 1) (hr : s.sr.recovery = false) (hn : x.sched = .now) :
    cmdDevReset.body x s = .held (s.warmRestart (some .devWarm) [Running.plain x true 0 [] s.clock] false) := by
  simp only [cmdDevReset, hp, h, hr, hn, Bool.false_eq_true, if_false]

theorem devReset_body_cold (h : fld bs 0 1 = 2) : cmdDevReset.body x s = .held ((s.finish x .ok []).coldReset (some .devCold)) := by
  simp only [cmdDevReset, hp, h]

theorem devReset_body_invalid (h1 : fld bs 0 1 ≠ 1) (h2 : fld bs 0 1 ≠ 2) : cmdDevReset.body x s = .done .invalidParam [] s := by
  simp only [cmdDevReset, hp, Out.of]

end

/-! ## DBG_NONCE, DBG_UNLOCK and DBG_LOCK (R385, R386) -/

section
variable {x : Ctx} {s : State}

theorem dbgNonce_body (h : s.sr.entropyFail = false) : cmdDbgNonce.body x s = .done .ok (s.secretBytes 16).1
    { (s.secretBytes 16).2 with sr := { (s.secretBytes 16).2.sr with nonce := some ((s.secretBytes 16).1, s.clock + 600000000000) } } := by
  simp only [cmdDbgNonce, h, Bool.false_eq_true, if_false]

section
variable (hr : s.runningOn 0x0C01 0 = none)
include hr

theorem dbgLock_body_of_zero (h : s.sr.debugLevel = 0) : cmdDbgLock.body x s = .done .ok [] s := by
  simp only [cmdDbgLock, hr, h, Option.isSome_none, Bool.false_eq_true, if_false, Out.of]

theorem dbgLock_body_of_one (h : s.sr.debugLevel = 1) : cmdDbgLock.body x s = .done .ok [] (s.debugTo 0) := by
  simp only [cmdDbgLock, hr, h, Option.isSome_none, Bool.false_eq_true, if_false, Out.of]

theorem dbgLock_body_of_two (h : s.sr.debugLevel = 2) :
    cmdDbgLock.body x s = .held ((s.finish x .ok []).coldReset (some .dbgLock)) := by
  simp only [cmdDbgLock, hr, h, Option.isSome_none, Bool.false_eq_true, if_false]

section
variable {bs : List Byte} (hp : x.pkt.params = bs) (hf : s.sr.dipFrozen = false)
include hp hf

theorem dbgUnlock_body_without_nonce (h : s.sr.nonce = none) :
    cmdDbgUnlock.body x s = .done .notPermitted [] (s.bump R.SR_UNLOCK_FAILED) := by
  simp only [cmdDbgUnlock, hp, hr, hf, h, Option.isSome_none, Bool.false_eq_true, if_false, Bool.not_false, Bool.true_or, if_true, Out.of]

section
variable {ends : Nat} (hn : s.sr.nonce = some (slice bs 0x10 0x20, ends)) (ht : s.clock < ends)
include hn ht

theorem dbgUnlock_body_bad (h : s.tokenHolds bs = false) :
    let used : State := { s with sr := { s.sr with nonce := none, lastNonce := slice bs 0x10 0x20 } }
    cmdDbgUnlock.body x s = .done .notPermitted [] (used.bump R.SR_UNLOCK_FAILED) := by
  simp only [cmdDbgUnlock, hp, hr, hf, hn, ht, h, decide_true, Bool.and_self, Option.isSome_none, Bool.false_eq_true, if_false,
    Bool.not_true, Bool.not_false, Bool.or_true, if_true, Out.of]

section
variable (h : s.tokenHolds bs = true) (hl : s.sr.debugLevel < fld bs 4 1)
include h hl

theorem dbgUnlock_body_one (h1 : fld bs 4 1 = 1) :
    let used : State := { s with sr := { s.sr with nonce := none, lastNonce := slice bs 0x10 0x20 } }
    let taken : State := { used with sr := { used.sr with unlocks := s.sr.unlocks + 1 } }
    cmdDbgUnlock.body x s = .done .ok [] (taken.debugTo 1) := by
  rw [h1] at hl
  simp only [cmdDbgUnlock, hp, hr, hf, hn, ht, h, h1, Nat.not_le.mpr hl, decide_true, Bool.and_self, Option.isSome_none,
    Bool.false_eq_true, if_false, Bool.not_true, Bool.or_self, if_true, Out.of]

theorem dbgUnlock_body_two (h2 : fld bs 4 1 = 2) :
    let used : State := { s with sr := { s.sr with nonce := none, lastNonce := slice bs 0x10 0x20 } }
    let taken : State := { used with sr := { used.sr with unlocks := s.sr.unlocks + 1 } }
    cmdDbgUnlock.body x s = .held (taken.hold x true 0 []).beginLevelTwo.enterLevelTwo := by
  have h1 : fld bs 4 1 ≠ 1 := by omega
  simp only [cmdDbgUnlock, hp, hr, hf, hn, ht, h, if_neg h1, Nat.not_le.mpr hl, decide_true, Bool.and_self, Option.isSome_none,
    Bool.false_eq_true, if_false, Bool.not_true, Bool.or_self, if_true]

end
end
end
end
end

@[simp] theorem State.debugTo_debugLevel (s : State) (level : Nat) : (s.debugTo level).sr.debugLevel = level := rfl

/-! ## DBG_LEDGER (R580) -/

/-- The index of the oldest entry that the ledger holds. -/
def State.ledgerOldest (s : State) : Nat := match s.fault.ledger with | e :: _ => e.index | [] => s.fault.ledgerNext

/-- The entries that a read of the ledger asks for. -/
def State.ledgerPick (s : State) (bs : List Byte) : List LedgerEntry :=
  (s.fault.ledger.filter fun e => decide (fld bs 0 4 = 0xFFFFFFFF ∨ fld bs 0 4 ≤ e.index)).take (fld bs 4 4)

/-- The state after `k` of these entries have been read. -/
def State.ledgerSeen (s : State) (bs : List Byte) (k : Nat) : State :=
  let start := match s.ledgerPick bs with | e :: _ => e.index | [] => s.fault.ledgerNext
  { s with fault := { s.fault with ledgerRead := max s.fault.ledgerRead (start + k) } }

theorem State.ledgerSeen_of_cons {s : State} {bs : List Byte} {e : LedgerEntry} {l : List LedgerEntry} (h : s.ledgerPick bs = e :: l)
    (k : Nat) : s.ledgerSeen bs k = { s with fault := { s.fault with ledgerRead := max s.fault.ledgerRead (e.index + k) } } := by
  simp only [State.ledgerSeen, h]

/-- The reply data when all of them fit. -/
def State.ledgerData (s : State) (bs : List Byte) : List Byte :=
  leBytes s.ledgerOldest 4 ++ leBytes s.fault.ledgerNext 4 ++ leBytes (s.ledgerPick bs).length 4 ++
    leBytes (s.reg R.FAULT_LEDGER_LOST).toNat 4 ++ ((s.ledgerPick bs).map LedgerEntry.bytes).flatten

/-- Records that all fit are answered whole. -/
theorem ledgerAnswer_of_whole {x : Ctx} {s : State} {rs : List (List Byte)} (oldest next lost : Nat) (seen : Nat → State)
    (hsp : 16 ≤ Packet.replySpace x.pkt) (hw : wholeRecords (Packet.replySpace x.pkt - 16) rs = rs) :
    ledgerAnswer x s oldest next lost rs seen =
      .done .ok (leBytes oldest 4 ++ leBytes next 4 ++ leBytes rs.length 4 ++ leBytes lost 4 ++ rs.flatten)
        (if rs = [] then s else seen rs.length) := by
  have hall : ¬ (rs.length < rs.length ∨ Packet.replySpace x.pkt < 16) := by omega
  simp only [ledgerAnswer, hw, if_neg hall]

section
variable {x : Ctx} {s : State} {bs : List Byte} (hp : x.pkt.params = bs) (h1 : 1 ≤ fld bs 4 4) (h2 : fld bs 4 4 ≤ 65536)
include hp h1 h2

theorem dbgLedger_body_locked (h3 : 1 ≤ fld bs 8 1) (h4 : fld bs 8 1 ≤ 4) (h : s.sr.debugLevel = 0) :
    cmdDbgLedger.body x s = .done .notPermitted [] s := by
  have hin : ¬ (fld bs 4 4 < 1 ∨ 65536 < fld bs 4 4 ∨ 4 < fld bs 8 1) := by omega
  have htrace : fld bs 8 1 ≠ 0 ∧ s.sr.debugLevel = 0 := ⟨by omega, h⟩
  simp only [cmdDbgLedger, hp, if_neg hin, if_pos htrace, Out.of]

section
variable (h0 : fld bs 8 1 = 0)
include h0

theorem dbgLedger_body_of_ledger : cmdDbgLedger.body x s = ledgerAnswer x s s.ledgerOldest s.fault.ledgerNext
    (s.reg R.FAULT_LEDGER_LOST).toNat ((s.ledgerPick bs).map LedgerEntry.bytes) (s.ledgerSeen bs) := by
  subst hp
  have hin : ¬ (fld x.pkt.params 4 4 < 1 ∨ 65536 < fld x.pkt.params 4 4 ∨ 4 < fld x.pkt.params 8 1) := by omega
  have hledger : ¬ (fld x.pkt.params 8 1 ≠ 0 ∧ s.sr.debugLevel = 0) := fun h => h.1 h0
  exact (if_neg hin).trans ((if_neg hledger).trans (if_pos h0))

section
variable (hsp : 16 ≤ Packet.replySpace x.pkt)
  (hw : wholeRecords (Packet.replySpace x.pkt - 16) ((s.ledgerPick bs).map LedgerEntry.bytes) = (s.ledgerPick bs).map LedgerEntry.bytes)
include hsp hw

theorem dbgLedger_body_whole : cmdDbgLedger.body x s =
    .done .ok (s.ledgerData bs) (if s.ledgerPick bs = [] then s else s.ledgerSeen bs (s.ledgerPick bs).length) := by
  rw [dbgLedger_body_of_ledger hp h1 h2 h0, ledgerAnswer_of_whole _ _ _ _ hsp hw]
  simp only [List.length_map, List.map_eq_nil_iff, State.ledgerData]

theorem dbgLedger_body_empty (h : s.ledgerPick bs = []) : cmdDbgLedger.body x s = .done .ok (s.ledgerData bs) s := by
  rw [dbgLedger_body_whole hp h1 h2 h0 hsp hw, if_pos h]

theorem dbgLedger_body_reads {e : LedgerEntry} {l : List LedgerEntry} (h : s.ledgerPick bs = e :: l) : cmdDbgLedger.body x s =
    .done .ok (s.ledgerData bs)
      { s with fault := { s.fault with ledgerRead := max s.fault.ledgerRead (e.index + (s.ledgerPick bs).length) } } := by
  have hne : s.ledgerPick bs ≠ [] := by simp [h]
  rw [dbgLedger_body_whole hp h1 h2 h0 hsp hw, if_neg hne, State.ledgerSeen_of_cons h]

end
end
end

/-! ## FW_LOAD and FW_ACTIVATE (R358, R360) -/

section
variable {x : Ctx} {s : State} {bs : List Byte} {r : Nat}

theorem fwLoad_body (hp : x.pkt.params = bs) (hr : r = if fld bs 0 1 = 1 then 2 else s.loadSlot)
    (hh : loadHeaderOk x.pkt.path bs = true) (h0 : bit (fld bs 1 1) 0 = true → fld bs 4 4 = 0)
    (hn : bit (fld bs 1 1) 0 = false → (s.slot r).state = 3 ∧ (s.slot r).written = fld bs 4 4)
    (hw : s.runningOn 0x0D01 r = none) (ha : r = 2 → s.runningOn 0x0D03 0 = none) :
    cmdFwLoad.body x s = .held (s.holdWork x r []) := by
  have horder : (if bit (fld bs 1 1) 0 = true then decide (fld bs 4 4 = 0)
      else decide ((s.slot r).state = 3) && decide ((s.slot r).written = fld bs 4 4)) = true := by
    cases hf : bit (fld bs 1 1) 0 with
    | true => exact decide_eq_true (h0 hf)
    | false =>
      obtain ⟨hstate, hwritten⟩ := hn hf
      simp only [hstate, hwritten, decide_true, Bool.and_self, Bool.false_eq_true, if_false]
  have hfree : ¬ ((s.runningOn 0x0D01 r).isSome = true ∨ (r = 2 ∧ (s.runningOn 0x0D03 0).isSome = true)) := by
    rintro (h | ⟨h2, h⟩)
    · rw [hw] at h; cases h
    · rw [ha h2] at h; cases h
  simp only [cmdFwLoad, hp, ← hr, hh, horder, if_neg hfree, Bool.not_true, Bool.or_self, Bool.false_eq_true, if_false]

theorem fwActivate_body (hn : x.sched = .now) (h : (s.slot (1 - s.sr.bootSlot)).state = 1) : cmdFwActivate.body x s =
    .held ((s.writeBootRec s.bootRec.active true).warmRestart (some .fwActivate) [Running.plain x true 0 [] s.clock] false) := by
  simp only [cmdFwActivate, h, hn, ne_eq, not_true, if_false]

theorem fwActivate_body_refused (h : (s.slot (1 - s.sr.bootSlot)).state ≠ 1) : cmdFwActivate.body x s = .done .notPermitted [] s :=
  if_pos h

section
variable {u : State} (hu : u = s.takeChunk r (fld bs 4 4) (bit (fld bs 1 1) 0) (slice bs 16 (16 + fld bs 8 4)))
include hu

theorem State.loadChunk_more (h : bit (fld bs 1 1) 1 = false) : s.loadChunk r bs = .done .ok [] u := by
  simp only [State.loadChunk, ← hu, h, Bool.not_false, if_true, Out.of]

theorem State.loadChunk_fails (h : bit (fld bs 1 1) 1 = true) (hf : u.regionFails r ≠ 0) :
    s.loadChunk r bs = .done .invalidParam (leBytes (u.regionFails r) 1) (u.setSlot r { u.slot r with state := 2 }) := by
  simp only [State.loadChunk, ← hu, h, Bool.not_true, Bool.false_eq_true, if_false, if_pos hf]

theorem State.loadChunk_loads (h : bit (fld bs 1 1) 1 = true) (hf : u.regionFails r = 0) :
    let v := u.setSlot r { u.slot r with state := 1 }
    s.loadChunk r bs = .done .ok [] (if v.sr.recovery = true ∧ r ≠ 2 then v.writeBootRec r false else v) := by
  simp only [State.loadChunk, ← hu, h, hf, Bool.not_true, Bool.false_eq_true, if_false, ne_eq, not_true, Out.of]

end
end

/-- A chunk that is due ends the command as `loadChunk` says. -/
theorem fwLoad_completes {p : Packet} {s u : State} {st : Status} {data : List Byte}
    (h : s.loadChunk (if fld p.params 0 1 = 1 then 2 else s.loadSlot) p.params = .done st data u) :
    cmdFwLoad.completes (cmdFwLoad.context p) s u st data := by
  refine ⟨_, rfl, ?_⟩
  simp only [Command.context, Packet.scoped_params, h, Bool.false_eq_true, if_false]

/-! ## ANNEX_LOAD (R361) -/

section
variable {x : Ctx} {s : State} {bs : List Byte}

theorem annexLoad_body (hp : x.pkt.params = bs) (hk : fld bs 0 1 ≤ 1) (hn : fld bs 4 4 ≤ 0x1000000)
    (ha : s.runningOn 0x0D03 0 = none) (hw : s.runningOn 0x0D01 2 = none) :
    cmdAnnexLoad.body x s = .held (s.holdWork x 0 (if fld bs 0 1 = 1 ∧ fld bs 4 4 ≠ 0 then [(fld bs 8 8, fld bs 4 4)] else [])) := by
  have hin : ¬ (1 < fld bs 0 1 ∨ 0x1000000 < fld bs 4 4) := by omega
  simp only [cmdAnnexLoad, hp, if_neg hin, ha, hw, Option.isSome_none, Bool.false_eq_true, or_self, if_false]

section
variable {image : List Byte} {rd : Reader} (hi : image = if fld bs 0 1 = 1 then s.hostRead none (fld bs 8 8) (fld bs 4 4) else [])
  (hrd : rd = if fld bs 0 1 = 1 then bufferImage image else s.flashImage 2)
include hi hrd

theorem State.loadAnnex_fails (h : s.annexFails rd ≠ 0) :
    s.loadAnnex bs = .done .invalidParam (leBytes (s.annexFails rd) 1) s := by
  simp only [State.loadAnnex, ← hi, ← hrd, if_pos h]

theorem State.loadAnnex_loads (h : s.annexFails rd = 0) :
    let u := s.reseatAnnex.installAnnex rd
    s.loadAnnex bs = .done .ok [] (if fld bs 0 1 = 1 then (u.takeChunk 2 0 true image).setSlot 2 ⟨1, fld bs 4 4⟩ else u) := by
  simp only [State.loadAnnex, ← hi, ← hrd, h, ne_eq, not_true, if_false, Out.of]

end
end

/-- An image that has been read ends the command as `loadAnnex` says. -/
theorem annexLoad_completes {p : Packet} {s u : State} {st : Status} {data : List Byte} (h : s.loadAnnex p.params = .done st data u) :
    cmdAnnexLoad.completes (cmdAnnexLoad.context p) s u st data := by
  refine ⟨_, rfl, ?_⟩
  simp only [Command.context, Packet.scoped_params, h, Bool.false_eq_true, if_false]

/-! ## Power, reset, debug and firmware commands -/

/-- Settles O32: each clause is the lemma about the command's body, or about the load that follows it. -/
theorem deviceCommands : Obligations.DeviceCommands := by
  unfold Obligations.DeviceCommands
  intro p s bs
  have hp (c : Command) : (c.context p).pkt.params = bs := Packet.scoped_params p
  exact ⟨fun hs hn hv ht hq hd => exec_done rfl hs (pwrState_body_takes (hp _) rfl hn hv ht hq hd),
    fun hs h => exec_done rfl hs (pwrState_body_invalid (hp _) h),
    fun hs hd hn h0 hv hq => exec_done rfl hs (pwrState_body_refused (hp _) rfl hn hv hd h0 hq),
    fun hs h hr => exec_held rfl hs (devReset_body_warm (hp _) h hr rfl), fun hs h => exec_held rfl hs (devReset_body_cold (hp _) h),
    fun hs h1 h2 => exec_done rfl hs (devReset_body_invalid (hp _) h1 h2), fun hs h => exec_done rfl hs (dbgNonce_body h),
    fun ends hs hn ht hr hf => ⟨fun h => exec_done rfl hs (dbgUnlock_body_bad hr (hp _) hf hn ht h),
      fun h hl => ⟨fun h1 => exec_done rfl hs (dbgUnlock_body_one hr (hp _) hf hn ht h hl h1),
        fun h2 => exec_held rfl hs (dbgUnlock_body_two hr (hp _) hf hn ht h hl h2)⟩⟩,
    fun hs hn hr hf => exec_done rfl hs (dbgUnlock_body_without_nonce hr (hp _) hf hn),
    fun hs hr => ⟨fun h => exec_done rfl hs (dbgLock_body_of_zero hr h),
      fun h => ⟨exec_done rfl hs (dbgLock_body_of_one hr h), State.debugTo_debugLevel s 0⟩,
      fun h => exec_held rfl hs (dbgLock_body_of_two hr h)⟩,
    fun hs h1 h2 h3 h4 h => exec_done rfl hs (dbgLedger_body_locked (hp _) h1 h2 h3 h4 h),
    fun hs h1 h2 h0 hsp hw => ⟨fun h => exec_done rfl hs (dbgLedger_body_empty (hp _) h1 h2 h0 hsp hw h),
      fun _ _ h => exec_done rfl hs (dbgLedger_body_reads (hp _) h1 h2 h0 hsp hw h)⟩,
    ⟨fun hs hh h0 hn hw ha => exec_held rfl hs (fwLoad_body (hp _) rfl hh h0 hn hw ha),
      fun h => fwLoad_completes (State.loadChunk_more rfl h), fun h hf => fwLoad_completes (State.loadChunk_fails rfl h hf),
      fun h hf => fwLoad_completes (State.loadChunk_loads rfl h hf)⟩,
    fun hs h => exec_held rfl hs (fwActivate_body rfl h), fun hs h => exec_done rfl hs (fwActivate_body_refused h),
    ⟨fun hs hk hn ha hw => exec_held rfl hs (annexLoad_body (hp _) hk hn ha hw),
      fun h => annexLoad_completes (State.loadAnnex_fails rfl rfl h), fun h => annexLoad_completes (State.loadAnnex_loads rfl rfl h)⟩⟩

end Sys2Proof.Machine

/-!
PROOFS. SMBus transactions, PLDM answers, MCTP control and JTAG: what `Obligations.ManagementCommands` is assembled from.
-/

namespace Sys2Proof.Machine

/-! ## SMBus transactions (R551, R595) -/

section
variable {s : State}

/-- In Nap and deeper a transaction only wakes the device. -/
theorem State.smbus_asleep (h : 3 ≤ s.power.ladder) (f : State → State) : s.smbus f = s.smbusWake := if_pos h

theorem State.smbus_awake (h : s.power.ladder < 3) (f : State → State) : s.smbus f = f s.smbusWake := if_neg (Nat.not_le.mpr h)

/-! ## PLDM requests (R97) -/

theorem State.pldm_of_not_ready (h : s.sr.ready = false) (t c : Nat) (bytes : List Byte) : s.pldm t c bytes = s := by
  simp only [State.pldm, h, Bool.not_false, if_true]

theorem State.pldm_of_ready (h : s.sr.ready = true) (t c : Nat) (bytes : List Byte) :
    s.pldm t c bytes = (s.pldmData t c (bytes.drop 3)).2.emit (.message 5
      (leBytes (fld bytes 0 1 % 32) 1 ++ leBytes t 1 ++ leBytes c 1 ++ (s.pldmData t c (bytes.drop 3)).1)) := by
  simp only [State.pldm, h, Bool.not_true, Bool.false_eq_true, if_false]

end

/-- The PLDM rows with the type and the command that each requests. -/
def pldmRows (bytes : List Byte) : List (Nat × Nat × Instr) :=
  [(0, 2, .getTid bytes), (0, 3, .getPldmVersion bytes), (0, 4, .getPldmTypes bytes), (0, 5, .getPldmCommands bytes),
    (2, 0x50, .getPdrRepositoryInfo bytes), (2, 0x51, .getPdr bytes), (2, 0x11, .getSensorReading bytes),
    (2, 0x21, .getStateSensorReadings bytes), (2, 0x0B, .pollForPlatformEventMessage bytes)]

theorem exec_pldmRow {bytes : List Byte} {t c : Nat} {i : Instr} (h : (t, c, i) ∈ pldmRows bytes) (s : State) :
    exec i s = .next (s.smbus fun s => s.pldm t c bytes) := by
  simp only [pldmRows, List.mem_cons, List.not_mem_nil, or_false, Prod.mk.injEq] at h
  rcases h with ⟨rfl, rfl, rfl⟩ | ⟨rfl, rfl, rfl⟩ | ⟨rfl, rfl, rfl⟩ | ⟨rfl, rfl, rfl⟩ | ⟨rfl, rfl, rfl⟩ | ⟨rfl, rfl, rfl⟩ |
    ⟨rfl, rfl, rfl⟩ | ⟨rfl, rfl, rfl⟩ | ⟨rfl, rfl, rfl⟩ <;> rfl

/-! ## What PLDM requests answer (R97) -/

section
variable {s : State} {d : List Byte}

theorem State.pldmData_poll_empty (h : s.cmd.pldmEvents = []) : s.pldmData 2 0x0B d = ([0, Config.pldmTid, 0, 0], s) := by
  simp only [State.pldmData, State.takeSensorEvent, h]

/-- A poll takes the oldest event. -/
theorem State.pldmData_poll_rest {e : Nat × Nat} {rest : List (Nat × Nat)} (h : s.cmd.pldmEvents = e :: rest) :
    (s.pldmData 2 0x0B d).2.cmd.pldmEvents = rest := by
  simp only [State.pldmData, State.takeSensorEvent, h]

theorem State.pldmData_getPdr (hd : 13 ≤ d.length) (hn : fld d 0 4 ≤ 12) :
    let h := max 1 (fld d 0 4)
    s.pldmData 2 0x51 d = (leBytes 0 1 ++ leBytes (if h = 12 then 0 else h + 1) 4 ++ leBytes 0 4 ++ leBytes 5 1 ++
      leBytes ((pdr h).take (fld d 9 2)).length 2 ++ (pdr h).take (fld d 9 2), s) := by
  have hfirst : (if fld d 0 4 = 0 then 1 else fld d 0 4) = max 1 (fld d 0 4) := by
    split <;> omega
  have hlast : ¬ 12 < max 1 (fld d 0 4) := by omega
  simp only [State.pldmData, hfirst, if_neg (Nat.not_lt.mpr hd), if_neg hlast]

@[simp] theorem State.sensor_free (n : Nat) : s.free.2.sensor n = s.sensor n := rfl

theorem fld_cons (b : Byte) (bs : List Byte) (off n : Nat) : fld (b :: bs) (off + 1) n = fld bs off n := rfl

theorem sensorState_lt (n v : Nat) : sensorState n v < 256 := by
  unfold sensorState
  split <;> (repeat' split) <;> decide

theorem State.pldmData_sensor (hd : 3 ≤ d.length) (h1 : 1 ≤ fld d 0 2) (h5 : fld d 0 2 ≤ 5) :
    let r := (s.pldmData 2 0x11 d).1
    r.length = 9 ∧ fld r 7 2 = s.sensor (fld d 0 2) % 65536 ∧ fld r 4 1 = sensorState (fld d 0 2) (s.sensor (fld d 0 2)) := by
  have hin : ¬ (fld d 0 2 = 0 ∨ 5 < fld d 0 2) := by omega
  have hstate : sensorState (fld d 0 2) (s.sensor (fld d 0 2)) % 256 = sensorState (fld d 0 2) (s.sensor (fld d 0 2)) :=
    Nat.mod_eq_of_lt (sensorState_lt _ _)
  simp only [State.pldmData, if_neg (Nat.not_lt.mpr hd), if_neg hin]
  simp [fld_cons, fld_append_left, fld_append_right, fld_leBytes, hstate]

end

/-! ## PLDM_SENSOR_UPDATE (R97) -/

section
variable {s : State} {n : Fin 13} (v : Nat)

theorem pldmSensorUpdate_of_zero (h : n.val = 0) : exec (.pldmSensorUpdate n v) s = .next s := if_pos h

/-- A sensor takes its new value, and queues an event when its threshold state changes. -/
theorem pldmSensorUpdate_of_sensor (h : n.val ≠ 0) :
    let new := if n.val ≤ 5 then v % 65536 else s.stateOf n.val
    let crossed : Prop := sensorState n.val new ≠ sensorState n.val (s.sensor n.val)
    ∃ t, exec (.pldmSensorUpdate n v) s = .next t ∧ t.sensor n.val = new ∧
      (crossed → t.cmd.pldmEvents = s.cmd.pldmEvents ++ [(n.val, new)]) ∧ (¬ crossed → t.cmd.pldmEvents = s.cmd.pldmEvents) :=
  ⟨_, if_neg h, Tbl.get_set_self _ _ _ _, fun hc => if_pos (decide_eq_true hc), fun hc => if_neg (by simpa using hc)⟩

end

/-! ## MCTP (R78) -/

section
variable {s : State} {eid : BitVec 8}

theorem State.setEid_of_id (h0 : eid ≠ 0) (h255 : eid ≠ 255) : s.setEid eid.toNat =
    ([0, 0] ++ leBytes eid.toNat 1 ++ [0], { s with cmd := { s.cmd with eid := eid.toNat } }) := by
  have hid : ¬ (eid.toNat % 256 = 0 ∨ eid.toNat % 256 = 255) := by bv_omega
  rw [State.setEid, if_neg hid, Nat.mod_eq_of_lt eid.isLt]

theorem State.setEid_of_special (h : eid = 0 ∨ eid = 255) : s.setEid eid.toNat = ([2], s) := by
  rcases h with rfl | rfl <;> rfl

section
variable (hl : s.power.ladder < 3)
include hl

theorem mctpMessage_awake (type : BitVec 8) (bytes : List Byte) :
    exec (.mctpMessage type bytes) s = .next (s.smbusWake.mctp type.toNat bytes) := congrArg _ (State.smbus_awake hl _)

theorem setEndpointId_down (h : s.smbusWake.mctpUp = false) : exec (.setEndpointId eid) s = .next s.smbusWake := by
  simp only [exec_setEndpointId, execSetEndpointId, State.smbus_awake hl, h, Bool.false_eq_true, if_false]

theorem setEndpointId_up (h : s.smbusWake.mctpUp = true) : exec (.setEndpointId eid) s =
    .next ((s.smbusWake.setEid eid.toNat).2.emit (.message 2 (s.smbusWake.setEid eid.toNat).1)) := by
  simp only [exec_setEndpointId, execSetEndpointId, State.smbus_awake hl, h, if_true]

theorem setEndpointId_sets (h : s.smbusWake.mctpUp = true) (h0 : eid ≠ 0) (h255 : eid ≠ 255) :
    ∃ t, exec (.setEndpointId eid) s = .next t ∧ t.cmd.eid = eid.toNat ∧
      t.out = s.smbusWake.out ++ [.message 2 ([0, 0] ++ leBytes eid.toNat 1 ++ [0])] := by
  refine ⟨_, setEndpointId_up hl h, ?_⟩
  rw [State.setEid_of_id h0 h255]
  exact ⟨rfl, rfl⟩

theorem setEndpointId_refused (h : s.smbusWake.mctpUp = true) (he : eid = 0 ∨ eid = 255) :
    exec (.setEndpointId eid) s = .next (s.smbusWake.emit (.message 2 [2])) := by
  rw [setEndpointId_up hl h, State.setEid_of_special he]

end
end

/-! ## Debug accesses over JTAG (R385, R597) -/

section
variable {s : State} (write : Bool) {addr : Nat} (w : BitVec 64)

/-- At debug level 0 an access only loads the instruction register. -/
theorem jtagDebugAccess_closed (h : s.sr.debugLevel = 0) (kind : Fin 4) :
    exec (.jtagDebugAccess kind write addr w) s = .next (s.jtagIr 4) := if_pos h

section
variable (hd : s.sr.debugLevel ≠ 0)
include hd

theorem jtagDebugAccess_no_thread (h : 2047 < addr / 128) : exec (.jtagDebugAccess 0 write addr w) s = .next (s.jtagIr 4) :=
  (if_neg hd).trans (if_pos h)

theorem jtagDebugAccess_thread_put (h : addr / 128 ≤ 2047) : exec (.jtagDebugAccess 0 true addr w) s =
    .next ((s.jtagIr 4).setThread (addr / 128) (((s.jtagIr 4).thread (addr / 128)).debugPut (addr % 128) w)) :=
  (if_neg hd).trans (if_neg (Nat.not_lt.mpr h))

theorem jtagDebugAccess_thread_get (h : addr / 128 ≤ 2047) : exec (.jtagDebugAccess 0 false addr w) s =
    .next ((s.jtagIr 4).emit (.jtag (((s.jtagIr 4).thread (addr / 128)).debugGet (addr % 128)))) :=
  (if_neg hd).trans (if_neg (Nat.not_lt.mpr h))

theorem jtagDebugAccess_scratch (ha : addr % 8 = 0) (h : scratchAddr addr = true) :
    exec (.jtagDebugAccess 1 write addr w) s = .next ((s.jtagIr 4).debugMem write addr w) :=
  (if_neg hd).trans (if_pos ⟨ha, .inl h⟩)

/-- Memory is closed to an address that is not aligned, and below level 2 to what is not scratch. -/
theorem jtagDebugAccess_no_memory (h : addr % 8 ≠ 0 ∨ (s.sr.debugLevel ≠ 2 ∧ scratchAddr addr = false)) :
    exec (.jtagDebugAccess 1 write addr w) s = .next (s.jtagIr 4) := by
  refine (if_neg hd).trans (if_neg ?_)
  rintro ⟨ha, hopen⟩
  rcases h with h | ⟨hlevel, hscratch⟩
  · exact h ha
  · rcases hopen with hopen | ⟨htwo, -⟩
    · rw [hscratch] at hopen; cases hopen
    · exact hlevel htwo

theorem jtagDebugAccess_line_put : exec (.jtagDebugAccess 2 true addr w) s = .next (s.jtagIr 4) := if_neg hd

theorem jtagDebugAccess_line_get : exec (.jtagDebugAccess 2 false addr w) s =
    .next ((s.jtagIr 4).emit (.jtag ((s.jtagIr 4).debugLine (addr % 65536) (addr / 65536)))) := if_neg hd

theorem jtagDebugAccess_no_register (h : s.sr.debugLevel ≠ 2) :
    exec (.jtagDebugAccess 3 write addr w) s = .next (s.jtagIr 4) := (if_neg hd).trans (if_pos (.inl h))

end

section
variable (h : s.sr.debugLevel = 2) (ha : addr % 8 = 0) (hr : addr < 0xA00000 ∨ 0xB00000 ≤ addr)
include h ha hr

theorem debugRegister_open : ¬ (s.sr.debugLevel ≠ 2 ∨ (0xA00000 ≤ addr ∧ addr < 0xB00000) ∨ addr % 8 ≠ 0) := by omega

theorem jtagDebugAccess_register_put : exec (.jtagDebugAccess 3 true addr w) s = .next ((s.jtagIr 4).barWrite8 addr w.toNat) :=
  (if_neg (by omega : ¬ s.sr.debugLevel = 0)).trans (if_neg (debugRegister_open h ha hr))

theorem jtagDebugAccess_register_get : exec (.jtagDebugAccess 3 false addr w) s =
    .next ((s.jtagIr 4).emit (.jtag (BitVec.ofNat 64 ((s.jtagIr 4).readReg addr)))) :=
  (if_neg (by omega : ¬ s.sr.debugLevel = 0)).trans (if_neg (debugRegister_open h ha hr))

end
end

/-! ## SMBus, MCTP, PLDM and JTAG -/

/-- Settles O57: each clause is the lemma about the request, the sensor or the debug access under its hypotheses. -/
theorem managementCommands : Obligations.ManagementCommands := by
  unfold Obligations.ManagementCommands
  intro s bytes eid type sensor v addr w write
  refine ⟨rfl, fun t c i hi => ⟨fun h => ?asleep, fun h hr => ?waiting, fun h hr => ?answers⟩,
    ⟨rfl, State.pldmData_poll_empty, fun _ _ => State.pldmData_poll_rest, State.pldmData_getPdr, State.pldmData_sensor⟩,
    pldmSensorUpdate_of_zero v, pldmSensorUpdate_of_sensor v,
    fun h => ⟨congrArg _ (State.smbus_asleep h _), congrArg _ (State.smbus_asleep h _)⟩,
    fun h => ⟨mctpMessage_awake h type bytes, setEndpointId_down h, setEndpointId_sets h, setEndpointId_refused h⟩,
    rfl, rfl, rfl, ⟨_, _, rfl, rfl, rfl, rfl⟩, rfl, fun h kind => jtagDebugAccess_closed write w h kind, fun hd =>
      ⟨jtagDebugAccess_no_thread write w hd, fun h => ⟨jtagDebugAccess_thread_put w hd h, jtagDebugAccess_thread_get w hd h⟩,
        jtagDebugAccess_scratch write w hd, fun h => jtagDebugAccess_no_memory write w hd (.inl h),
        fun h2 h => jtagDebugAccess_no_memory write w hd (.inr ⟨h2, h⟩), jtagDebugAccess_line_put w hd, jtagDebugAccess_line_get w hd,
        jtagDebugAccess_no_register write w hd,
        fun h ha hr => ⟨jtagDebugAccess_register_put w h ha hr, jtagDebugAccess_register_get w h ha hr⟩⟩⟩
  case asleep => rw [exec_pldmRow hi, State.smbus_asleep h]
  case waiting => rw [exec_pldmRow hi, State.smbus_awake h, State.pldm_of_not_ready hr]
  case answers => rw [exec_pldmRow hi, State.smbus_awake h, State.pldm_of_ready hr]

end Sys2Proof.Machine

/-!
PROOFS. The bodies of the room commands that act at once, save and restore: what `Obligations.RoomCommands` is assembled from.
-/

namespace Sys2Proof.Machine

/-! ## Rooms in another state than the transition's (R100, R101) -/

/-- Of two changes of a room that is not vacant, the later one stays. -/
theorem State.setRoom_setRoom (s : State) (r : Nat) {a b : Room} (ha : a.state ≠ .vacant) (hb : b.state ≠ .vacant) :
    (s.setRoom r a).setRoom r b = s.setRoom r b := by
  have ne_vacant {x : Room} (hx : x.state ≠ .vacant) : x ≠ Room.vacant := fun h => hx (congrArg Room.state h)
  simp only [State.setRoom, Tbl.set, if_neg (ne_vacant ha), if_neg (ne_vacant hb), Tbl.put_put]

theorem State.missedState_eq (s : State) (r : Nat) : s.missedState r =
    if (s.room r).state = .resetting then .busy else if (s.room r).state = .inError ∧ (s.room r).errorAt = s.clock then .roomError
    else .notPermitted := by
  cases h : (s.room r).state <;> simp [State.missedState, h]

section
variable {x : Ctx} {s : State}

/-! ## ROOM_FREEZE and ROOM_THAW (R118, R125) -/

/-- The generation of the move and the time of the freeze stand in one change of the room. -/
theorem roomFreeze_body_freezes (h : (s.room x.pkt.room).state = .opened) : cmdRoomFreeze.body x s = .done .ok []
    (s.setRoom x.pkt.room { s.room x.pkt.room with state := .frozen, generation := s.gen.current, freezeTime := s.now }) := by
  have hnow (y : Room) : (s.setRoom x.pkt.room y).now = s.now := rfl
  simp only [cmdRoomFreeze, if_pos h, Out.of, State.moveRoom, State.room_setRoom, hnow]
  rw [State.setRoom_setRoom s _ (by simp) (by simp)]

theorem roomFreeze_body_missed {st : Status} (h : (s.room x.pkt.room).state ≠ .opened) (hst : s.missedState x.pkt.room = st) :
    cmdRoomFreeze.body x s = .done st [] s := hst ▸ if_neg h

theorem roomThaw_body_thaws (h : (s.room x.pkt.room).state = .frozen) (ht : (s.room x.pkt.room).tdi ≠ .locked) (hd : s.sr.debugLevel = 0)
    (hs : (s.room x.pkt.room).saving = false) (hr : s.runningOn 0x0108 x.pkt.room = none) : cmdRoomThaw.body x s =
    .done .ok [] (s.setRoom x.pkt.room { s.room x.pkt.room with state := .opened, generation := s.gen.current }) := by
  have hopen : ¬ ((s.room x.pkt.room).tdi = .locked ∨ s.sr.debugLevel ≥ 1) := by
    rintro (h | h)
    · exact ht h
    · omega
  simp [cmdRoomThaw, h, hopen, hs, hr, State.moveRoom, Out.of]

theorem roomThaw_body_missed {st : Status} (h : (s.room x.pkt.room).state ≠ .frozen) (hst : s.missedState x.pkt.room = st) :
    cmdRoomThaw.body x s = .done st [] s := hst ▸ if_pos h

/-! ## ROOM_RESET (R114, R385) -/

section
variable (hd : s.sr.debugLevel = 0)
include hd

theorem roomReset_body_of_level_zero : cmdRoomReset.body x s = if resetAccepts (s.room x.pkt.room).state then
    .held ((s.beginReset x.pkt.room).hold x true x.pkt.room []) else .done (wrongState (s.room x.pkt.room).state) [] s :=
  if_neg (by omega)

theorem roomReset_body_begins (h : resetAccepts (s.room x.pkt.room).state = true) :
    cmdRoomReset.body x s = .held ((s.beginReset x.pkt.room).hold x true x.pkt.room []) := (roomReset_body_of_level_zero hd).trans (if_pos h)

theorem roomReset_body_refused (h : resetAccepts (s.room x.pkt.room).state = false) :
    cmdRoomReset.body x s = .done (wrongState (s.room x.pkt.room).state) [] s :=
  (roomReset_body_of_level_zero hd).trans (if_neg (Bool.eq_false_iff.mp h))

end

/-! ## ROOM_DIRTY_LOG and ROOM_SAVE elsewhere (R119, R120) -/

theorem roomDirtyLog_body_busy (h : s.roomResets x.pkt.room = true) : cmdRoomDirtyLog.body x s = .done .busy [] s := by
  simp only [cmdRoomDirtyLog, h, if_true, Out.of]

theorem roomSave_body_refused (h : (s.room x.pkt.room).state ≠ .frozen) :
    cmdRoomSave.body x s = .done (wrongState (s.room x.pkt.room).state) [] s := if_pos h

section
variable {bs : List Byte} (hp : x.pkt.params = bs)
include hp

/-! ## ROOM_DOZE (R99, R151) -/

theorem roomDoze_body (h : (s.room x.pkt.room).state = .furnished ∨ (s.room x.pkt.room).state = .opened ∨
    (s.room x.pkt.room).state = .frozen) (h0 : fld bs 0 1 ≤ 1) (h1 : fld bs 1 1 ≤ 1) :
    let u := s.setRoom x.pkt.room { s.room x.pkt.room with
      doze := decide (fld bs 0 1 = 1), wakeOn := decide (fld bs 1 1 = 1), wakePosted := false }
    cmdRoomDoze.body x s = .done .ok [] (if fld bs 0 1 = 1 then u else u.releaseMsgs x.pkt.room) := by
  have hin : ¬ (fld bs 0 1 > 1 ∨ fld bs 1 1 > 1) := by omega
  rcases h with h | h | h <;> simp only [cmdRoomDoze, h, hp, if_neg hin, decide_eq_true_eq, Out.of]

/-! ## ROOM_DIRTY_LOG (R119) -/

section
variable (hr : s.roomResets x.pkt.room = false)
include hr

/-- A log that runs starts again; a new one begins while fewer than 64 rooms have one. -/
theorem roomDirtyLog_body_starts (h : fld bs 0 1 = 0)
    (hl : (s.room x.pkt.room).dirty.isSome = true ∨ (s.rooms.filter fun e => e.2.dirty.isSome).length < 64) :
    cmdRoomDirtyLog.body x s = .done .ok [] (s.setRoom x.pkt.room { s.room x.pkt.room with dirty := some ⟨[], false⟩ }) := by
  cases hm : (s.room x.pkt.room).dirty with
  | some d => simp only [cmdRoomDirtyLog, hr, hp, h, hm, Bool.false_eq_true, if_false, Out.of]
  | none =>
    have hfree : (s.rooms.filter fun e => e.2.dirty.isSome).length < 64 := hl.resolve_left (by simp [hm])
    simp only [cmdRoomDirtyLog, hr, hp, h, hm, Bool.false_eq_true, if_false, ge_iff_le, if_neg (Nat.not_le.mpr hfree), Out.of]

section
variable {d : DirtyLog} (hm : (s.room x.pkt.room).dirty = some d)
include hm

theorem roomDirtyLog_body_stops (h : fld bs 0 1 = 1) : cmdRoomDirtyLog.body x s =
    .done .ok [] (s.setRoom x.pkt.room { s.room x.pkt.room with dirty := none }) := by
  simp only [cmdRoomDirtyLog, hr, hp, h, hm, Bool.false_eq_true, if_false, Out.of]

/-- What the reply has room for is taken from the log; what is left is to fetch with another command. -/
theorem roomDirtyLog_body_reads (h : fld bs 0 1 = 2) :
    let n := min d.pages.length ((Packet.replySpace x.pkt - 16) / 8)
    let left := d.pages.drop n
    let data := leBytes (b01 d.full) 4 ++ leBytes n 4 ++ leBytes left.length 4 ++ pad 4 ++ ((d.pages.take n).map fun a => leBytes a 8).flatten
    let u := s.setRoom x.pkt.room { s.room x.pkt.room with dirty := some { d with pages := left } }
    cmdRoomDirtyLog.body x s = if left = [] then .done .ok data u else .part .ok data u := by
  simp only [cmdRoomDirtyLog, hr, hp, h, hm, Bool.false_eq_true, if_false]

end
end

/-! ## ROOM_SAVE (R120, R126) -/

theorem roomSave_body_waits (h : (s.room x.pkt.room).state = .frozen) (hs : (s.room x.pkt.room).saving = false)
    (ha : fld bs 0 8 % 64 = 0) (hw : fld bs 0x0C 1 ≤ 1)
    (ht : (s.room x.pkt.room).tdiLocked = true → fld bs 0x10 16 ∈ (s.room x.pkt.room).tenantKeys)
    (hk : (s.migKey ((bs.drop 0x10).take 16)).isSome = true) (hv : s.sr.vaultLocked = false) (hd : s.sr.dipFrozen = false)
    (he : s.sr.entropyFail = false) : cmdRoomSave.body x s =
    .held ((s.setRoom x.pkt.room { s.room x.pkt.room with saving := true }).hold x true x.pkt.room []) := by
  have hin : ¬ (fld bs 0 8 % 64 ≠ 0 ∨ fld bs 0x0C 1 > 1) := by omega
  have htenant : ¬ ((s.room x.pkt.room).tdiLocked = true ∧ (!(s.room x.pkt.room).tenantKeys.contains (fld bs 0x10 16)) = true) := by
    rintro ⟨hl, hn⟩
    rw [List.contains_iff_mem.mpr (ht hl)] at hn
    cases hn
  have hkey : ¬ ((s.migKey ((bs.drop 0x10).take 16)).isNone = true ∨ s.sr.vaultLocked = true) := by
    rw [Option.isNone_iff_eq_none, hv]
    rintro (hn | hn)
    · rw [hn] at hk; cases hk
    · cases hn
  simp only [cmdRoomSave, hp, h, hs, hd, he, if_neg hin, if_neg htenant, if_neg hkey, ne_eq, not_true, Bool.false_eq_true, if_false]

/-! ## ROOM_RESTORE (R122, R124) -/

section
variable (hr : s.runningOn 0x0108 x.pkt.room = none)
include hr

theorem roomRestore_body_reads (h : s.restoreRefused x.pkt.room bs = none) :
    cmdRoomRestore.body x s = .held (s.holdWork x x.pkt.room [(fld bs 0 8, fld bs 8 4)]) := by
  simp only [cmdRoomRestore, hp, hr, h, Option.isSome_none, Bool.false_eq_true, if_false]

theorem roomRestore_body_refused {st : Status} (h : s.restoreRefused x.pkt.room bs = some st) :
    cmdRoomRestore.body x s = .done st [] s := by
  simp only [cmdRoomRestore, hp, hr, h, Option.isSome_none, Bool.false_eq_true, if_false, Out.of]

end
end
end

/-- A saved state that has been read ends the command as `loadRoom` says. -/
theorem roomRestore_completes {p : Packet} {s u : State} {st : Status} (h : s.restoreRefused p.scoped.room p.params = none)
    (hl : s.loadRoom p.scoped.room p.params = .done st [] u) :
    cmdRoomRestore.completes (cmdRoomRestore.context p) s u st [] := by
  refine ⟨_, rfl, ?_⟩
  simp only [Command.context, Packet.scoped_params, h, hl, Bool.false_eq_true, if_false]

/-- A saved state as a restore with these parameters reads it: 128 bytes of header, and a body of the length that the header gives. -/
structure State.SavedState (s : State) (bs : List Byte) (k : MigKey) (head body : List Byte) : Prop where
  head_eq : s.hostRead none (fld bs 0 8) 128 = head
  body_eq : s.hostRead none (fld bs 0 8 + 128) (fld head 0x28 4) = body
  fits : 128 + fld head 0x28 4 ≤ fld bs 8 4
  magic : fld head 0 4 = 0x5253584B
  version : fld head 4 2 = 1
  key : s.migKey (slice head 0x38 0x48) = some k
  vault : s.sr.vaultLocked = false

section
variable {s : State} {r : Nat} {bs : List Byte} {k : MigKey} {head body : List Byte} (hv : s.SavedState bs k head body)
include hv

theorem State.SavedState.not_malformed :
    ¬ (fld head 0 4 ≠ 0x5253584B ∨ fld head 4 2 ≠ 1 ∨ fld bs 8 4 < 128 + fld head 0x28 4) := by
  rintro (h | h | h)
  · exact h hv.magic
  · exact h hv.version
  · exact Nat.not_lt.mpr hv.fits h

/-- With a key at hand the tag decides first. -/
theorem State.SavedState.loadRoom_forged
    (h : saveTag k.key (slice head 0x48 0x54) (head.take 0x60) body ≠ slice head 0x60 0x70) :
    s.loadRoom r bs = .done .tagMismatch [] s := by
  simp only [State.loadRoom, hv.head_eq, hv.body_eq, if_neg hv.not_malformed, hv.key, hv.vault, Bool.false_eq_true, if_false, if_pos h, Out.of]

section
variable (ht : saveTag k.key (slice head 0x48 0x54) (head.take 0x60) body = slice head 0x60 0x70)
include ht

/-- Of the saved states of a key each restores once, and none older than one restored before. -/
theorem State.SavedState.loadRoom_old (h : fld head 0x30 8 ≤ k.restored) : s.loadRoom r bs = .done .notPermitted [] s := by
  simp only [State.loadRoom, hv.head_eq, hv.body_eq, if_neg hv.not_malformed, hv.key, hv.vault, ht, ne_eq, not_true, Bool.false_eq_true,
    if_false, if_pos h, Out.of]

theorem State.SavedState.loadRoom_restores (h : k.restored < fld head 0x30 8) (hd : s.sr.dipFrozen = false)
    {secs : List (Nat × List Byte)} (hsecs : openSections (gcmStream k.key (slice head 0x48 0x54) 2 (fld head 0x28 4))
      (bit (fld head 6 2) 0) 64 0 body = secs)
    {l : Limits} (hl : restoreLimits (sectionOf secs 3) (fld bs 0x0C 4) (fld bs 0x10 2) = l)
    (hroom : furnishRefused l (s.otherLimits r) s.profileNow s.sramUnitsMax = none) (hdomains : sectionOf secs 5 = [])
    (hsess : s.sr.sessions.length + (sectionOf secs 4).length / 256 ≤ 196608) :
    let u := (s.setMigKey { k with restored := fld head 0x30 8 }).restoreRoom r l head secs
    s.loadRoom r bs = .done (if (u.room r).dropped = [] then .ok else .okWarn) [] u := by
  simp only [State.loadRoom, hv.head_eq, hv.body_eq, if_neg hv.not_malformed, hv.key, hv.vault, ht, hsecs, hl, hroom, hd, hdomains,
    if_neg (Nat.not_le.mpr h), if_neg (Nat.not_lt.mpr hsess), ne_eq, not_true, Bool.false_eq_true, if_false, if_true, Out.of]

end
end

/-! ## Room commands -/

/-- Settles O26: each clause is the lemma about the command's body, or about the load that follows it. -/
theorem roomCommands : Obligations.RoomCommands := by
  unfold Obligations.RoomCommands
  constructor
  · intro p s bs r m refused missed
    have hp (c : Command) : (c.context p).pkt.params = bs := Packet.scoped_params p
    refine ⟨fun hs h => ⟨_, exec_done rfl hs (roomFreeze_body_freezes h), rfl⟩,
      fun hs h => exec_done rfl hs (roomFreeze_body_missed h (s.missedState_eq r)),
      fun hs h ht hd hv hr => exec_done rfl hs (roomThaw_body_thaws h ht hd hv hr),
      fun hs h => exec_done rfl hs (roomThaw_body_missed h (s.missedState_eq r)),
      fun hs hd h => exec_held rfl hs (roomReset_body_begins hd h), fun hd hs h => exec_done rfl hs (roomReset_body_refused hd h),
      fun hs h h0 h1 => exec_done rfl hs (roomDoze_body (hp _) h h0 h1),
      fun hs hr h hl => exec_done rfl hs (roomDirtyLog_body_starts (hp _) hr h hl),
      fun _ hs hr h hm => exec_done rfl hs (roomDirtyLog_body_stops (hp _) hr hm h), fun d hs hr h hm => ?log,
      fun hs hr => exec_done rfl hs (roomDirtyLog_body_busy hr)⟩
    case log =>
      intro n left
      have hb := roomDirtyLog_body_reads (hp cmdRoomDirtyLog) hr hm h
      by_cases hleft : left = []
      · rw [decide_eq_false (fun h : left ≠ [] => h hleft)]
        exact exec_done rfl hs (hb.trans (if_pos hleft))
      · rw [decide_eq_true hleft]
        exact exec_part rfl hs (hb.trans (if_neg hleft))
  · intro p s bs r m
    have hp (c : Command) : (c.context p).pkt.params = bs := Packet.scoped_params p
    refine ⟨fun hs h hv ha hw ht hk hl hd he => exec_held rfl hs (roomSave_body_waits (hp _) h hv ha hw ht hk hl hd he),
      fun hs h => exec_done rfl hs (roomSave_body_refused h), fun hs hr => ⟨fun h => exec_held rfl hs (roomRestore_body_reads (hp _) hr h),
        fun st h => exec_done rfl hs (roomRestore_body_refused (hp _) hr h)⟩, ?restore⟩
    intro k a x head len body nonce h hfits hmagic hversion hkey hvault
    have hv : s.SavedState bs k head body := ⟨rfl, rfl, hfits, hmagic, hversion, hkey, hvault⟩
    exact ⟨fun ht => roomRestore_completes h (hv.loadRoom_forged ht),
      fun ht => ⟨fun hold => roomRestore_completes h (hv.loadRoom_old ht hold),
        fun hnew hd hroom hdomains hsess => roomRestore_completes h (hv.loadRoom_restores ht hnew hd rfl rfl hroom hdomains hsess)⟩⟩

end Sys2Proof.Machine

/-!
PROOFS. The end of a room reset and of a drained save: what `Obligations.RoomDrains` is assembled from.
-/

namespace Sys2Proof.Machine

/-! ## The header of a saved state (R121) -/

section
variable (s : State) (room : Nat) (wrap locked : Bool) (len count seq : Nat) (key nonce rest : List Byte)

theorem State.take_saveHead : (s.saveHead room wrap locked len count seq key nonce ++ rest).take 4 = leBytes 0x5253584B 4 := by
  simp only [State.saveHead, List.append_assoc]
  exact List.take_left' (length_leBytes _ 4)

theorem State.slice_saveHead : slice (s.saveHead room wrap locked len count seq key nonce ++ rest) 8 10 = leBytes room 2 := by
  have hfront : (leBytes 0x5253584B 4 ++ (leBytes 1 2 ++ leBytes (b01 wrap + 2 * b01 locked) 2)).length = 8 := by
    simp only [List.length_append, length_leBytes]
  simp only [State.saveHead, slice, List.append_assoc]
  rw [← List.append_assoc (leBytes 1 2), ← List.append_assoc (leBytes _ 4), List.drop_left' hfront]
  exact List.take_left' (length_leBytes _ 2)

end

/-! ## ROOM_RESET_DRAIN_END (R114) -/

/-- Steps 4 and 5: what is left is squashed, and the room is furnished with its rings stopped. -/
def State.drained (s : State) (n : Nat) : State :=
  let a := (s.roomRings n).foldl (fun s ref => s.squashRing n ref) s
  let b := (a.squashCommands n).abandonTags fun t => decide (t.room = some n)
  let c := (((b.dropRoomSessions n).dropRoomDma n).clearPending n).moveRoom n .furnished
  (c.roomRings n).foldl (fun s ref => s.setRing ref (s.ring ref).afterReset) c

section
variable {s : State} {room : Fin 1024}

theorem roomResetDrainEnd_of_none (h : (s.room room).resetting = none) : exec (.roomResetDrainEnd room) s = .next s := by
  simp only [exec_roomResetDrainEnd, execRoomResetDrainEnd, h]

section
variable {w : RoomResetting} (h : (s.room room).resetting = some w)
include h

theorem roomResetDrainEnd_waits (hb : s.clock < w.since + 1000 * w.budget) (hi : s.inflight room ≠ 0) :
    exec (.roomResetDrainEnd room) s = .next s := by
  simp only [exec_roomResetDrainEnd, execRoomResetDrainEnd, h, if_pos (And.intro hb hi)]

theorem roomResetDrainEnd_ends (hd : w.since + 1000 * w.budget ≤ s.clock ∨ s.inflight room = 0) :
    exec (.roomResetDrainEnd room) s = .next (((s.drained room).setRoom room { (s.drained room).room room with
      tdi := .unlocked, stream := 0, resetting := none, dirty := none }).endRunning 0x0104 room .ok []).pump := by
  have hdone : ¬ (s.clock < w.since + 1000 * w.budget ∧ s.inflight room ≠ 0) := by omega
  simp only [exec_roomResetDrainEnd, execRoomResetDrainEnd, h, if_neg hdone, State.drained]

end

/-! ## ROOM_SAVE_DRAINED (R120, R121, R123, R124) -/

theorem roomSaveDrained_of_none (h : s.runningOn 0x0107 room = none) : exec (.roomSaveDrained room) s = .next s := by
  simp only [exec_roomSaveDrained, execRoomSaveDrained, h]

section
variable {r : Running} (h : s.runningOn 0x0107 room = some r)
include h

theorem roomSaveDrained_waits (hw : (s.room room).saving = false ∨ s.inflight room ≠ 0) :
    exec (.roomSaveDrained room) s = .next s := by
  have hwait : (!(s.room room).saving) = true ∨ s.inflight room ≠ 0 := hw.imp_left (by simp)
  simp only [exec_roomSaveDrained, execRoomSaveDrained, h, if_pos hwait]

section
variable (hs : (s.room room).saving = true) (hi : s.inflight room = 0) {bs : List Byte} (hp : r.ctx.pkt.params = bs)
  {u : State} (hu : (s.setRoom room { s.room room with saving := false }).dropRoomPackets room = u)
include hs hi hp hu

theorem roomSaveDrained_without_key (hk : u.migKey ((bs.drop 0x10).take 16) = none) :
    exec (.roomSaveDrained room) s = .next (u.endRunning 0x0107 room .keyAbsent []) := by
  simp only [exec_roomSaveDrained, execRoomSaveDrained, h, hs, hi, hp, hu, hk, Bool.not_true, Bool.false_eq_true, ne_eq, not_true, or_self,
    if_false]

section
variable {k : MigKey} (hk : u.migKey ((bs.drop 0x10).take 16) = some k)
  {len : Nat} (hlen : ((u.saveSections room).map fun x => x.2.length).sum = len)
include hk hlen

theorem roomSaveDrained_too_long (hn : fld bs 8 4 < 128 + len) : exec (.roomSaveDrained room) s =
    .next (u.endRunning 0x0107 room .invalidParam (leBytes (128 + len) 4)) := by
  simp only [exec_roomSaveDrained, execRoomSaveDrained, h, hs, hi, hp, hu, hk, hlen, if_pos hn, Bool.not_true, Bool.false_eq_true, ne_eq,
    not_true, or_self, if_false]

/-- The image begins with MAGIC, which is written after all the rest, and names the room. -/
theorem roomSaveDrained_saves (hn : 128 + len ≤ fld bs 8 4) :
    let v := (u.secretBytes 12).2.setMigKey { k with saved := k.saved + 1 }
    ∃ out, exec (.roomSaveDrained room) s =
      .next (((v.hostWrite ⟨none, fld bs 0 8 + 4, out.drop 4, 0, false⟩).hostWrite ⟨none, fld bs 0 8, out.take 4, 0, false⟩).endRunning
        0x0107 room .ok (leBytes (128 + len) 4)) ∧ out.take 4 = leBytes 0x5253584B 4 ∧ slice out 8 10 = leBytes room 2 := by
  simp only [exec_roomSaveDrained, execRoomSaveDrained, h, hs, hi, hp, hu, hk, hlen, if_neg (Nat.not_lt.mpr hn), Bool.not_true,
    Bool.false_eq_true, ne_eq, not_true, or_self, if_false]
  refine ⟨_, rfl, ?_, ?_⟩
  · simp only [List.append_assoc]
    exact State.take_saveHead ..
  · simp only [List.append_assoc]
    exact State.slice_saveHead ..

end
end
end
end

/-! ## The end of a room reset and of a drained save -/

/-- Settles O58: each clause is the lemma about the branch that its hypotheses select. -/
theorem roomDrains : Obligations.RoomDrains := by
  unfold Obligations.RoomDrains
  intro s room n
  exact ⟨roomResetDrainEnd_of_none, fun _ h => ⟨roomResetDrainEnd_waits h, roomResetDrainEnd_ends h⟩, roomSaveDrained_of_none,
    fun _ h => ⟨roomSaveDrained_waits h, fun hs hi => ⟨roomSaveDrained_without_key h hs hi rfl rfl,
      fun _ hk => ⟨roomSaveDrained_too_long h hs hi rfl rfl hk rfl, roomSaveDrained_saves h hs hi rfl rfl hk rfl⟩⟩⟩⟩

end Sys2Proof.Machine

/-!
PROOFS. The bodies of the commands that act on rings at once: what `Obligations.RingCommands` is assembled from.
-/

namespace Sys2Proof.Machine

section
variable {x : Ctx} {s : State} {bs : List Byte} (hp : x.pkt.params = bs)
include hp

/-! ## A reference that refuses the whole command (R126, R158) -/

section
variable {st : Status}

theorem ringEnable_body_refused (h : s.refsRefused x.pkt (ringRefs bs 4) = some st) : cmdRingEnable.body x s = .done st [] s := by
  simp only [cmdRingEnable, hp, h, Out.of]

theorem ringDisable_body_refused (h : s.refsRefused x.pkt (ringRefs bs 4) = some st) : cmdRingDisable.body x s = .done st [] s := by
  simp only [cmdRingDisable, hp, h, Out.of]

theorem ringModerate_body_refused (h : s.refsRefused x.pkt (ringRefs bs 8) = some st) : cmdRingModerate.body x s = .done st [] s := by
  simp only [cmdRingModerate, hp, h, Out.of]

theorem ringRxMode_body_refused (h : s.refsRefused x.pkt (ringRefs bs 16) = some st) : cmdRingRxMode.body x s = .done st [] s := by
  simp only [cmdRingRxMode, hp, h, Out.of]

end

/-! ## RING_ENABLE (R156) -/

theorem ringEnable_body_enables (h : s.refsRefused x.pkt (ringRefs bs 4) = none) :
    cmdRingEnable.body x s = .done .ok [] ((ringRefs bs 4).foldl State.enableRing s) := by
  simp only [cmdRingEnable, hp, h, Out.of]

/-! ## RING_DISABLE (R155): it waits for what is left on any ring it names -/

section
variable (h : s.refsRefused x.pkt (ringRefs bs 4) = none) {u : State} (hu : (ringRefs bs 4).foldl State.disableRing s = u)
include h hu

theorem ringDisable_body_ends (hq : ∀ ref, ref ∈ ringRefs bs 4 → u.ringQuiet none ref = true) :
    cmdRingDisable.body x s = .done .ok [] u := by
  simp only [cmdRingDisable, hp, h, hu, if_pos (List.all_eq_true.mpr hq), Out.of]

theorem ringDisable_body_waits (hq : ∃ ref, ref ∈ ringRefs bs 4 ∧ u.ringQuiet none ref = false) :
    cmdRingDisable.body x s = .held (u.hold x false 0 (ringRefs bs 4)) := by
  simp only [cmdRingDisable, hp, h, hu, List.all_eq_false.mpr (by simpa using hq), Bool.false_eq_true, if_false]

end

/-! ## RING_MODERATE (R148) and RING_RX_MODE (R157): every record is in range before any acts -/

theorem ringModerate_body_sets (h : s.refsRefused x.pkt (ringRefs bs 8) = none)
    (hr : ∀ e, e ∈ recordsOf bs 8 8 (fld bs 0 2) → fld e 4 2 ≤ 1023 ∧ 1 ≤ fld e 6 2 ∧ fld e 6 2 ≤ 1024) :
    cmdRingModerate.body x s = .done .ok [] ((recordsOf bs 8 8 (fld bs 0 2)).foldl (fun s e =>
      s.setRing (fld e 0 4) { s.ring (fld e 0 4) with timerUs := fld e 4 2, modCount := fld e 6 2 }) s) := by
  have hall : (recordsOf bs 8 8 (fld bs 0 2)).all
      (fun e => decide (fld e 4 2 ≤ 1023) && decide (1 ≤ fld e 6 2 ∧ fld e 6 2 ≤ 1024)) = true :=
    List.all_eq_true.mpr fun e he => by simpa using hr e he
  simp only [cmdRingModerate, hp, h, hall, Bool.not_true, Bool.false_eq_true, if_false, Out.of]

theorem ringRxMode_body_sets (h : s.refsRefused x.pkt (ringRefs bs 16) = none)
    (hr : ∀ e, e ∈ recordsOf bs 8 16 (fld bs 0 2) → refKind (fld e 0 4) = 1 ∧ fld e 4 1 ≤ 1 ∧
      (fld e 8 4 = 0 ∨ (10 ≤ fld e 8 4 ∧ fld e 8 4 ≤ 100000))) :
    cmdRingRxMode.body x s = .done .ok [] ((recordsOf bs 8 16 (fld bs 0 2)).foldl (fun s e =>
      s.setRing (fld e 0 4) { s.ring (fld e 0 4) with
        hold := decide (fld e 4 1 = 1), holdLimit := if fld e 8 4 = 0 then (s.ring (fld e 0 4)).holdLimit else fld e 8 4 }) s) := by
  have hall : (recordsOf bs 8 16 (fld bs 0 2)).all (fun e => decide (refKind (fld e 0 4) = 1) && decide (fld e 4 1 ≤ 1) &&
      (decide (fld e 8 4 = 0) || decide (10 ≤ fld e 8 4 ∧ fld e 8 4 ≤ 100000))) = true :=
    List.all_eq_true.mpr fun e he => by simpa [and_assoc] using hr e he
  simp only [cmdRingRxMode, hp, h, hall, Bool.not_true, Bool.false_eq_true, if_false, Out.of]

end

/-! ## A ring with nothing in flight (R134, R155) -/

theorem State.endInOrder_of_idle {s : State} {ref : Nat} (h : (s.ring ref).work = []) (n : Nat) : s.endInOrder ref n = s := by
  cases n with
  | zero => rfl
  | succ n => simp only [State.endInOrder, h]

@[simp] theorem State.ring_count (s : State) (o n ref : Nat) : (s.count o n).ring ref = s.ring ref := rfl

/-- No entry is discarded and none completes, so of the ring only the enable changes. -/
theorem State.ring_disableRing_of_idle {s : State} {ref : Nat} (h : (s.ring ref).enabled = true) (hw : (s.ring ref).work = []) :
    (s.disableRing ref).ring ref = { s.ring ref with enabled := false } := by
  have hset := s.ring_setRing ref { s.ring ref with enabled := false, work := [] }
  simp only [State.disableRing, h, hw, Bool.not_true, Bool.false_eq_true, if_false, List.filter_nil, List.foldl_nil, State.ring_count]
  rw [State.endInOrder_of_idle]
  · exact hset
  · exact congrArg Ring.work hset

/-! ## Commands on rings -/

/-- Settles O27: each clause is the lemma about the command's body under its hypotheses. -/
theorem ringCommands : Obligations.RingCommands := by
  unfold Obligations.RingCommands
  intro p s bs refused named
  have hp (c : Command) : (c.context p).pkt.params = bs := Packet.scoped_params p
  exact ⟨fun _ hs h => exec_done rfl hs (ringEnable_body_refused (hp _) h),
    fun _ hs h => exec_done rfl hs (ringDisable_body_refused (hp _) h),
    fun _ hs h => exec_done rfl hs (ringModerate_body_refused (hp _) h),
    fun _ hs h => exec_done rfl hs (ringRxMode_body_refused (hp _) h),
    fun hs h => exec_done rfl hs (ringEnable_body_enables (hp _) h),
    fun hs h => ⟨fun hq => exec_done rfl hs (ringDisable_body_ends (hp _) h rfl hq),
      fun hq => exec_held rfl hs (ringDisable_body_waits (hp _) h rfl hq)⟩,
    fun hs h hr => exec_done rfl hs (ringModerate_body_sets (hp _) h hr),
    fun hs h hr => exec_done rfl hs (ringRxMode_body_sets (hp _) h hr),
    fun _ => State.ring_disableRing_of_idle⟩

end Sys2Proof.Machine

/-!
PROOFS. Period boundaries and SYNC_IN: what `Obligations.Boundaries` is assembled from.
-/

namespace Sys2Proof.Machine

/-! ## Counters read back -/

theorem State.reg_bump_ne (s : State) {o o' : Nat} (h : o' ≠ o) : (s.bump o).reg o' = s.reg o' := State.reg_setReg_ne s _ h

theorem State.reg_count64 (s : State) (o n : Nat) : (s.count64 o n).reg o = s.reg o + BitVec.ofNat 64 n := State.reg_setReg ..

/-! ## The timekeeper's part of a boundary (R182, R183, R186) -/

/-- A boundary fires: it is latched and counted, and the staged P and PHASE come into force. -/
def State.fireBoundary (s : State) : State :=
  let u := (if s.time.slewing then s.bump R.PERIOD_SLEWED else s).count64 R.PERIOD_COUNT 1
  let p := s.time.nextPeriod.getD (s.time.periodUs, s.time.phase)
  { u with time := { s.time with
      last := s.now, lastFire := s.time.fire, fired := true, periodUs := p.1, phase := p.2, nextPeriod := none } }

theorem State.reg_fireBoundary (s : State) : s.fireBoundary.reg R.PERIOD_COUNT = s.reg R.PERIOD_COUNT + 1 := by
  refine (State.reg_count64 (if s.time.slewing then s.bump R.PERIOD_SLEWED else s) R.PERIOD_COUNT 1).trans (congrArg (· + 1) ?_)
  split
  · exact State.reg_bump_ne s (by decide)
  · rfl

/-- A pulse output at a boundary that fires at `fire`: a staged mode comes into force. -/
def State.turnPps (fire timer : Nat) (s : State) (n : Nat) : State :=
  match (s.ppsOut n).next with
  | some b =>
    s.setPps n { s.ppsOut n with
      next := none, block := if fld b 1 1 = 0 ∨ fld b 1 1 = 1 then [] else b, since := (s.ppsOut n).asked
      start := max (s.now.units + fire - timer) (s.soonest (s.ppsOut n).asked) }
  | none => s

/-- Turning an output changes only outputs. -/
theorem State.turnPps_frame (fire timer : Nat) (s : State) (n : Nat) :
    s.turnPps fire timer n = { s with time := { s.time with pps := (s.turnPps fire timer n).time.pps } } := by
  unfold State.turnPps
  split <;> rfl

theorem State.foldl_turnPps_frame (fire timer : Nat) (ns : List Nat) (s : State) :
    ∃ pps, ns.foldl (State.turnPps fire timer) s = { s with time := { s.time with pps := pps } } := by
  induction ns generalizing s with
  | nil => exact ⟨s.time.pps, rfl⟩
  | cons n ns ih =>
    obtain ⟨pps, h⟩ := ih (s.turnPps fire timer n)
    exact ⟨pps, by rw [List.foldl_cons, h, State.turnPps_frame]⟩

/-- The boundary has fired, and the outputs have turned. -/
def State.turned (s : State) : State := (List.range 4).foldl (State.turnPps s.time.fire s.time.timer) s.fireBoundary

/-- The instant of the boundary that follows the one of `t`, and whether it is slewed: toward the grid in time mode, and toward the target
while SYNC_IN acquires (R180, R182). -/
def State.nextAfter (u : State) (t : Timekeeper) : Nat × Bool :=
  match (if t.syncOn then (if t.acquiring then t.target else none) else some u.gridTarget) with
  | some g =>
    let d := clampInt (nearest g u.periodUnits (t.fire + u.periodUnits : Nat)) (u.periodUnits / 8)
    ((((t.fire + u.periodUnits : Nat) : Int) + d).toNat, decide (d ≠ 0))
  | none => (t.fire + u.periodUnits, false)

theorem State.nextAfter_synced (u : State) {t : Timekeeper} (hon : t.syncOn = true) (hacq : t.acquiring = false) :
    u.nextAfter t = (t.fire + u.periodUnits, false) := by
  simp only [State.nextAfter, hon, hacq, if_true, Bool.false_eq_true, if_false]

theorem State.boundary_eq (s : State) :
    s.boundary = { s.turned with time := { s.turned.time with
      following := (s.turned.nextAfter s.time).1, nextSlew := (s.turned.nextAfter s.time).2 } } := by
  have htail : s.boundary =
      match (if s.time.syncOn then (if s.time.acquiring then s.time.target else none) else some s.turned.gridTarget) with
      | some g =>
        let d := clampInt (nearest g s.turned.periodUnits (s.time.fire + s.turned.periodUnits : Nat)) (s.turned.periodUnits / 8)
        { s.turned with time := { s.turned.time with
            following := (((s.time.fire + s.turned.periodUnits : Nat) : Int) + d).toNat, nextSlew := decide (d ≠ 0) } }
      | none => { s.turned with time := { s.turned.time with following := s.time.fire + s.turned.periodUnits, nextSlew := false } } := rfl
  rw [htail, State.nextAfter]
  split <;> rfl

/-- P in units depends on P alone. -/
theorem State.periodUnits_congr {s u : State} (h : s.time.periodUs = u.time.periodUs) : s.periodUnits = u.periodUnits :=
  congrArg (· * 1000 * perNs) h

theorem State.boundary_spec (s : State) :
    s.boundary.reg R.PERIOD_COUNT = s.reg R.PERIOD_COUNT + 1 ∧ s.boundary.time.fired = true ∧ s.boundary.time.last = s.now ∧
    s.boundary.time.lastFire = s.time.fire ∧ s.boundary.time.nextPeriod = none ∧
    (∀ p ph, s.time.nextPeriod = some (p, ph) → s.boundary.time.periodUs = p ∧ s.boundary.time.phase = ph) ∧
    (s.time.syncOn = true → s.time.acquiring = false → s.boundary.time.following = s.time.fire + s.boundary.periodUnits) := by
  obtain ⟨pps, hu⟩ : ∃ pps, s.turned = { s.fireBoundary with time := { s.fireBoundary.time with pps := pps } } :=
    State.foldl_turnPps_frame ..
  rw [State.boundary_eq, hu]
  refine ⟨s.reg_fireBoundary, rfl, rfl, rfl, rfl, fun p ph h => ?period, fun hon hacq => ?next⟩
  case period => simp [State.fireBoundary, h]
  case next =>
    exact (congrArg Prod.fst (State.nextAfter_synced _ hon hacq)).trans (congrArg (s.time.fire + ·) (State.periodUnits_congr rfl))

theorem periodBoundary_due {s : State} (hd : s.rollWindow.boundaryDue = true) (hl : s.rollWindow.power.ladder ≤ 4) :
    exec .periodBoundary s = .next ((((s.rollWindow.boundary.restartGates).ropeBoundary s.rollWindow.now
      s.rollWindow.time.periodUs).periodicAt.sweepTick).storeRetry.settleStep.serveAll) := if_pos ⟨hd, hl⟩

theorem periodBoundary_not_due {s : State} (h : s.rollWindow.boundaryDue = false ∨ 4 < s.rollWindow.power.ladder) :
    exec .periodBoundary s = .next s.rollWindow := by
  refine if_neg fun ⟨hd, hl⟩ => ?_
  rcases h with h | h
  · exact Bool.false_ne_true (h.symm.trans hd)
  · omega

/-! ## SYNC_EDGE (R181, R182, R600) -/

/-- Where an edge that comes now puts its boundary. -/
def State.edgeAt (s : State) : Nat := s.time.timer + s.time.syncOffset * perNs

/-- An edge that comes now is the first in the open window. -/
def State.edgeInWindow (s : State) : Prop :=
  s.time.taken = false ∧ s.time.sched ≤ s.edgeAt + s.periodUnits / 8 ∧ s.edgeAt ≤ s.time.sched + s.periodUnits / 8

/-- An edge is noted. -/
def State.noteEdge (s : State) : State := { s with time := { s.time with lastEdge := s.now } }

/-- The edge moves the boundary of its window: the open one, or the one after it once that has fired. -/
def State.takeEdge (s : State) : State :=
  { s.noteEdge.bump R.SYNC_MOVED with time := { s.noteEdge.time with
      taken := true, acquiring := false, missedRun := 0, target := none
      fire := if s.time.fired then s.time.fire else s.edgeAt
      following := if s.time.fired then s.edgeAt + s.periodUnits else s.time.following
      nextSlew := if s.time.fired then false else s.time.nextSlew } }

/-- An outlier is counted; acquisition takes it for its target. -/
def State.passEdge (s : State) : State :=
  { s.noteEdge.bump R.SYNC_OUTLIER with time := { s.noteEdge.time with
      target := if s.time.acquiring then some (s.edgeAt : Int) else s.time.target } }

section
variable {s : State} {rising : Bool}

theorem syncEdge_unwanted (h : rising = s.time.syncFall) : exec (.syncEdge rising) s = .next s := if_pos h

section
variable (hr : rising ≠ s.time.syncFall)
include hr

theorem syncEdge_off (hon : s.time.syncOn = false) : exec (.syncEdge rising) s = .next s.noteEdge := by
  simp only [exec_syncEdge, execSyncEdge, if_neg hr, hon, Bool.not_false, if_true, State.noteEdge, State.now]

theorem syncEdge_inside (hon : s.time.syncOn = true) (hw : s.edgeInWindow) : exec (.syncEdge rising) s = .next s.takeEdge := by
  obtain ⟨ht, hlow, hhigh⟩ := hw
  have hin : ¬ (s.time.taken = true ∨ s.edgeAt + s.periodUnits / 8 < s.time.sched ∨ s.time.sched + s.periodUnits / 8 < s.edgeAt) := by
    simp only [ht, Bool.false_eq_true, false_or]
    omega
  rw [exec_syncEdge, execSyncEdge, if_neg hr, if_neg (by simp [hon])]
  exact if_neg hin

theorem syncEdge_outside (hon : s.time.syncOn = true) (hw : ¬ s.edgeInWindow) : exec (.syncEdge rising) s = .next s.passEdge := by
  have hout : s.time.taken = true ∨ s.edgeAt + s.periodUnits / 8 < s.time.sched ∨ s.time.sched + s.periodUnits / 8 < s.edgeAt := by
    cases ht : s.time.taken with
    | true => exact .inl rfl
    | false =>
      have : ¬ (s.time.sched ≤ s.edgeAt + s.periodUnits / 8 ∧ s.edgeAt ≤ s.time.sched + s.periodUnits / 8) := fun h => hw ⟨ht, h⟩
      omega
  rw [exec_syncEdge, execSyncEdge, if_neg hr, if_neg (by simp [hon])]
  refine (if_pos hout).trans (congrArg Host.Outcome.next ?_)
  unfold State.passEdge
  by_cases hacq : s.time.acquiring = true
  · rw [if_pos hacq, if_pos hacq]
    rfl
  · rw [if_neg hacq, if_neg hacq]
    rfl

end

/-! ## SYNC_WINDOW_CLOSE (R181, R182) -/

theorem syncWindowClose_ends (hf : s.time.fired = true) (ht : s.time.sched + s.periodUnits / 8 ≤ s.time.timer) :
    exec .syncWindowClose s = .next s.closeWindow := congrArg Host.Outcome.next (if_pos ⟨hf, ht⟩)

theorem syncWindowClose_open (h : s.time.fired = false ∨ s.time.timer < s.time.sched + s.periodUnits / 8) :
    exec .syncWindowClose s = .next s := by
  refine congrArg Host.Outcome.next (if_neg fun ⟨hf, ht⟩ => ?_)
  rcases h with h | h
  · exact Bool.false_ne_true (h.symm.trans hf)
  · omega

/-- A window that closes with no edge taken counts one missed. -/
theorem State.closeWindow_missed (ht : s.time.taken = false) (hon : s.time.syncOn = true) :
    s.closeWindow.reg R.SYNC_MISSED = (s.bump R.SYNC_MISSED).reg R.SYNC_MISSED := by
  simp only [State.closeWindow, ht, hon, Bool.not_false, Bool.and_self, if_true]
  rfl

end

/-! ## Period boundaries and SYNC_IN -/

/-- Settles O40: a boundary and a closing window change the timekeeper as their lemmas say; an edge is unwanted, noted, taken or passed. -/
theorem boundaries : Obligations.Boundaries := by
  unfold Obligations.Boundaries
  intro s rising
  refine ⟨⟨periodBoundary_due, periodBoundary_not_due⟩, s.boundary_spec, syncEdge_unwanted, syncEdge_off, fun hr hon => ?edge,
    fun hf ht => ⟨syncWindowClose_ends hf ht, rfl, rfl, rfl, rfl, State.closeWindow_missed⟩, syncWindowClose_open⟩
  case edge =>
    by_cases hw : s.edgeInWindow
    · refine ⟨s.takeEdge, syncEdge_inside hr hon hw, rfl, fun _ => ⟨rfl, rfl, rfl, rfl, fun hf => ?_, fun hf => ?_, ?_, ?_⟩,
        fun h => absurd hw h⟩
      · exact ⟨if_neg (by simp [hf]), if_neg (by simp [hf])⟩
      · exact ⟨if_pos hf, if_pos hf⟩
      · rfl
      · exact State.reg_bump_ne s.noteEdge (by decide)
    · exact ⟨s.passEdge, syncEdge_outside hr hon hw, rfl, fun h => absurd h hw,
        fun _ => ⟨rfl, rfl, rfl, rfl, State.reg_bump_ne s.noteEdge (by decide)⟩⟩

end Sys2Proof.Machine

/-!
PROOFS. The MAC and the link of a port: what `Obligations.PortEvents` is assembled from.
-/

namespace Sys2Proof.Machine

@[simp] theorem Tbl.find_erase_self {α : Type} (m : Tbl α) (k : Nat) : Tbl.find (Tbl.erase k m) k = none := by
  induction m with
  | nil => rfl
  | cons e m ih =>
    simp only [Tbl.erase]
    split
    case isTrue => exact ih
    case isFalse h => rwa [Tbl.find, List.find?_cons_of_neg (by simpa using h)]

/-! ## RX_FRAME (R162, R167, R169): one lemma a check, in the order of the checks -/

/-- The FEC codewords of a frame are counted. -/
def State.countFec (s : State) (n fixed bad : Nat) : State :=
  (s.count (portReg R.PORT_FEC_CORRECTED n) fixed).count (portReg R.PORT_FEC_UNCORRECTABLE n) bad

/-- The buffer has no room left for a frame of an enabled class. -/
def State.noRoom (s : State) (n : Nat) (p : Port) (bytes : List Byte) : Prop :=
  (enabledClasses p.conf).contains (p.classOf bytes) = true ∧ (classLimits p.conf (p.classOf bytes)).2.2 ≤ s.occupancy n (p.classOf bytes)

section
variable {s : State} {port : Fin 4} {bytes : List Byte}

section
variable {ok : Bool} {fixed bad : Nat}

theorem rxFrame_no_link (hl : (s.port port.val).link = false) : exec (.rxFrame port bytes ok fixed bad) s = .next s :=
  if_pos (by simp [hl])

section
variable (hl : (s.port port.val).link = true)
include hl

theorem rxFrame_runt (hmin : bytes.length + 4 < 64) : exec (.rxFrame port bytes ok fixed bad) s =
    .next ((s.countFec port.val fixed bad).bump (portReg R.PORT_RX_RUNT port.val)) := by
  rw [exec_rxFrame, execRxFrame, if_neg (by simp [hl]), if_pos hmin]
  rfl

variable (hmin : 64 ≤ bytes.length + 4)
include hmin

theorem rxFrame_oversize (hmax : (s.port port.val).mtu < bytes.length + 4) : exec (.rxFrame port bytes ok fixed bad) s =
    .next ((s.countFec port.val fixed bad).bump (portReg R.PORT_RX_OVERSIZE port.val)) := by
  rw [exec_rxFrame, execRxFrame, if_neg (by simp [hl]), if_neg (Nat.not_lt.mpr hmin), if_pos hmax]
  rfl

variable (hmax : bytes.length + 4 ≤ (s.port port.val).mtu)
include hmax

theorem rxFrame_bad (hbad : ok = false ∨ bad ≠ 0) : exec (.rxFrame port bytes ok fixed bad) s =
    .next ((s.countFec port.val fixed bad).bump (portReg R.PORT_RX_FCS_ERR port.val)) := by
  rw [exec_rxFrame, execRxFrame, if_neg (by simp [hl]), if_neg (Nat.not_lt.mpr hmin), if_neg (Nat.not_lt.mpr hmax),
    if_pos (by simpa using hbad)]
  rfl

variable (hok : ok = true) (hbad : bad = 0)
include hok hbad

theorem rxFrame_pause {pfc : Bool} (hk : pauseKind bytes = some pfc) : exec (.rxFrame port bytes ok fixed bad) s =
    .next ((s.countFec port.val fixed bad).pauseIn port.val bytes pfc) := by
  rw [exec_rxFrame, execRxFrame, if_neg (by simp [hl]), if_neg (Nat.not_lt.mpr hmin), if_neg (Nat.not_lt.mpr hmax),
    if_neg (by simp [hok, hbad]), hk]
  rfl

variable (hk : pauseKind bytes = none)
include hk

theorem rxFrame_no_room (hfull : (s.countFec port.val fixed bad).noRoom port.val (s.port port.val) bytes) :
    exec (.rxFrame port bytes ok fixed bad) s =
      .next ((s.countFec port.val fixed bad).bump (portReg R.PORT_RX_BUF_DROP port.val)) := by
  rw [exec_rxFrame, execRxFrame, if_neg (by simp [hl]), if_neg (Nat.not_lt.mpr hmin), if_neg (Nat.not_lt.mpr hmax),
    if_neg (by simp [hok, hbad]), hk]
  exact if_pos hfull

theorem rxFrame_accepted (hfull : ¬ (s.countFec port.val fixed bad).noRoom port.val (s.port port.val) bytes) :
    exec (.rxFrame port bytes ok fixed bad) s = .next ((s.countFec port.val fixed bad).acceptFrame port.val bytes) := by
  rw [exec_rxFrame, execRxFrame, if_neg (by simp [hl]), if_neg (Nat.not_lt.mpr hmin), if_neg (Nat.not_lt.mpr hmax),
    if_neg (by simp [hok, hbad]), hk]
  exact if_neg hfull

end
end

/-! ## Pause and PFC frames (R169) -/

theorem pauseFrameReceive_no_link (hl : (s.port port.val).link = false) : exec (.pauseFrameReceive port bytes) s = .next s := by
  rw [exec_pauseFrameReceive, execPauseFrameReceive]
  split
  · exact if_neg (by simp [hl])
  · rfl

theorem pauseFrameReceive_acts (hl : (s.port port.val).link = true) {pfc : Bool} (hk : pauseKind bytes = some pfc) :
    exec (.pauseFrameReceive port bytes) s = .next (s.pauseIn port.val bytes pfc) := by
  rw [exec_pauseFrameReceive, execPauseFrameReceive, hk]
  exact if_pos hl

/-- A frame of the kind of flow control that the port does not use is counted, and pauses nothing. -/
theorem State.pauseIn_other_kind (s : State) (n : Nat) (bytes : List Byte) {pfc : Bool}
    (h : fld (s.port n).conf 6 1 ≠ (if pfc = true then 2 else 1)) :
    s.pauseIn n bytes pfc = s.bump (portReg (if pfc then R.PORT_RX_PFC else R.PORT_RX_PAUSE) n) := by
  unfold State.pauseIn
  cases pfc with
  | true => rw [if_neg fun ⟨_, h2⟩ => h h2, if_neg (by simp)]
  | false => rw [if_neg (by simp), if_neg fun ⟨_, h1⟩ => h h1]

section
variable {cls : Fin 8}

theorem pauseQuantaExpiry_ends
    (h : ((s.port port.val).paused.any fun e => decide (e.1 = cls.val) && decide (e.2 ≤ s.clock)) = true) :
    exec (.pauseQuantaExpiry port cls) s =
      .next (s.setPort port.val { s.port port.val with paused := Tbl.erase cls.val (s.port port.val).paused }) := if_pos h

theorem pauseQuantaExpiry_not_due
    (h : ((s.port port.val).paused.any fun e => decide (e.1 = cls.val) && decide (e.2 ≤ s.clock)) = false) :
    exec (.pauseQuantaExpiry port cls) s = .next s := if_neg (ne_true_of_eq_false h)

/-- The XOFF of a class is repeated: half its quanta have passed and the occupancy of the class, which the port enables, stays above XON. -/
def State.xoffDue (s : State) (n c : Nat) : Prop :=
  ((s.port n).xoff.any fun e => decide (e.1 = c) && decide (e.2 + (s.port n).quantaNs (s.port n).quanta / 2 ≤ s.clock)) = true ∧
    (classLimits (s.port n).conf c).2.1 < s.occupancy n c ∧ c ∈ enabledClasses (s.port n).conf

theorem pfcXoffRepeat_sends (h : s.xoffDue port.val cls.val) : exec (.pfcXoffRepeat port cls) s =
    .next ((s.sendPause port.val cls.val (s.port port.val).quanta).setPort port.val
      { s.port port.val with xoff := Tbl.put cls.val s.clock (s.port port.val).xoff }) := by
  obtain ⟨htime, hocc, hcls⟩ := h
  exact if_pos ⟨List.contains_iff_mem.mpr hcls, htime, hocc⟩

theorem pfcXoffRepeat_not_due (h : ¬ s.xoffDue port.val cls.val) : exec (.pfcXoffRepeat port cls) s = .next s :=
  if_neg fun ⟨hcls, htime, hocc⟩ => h ⟨htime, hocc, List.contains_iff_mem.mp hcls⟩

end

/-! ## The link (R163 to R165) -/

theorem linkDown_no_link {fault : Fin 3} (hl : (s.port port.val).link = false) : exec (.linkDown port fault) s = .next s :=
  if_pos (by simp [hl])

theorem linkDown_falls {fault : Fin 3} (hl : (s.port port.val).link = true) : exec (.linkDown port fault) s =
    .next (((s.portDown port.val).setPort port.val { (s.portDown port.val).port port.val with
      localFault := decide (fault.val = 1), remoteFault := decide (fault.val = 2) }).emit (.remoteFault port.val)) :=
  if_neg (by simp [hl])

/-- The port negotiates: it is up, configured and not C2M, AN is enabled, and the link is not there yet. -/
def Port.negotiates (p : Port) : Prop :=
  p.admin = true ∧ p.link = false ∧ p.conf ≠ [] ∧ p.c2m = false ∧ bit (fld p.conf 3 1) 0 = true

theorem noCommonAbility_notes (h : (s.port port.val).negotiates) : exec (.noCommonAbility port) s =
    .next (s.setPort port.val { s.port port.val with noCommon := true, anDone := false, ltDone := false }) :=
  if_pos (by simpa [Port.negotiates] using h)

theorem noCommonAbility_other (h : ¬ (s.port port.val).negotiates) : exec (.noCommonAbility port) s = .next s :=
  if_neg (by simpa [Port.negotiates] using h)

theorem linkUp_rises (h : (s.port port.val).mayRise = true) :
    exec (.linkUp port) s = .next ((s.portUp port.val).announceAll (addrsOf s.gen.cur port.val)) := if_pos h

theorem linkUp_stays (h : (s.port port.val).mayRise = false) : exec (.linkUp port) s = .next s := if_neg (ne_true_of_eq_false h)

end

theorem State.landFrame_of_sending {s : State} {n : Nat} {w : Wire} (hw : Tbl.find s.tm.wire n = some w) (ht : s.time.timer < w.stop) :
    s.landFrame n = s := by
  simp only [State.landFrame, hw, if_pos ht]

/-- A frame whose last bit is still to come is lost with the link: its wire is free, and its transmit entry completes with BYTES 0. -/
theorem State.loseFrame_of_sending {s : State} {n : Nat} {w : Wire} (hw : Tbl.find s.tm.wire n = some w) (ht : s.time.timer < w.stop) :
    s.loseFrame n = State.txDone { s with tm := { s.tm with wire := Tbl.erase n s.tm.wire } } w.pkt .ok none 0 := by
  simp only [State.loseFrame, State.landFrame_of_sending hw ht, hw]

/-! ## The MAC and the link of a port -/

/-- Settles O42: each clause is the lemma about the check, the frame or the change of the link that its hypotheses select. -/
theorem portEvents : Obligations.PortEvents := by
  unfold Obligations.PortEvents
  intro s port cls fault bytes ok fixed bad
  exact ⟨fun hl => ⟨rxFrame_no_link hl, pauseFrameReceive_no_link hl, linkDown_no_link hl⟩,
    fun hl => ⟨rxFrame_runt hl, rxFrame_oversize hl, rxFrame_bad hl,
      fun hmin hmax hok hbad => ⟨fun _ => rxFrame_pause hl hmin hmax hok hbad, rxFrame_no_room hl hmin hmax hok hbad,
        rxFrame_accepted hl hmin hmax hok hbad⟩,
      fun _ => pauseFrameReceive_acts hl, linkDown_falls hl⟩,
    fun _ => s.pauseIn_other_kind port.val bytes, pauseQuantaExpiry_ends, pauseQuantaExpiry_not_due,
    ⟨pfcXoffRepeat_sends, pfcXoffRepeat_not_due⟩, rfl, ⟨noCommonAbility_notes, noCommonAbility_other⟩, linkUp_rises, linkUp_stays,
    fun _ hw ht => ⟨_, State.loseFrame_of_sending hw ht, Tbl.find_erase_self _ _, rfl, rfl⟩⟩

end Sys2Proof.Machine

/-!
PROOFS. The switch stage, services, the back stair, queues, gates and telemetry: what `Obligations.PacketSteps` is assembled from.
-/

namespace Sys2Proof.Machine

/-! ## SWITCH_PASS (R192, R237, R240) -/

/-- The state in which the packets `rest` are still to be switched. -/
def State.toSwitch (s : State) (rest : List Piece) : State := { s with pipe := { s.pipe with pieces := rest } }

theorem switchPass_of_none {s : State} (h : nextPiece [] s.pipe.pieces = none) : exec .switchPass s = .next s := by
  simp only [exec_switchPass, execSwitchPass, h]

section
variable {s : State} {p : Pkt} {rest : List Piece} (h : nextPiece [] s.pipe.pieces = some (p, rest))
include h

theorem switchPass_retired (hr : (s.toSwitch rest).pktRetired p = true) :
    exec .switchPass s = .next ((s.toSwitch rest).retireDrop p).flow := by
  simp only [exec_switchPass, execSwitchPass, h]
  exact if_pos hr

variable (hr : (s.toSwitch rest).pktRetired p = false)
include hr

/-- A packet that parsing discarded goes no further. -/
theorem switchPass_drops (hs : p.stair = some 0) : exec .switchPass s = .next ((s.toSwitch rest).dropPkt p).flow := by
  simp only [exec_switchPass, execSwitchPass, h, hs]
  exact if_neg (ne_true_of_eq_false hr)

/-- A packet that parsing gave to the back stair goes there. -/
theorem switchPass_to_stair {r : Nat} (hs : p.stair = some (r + 1)) :
    exec .switchPass s = .next ((s.toSwitch rest).toStair p (r + 1)).flow := by
  simp only [exec_switchPass, execSwitchPass, h, hs]
  exact if_neg (ne_true_of_eq_false hr)

theorem switchPass_passes (hs : p.stair = none) : exec .switchPass s = .next ((s.toSwitch rest).switchPass p).flow := by
  simp only [exec_switchPass, execSwitchPass, h, hs]
  exact if_neg (ne_true_of_eq_false hr)

end

/-! ## SERVICE_PACKET (R250 to R253) -/

/-- What a service thread does with a packet, by the service that the packet was handed over for. -/
def State.serve (s : State) (h : Handed) : State :=
  match h.service with
  | 1 => s.espIn h.pkt h.room
  | 2 => s.espOut h.pkt h.room
  | 3 => s.macsecIn h.pkt h.room
  | 4 => s.macsecOut h.pkt h.room
  | 5 => s.tcpIn h.pkt h.room
  | _ => s.noSa h.pkt

/-- A service number that names no service finds no security association. -/
theorem State.serve_of_unknown (s : State) {h : Handed} (hs : h.service = 0 ∨ 5 < h.service) : s.serve h = s.noSa h.pkt := by
  unfold State.serve
  split
  case h_6 => rfl
  all_goals omega

theorem servicePacket_of_none {s : State} {t : Fin 2048} (h : s.takeHanded t.val = none) : exec (.servicePacket t) s = .next s := by
  simp only [exec_servicePacket, execServicePacket, h]

section
variable {s u : State} {t : Fin 2048} {h : Handed} (ht : s.takeHanded t.val = some (h, u))
include ht

theorem servicePacket_retired (hr : u.pktRetired h.pkt = true) : exec (.servicePacket t) s = .next (u.retireDrop h.pkt).flow := by
  simp only [exec_servicePacket, execServicePacket, ht, hr, if_true]

theorem servicePacket_serves (hr : u.pktRetired h.pkt = false) : exec (.servicePacket t) s = .next (u.serve h).flow := by
  simp only [exec_servicePacket, execServicePacket, ht, hr, Bool.false_eq_true, if_false]
  rfl

end

/-! ## BACK_STAIR_PACKET and REASM_TIMEOUT (R255, R256, R258, R261, R262) -/

/-- The state in which an entry has left the back stair's queue. -/
def State.offStair (s : State) (e : Stair) : State := { s with pipe := { s.pipe with stair := s.pipe.stair.erase e } }

theorem backStairPacket_idle {s : State} (h : nextStair s.pipe.stair = none ∨ s.stairRuns = false) :
    exec .backStairPacket s = .next s := by
  have hnone : (if s.stairRuns = true then nextStair s.pipe.stair else none) = none := by
    rcases h with h | h <;> simp [h]
  simp only [exec_backStairPacket, execBackStairPacket, hnone]

/-- What the back stair does with the answer `a` that it found for an entry's packet (R261): `may` is the state that has counted one
more answer, if the limit lets it be sent. -/
def State.giveAnswer (s : State) (e : Stair) (may : Option State) : Answer → State
  | .none => s.toOwner e.pkt e.reason
  | .consume => s.dropPkt e.pkt
  | .pathMtu a peer lp rp m => (s.setPathMtu a peer lp rp m).dropPkt e.pkt
  | .send bs => match may with
    | some y => (y.sendOwn e.pkt.source bs).dropPkt e.pkt
    | none => s.dropAt R.SW_BSTAIR_ANSWER_LIMIT e.pkt

section
variable {s : State} {e : Stair} (h : nextStair s.pipe.stair = some e) (hruns : s.stairRuns = true)
include h hruns

theorem nextStair_of_runs : (if s.stairRuns = true then nextStair s.pipe.stair else none) = some e := by
  rw [if_pos hruns, h]

theorem backStairPacket_retired (hr : (s.offStair e).pktRetired e.pkt = true) :
    exec .backStairPacket s = .next ((s.offStair e).retireDrop e.pkt).flow := by
  simp only [exec_backStairPacket, execBackStairPacket, nextStair_of_runs h hruns]
  exact if_pos hr

variable (hr : (s.offStair e).pktRetired e.pkt = false)
include hr

theorem backStairPacket_reassembles (hf : e.reason = 6) :
    exec .backStairPacket s = .next ((s.offStair e).reassemble e.pkt).flow := by
  simp only [exec_backStairPacket, execBackStairPacket, nextStair_of_runs h hruns]
  exact (if_neg (ne_true_of_eq_false hr)).trans (if_pos hf)

/-- The limit's own test stays opaque in the case split: its arithmetic on large numerals must not be unfolded. -/
theorem backStairPacket_answers (hf : e.reason ≠ 6) {a : Answer} {w : State} (ha : (s.offStair e).answerTo e.pkt = (a, w)) :
    exec .backStairPacket s = .next (w.giveAnswer e (w.mayAnswer e.pkt.source) a).flow := by
  simp only [exec_backStairPacket, execBackStairPacket, nextStair_of_runs h hruns]
  refine (if_neg (ne_true_of_eq_false hr)).trans ((if_neg hf).trans ?_)
  obtain ⟨mayAnswer, hopaque⟩ : ∃ f, State.mayAnswer = f := ⟨_, rfl⟩
  rw [hopaque]
  unfold State.offStair at ha
  rw [ha]
  cases a with
  | send bs =>
    dsimp only
    cases mayAnswer w e.pkt.source <;> rfl
  | none => rfl
  | consume => rfl
  | pathMtu => rfl

end

/-- Datagrams in reassembly end 2 s after their first fragment; those not discarded before are counted. -/
theorem reasmTimeout_discards (s : State) :
    exec .reasmTimeout s = .next ((s.setReasm (s.pipe.reasm.filter fun d => decide (s.clock < d.began + 2 * nsPerSec))).count
      R.SW_REASM_TIMEOUT (s.pipe.reasm.filter fun d => decide (d.began + 2 * nsPerSec ≤ s.clock) && !d.discarded).length) := by
  simp only [exec_reasmTimeout, execReasmTimeout, List.filter_filter, Bool.and_comm]

/-! ## The traffic manager (R26, R157, R270, R273, R274) -/

theorem tmEnqueue_of_none {s : State} (h : s.pipe.enq = []) : exec .tmEnqueue s = .next s := by
  simp only [exec_tmEnqueue, execTmEnqueue, h]

theorem tmEnqueue_takes {s : State} {e : Enq} {rest : List Enq} (h : s.pipe.enq = e :: rest) :
    exec .tmEnqueue s = .next (State.enqueue { s with pipe := { s.pipe with enq := rest } } e).flow := by
  simp only [exec_tmEnqueue, execTmEnqueue, h]

section
variable {s : State} {dest : Fin 6}

theorem tmScheduleDecision_gated (h : s.gated.getLsbD 10 = true) :
    exec (.tmScheduleDecision dest) s = .next (s.decide1 dest.val).flow := by
  simp only [exec_tmScheduleDecision, execTmScheduleDecision, h, if_true]

/-- The traffic manager's island adopts the newest generation at its next decision (R26). -/
theorem tmScheduleDecision_adopts (h : s.gated.getLsbD 10 = false) :
    exec (.tmScheduleDecision dest) s = .next ((s.adopt 10).decide1 dest.val).flow := by
  simp only [exec_tmScheduleDecision, execTmScheduleDecision, h, Bool.false_eq_true, if_false]

end

/-- The head `f` of a receive ring's leaf has waited HOLD_LIMIT there, in hold mode, while nothing else keeps it (R157). -/
def State.holdOver (s : State) (ref : Nat) (f : Frame) : Prop :=
  (s.ring ref).live = true ∧ refKind ref = 1 ∧ (s.ring ref).hold = true ∧ s.leafHeld 4 (s.ring ref).globalNo = true ∧
    (refOwner ref = true ∨ (s.room (refRoom ref)).state ≠ .frozen) ∧ f.enq + (s.ring ref).holdLimit * 1000 ≤ s.clock

section
variable {s : State} {ref : Nat} {f : Frame} {rest : List Frame} (h : (s.leaf (leafKey 4 (s.ring ref).globalNo)).queue = f :: rest)
include h

theorem rxHoldLimitExpiry_discards (hd : s.holdOver ref f) :
    exec (.rxHoldLimitExpiry ref) s = .next ((s.discardHead 4 (s.ring ref).globalNo).noBuffer ref).flow := by
  simp only [exec_rxHoldLimitExpiry, execRxHoldLimitExpiry, h]
  exact if_pos hd

theorem rxHoldLimitExpiry_waits (hd : ¬ s.holdOver ref f) : exec (.rxHoldLimitExpiry ref) s = .next s := by
  simp only [exec_rxHoldLimitExpiry, execRxHoldLimitExpiry, h]
  exact if_neg hd

end

/-! ## Gates (R170, R184, R283, R285) -/

@[simp] theorem State.gate_setGate (s : State) (port : Nat) (g : Gate) : (s.setGate port g).gate port = g := Tbl.get_set_self _ _ _ _

/-- Windows that open touch nothing of the port's gate but what is shut in them. -/
theorem State.gate_openWindows (s : State) (port : Nat) (opening : List Nat) :
    (s.openWindows port opening).gate port = { s.gate port with
      shut := ((s.gate port).shut.filter fun c => !opening.contains c) ++ opening.filter fun c => (s.port port).isPaused s.clock c } :=
  State.gate_setGate _ _ _

/-- A class whose window opens is shut in it when it is paused; the others stay as they were. -/
theorem State.mem_shut_openWindows (s : State) (port : Nat) (opening : List Nat) (c : Nat) :
    c ∈ ((s.openWindows port opening).gate port).shut ↔
      if c ∈ opening then (s.port port).isPaused s.clock c = true else c ∈ (s.gate port).shut := by
  rw [State.gate_openWindows]
  split <;> simp [*]

theorem State.gate_enterGate (s : State) (port : Nat) (list : List Byte) (next : Option (List Byte)) (i start cycle : Nat) :
    (s.enterGate port list next i start cycle).gate port =
      ⟨list, next, i, start, cycle, ((s.enterGate port list next i start cycle).gate port).shut⟩ := by
  simp only [State.enterGate, State.gate_openWindows, State.gate_setGate]

theorem State.mem_shut_enterGate (s : State) (port : Nat) (list : List Byte) (next : Option (List Byte)) (i start cycle c : Nat) :
    c ∈ ((s.enterGate port list next i start cycle).gate port).shut ↔
      if c ∈ openingClasses list i then (s.port port).isPaused s.clock c = true else c ∈ (s.gate port).shut := by
  rw [State.enterGate, State.mem_shut_openWindows, State.gate_setGate]
  rfl

/-- The time at which the entry that a port's gate list is in ends. -/
def Gate.stop (g : Gate) : Nat := g.start + gateDuration g.list g.entry * perNs

section
variable {s : State} {port : Fin 4}

theorem gateEntryChange_not_due (h : gateOn (s.gate port.val).list = false ∨ s.time.timer < (s.gate port.val).stop) :
    exec (.gateEntryChange port) s = .next s := by
  have hstay : (!gateOn (s.gate port.val).list) = true ∨ s.time.timer < (s.gate port.val).stop := by
    simpa using h
  exact if_pos hstay

variable (hon : gateOn (s.gate port.val).list = true) (ht : (s.gate port.val).stop ≤ s.time.timer)
include hon ht

/-- An entry that has ended leaves its list at the next one, at a new cycle, or at the boundary that ends its period. -/
theorem gateEntryChange_due : exec (.gateEntryChange port) s =
    let g := s.gate port.val
    if g.entry + 1 < gateCount g.list then .next (s.enterGate port.val g.list g.next (g.entry + 1) g.stop g.cycle)
    else if s.lastCycle g = true then .next s
    else .next (s.enterGate port.val g.list g.next 0 (g.cycle + gateCycle g.list * perNs) (g.cycle + gateCycle g.list * perNs)) := by
  have hdue : ¬ ((!gateOn (s.gate port.val).list) = true ∨ s.time.timer < (s.gate port.val).stop) := by
    simp [hon, ht]
  exact if_neg hdue

end

/-! ## Telemetry (R289 to R291) -/

theorem telemetryVisit_of_none {s : State} (h : s.tm.sweep = none) : exec .telemetryVisit s = .next s := by
  simp only [exec_telemetryVisit, execTelemetryVisit, h]

section
variable {s : State} {w : Sweep} (h : s.tm.sweep = some w)
include h

theorem telemetryVisit_ends (hl : w.left = []) : exec .telemetryVisit s =
    .next { s.teleFlush w true with tm := { (s.teleFlush w true).tm with sweep := none } } := by
  simp only [exec_telemetryVisit, execTelemetryVisit, h, hl]

/-- A visit to the last leaf ends the sweep; one to another leaf leaves the leaves behind it, and the sweep's beginning. -/
theorem telemetryVisit_visits {k : Nat} {rest : List Nat} (hl : w.left = k :: rest) : ∃ t, exec .telemetryVisit s = .next t ∧
    (rest = [] → t.tm.sweep = none) ∧ (rest ≠ [] → ∃ v, t.tm.sweep = some v ∧ v.left = rest ∧ v.began = w.began) := by
  simp only [exec_telemetryVisit, execTelemetryVisit, h, hl]
  by_cases hr : rest = []
  · simp only [if_pos hr]
    exact ⟨_, rfl, fun _ => rfl, fun hne => absurd hr hne⟩
  · simp only [if_neg hr]
    refine ⟨_, rfl, fun he => absurd he hr, fun _ => ⟨_, rfl, rfl, ?_⟩⟩
    dsimp only
    split <;> rfl

end

/-! ## Switching, queues and the stair -/

/-- Settles O44: each clause is the lemma about the branch that its hypotheses select. -/
theorem packetSteps : Obligations.PacketSteps := by
  unfold Obligations.PacketSteps
  intro s t port dest ref
  refine ⟨switchPass_of_none,
    fun p rest h => ⟨switchPass_retired h, fun hr => ⟨switchPass_drops h hr,
      fun r => switchPass_to_stair h hr, switchPass_passes h hr⟩⟩,
    servicePacket_of_none, fun h u ht => ⟨servicePacket_retired ht, ?services⟩,
    backStairPacket_idle, fun e h hruns => ⟨backStairPacket_retired h hruns, backStairPacket_reassembles h hruns, ?answers⟩,
    reasmTimeout_discards s, tmEnqueue_of_none, fun e rest => tmEnqueue_takes, tmScheduleDecision_gated, tmScheduleDecision_adopts,
    fun f rest h => ⟨rxHoldLimitExpiry_discards h, rxHoldLimitExpiry_waits h⟩, ⟨gateEntryChange_not_due, ?gate⟩, ?opens,
    telemetryVisit_of_none, fun w => telemetryVisit_ends, fun w k rest h hl => telemetryVisit_visits h hl⟩
  case services =>
    intro hr
    have hserve := servicePacket_serves ht hr
    unfold State.serve at hserve
    refine ⟨?_, ?_, ?_, ?_, ?_, fun hs => (servicePacket_serves ht hr).trans (by rw [u.serve_of_unknown hs])⟩
    all_goals
      intro hs
      simpa only [hs] using hserve
  case answers =>
    intro hr hf
    have answers {a : Answer} {w : State} := backStairPacket_answers h hruns hr hf (a := a) (w := w)
    refine ⟨fun w ha => ?_, fun w ha => ?_, fun a peer lp rp m w ha => ?_, fun bs w ha => ⟨fun y hy => ?_, fun hn => ?_⟩⟩
    · rw [answers ha, State.giveAnswer]
    · rw [answers ha, State.giveAnswer]
    · rw [answers ha, State.giveAnswer]
    · rw [answers ha, hy, State.giveAnswer]
    · rw [answers ha, hn, State.giveAnswer]
  case gate =>
    intro hon ht
    have hdue := gateEntryChange_due hon ht
    refine ⟨fun hn => hdue.trans (if_pos hn), fun hn hlast => ?_, fun hn hlast => ?_⟩
    · exact hdue.trans ((if_neg (Nat.not_lt.mpr hn)).trans (if_pos hlast))
    · exact hdue.trans ((if_neg (Nat.not_lt.mpr hn)).trans (if_neg (ne_true_of_eq_false hlast)))
  case opens =>
    intro list next i start cycle e
    have he : e = _ := s.gate_enterGate port.val list next i start cycle
    have hshut := s.mem_shut_enterGate port.val list next i start cycle
    exact ⟨congrArg Gate.list he, congrArg Gate.next he, congrArg Gate.entry he, congrArg Gate.start he, congrArg Gate.cycle he,
      fun c hc => (hshut c).trans (by rw [if_pos hc]), fun c hc => (hshut c).trans (by rw [if_neg hc])⟩

end Sys2Proof.Machine

/-!
PROOFS. Connections, timers and commands of NVMe over TCP: what `Obligations.NvmtCommands` is assembled from.
-/

namespace Sys2Proof.Machine

/-! ## NVMT_CONNECTION_OPEN (R507, R509) -/

section
variable {s : State} {index host : Fin 4096} {remote : List Byte} {port subsys : BitVec 16} {t : Fin 2048} {queue : Fin 65} {ctrl : Nat}

theorem nvmtConnectionOpen_no_initiator (h : nvmtRec (s.adopted 17) 5 index.val = []) :
    exec (.nvmtConnectionOpen true index remote port t subsys host queue ctrl) s = .next s := if_pos h

section
variable (h : nvmtRec (s.adopted 17) 5 index.val ≠ [])
include h

theorem nvmtConnectionOpen_refused (hr : s.connRoom (fld (nvmtRec (s.adopted 17) 5 index.val) 30 2) = false) :
    exec (.nvmtConnectionOpen true index remote port t subsys host queue ctrl) s = .next s.refuseConn :=
  (if_neg h).trans (if_pos (by rw [hr]; rfl))

theorem nvmtConnectionOpen_opens (hr : s.connRoom (fld (nvmtRec (s.adopted 17) 5 index.val) 30 2) = true) :
    exec (.nvmtConnectionOpen true index remote port t subsys host queue ctrl) s =
      let r := nvmtRec (s.adopted 17) 5 index.val
      .next (s.setConn s.freeConn ⟨true, index.val, fld r 4 1, slice r 10 26, port.toNat, fld r 8 2, fld r 30 2, t.val,
        decide (fld r 26 4 = 0), none, none, queue.val, 1500, 0, s.clock⟩) :=
  (if_neg h).trans (if_neg (by simp [hr]))

end

theorem nvmtConnectionOpen_no_listener (h : nvmtRec (s.adopted 17) 1 index.val = [] ∨ 256 ≤ index.val) :
    exec (.nvmtConnectionOpen false index remote port t subsys host queue ctrl) s = .next s := if_pos h

theorem nvmtConnectionOpen_listens (h : nvmtRec (s.adopted 17) 1 index.val ≠ []) (hi : index.val < 256) :
    exec (.nvmtConnectionOpen false index remote port t subsys host queue ctrl) s =
      .next (s.acceptConn (nvmtRec (s.adopted 17) 1 index.val) index.val remote port.toNat t.val subsys.toNat host.val queue.val ctrl) :=
  if_neg (not_or.mpr ⟨h, Nat.not_le.mpr hi⟩)

end

/-! ## What befalls a connection (R252, R510, R511) -/

section
variable {s : State} {c : Nat} (h : s.conn c = none) (ident : List Byte) (b : Bool)
include h

theorem nvmtTlsHandshake_of_none : exec (.nvmtTlsHandshake c ident b) s = .next s := by
  simp only [exec_nvmtTlsHandshake, execNvmtTlsHandshake, h]

theorem nvmtPduError_of_none : exec (.nvmtPduError c b) s = .next s := by
  simp only [exec_nvmtPduError, execNvmtPduError, h]

theorem tcpRetransmitTimeout_of_none : exec (.tcpRetransmitTimeout c) s = .next s := by
  simp only [exec_tcpRetransmitTimeout, execTcpRetransmitTimeout, h]

theorem tcpProgressTimeout_of_none : exec (.tcpProgressTimeout c) s = .next s := by
  simp only [exec_tcpProgressTimeout, execTcpProgressTimeout, h]

end

/-- The PSK of a connection's party that has the identity which the peer names. -/
def State.pskNamed (s : State) (x : Conn) (ident : List Byte) : Option SessKey :=
  ((s.connPsks x).filterMap s.session).find? fun k => decide (k.kind = 5) && decide (slice k.body 0x30 0x50 = fit ident 32)

section
variable {s : State} {c : Nat} {x : Conn} (h : s.conn c = some x)
include h

/-- A connection that has its keys has them for good. -/
theorem nvmtTlsHandshake_of_secure (ident : List Byte) (ok : Bool) (hs : x.secure = true) :
    exec (.nvmtTlsHandshake c ident ok) s = .next s := by
  simp only [exec_nvmtTlsHandshake, execNvmtTlsHandshake, h, hs, if_true]

section
variable {ident : List Byte} (hs : x.secure = false)
include hs

theorem nvmtTlsHandshake_succeeds {k : SessKey} (hp : s.pskNamed x ident = some k) : exec (.nvmtTlsHandshake c ident true) s =
    .next ((s.tlsKeys k).2.setConn c { x with secure := true, tls := some (s.tlsKeys k).1 }) := by
  unfold State.pskNamed at hp
  simp only [exec_nvmtTlsHandshake, execNvmtTlsHandshake, h, hs, Bool.false_eq_true, if_false, hp]

theorem nvmtTlsHandshake_fails {ok : Bool} (hp : s.pskNamed x ident = none ∨ ok = false) :
    exec (.nvmtTlsHandshake c ident ok) s = .next ((s.endConn c).bump R.NVMT_TLS_FAIL) := by
  simp only [exec_nvmtTlsHandshake, execNvmtTlsHandshake, h, hs, Bool.false_eq_true, if_false]
  split
  case h_1 hk => exact absurd hp (by simp [State.pskNamed, hk])
  case h_2 => rfl

end

theorem nvmtPduError_ends (digest : Bool) : exec (.nvmtPduError c digest) s =
    .next (((s.sendPdu c 3 []).endConn c).bump (if digest then R.NVMT_DIGEST_ERR else R.NVMT_PDU_ERR)) := by
  simp only [exec_nvmtPduError, execNvmtPduError, h]

theorem tcpRetransmitTimeout_resends : exec (.tcpRetransmitTimeout c) s =
    .next ((s.setConn c { x with retries := x.retries + 1 }).emit (.conn c 0x101 [])) := by
  simp only [exec_tcpRetransmitTimeout, execTcpRetransmitTimeout, h]

theorem tcpProgressTimeout_ends (ht : x.progress + 30000000000 ≤ s.clock) :
    exec (.tcpProgressTimeout c) s = .next ((s.emit (.conn c 0x100 [])).endConn c) := by
  simp only [exec_tcpProgressTimeout, execTcpProgressTimeout, h, if_pos ht]

theorem tcpProgressTimeout_waits (ht : s.clock < x.progress + 30000000000) : exec (.tcpProgressTimeout c) s = .next s := by
  simp only [exec_tcpProgressTimeout, execTcpProgressTimeout, h, if_neg (Nat.not_le.mpr ht)]

end

/-! ## KEEP_ALIVE_TIMER_EXPIRY (R508) -/

theorem keepAliveTimerExpiry_of_none {s : State} {k : Nat} (h : s.ctrl k = none) : exec (.keepAliveTimerExpiry k) s = .next s := by
  simp only [exec_keepAliveTimerExpiry, execKeepAliveTimerExpiry, h]

section
variable {s : State} {k : Nat} {y : Ctrl} (h : s.ctrl k = some y)
include h

theorem keepAliveTimerExpiry_ends (hk : y.kato ≠ 0) (ht : y.lastKeep + y.kato * 1000000 ≤ s.clock) :
    exec (.keepAliveTimerExpiry k) s = .next (s.closeCtrl k) := by
  simp only [exec_keepAliveTimerExpiry, execKeepAliveTimerExpiry, h, if_pos (And.intro hk ht)]

theorem keepAliveTimerExpiry_waits (hw : y.kato = 0 ∨ s.clock < y.lastKeep + y.kato * 1000000) :
    exec (.keepAliveTimerExpiry k) s = .next s := by
  have hno : ¬ (y.kato ≠ 0 ∧ y.lastKeep + y.kato * 1000000 ≤ s.clock) := by omega
  simp only [exec_keepAliveTimerExpiry, execKeepAliveTimerExpiry, h, if_neg hno]

end

/-! ## Which commands a queue of a controller takes (R508, R509) -/

/-- A connection that a host opened, that has its keys, and whose controller is there. -/
structure State.Attached (s : State) (c : Nat) (x : Conn) (k : Nat) (y : Ctrl) : Prop where
  conn : s.conn c = some x
  target : x.initiator = false
  secure : x.secure = true
  named : x.ctrl = some k
  ctrl : s.ctrl k = some y

section
variable {s : State} {c k : Nat} {sqe : List Byte} {x : Conn} {y : Ctrl} (h : s.Attached c x k y)
include h

theorem State.Attached.adminCmd (f : State → Nat → Ctrl → State) :
    s.adminCmd c sqe f = if x.queue = 0 then f s k y else s.nvmeRespond c (sqeCid sqe) nvmeBadOpcode := by
  simp only [State.adminCmd, h.conn, h.target, h.secure, h.named, h.ctrl, Bool.false_eq_true, Bool.not_true, or_self, if_false]

theorem State.Attached.ioCmd (f : State → Conn → List Byte → State) :
    s.ioCmd c sqe f = if x.queue = 0 then s.nvmeRespond c (sqeCid sqe) nvmeBadOpcode
      else if s.exportOf y (fld sqe 4 4) = [] then s.nvmeRespond c (sqeCid sqe) 0x400B else f s x (s.exportOf y (fld sqe 4 4)) := by
  simp only [State.ioCmd, h.conn, h.target, h.secure, h.named, h.ctrl, Bool.false_eq_true, Bool.not_true, or_self, if_false]

section
variable (hq : x.queue ≠ 0)
include hq

/-- An I/O queue takes no admin command. -/
theorem adminCommand_on_ioQueue : ∀ i ∈ [Instr.nvmtIdentify c sqe, .nvmtGetLogPage c sqe, .nvmtGetFeatures c sqe,
    .nvmtSetFeatures c sqe, .nvmtKeepAlive c sqe, .nvmtAsyncEventRequest c sqe],
    exec i s = .next (s.nvmeRespond c (sqeCid sqe) nvmeBadOpcode) := by
  have bad (f : State → Nat → Ctrl → State) :
      (.next (s.adminCmd c sqe f) : Res) = .next (s.nvmeRespond c (sqeCid sqe) nvmeBadOpcode) :=
    congrArg _ ((h.adminCmd f).trans (if_neg hq))
  simp only [List.forall_mem_cons]
  exact ⟨bad _, bad _, bad _, bad _, bad _, bad _, List.forall_mem_nil _⟩

/-- A command for a namespace that is not open to hosts of the subsystem is refused. -/
theorem ioCommand_not_exported {data : List Byte} (he : s.exportOf y (fld sqe 4 4) = []) :
    ∀ i ∈ [Instr.nvmtRead c sqe, .nvmtWrite c sqe data, .nvmtFlush c sqe, .nvmtDeallocate c sqe data],
    exec i s = .next (s.nvmeRespond c (sqeCid sqe) 0x400B) := by
  have bad (f : State → Conn → List Byte → State) :
      (.next (s.ioCmd c sqe f) : Res) = .next (s.nvmeRespond c (sqeCid sqe) 0x400B) :=
    congrArg _ ((h.ioCmd f).trans ((if_neg hq).trans (if_pos he)))
  simp only [List.forall_mem_cons]
  exact ⟨bad _, bad _, bad _, bad _, List.forall_mem_nil _⟩

end

/-- The admin queue takes no I/O command. -/
theorem ioCommand_on_adminQueue {data : List Byte} (hq : x.queue = 0) :
    ∀ i ∈ [Instr.nvmtRead c sqe, .nvmtWrite c sqe data, .nvmtFlush c sqe, .nvmtDeallocate c sqe data],
    exec i s = .next (s.nvmeRespond c (sqeCid sqe) nvmeBadOpcode) := by
  have bad (f : State → Conn → List Byte → State) :
      (.next (s.ioCmd c sqe f) : Res) = .next (s.nvmeRespond c (sqeCid sqe) nvmeBadOpcode) :=
    congrArg _ ((h.ioCmd f).trans (if_pos hq))
  simp only [List.forall_mem_cons]
  exact ⟨bad _, bad _, bad _, bad _, List.forall_mem_nil _⟩

end

/-! ## Admin commands (R508) -/

section
variable {s : State} {c k : Nat} {sqe : List Byte} {x : Conn} {y : Ctrl} (h : s.Attached c x k y) (hq : x.queue = 0)
include h hq

theorem State.Attached.adminCmd_acts (f : State → Nat → Ctrl → State) : s.adminCmd c sqe f = f s k y :=
  (h.adminCmd f).trans (if_pos hq)

theorem nvmtKeepAlive_acts : exec (.nvmtKeepAlive c sqe) s =
    .next ((s.setCtrl k { y with lastKeep := s.clock }).nvmeRespond c (sqeCid sqe) 0) := by
  rw [exec_nvmtKeepAlive, execNvmtKeepAlive, h.adminCmd_acts hq]

theorem nvmtAsyncEventRequest_waits : exec (.nvmtAsyncEventRequest c sqe) s =
    .next ((s.setCtrl k { y with events := y.events ++ [sqeCid sqe] }).notifyNs k) := by
  rw [exec_nvmtAsyncEventRequest, execNvmtAsyncEventRequest, h.adminCmd_acts hq]

section
variable (hsel : sqeDw sqe 10 % 256 = 0)
include hsel

theorem nvmtIdentify_not_exported (he : s.exportOf y (fld sqe 4 4) = []) :
    exec (.nvmtIdentify c sqe) s = .next (s.nvmeRespond c (sqeCid sqe) nvmeBadField) := by
  simp only [exec_nvmtIdentify, execNvmtIdentify, h.adminCmd_acts hq, hsel, he, if_true]

theorem nvmtIdentify_namespace (he : s.exportOf y (fld sqe 4 4) ≠ []) {sp : Space}
    (hs : s.space (fld (s.exportOf y (fld sqe 4 4)) 6 2) = some sp) : exec (.nvmtIdentify c sqe) s = .next (s.adminData c sqe
      (leBytes sp.size 8 ++ leBytes 4096 4 ++ leBytes (b01 (sp.readOnly || bit (fld (s.exportOf y (fld sqe 4 4)) 12 1) 0)) 1)) := by
  simp only [exec_nvmtIdentify, execNvmtIdentify, h.adminCmd_acts hq, hsel, he, if_false, hs]

end

theorem nvmtIdentify_unknown (hsel : 2 < sqeDw sqe 10 % 256) :
    exec (.nvmtIdentify c sqe) s = .next (s.nvmeRespond c (sqeCid sqe) nvmeBadField) := by
  rw [exec_nvmtIdentify, execNvmtIdentify, h.adminCmd_acts hq]
  split
  case h_4 => rfl
  all_goals omega

theorem nvmtGetLogPage_errors (hsel : sqeDw sqe 10 % 256 = 1) :
    exec (.nvmtGetLogPage c sqe) s = .next (s.adminData c sqe (leBytes y.errors 8)) := by
  simp only [exec_nvmtGetLogPage, execNvmtGetLogPage, h.adminCmd_acts hq, hsel]

/-- Reading the Changed Namespace List empties it. -/
theorem nvmtGetLogPage_changed (hsel : sqeDw sqe 10 % 256 = 4) : exec (.nvmtGetLogPage c sqe) s =
    .next ((s.setCtrl k { y with changed := [] }).adminData c sqe ((y.changed.map fun n => leBytes n 4).flatten)) := by
  simp only [exec_nvmtGetLogPage, execNvmtGetLogPage, h.adminCmd_acts hq, hsel]

/-- Number of Queues: the host gets as many as it asks for, up to those that the controller has. -/
theorem features_queues (hsel : sqeDw sqe 10 % 256 = 7) :
    exec (.nvmtGetFeatures c sqe) s = .next (s.nvmeRespond c (sqeCid sqe) 0 (queueFeature y.queues)) ∧
    let n := min y.queues (min (sqeDw sqe 11 % 65536) (sqeDw sqe 11 / 65536) + 1)
    exec (.nvmtSetFeatures c sqe) s = .next ((s.setCtrl k { y with queues := n }).nvmeRespond c (sqeCid sqe) 0 (queueFeature n)) := by
  constructor
  · simp only [exec_nvmtGetFeatures, execNvmtGetFeatures, h.adminCmd_acts hq, hsel]
  · simp only [exec_nvmtSetFeatures, execNvmtSetFeatures, h.adminCmd_acts hq, hsel]

/-- Keep Alive Timer: a new value starts the timer again. -/
theorem features_keepAlive (hsel : sqeDw sqe 10 % 256 = 15) :
    exec (.nvmtGetFeatures c sqe) s = .next (s.nvmeRespond c (sqeCid sqe) 0 y.kato) ∧
    exec (.nvmtSetFeatures c sqe) s =
      .next ((s.setCtrl k { y with kato := sqeDw sqe 11, lastKeep := s.clock }).nvmeRespond c (sqeCid sqe) 0) := by
  constructor
  · simp only [exec_nvmtGetFeatures, execNvmtGetFeatures, h.adminCmd_acts hq, hsel]
  · simp only [exec_nvmtSetFeatures, execNvmtSetFeatures, h.adminCmd_acts hq, hsel]

/-- Asynchronous Event Configuration. -/
theorem features_events (hsel : sqeDw sqe 10 % 256 = 11) :
    exec (.nvmtGetFeatures c sqe) s = .next (s.nvmeRespond c (sqeCid sqe) 0 y.aen) ∧
    exec (.nvmtSetFeatures c sqe) s = .next ((s.setCtrl k { y with aen := sqeDw sqe 11 }).nvmeRespond c (sqeCid sqe) 0) := by
  constructor
  · simp only [exec_nvmtGetFeatures, execNvmtGetFeatures, h.adminCmd_acts hq, hsel]
  · simp only [exec_nvmtSetFeatures, execNvmtSetFeatures, h.adminCmd_acts hq, hsel]

end

/-! ## I/O commands (R508, R509) -/

/-- The check of the one range that a deallocation names. -/
def State.rangeRefuses (s : State) (x : Conn) (e data : List Byte) : Option Status × State :=
  s.storeRefuses .dealloc (some (fld e 6 2)) (s.domainOf x.party (fld e 8 4)) (fld data 8 8) (fld data 4 4) (bit (fld e 12 1) 0)

section
variable {s : State} {c k : Nat} {sqe : List Byte} {x : Conn} {y : Ctrl} (h : s.Attached c x k y) (hq : x.queue ≠ 0)
  (he : s.exportOf y (fld sqe 4 4) ≠ [])
include h hq he

theorem State.Attached.ioCmd_acts (f : State → Conn → List Byte → State) : s.ioCmd c sqe f = f s x (s.exportOf y (fld sqe 4 4)) :=
  (h.ioCmd f).trans ((if_neg hq).trans (if_neg he))

theorem nvmtRead_begins : exec (.nvmtRead c sqe) s =
    .next (s.connOp c sqe x (s.exportOf y (fld sqe 4 4)) .read (fld sqe 40 8) (fld sqe 48 2 + 1) []) := by
  rw [exec_nvmtRead, execNvmtRead, h.ioCmd_acts hq he]

theorem nvmtWrite_begins (data : List Byte) : exec (.nvmtWrite c sqe data) s =
    .next (s.connOp c sqe x (s.exportOf y (fld sqe 4 4)) .write (fld sqe 40 8) (fld sqe 48 2 + 1) (fit data (4096 * (fld sqe 48 2 + 1)))) := by
  rw [exec_nvmtWrite, execNvmtWrite, h.ioCmd_acts hq he]

/-- What was answered before is durable, so that a flush has nothing to do (R499). -/
theorem nvmtFlush_answers : exec (.nvmtFlush c sqe) s = .next (s.nvmeRespond c (sqeCid sqe) 0) := by
  rw [exec_nvmtFlush, execNvmtFlush, h.ioCmd_acts hq he]

/-- Dataset management that does not ask for deallocation does nothing. -/
theorem nvmtDeallocate_not_asked {data : List Byte} (ha : bit (sqeDw sqe 11) 2 = false) :
    exec (.nvmtDeallocate c sqe data) s = .next (s.nvmeRespond c (sqeCid sqe) 0) := by
  simp only [exec_nvmtDeallocate, execNvmtDeallocate, h.ioCmd_acts hq he, ha, Bool.not_false, if_true]

section
variable {data : List Byte} (ha : bit (sqeDw sqe 11) 2 = true) (hone : sqeDw sqe 10 % 256 = 0)
include ha hone

theorem nvmtDeallocate_refused {st : Status} {u : State} (hr : s.rangeRefuses x (s.exportOf y (fld sqe 4 4)) data = (some st, u)) :
    ∃ n, exec (.nvmtDeallocate c sqe data) s = .next (u.nvmeRespond c (sqeCid sqe) n) := by
  unfold State.rangeRefuses at hr
  simp only [exec_nvmtDeallocate, execNvmtDeallocate, h.ioCmd_acts hq he, ha, Bool.not_true, Bool.false_eq_true, if_false, hone, Nat.zero_add,
    List.range_one, List.map_cons, List.map_nil, Nat.mul_zero, List.foldl_cons, List.foldl_nil, hr]
  exact ⟨_, rfl⟩

/-- The extents in the range are deallocated from the first on; the rest wait behind it. -/
theorem nvmtDeallocate_begins {u : State} {first : Extent} {rest : List Extent}
    (hr : s.rangeRefuses x (s.exportOf y (fld sqe 4 4)) data = (none, u))
    (hx : u.extentsIn (fld (s.exportOf y (fld sqe 4 4)) 6 2) (fld data 8 8) (fld data 4 4) = first :: rest) :
    ∃ vol, exec (.nvmtDeallocate c sqe data) s =
      let e := s.exportOf y (fld sqe 4 4)
      let o := { StoreOp.fresh .dealloc (.conn c (sqeCid sqe)) x.room vol (fld e 6 2) first.lba first.blocks
        ((s.domainOf x.party (fld e 8 4)).getD 0) with ext := some first, old := some first, todo := rest }
      .next ((u.addOp o).2.openEntry (u.addOp o).1 5) := by
  unfold State.rangeRefuses at hr
  simp only [exec_nvmtDeallocate, execNvmtDeallocate, h.ioCmd_acts hq he, ha, Bool.not_true, Bool.false_eq_true, if_false, hone, Nat.zero_add,
    List.range_one, List.map_cons, List.map_nil, Nat.mul_zero, List.foldl_cons, List.foldl_nil, hr, List.flatMap_cons, List.flatMap_nil,
    List.append_nil, hx]
  exact ⟨_, rfl⟩

end

end

/-! ## NVMe over TCP -/

/-- Settles O51: each clause is the lemma about the branch that its hypotheses select. -/
theorem nvmtCommands : Obligations.NvmtCommands := by
  unfold Obligations.NvmtCommands
  intro s index host remote port subsys t queue ctrl c ident sqe data ok digest opening
  refine ⟨⟨nvmtConnectionOpen_no_initiator, nvmtConnectionOpen_refused, nvmtConnectionOpen_opens⟩,
    ⟨nvmtConnectionOpen_no_listener, nvmtConnectionOpen_listens⟩,
    fun h => ⟨nvmtTlsHandshake_of_none h ident ok, nvmtPduError_of_none h digest,
      tcpRetransmitTimeout_of_none h, tcpProgressTimeout_of_none h⟩,
    fun x h => ⟨nvmtTlsHandshake_of_secure h ident ok, fun k hs hp => nvmtTlsHandshake_succeeds h hs hp,
      fun hs hp => nvmtTlsHandshake_fails h hs hp, nvmtPduError_ends h true, nvmtPduError_ends h false,
      tcpRetransmitTimeout_resends h, tcpProgressTimeout_ends h, tcpProgressTimeout_waits h⟩,
    keepAliveTimerExpiry_of_none, fun y h => ⟨keepAliveTimerExpiry_ends h, keepAliveTimerExpiry_waits h⟩, ?commands⟩
  intro x k y hx hi hs hk hy
  have h : s.Attached c x k y := ⟨hx, hi, hs, hk, hy⟩
  exact ⟨adminCommand_on_ioQueue h,
    fun hq => ⟨ioCommand_on_adminQueue h hq,
      fun hsel => ⟨nvmtIdentify_not_exported h hq hsel, fun sp he => nvmtIdentify_namespace h hq hsel he⟩,
      nvmtIdentify_unknown h hq, nvmtGetLogPage_errors h hq, nvmtGetLogPage_changed h hq, features_queues h hq, features_keepAlive h hq,
      features_events h hq, nvmtKeepAlive_acts h hq, nvmtAsyncEventRequest_waits h hq⟩,
    fun hq => ⟨ioCommand_not_exported h hq, fun he => ⟨nvmtRead_begins h hq he, nvmtWrite_begins h hq he data, nvmtFlush_answers h hq he,
      nvmtDeallocate_not_asked h hq he, fun ha hone => ⟨fun st u hr => nvmtDeallocate_refused h hq he ha hone hr,
        fun u first rest hr hx => nvmtDeallocate_begins h hq he ha hone hr hx⟩⟩⟩⟩

end Sys2Proof.Machine

/-!
PROOFS. Running a word and decoding it: what `Obligations.RunDecodes` is assembled from.
-/

namespace Sys2Proof.Machine

/-- What the decoded instruction, if there is one, does on `s`. -/
def State.runDecoded (s : State) (o : Option Instr) : Option Res := o.map fun i => exec i s

@[simp] theorem State.runDecoded_none (s : State) : s.runDecoded none = none := rfl
@[simp] theorem State.runDecoded_some (s : State) (i : Instr) : s.runDecoded (some i) = some (exec i s) := rfl
@[simp] theorem State.runDecoded_ite (s : State) (c : Prop) [Decidable c] (a b : Option Instr) :
    s.runDecoded (if c then a else b) = if c then s.runDecoded a else s.runDecoded b := apply_ite ..

section
variable (x : Issue) (f : DrekoWord) (s : State)

/-! Each group of instructions is chosen by the same field on both sides; under each value of it the runner and the decoder check the
same unused fields (R332) and name the same instruction. -/

theorem runInt_eq : runInt x f s = s.runDecoded (decodeInt x f) := by
  unfold runInt decodeInt
  split <;> simp [*]

theorem runCmp_eq : runCmp x f s = s.runDecoded (decodeCmp x f) := by
  unfold runCmp decodeCmp
  rw [State.runDecoded_ite]
  split
  · rfl
  · split <;> simp [*]

theorem runPred_eq : runPred x f s = s.runDecoded (decodePred x f) := by
  unfold runPred decodePred
  split <;> simp [*]

theorem runLine_eq : runLine x f s = s.runDecoded (decodeLine x f) := by
  unfold runLine decodeLine
  split <;> simp [*]

theorem runHitch_eq : runHitch x f s = s.runDecoded (decodeHitch x f) := by
  unfold runHitch decodeHitch
  split <;> simp [*]

theorem runTile_eq : runTile x f s = s.runDecoded (decodeTile x f) := by
  unfold runTile decodeTile
  by_cases ht : f.imm12 / 64 < 40
  · rw [dif_pos ht, dif_pos ht, State.runDecoded_ite]
    split
    · rfl
    · split <;> simp [*]
  · rw [dif_neg ht, dif_neg ht]
    rfl

theorem runCtl_eq : runCtl x f s = s.runDecoded (decodeCtl x f) := by
  unfold runCtl decodeCtl
  split <;> simp [*]

theorem runVec_eq : runVec x f s = s.runDecoded (decodeVec x f) := by
  unfold runVec decodeVec
  rw [State.runDecoded_ite]
  split
  · rfl
  · split <;> simp [*]

theorem runField_eq : runField x f s = s.runDecoded (decodeField x f) := by
  unfold runField decodeField
  split <;> simp [*]

theorem runMove_eq : runMove x f s = s.runDecoded (decodeMove x f) := by
  unfold runMove decodeMove
  split <;> simp [*]

end

/-- Settles O60: both sides branch on MAJOR, and under each the group's lemma or the instruction's own meaning closes it. -/
theorem runDecodes : Obligations.RunDecodes := by
  unfold Obligations.RunDecodes
  intro t w s
  show runFields t w s = s.runDecoded (decodeDreko t w)
  unfold runFields decodeDreko
  generalize DrekoWord.of w = f
  dsimp only
  split
  case h_10 | h_25 => split <;> simp [*]
  all_goals simp [*, runInt_eq, runCmp_eq, runPred_eq, runLine_eq, runHitch_eq, runTile_eq, runCtl_eq, runVec_eq, runField_eq, runMove_eq]
end Sys2Proof.Machine

/-!
PROOFS. What a Dreko instruction that runs comes to, and the atomics: what `Obligations.AtomicResults` is assembled from.
-/

namespace Sys2Proof.Machine

/-! ## An instruction and its effect (R331) -/

/-- To execute `i` on `s` is to issue, for `x`, an effect that comes to `e`. -/
def State.does (s : State) (i : Instr) (x : Issue) (e : Eff) : Prop :=
  ∃ word body, exec i s = issue x word s body ∧ body (s.self x) = e

section
variable {s u : State} {i : Instr} {x : Issue} {e : Eff} (hr : s.runs x) (hd : s.does i x e)
include hr hd

theorem exec_of_done (he : e = .done u) : exec i s = .next (u.retire x.thread) := by
  obtain ⟨word, body, hi, hb⟩ := hd
  rw [State.self, he] at hb
  rw [hi, issue_runs hr, hb]

theorem exec_of_wait (he : e = .wait u) : exec i s = .next u := by
  obtain ⟨word, body, hi, hb⟩ := hd
  rw [State.self, he] at hb
  rw [hi, issue_runs hr, hb]

theorem exec_of_fault {f : ThFault} {target : Nat} (he : e = .fault u f target) :
    ∃ word, exec i s = .next (u.threadFault x.thread f word target) := by
  obtain ⟨word, body, hi, hb⟩ := hd
  rw [State.self, he] at hb
  rw [hi, issue_runs hr, hb]
  exact ⟨_, rfl⟩

/-- An instruction that ends with a result leaves the state in which the result is in its register. -/
theorem exec_of_result {d : Greg} {v : Word} (he : e = result u x d v) : exec i s = .next (u.putsG x d v) := exec_of_done hr hd he

end

/-! ## A thread after a write of a g register (R327) -/

theorem Thread.wg_frame (th : Thread) (d : Greg) (v : Word) : th.wg d v = { th with g := (th.wg d v).g } := by
  unfold Thread.wg
  split <;> rfl

@[simp] theorem Thread.wg_pc (th : Thread) (d : Greg) (v : Word) : (th.wg d v).pc = th.pc := by rw [Thread.wg_frame]
@[simp] theorem Thread.wg_retired (th : Thread) (d : Greg) (v : Word) : (th.wg d v).retired = th.retired := by rw [Thread.wg_frame]
@[simp] theorem Thread.wg_state (th : Thread) (d : Greg) (v : Word) : (th.wg d v).state = th.state := by rw [Thread.wg_frame]
@[simp] theorem Thread.wg_staged (th : Thread) (d : Greg) (v : Word) : (th.wg d v).staged = th.staged := by rw [Thread.wg_frame]
@[simp] theorem Thread.wg_held (th : Thread) (d : Greg) (v : Word) : (th.wg d v).held = th.held := by rw [Thread.wg_frame]

section
variable (s : State) (x : Issue) (d : Greg) (v : Word)

@[simp] theorem State.line_setThread (t : Nat) (th : Thread) (n : Nat) : (s.setThread t th).line n = s.line n := rfl
@[simp] theorem State.hitch_setThread (t : Nat) (th : Thread) (n : Nat) : (s.setThread t th).hitch n = s.hitch n := rfl
@[simp] theorem State.self_setThread (th : Thread) : (s.setThread x.thread th).self x = th := State.thread_setThread ..
@[simp] theorem State.self_setLine (n : Nat) (l : Line) : (s.setLine n l).self x = s.self x := rfl
@[simp] theorem State.self_setHitch (n : Nat) (h : Hitch) : (s.setHitch n h).self x = s.self x := rfl
@[simp] theorem State.self_trace (t kind : Nat) (pc : BitVec 32) : (s.trace t kind pc).self x = s.self x := State.trace_thread ..
@[simp] theorem State.self_retire :
    (s.retire x.thread).self x = { s.self x with pc := (s.self x).pc + 4, retired := (s.self x).retired + 1 } := State.thread_setThread ..
@[simp] theorem State.self_putsG : (s.putsG x d v).self x =
    { (s.self x).wg d v with pc := (s.self x).pc + 4, retired := (s.self x).retired + 1 } := by
  simp [State.putsG, State.leaves]
@[simp] theorem State.line_retire (t n : Nat) : (s.retire t).line n = s.line n := State.line_setThread ..
@[simp] theorem State.hitch_retire (t n : Nat) : (s.retire t).hitch n = s.hitch n := State.hitch_setThread ..
@[simp] theorem State.mem_retire (t : Nat) : (s.retire t).mem = s.mem := State.setThread_mem ..
@[simp] theorem State.line_putsG (n : Nat) : (s.putsG x d v).line n = s.line n := (State.line_retire ..).trans (State.line_setThread ..)
@[simp] theorem State.hitch_putsG (n : Nat) : (s.putsG x d v).hitch n = s.hitch n :=
  (State.hitch_retire ..).trans (State.hitch_setThread ..)
@[simp] theorem State.mem_putsG : (s.putsG x d v).mem = s.mem := (State.mem_retire ..).trans (State.setThread_mem ..)

end

/-- An instruction answers its result when what it did before left its thread's PC, retired count and state alone. -/
theorem State.answers_putsG {s u : State} {x : Issue} (d : Greg) (v : Word) (hpc : (u.self x).pc = (s.self x).pc)
    (hret : (u.self x).retired = (s.self x).retired) (hst : (u.self x).state = (s.self x).state) :
    s.answers (u.putsG x d v) x d v := by
  have hrg : ((u.putsG x d v).self x).rg d = ((u.self x).wg d v).rg d := by
    rw [State.self_putsG]
    rfl
  refine ⟨?_, ?_, ?_, ?_⟩
  · rw [hrg, Thread.rg_wg, if_pos rfl]
  · simp [hpc]
  · simp [hret]
  · simp [hst]

/-! ## Atomics (R316, R347) -/

section
variable {s : State} {x : Issue} {d : Greg} {A : Word} (hf : s.accessFault x.thread A.toNat 8 true = none) (hA : A.toNat < 0x40000000)
  (hp : s.poisoned x.thread A.toNat 8 = false)
include hf hA hp

theorem atomicEff_replaces {f : Word → Option Word} {v : Word} (hv : f (BitVec.ofNat 64 (s.load x.thread A.toNat 8)) = some v) :
    atomicEff s x d A f =
      result (s.storeBytes x.thread A.toNat (leBytes v.toNat 8)) x d (BitVec.ofNat 64 (s.load x.thread A.toNat 8)) := by
  simp only [atomicEff, hf, if_neg (Nat.not_le.mpr hA), hp, Bool.false_eq_true, if_false, hv, result, ge_iff_le]

theorem atomicEff_leaves {f : Word → Option Word} (hv : f (BitVec.ofNat 64 (s.load x.thread A.toNat 8)) = none) :
    atomicEff s x d A f = result s x d (BitVec.ofNat 64 (s.load x.thread A.toNat 8)) := by
  simp only [atomicEff, hf, if_neg (Nat.not_le.mpr hA), hp, Bool.false_eq_true, if_false, hv, result, ge_iff_le]

end

section
variable (s : State) (x : Issue) (d a b : Greg)

theorem does_aadd : s.does (.aadd x d a b) x (atomicEff s x d ((s.self x).rg a) fun old => some (old + (s.self x).rg b)) :=
  ⟨_, _, exec_aadd .., rfl⟩
theorem does_aswp : s.does (.aswp x d a b) x (atomicEff s x d ((s.self x).rg a) fun _ => some ((s.self x).rg b)) :=
  ⟨_, _, exec_aswp .., rfl⟩
theorem does_acas : s.does (.acas x d a b) x
    (atomicEff s x d ((s.self x).rg a) fun old => if old = (s.self x).rg d then some ((s.self x).rg b) else none) :=
  ⟨_, _, exec_acas .., rfl⟩

end

/-- Settles O11: each atomic replaces the word by what it gives for the old one, or leaves it. -/
theorem atomicResults : Obligations.AtomicResults := by
  unfold Obligations.AtomicResults
  intro x d a b s hr A old B hf hA hp
  refine ⟨?_, ?_, fun he => ?_, fun hne => ?_⟩
  · exact exec_of_result hr (does_aadd s x d a b) (atomicEff_replaces hf hA hp rfl)
  · exact exec_of_result hr (does_aswp s x d a b) (atomicEff_replaces hf hA hp rfl)
  · exact exec_of_result hr (does_acas s x d a b) (atomicEff_replaces hf hA hp (if_pos he))
  · exact exec_of_result hr (does_acas s x d a b) (atomicEff_leaves hf hA hp (if_neg hne))

end Sys2Proof.Machine

/-!
PROOFS. Thread control and system registers: what `Obligations.SystemResults` is assembled from.
-/

namespace Sys2Proof.Machine

/-! ## Retiring a thread that is as it was -/

/-- Of two changes of a thread, the later one stays when both leave it ready, so that neither is the default that a table drops. -/
theorem State.setThread_setThread (s : State) (t : Nat) {a b : Thread} (ha : a.state = .ready) (hb : b.state = .ready) :
    (s.setThread t a).setThread t b = s.setThread t b := by
  have ne_idle {y : Thread} (hy : y.state = .ready) : y ≠ Thread.idle := fun h => by rw [h] at hy; exact absurd hy (by decide)
  simp only [State.setThread, Tbl.set, if_neg (ne_idle ha), if_neg (ne_idle hb), Tbl.put_put]

theorem State.ready_of_runs {s : State} {x : Issue} (hr : s.runs x) : (s.self x).state = .ready := by
  obtain ⟨hi, -, -⟩ := hr
  unfold Thread.issues at hi
  rw [Bool.and_eq_true, decide_eq_true_eq] at hi
  exact hi.1

theorem State.retire_eq_leaves {s : State} {x : Issue} (hr : s.runs x) : s.retire x.thread = s.leaves x (s.self x) := by
  have hs := State.ready_of_runs hr
  unfold State.leaves State.retire
  rw [State.thread_setThread]
  refine (State.setThread_setThread s x.thread hs ?_).symm
  exact hs

section
variable {s : State} {x : Issue} {d a : Greg} (hr : s.runs x)
include hr

/-! ## PARK, YIELD, FENCE and TIMENS (R298, R306, R341, R342) -/

theorem park_returns (h : ((s.self x).rg a).toNat ≤ s.now.value) : exec (.park x a) s = .next (s.leaves x (s.self x)) := by
  rw [← State.retire_eq_leaves hr]
  exact exec_of_done hr ⟨_, _, exec_park .., rfl⟩ (if_pos h)

theorem park_parks (h : s.now.value < ((s.self x).rg a).toNat) :
    ∃ t, exec (.park x a) s = .next t ∧ (t.self x).state = .parked ∧ (t.self x).deadline = some ((s.self x).rg a).toNat ∧
      (t.self x).pc = (s.self x).pc := by
  refine ⟨_, exec_of_wait hr ⟨_, _, exec_park .., rfl⟩ (if_neg (Nat.not_le.mpr h)), ?_⟩
  rw [State.self_setThread]
  exact ⟨rfl, rfl, rfl⟩

theorem yield_retires : exec (.yield x) s = .next (s.retire x.thread) := exec_of_done hr ⟨_, _, exec_yield .., rfl⟩ rfl

theorem fence_retires : exec (.fence x) s = .next (s.retire x.thread) := exec_of_done hr ⟨_, _, exec_fence .., rfl⟩ rfl

theorem timens_reads : exec (.timens x d) s = .next (s.putsG x d (BitVec.ofNat 64 (s.now.sec * 1000000000 + s.now.ns))) := by
  have hv : BitVec.ofNat 64 s.now.value = BitVec.ofNat 64 (s.now.sec * 1000000000 + s.now.ns) :=
    BitVec.eq_of_toNat_eq (by simp [Time.value, nsPerSec])
  rw [← hv]
  exact exec_of_result hr ⟨_, _, exec_timens .., rfl⟩ rfl

/-! ## IFLUSH and TRESEAT (R344) -/

theorem iflush_retires (h : s.isAnnex x.thread = false) : exec (.iflush x) s = .next (s.retire x.thread) :=
  exec_of_done hr ⟨_, _, exec_iflush .., rfl⟩ (if_neg (by simp [h]))

theorem iflush_of_annex (h : s.isAnnex x.thread = true) : ∃ w, exec (.iflush x) s = .next (s.threadFault x.thread .privileged w 0) :=
  exec_of_fault hr ⟨_, _, exec_iflush .., rfl⟩ (if_pos h)

theorem treseat_of_annex (h : s.isAnnex x.thread = true) : ∃ w, exec (.treseat x a) s = .next (s.threadFault x.thread .privileged w 0) :=
  exec_of_fault hr ⟨_, _, exec_treseat .., rfl⟩ (if_pos h)

section
variable {k : Nat} (hk : ((s.self x).rg a).toNat % 2048 = k) (h : s.isAnnex x.thread = false)
include hk h

theorem treseat_of_reseating (hs : (s.thread k).state = .reseating) : exec (.treseat x a) s = .next (s.retire x.thread) := by
  subst hk
  exact exec_of_done hr ⟨_, _, exec_treseat .., rfl⟩ ((if_neg (by simp [h])).trans (if_pos (.inl hs)))

theorem treseat_self (hs : (s.thread k).state ≠ .reseating) (hi : (s.thread k).role ≠ .idle) (hx : k = x.thread.val) :
    exec (.treseat x a) s = .next (s.reseat k) := by
  subst hk
  exact exec_of_wait hr ⟨_, _, exec_treseat .., rfl⟩ ((if_neg (by simp [h])).trans ((if_neg (not_or.mpr ⟨hs, hi⟩)).trans (if_pos hx)))

theorem treseat_other (hs : (s.thread k).state ≠ .reseating) (hi : (s.thread k).role ≠ .idle) (hx : k ≠ x.thread.val) :
    exec (.treseat x a) s = .next ((s.reseat k).retire x.thread) := by
  subst hk
  exact exec_of_done hr ⟨_, _, exec_treseat .., rfl⟩ ((if_neg (by simp [h])).trans ((if_neg (not_or.mpr ⟨hs, hi⟩)).trans (if_neg hx)))

end

/-! ## MFS and MTS (R328, R329) -/

/-- MFS writes the register that its number names; no number's reading changes the state. -/
theorem mfs_of_some {n : BitVec 12} {v : Word} (hv : s.sysReg x.thread n.toNat = some (v, s)) :
    exec (.mfs x d n) s = .next (s.putsG x d v) :=
  exec_of_result hr ⟨_, _, exec_mfs .., rfl⟩ (by rw [hv]; rfl)

theorem mfs_of_none {n : BitVec 12} (hv : s.sysReg x.thread n.toNat = none) :
    ∃ w, exec (.mfs x d n) s = .next (s.threadFault x.thread .illegal w 0) :=
  exec_of_fault hr ⟨_, _, exec_mfs .., rfl⟩ (by rw [hv])

theorem mts_gen : exec (.mts x a 8) s = .next (s.leaves x { s.self x with gen := ((s.self x).rg a).setWidth 16 }) :=
  exec_of_done hr ⟨_, _, exec_mts .., rfl⟩ (if_pos rfl)

theorem mts_other {n : BitVec 12} (hn : n ≠ 8) : ∃ w, exec (.mts x a n) s = .next (s.threadFault x.thread .illegal w 0) :=
  exec_of_fault hr ⟨_, _, exec_mts .., rfl⟩ (if_neg hn)

end

/-- Settles O17: each clause is the lemma about the branch that its hypotheses select. -/
theorem systemResults : Obligations.SystemResults := by
  unfold Obligations.SystemResults
  intro x d a s hr T
  exact ⟨park_returns hr, park_parks hr, yield_retires hr, fence_retires hr, timens_reads hr, iflush_retires hr,
    fun h => ⟨iflush_of_annex hr h, treseat_of_annex hr h⟩,
    fun h => ⟨treseat_of_reseating hr rfl h, treseat_self hr rfl h, treseat_other hr rfl h⟩,
    mfs_of_some hr rfl, mfs_of_some hr rfl, mfs_of_some hr rfl, mfs_of_some hr rfl,
    ⟨_, _, mfs_of_some hr rfl, State.answers_putsG d _ rfl rfl rfl⟩, mfs_of_none hr rfl, mts_gen hr, mts_other hr (by decide)⟩

end Sys2Proof.Machine

/-!
PROOFS. Sending, receiving and hitches: what `Obligations.SendResults`, `Obligations.ReceiveResults` and `Obligations.HitchResults` are
assembled from.
-/

namespace Sys2Proof.Machine

/-! ## Blocking (R337) -/

/-- A thread that stays at its instruction, its PC and retired count as they were, blocks. -/
theorem State.blocksAs_setThread {s u : State} {x : Issue} {th : Thread} (st : ThState) (n : Nat) (d : Greg) (deadline : Option Nat)
    (hpc : th.pc = (s.self x).pc) (hret : th.retired = (s.self x).retired) :
    s.blocksAs (u.setThread x.thread { th with state := st, object := n, resultReg := d, deadline := deadline }) x st n d deadline := by
  unfold State.blocksAs
  rw [State.self_setThread]
  exact ⟨rfl, rfl, rfl, rfl, hpc, hret⟩

/-! ## What the line and hitch instructions do (R307 to R313, R338) -/

section
variable (s : State) (x : Issue) (d a b : Greg) (v : Vreg) (tile : TileNo) {n : Nat}

section
variable (hn : ((s.self x).rg a).toNat = n)
include hn

theorem does_lput : s.does (.lput x d a v) x (putBeat s x (some d) n ((s.self x).rv v)) := hn ▸ ⟨_, _, exec_lput .., rfl⟩
theorem does_lend : s.does (.lend x d a v) x (endBeat s x d n ((s.self x).rv v) true) := hn ▸ ⟨_, _, exec_lend .., rfl⟩
theorem does_lendt : s.does (.lendt x d a v) x (endBeat s x d n ((s.self x).rv v) false) := hn ▸ ⟨_, _, exec_lendt .., rfl⟩
theorem does_lget : s.does (.lget x d a) x (getMessage s x d n none true) := hn ▸ ⟨_, _, exec_lget .., rfl⟩
theorem does_lgetd : s.does (.lgetd x d a b) x (getMessage s x d n (some ((s.self x).rg b).toNat) true) :=
  hn ▸ ⟨_, _, exec_lgetd .., rfl⟩
theorem does_ltry : s.does (.ltry x d a) x (getMessage s x d n none false) := hn ▸ ⟨_, _, exec_ltry .., rfl⟩
theorem does_htie : s.does (.htie x d a) x (tie s x d n none true) := hn ▸ ⟨_, _, exec_htie .., rfl⟩
theorem does_htied : s.does (.htied x d a b) x (tie s x d n (some ((s.self x).rg b).toNat) true) := hn ▸ ⟨_, _, exec_htied .., rfl⟩
theorem does_htry : s.does (.htry x d a) x (tie s x d n none false) := hn ▸ ⟨_, _, exec_htry .., rfl⟩
theorem does_huntie : s.does (.huntie x d a) x (untie s x d n) := hn ▸ ⟨_, _, exec_huntie .., rfl⟩

end

section
variable (hn : n = 2056 + tile.val)
include hn

theorem does_tput : s.does (.tput x v tile) x (putBeat s x none n ((s.self x).rv v)) := hn ▸ ⟨_, _, exec_tput .., rfl⟩
theorem does_tend : s.does (.tend x d v tile) x (endBeat s x d n ((s.self x).rv v) true) := hn ▸ ⟨_, _, exec_tend .., rfl⟩
theorem does_tendt : s.does (.tendt x d v tile) x (endBeat s x d n ((s.self x).rv v) false) := hn ▸ ⟨_, _, exec_tendt .., rfl⟩

end

theorem does_ldrop : s.does (.ldrop x d) x
    (if !s.cores.lhReady then result s x d resUnavailable else result (s.dropStaged x.thread) x d 0) := ⟨_, _, exec_ldrop .., rfl⟩

end

/-! ## While the line and hitch units do not serve (R315) -/

section
variable {s : State} {x : Issue} {d : Greg} {n : Nat} {beat : Vec} {deadline : Option Nat} {blocks : Bool} (hu : s.cores.lhReady = false)
include hu

theorem putBeat_unavailable : putBeat s x (some d) n beat = result s x d resUnavailable := if_pos (by simp [hu])
theorem endBeat_unavailable : endBeat s x d n beat blocks = result s x d resUnavailable := if_pos (by simp [hu])
theorem getMessage_unavailable : getMessage s x d n deadline blocks = result s x d resUnavailable := if_pos (by simp [hu])
theorem tie_unavailable : tie s x d n deadline blocks = result s x d resUnavailable := if_pos (by simp [hu])
theorem untie_unavailable : untie s x d n = result s x d resUnavailable := if_pos (by simp [hu])

end

/-! ## Staging and sending (R307, R309, R311) -/

/-- The first three refusals of a line instruction do not meet a line that is used and that its thread may reach. -/
theorem line_reached {s : State} {x : Issue} {n : Nat} (hu : s.cores.lhReady = true) (hn : n < 65536) (hc : (s.line n).cap ≠ 0)
    (ha : s.annexLineOk x.thread n = true) :
    ¬ (!s.cores.lhReady) = true ∧ ¬ (n ≥ 65536 ∨ (s.line n).cap = 0) ∧ ¬ (!s.annexLineOk x.thread n) = true :=
  ⟨by simp [hu], not_or.mpr ⟨Nat.not_le.mpr hn, hc⟩, by simp [ha]⟩

/-- The state in which the thread has staged these beats for line `n`. -/
def State.beatsStaged (s : State) (x : Issue) (n : Nat) (beats : List Vec) : State :=
  s.setThread x.thread { s.self x with staged := some (n, beats) }

/-- The state in which the line unit has accepted these beats as a message of the thread's. -/
def State.messageSent (s : State) (x : Issue) (n : Nat) (beats : List Vec) : State :=
  (s.acceptMessage x.thread n beats).trace x.thread 2 (s.self x).pc

@[simp] theorem State.self_beatsStaged (s : State) (x : Issue) (n : Nat) (beats : List Vec) :
    (s.beatsStaged x n beats).self x = { s.self x with staged := some (n, beats) } := State.self_setThread ..

@[simp] theorem State.line_beatsStaged (s : State) (x : Issue) (k : Nat) (beats : List Vec) (n : Nat) :
    (s.beatsStaged x k beats).line n = s.line n := State.line_setThread ..

@[simp] theorem State.self_messageSent (s : State) (x : Issue) (n : Nat) (beats : List Vec) :
    (s.messageSent x n beats).self x = { s.self x with staged := none, seq := ((s.self x).seq + 1) % 2 ^ 32 } :=
  (State.self_trace ..).trans (State.self_setThread ..)

theorem State.queue_messageSent (s : State) (x : Issue) (n : Nat) (beats : List Vec) :
    ((s.messageSent x n beats).line n).queue = (s.line n).queue ++ [stampHeader x.thread (s.self x).seq beats] := by
  rw [State.messageSent, State.trace_line]
  exact congrArg Line.queue (State.line_setLine ..)

section
variable {s : State} {i : Instr} {x : Issue} {d : Greg} {n : Nat} {beat : Vec} {beats : List Vec} (hr : s.runs x) (ho : s.lineOpen x n)
  (hb : (s.self x).stagedBeats ++ [beat] = beats)

section
variable (hl : (s.self x).stagedBeats.length < 64)
include ho hb hl

theorem putBeat_stages (res : Option Greg) : putBeat s x res n beat =
    res.elim (.done (s.beatsStaged x n beats)) fun r => result (s.beatsStaged x n beats) x r 0 := by
  obtain ⟨hu, hn, hc, ha, he⟩ := ho
  obtain ⟨h1, h2, h3⟩ := line_reached hu hn hc ha
  have h4 : ¬ ((s.self x).stagedElsewhere n = true ∨ (s.self x).stagedBeats.length ≥ 64) := by simp [he, hl]
  subst hb
  cases res <;> exact (if_neg h1).trans ((if_neg h2).trans ((if_neg h3).trans (if_neg h4)))

include hr

theorem lput_stages (hd : s.does i x (putBeat s x (some d) n beat)) : ∃ t, exec i s = .next t ∧ s.answers t x d 0 ∧
    (t.self x).staged = some (n, beats) ∧ t.line n = s.line n ∧ (t.self x).pc = (s.self x).pc + 4 :=
  ⟨_, exec_of_result hr hd (putBeat_stages ho hb hl (some d)), State.answers_putsG d 0 (by simp) (by simp) (by simp), by simp,
    by simp, by simp⟩

theorem tput_stages (hd : s.does i x (putBeat s x none n beat)) : ∃ t, exec i s = .next t ∧ (t.self x).staged = some (n, beats) ∧
    t.line n = s.line n ∧ (t.self x).pc = (s.self x).pc + 4 :=
  ⟨_, exec_of_done hr hd (putBeat_stages ho hb hl none), by simp, by simp, by simp⟩

end

section
variable {blocks : Bool} (hl : beats.length ≤ 64) (hw : s.mayWrite x.thread n = true) (hc : beats.length ≤ (s.line n).cap)
include ho hb hl hw hc

/-- A message that no rule refuses is accepted, or its writer waits, or it is told that the line is full. -/
theorem endBeat_of_permitted : endBeat s x d n beat blocks =
    if (s.line n).writers = [] ∧ (s.line n).used + beats.length ≤ (s.line n).cap then result (s.messageSent x n beats) x d 0
    else if blocks then
      .wait ((s.setLine n { s.line n with writers := (s.line n).writers ++ [x.thread.val] }).setThread x.thread
        { s.self x with staged := some (n, beats), state := .blockedLend, object := n, resultReg := d, deadline := none })
    else result s x d resFull := by
  obtain ⟨hu, hn, hc', ha, he⟩ := ho
  obtain ⟨h1, h2, h3⟩ := line_reached hu hn hc' ha
  have h4 : ¬ ((s.self x).stagedElsewhere n = true ∨ beats.length > 64 ∨ ¬ s.mayWrite x.thread n = true ∨
      beats.length > (s.line n).cap) :=
    not_or.mpr ⟨by simp [he], not_or.mpr ⟨Nat.not_lt.mpr hl, not_or.mpr ⟨not_not_intro hw, Nat.not_lt.mpr hc⟩⟩⟩
  subst hb
  exact (if_neg h1).trans ((if_neg h2).trans ((if_neg h3).trans (if_neg h4)))

include hr

theorem end_sends (hf : (s.line n).writers = [] ∧ (s.line n).used + beats.length ≤ (s.line n).cap)
    (hd : s.does i x (endBeat s x d n beat blocks)) : ∃ t, exec i s = .next t ∧ s.answers t x d 0 ∧ (t.self x).staged = none ∧
      (t.line n).queue = (s.line n).queue ++ [stampHeader x.thread (s.self x).seq beats] :=
  ⟨_, exec_of_result hr hd ((endBeat_of_permitted ho hb hl hw hc).trans (if_pos hf)), State.answers_putsG d 0 (by simp) (by simp) (by simp),
    by simp, by simp [State.queue_messageSent]⟩

section
variable (hf : ¬ ((s.line n).writers = [] ∧ (s.line n).used + beats.length ≤ (s.line n).cap))
include hf

theorem end_waits (hd : s.does i x (endBeat s x d n beat true)) : ∃ t, exec i s = .next t ∧ s.blocksAs t x .blockedLend n d none ∧
    (t.self x).staged = some (n, beats) ∧ (t.line n).writers = (s.line n).writers ++ [x.thread.val] ∧
    (t.line n).queue = (s.line n).queue :=
  ⟨_, exec_of_wait hr hd ((endBeat_of_permitted ho hb hl hw hc).trans ((if_neg hf).trans (if_pos rfl))),
    State.blocksAs_setThread (th := { s.self x with staged := some (n, beats) }) _ _ _ _ rfl rfl, by simp, by simp, by simp⟩

theorem end_full (hd : s.does i x (endBeat s x d n beat false)) : ∃ t, exec i s = .next t ∧ s.answers t x d (-1) ∧
    (t.self x).staged = (s.self x).staged ∧ t.line n = s.line n :=
  ⟨_, exec_of_result hr hd ((endBeat_of_permitted ho hb hl hw hc).trans ((if_neg hf).trans (if_neg Bool.false_ne_true))),
    State.answers_putsG d _ rfl rfl rfl, by simp, by simp⟩

end

end

include hr ho in
theorem ldrop_discards : ∃ t, exec (.ldrop x d) s = .next t ∧ s.answers t x d 0 ∧ (t.self x).staged = none := by
  obtain ⟨hu, -⟩ := ho
  have hs : (s.dropStaged x.thread).self x = { s.self x with staged := none } := State.self_setThread ..
  exact ⟨_, exec_of_result hr (does_ldrop s x d) (if_neg (by simp [hu])), State.answers_putsG d 0 (by rw [hs]) (by rw [hs]) (by rw [hs]),
    by simp [hs]⟩

end

/-- Settles O13: an L form and its T form come to the same operation on their line. -/
theorem sendResults : Obligations.SendResults := by
  unfold Obligations.SendResults
  intro x d a b tile n s hr ho beat beats fits sends waits full stages
  refine ⟨fun hn hl => ?put, fun hn hl => tput_stages hr ho rfl hl (does_tput s x b tile hn),
    fun hn hl hw hc => ⟨fun hf => ?lend, fun hf => ?lendFull⟩, fun hn hl hw hc => ⟨fun hf => ?tend, fun hf => ?tendFull⟩,
    ldrop_discards hr ho⟩
  case put =>
    obtain ⟨t, he, ha, hs⟩ := lput_stages hr ho rfl hl (does_lput s x d a b hn)
    exact ⟨⟨t, he, hs⟩, t, he, ha⟩
  case lend =>
    exact ⟨end_sends hr ho rfl hl hw hc hf (does_lend s x d a b hn), end_sends hr ho rfl hl hw hc hf (does_lendt s x d a b hn)⟩
  case lendFull =>
    exact ⟨end_waits hr ho rfl hl hw hc hf (does_lend s x d a b hn), end_full hr ho rfl hl hw hc hf (does_lendt s x d a b hn)⟩
  case tend =>
    exact ⟨end_sends hr ho rfl hl hw hc hf (does_tend s x d b tile hn), end_sends hr ho rfl hl hw hc hf (does_tendt s x d b tile hn)⟩
  case tendFull =>
    exact ⟨end_waits hr ho rfl hl hw hc hf (does_tend s x d b tile hn), end_full hr ho rfl hl hw hc hf (does_tendt s x d b tile hn)⟩

/-! ## Receiving (R310, R311, R339) -/

theorem State.mem_deliver (s : State) (t : Nat) (beats : List Vec) :
    (s.deliver t beats).mem = Memory.writeBytes s.mem (recvBuffer t) (beats.map Vec.bytes).flatten := by
  unfold State.deliver
  dsimp only
  split <;> rfl

theorem State.line_deliver (s : State) (t : Nat) (beats : List Vec) (n : Nat) : (s.deliver t beats).line n = s.line n := by
  unfold State.deliver
  dsimp only
  split <;> rfl

/-- No deadline, or one that the time value has not reached, lets a thread wait. -/
theorem not_due {s : State} {deadline : Option Nat} (ht : ∀ t, deadline = some t → s.now.value < t) :
    ¬ (deadline.any fun t => decide (s.now.value ≥ t)) = true := by
  cases deadline with
  | none => simp
  | some t => simpa using ht t rfl

/-- A delivery changes nothing of its thread but the packets that it holds. -/
theorem State.self_deliver (s : State) (x : Issue) (beats : List Vec) :
    ∃ ps, (s.deliver x.thread beats).self x = { s.self x with packets := ps } := by
  unfold State.deliver
  dsimp only
  split
  · exact ⟨_, State.self_setThread ..⟩
  · exact ⟨_, rfl⟩

/-- The state in which the thread has the message `m` in its receive buffer and the messages `rest` stay queued. -/
def State.messageTaken (s : State) (x : Issue) (n : Nat) (m : List Vec) (rest : List (List Vec)) : State :=
  ((s.setLine n { s.line n with queue := rest }).deliver x.thread m).trace x.thread 3 (s.self x).pc

theorem State.answers_messageTaken (s : State) (x : Issue) (n : Nat) (m : List Vec) (rest : List (List Vec)) (d : Greg) (v : Word) :
    s.answers ((s.messageTaken x n m rest).putsG x d v) x d v := by
  obtain ⟨ps, hps⟩ := (s.setLine n { s.line n with queue := rest }).self_deliver x m
  have hs : (s.messageTaken x n m rest).self x = { s.self x with packets := ps } := (State.self_trace ..).trans hps
  exact State.answers_putsG d v (by rw [hs]) (by rw [hs]) (by rw [hs])

theorem State.queue_messageTaken (s : State) (x : Issue) (n : Nat) (m : List Vec) (rest : List (List Vec)) :
    ((s.messageTaken x n m rest).line n).queue = rest := by
  rw [State.messageTaken, State.trace_line, State.line_deliver, State.line_setLine]

theorem State.mem_messageTaken (s : State) (x : Issue) (n : Nat) (m : List Vec) (rest : List (List Vec)) :
    (s.messageTaken x n m rest).mem = Memory.writeBytes s.mem (recvBuffer x.thread) (m.map Vec.bytes).flatten := by
  rw [State.messageTaken, State.trace_mem, State.mem_deliver]
  rfl

section
variable {s : State} {i : Instr} {x : Issue} {d : Greg} {n : Nat} {deadline : Option Nat} {blocks : Bool}
variable (hr : s.runs x) (hu : s.cores.lhReady = true) (hn : n < 65536) (hc : (s.line n).cap ≠ 0) (ha : s.annexLineOk x.thread n = true)
  (hm : s.mayRead x.thread n = true)
include hu hn hc ha hm

theorem getMessage_takes {m : List Vec} {rest : List (List Vec)} (hq : (s.line n).queue = m :: rest)
    (hf : (s.line n).readers.filter (fun t => !(s.thread t).halted) = []) :
    getMessage s x d n deadline blocks = result (s.messageTaken x n m rest) x d (BitVec.ofNat 64 m.length) := by
  obtain ⟨h1, h2, h3⟩ := line_reached hu hn hc ha
  have h4 : ¬ (!s.mayRead x.thread n) = true := by simp [hm]
  unfold getMessage
  simp only [if_neg h1, if_neg h2, if_neg h3, if_neg h4, hq, hf]
  rfl

include hr in
theorem get_takes {m : List Vec} {rest : List (List Vec)} (hq : (s.line n).queue = m :: rest)
    (hf : (s.line n).readers.filter (fun t => !(s.thread t).halted) = []) (hd : s.does i x (getMessage s x d n deadline blocks)) :
    ∃ t, exec i s = .next t ∧ s.answers t x d (BitVec.ofNat 64 m.length) ∧ (t.line n).queue = rest ∧
      t.mem.readBytes (recvBuffer x.thread) (m.map Vec.bytes).flatten.length = (m.map Vec.bytes).flatten := by
  refine ⟨_, exec_of_result hr hd (getMessage_takes hu hn hc ha hm hq hf), State.answers_messageTaken .., ?_, ?_⟩
  · rw [State.line_putsG, State.queue_messageTaken]
  · rw [State.mem_putsG, State.mem_messageTaken, Memory.readBytes_writeBytes]

section
variable (hq : (s.line n).queue = [])
include hq

/-- With nothing queued, the thread is told so at once, or its deadline has come, or it waits in line. -/
theorem getMessage_of_empty : getMessage s x d n deadline blocks =
    if !blocks then result s x d resEmpty
    else if deadline.any fun t => decide (s.now.value ≥ t) then result s x d resTimeout
    else .wait ((s.setLine n { s.line n with readers := (s.line n).readers ++ [x.thread.val] }).setThread x.thread
      { s.self x with state := .blockedLine, object := n, resultReg := d, deadline := deadline }) := by
  obtain ⟨h1, h2, h3⟩ := line_reached hu hn hc ha
  have h4 : ¬ (!s.mayRead x.thread n) = true := by simp [hm]
  unfold getMessage
  simp only [if_neg h1, if_neg h2, if_neg h3, if_neg h4, hq]
  cases deadline <;> rfl

include hr

theorem get_blocks (ht : ∀ t, deadline = some t → s.now.value < t) (hd : s.does i x (getMessage s x d n deadline true)) :
    ∃ t, exec i s = .next t ∧ s.blocksAs t x .blockedLine n d deadline ∧ (t.line n).readers = (s.line n).readers ++ [x.thread.val] :=
  ⟨_, exec_of_wait hr hd ((getMessage_of_empty hu hn hc ha hm hq).trans ((if_neg (by simp)).trans (if_neg (not_due ht)))),
    State.blocksAs_setThread _ _ _ _ rfl rfl, by simp⟩

theorem get_times_out {due : Nat} (ht : due ≤ s.now.value) (hd : s.does i x (getMessage s x d n (some due) true)) :
    exec i s = .next (s.putsG x d (-3)) :=
  exec_of_result hr hd ((getMessage_of_empty hu hn hc ha hm hq).trans ((if_neg (by simp)).trans (if_pos (decide_eq_true ht))))

theorem get_finds_empty (hd : s.does i x (getMessage s x d n deadline false)) : exec i s = .next (s.putsG x d (-2)) :=
  exec_of_result hr hd ((getMessage_of_empty hu hn hc ha hm hq).trans (if_pos rfl))

end
end

/-- Settles O14: the three instructions are one operation, with or without a deadline, that blocks or does not. -/
theorem receiveResults : Obligations.ReceiveResults := by
  unfold Obligations.ReceiveResults
  intro x d a b s hr n due hu hn hc ha hm hf
  refine ⟨fun m rest hq i hi => ?takes, fun hq => ⟨?blocks, fun ht => ?deadline, fun ht => ?timeout, ?empty⟩⟩
  case takes =>
    have takes {i deadline blocks} := get_takes (i := i) (d := d) (deadline := deadline) (blocks := blocks) hr hu hn hc ha hm hq hf
    rcases hi with rfl | rfl | rfl
    · exact takes (does_lget s x d a rfl)
    · exact takes (does_lgetd s x d a b rfl)
    · exact takes (does_ltry s x d a rfl)
  case blocks => exact get_blocks hr hu hn hc ha hm hq (by simp) (does_lget s x d a rfl)
  case deadline =>
    obtain ⟨t, he, hb, -⟩ := get_blocks hr hu hn hc ha hm hq (fun _ h => Option.some.inj h ▸ ht) (does_lgetd s x d a b rfl)
    exact ⟨t, he, hb⟩
  case timeout => exact get_times_out hr hu hn hc ha hm hq ht (does_lgetd s x d a b rfl)
  case empty => exact get_finds_empty hr hu hn hc ha hm hq (does_ltry s x d a rfl)

/-! ## Hitches (R312, R314) -/

/-- The state in which the thread holds one more unit of hitch `n`. -/
def State.tied (s : State) (x : Issue) (n : Nat) : State :=
  ((s.setHitch n { s.hitch n with holders := (s.hitch n).holders ++ [x.thread.val] }).setThread x.thread
    { s.self x with held := (s.self x).held ++ [n] }).trace x.thread 4 (s.self x).pc

/-- The state in which the thread has returned its unit of hitch `n`. -/
def State.untied (s : State) (x : Issue) (n : Nat) : State :=
  ((s.setHitch n { s.hitch n with holders := (s.hitch n).holders.filter fun t => decide (t ≠ x.thread.val) }).setThread x.thread
    { s.self x with held := (s.self x).held.filter fun k => decide (k ≠ n) }).trace x.thread 5 (s.self x).pc

section
variable (s : State) (x : Issue) (n : Nat)

@[simp] theorem State.self_tied : (s.tied x n).self x = { s.self x with held := (s.self x).held ++ [n] } :=
  (State.self_trace ..).trans (State.self_setThread ..)
@[simp] theorem State.self_untied :
    (s.untied x n).self x = { s.self x with held := (s.self x).held.filter fun k => decide (k ≠ n) } :=
  (State.self_trace ..).trans (State.self_setThread ..)
@[simp] theorem State.hitch_tied :
    (s.tied x n).hitch n = { s.hitch n with holders := (s.hitch n).holders ++ [x.thread.val] } := by
  rw [State.tied, State.trace_hitch]
  exact State.hitch_setHitch ..
@[simp] theorem State.hitch_untied :
    (s.untied x n).hitch n = { s.hitch n with holders := (s.hitch n).holders.filter fun t => decide (t ≠ x.thread.val) } := by
  rw [State.untied, State.trace_hitch]
  exact State.hitch_setHitch ..

end

section
variable {s : State} {i : Instr} {x : Issue} {d : Greg} {n : Nat} {deadline : Option Nat} {blocks : Bool} (hr : s.runs x)

section
variable (ho : s.hitchOpen x n)
include ho

/-- A tie that no rule refuses takes a free unit, or is told that none is, or its deadline has come, or it waits in line. -/
theorem tie_of_open : tie s x d n deadline blocks =
    if (s.hitch n).queue = [] ∧ (s.hitch n).holders.length < (s.hitch n).count then result (s.tied x n) x d 0
    else if !blocks then result s x d resTaken
    else if deadline.any fun t => decide (s.now.value ≥ t) then result s x d resTimeout
    else .wait ((s.setHitch n { s.hitch n with queue := (s.hitch n).queue ++ [x.thread.val] }).setThread x.thread
      { s.self x with state := .blockedHitch, object := n, resultReg := d, deadline := deadline }) := by
  obtain ⟨hu, hn, hc, ha, hh, hl⟩ := ho
  have h1 : ¬ (!s.cores.lhReady) = true := by simp [hu]
  have h2 : ¬ (n ≥ 32768 ∨ (s.hitch n).count = 0) := not_or.mpr ⟨Nat.not_le.mpr hn, hc⟩
  have h4 : ¬ ((s.self x).held.contains n = true ∨ (s.self x).held.length ≥ 16) :=
    not_or.mpr ⟨mt List.contains_iff_mem.mp hh, Nat.not_le.mpr hl⟩
  unfold tie
  cases deadline <;> exact (if_neg h1).trans ((if_neg h2).trans ((if_neg ha).trans (if_neg h4)))

include hr

theorem tie_ties (hq : (s.hitch n).queue = []) (hf : (s.hitch n).holders.length < (s.hitch n).count)
    (hd : s.does i x (tie s x d n deadline blocks)) : ∃ t, exec i s = .next t ∧ s.answers t x d 0 ∧
      (t.hitch n).holders = (s.hitch n).holders ++ [x.thread.val] ∧ (t.self x).held = (s.self x).held ++ [n] :=
  ⟨_, exec_of_result hr hd ((tie_of_open ho).trans (if_pos ⟨hq, hf⟩)), State.answers_putsG d 0 (by simp) (by simp) (by simp), by simp,
    by simp⟩

section
variable (hf : ¬ ((s.hitch n).queue = [] ∧ (s.hitch n).holders.length < (s.hitch n).count))
include hf

theorem tie_blocks (ht : ∀ t, deadline = some t → s.now.value < t) (hd : s.does i x (tie s x d n deadline true)) :
    ∃ t, exec i s = .next t ∧ s.blocksAs t x .blockedHitch n d deadline ∧ (t.hitch n).queue = (s.hitch n).queue ++ [x.thread.val] :=
  ⟨_, exec_of_wait hr hd ((tie_of_open ho).trans ((if_neg hf).trans ((if_neg (by simp)).trans (if_neg (not_due ht))))),
    State.blocksAs_setThread _ _ _ _ rfl rfl, by simp⟩

theorem tie_times_out {due : Nat} (ht : due ≤ s.now.value) (hd : s.does i x (tie s x d n (some due) true)) :
    exec i s = .next (s.putsG x d (-3)) :=
  exec_of_result hr hd ((tie_of_open ho).trans ((if_neg hf).trans ((if_neg (by simp)).trans (if_pos (decide_eq_true ht)))))

theorem tie_finds_taken (hd : s.does i x (tie s x d n deadline false)) : exec i s = .next (s.putsG x d (-4)) :=
  exec_of_result hr hd ((tie_of_open ho).trans ((if_neg hf).trans (if_pos rfl)))

end
end

include hr in
theorem untie_unties (hu : s.cores.lhReady = true) (hn : n < 32768) (hc : (s.hitch n).count ≠ 0) (hh : n ∈ (s.self x).held)
    (hd : s.does i x (untie s x d n)) :
    ∃ t, exec i s = .next t ∧ s.answers t x d 0 ∧ x.thread.val ∉ (t.hitch n).holders ∧ n ∉ (t.self x).held := by
  have h1 : ¬ (!s.cores.lhReady) = true := by simp [hu]
  have h2 : ¬ (n ≥ 32768 ∨ (s.hitch n).count = 0 ∨ ¬ (s.self x).held.contains n = true) :=
    not_or.mpr ⟨Nat.not_le.mpr hn, not_or.mpr ⟨hc, not_not_intro (List.contains_iff_mem.mpr hh)⟩⟩
  have he : untie s x d n = result (s.untied x n) x d 0 := (if_neg h1).trans (if_neg h2)
  exact ⟨_, exec_of_result hr hd he, State.answers_putsG d 0 (by simp) (by simp) (by simp), by simp, by simp⟩

end

/-- Settles O15: the three ties are one operation, with or without a deadline, that blocks or does not; while the units do not serve,
every operation gives the same result. -/
theorem hitchResults : Obligations.HitchResults := by
  unfold Obligations.HitchResults
  constructor
  · intro x d a b s hr n due h
    refine ⟨fun ho hq hf i hi => ?ties, fun ho hf => ?taken,
      fun hu hn hc hh => untie_unties hr hu hn hc hh (does_huntie s x d a rfl)⟩
    case ties =>
      have ties {i deadline blocks} := tie_ties (i := i) (d := d) (deadline := deadline) (blocks := blocks) hr ho hq hf
      rcases hi with rfl | rfl | rfl
      · exact ties (does_htie s x d a rfl)
      · exact ties (does_htied s x d a b rfl)
      · exact ties (does_htry s x d a rfl)
    case taken =>
      have hf : ¬ (h.queue = [] ∧ h.holders.length < h.count) := fun ⟨hq, hl⟩ => hf.elim (· hq) (Nat.not_le.mpr hl)
      refine ⟨tie_blocks hr ho hf (by simp) (does_htie s x d a rfl), fun ht => ?_,
        fun ht => tie_times_out hr ho hf ht (does_htied s x d a b rfl), tie_finds_taken hr ho hf (does_htry s x d a rfl)⟩
      obtain ⟨t, he, hb, -⟩ := tie_blocks hr ho hf (fun _ h => Option.some.inj h ▸ ht) (does_htied s x d a b rfl)
      exact ⟨t, he, hb⟩
  · intro x d a b v tile i s hr hu hi
    simp only [List.mem_cons, List.not_mem_nil, or_false] at hi
    rcases hi with rfl | rfl | rfl | rfl | rfl | rfl | rfl | rfl | rfl | rfl | rfl | rfl | rfl
    · exact exec_of_result hr (does_lput s x d a v rfl) (putBeat_unavailable hu)
    · exact exec_of_result hr (does_lend s x d a v rfl) (endBeat_unavailable hu)
    · exact exec_of_result hr (does_lendt s x d a v rfl) (endBeat_unavailable hu)
    · exact exec_of_result hr (does_ldrop s x d) (if_pos (by simp [hu]))
    · exact exec_of_result hr (does_lget s x d a rfl) (getMessage_unavailable hu)
    · exact exec_of_result hr (does_lgetd s x d a b rfl) (getMessage_unavailable hu)
    · exact exec_of_result hr (does_ltry s x d a rfl) (getMessage_unavailable hu)
    · exact exec_of_result hr (does_htie s x d a rfl) (tie_unavailable hu)
    · exact exec_of_result hr (does_htied s x d a b rfl) (tie_unavailable hu)
    · exact exec_of_result hr (does_huntie s x d a rfl) (untie_unavailable hu)
    · exact exec_of_result hr (does_htry s x d a rfl) (tie_unavailable hu)
    · exact exec_of_result hr (does_tend s x d v tile rfl) (endBeat_unavailable hu)
    · exact exec_of_result hr (does_tendt s x d v tile rfl) (endBeat_unavailable hu)

end Sys2Proof.Machine

/-!
PROOFS. The fields of an encoded word and what they decode to: what `Obligations.DrekoRoundTrip` is assembled from.
-/

namespace Sys2Proof

/-! ## The fields of an encoded word (R330) -/

/-- The word of an issue whose instruction has `w` in bits [27:0] (R330). -/
def Issue.encodes (x : Issue) (w : Nat) : BitVec 32 := BitVec.ofNat 32 (x.guard.toNat * 2 ^ 28 + w)

theorem encodeDreko_of_fields {i : Instr} {x : Issue} {w : Nat} (h : drekoFields i = some (x, w)) : encodeDreko i = some (x.encodes w) := by
  rw [encodeDreko, h]
  rfl

section
variable (x : Issue) {major d a b v tile fn imm w : Nat}

/-- GUARD and MAJOR stand where R330 puts them, and the other fields are read off the bits below MAJOR. -/
theorem DrekoWord.of_encodes (hm : major < 64) (hw : w < 2 ^ 22) :
    DrekoWord.of (x.encodes (major * 2 ^ 22 + w)) =
      ⟨x.guard.toNat, major, w / 2 ^ 17, w / 2 ^ 12 % 32, w / 2 ^ 7 % 32, w % 128, w % 2 ^ 12, w % 2 ^ 17, w⟩ := by
  have hn : (x.encodes (major * 2 ^ 22 + w)).toNat = x.guard.toNat * 2 ^ 28 + (major * 2 ^ 22 + w) := by
    rw [Issue.encodes, BitVec.toNat_ofNat]
    omega
  rw [DrekoWord.of, hn, DrekoWord.mk.injEq]
  omega

/-- The fields of a word of format R. -/
def Issue.fieldsR (x : Issue) (major d a b fn : Nat) : DrekoWord where
  guard := x.guard.toNat
  major := major
  d := d
  a := a
  b := b
  fn := fn
  imm12 := b * 2 ^ 7 + fn
  imm17 := a * 2 ^ 12 + b * 2 ^ 7 + fn
  off22 := d * 2 ^ 17 + a * 2 ^ 12 + b * 2 ^ 7 + fn

theorem DrekoWord.of_encR (hm : major < 64) (hd : d < 32) (ha : a < 32) (hb : b < 32) (hf : fn < 128) :
    DrekoWord.of (x.encodes (encR major d a b fn)) = x.fieldsR major d a b fn := by
  have he : encR major d a b fn = major * 2 ^ 22 + (d * 2 ^ 17 + a * 2 ^ 12 + b * 2 ^ 7 + fn) := by rw [encR]; omega
  rw [he, DrekoWord.of_encodes x hm (by omega), Issue.fieldsR, DrekoWord.mk.injEq]
  omega

theorem DrekoWord.of_encI (hm : major < 64) (hd : d < 32) (ha : a < 32) (hi : imm < 2 ^ 12) :
    DrekoWord.of (x.encodes (encI major d a imm)) = ⟨x.guard.toNat, major, d, a, imm / 2 ^ 7, imm % 2 ^ 7,
      imm, a * 2 ^ 12 + imm, d * 2 ^ 17 + a * 2 ^ 12 + imm⟩ := by
  have he : encI major d a imm = major * 2 ^ 22 + (d * 2 ^ 17 + a * 2 ^ 12 + imm) := by rw [encI]; omega
  rw [he, DrekoWord.of_encodes x hm (by omega), DrekoWord.mk.injEq]
  omega

theorem DrekoWord.of_encK (hm : major < 64) (hd : d < 32) (hi : imm < 2 ^ 17) :
    DrekoWord.of (x.encodes (encK major d imm)) = ⟨x.guard.toNat, major, d, imm / 2 ^ 12, imm / 2 ^ 7 % 32, imm % 2 ^ 7,
      imm % 2 ^ 12, imm, d * 2 ^ 17 + imm⟩ := by
  have he : encK major d imm = major * 2 ^ 22 + (d * 2 ^ 17 + imm) := by rw [encK]; omega
  rw [he, DrekoWord.of_encodes x hm (by omega), DrekoWord.mk.injEq]
  omega

/-- Format T is format I with TILE and FN as its immediate. -/
theorem encT_eq_encI : encT d v tile fn = encI 0x22 d v (tile * 64 + fn) := by
  rw [encT, encI]
  omega

end

/-! ## Operands read back from their fields -/

@[simp] theorem gReg_val (d : Greg) : gReg d.val = d := Fin.ofNat_val_eq_self d
@[simp] theorem vReg_val (d : Vreg) : vReg d.val = d := Fin.ofNat_val_eq_self d

/-- A predicate's number stands below the condition's (CMPI.c, R334). -/
theorem vReg_above {n : Nat} (d : Preg) (hn : n % 8 = 0) : vReg (n + d.val) = d := Fin.ext (by simp [vReg]; omega)

theorem div_eight_above {n : Nat} (d : Preg) (hn : n % 8 = 0) : (n + d.val) / 8 = n / 8 := by omega

/-- A shift count stands below the kind of shift. -/
theorem count_above {n : Nat} (c : BitVec 6) (hn : n % 64 = 0) : BitVec.ofNat 6 (n + c.toNat) = c :=
  BitVec.eq_of_toNat_eq (by rw [BitVec.toNat_ofNat]; omega)

/-- A tile's number stands above FN. -/
theorem div_tileField {tile : TileNo} {fn : Nat} (hf : fn < 64) : (tile.val * 64 + fn) / 64 = tile.val := by omega

/-! ## The group of a word of format R: MAJOR selects its decoder -/

section
variable (x : Issue) {d a b fn : Nat} (hd : d < 32) (ha : a < 32) (hb : b < 32) (hf : fn < 128)
include hd ha hb hf

theorem decodeDreko_int : decodeDreko x.thread (x.encodes (encR 0x01 d a b fn)) = decodeInt x (x.fieldsR 0x01 d a b fn) := by
  simp [decodeDreko, DrekoWord.of_encR, Issue.fieldsR, hd, ha, hb, hf]
theorem decodeDreko_cmp : decodeDreko x.thread (x.encodes (encR 0x09 d a b fn)) = decodeCmp x (x.fieldsR 0x09 d a b fn) := by
  simp [decodeDreko, DrekoWord.of_encR, Issue.fieldsR, hd, ha, hb, hf]
theorem decodeDreko_pred : decodeDreko x.thread (x.encodes (encR 0x0B d a b fn)) = decodePred x (x.fieldsR 0x0B d a b fn) := by
  simp [decodeDreko, DrekoWord.of_encR, Issue.fieldsR, hd, ha, hb, hf]
theorem decodeDreko_line : decodeDreko x.thread (x.encodes (encR 0x20 d a b fn)) = decodeLine x (x.fieldsR 0x20 d a b fn) := by
  simp [decodeDreko, DrekoWord.of_encR, Issue.fieldsR, hd, ha, hb, hf]
theorem decodeDreko_hitch : decodeDreko x.thread (x.encodes (encR 0x21 d a b fn)) = decodeHitch x (x.fieldsR 0x21 d a b fn) := by
  simp [decodeDreko, DrekoWord.of_encR, Issue.fieldsR, hd, ha, hb, hf]
theorem decodeDreko_ctl : decodeDreko x.thread (x.encodes (encR 0x24 d a b fn)) = decodeCtl x (x.fieldsR 0x24 d a b fn) := by
  simp [decodeDreko, DrekoWord.of_encR, Issue.fieldsR, hd, ha, hb, hf]
theorem decodeDreko_vec : decodeDreko x.thread (x.encodes (encR 0x30 d a b fn)) = decodeVec x (x.fieldsR 0x30 d a b fn) := by
  simp [decodeDreko, DrekoWord.of_encR, Issue.fieldsR, hd, ha, hb, hf]
theorem decodeDreko_field : decodeDreko x.thread (x.encodes (encR 0x31 d a b fn)) = decodeField x (x.fieldsR 0x31 d a b fn) := by
  simp [decodeDreko, DrekoWord.of_encR, Issue.fieldsR, hd, ha, hb, hf]
theorem decodeDreko_move : decodeDreko x.thread (x.encodes (encR 0x32 d a b fn)) = decodeMove x (x.fieldsR 0x32 d a b fn) := by
  simp [decodeDreko, DrekoWord.of_encR, Issue.fieldsR, hd, ha, hb, hf]

end

/-- Every encoding decodes to its instruction: under each format the fields are read back, and the group's decoder finds the operands in
range and the unused fields zero (R332). -/
theorem decodeDreko_encodes {i : Instr} {x : Issue} {w : Nat} (h : drekoFields i = some (x, w)) (he : Machine.encodable i = true) :
    decodeDreko x.thread (x.encodes w) = some i := by
  cases i <;> simp only [drekoFields, Option.some.injEq, Prod.mk.injEq, reduceCtorEq] at h
  all_goals obtain ⟨rfl, rfl⟩ := h
  case add | sub | and | or | xor | shl | shr | sra | mul | mulhu | divu | remu | clz | popc | bswap | sextb | sexth | sextw =>
    simp (disch := omega) [decodeDreko_int, decodeInt, Issue.fieldsR]
  case addi | andi | ori | xori | ldb | ldh | ldw | ldd | stb | sth | stw | std | vld | vst | mfs | mts =>
    simp (disch := omega) [decodeDreko, DrekoWord.of_encI]
  case shli | shri | srai => simp (disch := omega) [decodeDreko, DrekoWord.of_encI, count_above, if_pos, if_neg]
  case ldi | lsh16 => simp (disch := omega) [decodeDreko, DrekoWord.of_encK, if_pos]
  case cmpEq | cmpNe | cmpLtu | cmpLts | cmpGeu | cmpGes | cmpTest =>
    simp (disch := omega) [decodeDreko_cmp, decodeCmp, Issue.fieldsR, if_neg]
  case cmpiEq | cmpiNe | cmpiLts | cmpiLtu =>
    simp (disch := omega) [decodeDreko, DrekoWord.of_encI, vReg_above, div_eight_above, Nat.div_eq_of_lt]
  case pand | por | pxor | pnot | pget | pset => simp (disch := omega) [decodeDreko_pred, decodePred, Issue.fieldsR]
  case j x off | jal x off =>
    rw [decodeDreko, DrekoWord.of_encodes x (by decide) off.isLt]
    simp
  case jr | aadd | aswp | acas => simp (disch := omega) [decodeDreko, DrekoWord.of_encR, Issue.fieldsR]
  case lput | lend | lendt | ldrop | lget | lgetd | ltry => simp (disch := omega) [decodeDreko_line, decodeLine, Issue.fieldsR]
  case htie | htied | huntie | htry => simp (disch := omega) [decodeDreko_hitch, decodeHitch, Issue.fieldsR]
  case tput | tend | tendt =>
    simp (disch := omega) [decodeDreko, encT_eq_encI, DrekoWord.of_encI, decodeTile, div_tileField, if_neg]
  case park | yield | timens | brk | treseat | iflush | fence => simp (disch := omega) [decodeDreko_ctl, decodeCtl, Issue.fieldsR]
  case vxor | vand | vor | vandn | vxor3 | vadd_8 | vadd_16 | vadd_32 | vadd_64 | vsub_8 | vsub_16 | vsub_32 | vsub_64 =>
    simp (disch := omega) [decodeDreko_vec, decodeVec, Issue.fieldsR, if_neg]
  case vgfx | vgfxG =>
    simp only [Machine.encodable, decide_eq_true_eq] at he
    simp (disch := omega) [decodeDreko_field, decodeField, Issue.fieldsR, he]
  case vclmul | vclmulG | vgfred | vgfredG | vgf8mul | vgf8mac | vgf8muls | vgf8macs | vfold | vctr32 | vctr128 | vtageq =>
    simp (disch := omega) [decodeDreko_field, decodeField, Issue.fieldsR, if_pos]
  case vmvg | vmvv | vbcast | vshuf | vbswap128 | vzero | lhdr =>
    simp (disch := omega) [decodeDreko_move, decodeMove, Issue.fieldsR]

/-- Settles O4: an instruction's word is that of its fields, and they decode to it. -/
theorem drekoRoundTrip : Obligations.DrekoRoundTrip := by
  unfold Obligations.DrekoRoundTrip
  intro i x w h he
  exact ⟨x.encodes w, encodeDreko_of_fields h, decodeDreko_encodes h he⟩

end Sys2Proof

/-!
PROOFS. Issue, guards and registers, and the instructions that write only their thread's own registers: what `Obligations.GuardRule`,
`Obligations.RegisterOnlyFrame`, `Obligations.RegisterReadback`, `Obligations.Branches` and `Obligations.BreakRule` are assembled from.
-/

namespace Sys2Proof.Machine

/-! ## An instruction that completes on its thread's own registers, and one that branches -/

section
variable {s : State} {i : Instr} {x : Issue} {word : Nat} (hr : s.runs x)
include hr

theorem exec_leaves {f : Thread → Thread} {th : Thread} (hi : exec i s = issue x word s fun t => own s x (f t))
    (hf : f (s.self x) = th) : exec i s = .next (s.leaves x th) := exec_of_done hr ⟨_, _, hi, rfl⟩ (hf ▸ rfl)

theorem exec_putsG {d : Greg} {f : Thread → Word} {v : Word} (hi : exec i s = issue x word s fun t => putG s x d (f t))
    (hf : f (s.self x) = v) : exec i s = .next (s.putsG x d v) := exec_of_done hr ⟨_, _, hi, rfl⟩ (hf ▸ rfl)

theorem exec_putsV {d : Vreg} {f : Thread → Vec} {v : Vec} (hi : exec i s = issue x word s fun t => putV s x d (f t))
    (hf : f (s.self x) = v) : exec i s = .next (s.putsV x d v) := exec_of_done hr ⟨_, _, hi, rfl⟩ (hf ▸ rfl)

theorem exec_putsP {d : Preg} {f : Thread → Bool} {b : Bool} (hi : exec i s = issue x word s fun t => putP s x d (f t))
    (hf : f (s.self x) = b) : exec i s = .next (s.putsP x d b) := exec_of_done hr ⟨_, _, hi, rfl⟩ (hf ▸ rfl)

theorem exec_of_jump {u : State} {pc : BitVec 32} {body : Thread → Eff} (hi : exec i s = issue x word s body)
    (hb : body (s.self x) = .jump u pc) : exec i s = .next (u.branch x.thread pc) := by
  rw [State.self] at hb
  rw [hi, issue_runs hr, hb]

end

/-! ## Reading back a register (R327) -/

section
variable (s : State) (x : Issue)

@[simp] theorem State.self_leaves (th : Thread) :
    (s.leaves x th).self x = { th with pc := th.pc + 4, retired := th.retired + 1 } := by
  rw [State.leaves, State.self_retire, State.self_setThread]

theorem State.rg_putsG (d r : Greg) (v : Word) :
    ((s.putsG x d v).self x).rg r = if r = 0 then 0 else if r = d then v else (s.self x).rg r := by
  rw [State.putsG, State.self_leaves]
  exact Thread.rg_wg (s.self x) d r v

theorem State.rv_putsV (d r : Vreg) (v : Vec) : ((s.putsV x d v).self x).rv r = if r = d then v else (s.self x).rv r := by
  rw [State.putsV, State.self_leaves]
  exact Thread.rv_wv (s.self x) d r v

theorem State.rp_putsP (d r : Preg) (b : Bool) :
    ((s.putsP x d b).self x).rp r = if r = 0 then true else if r = d then b else (s.self x).rp r := by
  rw [State.putsP, State.self_leaves]
  exact Thread.rp_wp (s.self x) d r b

end

/-- Settles O6: a register reads what was written to it, unless it is fixed. -/
theorem registerReadback : Obligations.RegisterReadback := by
  unfold Obligations.RegisterReadback
  intro s x
  refine ⟨fun d v => ?_, fun d v => ?_, fun d b => ?_, fun d v => State.self_putsG s x d v⟩
  · rw [State.rg_putsG, if_pos rfl]
  · rw [State.rv_putsV, if_pos rfl]
  · rw [State.rp_putsP, if_pos rfl]
    by_cases hd : d = 0 <;> simp [hd]

/-! ## Guards (R331) -/

/-- Stepping past an instruction leaves the thread that issues as it is, but for PC and the retired count. -/
theorem State.retire_of_issues {s : State} {x : Issue} (h : (s.self x).issues = true) : s.retire x.thread = s.leaves x (s.self x) := by
  have hs : (s.self x).state = .ready := by
    rw [Thread.issues, Bool.and_eq_true, decide_eq_true_eq] at h
    exact h.1
  unfold State.leaves State.retire
  rw [State.thread_setThread]
  refine (State.setThread_setThread s x.thread hs ?_).symm
  exact hs

theorem guardHolds_zero (th : Thread) : guardHolds th 0 = true := rfl

/-- Settles O3: a Dreko instruction is an issue of its word; the rest is what an issue does, and what a predicate reads after a write. -/
theorem guardRule : Obligations.GuardRule := by
  unfold Obligations.GuardRule
  refine ⟨fun i x w s h => ?_, guardHolds_zero, fun s x d b hd => ?_⟩
  · obtain ⟨body, hi⟩ := exec_dreko h
    rw [hi s]
    refine ⟨fun h => issue_idle h .., fun h hg => issue_illegal h hg .., fun h hg hp => ?_⟩
    rw [issue_skips h hg hp, State.retire_of_issues h]
  · rw [State.rp_putsP, if_neg hd, if_pos rfl]

/-! ## The register-only instructions (R327, R334, R336) -/

/-- Only the destination is written: PC and the retired count are not yet stepped. -/
def Thread.writes (w : Dest) (a b : Thread) : Prop := Thread.keeps w a b ∧ b.pc = a.pc ∧ b.retired = a.retired

section
variable (th : Thread)

theorem Thread.wp_frame (d : Preg) (b : Bool) : th.wp d b = { th with p := (th.wp d b).p } := by
  unfold Thread.wp
  split <;> rfl

theorem Thread.writes_wg (d : Greg) (v : Word) : Thread.writes (.g d) th (th.wg d v) := by
  refine ⟨⟨fun r hr => ?_, fun r _ _ => ?_, fun r _ _ => ?_, ?_⟩, by simp, by simp⟩
  · have hne : r ≠ d := fun h => hr (h ▸ rfl)
    rw [Thread.rg_wg, if_neg hne]
    split
    · next h0 => rw [h0, Thread.rg_zero]
    · rfl
  · rw [Thread.wg_frame]; rfl
  · rw [Thread.wg_frame]; rfl
  · rw [Thread.wg_frame]

theorem Thread.writes_wv (d : Vreg) (v : Vec) : Thread.writes (.v d) th (th.wv d v) := by
  refine ⟨⟨fun _ _ => rfl, fun r hr _ => ?_, fun _ _ _ => rfl, rfl⟩, rfl, rfl⟩
  rw [Thread.rv_wv, if_neg fun h : r = d => hr (h ▸ rfl)]

theorem Thread.writes_pair (d : Vpair) (u v : Vec) : Thread.writes (.pair d) th ((th.wv (pairLo d) u).wv (pairHi d) v) := by
  refine ⟨⟨fun _ _ => rfl, fun r _ hr => ?_, fun _ _ _ => rfl, rfl⟩, rfl, rfl⟩
  obtain ⟨hlo, hhi⟩ := hr d rfl
  rw [Thread.rv_wv, if_neg hhi, Thread.rv_wv, if_neg hlo]

theorem Thread.writes_wp (d : Preg) (b : Bool) : Thread.writes (.p d) th (th.wp d b) := by
  refine ⟨⟨fun r _ => ?_, fun r _ _ => ?_, fun r hr _ => ?_, ?_⟩, ?_, ?_⟩
  · rw [Thread.wp_frame]; rfl
  · rw [Thread.wp_frame]; rfl
  · have hne : r ≠ d := fun h => hr (h ▸ rfl)
    rw [Thread.rp_wp, if_neg hne]
    split
    · next h0 => rw [h0]; rfl
    · rfl
  all_goals rw [Thread.wp_frame]

theorem Thread.writes_preds (p : BitVec 8) : Thread.writes .preds th { th with p := p } :=
  ⟨⟨fun _ _ => rfl, fun _ _ _ => rfl, fun _ _ h => absurd rfl h, rfl⟩, rfl, rfl⟩

theorem Thread.writes_none : Thread.writes .none th th := ⟨⟨fun _ _ => rfl, fun _ _ _ => rfl, fun _ _ _ => rfl, rfl⟩, rfl, rfl⟩

end

/-- A register-only instruction that runs leaves its thread with its destination written. -/
theorem exec_registerOnly {i : Instr} {x : Issue} {w : Dest} {s : State} (h : registerOnly i = some (x, w)) (hr : s.runs x) :
    ∃ th, exec i s = .next (s.leaves x th) ∧ Thread.writes w (s.self x) th := by
  cases i <;> simp only [registerOnly, Option.some.injEq, Prod.mk.injEq, reduceCtorEq] at h
  all_goals obtain ⟨rfl, rfl⟩ := h
  case add | sub | and | or | xor | shl | shr | sra | mul | mulhu | divu | remu | clz | popc | bswap | sextb | sexth | sextw | addi | andi |
      ori | xori | shli | shri | srai | ldi | lsh16 | pget | timens | vmvg =>
    exact ⟨_, exec_putsG hr (by unfold exec; rfl) rfl, Thread.writes_wg ..⟩
  case cmpEq | cmpNe | cmpLtu | cmpLts | cmpGeu | cmpGes | cmpTest | cmpiEq | cmpiNe | cmpiLts | cmpiLtu | pand | por | pxor | pnot |
      vtageq =>
    exact ⟨_, exec_putsP hr (by unfold exec; rfl) rfl, Thread.writes_wp ..⟩
  case pset => exact ⟨_, exec_leaves hr (by unfold exec; rfl) rfl, Thread.writes_preds ..⟩
  case vclmul | vclmulG => exact ⟨_, exec_leaves hr (by unfold exec; rfl) rfl, Thread.writes_pair ..⟩
  case yield => exact ⟨_, (yield_retires hr).trans (congrArg _ (State.retire_eq_leaves hr)), Thread.writes_none _⟩
  case fence => exact ⟨_, (fence_retires hr).trans (congrArg _ (State.retire_eq_leaves hr)), Thread.writes_none _⟩
  -- every other register-only instruction writes a vector register
  all_goals exact ⟨_, exec_putsV hr (by unfold exec; rfl) rfl, Thread.writes_wv ..⟩

theorem State.sameBut_leaves (s : State) (x : Issue) (th : Thread) : s.sameBut (s.leaves x th) x.thread := by
  refine ⟨fun k hk => ?_, rfl⟩
  rw [State.leaves, State.retire, State.thread_setThread_ne _ _ hk, State.thread_setThread_ne _ _ hk]

/-- Settles O5: a register-only instruction leaves its thread with its destination written, and steps past it. -/
theorem registerOnlyFrame : Obligations.RegisterOnlyFrame := by
  unfold Obligations.RegisterOnlyFrame
  intro i x w s h hr
  obtain ⟨th, he, hk, hpc, hret⟩ := exec_registerOnly h hr
  refine ⟨_, he, State.sameBut_leaves s x th, ?_⟩
  rw [State.self_leaves]
  exact ⟨hk, by rw [hpc], by rw [hret]⟩

/-! ## Branches (R333, R350) -/

/-- The distance of a branch is a signed number of instructions. -/
theorem off22_eq (off : BitVec 22) : off22 off = BitVec.ofInt 32 (4 * off.toInt) := by
  rw [off22, BitVec.shiftLeft_eq_mul_twoPow, BitVec.signExtend, Int.mul_comm, BitVec.ofInt_mul]
  rfl

section
variable {s : State} {x : Issue}

theorem State.self_branch (pc : BitVec 32) :
    (s.branch x.thread pc).self x = { s.self x with pc := pc, retired := (s.self x).retired + 1 } := by
  rw [State.branch, State.self_trace, State.self_setThread]
  rfl

variable (hr : s.runs x) {d a : Greg} {off : BitVec 22}
include hr

theorem j_jumps : exec (.j x off) s = .next (s.branch x.thread ((s.self x).pc + BitVec.ofInt 32 (4 * off.toInt))) :=
  off22_eq off ▸ exec_of_jump hr (exec_j ..) rfl

theorem jal_jumps : exec (.jal x off) s = .next ((s.setThread x.thread ((s.self x).wg 30 (((s.self x).pc + 4).setWidth 64))).branch
    x.thread ((s.self x).pc + BitVec.ofInt 32 (4 * off.toInt))) :=
  off22_eq off ▸ exec_of_jump hr (exec_jal ..) rfl

theorem jr_jumps (h : ((s.self x).rg a).toNat % 4 = 0) : exec (.jr x d a) s =
    .next ((s.setThread x.thread ((s.self x).wg d (((s.self x).pc + 4).setWidth 64))).branch x.thread (((s.self x).rg a).setWidth 32)) :=
  exec_of_jump hr (exec_jr ..) (if_neg (not_not_intro h))

theorem jr_unaligned (h : ((s.self x).rg a).toNat % 4 ≠ 0) :
    ∃ w, exec (.jr x d a) s = .next (s.threadFault x.thread .alignment w ((s.self x).rg a).toNat) :=
  exec_of_fault hr ⟨_, _, exec_jr .., rfl⟩ (if_pos h)

end

/-- Settles O9: each clause is the lemma about the branch that its hypotheses select. -/
theorem branches : Obligations.Branches := by
  unfold Obligations.Branches
  intro x d a off s T back
  refine ⟨fun hr => ⟨j_jumps hr, jal_jumps hr, jr_jumps hr, jr_unaligned hr⟩, fun pc => ?_, fun h hg hp => ?_,
    BitVec.le_toInt off, BitVec.toInt_lt⟩
  · rw [State.self_branch]
    exact ⟨rfl, rfl⟩
  · rw [exec_j, execJ, issue_skips h hg hp, State.retire_of_issues h]

/-! ## BRK (R343) -/

/-- Settles O16: BRK halts its thread and steps past itself, or faults where no debugger may halt it. -/
theorem breakRule : Obligations.BreakRule := by
  unfold Obligations.BreakRule
  intro x s hr
  refine ⟨fun h => ⟨_, exec_of_done hr ⟨_, _, exec_brk .., rfl⟩ (if_neg h), ?_⟩,
    fun h => exec_of_fault hr ⟨_, _, exec_brk .., rfl⟩ (if_pos h)⟩
  rw [State.self_retire, State.self_setThread]
  exact ⟨rfl, by simp [Thread.issues], rfl⟩

end Sys2Proof.Machine

/-!
PROOFS. The bytes of numbers and memory, and loads and stores: what `Obligations.LoadStoreResults` is assembled from.
-/

namespace Sys2Proof

/-! ## Bytes of numbers (R4) -/

section
variable {w : Nat}

theorem extractLsb'_eq_ofNat (v : BitVec w) (k : Nat) : v.extractLsb' (8 * k) 8 = BitVec.ofNat 8 (v.toNat / 256 ^ k) := by
  rw [BitVec.extractLsb', Nat.shiftRight_eq_div_pow, Nat.pow_mul]

theorem getElem?_leBytes (v : Nat) {n k : Nat} (h : k < n) : (leBytes v n)[k]? = some (BitVec.ofNat 8 (v / 256 ^ k)) := by
  induction n generalizing v k with
  | zero => exact absurd h (Nat.not_lt_zero k)
  | succ n ih =>
    rw [leBytes]
    cases k with
    | zero => simp
    | succ k => rw [List.getElem?_cons_succ, ih _ (Nat.lt_of_succ_lt_succ h), Nat.div_div_eq_div_mul, Nat.pow_succ']

/-- Byte `k` of a little-endian number is the list's byte `k`. -/
theorem ofNat_leNat_div {bs : List Byte} {k : Nat} {b : Byte} (h : bs[k]? = some b) : BitVec.ofNat 8 (leNat bs / 256 ^ k) = b := by
  induction bs generalizing k with
  | nil => simp at h
  | cons c bs ih =>
    rw [leNat]
    cases k with
    | zero =>
      obtain rfl : c = b := by simpa using h
      exact BitVec.eq_of_toNat_eq (by rw [BitVec.toNat_ofNat, Nat.pow_zero, Nat.div_one]; omega)
    | succ k =>
      rw [List.getElem?_cons_succ] at h
      rw [Nat.pow_succ', ← Nat.div_div_eq_div_mul, show (c.toNat + 256 * leNat bs) / 256 = leNat bs by omega, ih h]

theorem getElem?_leBytes_toNat (v : BitVec w) {n k : Nat} (h : k < n) : (leBytes v.toNat n)[k]? = some (v.extractLsb' (8 * k) 8) := by
  rw [getElem?_leBytes _ h, extractLsb'_eq_ofNat]

theorem leNat_lt (bs : List Byte) : leNat bs < 256 ^ bs.length := by
  induction bs with
  | nil => simp [leNat]
  | cons b bs ih =>
    rw [leNat, List.length_cons, Nat.pow_succ']
    omega

/-- Byte `k` of a register that holds a little-endian number. -/
theorem extractLsb'_leNat {bs : List Byte} {k : Nat} {b : Byte} (hw : 8 * bs.length ≤ w) (h : bs[k]? = some b) :
    (BitVec.ofNat w (leNat bs)).extractLsb' (8 * k) 8 = b := by
  have hlt : leNat bs < 2 ^ w := calc
    leNat bs < 256 ^ bs.length := leNat_lt bs
    _ = 2 ^ (8 * bs.length) := (Nat.pow_mul 2 8 _).symm
    _ ≤ 2 ^ w := Nat.pow_le_pow_right (by decide) hw
  rw [extractLsb'_eq_ofNat, BitVec.toNat_ofNat, Nat.mod_eq_of_lt hlt, ofNat_leNat_div h]

end

/-! ## Bytes of memory -/

section
variable (m : Memory) (a : Nat)

@[simp] theorem Memory.length_readBytes (n : Nat) : (m.readBytes a n).length = n := by
  induction n generalizing a with
  | zero => rfl
  | succ n ih => rw [Memory.readBytes, List.length_cons, ih]

theorem Memory.getElem?_readBytes {n k : Nat} (h : k < n) : (m.readBytes a n)[k]? = some (m.read (a + k)) := by
  induction n generalizing a k with
  | zero => exact absurd h (Nat.not_lt_zero k)
  | succ n ih =>
    rw [Memory.readBytes]
    cases k with
    | zero => rfl
    | succ k => rw [List.getElem?_cons_succ, ih _ (Nat.lt_of_succ_lt_succ h), Nat.add_assoc, Nat.add_comm 1]

theorem Memory.leNat_readBytes_four : leNat (m.readBytes a 4) =
    (m.read a).toNat + 256 * (m.read (a + 1)).toNat + 256 ^ 2 * (m.read (a + 2)).toNat + 256 ^ 3 * (m.read (a + 3)).toNat := by
  have h : leNat (m.readBytes a 4) = (m.read a).toNat + 256 * ((m.read (a + 1)).toNat + 256 * ((m.read (a + 2)).toNat +
      256 * ((m.read (a + 3)).toNat + 256 * 0))) := rfl
  omega

theorem Memory.read_writeBytes {bs : List Byte} {k : Nat} {b : Byte} (h : bs[k]? = some b) : (m.writeBytes a bs).read (a + k) = b := by
  obtain ⟨hk, -⟩ := List.getElem?_eq_some_iff.mp h
  have hr := Memory.getElem?_readBytes (m.writeBytes a bs) a hk
  rw [Memory.readBytes_writeBytes, h] at hr
  exact (Option.some.inj hr).symm

end

end Sys2Proof

namespace Sys2Proof.Machine

/-! ## Loads (R347, R534) -/

section
variable {s : State} {x : Issue} {a d : Greg} {imm : BitVec 12} {n : Nat} (hr : s.runs x)
  (hf : s.accessFault x.thread (s.effAddr x a imm) n false = none) (hp : s.poisoned x.thread (s.effAddr x a imm) n = false)
include hr hf hp

theorem exec_of_load {i : Instr} {word : Nat} {put : State → Nat → State}
    (hi : exec i s = issue x word s fun th => loadEff s x (th.rg a) imm n put) :
    exec i s = .next ((put s (leNat (s.mem.readBytes (devAddr x.thread (s.effAddr x a imm)) n))).retire x.thread) := by
  refine exec_of_done hr ⟨_, _, hi, rfl⟩ ?_
  rw [State.effAddr] at hf hp ⊢
  simp only [loadEff, hf, hp, Bool.false_eq_true, if_false]
  rfl

/-- LDB, LDH, LDW and LDD: the register holds the little-endian number of the bytes. -/
theorem exec_of_loadG {i : Instr} {word N : Nat} (hi : exec i s = issue x word s fun th =>
      loadEff s x (th.rg a) imm n fun s' v => s'.setThread x.thread ((s'.thread x.thread).wg d (BitVec.ofNat 64 v)))
    (hN : leNat (s.mem.readBytes (devAddr x.thread (s.effAddr x a imm)) n) = N) :
    exec i s = .next (s.putsG x d (BitVec.ofNat 64 N)) := by
  rw [← hN]
  exact exec_of_load hr hf hp hi

/-- VLD: the register holds the bytes, as their little-endian number. -/
theorem exec_of_loadV {i : Instr} {word : Nat} {v : Vreg} (hi : exec i s = issue x word s fun th =>
      loadEff s x (th.rg a) imm n fun s' N => s'.setThread x.thread ((s'.thread x.thread).wv v (BitVec.ofNat 512 N))) :
    exec i s = .next (s.putsV x v (BitVec.ofNat 512 (leNat (s.mem.readBytes (devAddr x.thread (s.effAddr x a imm)) n)))) :=
  exec_of_load hr hf hp hi

end

/-! ## Stores (R347) -/

section
variable {s : State} {x : Issue} {a : Greg} {imm : BitVec 12} {n : Nat} {byte : Nat → Byte}

/-- A store that no rule of access refuses writes its bytes and steps past itself. -/
theorem exec_of_store {i : Instr} {word : Nat} {f : Thread → List Byte} (hr : s.runs x)
    (hi : exec i s = issue x word s fun th => storeEff s x (th.rg a) imm (f th)) (hl : (f (s.self x)).length = n)
    (hb : ∀ k, k < n → (f (s.self x))[k]? = some (byte k)) (hf : s.accessFault x.thread (s.effAddr x a imm) n true = none) :
    ∃ t, exec i s = .next t ∧ (∀ k, k < n → t.mem.read (devAddr x.thread (s.effAddr x a imm) + k) = byte k) ∧
      (∀ c, c < devAddr x.thread (s.effAddr x a imm) ∨ devAddr x.thread (s.effAddr x a imm) + n ≤ c →
        t.mem.read c = s.mem.read c) ∧
      t.self x = { s.self x with pc := (s.self x).pc + 4, retired := (s.self x).retired + 1 } ∧
      (∀ k, k ≠ x.thread.val → t.thread k = s.thread k) ∧ t.hostMem = s.hostMem ∧ t.regs = s.regs := by
  have he : storeEff s x ((s.self x).rg a) imm (f (s.self x)) =
      .done (s.storeBytes x.thread (s.effAddr x a imm) (f (s.self x))) := by
    subst hl
    rw [State.effAddr] at hf ⊢
    simp only [storeEff, hf]
  refine ⟨_, exec_of_done hr ⟨_, _, hi, rfl⟩ he, fun k hk => ?_, fun c hc => ?_, ?_, fun k hk => ?_, rfl, rfl⟩
  · rw [State.mem_retire]
    exact Memory.read_writeBytes _ _ (hb k hk)
  · rw [State.mem_retire]
    exact Memory.read_writeBytes_ne _ _ _ (hl ▸ hc)
  · rw [State.self_retire]
    rfl
  · rw [State.retire, State.thread_setThread_ne _ _ hk]
    rfl

end

/-- Settles O10: a load puts the number of its bytes, a store writes the bytes of its register. -/
theorem loadStoreResults : Obligations.LoadStoreResults := by
  unfold Obligations.LoadStoreResults
  refine ⟨fun x d a v imm s hr => ⟨fun ⟨hf, hp⟩ => ?_, fun ⟨hf, hp⟩ => ?_, fun ⟨hf, hp⟩ => ?_,
    fun ⟨hf, hp⟩ => ⟨_, exec_of_loadG hr hf hp (exec_ldd ..) rfl, fun k hk => ?_⟩,
    fun ⟨hf, hp⟩ => ⟨_, exec_of_loadV hr hf hp (exec_vld ..), fun k hk => ?_⟩⟩,
    fun x b a v imm s hr => ⟨?_, ?_, ?_, ?_, ?_⟩⟩
  · exact exec_of_loadG hr hf hp (exec_ldb ..) (by simp [Memory.readBytes, leNat])
  · exact exec_of_loadG hr hf hp (exec_ldh ..) (by simp [Memory.readBytes, leNat])
  · exact exec_of_loadG hr hf hp (exec_ldw ..) (Memory.leNat_readBytes_four ..)
  · exact extractLsb'_leNat (by simp) (Memory.getElem?_readBytes _ _ hk)
  · exact extractLsb'_leNat (by simp) (Memory.getElem?_readBytes _ _ hk)
  · exact exec_of_store hr (exec_stb ..) (length_leBytes ..) fun k hk => getElem?_leBytes_toNat _ hk
  · exact exec_of_store hr (exec_sth ..) (length_leBytes ..) fun k hk => getElem?_leBytes_toNat _ hk
  · exact exec_of_store hr (exec_stw ..) (length_leBytes ..) fun k hk => getElem?_leBytes_toNat _ hk
  · exact exec_of_store hr (exec_std ..) (length_leBytes ..) fun k hk => getElem?_leBytes_toNat _ hk
  · exact exec_of_store hr (exec_vst ..) (length_leBytes ..) fun k hk => getElem?_leBytes_toNat _ hk

end Sys2Proof.Machine

/-!
PROOFS. The values of the scalar instructions: what `Obligations.IntegerResults` and `Obligations.PredicateResults` are assembled from.
-/

namespace Sys2Proof

/-! ## BSWAP -/

/-- Byte `k` of a number of `n` bytes with its bytes reversed. -/
theorem extractLsb'_swapBytes {w k n : Nat} (v : BitVec w) (hw : 8 * n ≤ w) (hk : k < n) :
    (BitVec.ofNat w (Machine.swapBytes v.toNat n)).extractLsb' (8 * k) 8 = v.extractLsb' (8 * (n - 1 - k)) 8 := by
  refine extractLsb'_leNat (by simpa using hw) ?_
  rw [List.getElem?_reverse (by simpa using hk), Machine.length_leBytes, getElem?_leBytes_toNat v (by omega)]

end Sys2Proof

namespace Sys2Proof.Machine

/-! ## CLZ and POPC -/

/-- Below bit `n`, the zero bits above the highest one. -/
theorem clz64_eq {a : Word} {n : Nat} (h : a.toNat < 2 ^ n) : clz64 a n = if a = 0 then n else n - 1 - a.toNat.log2 := by
  induction n with
  | zero =>
    have h0 : a = 0 := BitVec.eq_of_toNat_eq (Nat.lt_one_iff.mp h)
    rw [if_pos h0]
    rfl
  | succ n ih =>
    rw [clz64]
    by_cases hb : 2 ^ n ≤ a.toNat
    · have hbit : a.getLsbD n = true := Nat.testBit_of_two_pow_le_and_two_pow_add_one_gt hb h
      have hne : a ≠ 0 := fun h0 => by simp [h0] at hb
      have hlog : a.toNat.log2 = n := (Nat.log2_eq_iff (by omega)).mpr ⟨hb, h⟩
      rw [if_pos hbit, if_neg hne, hlog]
      omega
    · have hlt : a.toNat < 2 ^ n := Nat.not_le.mp hb
      have hbit : a.getLsbD n = false := Nat.testBit_lt_two_pow hlt
      rw [if_neg (by simp [hbit]), ih hlt]
      split
      · rfl
      · next hne =>
        have hlog : a.toNat.log2 < n := (Nat.log2_lt fun h0 => hne (BitVec.eq_of_toNat_eq h0)).mpr hlt
        omega

theorem popc64_eq (a : Word) (n : Nat) : popc64 a n = ((List.range n).filter fun k => a.getLsbD k).length := by
  induction n with
  | zero => rfl
  | succ n ih =>
    rw [popc64, ih, List.range_succ, List.filter_append, List.length_append, Nat.add_comm]
    cases h : a.getLsbD n <;> simp [b01, h]

/-! ## Products and quotients as numbers -/

theorem mul_eq_ofNat (a b : Word) : a * b = BitVec.ofNat 64 (a.toNat * b.toNat) :=
  BitVec.eq_of_toNat_eq (by rw [BitVec.toNat_mul, BitVec.toNat_ofNat])

/-- Settles O7: each instruction puts what its meaning computes, which is the value stated. -/
theorem integerResults : Obligations.IntegerResults := by
  unfold Obligations.IntegerResults
  refine ⟨fun x d a b s hr => ?_, fun x d a s hr => ?_, fun x d a imm n k h s hr => ?_⟩
  · intro A B
    exact ⟨exec_putsG hr (exec_add ..) rfl, exec_putsG hr (exec_sub ..) rfl, exec_putsG hr (exec_and ..) rfl,
      exec_putsG hr (exec_or ..) rfl, exec_putsG hr (exec_xor ..) rfl, exec_putsG hr (exec_shl ..) rfl,
      exec_putsG hr (exec_shr ..) rfl, exec_putsG hr (exec_sra ..) rfl, exec_putsG hr (exec_mul ..) (mul_eq_ofNat A B),
      exec_putsG hr (exec_mulhu ..) rfl,
      exec_putsG hr (exec_divu ..) (by rw [BitVec.udiv_def]), exec_putsG hr (exec_remu ..) (by rw [BitVec.umod_def]),
      exec_putsG hr (exec_sextb ..) rfl, exec_putsG hr (exec_sexth ..) rfl, exec_putsG hr (exec_sextw ..) rfl⟩
  · intro A
    exact ⟨exec_putsG hr (exec_clz ..) (by rw [clz64_eq A.isLt]), exec_putsG hr (exec_popc ..) (by rw [popc64_eq]),
      _, exec_putsG hr (exec_bswap ..) rfl, fun k hk => extractLsb'_swapBytes A (Nat.le_refl 64) hk⟩
  · exact ⟨exec_putsG hr (exec_addi ..) rfl, exec_putsG hr (exec_andi ..) rfl, exec_putsG hr (exec_ori ..) rfl,
      exec_putsG hr (exec_xori ..) rfl, exec_putsG hr (exec_shli ..) rfl, exec_putsG hr (exec_shri ..) rfl,
      exec_putsG hr (exec_srai ..) rfl, exec_putsG hr (exec_ldi ..) rfl, exec_putsG hr (exec_lsh16 ..) rfl⟩

/-! ## Comparisons and predicates -/

section
variable (a b : Word)

theorem Cond.holds_eq : Cond.eq.holds a b = decide (a = b) := rfl
theorem Cond.holds_ne : Cond.ne.holds a b = decide (a ≠ b) := by simp [Cond.holds, bne, Bool.beq_eq_decide_eq]
theorem Cond.holds_ltu : Cond.ltu.holds a b = decide (a.toNat < b.toNat) := rfl
theorem Cond.holds_lts : Cond.lts.holds a b = decide (a.toInt < b.toInt) := rfl
theorem Cond.holds_geu : Cond.geu.holds a b = decide (a.toNat ≥ b.toNat) := by simp [Cond.holds, BitVec.ult, ← decide_not]
theorem Cond.holds_ges : Cond.ges.holds a b = decide (a.toInt ≥ b.toInt) := by simp [Cond.holds, BitVec.slt, ← decide_not]
theorem Cond.holds_test : Cond.test.holds a b = decide (a &&& b ≠ 0) := by simp [Cond.holds, bne, Bool.beq_eq_decide_eq]

end

/-- PGET's bit `k` is predicate `k`; p0 reads 1 (R327). -/
theorem getLsbD_pget (th : Thread) (k : Nat) :
    ((th.p ||| 1).setWidth 64).getLsbD k = if h : k < 8 then th.rp ⟨k, h⟩ else false := by
  by_cases hk : k < 8
  · have h0 : (⟨k, hk⟩ : Preg) = 0 ↔ k = 0 := by simp [Fin.ext_iff]
    have hone : (1 : BitVec 8).getLsbD k = decide (k = 0) := by simp
    rw [dif_pos hk, Thread.rp, BitVec.getLsbD_setWidth, BitVec.getLsbD_or, hone, Bool.or_comm]
    simp [h0, show k < 64 by omega]
  · rw [dif_neg hk, BitVec.getLsbD_setWidth, BitVec.getLsbD_of_ge _ _ (Nat.not_lt.mp hk), Bool.and_false]

/-- Predicate `k` after PSET. -/
theorem rp_pset (th : Thread) (a : Word) (k : Preg) :
    Thread.rp { th with p := a.setWidth 8 &&& 0xFE } k = (decide (k = 0) || a.getLsbD k.val) := by
  have hmask : (0xFE : BitVec 8).getLsbD k.val = !decide (k = 0) := by revert k; decide
  show (decide (k = 0) || (a.setWidth 8 &&& 0xFE).getLsbD k.val) = _
  rw [BitVec.getLsbD_and, BitVec.getLsbD_setWidth, hmask]
  by_cases hk : k = 0 <;> simp [hk]

/-- Settles O8: each condition is the comparison it names, and a predicate reads as a bit of PGET's word. -/
theorem predicateResults : Obligations.PredicateResults := by
  unfold Obligations.PredicateResults
  intro x d p q r a b imm s hr A B I
  refine ⟨exec_putsP hr (exec_cmpEq ..) (Cond.holds_eq A B), exec_putsP hr (exec_cmpNe ..) (Cond.holds_ne A B),
    exec_putsP hr (exec_cmpLtu ..) (Cond.holds_ltu A B), exec_putsP hr (exec_cmpLts ..) (Cond.holds_lts A B),
    exec_putsP hr (exec_cmpGeu ..) (Cond.holds_geu A B), exec_putsP hr (exec_cmpGes ..) (Cond.holds_ges A B),
    exec_putsP hr (exec_cmpTest ..) (Cond.holds_test A B), exec_putsP hr (exec_cmpiEq ..) (Cond.holds_eq A I),
    exec_putsP hr (exec_cmpiNe ..) (Cond.holds_ne A I), exec_putsP hr (exec_cmpiLts ..) (Cond.holds_lts A I),
    exec_putsP hr (exec_cmpiLtu ..) (Cond.holds_ltu A I), exec_putsP hr (exec_pand ..) rfl, exec_putsP hr (exec_por ..) rfl,
    exec_putsP hr (exec_pxor ..) rfl, exec_putsP hr (exec_pnot ..) rfl,
    ⟨_, exec_putsG hr (exec_pget ..) rfl, getLsbD_pget (s.self x)⟩, _, exec_leaves hr (exec_pset ..) rfl, fun k => ?_⟩
  rw [State.self_leaves]
  exact rp_pset (s.self x) A k

end Sys2Proof.Machine

/-!
PROOFS. Vector elements and carry-less products: what `Obligations.VectorResults` is assembled from.
-/

namespace Sys2Proof.Machine

/-! ## Elements of a vector (R328) -/

section
variable {w : Nat} (f : Nat → BitVec w)

/-- Bit `i` of a vector lies in element `i / w`. -/
theorem Vec.getLsbD_build (hw : 0 < w) {n i : Nat} (hi : i < 512) :
    (Vec.build w f n).getLsbD i = (decide (i < w * n) && (f (i / w)).getLsbD (i % w)) := by
  induction n with
  | zero => simp [Vec.build]
  | succ n ih =>
    rw [Vec.build, BitVec.getLsbD_or, ih, BitVec.getLsbD_shiftLeft, BitVec.getLsbD_setWidth, Nat.mul_succ]
    rcases Nat.lt_or_ge i (w * n) with h | h
    · simp [h, Nat.lt_add_right w h]
    · rcases Nat.lt_or_ge i (w * n + w) with h' | h'
      · have hdiv : i / w = n := by
          rw [Nat.div_eq_iff hw, Nat.mul_comm n w]
          omega
        have hmod : i % w = i - w * n := by
          rw [Nat.mod_def, hdiv]
        simp [hdiv, hmod, h', hi, Nat.not_lt.mpr h]
        omega
      · have hge : w ≤ i - w * n := by omega
        simp [BitVec.getLsbD_of_ge _ _ hge, Nat.not_lt.mpr h, Nat.not_lt.mpr h']

/-- Element `e` of a vector built from `n` elements that fit it. -/
theorem Vec.elem_build {n e : Nat} (hn : w * n ≤ 512) (he : e < n) : Vec.elem w (Vec.build w f n) e = f e := by
  refine BitVec.eq_of_getLsbD_eq fun i hi => ?_
  have hle : w * e + w ≤ w * n := Nat.mul_succ w e ▸ Nat.mul_le_mul_left w he
  rw [Vec.elem, BitVec.getLsbD_extractLsb', Vec.getLsbD_build f (by omega) (by omega), Nat.mul_add_div (by omega),
    Nat.mul_add_mod, Nat.div_eq_of_lt hi, Nat.mod_eq_of_lt hi, Nat.add_zero]
  simp [hi]
  omega

end

/-- Element `e` of a sum or difference by elements (R334). -/
theorem Vec.elem_zip {w e : Nat} (f : BitVec w → BitVec w → BitVec w) (a b : Vec) (he : e < 512 / w) :
    Vec.elem w (Vec.zip w f a b) e = f (Vec.elem w a e) (Vec.elem w b e) :=
  Vec.elem_build _ (Nat.mul_div_le 512 w) he

theorem Vec.lane_lanes (f : Nat → BitVec 128) {k : Nat} (hk : k < 4) : Vec.lane (Vec.lanes f) k = f k :=
  Vec.elem_build f (by decide) hk

/-! ## Carry-less products (R335) -/

/-- Coefficient `c` of a carry-less product counts, modulo 2, the pairs of coefficients whose places add up to it. -/
theorem getLsbD_clmul (a b : BitVec 256) (n : Nat) {c : Nat} (hc : c < 256) : (clmul a b n).getLsbD c =
    decide (((List.range n).filter fun i => decide (i ≤ c) && a.getLsbD (c - i) && b.getLsbD i).length % 2 = 1) := by
  induction n with
  | zero => simp [clmul]
  | succ n ih =>
    have hterm : (if b.getLsbD n then a <<< n else 0).getLsbD c = (decide (n ≤ c) && a.getLsbD (c - n) && b.getLsbD n) := by
      have hle : decide (n ≤ c) = !decide (c < n) := by simp [← decide_not]
      split
      · next hb => rw [BitVec.getLsbD_shiftLeft, decide_eq_true hc, Bool.true_and, hle, hb, Bool.and_true]
      · next hb => simp [hb]
    rw [clmul, BitVec.getLsbD_xor, ih, hterm, List.range_succ, List.filter_append, List.length_append]
    cases h : decide (n ≤ c) && a.getLsbD (c - n) && b.getLsbD n
    · simp [h]
    · simp only [List.filter_cons, h, if_true, List.filter_nil, List.length_singleton, Bool.true_bne]
      rw [← decide_not, decide_eq_decide]
      omega

/-- The order of a lane's coefficients: bit `coefPlace gcm i` of a lane is coefficient `i`. -/
def coefPlace (gcm : Bool) (i : Nat) : Nat := if gcm then i / 8 * 8 + (7 - i % 8) else i

theorem coefPlace_lt (gcm : Bool) {i : Nat} (hi : i < 128) : coefPlace gcm i < 128 := by
  rw [coefPlace]
  split <;> omega

theorem coefPlace_coefPlace (gcm : Bool) (i : Nat) : coefPlace gcm (coefPlace gcm i) = i := by
  cases gcm
  · rfl
  · simp only [coefPlace, if_true]
    omega

theorem getLsbD_ite_two_pow {n : Nat} (hn : n < 128) (b : Bool) (i : Nat) :
    (if b then BitVec.ofNat 128 (2 ^ n) else 0).getLsbD i = (decide (i = n) && b) := by
  cases b
  · simp
  · rw [if_pos rfl, BitVec.getLsbD_ofNat, Nat.testBit_two_pow, Bool.and_true, ← Bool.decide_and, decide_eq_decide]
    omega

/-- Coefficient `i` of a lane in GCM order, once its bytes' bits are reversed. -/
theorem getLsbD_revByteBits (v : BitVec 128) {n i : Nat} (hn : n ≤ 128) :
    (revByteBits v n).getLsbD i = (decide (i < n) && v.getLsbD (coefPlace true i)) := by
  induction n with
  | zero => simp [revByteBits]
  | succ n ih =>
    have hplace : n / 8 * 8 + (7 - n % 8) = coefPlace true n := rfl
    rw [revByteBits, BitVec.getLsbD_or, ih (by omega), hplace, getLsbD_ite_two_pow hn]
    by_cases hi : i = n
    · simp [hi]
    · have hlt : i < n + 1 ↔ i < n := by omega
      simp only [hi, hlt, decide_false, Bool.false_and, Bool.or_false]

theorem getLsbD_lane2poly (gcm : Bool) (v : BitVec 128) {i : Nat} (hi : i < 128) :
    (lane2poly gcm v).getLsbD i = v.getLsbD (coefPlace gcm i) := by
  cases gcm
  · rfl
  · rw [lane2poly, if_pos rfl, getLsbD_revByteBits v (Nat.le_refl 128), decide_eq_true hi, Bool.true_and]

/-- Below `n + 1`, the places counted from the top are the places. -/
theorem countP_range_reflect (f : Nat → Bool) (n : Nat) :
    (List.range (n + 1)).countP f = (List.range (n + 1)).countP fun i => f (n - i) := by
  have hrev : (List.range (n + 1)).reverse = (List.range (n + 1)).map (n - ·) := by
    rw [List.range_eq_range', List.reverse_range', ← List.range_eq_range']
    exact List.map_congr_left fun i _ => by omega
  rw [← List.countP_reverse, hrev, List.countP_map]
  rfl

/-- The places below two bounds are counted up to either of them. -/
theorem filter_range_lt (f : Nat → Bool) (m n : Nat) :
    ((List.range n).filter fun i => decide (i < m) && f i) = (List.range (min n m)).filter f := by
  induction n with
  | zero => rw [Nat.zero_min]; rfl
  | succ n ih =>
    rw [List.range_succ, List.filter_append, ih]
    rcases Nat.lt_or_ge n m with h | h
    · rw [Nat.min_eq_left (Nat.le_of_lt h), Nat.min_eq_left h, List.range_succ, List.filter_append]
      simp only [List.filter_cons, List.filter_nil, h, decide_true, Bool.true_and]
    · rw [Nat.min_eq_right h, Nat.min_eq_right (Nat.le_succ_of_le h)]
      simp only [List.filter_cons, Nat.not_lt.mpr h, decide_false, Bool.false_and, Bool.false_eq_true, if_false, List.filter_nil,
        List.append_nil]

/-- Pairs of places that add up to `c` are counted by either place. -/
theorem count_pairs_swap {p : Nat → Bool} (q : Nat → Bool) (c : Nat) (hp : ∀ j, p j = true → j < 128) :
    ((List.range 128).filter fun i => decide (i ≤ c) && p (c - i) && q i).length =
      ((List.range (c + 1)).filter fun i => decide (i < 128) && decide (c - i < 128) && p i && q (c - i)).length := by
  have hbound (i : Nat) : (decide (i ≤ c) && p (c - i) && q i) = (decide (i < c + 1) && (p (c - i) && q i)) := by
    rw [Bool.and_assoc, decide_eq_decide.mpr Nat.lt_succ_iff]
  simp only [hbound]
  rw [filter_range_lt, Nat.min_comm, ← filter_range_lt, ← List.countP_eq_length_filter, countP_range_reflect, List.countP_eq_length_filter]
  refine congrArg List.length (List.filter_congr fun i hi => ?_)
  have hic : c - (c - i) = i := Nat.sub_sub_self (Nat.lt_succ_iff.mp (List.mem_range.mp hi))
  rw [hic]
  cases h : p i
  · simp only [Bool.false_and, Bool.and_false]
  · simp only [hp i h, decide_true, Bool.true_and, Bool.and_true]

section
variable (gcm : Bool) (a b : BitVec 128)

/-- The parity that R335 gives coefficient `c` of a product of lanes. -/
def productCoef (c : Nat) : Bool := decide (((List.range (c + 1)).filter fun i => decide (i < 128) && decide (c - i < 128) &&
  a.getLsbD (coefPlace gcm i) && b.getLsbD (coefPlace gcm (c - i))).length % 2 = 1)

theorem getLsbD_clmul_lanes {c : Nat} (hc : c < 256) :
    (clmul ((lane2poly gcm a).setWidth 256) ((lane2poly gcm b).setWidth 256) 128).getLsbD c = productCoef gcm a b c := by
  have hp (j : Nat) (h : ((lane2poly gcm a).setWidth 256).getLsbD j = true) : j < 128 := by
    rw [BitVec.getLsbD_setWidth, Bool.and_eq_true] at h
    obtain ⟨-, h⟩ := h
    exact BitVec.lt_of_getLsbD h
  have hterm (i : Nat) : (decide (i < 128) && decide (c - i < 128) && ((lane2poly gcm a).setWidth 256).getLsbD i &&
      ((lane2poly gcm b).setWidth 256).getLsbD (c - i)) =
        (decide (i < 128) && decide (c - i < 128) && a.getLsbD (coefPlace gcm i) && b.getLsbD (coefPlace gcm (c - i))) := by
    by_cases hi : i < 128 ∧ c - i < 128
    · obtain ⟨hi, hci⟩ := hi
      rw [BitVec.getLsbD_setWidth, BitVec.getLsbD_setWidth, getLsbD_lane2poly gcm a hi, getLsbD_lane2poly gcm b hci]
      simp [show i < 256 by omega, show c - i < 256 by omega]
    · rw [← Bool.decide_and, decide_eq_false hi]
      simp
  rw [getLsbD_clmul _ _ 128 hc, count_pairs_swap _ c hp, productCoef]
  simp only [hterm]

theorem laneMul_lo {c : Nat} (hc : c < 128) : (laneMul gcm a b).1.getLsbD (coefPlace gcm c) = productCoef gcm a b c := by
  rw [laneMul, getLsbD_lane2poly gcm _ (coefPlace_lt gcm hc), coefPlace_coefPlace, BitVec.getLsbD_setWidth,
    decide_eq_true hc, Bool.true_and, getLsbD_clmul_lanes gcm a b (by omega)]

theorem laneMul_hi {c : Nat} (hc : c < 128) : (laneMul gcm a b).2.getLsbD (coefPlace gcm c) = productCoef gcm a b (128 + c) := by
  rw [laneMul, getLsbD_lane2poly gcm _ (coefPlace_lt gcm hc), coefPlace_coefPlace, BitVec.getLsbD_setWidth,
    decide_eq_true hc, Bool.true_and, BitVec.getLsbD_ushiftRight, getLsbD_clmul_lanes gcm a b (by omega)]

end

theorem pairLo_ne_pairHi (d : Vpair) : pairLo d ≠ pairHi d := fun h => by
  have hv := congrArg Fin.val h
  simp only [pairLo, pairHi] at hv
  omega

theorem State.rv_leaves_pair (s : State) (x : Issue) (th : Thread) (d : Vpair) (u v : Vec) :
    ((s.leaves x ((th.wv (pairLo d) u).wv (pairHi d) v)).self x).rv (pairLo d) = u ∧
      ((s.leaves x ((th.wv (pairLo d) u).wv (pairHi d) v)).self x).rv (pairHi d) = v := by
  rw [State.self_leaves]
  refine ⟨(Thread.rv_wv ..).trans ?_, (Thread.rv_wv ..).trans (if_pos rfl)⟩
  rw [if_neg (pairLo_ne_pairHi d), Thread.rv_wv, if_pos rfl]

section
variable {s : State} {x : Issue} {i : Instr} (hr : s.runs x)
include hr

/-- A sum or difference by elements. -/
theorem exec_zip {word w : Nat} {d a b : Vreg} {f : BitVec w → BitVec w → BitVec w}
    (hi : exec i s = issue x word s fun th => putV s x d (Vec.zip w f (th.rv a) (th.rv b))) :
    ∃ v, exec i s = .next (s.putsV x d v) ∧ ∀ e, e < 512 / w →
      v.extractLsb' (w * e) w = f (((s.self x).rv a).extractLsb' (w * e) w) (((s.self x).rv b).extractLsb' (w * e) w) :=
  ⟨_, exec_putsV hr hi rfl, fun _ he => Vec.elem_zip f _ _ he⟩

/-- A carry-less product leaves its low and high halves in the registers of its pair. -/
theorem exec_clmul {word : Nat} {d : Vpair} {a b : Vreg} {gcm : Bool} (hi : exec i s = issue x word s fun th => own s x
      (((s.thread x.thread).wv (pairLo d) (Vec.lanes fun k => (laneMul gcm (Vec.lane (th.rv a) k) (Vec.lane (th.rv b) k)).1)).wv
        (pairHi d) (Vec.lanes fun k => (laneMul gcm (Vec.lane (th.rv a) k) (Vec.lane (th.rv b) k)).2))) :
    ∃ t, exec i s = .next t ∧ ∀ k c, k < 4 → c < 128 →
      (Vec.lane ((t.self x).rv (pairLo d)) k).getLsbD (coefPlace gcm c) =
        productCoef gcm (Vec.lane ((s.self x).rv a) k) (Vec.lane ((s.self x).rv b) k) c ∧
      (Vec.lane ((t.self x).rv (pairHi d)) k).getLsbD (coefPlace gcm c) =
        productCoef gcm (Vec.lane ((s.self x).rv a) k) (Vec.lane ((s.self x).rv b) k) (128 + c) := by
  refine ⟨_, exec_leaves hr hi rfl, fun k c hk hc => ?_⟩
  obtain ⟨hlo, hhi⟩ := State.rv_leaves_pair s x (s.self x) d
    (Vec.lanes fun k => (laneMul gcm (Vec.lane ((s.self x).rv a) k) (Vec.lane ((s.self x).rv b) k)).1)
    (Vec.lanes fun k => (laneMul gcm (Vec.lane ((s.self x).rv a) k) (Vec.lane ((s.self x).rv b) k)).2)
  constructor
  · refine (congrArg (fun v => (Vec.lane v k).getLsbD (coefPlace gcm c)) hlo).trans ?_
    rw [Vec.lane_lanes _ hk, laneMul_lo gcm _ _ hc]
  · refine (congrArg (fun v => (Vec.lane v k).getLsbD (coefPlace gcm c)) hhi).trans ?_
    rw [Vec.lane_lanes _ hk, laneMul_hi gcm _ _ hc]

end

/-- Settles O18: a vector is built from its elements, and a coefficient of a product counts the pairs of places that add up to it. -/
theorem vectorResults : Obligations.VectorResults := by
  unfold Obligations.VectorResults
  refine ⟨fun x d a b s hr => ?_, fun x d a b s hr => ?_⟩
  · exact ⟨exec_putsV hr (exec_vxor ..) rfl, exec_putsV hr (exec_vand ..) rfl, exec_putsV hr (exec_vor ..) rfl,
      exec_putsV hr (exec_vandn ..) rfl, exec_putsV hr (exec_vxor3 ..) rfl, exec_zip hr (exec_vadd_8 ..), exec_zip hr (exec_vadd_16 ..),
      exec_zip hr (exec_vadd_32 ..), exec_zip hr (exec_vadd_64 ..), exec_zip hr (exec_vsub_8 ..), exec_zip hr (exec_vsub_16 ..),
      exec_zip hr (exec_vsub_32 ..), exec_zip hr (exec_vsub_64 ..)⟩
  · exact ⟨exec_clmul (gcm := false) hr (exec_vclmul ..), exec_clmul (gcm := true) hr (exec_vclmulG ..)⟩

end Sys2Proof.Machine

/-!
PROOFS. The vault and the bodies of the commands on keys: what `Obligations.KeyCommands` is assembled from.
-/

namespace Sys2Proof.Machine

/-! ## The device's own writes to drives leave the strongroom (R369, R492) -/

/-- What each step of a fold keeps, the fold keeps. -/
theorem foldl_keeps {α β γ : Type} {f : β → α → β} {p : β → γ} (h : ∀ b a, p (f b a) = p b) (l : List α) (b : β) : p (l.foldl f b) = p b := by
  induction l generalizing b with
  | nil => rfl
  | cons a l ih => rw [List.foldl_cons, ih, h]

section
variable (s : State)

@[simp] theorem State.sr_issueDrive (d : Nat) (use : CmdUse) (op lba blocks : Nat) (data : List Byte) :
    (s.issueDrive d use op lba blocks data).sr = s.sr := by
  unfold State.issueDrive
  split <;> rfl

@[simp] theorem State.sr_transfer (d : Nat) (use : Nat → CmdUse) (write : Bool) (lba len : Nat) (data : List Byte) :
    (s.transfer d use write lba len data).1.sr = s.sr := by
  unfold State.transfer
  split
  · rfl
  · exact foldl_keeps (fun _ _ => State.sr_issueDrive ..) _ s

@[simp] theorem State.sr_journalMeta (lba : Nat) (data : List Byte) : (s.journalMeta lba data).sr = s.sr :=
  foldl_keeps (fun _ _ => State.sr_transfer ..) _ s

@[simp] theorem State.sr_journalOpaque (lba blocks : Nat) : (s.journalOpaque lba blocks).sr = s.sr := State.sr_journalMeta ..

/-- A persist writes the records that the vault holds (R369). -/
@[simp] theorem State.vault_persistVault : s.persistVault.sr.vault = s.sr.vault := by
  simp only [State.persistVault, State.sr_journalOpaque]
  rw [foldl_keeps (p := State.sr) fun _ _ => State.sr_journalMeta ..]

@[simp] theorem State.domain_persistVault (slot : Nat) : s.persistVault.domain slot = s.domain slot := by
  simp only [State.domain, State.vault_persistVault]

@[simp] theorem State.domain_setDomain (slot : Nat) (v : VaultRec) : (s.setDomain slot v).domain slot = v := Tbl.get_set_self _ _ _ _

/-- A rotation makes the current generation the previous one and counts anew (R375). -/
theorem State.domain_rotate (slot : Nat) : (s.rotate slot).domain slot = { s.domain slot with
    cur := (s.domain slot).cur + 1, prev := (s.domain slot).cur, keyPrev := (s.domain slot).keyCur, keyCur := (s.secretBytes 32).1
    resInv := 0, resBlk := 0, nextInv := 0, nextBlk := 0 } := by
  rw [State.rotate, State.domain_persistVault, State.domain_setDomain]

end

/-! ## What refuses a command on the vault (R364, R370, R384) -/

theorem State.vaultRefuses_of_dip {s : State} (draws : Bool) (h : s.sr.dipFrozen = true) : s.vaultRefuses draws = some .supplyLow := if_pos h

theorem Out.refuse_supplyLow (s : State) : Out.refuse s .supplyLow = .done .supplyLow [] (s.bump R.SR_SUPPLY_LOW) := rfl

theorem Out.refuse_other {s : State} {st : Status} (h : st ≠ .supplyLow) : Out.refuse s st = .done st [] s := by
  rw [Out.refuse, if_neg h, Out.of]

/-! ## A room's place for one more domain (R374) -/

/-- A room can hold one more domain, under the index that a creation names. -/
def State.domainFits (s : State) (room : Nat) (bs : List Byte) : Prop :=
  room ≠ 0xFFFF → (s.room room).state ≠ .vacant ∧ (s.room room).state ≠ .resetting ∧
    s.slotOf room (fld bs 0 4) = none ∧ (s.roomDomains room).length < (s.room room).limits.keyDomains

theorem State.domainFits.not_barred {s : State} {room : Nat} {bs : List Byte} (h : s.domainFits room bs) :
    ¬ (room ≠ 0xFFFF ∧ (s.room room).state = .vacant) ∧ ¬ (room ≠ 0xFFFF ∧ (s.room room).state = .resetting) ∧
      ¬ (room ≠ 0xFFFF ∧ (s.slotOf room (fld bs 0 4)).isSome = true) ∧
      ¬ (room ≠ 0xFFFF ∧ (s.roomDomains room).length ≥ (s.room room).limits.keyDomains) := by
  by_cases hroom : room = 0xFFFF
  · simp [hroom]
  · obtain ⟨hvacant, hresetting, hindex, hcount⟩ := h hroom
    simp [hvacant, hresetting, hindex, hcount]

/-! ## The forms of KEY_IMPORT_WRAPPED (R378) -/

/-- The form of an import to a handle: it carries no identifier. -/
theorem importForm_of_handle {bs : List Byte} (ht : fld bs 0 1 = 1 ∨ fld bs 0 1 = 2) (hz : zeros bs 8 16 = true) :
    ¬ (fld bs 0 1 = 0 ∨ 3 < fld bs 0 1 ∨ (fld bs 0 1 ≠ 3 ∧ (!zeros bs 8 16) = true)) := by
  simp only [hz, Bool.not_true, Bool.false_eq_true, and_false, or_false]
  omega

/-- The state with one more migration key. -/
def State.addMigration (s : State) (room : Nat) (bs key : List Byte) : State :=
  { s with sr := { s.sr with migration := s.sr.migration ++ [⟨(bs.drop 8).take 16, room, fit key 32, 0, 0⟩] } }

/-- The state in which the key of an import is also a key of the tenant whose ring a packet came by. -/
def State.noteTenantKey (s : State) (path : Path) (id : List Byte) : State :=
  match path with
  | .roomRing r => s.setRoom r { s.room r with tenantKeys := (s.room r).tenantKeys ++ [leNat id] }
  | _ => s

theorem State.noteTenantKey_of_owner (s : State) {path : Path} (id : List Byte) (h : Path.ringRoom path = none) :
    s.noteTenantKey path id = s := by
  cases path with
  | roomRing r => cases h
  | frontDoor | mctp | mailbox => rfl

/-! ## The bodies of KEY_DOMAIN_CREATE (R374) -/

section
variable {x : Ctx} {s : State} {bs : List Byte} (hp : x.pkt.params = bs)
include hp

section
variable {slot : Nat} (hd : domainParamsOk bs = true) (hf : s.domainFits (keyRoom x.pkt) bs) (hs : s.freeSlot = some slot)
include hd hf hs

theorem keyDomainCreate_body_draws (h0 : fld bs 7 1 = 0) (hr : s.vaultRefuses true = none) :
    cmdKeyDomainCreate.body x s = .done .ok (leBytes slot 4)
      (((s.secretBytes 32).2.setDomain slot (VaultRec.new (keyRoom x.pkt) bs (s.secretBytes 32).1)).persistVault) := by
  obtain ⟨hvacant, hresetting, hindex, hcount⟩ := hf.not_barred
  simp only [cmdKeyDomainCreate, hp, hd, h0, decide_true, hr, hs, Bool.not_true, Bool.false_eq_true, if_false, if_neg hvacant,
    if_neg hresetting, if_neg hindex, if_neg hcount, Nat.zero_ne_one]

theorem keyDomainCreate_body_imports {h : ImportKey} (h1 : fld bs 7 1 = 1) (hr : s.vaultRefuses false = none)
    (hi : s.importFor (fld bs 0x0C 4) (keyRoom x.pkt) 1 = some h) :
    cmdKeyDomainCreate.body x s = .done .ok (leBytes slot 4)
      (((s.useImport h.handle).setDomain slot (VaultRec.new (keyRoom x.pkt) bs h.key)).persistVault) := by
  obtain ⟨hvacant, hresetting, hindex, hcount⟩ := hf.not_barred
  simp only [cmdKeyDomainCreate, hp, hd, h1, Nat.one_ne_zero, decide_false, hr, hs, hi, Bool.not_true, Bool.false_eq_true, if_false,
    if_true, if_neg hvacant, if_neg hresetting, if_neg hindex, if_neg hcount]

end

/-! ## KEY_DOMAIN_DESTROY (R376, R467, R470) -/

/-- The state in which a domain has been erased; with DEALLOCATE its extents are to go. -/
def State.erasedFor (s : State) (bs : List Byte) (slot : Nat) : State :=
  if bit (fld bs 4 1) 0 then { s.eraseDomain slot with store := { (s.eraseDomain slot).store with
    sinking := (s.eraseDomain slot).store.sinking ++ [slot] } } else s.eraseDomain slot

/-- A Tombstone of a domain goes to the rope. -/
def State.layTombstone (v : State) (slot room : Nat) : State :=
  let x := v.addOp { StoreOp.fresh .tomb (.tomb slot) room 0 0 0 0 slot with
    records := [v.tombRecord slot false], ext := some { JEntry.blank.ext with domain := slot } }
  x.2.openEntry x.1 4

section
variable {slot : Nat} (hr : s.vaultRefuses false = none) (hn : s.namedSlot x.pkt = some slot)
include hr hn

omit hp in
theorem keyDomainDestroy_body_barred (ht : Path.ringRoom x.pkt.path ≠ none) (hb : bit (s.domain slot).policy 1 = false) :
    cmdKeyDomainDestroy.body x s = .done .notPermitted [] s := by
  have hbarred : Path.ringRoom x.pkt.path ≠ none ∧ (!bit (s.domain slot).policy 1) = true := ⟨ht, by rw [hb, Bool.not_false]⟩
  simp only [cmdKeyDomainDestroy, hr, hn, if_pos hbarred, Out.of]

section
variable (ha : Path.ringRoom x.pkt.path = none ∨ bit (s.domain slot).policy 1 = true) (hm : s.isMetadata slot = false)
  (hq : (s.domain slot).state = 1 → s.roomResets (s.domain slot).room = false)
include ha hm hq

/-- What a permitted destruction answers, by whether the device holds a rope that is still its own. -/
theorem keyDomainDestroy_body : cmdKeyDomainDestroy.body x s =
    let u := s.erasedFor bs slot
    if (!u.store.rope.held) = true ∨ u.store.rope.handed = true then .done .okWarn [] u
    else .held ((u.hold x false slot []).layTombstone slot (s.domain slot).room) := by
  have hbarred : ¬ (Path.ringRoom x.pkt.path ≠ none ∧ (!bit (s.domain slot).policy 1) = true) := by
    rcases ha with h | h <;> simp [h]
  have hresets : ¬ ((s.domain slot).state = 1 ∧ s.roomResets (s.domain slot).room = true) := fun h => by simp [hq h.1] at h
  simp only [cmdKeyDomainDestroy, hp, hr, hn, hm, if_neg hbarred, if_neg hresets, Bool.false_eq_true, if_false, State.erasedFor,
    State.layTombstone, Out.of]

theorem keyDomainDestroy_body_unsealed
    (h : (s.erasedFor bs slot).store.rope.held = false ∨ (s.erasedFor bs slot).store.rope.handed = true) :
    cmdKeyDomainDestroy.body x s = .done .okWarn [] (s.erasedFor bs slot) := by
  rw [keyDomainDestroy_body hp hr hn ha hm hq, if_pos (h.imp_left (Bool.not_eq_true' _).mpr)]

theorem keyDomainDestroy_body_sealed (hh : (s.erasedFor bs slot).store.rope.held = true)
    (hg : (s.erasedFor bs slot).store.rope.handed = false) : cmdKeyDomainDestroy.body x s =
      .held (((s.erasedFor bs slot).hold x false slot []).layTombstone slot (s.domain slot).room) := by
  rw [keyDomainDestroy_body hp hr hn ha hm hq, if_neg (by simp [hh, hg])]

end
end

/-! ## KEY_IMPORT_WRAPPED (R378) -/

section
variable (hd : s.sr.dipFrozen = false)
include hd

section
variable (ht : fld bs 0 1 = 1 ∨ fld bs 0 1 = 2) (hz : zeros bs 8 16 = true)
include ht hz

theorem keyImportWrapped_body_mismatch (hk : s.unwrapImport (fld bs 0 1) ((bs.drop 0x18).take 97) (bs.drop 0x80) = none) :
    cmdKeyImportWrapped.body x s = .done .tagMismatch [] s := by
  have h3 : fld bs 0 1 ≠ 3 := by omega
  simp only [cmdKeyImportWrapped, hp, if_neg (importForm_of_handle ht hz), if_neg (ne_true_of_eq_false hd), h3, hk, false_and, if_false,
    Out.of]

theorem keyImportWrapped_body_handle {key : List Byte}
    (hk : s.unwrapImport (fld bs 0 1) ((bs.drop 0x18).take 97) (bs.drop 0x80) = some key) :
    cmdKeyImportWrapped.body x s = .done .ok (leBytes s.sr.nextImport 4) { s with sr := { s.sr with
      imports := s.sr.imports ++ [⟨s.sr.nextImport, keyRoom x.pkt, fld bs 0 1, s.clock + 60000000000, key⟩]
      nextImport := (s.sr.nextImport + 1) % 2 ^ 32 } } := by
  have h3 : fld bs 0 1 ≠ 3 := by omega
  simp only [cmdKeyImportWrapped, hp, if_neg (importForm_of_handle ht hz), if_neg (ne_true_of_eq_false hd), h3, hk, false_and, if_false]

end

section
variable {key : List Byte} (ht : fld bs 0 1 = 3) (hi : ∀ m, m ∈ s.sr.migration → m.id ≠ (bs.drop 8).take 16)
  (hl : s.sr.migration.length < 1024) (hj : s.journalUp = true)
  (hk : s.unwrapImport (fld bs 0 1) ((bs.drop 0x18).take 97) (bs.drop 0x80) = some key)
include ht hi hl hj hk

/-- An import of a migration key notes it; a tenant's it also notes in the tenant's room. -/
theorem keyImportWrapped_body_migration : cmdKeyImportWrapped.body x s =
    .done .ok [] ((s.addMigration (keyRoom x.pkt) bs key).noteTenantKey x.pkt.path ((bs.drop 8).take 16)).persistVault := by
  have hform : ¬ (fld bs 0 1 = 0 ∨ 3 < fld bs 0 1 ∨ (fld bs 0 1 ≠ 3 ∧ (!zeros bs 8 16) = true)) := by simp [ht]
  have hknown : ¬ (fld bs 0 1 = 3 ∧ s.sr.migration.any (fun m => decide (m.id = (bs.drop 8).take 16)) = true) := by
    rintro ⟨-, h⟩
    obtain ⟨m, hm, hid⟩ := List.any_eq_true.mp h
    exact hi m hm (of_decide_eq_true hid)
  have hfull : ¬ (fld bs 0 1 = 3 ∧ s.sr.migration.length ≥ 1024) := fun h => absurd hl (Nat.not_lt.mpr h.2)
  have hdown : ¬ (fld bs 0 1 = 3 ∧ (!s.journalUp) = true) := by simp [hj]
  simp only [cmdKeyImportWrapped, hp, if_neg hform, if_neg (ne_true_of_eq_false hd), if_neg hknown, if_neg hfull, if_neg hdown, hk,
    if_pos ht, Out.of]
  rfl

theorem keyImportWrapped_body_owner (ho : Path.ringRoom x.pkt.path = none) :
    cmdKeyImportWrapped.body x s = .done .ok [] (s.addMigration (keyRoom x.pkt) bs key).persistVault := by
  rw [keyImportWrapped_body_migration hp hd ht hi hl hj hk, State.noteTenantKey_of_owner _ _ ho]

theorem keyImportWrapped_body_tenant {r : Nat} (ho : x.pkt.path = .roomRing r) :
    ∃ u : State, cmdKeyImportWrapped.body x s = .done .ok [] u.persistVault ∧
      (u.room r).tenantKeys = (s.room r).tenantKeys ++ [leNat ((bs.drop 8).take 16)] := by
  refine ⟨_, keyImportWrapped_body_migration hp hd ht hi hl hj hk, ?_⟩
  rw [ho]
  exact congrArg Room.tenantKeys (State.room_setRoom ..)

end
end

/-! ## KEY_SA_ADD and KEY_SA_DELETE (R252, R379) -/

section
variable (hok : saRecordOk bs = true) (hv : s.sr.vaultLocked = false)
  (hf : keyRoom x.pkt ≠ 0xFFFF → (s.room (keyRoom x.pkt)).state ≠ .vacant) (hq : s.roomResets (keyRoom x.pkt) = false)
  (hr : s.saRefuses (keyRoom x.pkt) bs = none)
include hok hv hf hq hr

theorem keySaAdd_body_given (h0 : fld bs 1 1 = 0) :
    let a := s.addSession (keyRoom x.pkt) bs ((bs.drop 0x50).take (fld bs 2 1))
    cmdKeySaAdd.body x s = .done .ok (leBytes a.1 4) a.2 := by
  have hvacant : ¬ (keyRoom x.pkt ≠ 0xFFFF ∧ (s.room (keyRoom x.pkt)).state = .vacant) := fun h => hf h.1 h.2
  simp only [cmdKeySaAdd, hp, hok, hv, hq, hr, h0, if_neg hvacant, Bool.not_true, Bool.false_eq_true, if_false, if_true]

theorem keySaAdd_body_imported {h : ImportKey} (h1 : fld bs 1 1 ≠ 0) (hi : s.importFor (fld bs 0x50 4) (keyRoom x.pkt) 2 = some h)
    (hl : h.key.length = fld bs 2 1) :
    let a := (s.useImport h.handle).addSession (keyRoom x.pkt) bs h.key
    cmdKeySaAdd.body x s = .done .ok (leBytes a.1 4) a.2 := by
  have hvacant : ¬ (keyRoom x.pkt ≠ 0xFFFF ∧ (s.room (keyRoom x.pkt)).state = .vacant) := fun h => hf h.1 h.2
  simp only [cmdKeySaAdd, hp, hok, hv, hq, hr, if_neg h1, hi, hl, if_neg hvacant, Bool.not_true, Bool.false_eq_true, if_false, ne_eq,
    not_true]

end

theorem keySaDelete_body_absent (h : s.session (fld bs 0 4) = none) : cmdKeySaDelete.body x s = .done .keyAbsent [] s := by
  simp only [cmdKeySaDelete, hp, h, Out.of]

section
variable {k : SessKey} (h : s.session (fld bs 0 4) = some k)
include h

theorem keySaDelete_body_foreign {r : Nat} (ho : x.pkt.path = .roomRing r) (hne : k.room ≠ r) :
    cmdKeySaDelete.body x s = .done .notPermitted [] s := by
  simp [cmdKeySaDelete, hp, h, ho, Path.ringRoom, hne, Out.of]

theorem keySaDelete_body_deletes (ho : ∀ r, x.pkt.path = .roomRing r → k.room = r) (hq : s.roomResets k.room = false) :
    cmdKeySaDelete.body x s = .done .ok [] { s with sr := { s.sr with sessions := Tbl.erase (fld bs 0 4) s.sr.sessions } } := by
  have hmay : (Path.ringRoom x.pkt.path).any (fun r => decide (k.room ≠ r)) = false := by
    cases hpath : x.pkt.path with
    | roomRing r => simp [Path.ringRoom, ho r hpath]
    | frontDoor | mctp | mailbox => rfl
  simp only [cmdKeySaDelete, hp, h, hmay, hq, Bool.false_eq_true, if_false, Out.of]

end
end

/-! ## KEY_DOMAIN_ROTATE and KEY_DOMAIN_QUERY (R375, R377) -/

section
variable {x : Ctx} {s : State} {slot : Nat}

theorem keyDomainRotate_body_refused {st : Status} (h : s.vaultRefuses true = some st) : cmdKeyDomainRotate.body x s = Out.refuse s st := by
  simp only [cmdKeyDomainRotate, h]

theorem keyDomainQuery_body_absent (h : s.namedSlot x.pkt = none) : cmdKeyDomainQuery.body x s = .done .keyAbsent [] s := by
  simp only [cmdKeyDomainQuery, h, Out.of]

section
variable (hn : s.namedSlot x.pkt = some slot)
include hn

theorem keyDomainQuery_body : cmdKeyDomainQuery.body x s = .done .ok ((s.domain slot).bytes slot s.sr.vaultEpoch s.sr.savedGen ++
    leBytes (s.domain slot).nextInv 8 ++ leBytes (s.domain slot).nextBlk 8) s := by
  simp only [cmdKeyDomainQuery, hn]

section
variable (hr : s.vaultRefuses true = none) (ha : (s.domain slot).state = 1) (hq : s.roomResets (s.domain slot).room = false)
include hr ha hq

theorem keyDomainRotate_body_busy (h : (s.domain slot).prev ≠ 0) : cmdKeyDomainRotate.body x s = .done .busy [] s := by
  simp only [cmdKeyDomainRotate, hr, hn, ha, hq, if_pos h, ne_eq, not_true, Bool.false_eq_true, if_false, Out.of]

theorem keyDomainRotate_body_rotates (h : (s.domain slot).prev = 0) (hc : (s.domain slot).cur < 65535) :
    cmdKeyDomainRotate.body x s = .done .ok [] (s.rotate slot) := by
  simp only [cmdKeyDomainRotate, hr, hn, ha, hq, h, if_neg (Nat.not_le.mpr hc), ne_eq, not_true, Bool.false_eq_true, if_false, Out.of]

end
end
end

/-! ## Key commands -/

/-- Settles O29: each clause is the lemma about the command's body. -/
theorem keyCommands : Obligations.KeyCommands := by
  unfold Obligations.KeyCommands
  intro p s bs q room k32 fits
  have hp (c : Command) : (c.context p).pkt.params = bs := Packet.scoped_params p
  refine ⟨fun slot hs hd hf hslot => ⟨fun h0 hr => exec_done rfl hs (keyDomainCreate_body_draws (hp _) hd hf hslot h0 hr),
      fun h h1 hr hi => exec_done rfl hs (keyDomainCreate_body_imports (hp _) hd hf hslot h1 hr hi)⟩,
    fun slot hs hr hn ha hq => ⟨fun h => exec_done rfl hs (keyDomainRotate_body_busy hn hr ha hq h),
      fun h hc => ⟨exec_done rfl hs (keyDomainRotate_body_rotates hn hr ha hq h hc), ?_⟩⟩,
    fun st hs hr hne => exec_done rfl hs ((keyDomainRotate_body_refused hr).trans (Out.refuse_other hne)),
    fun hs hd => exec_done rfl hs ((keyDomainRotate_body_refused (State.vaultRefuses_of_dip true hd)).trans (Out.refuse_supplyLow s)),
    fun slot hs hr hn hm hq => ⟨fun ht hb => exec_done rfl hs (keyDomainDestroy_body_barred hr hn ht hb),
      fun ha => ⟨fun h => exec_done rfl hs (keyDomainDestroy_body_unsealed (hp _) hr hn ha hm hq h),
        fun hh hg => exec_held rfl hs (keyDomainDestroy_body_sealed (hp _) hr hn ha hm hq hh hg)⟩⟩,
    fun slot hs hn => exec_done rfl hs (keyDomainQuery_body hn), fun hs hn => exec_done rfl hs (keyDomainQuery_body_absent hn),
    fun key hs hd hk => ⟨fun ht hz => exec_done rfl hs (keyImportWrapped_body_handle (hp _) hd ht hz hk),
      fun ht hi hl hj ho => exec_done rfl hs (keyImportWrapped_body_owner (hp _) hd ht hi hl hj hk ho),
      fun r ho ht hi hl hj => ?_⟩,
    fun hs ht hz hd hk => exec_done rfl hs (keyImportWrapped_body_mismatch (hp _) hd ht hz hk),
    fun hs hok hv hf hq hr => ⟨fun h0 => exec_done rfl hs (keySaAdd_body_given (hp _) hok hv hf hq hr h0),
      fun h h1 hi hl => exec_done rfl hs (keySaAdd_body_imported (hp _) hok hv hf hq hr h1 hi hl)⟩,
    fun k hs h => ⟨fun ho hq => exec_done rfl hs (keySaDelete_body_deletes (hp _) h ho hq),
      fun r ho hne => exec_done rfl hs (keySaDelete_body_foreign (hp _) h ho hne)⟩,
    fun hs h => exec_done rfl hs (keySaDelete_body_absent (hp _) h)⟩
  · simp only [State.domain_rotate, and_self]
  · obtain ⟨u, hb, hkeys⟩ := keyImportWrapped_body_tenant (hp cmdKeyImportWrapped) hd ht hi hl hj hk ho
    exact ⟨u, exec_done rfl hs hb, hkeys⟩

end Sys2Proof.Machine

/-!
PROOFS. What the strongroom does on its own and the bodies of the seal commands: what `Obligations.StrongroomEvents` is assembled from.
-/

namespace Sys2Proof.Machine

/-! ## VAULT_PERSIST (R369) -/

theorem vaultPersist_persists {s : State} (hv : s.sr.vaultDirty = true) (hj : s.journalUp = true) (ho : s.sr.vaultOpen = true)
    (hd : s.sr.dipFrozen = false) : exec .vaultPersist s = .next s.persistVault := by
  simp only [exec_vaultPersist, execVaultPersist, hv, hj, ho, hd, Bool.not_false, Bool.and_self, if_true]

theorem vaultPersist_waits {s : State}
    (h : s.sr.vaultDirty = false ∨ s.journalUp = false ∨ s.sr.vaultOpen = false ∨ s.sr.dipFrozen = true) :
    exec .vaultPersist s = .next s := by
  have hno : (s.sr.vaultDirty && s.journalUp && s.sr.vaultOpen && !s.sr.dipFrozen) = false := by
    rcases h with h | h | h | h <;> simp [h]
  rw [exec_vaultPersist, execVaultPersist, hno, if_neg Bool.false_ne_true]

/-! ## Seal key pairs built ahead (R380, R381, R383) -/

theorem sealPair_of_none {s : State} (h : s.sr.sealCur = none) : exec .sealAutoNew s = .next s ∧ exec .bottomTreeBuild s = .next s := by
  simp only [exec_sealAutoNew, execSealAutoNew, exec_bottomTreeBuild, execBottomTreeBuild, h, and_self]

/-- The pair in force runs out, and a next one can be generated. -/
def State.nextPairDue (s : State) (p : SealPair) : Prop :=
  sealLeaves - p.leaf < 2 ^ 30 ∧ s.sr.sealNext = none ∧ s.sr.sealNewBusy = false ∧ s.sr.dipFrozen = false ∧ s.sr.entropyFail = false

section
variable {s : State} {p : SealPair} (h : s.sr.sealCur = some p)
include h

theorem sealAutoNew_begins (hd : s.nextPairDue p) : exec .sealAutoNew s = .next { s with sr := { s.sr with sealNewBusy := true } } := by
  obtain ⟨hleaves, hnext, hbusy, hdip, hentropy⟩ := hd
  simp only [exec_sealAutoNew, execSealAutoNew, h, hleaves, hnext, hbusy, hdip, hentropy, Bool.not_false, and_self, if_true]

theorem sealAutoNew_waits (hd : ¬ s.nextPairDue p) : exec .sealAutoNew s = .next s := by
  simp only [State.nextPairDue] at hd
  simp only [exec_sealAutoNew, execSealAutoNew, h, Bool.not_eq_true', if_neg hd]

theorem bottomTreeBuild_builds (hd : p.built * 2 ^ 20 ≤ p.leaf + 2 ^ 19 ∧ p.built < 2 ^ 20) :
    exec .bottomTreeBuild s = .next { s with sr := { s.sr with sealCur := some { p with built := p.built + 1 } } } := by
  simp only [exec_bottomTreeBuild, execBottomTreeBuild, h, if_pos hd]

theorem bottomTreeBuild_waits (hd : ¬ (p.built * 2 ^ 20 ≤ p.leaf + 2 ^ 19 ∧ p.built < 2 ^ 20)) : exec .bottomTreeBuild s = .next s := by
  simp only [exec_bottomTreeBuild, execBottomTreeBuild, h, if_neg hd]

end

theorem sealKeyPairBuilt_idle {s : State} (h : s.sr.sealNewBusy = false) : exec .sealKeyPairBuilt s = .next s :=
  if_neg (ne_true_of_eq_false h)

theorem sealKeyPairBuilt_builds {s : State} (h : s.sr.sealNewBusy = true) :
    let k := s.secretBytes 96
    exec .sealKeyPairBuilt s = .next (State.endRunning { k.2 with sr := { k.2.sr with
      sealNext := some ⟨k.1, 0, 0, 1⟩, sealNewBusy := false } } 0x0707 0 .ok []) :=
  if_pos h

/-! ## Entropy, import handles and the unlock nonce (R364, R378, R386) -/

theorem entropyHealthFail_counts (s : State) : ∃ t, exec .entropyHealthFail s = .next t ∧ t.sr.entropyRun = s.sr.entropyRun + 1 ∧
    t.sr.entropyFail = (s.sr.entropyFail || decide (3 ≤ s.sr.entropyRun + 1)) ∧
    t.reg R.SR_ENTROPY_FAIL = (s.bump R.SR_ENTROPY_FAIL).reg R.SR_ENTROPY_FAIL :=
  ⟨_, rfl, rfl, rfl, (State.reg_bump ..).trans (State.reg_bump ..).symm⟩

theorem importHandleExpiry_expires (s : State) : ∃ t, exec .importHandleExpiry s = .next t ∧
    (∀ h, h ∈ t.sr.imports ↔ h ∈ s.sr.imports ∧ s.clock < h.ends) ∧ t.mem = s.mem :=
  ⟨_, rfl, fun _ => List.mem_filter.trans (and_congr_right' decide_eq_true_iff), rfl⟩

theorem nonceExpiry_of_none {s : State} (h : s.sr.nonce = none) : exec .nonceExpiry s = .next s := by
  simp only [exec_nonceExpiry, execNonceExpiry, h]

section
variable {s : State} {v : List Byte × Nat} (h : s.sr.nonce = some v)
include h

theorem nonceExpiry_ends (ht : v.2 ≤ s.clock) : exec .nonceExpiry s = .next { s with sr := { s.sr with nonce := none } } := by
  simp only [exec_nonceExpiry, execNonceExpiry, h, if_pos ht]

theorem nonceExpiry_early (ht : s.clock < v.2) : exec .nonceExpiry s = .next s := by
  simp only [exec_nonceExpiry, execNonceExpiry, h, if_neg (Nat.not_le.mpr ht)]

end

/-! ## KEY_SEAL_NEW (R380) -/

section
variable {x : Ctx} {s : State}

theorem keySealNew_body (hd : s.sr.dipFrozen = false) (he : s.sr.entropyFail = false) (hn : s.sr.sealNext = none)
    (hb : s.sr.sealNewBusy = false) (hr : s.runningOn 0x0804 0 = none) :
    cmdKeySealNew.body x s = .held (State.hold { s with sr := { s.sr with sealNewBusy := true } } x true 0 []) := by
  simp only [cmdKeySealNew, hd, he, hn, hb, hr, Option.isSome_none, Bool.false_eq_true, or_self, if_false]

/-! ## SEAL_EXPORT (R437) -/

theorem sealExport_body_without_rope (h : s.store.rope.held = false) : cmdSealExport.body x s = .done .invalidParam [] s := by
  simp only [cmdSealExport, h, Bool.not_false, or_true, if_true, Out.of]

section
variable {bs : List Byte} {items : List (List Byte)} (hp : x.pkt.params = bs)
  (hi : s.exportItems (fld bs 0 1) (fld bs 8 8) (fld bs 0x10 4) (fld bs 0x18 6) = some items)
include hp hi

theorem sealExport_body (h1 : 1 ≤ fld bs 0 1) (h4 : fld bs 0 1 ≤ 4) (hh : s.store.rope.held = true) :
    cmdSealExport.body x s = .held (s.holdWork x 0 []) := by
  simp only [cmdSealExport, hp, hi, hh, Nat.not_lt.mpr h1, Nat.not_lt.mpr h4, Bool.not_true, Bool.false_eq_true, or_self, if_false,
    Option.isNone_some]

/-- The items that fit are answered; whether some were left out, the reply says. -/
theorem State.exportSeal_of_items : s.exportSeal x =
    let e := exportStream items (Packet.replySpace x.pkt)
    if e.2 then .part .ok e.1 s else .done .ok e.1 s := by
  simp only [State.exportSeal, hp, hi]

end

theorem sealExport_completes {p : Packet} {items : List (List Byte)}
    (hi : s.exportItems (fld p.params 0 1) (fld p.params 8 8) (fld p.params 0x10 4) (fld p.params 0x18 6) = some items) :
    let e := exportStream items (Packet.replySpace p.scoped)
    cmdSealExport.completes (cmdSealExport.context p) s s .ok e.1 e.2 :=
  ⟨_, rfl, State.exportSeal_of_items (Packet.scoped_params p) hi⟩

/-! ## SEAL_HANDOVER (R442) -/

theorem sealHandover_body_handed (h : s.store.rope.handed = true) : cmdSealHandover.body x s = .done .notPermitted [] s := by
  simp only [cmdSealHandover, h, or_true, if_true, Out.of]

theorem sealHandover_body {bs : List Byte} (hp : x.pkt.params = bs) (hh : s.store.rope.held = true) (hg : s.store.rope.handed = false)
    (hd : s.sr.dipFrozen = false) (hs : s.sr.sealStopped = false) :
    cmdSealHandover.body x s = .held ((s.hold x true 0 []).handOver (fld bs 0 8) (slice bs 8 68) (slice bs 68 128)) := by
  simp only [cmdSealHandover, hp, hh, hg, hd, hs, Bool.not_true, Bool.false_eq_true, or_self, if_false]

/-! ## SEAL_ACCEPT (R443) -/

theorem sealAccept_body (hr : s.runningOn 0x0804 0 = none) {pair : SealPair} (ha : s.acceptPair = some pair) :
    cmdSealAccept.body x s = .held (s.holdWork x 0 []) := by
  simp only [cmdSealAccept, hr, ha, Option.isSome_none, Option.isNone_some, Bool.false_eq_true, if_false]

theorem sealAccept_body_without_pair (hr : s.runningOn 0x0804 0 = none) (hc : s.sr.sealCur = none) (hn : s.sr.sealNext = none) :
    cmdSealAccept.body x s = .done .sealInvalid [] s := by
  simp only [cmdSealAccept, State.acceptPair, hr, hc, hn, Option.isSome_none, Option.isNone_none, Bool.false_eq_true, if_false, if_true,
    Out.of]

/-- A device without a pair in force accepts by its next one. -/
theorem State.acceptPair_eq {pair : SealPair} (h : s.sr.sealCur = some pair ∨ (s.sr.sealCur = none ∧ s.sr.sealNext = some pair)) :
    s.acceptPair = some pair := by
  rcases h with hc | ⟨hc, hn⟩
  · simp only [State.acceptPair, hc]
  · simp only [State.acceptPair, hc, hn]

/-- The state in which the rope that a handover knot ends goes on under an unused pair. -/
def State.takeRope (s : State) (pair : SealPair) (knot : List Byte) : State :=
  let body := knot.take 256
  let u : State := if s.sr.sealCur.isNone then { s with sr := { s.sr with sealCur := some pair, sealNext := none } } else s
  u.setRope { Rope.none' with
    held := true, id := slice body 0x18 0x28, first := bfld body 8 8 + 1, number := bfld body 8 8 + 1, kind := 4
    lastClose := ⟨bfld body 0x38 8, bfld body 0x40 4, bfld body 0x44 4⟩, prev := knot, base := knot }

section
variable {bs : List Byte} {pair : SealPair} (ha : s.acceptPair = some pair) (hh : s.store.rope.held = false) (hl : pair.leaf = 0)
  (hk : handoverKnotOk (bs.take 60) (slice bs 60 120) (bs.drop 120) = true) (hn : nextKeysOf ((bs.drop 120).take 256) = pair.digest)
  (hr : Config.holdsRecord (bs.drop 120) (handoverRecord s.sr.fuses.serial (pair.pk .sha256 ++ pair.pk .shake256)) = true)
include ha hh hl hk hn hr

theorem State.acceptSeal_accepts : s.acceptSeal bs = .done .ok [] (s.takeRope pair (bs.drop 120)) := by
  simp only [State.acceptSeal, ha, hh, hl, hk, hn, hr, decide_true, Bool.and_self, Bool.not_true, Bool.false_eq_true, ne_eq, not_true,
    or_self, if_false, Out.of, State.takeRope]

end

theorem sealAccept_completes {p : Packet} {u : State} {st : Status} {data : List Byte} (h : s.acceptSeal p.params = .done st data u) :
    cmdSealAccept.completes (cmdSealAccept.context p) s u st data := by
  refine ⟨_, rfl, ?_⟩
  simp only [Command.context, Packet.scoped_params, h, Bool.false_eq_true, if_false]

end

/-! ## The strongroom on its own, and seal commands -/

/-- Settles O30: each clause is the lemma about the event, about the command's body, or about what follows a long command's start. -/
theorem strongroomEvents : Obligations.StrongroomEvents := by
  unfold Obligations.StrongroomEvents
  refine ⟨fun s => ⟨vaultPersist_persists, vaultPersist_waits, sealPair_of_none, fun p h => ⟨⟨sealAutoNew_begins h, sealAutoNew_waits h⟩,
      bottomTreeBuild_builds h, bottomTreeBuild_waits h⟩, sealKeyPairBuilt_idle, sealKeyPairBuilt_builds,
      ⟨_, rfl, rfl, rfl, rfl, rfl⟩, entropyHealthFail_counts s, importHandleExpiry_expires s, nonceExpiry_of_none,
      fun v h => ⟨nonceExpiry_ends h, nonceExpiry_early h⟩⟩, fun p s => ?_⟩
  intro bs
  have hp (c : Command) : (c.context p).pkt.params = bs := Packet.scoped_params p
  exact ⟨fun hs hd he hn hb hr => exec_held rfl hs (keySealNew_body hd he hn hb hr),
    fun items hi => ⟨fun hs h1 h4 hh => exec_held rfl hs (sealExport_body (hp _) hi h1 h4 hh), sealExport_completes hi⟩,
    fun hs hh => exec_done rfl hs (sealExport_body_without_rope hh),
    fun hs hh hg hd hst => exec_held rfl hs (sealHandover_body (hp _) hh hg hd hst),
    fun hs hg => exec_done rfl hs (sealHandover_body_handed hg), fun pair hs hr ha => exec_held rfl hs (sealAccept_body hr ha),
    fun pair ha hh hl hk hn hr => sealAccept_completes (State.acceptSeal_accepts (State.acceptPair_eq ha) hh hl hk hn hr),
    fun hs hr hc hn => exec_done rfl hs (sealAccept_body_without_pair hr hc hn)⟩

end Sys2Proof.Machine

/-!
PROOFS. Requests of tiles, bursts, schedules, leases and faults: what `Obligations.TileEvents` is assembled from.
-/

namespace Sys2Proof.Machine

/-! ## Bursts and responses (R400, R401) -/

theorem tileBurst_ready {s : State} {tile : Fin 40} (h : s.tileReady tile.val = true) :
    exec (.tileBurst tile) s = .next (s.grantBurst tile.val 4) := if_pos h

theorem tileBurst_not_ready {s : State} {tile : Fin 40} (h : s.tileReady tile.val = false) : exec (.tileBurst tile) s = .next s :=
  if_neg (ne_true_of_eq_false h)

/-! ## Key schedules (R368, R402) -/

section
variable {s : State} {tile : Fin 40}

theorem keyScheduleLoad_idle (h : (s.tile tile.val).waiter .schedule = none) : exec (.keyScheduleLoad tile) s = .next s := by
  simp only [exec_keyScheduleLoad, execKeyScheduleLoad, h]

section
variable {r : TileReq} (h : (s.tile tile.val).waiter .schedule = some r)
include h

theorem keyScheduleLoad_absent (hk : s.keyBytes r.keyRef = none) : exec (.keyScheduleLoad tile) s = .next (s.endRequest tile.val r 3) := by
  simp only [exec_keyScheduleLoad, execKeyScheduleLoad, h, hk]

theorem keyScheduleLoad_loads {key : List Byte} (hk : s.keyBytes r.keyRef = some key) :
    let u := if refKeyKind r.keyRef = 0 then s.cacheKey r.keyRef else s
    exec (.keyScheduleLoad tile) s = .next (((u.setTile tile.val ((s.tile tile.val).useKey ⟨r.keyRef, key, none⟩)).setRequest tile.val r
      { r with wait := .ready }).bump R.TILE_KEY_MISS) := by
  simp only [exec_keyScheduleLoad, execKeyScheduleLoad, h, hk]

end

/-! ## Leases (R371, R404, R405) -/

theorem strongroomLease_idle (h : (s.tile tile.val).waiter .lease = none) : exec (.strongroomLease tile) s = .next s := by
  simp only [exec_strongroomLease, execStrongroomLease, h]

/-- The lease that a request asks the strongroom for. -/
def State.leaseFor (s : State) (r : TileReq) : LeaseResult × State := s.lease (refKeySlot r.keyRef) (refKeyGen r.keyRef) (!r.decrypt)

section
variable {r : TileReq} {u : State} (h : (s.tile tile.val).waiter .lease = some r)
include h

theorem strongroomLease_absent (hl : s.leaseFor r = (.absent, u)) : exec (.strongroomLease tile) s = .next (u.endRequest tile.val r 3) := by
  rw [State.leaseFor] at hl
  simp only [exec_strongroomLease, execStrongroomLease, h, hl]

theorem strongroomLease_exhausted (hl : s.leaseFor r = (.exhausted, u)) :
    exec (.strongroomLease tile) s = .next (u.endRequest tile.val r 4) := by
  rw [State.leaseFor] at hl
  simp only [exec_strongroomLease, execStrongroomLease, h, hl]

theorem strongroomLease_waits (hl : s.leaseFor r = (.waits, u)) : exec (.strongroomLease tile) s = .next u := by
  rw [State.leaseFor] at hl
  simp only [exec_strongroomLease, execStrongroomLease, h, hl]

section
variable {first inv blocks : Nat} (hl : s.leaseFor r = (.granted first inv blocks, u))
include hl

/-- A lease whose key the tile dropped meanwhile lets the request ask for its schedule again. -/
theorem strongroomLease_granted_dropped (hk : (s.tile tile.val).key r.keyRef = none) :
    exec (.strongroomLease tile) s = .next (u.setRequest tile.val r { r with wait := .ready }) := by
  rw [State.leaseFor] at hl
  simp only [exec_strongroomLease, execStrongroomLease, h, hl, hk]

theorem strongroomLease_granted {k : TileKey} (hk : (s.tile tile.val).key r.keyRef = some k) : exec (.strongroomLease tile) s =
    .next ((u.setTile tile.val ((s.tile tile.val).useKey { k with lease := some ⟨!r.decrypt, blocks, inv, first⟩ })).setRequest tile.val r
      { r with wait := .ready }) := by
  rw [State.leaseFor] at hl
  simp only [exec_strongroomLease, execStrongroomLease, h, hl, hk]

end
end

/-! ## Internal errors and restarts (R409) -/

theorem State.tileReady_of_restarting {n : Nat} (h : (s.tile n).restarting = true) : s.tileReady n = false := by
  rw [State.tileReady, h, Bool.not_true, Bool.and_false]

theorem tileInternalError_again (h : (s.tile tile.val).restarting = true) : exec (.tileInternalError tile) s = .next s := if_pos h

theorem tileInternalError_clears (h : (s.tile tile.val).restarting = false) : ∃ t, exec (.tileInternalError tile) s = .next t ∧
    (t.tile tile.val).restarting = true ∧ (t.tile tile.val).keys = [] ∧ (t.tile tile.val).held = [] ∧ t.tileReady tile.val = false := by
  let v := (s.tile tile.val).held.foldl (fun s r => s.endRequest tile.val r 6) s
  let t := (v.setTile tile.val { v.tile tile.val with keys := [], held := [], restarting := true }).bump R.TILE_FAULT
  have ht : t.tile tile.val = { v.tile tile.val with keys := [], held := [], restarting := true } := State.tile_setTile ..
  exact ⟨t, if_neg (ne_true_of_eq_false h), congrArg Tile.restarting ht, congrArg Tile.keys ht, congrArg Tile.held ht,
    State.tileReady_of_restarting (congrArg Tile.restarting ht)⟩

theorem tileRestart_restarts : ∃ t, exec (.tileRestart tile) s = .next t ∧
    t = s.setTile tile.val { s.tile tile.val with restarting := false } ∧ (t.tile tile.val).restarting = false :=
  ⟨_, rfl, rfl, congrArg Tile.restarting (State.tile_setTile ..)⟩

end

/-! ## Taking requests (R392 to R396, R399, R403) -/

/-- Each row of a request takes it as a request of its operation. -/
theorem exec_tileRow {tile : Fin 40} {op : Nat} {i : Instr} (h : (op, i) ∈ [(0x01, Instr.aesFwd tile), (0x02, .aesInv tile),
    (0x03, .keyPrefetch tile), (0x11, .digestSha256 tile), (0x12, .digestSha512 tile), (0x13, .keccakAbsorb tile),
    (0x14, .keccakSqueeze tile), (0x15, .digestDual tile)]) (s : State) : exec i s = .next (s.takeRequest tile.val op) := by
  simp only [List.mem_cons, List.not_mem_nil, or_false, Prod.mk.injEq] at h
  rcases h with ⟨rfl, rfl⟩ | ⟨rfl, rfl⟩ | ⟨rfl, rfl⟩ | ⟨rfl, rfl⟩ | ⟨rfl, rfl⟩ | ⟨rfl, rfl⟩ | ⟨rfl, rfl⟩ | ⟨rfl, rfl⟩ <;> rfl

/-- A tile holds all the requests it may, in all or of a thread's cluster (R399). -/
def Tile.full (x : Tile) (thread : Nat) : Prop :=
  64 ≤ x.held.length ∨ 32 ≤ (x.held.filter fun q => decide (clusterOf q.thread = clusterOf thread)).length

/-- The state in which a tile's line has given up its oldest message. -/
def State.tileLineTo (s : State) (tile : Nat) (rest : List (List Vec)) : State :=
  s.setLine (2056 + tile) { s.line (2056 + tile) with queue := rest }

/-- A request that is not taken is answered at once with a result. -/
def State.refuseRequest (s : State) (tile : Nat) (r : TileReq) (result : Nat) : State :=
  (s.countResult result).respond tile r.thread (r.response tile result)

section
variable {s : State} {tile op : Nat}

theorem State.takeRequest_of_empty (h : (s.line (2056 + tile)).queue = []) : s.takeRequest tile op = s := by
  simp only [State.takeRequest, h]

section
variable {beats : List Vec} {rest : List (List Vec)} {r : TileReq} (h : (s.line (2056 + tile)).queue = beats :: rest)
  (hreq : r = TileReq.ofBeats beats)
include h hreq

/-- A tile that is not ready or full, or whose oldest message is a request of another operation, takes nothing. -/
theorem State.takeRequest_waits
    (hw : s.tileReady tile = false ∨ (r.op ≠ op ∧ (r.cipher = true ∨ r.digest = true)) ∨ (s.tile tile).full r.thread) :
    s.takeRequest tile op = s := by
  have hends : ((!s.tileReady tile) = true ∨ (r.op ≠ op ∧ (r.cipher = true ∨ r.digest = true))) ∨ (s.tile tile).full r.thread := by
    rw [Bool.not_eq_true', or_assoc]
    exact hw
  subst hreq
  simp only [State.takeRequest, h]
  rcases hends with hno | hfull
  · exact if_pos hno
  · exact ite_eq_left_iff.mpr fun _ => if_pos hfull

section
variable (hready : s.tileReady tile = true) (hop : r.op = op ∨ (r.cipher = false ∧ r.digest = false)) (hfull : ¬ (s.tile tile).full r.thread)
include hready hop hfull

/-- What becomes of a request that a tile considers: the check of its form, the check of its memory and key, and else its place. -/
theorem State.takeRequest_considers : s.takeRequest tile op =
    if (!r.ok tile beats.length) = true then (s.tileLineTo tile rest).refuseRequest tile r 1
    else if (!s.rangesOk r) = true ∨ (r.cipher = true ∧ (!s.keyPermitted r) = true) then (s.tileLineTo tile rest).refuseRequest tile r 2
    else (s.tileLineTo tile rest).setTile tile { s.tile tile with held := (s.tile tile).held ++ [r] } := by
  have hmine : ¬ ((!s.tileReady tile) = true ∨ (r.op ≠ op ∧ (r.cipher = true ∨ r.digest = true))) := by
    rw [hready]
    rcases hop with h | ⟨hc, hd⟩
    · simp [h]
    · simp [hc, hd]
  subst hreq
  simp only [State.takeRequest, h]
  exact (if_neg hmine).trans (if_neg hfull)

theorem State.takeRequest_malformed (hok : r.ok tile beats.length = false) :
    s.takeRequest tile op = (s.tileLineTo tile rest).refuseRequest tile r 1 := by
  rw [State.takeRequest_considers h hreq hready hop hfull, hok, Bool.not_false, if_pos rfl]

theorem State.takeRequest_forbidden (hok : r.ok tile beats.length = true)
    (hbad : s.rangesOk r = false ∨ (r.cipher = true ∧ s.keyPermitted r = false)) :
    s.takeRequest tile op = (s.tileLineTo tile rest).refuseRequest tile r 2 := by
  rw [State.takeRequest_considers h hreq hready hop hfull, hok, Bool.not_true, if_neg Bool.false_ne_true]
  exact if_pos (by simpa only [Bool.not_eq_true'] using hbad)

theorem State.takeRequest_takes (hok : r.ok tile beats.length = true) (hranges : s.rangesOk r = true)
    (hkey : r.cipher = true → s.keyPermitted r = true) : s.takeRequest tile op =
      (s.tileLineTo tile rest).setTile tile { s.tile tile with held := (s.tile tile).held ++ [r] } := by
  have hgood : ¬ ((!s.rangesOk r) = true ∨ (r.cipher = true ∧ (!s.keyPermitted r) = true)) := by
    rintro (hr | ⟨hc, hk⟩)
    · simp [hranges] at hr
    · simp [hkey hc] at hk
  rw [State.takeRequest_considers h hreq hready hop hfull, hok, Bool.not_true, if_neg Bool.false_ne_true, if_neg hgood]

end
end
end

/-! ## Blocks of a cipher request (R393) -/

/-- A block whose input and masks lie in good memory, answered in the response: the AES of its input under both masks. -/
theorem State.cipherBlock_of_memory {s : State} {r : TileReq} (key : List Byte) {x pre post : List Byte} {k : Nat} (hin : r.inMode = 1)
    (hpre : bit r.ctrl 3 = true) (hpost : bit r.ctrl 2 = true) (hout : bit r.ctrl 1 = true)
    (hgood : ∀ off ∈ [0x40, 0x48, 0x50], s.badRange r.thread (fld r.msg off 8 + 16 * k) 16 = false)
    (hx : x = Memory.readBytes s.mem (fld r.msg 0x40 8 + 16 * k) 16) (hp : pre = Memory.readBytes s.mem (fld r.msg 0x48 8 + 16 * k) 16)
    (hq : post = Memory.readBytes s.mem (fld r.msg 0x50 8 + 16 * k) 16) :
    s.cipherBlock r key k = .ok ({ r with
      done := r.done + 1
      outs := r.outs ++ xorBytes (if r.op = 2 then aesDecrypt key (xorBytes x pre) else aesEncrypt key (xorBytes x pre)) post }, s) := by
  have h40 := hgood 0x40 (by simp)
  have h48 := hgood 0x48 (by simp)
  have h50 := hgood 0x50 (by simp)
  simp only [State.cipherBlock, hin, hpre, hpost, hout, h40, h48, h50, ← hx, ← hp, ← hq, Bool.not_true, Bool.false_eq_true, if_false, if_true]

/-! ## Tiles -/

/-- Settles O47: each clause is the lemma about the event or about the request taken. -/
theorem tileEvents : Obligations.TileEvents := by
  unfold Obligations.TileEvents
  refine ⟨fun s tile => ⟨tileBurst_ready, tileBurst_not_ready, rfl, keyScheduleLoad_idle,
      fun r h => ⟨keyScheduleLoad_absent h, fun key => keyScheduleLoad_loads h⟩, strongroomLease_idle,
      fun r h => ⟨fun u => strongroomLease_absent h, fun u => strongroomLease_exhausted h, fun u => strongroomLease_waits h,
        fun first inv blocks u hl => ⟨strongroomLease_granted_dropped h hl, fun k => strongroomLease_granted h hl⟩⟩,
      tileInternalError_again, tileInternalError_clears, tileRestart_restarts⟩,
    fun s tile => ⟨fun op i hi => ⟨fun h => ?empty, fun beats rest h => ⟨fun hw => ?waits,
        fun hready hop hfull => ⟨fun hok => ?malformed, fun hok hbad => ?forbidden, fun hok hranges hkey => ?takes⟩⟩⟩,
      fun r key x pre post k hin hpre hpost hout hgood hx hp hq => ⟨fun hop => ?forward, fun hop => ?inverse⟩⟩⟩
  case empty => rw [exec_tileRow hi, State.takeRequest_of_empty h]
  case waits => rw [exec_tileRow hi, State.takeRequest_waits h rfl hw]
  case malformed =>
    rw [exec_tileRow hi, State.takeRequest_malformed h rfl hready hop hfull hok]
    rfl
  case forbidden =>
    rw [exec_tileRow hi, State.takeRequest_forbidden h rfl hready hop hfull hok hbad]
    rfl
  case takes =>
    rw [exec_tileRow hi, State.takeRequest_takes h rfl hready hop hfull hok hranges hkey]
    rfl
  case forward =>
    rw [State.cipherBlock_of_memory key hin hpre hpost hout hgood hx hp hq, if_neg (by omega)]
  case inverse =>
    rw [State.cipherBlock_of_memory key hin hpre hpost hout hgood hx hp hq, if_pos hop]

end Sys2Proof.Machine

/-!
PROOFS. What a step does, and that no command stops the machine: what `Obligations.StepIsExec` and `Obligations.NoCommandStops` are assembled
from.
-/

namespace Sys2Proof.Machine

/-- A meaning answers a next state. -/
def Answers (r : Res) : Prop := ∃ t, r = .next t

theorem Answers.next (t : State) : Answers (.next t) := ⟨t, rfl⟩

theorem Answers.ite {c : Prop} [Decidable c] {a b : Res} (ha : Answers a) (hb : Answers b) : Answers (if c then a else b) := by
  split
  · exact ha
  · exact hb

/-- A thread that issues ends its instruction in a state, and so does one that does not issue (R331, R350). -/
theorem answers_issue (x : Issue) (w : Nat) (s : State) (body : Thread → Eff) : Answers (issue x w s body) := by
  unfold issue
  refine .ite (.next _) (.ite (.next _) (.ite (.next _) ?_))
  cases body (s.thread x.thread) with
  | done u => exact .next _
  | jump u pc => exact .next _
  | wait u => exact .next _
  | fault u f target => exact .next _

/-- A debug write is refused or takes effect (R317). -/
theorem answers_debugWrite {r : Res} {s : State} {f : State → State} (h : r = debugWrite s f) : Answers r := by
  rw [h, debugWrite]
  exact .ite (.next _) (.next _)

/-- The back stair is idle, drops the packet of a retired room, takes a fragment, or gives its answer (R256, R261). -/
theorem answers_backStairPacket (s : State) : Answers (exec .backStairPacket s) := by
  cases hn : nextStair s.pipe.stair with
  | none => exact ⟨_, backStairPacket_idle (.inl hn)⟩
  | some e =>
    cases hruns : s.stairRuns with
    | false => exact ⟨_, backStairPacket_idle (.inr hruns)⟩
    | true =>
      cases hr : (s.offStair e).pktRetired e.pkt with
      | true => exact ⟨_, backStairPacket_retired hn hruns hr⟩
      | false =>
        by_cases hf : e.reason = 6
        · exact ⟨_, backStairPacket_reassembles hn hruns hr hf⟩
        · exact ⟨_, backStairPacket_answers hn hruns hr hf rfl⟩

/-- The meaning of an event or a register access is one state, or a tree of conditions and matches with a state at each leaf. The walk over
the tree unfolds nothing but the meaning itself: the arithmetic of a condition must stay closed. -/
theorem answers_event {i : Instr} (hd : drekoFields i = none) (hc : commandRow i = none) (s : State) : Answers (exec i s) := by
  cases i <;> simp only [drekoFields, commandRow, reduceCtorEq] at hd hc
  case backStairPacket => exact answers_backStairPacket s
  case halt => exact answers_debugWrite (exec_halt s)
  case resume => exact answers_debugWrite (exec_resume s)
  case step => exact answers_debugWrite (exec_step s)
  case reseat => exact answers_debugWrite (exec_reseat s)
  all_goals try exact .next _
  all_goals
    dsimp only [exec]
    simp only [execTimeIncrWrite, execTimeNowLatch, execSyncEdge, execPpsPulse, execPauseFrameReceive, execPauseQuantaExpiry,
      execPfcXoffRepeat, execRxFrame, execNoCommonAbility, execLinkDown, execPacketParse, execFlowTableLookupDone, execAgeClockAdvance,
      execGateEntryChange, execTmEnqueue, execRxHoldLimitExpiry, execSwitchPass, execLinkUp, execSealAutoNew, execSealKeyPairBuilt,
      execBottomTreeBuild, execNonceExpiry, execEpochClose, execKnotSign, execTileBurst, execKeyScheduleLoad, execStrongroomLease,
      execTileInternalError, execJournalBlockSubmit, execEpochLogPersist, execTxDescriptor, execRxFrameDelivery, execModerationFire,
      execDriveCompletion, execDriveRemoval, execDriveCmdTimeout, execControllerReset, execControllerReadyTimeout, execDriveHotAdd,
      execDriveAsyncEvent, execDriveInboundRequest, execJournalResync, execRebuildExtent, execSweepCycleStart, execSweepExtent,
      execTranscryptExtent, execBatchCursorPersist, execBackgroundDeallocate, execKnotPublish, execStorageStartup, execReplayInPlace,
      execNvmtConnectionOpen, execNvmtTlsHandshake, execNvmtPduError, execTcpRetransmitTimeout, execTcpProgressTimeout,
      execKeepAliveTimerExpiry, execQuarantineEnd, execMsixTableWrite, execAtsTranslationCompletion, execInvalidationCompletion,
      execReplayTimerTimeout, execL0pNarrow, execL0pWiden, execAspmL1Entry, execDataLinkUp, execIdeKmMessage, execLockInterfaceRequest,
      execStopInterfaceRequest, execRoomResetDrainEnd, execRoomSaveDrained, execScrubPass, execMarchRunEnd, execImageReady,
      execTrialTimeout, execSpdmRequest, execLineMessageDeliver, execLendAccept, execHitchGrant, execLhReadyChange, execIslandAdopt,
      execGenAck, execCommitStallTimeout, execGenerationRetire, execTelemetryVisit, execWakeAtTimer, execDeadlineTimeout, execParkWake,
      execLadderDescend, execHibernateTimer, execPmeTurnOff, execPowerGroupTimeout, execPwrGoodFall, execPowerRetry, execColdStart,
      execVsbDipStart, execVsbDipEnd, execBrownoutRelease, execImageSectionLoaded, execAvsCurrentRead, execThermalSample,
      execThermtripRelease, execPerstAssert, execHotReset, execPcieLinkDown, execCodeRegionCheck, execCodeReloadEnd,
      execCoreRetireTimeout, execRcCounterRead, execBarBadAccess, execSchedRelease, execProgressEvent, execPeriodBoundary,
      execApplyOffset, execFrontdoorCtrlWrite, execFrontdoorDoorbell, execRingDoorbell, execEventRingDoorbell, execOwnerDoorbell,
      execOwnerEventOverflowAck, execMboxDoorbell, execStartInterfaceRequest, execRegisterWrite, execServicePacket,
      execPldmSensorUpdate, execJtagDebugAccess]
    repeat' with_reducible first | exact .next _ | refine .ite ?_ ?_ | split

theorem answers_exec (i : Instr) (s : State) : Answers (exec i s) := by
  cases hd : drekoFields i with
  | some f =>
    obtain ⟨body, h⟩ := exec_dreko (x := f.1) (w := f.2) hd
    rw [h]
    exact answers_issue _ _ _ _
  | none =>
    cases hc : commandRow i with
    | some f => exact ⟨_, exec_commandRow (p := f.1) (c := f.2) hc s⟩
    | none => exact answers_event hd hc s

/-- Settles O2: an instruction issues, a command is accepted, and an event or an idle tick ends in a state. -/
theorem noCommandStops : Obligations.NoCommandStops := by
  unfold Obligations.NoCommandStops
  refine ⟨answers_exec, fun s => ?_⟩
  unfold step
  split
  · exact answers_exec _ _
  · exact ⟨_, rfl⟩

/-- Settles O1: a step matches on the queue, whose front is the command. -/
theorem stepIsExec : Obligations.StepIsExec := by
  unfold Obligations.StepIsExec
  exact fun c cs s => rfl

end Sys2Proof.Machine

/-!
PROOFS. Epochs, knots and the journal: what `Obligations.KnotEvents` is assembled from.
-/

namespace Sys2Proof.Machine

/-! ## Bodies and places (R420, R421, R424) -/

theorem epochClose_idle {s : State} (h : s.store.rope.toBuild = none) : exec .epochClose s = .next s := by
  simp only [exec_epochClose, execEpochClose, h]

theorem epochClose_builds {s : State} {e : Epoch} (h : s.store.rope.toBuild = some e) : exec .epochClose s = .next (s.buildBody e) := by
  simp only [exec_epochClose, execEpochClose, h]

/-! ## Signing (R382, R384, R385, R427) -/

theorem knotSign_idle {s : State}
    (h : s.store.rope.closed.find? (fun e => decide (e.knot = [])) = none ∨ s.sr.sealCur = none) : exec .knotSign s = .next s := by
  rw [exec_knotSign, execKnotSign]
  rcases h with h | h
  · simp only [h]
  · simp only [h]
    cases s.store.rope.closed.find? fun e => decide (e.knot = []) <;> rfl

section
variable {s : State} {e : Epoch} {p : SealPair} (he : s.store.rope.closed.find? (fun e => decide (e.knot = [])) = some e)
  (hp : s.sr.sealCur = some p)
include he hp

theorem knotSign_waits (h : e.body = [] ∨ s.sr.dipFrozen = true ∨ (s.sr.debugLevel = 2 ∧ bit e.flags 2 = false)) :
    exec .knotSign s = .next s := by
  simp only [exec_knotSign, execKnotSign, he, hp, Bool.not_eq_true']
  exact if_pos h

theorem knotSign_signs (hb : e.body ≠ []) (hd : s.sr.dipFrozen = false) (hl : s.sr.debugLevel ≠ 2 ∨ bit e.flags 2 = true) :
    let q := (s.reserveLeaf p).1
    let a := (s.reserveLeaf p).2.secretBytes 5680
    let b := a.2.secretBytes 5680
    let knot := knotRecord e.body (hssSignature .sha256 q.leaf a.1) (hssSignature .shake256 q.leaf b.1)
    let u : State := { b.2 with sr := { b.2.sr with sealCur := some { q with leaf := q.leaf + 1 } } }
    exec .knotSign s = .next (u.setRope { u.store.rope.modify e.number (fun x => { x with knot := knot }) with
      prev := knot, pairs := notePair u.store.rope.pairs e.number (q.pk .sha256, q.pk .shake256) }).submitKnots := by
  intro q a b knot u
  simp only [exec_knotSign, execKnotSign, he, hp]
  refine if_neg ?_
  rw [hd]
  rintro (h | h | ⟨h2, hf⟩)
  · exact hb h
  · exact Bool.false_ne_true h
  · rcases hl with hl | hl
    · exact hl h2
    · rw [hl] at hf
      exact Bool.false_ne_true hf

end

/-! ## Publishing and keeping knots (R434 to R436, R442) -/

theorem knotPublish_idle {s : State} (h : s.store.rope.toPublish = none) : exec .knotPublish s = .next s := by
  simp only [exec_knotPublish, execKnotPublish, h]

section
variable {s : State} {e : Epoch} (h : s.store.rope.toPublish = some e)
include h

theorem knotPublish_publishes (hk : e.kind ≠ 3) :
    exec .knotPublish s = .next (s.publishKnot e).enterLevelTwo.endReplay.storeRetry := by
  simp only [exec_knotPublish, execKnotPublish, h, if_neg hk]

theorem knotPublish_hands_over (hk : e.kind = 3) :
    exec .knotPublish s = .next ((s.publishKnot e).endRunning 0x0803 0 .ok e.knot).enterLevelTwo.endReplay.storeRetry := by
  simp only [exec_knotPublish, execKnotPublish, h, if_pos hk]

end

theorem epochLogPersist_idle {s : State} (h : s.store.rope.knots.find? (fun k => !k.persisted) = none) :
    exec .epochLogPersist s = .next s := by
  simp only [exec_epochLogPersist, execEpochLogPersist, h]

theorem epochLogPersist_keeps {s : State} {k : Knot} (h : s.store.rope.knots.find? (fun k => !k.persisted) = some k) :
    let log := if logMatches k.rec' k.log then k.log else s.recordsOfEpoch k.epoch
    let u := s.keepKnot k log
    exec .epochLogPersist s = .next (u.setRope { u.store.rope with knots := u.store.rope.knots.map fun x =>
      if x.epoch = k.epoch then { x with log := log, persisted := true } else x }).releaseEntries := by
  simp only [exec_epochLogPersist, execEpochLogPersist, h]

/-! ## Journal blocks and checkpoints (R491, R492, R496, R497) -/

theorem journalBlockSubmit_idle {s : State} (h : s.store.queueSince = none) : exec .journalBlockSubmit s = .next s := by
  simp only [exec_journalBlockSubmit, execJournalBlockSubmit, h]

section
variable {s : State} {t : Nat} (h : s.store.queueSince = some t)
include h

theorem journalBlockSubmit_submits (hq : s.store.queue ≠ []) (hj : s.store.journal ≠ []) (hd : s.blockFull = true ∨ t + 2000 ≤ s.clock) :
    exec .journalBlockSubmit s = .next s.submitBlock := by
  simp only [exec_journalBlockSubmit, execJournalBlockSubmit, h]
  exact if_pos ⟨hq, hj, hd⟩

theorem journalBlockSubmit_waits
    (hw : s.store.queue = [] ∨ s.store.journal = [] ∨ (s.blockFull = false ∧ s.clock < t + 2000)) :
    exec .journalBlockSubmit s = .next s := by
  simp only [exec_journalBlockSubmit, execJournalBlockSubmit, h]
  refine if_neg ?_
  rintro ⟨hq, hj, hd⟩
  rcases hw with hw | hw | ⟨hf, hc⟩
  · exact hq hw
  · exact hj hw
  · rcases hd with hd | hd
    · rw [hd] at hf
      exact Bool.noConfusion hf
    · exact absurd hd (Nat.not_le.mpr hc)

end

theorem journalResync_idle {s : State} (h : s.store.resync = false) : exec .journalResync s = .next s := by
  simp only [exec_journalResync, execJournalResync, h, Bool.not_false, if_true]

theorem journalResync_validates {s : State} (h : s.store.resync = true) :
    exec .journalResync s = .next (State.submitKnots { s with store := { s.store with
      resync := false
      blocks := s.store.blocks.map (fun (b : JBlock) => if b.failed then b else { b with valid := s.store.journal }) } }).storeRetry := by
  simp only [exec_journalResync, execJournalResync, h, Bool.not_true, Bool.false_eq_true, if_false]

/-! ## Epochs, knots and the journal -/

/-- Settles O48: each clause is the lemma about the branch that its hypotheses select. -/
theorem knotEvents : Obligations.KnotEvents := by
  unfold Obligations.KnotEvents
  exact fun s => ⟨epochClose_idle, fun e => epochClose_builds, rfl,
    ⟨knotSign_idle, fun e p he hp => ⟨knotSign_waits he hp, knotSign_signs he hp⟩⟩,
    knotPublish_idle, fun e h => ⟨knotPublish_publishes h, knotPublish_hands_over h⟩,
    epochLogPersist_idle, fun k => epochLogPersist_keeps,
    journalBlockSubmit_idle, fun t h => ⟨journalBlockSubmit_submits h, journalBlockSubmit_waits h⟩,
    rfl, journalResync_idle, journalResync_validates⟩

end Sys2Proof.Machine

/-!
PROOFS. Drives and the descriptors of storage rings: what `Obligations.DriveEvents` is assembled from.
-/

namespace Sys2Proof.Machine

/-! ## Events for a drive that is not there (R474) -/

theorem driveEvents_of_absent {s : State} {drive : Fin 64} (h : s.drive drive.val = none) (id status : Nat) (data : List Byte)
    (warning : BitVec 8) (addr len : Nat) (posted : Bool) :
    exec (.driveCompletion drive id status data) s = .next s ∧ exec (.driveCmdTimeout drive id) s = .next s ∧
    exec (.controllerReset drive) s = .next s ∧ exec (.controllerReadyTimeout drive) s = .next s ∧
    exec (.driveRemoval drive) s = .next s ∧ exec (.driveAsyncEvent drive warning) s = .next s ∧
    exec (.driveInboundRequest drive addr len posted) s = .next s := by
  simp only [exec_driveCompletion, execDriveCompletion, exec_driveCmdTimeout, execDriveCmdTimeout, exec_controllerReset,
    execControllerReset, exec_controllerReadyTimeout, execControllerReadyTimeout, exec_driveRemoval, execDriveRemoval,
    exec_driveAsyncEvent, execDriveAsyncEvent, exec_driveInboundRequest, execDriveInboundRequest, h, and_self]

/-! ## Events for a drive that is there -/

/-- Counting a transfer in a drive's window (R450) leaves the drive the one it is. -/
theorem Drive.account_serial (x : Drive) (now bytes : Nat) (foreground : Bool) : (x.account now bytes foreground).serial = x.serial := by
  simp only [Drive.account, apply_ite Drive.serial, ite_self]

/-- A command is still outstanding 1 s after its abort (R480). -/
def Drive.stuck (x : Drive) (now : Nat) : Bool :=
  x.cmds.any fun c => match c.aborted with | some t => decide (t + 1000000000 ≤ now) | none => false

/-- An inbound request lies inside a buffer of an outstanding command (R475). -/
def Drive.reaches (x : Drive) (addr len : Nat) : Bool :=
  x.cmds.any fun c => decide (c.buf ≤ addr) && decide (addr + len ≤ c.buf + 4096 * c.blocks)

section
variable {s : State} {drive : Fin 64} {x : Drive} (h : s.drive drive.val = some x)
include h

/-! ### Completions and timeouts (R476, R480) -/

theorem driveCommand_absent {id : Nat} (hc : x.cmds.find? (fun c => decide (c.id = id)) = none) (status : Nat) (data : List Byte) :
    exec (.driveCompletion drive id status data) s = .next s ∧ exec (.driveCmdTimeout drive id) s = .next s := by
  simp only [exec_driveCompletion, execDriveCompletion, exec_driveCmdTimeout, execDriveCmdTimeout, h, hc, and_self]

section
variable {id : Nat} {c : DriveCmd} (hc : x.cmds.find? (fun c => decide (c.id = id)) = some c)
include hc

theorem driveCompletion_ends (status : Nat) (data : List Byte) :
    let y : Drive := { x with cmds := x.cmds.filter fun d => decide (d.id ≠ id), resetAt := none }
    exec (.driveCompletion drive id status data) s =
      .next ((((s.setDrive drive.val (y.account s.clock (4096 * c.blocks) (s.foreground c.use))).driveMessage id).cmdEnd x.serial c.use
        (decide (status = 0)) status (fit data (if c.write then 0 else 4096 * c.blocks))).storeRetry) := by
  simp only [exec_driveCompletion, execDriveCompletion, h, hc, Drive.account_serial]

theorem driveCmdTimeout_early (hw : c.aborted.isSome = true ∨ s.clock < c.issued + s.store.timeoutMs * 1000000) :
    exec (.driveCmdTimeout drive id) s = .next s := by
  simp only [exec_driveCmdTimeout, execDriveCmdTimeout, h, hc, if_pos hw]

theorem driveCmdTimeout_aborts (ha : c.aborted = none) (hl : c.issued + s.store.timeoutMs * 1000000 ≤ s.clock) :
    let ts := (x.timeouts.filter fun t => decide (s.clock < t + 60000000000)) ++ [s.clock]
    let y : Drive := { x with
      timeouts := ts, cmds := x.cmds.map fun d => if d.id = id then { d with aborted := some s.clock } else d }
    let u := ((s.setDrive drive.val y).bump R.DRV_CMD_TIMEOUT).emit (.drive drive.val id 0x108 0 0 [])
    exec (.driveCmdTimeout drive id) s = .next (if 3 ≤ ts.length then u.loseDrive drive.val else u) := by
  have hgo : ¬ (c.aborted.isSome = true ∨ s.clock < c.issued + s.store.timeoutMs * 1000000) := by
    simp [ha, hl]
  simp only [exec_driveCmdTimeout, execDriveCmdTimeout, h, hc, if_neg hgo, ge_iff_le]

end

/-! ### Controllers (R480) -/

theorem controllerReset_resets (hs : x.stuck s.clock = true) : exec (.controllerReset drive) s =
    .next ((((s.setDrive drive.val { x with
      cmds := [], resetAt := some s.clock, sanitizing := false }).bump R.DRV_CTRL_RESET).cmdsFail x).storeRetry) := by
  simp only [exec_controllerReset, execControllerReset, h]
  exact if_pos hs

theorem controllerReset_idle (hs : x.stuck s.clock = false) : exec (.controllerReset drive) s = .next s := by
  simp only [exec_controllerReset, execControllerReset, h]
  exact if_neg (ne_true_of_eq_false hs)

theorem controllerReadyTimeout_of_reset {t : Nat} (ht : x.resetAt = some t) : exec (.controllerReadyTimeout drive) s =
    .next (if t + 10000000000 ≤ s.clock then s.loseDrive drive.val else s) := by
  simp only [exec_controllerReadyTimeout, execControllerReadyTimeout, h, ht]

theorem controllerReadyTimeout_idle (ht : x.resetAt = none) : exec (.controllerReadyTimeout drive) s = .next s := by
  simp only [exec_controllerReadyTimeout, execControllerReadyTimeout, h, ht]

/-! ### Removal, asynchronous events and inbound requests (R475, R477, R479) -/

theorem driveRemoval_erases : ∃ u, exec (.driveRemoval drive) s = .next u ∧
    u.store.drives = Tbl.erase drive.val (s.loseDrive drive.val).store.drives := by
  simp only [exec_driveRemoval, execDriveRemoval, h]
  exact ⟨_, rfl, rfl⟩

theorem driveAsyncEvent_notes (warning : BitVec 8) :
    let u := (s.setDrive drive.val { x with critical := warning.toNat }).emit (.drive drive.val 0 0x102 0 0 [])
    exec (.driveAsyncEvent drive warning) s = .next (if warning.getLsbD 3 = true ∨
      (s.store.journal.contains x.serial = true ∧ warning.getLsbD 4 = true) then u.loseDrive drive.val else u) := by
  simp only [exec_driveAsyncEvent, execDriveAsyncEvent, h]
  rfl

theorem driveInboundRequest_inside {addr len : Nat} (hi : x.reaches addr len = true) (posted : Bool) :
    exec (.driveInboundRequest drive addr len posted) s = .next s := by
  simp only [exec_driveInboundRequest, execDriveInboundRequest, h]
  exact if_pos hi

theorem driveInboundRequest_outside {addr len : Nat} (hi : x.reaches addr len = false) (posted : Bool) :
    exec (.driveInboundRequest drive addr len posted) s = .next (if posted = true then s.bump R.DRV_INBOUND_REFUSED
      else (s.bump R.DRV_INBOUND_REFUSED).emit (.drive drive.val 0 0x200 0 0 [])) := by
  simp only [exec_driveInboundRequest, execDriveInboundRequest, h]
  exact if_neg (ne_true_of_eq_false hi)

end

/-! ## Enumeration and hot-plug (R474, R478) -/

theorem driveHotAdd_known {s : State} {info : DriveInfo} (h : ∃ e ∈ s.store.drives, e.2.serial = fit info.serial 20) :
    exec (.driveHotAdd info) s = .next s := by
  refine if_pos (List.any_eq_true.mpr ?_)
  simpa using h

theorem driveHotAdd_adds {s : State} {info : DriveInfo} (h : ∀ e ∈ s.store.drives, e.2.serial ≠ fit info.serial 20) :
    exec (.driveHotAdd info) s = .next (s.addDrive info true) := by
  refine if_neg fun hany => ?_
  obtain ⟨e, he, heq⟩ := List.any_eq_true.mp hany
  exact h e he (of_decide_eq_true heq)

/-! ## Descriptors of storage rings (R142, R498 to R502) -/

/-- Each row of a storage descriptor fetches descriptors of its type. -/
theorem exec_storeRow {ref type : Nat} {i : Instr} (h : (type, i) ∈ [(0x0301, Instr.storeWrite ref), (0x0302, .storeRead ref),
    (0x0303, .storeFlush ref), (0x0304, .storeDeallocate ref), (0x0305, .storeVerify ref)]) (s : State) :
    exec i s = .next (s.storeFetch ref type) := by
  simp only [List.mem_cons, List.not_mem_nil, or_false, Prod.mk.injEq] at h
  rcases h with ⟨rfl, rfl⟩ | ⟨rfl, rfl⟩ | ⟨rfl, rfl⟩ | ⟨rfl, rfl⟩ | ⟨rfl, rfl⟩ <;> rfl

section
variable {s : State} {ref : Nat}

theorem State.storeFetch_refused {type : Nat} (h : refKind ref ≠ 2 ∨ 65536 ≤ s.store.ops.length) : s.storeFetch ref type = s :=
  if_pos h

section
variable (hk : refKind ref = 2) (hl : s.store.ops.length < 65536)
include hk hl

theorem State.storeFetch_waits {type : Nat} (hf : s.fetchGranted ref = none) : s.storeFetch ref type = s.askEntry ref := by
  have hgo : ¬ (refKind ref ≠ 2 ∨ s.store.ops.length ≥ 65536) := by omega
  simp only [State.storeFetch, if_neg hgo, hf]

variable {type index : Nat} {pass : Bool} {d : List Byte} {u : State} (hf : s.fetchGranted ref = some (index, pass, d, u))
include hf

theorem State.storeFetch_of_granted : s.storeFetch ref type =
    if fld d 0 2 = type ∨ ¬ (0x0301 ≤ fld d 0 2 ∧ fld d 0 2 ≤ 0x0305) then
      u.workId.2.takeStore ref (Entry.fresh u.workId.1 index pass d) else s := by
  have hgo : ¬ (refKind ref ≠ 2 ∨ s.store.ops.length ≥ 65536) := by omega
  simp only [State.storeFetch, if_neg hgo, hf, Bool.not_eq_true', decide_eq_false_iff_not]

/-- A ring takes the descriptor of the command's own type, and one of no storage type, which is then refused. -/
theorem State.storeFetch_takes (h : fld d 0 2 = type ∨ fld d 0 2 < 0x0301 ∨ 0x0305 < fld d 0 2) :
    s.storeFetch ref type = u.workId.2.takeStore ref (Entry.fresh u.workId.1 index pass d) :=
  (State.storeFetch_of_granted hk hl hf).trans (if_pos (by omega))

/-- A descriptor of another storage type waits for its own command. -/
theorem State.storeFetch_leaves (h : fld d 0 2 ≠ type) (hlow : 0x0301 ≤ fld d 0 2) (hhigh : fld d 0 2 ≤ 0x0305) :
    s.storeFetch ref type = s :=
  (State.storeFetch_of_granted hk hl hf).trans (if_neg (by omega))

end

theorem State.takeStore_malformed {e : Entry} (h : storeDescOk e.desc = false) :
    s.takeStore ref e = s.badDesc ref e (storeCompletion e.desc .invalidParam false 0 0 0 0) := by
  simp only [State.takeStore, h, Bool.not_false, if_true]

theorem State.takeStore_flush {e : Entry} (h : storeDescOk e.desc = true) (hf : fld e.desc 0 2 = 0x0303) :
    s.takeStore ref e = (s.addWork ref e).endFlushes ref 64 := by
  simp only [State.takeStore, h, Bool.not_true, Bool.false_eq_true, if_false, if_pos hf]

end

/-! ## Storage descriptors and drives -/

/-- Settles O49: each clause is the lemma about the event, or about what fetching does with the descriptor that it finds. -/
theorem driveEvents : Obligations.DriveEvents := by
  unfold Obligations.DriveEvents
  refine ⟨fun s drive id status data warning addr len posted found info =>
      ⟨fun h => driveEvents_of_absent h id status data warning addr len posted,
      fun x h => ⟨fun hc => driveCommand_absent h hc status data,
        fun c hc => ⟨driveCompletion_ends h hc status data, driveCmdTimeout_early h hc, fun ha hl =>
          ⟨fun h3 => (driveCmdTimeout_aborts h hc ha hl).trans (congrArg _ (if_pos h3)),
            fun h3 => (driveCmdTimeout_aborts h hc ha hl).trans (congrArg _ (if_neg (Nat.not_le.mpr h3)))⟩⟩,
        ⟨controllerReset_resets h, controllerReset_idle h⟩,
        fun t ht => ⟨fun hl => (controllerReadyTimeout_of_reset h ht).trans (congrArg _ (if_pos hl)),
          fun hl => (controllerReadyTimeout_of_reset h ht).trans (congrArg _ (if_neg (Nat.not_le.mpr hl)))⟩,
        controllerReadyTimeout_idle h, driveRemoval_erases h,
        ⟨fun hg => (driveAsyncEvent_notes h warning).trans (congrArg _ (if_pos hg)),
          fun hg => (driveAsyncEvent_notes h warning).trans (congrArg _ (if_neg hg))⟩,
        fun hi => driveInboundRequest_inside h hi posted,
        fun hi => ⟨driveInboundRequest_outside h hi true, driveInboundRequest_outside h hi false⟩⟩,
      rfl, driveHotAdd_known, driveHotAdd_adds⟩,
    fun s ref => ⟨fun type i hi => ?_, fun e => State.takeStore_malformed, fun e => State.takeStore_flush⟩⟩
  rw [exec_storeRow hi]
  exact ⟨fun hk => congrArg _ (State.storeFetch_refused (.inl hk)), fun hl => congrArg _ (State.storeFetch_refused (.inr hl)),
    fun hk hl hf => congrArg _ (State.storeFetch_waits hk hl hf), fun index pass d u hk hl hf =>
      ⟨fun ht => congrArg _ (State.storeFetch_takes hk hl hf (.inl ht)),
        fun ht hlow hhigh => congrArg _ (State.storeFetch_leaves hk hl hf ht hlow hhigh),
        fun ht => congrArg _ (State.storeFetch_takes hk hl hf (.inr ht))⟩⟩

end Sys2Proof.Machine

/-!
PROOFS. Sparse memories, scrubbing and march runs: what `Obligations.MemoryRules` is assembled from.
-/

namespace Sys2Proof

/-! ## Tables in canonical form -/

section
variable {α : Type} (d : Nat → α)

theorem Tbl.get_filter_keep (p : Nat × α → Bool) (m : Tbl α) {k : Nat} (h : ∀ v, p (k, v) = true) :
    Tbl.get d (m.filter p) k = Tbl.get d m k := by
  induction m with
  | nil => rfl
  | cons e t ih =>
    obtain ⟨j, v⟩ := e
    by_cases hj : j = k
    · subst hj
      rw [List.filter_cons_of_pos (h v), Tbl.get, Tbl.get, if_pos rfl, if_pos rfl]
    · by_cases hp : p (j, v) = true
      · rw [List.filter_cons_of_pos hp, Tbl.get, Tbl.get, if_neg hj, if_neg hj, ih]
      · rw [List.filter_cons_of_neg hp, Tbl.get, if_neg hj, ih]

theorem Tbl.get_filter_drop (p : Nat × α → Bool) (m : Tbl α) {k : Nat} (h : ∀ v, p (k, v) = false) :
    Tbl.get d (m.filter p) k = d k := by
  induction m with
  | nil => rfl
  | cons e t ih =>
    obtain ⟨j, v⟩ := e
    by_cases hp : p (j, v) = true
    · have hj : j ≠ k := by
        rintro rfl
        exact Bool.false_ne_true ((h v).symm.trans hp)
      rw [List.filter_cons_of_pos hp, Tbl.get, if_neg hj, ih]
    · rw [List.filter_cons_of_neg hp, ih]

/-- A key at or below the bound of a rising table is unlisted. -/
theorem Tbl.get_of_le {m : Tbl α} {l k : Nat} (hr : Tbl.rising (some l) m = true) (hk : k ≤ l) : Tbl.get d m k = d k := by
  induction m generalizing l with
  | nil => rfl
  | cons e t ih =>
    obtain ⟨j, v⟩ := e
    rw [Tbl.rising_cons] at hr
    have hj : l < j := hr.1 l rfl
    rw [Tbl.get, if_neg (by omega), ih hr.2 (by omega)]

theorem Tbl.get_head (k : Nat) (v : α) (t : Tbl α) : Tbl.get d ((k, v) :: t) k = v := if_pos rfl

theorem Tbl.get_tail {k j : Nat} (v : α) (t : Tbl α) (h : k ≠ j) : Tbl.get d ((k, v) :: t) j = Tbl.get d t j := if_neg h

/-- Rising tables without entries equal to their default are equal when they read the same: each head is the least key that is listed. -/
theorem Tbl.ext_of_rising {lo lo' : Option Nat} {m m' : Tbl α} (hr : Tbl.rising lo m = true) (hr' : Tbl.rising lo' m' = true)
    (hd : ∀ e ∈ m, e.2 ≠ d e.1) (hd' : ∀ e ∈ m', e.2 ≠ d e.1) (h : ∀ k, Tbl.get d m k = Tbl.get d m' k) : m = m' := by
  induction m generalizing m' lo lo' with
  | nil =>
    cases m' with
    | nil => rfl
    | cons e' t' => exact absurd ((Tbl.get_head d ..).symm.trans (h e'.1).symm) (hd' e' (.head _))
  | cons e t ih =>
    cases m' with
    | nil => exact absurd ((Tbl.get_head d ..).symm.trans (h e.1)) (hd e (.head _))
    | cons e' t' =>
      obtain ⟨k, v⟩ := e
      obtain ⟨k', v'⟩ := e'
      rw [Tbl.rising_cons] at hr hr'
      have hv : v ≠ d k := hd (k, v) (.head _)
      have hv' : v' ≠ d k' := hd' (k', v') (.head _)
      obtain hlt | rfl | hlt := Nat.lt_trichotomy k k'
      · have hk := h k
        rw [Tbl.get_head, Tbl.get_tail d v' t' (by omega), Tbl.get_of_le d hr'.2 (by omega)] at hk
        exact absurd hk hv
      · obtain rfl : v = v' := by
          have hk := h k
          rwa [Tbl.get_head, Tbl.get_head] at hk
        have htail : t = t' := by
          refine ih hr.2 hr'.2 (fun e he => hd e (.tail _ he)) (fun e he => hd' e (.tail _ he)) fun j => ?_
          by_cases hj : k = j
          · rw [← hj, Tbl.get_of_le d hr.2 (Nat.le_refl k), Tbl.get_of_le d hr'.2 (Nat.le_refl k)]
          · have hk := h j
            rwa [Tbl.get_tail d v t hj, Tbl.get_tail d v t' hj] at hk
        rw [htail]
      · have hk := h k'
        rw [Tbl.get_head, Tbl.get_tail d v t (by omega), Tbl.get_of_le d hr.2 (by omega)] at hk
        exact absurd hk.symm hv'

theorem Tbl.ext_of_wf [DecidableEq α] {m m' : Tbl α} (hm : Tbl.wf d m = true) (hm' : Tbl.wf d m' = true)
    (h : ∀ k, Tbl.get d m k = Tbl.get d m' k) : m = m' := by
  unfold Tbl.wf at hm hm'
  rw [Bool.and_eq_true] at hm hm'
  exact Tbl.ext_of_rising d hm.1 hm'.1 (fun e he => of_decide_eq_true (List.all_eq_true.mp hm.2 e he))
    (fun e he => of_decide_eq_true (List.all_eq_true.mp hm'.2 e he)) h

end

/-! ## Zeroing memory -/

section
variable (m : Memory) {a n c : Nat}

theorem Memory.read_zero_outside (h : c < a ∨ a + n ≤ c) : Memory.read (Memory.zero m a n) c = Memory.read m c :=
  Tbl.get_filter_keep _ _ _ fun v => by simpa using h

theorem Memory.read_zero_inside (hlow : a ≤ c) (hhigh : c < a + n) : Memory.read (Memory.zero m a n) c = 0 :=
  Tbl.get_filter_drop _ _ _ fun v => by simp only [Bool.or_eq_false_iff, decide_eq_false_iff_not]; omega

end

end Sys2Proof

namespace Sys2Proof.Machine

/-! ## Host memory (R50, R61, R66) -/

theorem State.askPage_hostMem (s : State) (room : Option Nat) (page : Nat) : (s.askPage room page).hostMem = s.hostMem := by
  unfold State.askPage
  dsimp only
  split <;> rfl

theorem State.foldl_askPage_hostMem (room : Option Nat) (ps : List Nat) (s : State) :
    (ps.foldl (fun s p => s.askPage room p) s).hostMem = s.hostMem := by
  induction ps generalizing s with
  | nil => rfl
  | cons p ps ih => rw [List.foldl_cons, ih, State.askPage_hostMem]

/-- A posted write that leaves writes its bytes; one that is held writes nothing. -/
theorem State.wf_hostWrite {s : State} (w : HostWrite) (h : Memory.wf s.hostMem = true) : Memory.wf (s.hostWrite w).hostMem = true := by
  unfold State.hostWrite
  split
  · simp only [State.commitWrite, State.logDirty_hostMem, State.traffic, State.foldl_useTranslation_hostMem]
    exact Memory.wf_writeBytes _ _ h
  · rw [State.askRange, State.foldl_askPage_hostMem]
    exact h

/-! ## Scrubbing and zero fill (R528, R529, R531, R534) -/

theorem scrubPass_nothing (s : State) (addr : Nat) : exec (.scrubPass addr 0) s = .next s := rfl

theorem scrubPass_corrected (s : State) (addr : Nat) :
    exec (.scrubPass addr 1) s = .next (s.correctedNow (addr / wordSize addr * wordSize addr)) := rfl

/-- The state in which a word is noted as uncorrectable. -/
def State.notedBad (s : State) (a : Nat) : State :=
  State.noteUe { s with memory := { s.memory with bad := a :: s.memory.bad.filter fun b => decide (b ≠ a) } } a

theorem scrubPass_uncorrectable (s : State) (addr : Nat) :
    let a := addr / wordSize addr * wordSize addr
    exec (.scrubPass addr 2) s =
      .next ((if a < 0x100000000 then s.notedBad a else (s.notedBad a).remapUnit a).ueAction a) := rfl

theorem zeroFillChunk_fills (s : State) (chunk : Nat) :
    ∃ t, exec (.zeroFillChunk chunk) s = .next t ∧ chunk ∉ t.memory.unfilled ∧ t.mem = s.mem ∧
      ∀ c, c ≠ chunk → (c ∈ t.memory.unfilled ↔ c ∈ s.memory.unfilled) := by
  refine ⟨_, rfl, ?_, rfl, fun c hc => ?_⟩
  · simp
  · simp [hc]

/-! ## The end of a march run (R536, R541) -/

theorem marchRunEnd_idle {s : State} (h : s.memory.march = none) (faults : List Nat) (skipped : Nat) :
    exec (.marchRunEnd faults skipped) s = .next s := by
  simp only [exec_marchRunEnd, execMarchRunEnd, h]

/-- A run without faults logs and repairs nothing. -/
theorem marchRunEnd_clean {s : State} {m : March} (h : s.memory.march = some m) (skipped : Nat) :
    let z := s.marchZero m.params
    let u : State := { z with memory := { z.memory with march := none } }
    let w : State := if (u.marchRegions m.params).contains 3 then { u with cores := { u.cores with lhReady := true } } else u
    exec (.marchRunEnd [] skipped) s =
      .next (w.endRunning 0x0A00 0 .ok (leBytes (marchWords m.params skipped) 8 ++ leBytes 0 4 ++ leBytes 0 2 ++ leBytes skipped 2)) := by
  simp only [exec_marchRunEnd, execMarchRunEnd, h, List.foldl_nil, ite_self, List.map_nil, List.length_nil, Nat.sub_self,
    List.drop_length, List.filter_nil, List.append_nil, List.flatten_nil]

/-! ## Memory rules -/

/-- Settles O52: the laws of sparse memories, and for each event the lemma about the branch that its hypotheses select. -/
theorem memoryRules : Obligations.MemoryRules := by
  unfold Obligations.MemoryRules
  refine ⟨⟨fun m a c bs => ⟨Memory.readBytes_writeBytes m a bs, Memory.read_writeBytes_ne m a bs,
        fun n => ⟨Memory.read_zero_outside m, Memory.read_zero_inside m⟩,
        fun h => ⟨Memory.wf_writeBytes a bs h, fun n => Memory.wf_zero a n h⟩⟩,
      fun s space a bs stream relaxed => State.wf_hostWrite _, fun m m' hm hm' => Tbl.ext_of_wf memDefault hm hm',
      Memory.wf_empty, Memory.wf_empty⟩,
    fun s addr chunk skipped faults => ⟨⟨scrubPass_nothing s addr, scrubPass_corrected s addr,
        fun h => ?sram, fun h => ?gddr⟩, zeroFillChunk_fills s chunk, rfl, fun h => marchRunEnd_idle h faults skipped,
      fun m h => marchRunEnd_clean h skipped⟩⟩
  case sram =>
    rw [scrubPass_uncorrectable, if_pos h]
    rfl
  case gddr =>
    rw [scrubPass_uncorrectable, if_neg (Nat.not_lt.mpr h)]
    rfl

end Sys2Proof.Machine

/-!
PROOFS. Supplies, AVSBus and temperature: what `Obligations.SupplyEvents` is assembled from.
-/

namespace Sys2Proof.Machine

/-! ## Posting an event leaves the power unit alone (R145, R149, R152) -/

section
variable (s : State)

@[simp] theorem State.hostWrite_power (w : HostWrite) : (s.hostWrite w).power = s.power := by
  rw [(s.wrote_hostWrite w).frame]

@[simp] theorem State.writeMirror_power (ref work : Nat) : (s.writeMirror ref work).power = s.power := by
  unfold State.writeMirror
  split
  · rfl
  · exact s.hostWrite_power _

@[simp] theorem State.dropEvent_power (ref : Nat) : (s.dropEvent ref).power = s.power := by
  simp only [State.dropEvent, State.writeMirror_power, State.bump_power, State.setRing_power]

@[simp] theorem State.putEvent_power (ref type subject data : Nat) : (s.putEvent ref type subject data).power = s.power := by
  simp only [State.putEvent, State.writeEntry, State.writeMirror_power, State.setRing_power, State.hostWrite_power]

@[simp] theorem State.postEvent_power (ref type subject data : Nat) : (s.postEvent ref type subject data).1.power = s.power := by
  unfold State.postEvent
  dsimp only
  split
  · rfl
  · split
    · exact s.dropEvent_power ref
    · exact s.putEvent_power ref type subject data

@[simp] theorem State.dueVec_power (v : Nat) : (s.dueVec v).power = s.power := by
  unfold State.dueVec
  split
  · unfold State.wantPme
    split <;> rfl
  · rfl

@[simp] theorem State.postOwnerRing_power (ref type subject data : Nat) : (s.postOwnerRing ref type subject data).power = s.power := by
  simp only [State.postOwnerRing, apply_ite State.power, State.dueVec_power, State.postEvent_power, ite_self]

@[simp] theorem State.supply_power (sensor v : Nat) : (s.supply sensor v).power = s.power :=
  s.postOwnerRing_power _ _ _ _

end

/-! ## Supply groups (R556) -/

section
variable {s : State} {group : Fin 5}

theorem pwrGoodFall_fails (h : s.power.good.getLsbD group.val = true) :
    exec (.pwrGoodFall group) s = .next ((s.noteCause (some .mainPower)).groupFails group.val) := if_pos h

theorem pwrGoodFall_down (h : s.power.good.getLsbD group.val = false) : exec (.pwrGoodFall group) s = .next s :=
  if_neg (ne_true_of_eq_false h)

theorem powerGroupTimeout_idle (h : s.power.good.getLsbD group.val = true ∨ s.power.raising = none) :
    exec (.powerGroupTimeout group) s = .next s := by
  refine if_pos (h.imp_right fun hr => ?_)
  rw [hr]
  rfl

/-- A start that fails is retried once, 100 ms later. -/
theorem powerGroupTimeout_fails (h : s.power.good.getLsbD group.val = false) (hr : s.power.raising ≠ none) :
    let u := s.groupFails group.val
    exec (.powerGroupTimeout group) s = .next { u with power := { u.power with
      retried := true, retryAt := if s.power.retried then none else some (u.clock + 100000000) } } := by
  have hgo : ¬ (s.power.good.getLsbD group.val = true ∨ s.power.raising.isNone = true) := fun hc =>
    hc.elim (ne_true_of_eq_false h) fun hn => hr (Option.isNone_iff_eq_none.mp hn)
  simp only [exec_powerGroupTimeout, execPowerGroupTimeout, if_neg hgo, ite_bnot]

theorem powerRetry_idle (h : s.power.retryAt = none) : exec .powerRetry s = .next s := by
  simp only [exec_powerRetry, execPowerRetry, h]

section
variable {c : Nat} (h : s.power.retryAt = some c)
include h

theorem powerRetry_starts (hc : c ≤ s.clock) (ht : s.power.tripped = false) : exec .powerRetry s = .next { s with power := { s.power with
    retryAt := none, starting := true, raising := some (0, s.clock) } } := by
  simp only [exec_powerRetry, execPowerRetry, h, hc, ht, Bool.not_false, and_self, if_true]

theorem powerRetry_waits (hw : s.clock < c ∨ s.power.tripped = true) : exec .powerRetry s = .next s := by
  have hno : ¬ (c ≤ s.clock ∧ (!s.power.tripped) = true) := by
    rintro ⟨hc, ht⟩
    rcases hw with hw | hw
    · omega
    · simp [hw] at ht
  simp only [exec_powerRetry, execPowerRetry, h, if_neg hno]

end

/-! ## VSB and the start (R559, R562, R568) -/

theorem vsbFirstApply_starts (s : State) : ∃ t, exec .vsbFirstApply s = .next t ∧ t.regs = [] ∧ t.power.ladder = 6 ∧
    t.power.starting = true ∧ t.rooms = [] ∧ t.rings = [] ∧ t.memory.trainSaved = false ∧ t.power.raising = some (0, t.clock) :=
  ⟨_, rfl, rfl, rfl, rfl, rfl, rfl, rfl, rfl⟩

theorem coldStart_starts (b : Fin 4) (h : s.power.starting = true) : exec (.coldStart b) s = .next (s.coldStart b.val) := if_pos h

theorem coldStart_idle (b : Fin 4) (h : s.power.starting = false) : exec (.coldStart b) s = .next s :=
  if_neg (ne_true_of_eq_false h)

theorem vsbBrownout_holds (s : State) (mv : Nat) : ∃ t, exec (.vsbBrownout mv) s = .next t ∧ t.power.ladder = 6 ∧
    t.power.brownout = true ∧ t.power.good = 0 ∧ t.rooms = [] ∧ t.sr.dipFrozen = false ∧ t.power.vsb = decide (0 < mv) :=
  ⟨_, rfl, rfl, rfl, rfl, rfl, rfl, rfl⟩

theorem brownoutRelease_starts (h : s.power.brownout = true) : exec .brownoutRelease s = .next { s with power := { s.power with
    brownout := false, vsb := true, starting := true, raising := some (0, s.clock) } } := if_pos h

theorem brownoutRelease_idle (h : s.power.brownout = false) : exec .brownoutRelease s = .next s :=
  if_neg (ne_true_of_eq_false h)

/-! ## AVSBus (R557) -/

/-- A failed read is counted; the third in a row limits the clusters and sets AVS_FAIL. -/
theorem avsCurrentRead_fails (s : State) (amps : Nat) :
    let u : State := { s with power := { s.power with avsFails := s.power.avsFails + 1 } }
    exec (.avsCurrentRead false amps) s =
      .next (if 2 ≤ s.power.avsFails then (u.clusterMhz (min 2000)).setBits R.PWR_STATUS 0x20000 else u) := by
  simp only [exec_avsCurrentRead, execAvsCurrentRead, Bool.false_eq_true, if_false, ge_iff_le, Nat.succ_le_succ_iff]

/-! ## Temperature (R560, R561) -/

section
variable {island : Fin 18} {temp : BitVec 10} {watts : Nat}

theorem thermalSample_off (h : 5 ≤ s.power.ladder) : exec (.thermalSample island temp watts) s = .next s := if_pos h

theorem thermalSample_trips (h : s.power.ladder < 5) (ht : 230 ≤ temp.toNat) : exec (.thermalSample island temp watts) s =
    .next ((s.putBits R.THERMAL_STATUS 0x1F3FF0 (temp.toNat * 16 + island.val * 2 ^ 16)).thermTrip) :=
  (if_neg (Nat.not_le.mpr h)).trans (if_pos ht)

/-- A sample below the trip sets the flags that it and the power reading ask for; the events it posts leave them. -/
theorem thermalSample_flags (h : s.power.ladder < 5) (ht : temp.toNat < 230) :
    ∃ t, exec (.thermalSample island temp watts) s = .next t ∧
      t.power.crit = overTemp s.power.crit temp.toNat 210 ∧ t.power.warn = overTemp s.power.warn temp.toNat 200 ∧
      t.power.throttled = (overTemp s.power.throttled temp.toNat (2 * s.powerPolicy 0 0x0E 1 95) ||
        decide (s.powerPolicy 0 0x0C 2 240 < watts)) := by
  refine ⟨_, (if_neg (Nat.not_le.mpr h)).trans (if_neg (Nat.not_le.mpr ht)), ?_⟩
  simp only [apply_ite State.power, State.supply_power, ite_self, and_self]

end

theorem thermtripRelease_releases (h : s.power.tripped = true) : exec .thermtripRelease s =
    .next (State.setBits { s with power := { s.power with tripped := false } } R.THERMAL_STATUS 8) := if_pos h

theorem thermtripRelease_idle (h : s.power.tripped = false) : exec .thermtripRelease s = .next s :=
  if_neg (ne_true_of_eq_false h)

end

/-! ## Supplies, temperature and clocks -/

/-- Settles O54: each clause is the lemma about the branch that its hypotheses select. -/
theorem supplyEvents : Obligations.SupplyEvents := by
  unfold Obligations.SupplyEvents
  intro s group b island temp amps watts mv
  exact ⟨pwrGoodFall_fails, pwrGoodFall_down, powerGroupTimeout_idle, powerGroupTimeout_fails, powerRetry_idle,
    fun c h => ⟨powerRetry_starts h, powerRetry_waits h⟩, vsbFirstApply_starts s, coldStart_starts b, coldStart_idle b,
    vsbBrownout_holds s mv, brownoutRelease_starts, brownoutRelease_idle, rfl,
    ⟨fun h => (avsCurrentRead_fails s amps).trans (congrArg _ (if_neg (Nat.not_le.mpr h))),
      fun h => (avsCurrentRead_fails s amps).trans (congrArg _ (if_pos h))⟩,
    thermalSample_off, fun h ht => ⟨thermalSample_trips h ht, fun u => ⟨rfl, rfl⟩⟩, thermalSample_flags,
    thermtripRelease_releases, thermtripRelease_idle⟩

end Sys2Proof.Machine
